-- ==== Sys2Proof/Word.lean ====
section
/-!
DEFINITION. Word.lean: the word and byte types of the configuration space and the packages, and their plainest
arithmetic (bit fields of a word, saturating counts, byte order).
-/
set_option autoImplicit false

namespace Sys2Proof

/-- A register of configuration space is 32 bits wide (R3). -/
abbrev Word := BitVec 32

/-- One byte. -/
abbrev Byte := BitVec 8

/-- Bits hi..lo of a word as a number. -/
def Word.bits (w : Word) (hi lo : Nat) : Nat := w.toNat / 2 ^ lo % 2 ^ (hi + 1 - lo)

/-- The word with bits hi..lo replaced by the low bits of v. -/
def Word.withBits (w : Word) (hi lo v : Nat) : Word :=
  BitVec.ofNat 32 (w.toNat / 2 ^ (hi + 1) * 2 ^ (hi + 1) + v % 2 ^ (hi + 1 - lo) * 2 ^ lo + w.toNat % 2 ^ lo)

/-- Bit i of a number. -/
def natBit (n i : Nat) : Bool := n / 2 ^ i % 2 == 1

/-- A number with bit i set. -/
def natSetBit (n i : Nat) : Nat := if natBit n i then n else n + 2 ^ i

/-- A number with bit i cleared. -/
def natClearBit (n i : Nat) : Nat := if natBit n i then n - 2 ^ i else n

/-- The number of set bits among the low n bits. -/
def popCount (n w : Nat) : Nat := (List.range n).foldl (fun c i => if natBit w i then c + 1 else c) 0

/-- A count that stops at its largest value. -/
def satAdd (limit a b : Nat) : Nat := min limit (a + b)

/-- The number a two's-complement field of n bits holds. -/
def toSigned (n v : Nat) : Int := if v % 2 ^ n < 2 ^ (n - 1) then (v % 2 ^ n : Nat) else (v % 2 ^ n : Nat) - (2 ^ n : Nat)

/-- The two's-complement field of n bits of a number. -/
def ofSigned (n : Nat) (v : Int) : Nat := (v % (2 ^ n : Nat)).toNat

/-- The bytes of a number, most significant first. -/
def bytesBE (n v : Nat) : List Byte := (List.range n).map fun i => BitVec.ofNat 8 (v / 256 ^ (n - 1 - i))

/-- The number bytes spell, most significant first. -/
def ofBytesBE (l : List Byte) : Nat := l.foldl (fun a b => a * 256 + b.toNat) 0

/-- The bytes of a number, least significant first. -/
def bytesLE (n v : Nat) : List Byte := (List.range n).map fun i => BitVec.ofNat 8 (v / 256 ^ i)

/-- The number bytes spell, least significant first. -/
def ofBytesLE (l : List Byte) : Nat := l.foldr (fun b a => a * 256 + b.toNat) 0

/-- Distinct natural numbers in rising order. -/
def insertSorted (n : Nat) : List Nat → List Nat
  | [] => [n]
  | a :: t => if n < a then n :: a :: t else if n = a then a :: t else a :: insertSorted n t

end Sys2Proof
end

