-- ==== Sys2Proof/Syntax.lean ====
section
/-!
DEFINITION. Syntax.lean: the commands the block takes (register accesses, protocol arrivals, pin and time events), one
constructor for each row of spec/opcode_table.json, with the operands each brings from outside.
-/
set_option autoImplicit false

namespace Sys2Proof

/-- A port P00 to P15. -/
abbrev Port := Fin 16
/-- A lane L000 to L127. -/
abbrev Lane := Fin 128
/-- A half-channel H000 to H127. -/
abbrev Hc := Fin 128
/-- A core die D00 to D15. -/
abbrev Die := Fin 16
/-- A monitored rail, in the order of PWR_SUPPLY.below: VDDC, VDDA, VDDH, VDDD, VPP, VAON. -/
abbrev Rail := Fin 6
/-- A temperature sensor, numbered as the node of the thermal model it sits in (R412). -/
abbrev Sensor := Fin 88
/-- A source code of a configuration access (R491). -/
abbrev Source := Fin 32
/-- A 24-bit byte address of configuration space (R3). -/
abbrev CfgAddr := Fin 16777216

/-- What the boot ROM reads of one firmware slot (R65, R459, R460): header fields, and the outcome of the reads, the hash and the
signature checks that the model does not compute. -/
structure BootSlot where
  /-- the flash answered -/
  readOk : Bool
  headerOk : Bool
  keyIndex : Nat
  /-- the digest of the public key equals the key hash at keyIndex -/
  hashOk : Bool
  sigOk : Bool
  revId : Nat
  rollback : Nat
  fwVersion : Nat
  /-- the words of the boot configuration block; none: bcb_offset is 0 -/
  config : Option (List Word)
  deriving DecidableEq, Repr

/-- A transaction header, field by field (R211). -/
structure Header where
  opcode : Nat
  fc : Nat
  panic : Bool
  tag : Nat
  src : Nat
  dst : Nat
  vn : Bool
  posted : Bool
  fence : Bool
  addr : Nat
  len : Nat
  rlen : Nat
  aux : Nat
  deriving DecidableEq, Repr

/-- A word of the OTP array with a copy that is not good at a read at two margins (R509, R513): region 0 to 7, or 8 for the control
rows. -/
structure OtpRead where
  region : Nat
  word : Nat
  goodA : Bool
  goodB : Bool
  deriving DecidableEq, Repr

/-- What programming a record came to (R515, R518): words that needed a redirection, by 2 * place + copy, and those whose spare failed
too. -/
structure OtpOutcome where
  redirect : List Nat
  stuck : List Nat
  deriving DecidableEq, Repr

/-- A finding of a self-test (R522, R525, R531, R533 to R537). -/
inductive Finding where
  /-- the LBIST signature differs -/
  | logic
  /-- rows at fault in the queue table, or in the timetable SRAM -/
  | queueSram (rows : Nat)
  | imageSram (rows : Nat)
  /-- a landing fault -/
  | landing (slice way : Nat)
  /-- a TSV path and its resistance in mΩ; 4095 and above open; a short reads as failed -/
  | tsv (index mohm : Nat) (short : Bool)
  /-- an ARRAY row with a bit in error -/
  | row (hc bank row : Nat)
  /-- a parcel of an ARRAY row whose save found errors, with the errors of the burst as pin and mask of its 64 beats (R531) -/
  | save (hc bank row pos : Nat) (errs : List (Nat × Nat))
  /-- a lane that fails its loopback -/
  | lane (lane : Nat)
  deriving DecidableEq, Repr

/-- What training, or a field retrain, of a half-channel came to (R343 to R348). -/
structure TrainOutcome where
  hc : Nat
  /-- the step that failed; 0 none -/
  failStep : Nat
  us : Nat
  /-- the WCK trim -/
  wck : Nat
  /-- DQ lines with their trims and eye as HC_DQ_DATA shows them -/
  dq : List (Nat × Word)
  /-- DQ lines, and CA lines of the channel, that newly failed and take a spare -/
  newDq : List Nat
  newCa : List Nat
  deriving DecidableEq, Repr

/-- What training of a core die came to (R338, R343, R344, R354). -/
structure DieOutcome where
  die : Nat
  ckTrim : Nat
  idOk : Bool
  mw4 : Nat
  seed : Nat
  deriving DecidableEq, Repr

/-- A sentinel read with corrected or uncorrectable symbols, and the parcels that the scrub of its bank finds in error: row, position
and the errors of the burst as pin and mask of the 64 beats (R357, R449, R450). -/
structure SentinelRead where
  /-- 32 * half-channel + bank -/
  bank : Nat
  symbols : Nat
  uncorrectable : Bool
  /-- corrected data differ from the pattern -/
  differs : Bool
  found : List (Nat × Nat × List (Nat × Nat))
  deriving DecidableEq, Repr

/-- What a PRBS checker counted on a lane since it was last read out (R115, R143): whether it holds lock, symbols compared, symbols in
error and bits in error. -/
structure LaneCount where
  locked : Bool
  symbols : Nat
  symErrs : Nat
  bitErrs : Nat
  deriving DecidableEq, Repr

/-- The commands and events the block takes, one constructor for each row of spec/opcode_table.json. -/
inductive Instr where
  /-- CROSSING_BOUNDARY (R8): The 80 ns master tick advances CROSS_CNT and the period phase and resolves everything placed at the boundary. -/
  | crossingBoundary
  /-- COMMIT_ARM (R15): The host sets GLB_COMMIT_CTRL.arm and the device accepts or refuses the target. -/
  | commitArm (src : Source)
  /-- COMMIT_CANCEL (R19): GLB_COMMIT_CTRL.cancel withdraws an armed commit before the ready sample. -/
  | commitCancel (src : Source)
  /-- COMMIT_DISCARD (R19): GLB_COMMIT_CTRL.discard resets all shadows to live values when nothing is armed. -/
  | commitDiscard (src : Source)
  /-- PREPARE (R16): At boundary n-2 the commit controller issues PREPARE and units preload. -/
  | prepare
  /-- READY_SAMPLE (R16): In cycle 90 of crossing n-1 every unit's ready vote is sampled and the decision broadcast. -/
  | readySample
  /-- COMMIT_SWITCH (R17): At boundary n all staged values become live, or none do, and the outcome is recorded. -/
  | commitSwitch
  /-- STAGED_FIELD_WRITE (R12): A write to a staged field goes to its shadow and leaves the live value unchanged. -/
  | stagedFieldWrite (src : Source) (addr : CfgAddr) (value : Word)
  /-- HARDWARE_COMMIT (R21): A device-decided change spanning units takes effect at the next boundary without a vote. -/
  | hardwareCommit
  /-- CFG_COMMIT_WINDOW_EXPIRY (R20): The 1024-crossing suspension after a switch ends without CFG_COMMIT and the check resumes. -/
  | cfgCommitWindowExpiry
  /-- VAON_POR_RISE (R72): VAON rising from below its POR level starts a cold reset. -/
  | vaonPorRise
  /-- VAON_POR_FALL (R82): VAON falling below POR loses all state; the next start is cold. -/
  | vaonPorFall
  /-- SEQUENCE_VIOLATION (R45): Rails applied out of order are recorded by the always-on domain for E323 at the next START. -/
  | sequenceViolation
  /-- PWRGOOD_RISE (R55): PWRGOOD rising lets START proceed once RESET_N has been high for 1 ms. -/
  | pwrgoodRise
  /-- PWRGOOD_FALL (R55): PWRGOOD falling is treated as a reset level on every rail and runs the anchor sequence. -/
  | pwrgoodFall
  /-- RESET_N_RISE (R54): RESET_N rising samples NODEID and begins the 1 ms wait for START. -/
  | resetNRise (nodeid : Fin 64)
  /-- RESET_N_LOW (R72): RESET_N low for 10 us with PWRGOOD high is a warm reset trigger. -/
  | resetNLow
  /-- VQPS_PRESENT (R46): VQPS above 0.3 V for 1 s with no programming command raises E324. -/
  | vqpsPresent (mv : Nat)
  /-- RAIL_BELOW_WARNING (R452): A rail below its warning level for 160 ns begins or continues an excursion. -/
  | railBelowWarning (rail : Rail) (mv : Nat)
  /-- RESTORATION_START (R454): All rails above recovery for 100 us starts undoing the shedding steps. -/
  | restorationStart
  /-- SHED_UNDO (R454): Every 16 crossings during restoration one shedding step is undone. -/
  | shedUndo
  /-- RAIL_RESET_LEVEL (R456): A rail at its reset level for 40 ns triggers the anchor sequence and a warm reset. -/
  | railResetLevel (rail : Rail) (mv : Nat)
  /-- ANCHOR_END (R77): At 2 us unconfirmed dies are recorded and base-die logic reset is asserted. -/
  | anchorEnd (confirmed : Fin 65536)
  /-- WARM_START_DELAY (R73): START begins 10 us after the anchor sequence ends for non-pin warm resets. -/
  | warmStartDelay
  /-- START_BEGIN (R61): RESET_N high 1 ms with PWRGOOD high starts the START sequence at ARM. -/
  | startBegin
  /-- ARM (R61): Supply monitors armed, PLLs locked, NODEID sampled; CROSS_CNT starts at 0. -/
  | arm (plls : Fin 256)
  /-- FUSE (R509): Every OTP word is read at two margins, twins compared and redirection applied. -/
  | fuse (bad : List OtpRead) (incomplete : List Nat)
  /-- BOOT (R65): The boot ROM loads and verifies a firmware slot from flash. -/
  | boot (slot0 : BootSlot) (slot1 : BootSlot)
  /-- SELFTEST (R523): The short or full self-test runs and its findings are applied.  `ledger`: 0 no copy valid, 1 the newest valid, 2 one that
  cannot be read or whose CRC fails. -/
  | selftest (ledger : Fin 3) (findings : List Finding)
  /-- TRAIN (R343): Clock, TSV, CA, WCK, read, write, repair and verify training runs on all half-channels. -/
  | train (outcomes : List TrainOutcome) (dies : List DieOutcome)
  /-- INIT (R67): Memory is filled, valid maps cleared or PRESERVED sentinels checked. -/
  | init (bad : List SentinelRead) (us : Nat)
  /-- WARMUP (R61): Below -20 C refresh and fill writes heat the stack before release. -/
  | warmup (reached : Bool)
  /-- RELEASE (R71): At a boundary multiple of 16, CROSS_CNT resets, the default image loads and memory opens. -/
  | release (us : Nat)
  /-- RESET_CTRL_WARM (R72): A paired write of GLB_RESET_CTRL kind warm requests a warm reset. -/
  | resetCtrlWarm (src : Source) (flush : Bool)
  /-- RESET_CTRL_BASE_DIE_ONLY (R72): A paired write of kind base-die-only restarts the data path from SELFTEST. -/
  | resetCtrlBaseDieOnly (src : Source) (flush : Bool)
  /-- RESET_CTRL_PORT_ONLY (R79): A paired write of kind port-only returns the named port to S1. -/
  | resetCtrlPortOnly (src : Source) (port : Port)
  /-- RESET_DRAIN_DONE (R80): A flushed reset's drain ends and the anchor sequence runs. -/
  | resetDrainDone
  /-- RESET_REQUEST_BEGIN (R81): An in-band reset begins after its completion is acknowledged or 2 us pass. -/
  | resetRequestBegin
  /-- PAIR_WINDOW_EXPIRY (R496): A pending PW value whose complement does not arrive within 64 cycles is discarded. -/
  | pairWindowExpiry (addr : CfgAddr)
  /-- PLL_UNLOCK (R87): A PLL losing lock returns every lane it clocks to S1. -/
  | pllUnlock (pll : Fin 8)
  /-- PLL_LOCK (R87): A PLL of a quadrant locks and its ports may leave S0. -/
  | pllLock (pll : Fin 8)
  /-- TX_APPLY_GO (R91): The host sets LANE_TX_APPLY.go to apply FIR and swing at the next boundary. -/
  | txApplyGo (src : Source) (lane : Lane)
  /-- TOW_SHAPE_WRITE (R96): A towpath shaping coefficient written takes effect at the next boundary. -/
  | towShapeWrite (src : Source) (lane : Lane) (value : Word)
  /-- MASK_WINDOW_END (R99): A spectral mask window of a lane ends and is compared against the mask. -/
  | maskWindowEnd (lane : Lane) (levels : List Nat)
  /-- LOS_ASSERT (R107): Received amplitude below threshold for 1 us asserts los. -/
  | losAssert (lane : Lane) (amp : Nat)
  /-- LOS_DEASSERT (R107): Amplitude 20 mV above threshold for 10 us deasserts los. -/
  | losDeassert (lane : Lane) (amp : Nat)
  /-- CDR_UNLOCK (R106): The CDR loses lock and raises cdr_unlock. -/
  | cdrUnlock (lane : Lane)
  /-- ADAPT_RESTORE (R110): Divergence for 1 ms reloads the saved coefficients. -/
  | adaptRestore (lane : Lane) (snr : Nat)
  /-- COEFFICIENT_SAVE (R112): Every 2^20 crossings in S7 the lane record is saved to the always-on store. -/
  | coefficientSave (lane : Lane)
  /-- EQ_WRITE_GO (R113): LANE_EQ_WR.go writes one equaliser tap at the next boundary or refuses it. -/
  | eqWriteGo (src : Source) (lane : Lane) (value : Word)
  /-- PRBS_LOCK (R115): The checker takes lock after 32 matching symbols. -/
  | prbsLock (lane : Lane)
  /-- PRBS_LOCK_LOST (R115): 64 errors in 1024 symbols lose checker lock and re-seed it. -/
  | prbsLockLost (lane : Lane) (count : LaneCount)
  /-- PRBS_CLEAR (R116): LANE_PRBS_CTRL.clear clears the PRBS counters at the next boundary. -/
  | prbsClear (src : Source) (lane : Lane) (value : Word)
  /-- CLEAR_PREFEC (R117): LANE_CTRL.clear_prefec clears LANE_PREFEC_SYM at the next boundary. -/
  | clearPrefec (src : Source) (lane : Lane) (value : Word)
  /-- EYE_START (R118): LANE_EYE_CTRL.start begins an eye measurement or ends ABORTED. -/
  | eyeStart (src : Source) (lane : Lane) (value : Word)
  /-- EYE_DONE (R118): An eye measurement ends DONE or ABORTED. -/
  | eyeDone (lane : Lane) (aborted : Bool) (v0 : Word) (v1 : Word) (h : Word)
  /-- PORT_ENABLE (R128): PORT_CTRL.enable = 1 lets the port leave S0 for S1. -/
  | portEnable (src : Source) (port : Port) (value : Word)
  /-- PORT_DISABLE (R160): PORT_CTRL.enable = 0 takes the port to S0 at the next boundary. -/
  | portDisable (src : Source) (port : Port) (value : Word)
  /-- TEST_HOLD_SET (R159): PORT_CTRL.test_hold = 1 stops the port at S5 entry. -/
  | testHoldSet (src : Source) (port : Port) (value : Word)
  /-- TEST_HOLD_CLEAR (R159): Clearing test_hold sends QR_REQ and both sides quick-retrain. -/
  | testHoldClear (src : Source) (port : Port) (value : Word)
  /-- RETRAIN (R144): PORT_CTRL.retrain starts a quick retrain with cause HOST_REQUEST. -/
  | retrain (src : Source) (port : Port) (value : Word)
  /-- STEP_GO (R149): PORT_CTRL.step_go requests a speed step to step_gen. -/
  | stepGo (src : Source) (port : Port) (value : Word)
  /-- CAP_TIMER (R132): Every 1 ms in S1 the port sends CAP or SEL. -/
  | capTimer (port : Port)
  /-- CAP (R132): A peer CAP received in S1 begins an attempt and allows SEL computation. -/
  | cap (port : Port) (payload : List Byte)
  /-- SEL (R133): A peer SEL received is compared with the own SEL. -/
  | sel (port : Port) (payload : List Byte)
  /-- GO (R134): The peer's GO arrives and starts the stage timer of S2 or S5. -/
  | go (port : Port) (payload : List Byte)
  /-- GO_TIMEOUT (R134): No peer GO within 10 ms returns a granted port to S1. -/
  | goTimeout (port : Port)
  /-- LEDGER_RETRY (R135): After a refusal the port requests the ledger again after its retry interval. -/
  | ledgerRetry (port : Port)
  /-- NEGOTIATE_RESTART (R128): 100 ms after a negotiation failure the exchange restarts. -/
  | negotiateRestart (port : Port)
  /-- STAGE_TIMEOUT (R130): A stage that exceeds its maximum time fails and the port retries or falls. -/
  | stageTimeout (port : Port)
  /-- DEADLINE (R129): An attempt not in S7 after 150 ms falls to S1 with cause TIMEOUT. -/
  | deadline (port : Port)
  /-- TRAINING_FRAME (R138): A received training frame's control word carries tap requests and status. -/
  | trainingFrame (lane : Lane) (control : Word) (crc : Fin 65536) (inverted : Bool)
  /-- THRESHOLD_MET (R140): A lane's slicer SNR holds at its threshold for 1 ms. -/
  | thresholdMet (lane : Lane) (snr : Nat) (peak : Nat) (offset : Int)
  /-- LOCK_PAIR (R142): A received lock pair updates ready and countdown state. -/
  | lockPair (port : Port) (symbols : List Nat) (own : Bool) (skew : Nat)
  /-- PRBS_VERIFY_END (R143): The S5 dwell ends and the lanes pass or fail. -/
  | prbsVerifyEnd (port : Port) (lanes : List LaneCount)
  /-- QR_REQ (R145): A peer QR_REQ is answered and counts as the ACK of an own retrain. -/
  | qrReq (port : Port) (payload : List Byte)
  /-- QR_ACK (R145): The peer's QR_ACK lets the quick retrain reload coefficients. -/
  | qrAck (port : Port) (payload : List Byte)
  /-- QR_TIMEOUT (R145): No reply within 0.8 ms ends the quick retrain. -/
  | qrTimeout (port : Port)
  /-- STEP (R150): A peer STEP is answered STEP_ACK after the own ledger decision. -/
  | step (port : Port) (payload : List Byte)
  /-- STEP_ACK (R149): The peer's STEP_ACK lets the step proceed or refuses it. -/
  | stepAck (port : Port) (payload : List Byte)
  /-- DEGRADE_WINDOW (R158): A 1 ms window in S7 is judged degraded or clean. -/
  | degradeWindow (port : Port)
  /-- CODEWORD_DECODE (R153): An RS codeword is decoded and counted; uncorrectable flits are marked bad. -/
  | codewordDecode (port : Port) (received : List Nat)
  /-- INNER_BLOCK_DECODE (R155): An inner code block is decoded within the iteration limit. -/
  | innerBlockDecode (lane : Lane) (llr : List Int)
  /-- PORT_STATS_CLR (R116): PORT_STATS_CLR clears all port counters at the next boundary. -/
  | portStatsClr (src : Source) (port : Port)
  /-- FRAME_START (R169): A queued towpath frame starts after the silence gap in precedence order. -/
  | frameStart (port : Port)
  /-- FRAME_SENT (R169): A towpath frame finishes transmission. -/
  | frameSent (port : Port)
  /-- CODE_FOUND (R170): A Gold code with despread SNR of 3 dB is found and kept. -/
  | codeFound (port : Port) (code : Fin 16)
  /-- CODE_SEARCH_RESUME (R170): 64 bit periods without a hail resume the code search. -/
  | codeSearchResume (port : Port)
  /-- HAIL (R176): A detected hail word is assigned to a context or ignored. -/
  | hail (port : Port) (code : Fin 16) (soft : List Int)
  /-- HEADER_CHECK (R177): The decoder commits the header and judges its check. -/
  | headerCheck (port : Port) (soft : List Int)
  /-- FRAME_END (R178): A frame ends, its CRC-16 is checked and it is dispatched by type. -/
  | frameEnd (port : Port) (soft : List Int) (signals : List (Int × Int))
  /-- CODE_LOST (R172): 100 ms without a foreign frame releases the code lock. -/
  | codeLost (port : Port)
  /-- BEACON_TIMER (R182): Every beacon_int ms a beacon is queued. -/
  | beaconTimer (port : Port)
  /-- BEACON (R392): A received beacon is recorded as the port's neighbour. -/
  | beacon (port : Port) (payload : List Byte)
  /-- MGMT (R184): A received MGMT fragment is accepted, refused or answered busy or out of order. -/
  | mgmt (port : Port) (payload : List Byte)
  /-- MGMT_ACK (R184): A received MGMT_ACK lets the next fragment go or requests a resend. -/
  | mgmtAck (port : Port) (payload : List Byte)
  /-- MGMT_RESEND (R184): 3 ms without an acknowledgement resends the fragment. -/
  | mgmtResend (port : Port)
  /-- WAKE_GO (R185): PORT_TOW_WAKE.go starts the wake pattern for dur ms. -/
  | wakeGo (src : Source) (port : Port) (value : Word)
  /-- WAKE_PATTERN_END (R185): The wake pattern stops after dur ms or on a peer CAP. -/
  | wakePatternEnd (port : Port)
  /-- WAKE_DECLARED (R186): Four consecutive hail words declare a wake on the port. -/
  | wakeDeclared (port : Port)
  /-- NOISE_WINDOW (R181): An idle noise window ends and the lane noise floor is averaged. -/
  | noiseWindow (lane : Lane) (measured : Int)
  /-- PORT_TOW_CLR (R116): PORT_TOW_CLR clears the towpath counters. -/
  | portTowClr (src : Source) (port : Port)
  /-- FLIT_RECEIVED (R196): A received flit is checked and delivered, discarded or triggers a replay request. -/
  | flitReceived (port : Port) (bytes : List Byte) (startOk : Bool)
  /-- FLIT_SEND (R195): The sender emits a new DATA flit or an IDLE flit. -/
  | flitSend (port : Port)
  /-- ACK_TIMEOUT (R200): The oldest unacknowledged flit waits 1 us without ack progress and a replay starts. -/
  | ackTimeout (port : Port)
  /-- RREQ_REPEAT (R198): 1 us without delivery of the expected flit allows rreq again. -/
  | rreqRepeat (port : Port)
  /-- DELAY_TIMER (R224): 2 us without an answer sends a DELAY for the request. -/
  | delayTimer (port : Port) (source : Nat) (tag : Nat)
  /-- TRANSACTION_SEND (R228): A ready response, forwarded request or notice is sent when credits allow. -/
  | transactionSend (port : Port)
  /-- REQUEST_TABLE_ADMIT (R210): A VC0 request waiting for a table entry takes one when freed. -/
  | requestTableAdmit (port : Port)
  /-- CPL (R551): A received CPL is discarded or forwarded by its record. -/
  | cpl (port : Port) (header : Header) (data : List Byte)
  /-- NAK (R551): A received NAK is discarded or forwarded. -/
  | nak (port : Port) (header : Header) (data : List Byte)
  /-- DELAY (R551): A received DELAY is discarded or forwarded without releasing its record. -/
  | delay (port : Port) (header : Header) (data : List Byte)
  /-- EVT (R400): A received EVT notice is discarded and counted in UZ_UNEXPECTED. -/
  | evt (port : Port) (header : Header) (data : List Byte)
  /-- QSTATE (R400): A received QSTATE notice is discarded and counted. -/
  | qstate (port : Port) (header : Header) (data : List Byte)
  /-- UNKNOWN_OPCODE (R212): A request with an unknown opcode is answered NAK MALFORMED. -/
  | unknownOpcode (port : Port) (header : Header) (data : List Byte)
  /-- UZ_CLR (R116): UZ_CLR clears the link counters. -/
  | uzClr (src : Source) (port : Port)
  /-- RD (R238): A read returns rlen bytes from the landing or the stack. -/
  | rd (port : Port) (header : Header) (data : List Byte) (sram : List (Nat × Bool))
  /-- WR (R239): A write stores its bytes, whole parcels or by read-modify-write. -/
  | wr (port : Port) (header : Header) (data : List Byte) (sram : List (Nat × Bool))
  /-- WRM (R239): A masked write stores the data bytes selected by its mask. -/
  | wrm (port : Port) (header : Header) (data : List Byte) (sram : List (Nat × Bool))
  /-- ENQ (R253): A parcel is stored and appended to a queue, or refused. -/
  | enq (port : Port) (header : Header) (data : List Byte) (sram : List (Nat × Bool))
  /-- DEQ (R255): The head parcel is removed and returned. -/
  | deq (port : Port) (header : Header) (data : List Byte) (sram : List (Nat × Bool))
  /-- PEEK (R255): The head parcel is returned without removal. -/
  | peek (port : Port) (header : Header) (data : List Byte) (sram : List (Nat × Bool))
  /-- DROP (R258): Parcels are freed from the head by mode. -/
  | drop (port : Port) (header : Header) (data : List Byte) (sram : List (Nat × Bool))
  /-- MOVE (R259): Parcels are relinked from one queue's head to another's tail. -/
  | move (port : Port) (header : Header) (data : List Byte) (sram : List (Nat × Bool))
  /-- CNT_ADD (R263): Packet and byte counts of a pair are added to. -/
  | cntAdd (port : Port) (header : Header) (data : List Byte) (sram : List (Nat × Bool))
  /-- CNT_RDCLR (R264): A counter pair is returned and cleared in one step. -/
  | cntRdclr (port : Port) (header : Header) (data : List Byte) (sram : List (Nat × Bool))
  /-- FADD (R265): A signed addend is added to a word and old and new values returned. -/
  | fadd (port : Port) (header : Header) (data : List Byte) (sram : List (Nat × Bool))
  /-- CAS (R266): A word is swapped if it equals the compare value. -/
  | cas (port : Port) (header : Header) (data : List Byte) (sram : List (Nat × Bool))
  /-- METER (R269): A meter is brought up to date and colours a packet. -/
  | meter (port : Port) (header : Header) (data : List Byte) (sram : List (Nat × Bool))
  /-- CFG_RD (R212): Configuration registers are read in band. -/
  | cfgRd (port : Port) (header : Header) (data : List Byte)
  /-- CFG_WR (R222): Configuration registers are written in band. -/
  | cfgWr (port : Port) (header : Header) (data : List Byte)
  /-- MBX (R469): A mailbox request message is delivered in band. -/
  | mbx (port : Port) (header : Header) (data : List Byte)
  /-- POOL_REBUILT (R249): A pool rebuild ends and E230 is raised. -/
  | poolRebuilt (pool : Fin 16)
  /-- QIND_READ (R251): SVC_QIND_CTRL op READ copies a queue entry into SVC_QIND_Di. -/
  | qindRead (src : Source) (value : Word)
  /-- SET_PROFILE (R252): SVC_QIND_CTRL op SET_PROFILE changes a queue's profile or refuses BUSY. -/
  | setProfile (src : Source) (value : Word)
  /-- METER_SWEEP (R271): The meter sweep refreshes meters in open berths. -/
  | meterSweep
  /-- METER_SWEEP_LATE (R271): A sweep pass exceeding 2^28 crossings raises E232. -/
  | meterSweepLate
  /-- SVC_CLR (R116): SVC_CLR clears the memory services counters. -/
  | svcClr (src : Source)
  /-- BERTH (R277): A berth of a half-channel executes its timetable entry.  `errs` are the errors that a read returns: a data or check
  pin, and its 64 beats as a mask (R357). -/
  | berth (hc : Hc) (dropped : Bool) (errs : List (Nat × Nat))
  /-- SCHEDULER_INTAKE (R287): A request enters the scheduler queue and is judged against its envelope. -/
  | schedulerIntake (hc : Hc)
  /-- DYNAMIC_ADMIT (R308): Waiting dynamic requests are admitted round-robin as entries free up. -/
  | dynamicAdmit (hc : Hc)
  /-- TT_LOAD (R297): TT_LOAD_CTRL.go starts copying an image into STANDBY or STORM. -/
  | ttLoad (src : Source) (target : Bool)
  /-- TT_LOAD_DONE (R297): The image copy ends, validation result written and E240 raised. -/
  | ttLoadDone (bad : Bool)
  /-- STORM_EXIT (R300): With all demands withdrawn and the dwell passed, ACTIVE returns. -/
  | stormExit
  /-- CLASS_RESUME (R302): Suspended classes resume one every 16 crossings after demands end. -/
  | classResume
  /-- FORCE_STORM (R300): TT_CTRL.force_storm sets or withdraws the host STORM demand. -/
  | forceStorm (src : Source) (value : Word)
  /-- TT_CLR (R116): TT_CLR clears the timetable counters. -/
  | ttClr (src : Source)
  /-- MAP_CHECK (R327): HC_MAP_CTRL.go checks an edit set and stages it or reports the failure. -/
  | mapCheck (src : Source) (target : Bool)
  /-- HC_ARB_CLR (R116): HC_ARB_CLR clears the arbitration counters. -/
  | hcArbClr (src : Source)
  /-- CA_PARITY (R335): A dropped command read from MW13 is retried. -/
  | caParity (hc : Hc)
  /-- FIELD_RETRAIN (R346): A field retrain starts on a half-channel at the boundary after its trigger. -/
  | fieldRetrain (hc : Hc)
  /-- FIELD_RETRAIN_END (R346): A field retrain ends, passing or failing the half-channel. -/
  | fieldRetrainEnd (outcome : TrainOutcome)
  /-- TRACKING_PASS (R345): Every 2^20 crossings a drift tracking pass adjusts trims. -/
  | trackingPass (hc : Hc) (errors : Bool) (wckMove : Int) (dqMoves : List (Nat × Int))
  /-- HC_CTRL_RETRAIN (R346): HC_CTRL.retrain requests a field retrain with cause HOST. -/
  | hcCtrlRetrain (src : Source) (hc : Hc) (value : Word)
  /-- HC_REPAIR_GO (R350): HC_REPAIR_CTRL.go requests a row repair or refuses it. -/
  | hcRepairGo (src : Source) (hc : Hc)
  /-- REPAIR_RELEASE (R351): A row repair finishes its copies, enables the spare and releases held requests. -/
  | repairRelease (hc : Hc)
  /-- SELF_REFRESH_CONFIRM (R340): A die confirms self-refresh entry on the status path. -/
  | selfRefreshConfirm (die : Die)
  /-- DIE_HOT (R341): A die sensor crossing 85 or 95 C changes its own self-refresh rate. -/
  | dieHot (die : Die) (hot85 : Bool) (hot95 : Bool)
  /-- MW_COPY_REFRESH (R355): Every 2^14 crossings the controller refreshes its mode-word copies. -/
  | mwCopyRefresh (die : Die)
  /-- HC_CLR (R116): HC_CLR clears the half-channel counters. -/
  | hcClr (src : Source) (hc : Hc)
  /-- PIN_WINDOW_END (R361): A per-pin correction window ends and counts restart. -/
  | pinWindowEnd (hc : Hc)
  /-- SCRUB_LATE (R369): A pass lasting beyond pass_limit raises E212. -/
  | scrubLate (hc : Hc)
  /-- FILL_DONE (R365): A region fill or map clear ends and the region goes live. -/
  | fillDone
  /-- ECC_LOG_TAIL_WRITE (R370): A write to ECC_LOG_TAIL releases error log entries. -/
  | eccLogTailWrite (src : Source) (value : Word)
  /-- RETIRE_ROW (R371): ECC_RETIRE_CTRL.go with kind row retires a row. -/
  | retireRow (src : Source)
  /-- RETIRE_BANK (R371): ECC_RETIRE_CTRL.go with kind bank retires a bank by hardware commit. -/
  | retireBank (src : Source)
  /-- ECC_CLR (R116): ECC_CLR clears the ECC counters. -/
  | eccClr (src : Source)
  /-- FILL_ARRIVE (R381): A landing fill returns, allocates its line and serves waiting requests. -/
  | fillArrive
  /-- CLEANING (R383): A slice above wb_thr writes back one dirty line every 4 cycles. -/
  | cleaning (slice : Fin 32)
  /-- CLEAN (R386): LDG_OP_CTRL op CLEAN writes back dirty lines. -/
  | clean (src : Source) (value : Word)
  /-- INVALIDATE (R386): LDG_OP_CTRL op INVALIDATE cleans and invalidates lines. -/
  | invalidate (src : Source) (value : Word)
  /-- PRELOAD (R386): LDG_OP_CTRL op PRELOAD fills a pinned region. -/
  | preload (src : Source) (value : Word)
  /-- DISCARD (R386): LDG_OP_CTRL op DISCARD invalidates lines without write-back. -/
  | discard (src : Source) (value : Word)
  /-- FLUSH_DONE (R386): A landing operation ends and E256 is raised. -/
  | flushDone
  /-- LDG_CLR (R116): LDG_CLR clears the landing counters. -/
  | ldgClr (src : Source)
  /-- RECORD_EXPIRY (R399): A forwarding record whose output port spent 2.2 ms in S7 is released. -/
  | recordExpiry (port : Port) (source : Nat) (tag : Nat)
  /-- FAILOVER (R408): A triggered port is marked unusable and live sets recomputed. -/
  | failover (port : Port)
  /-- BEACON_MISS (R407): No beacon for beacon_miss intervals is a failover trigger. -/
  | beaconMiss (port : Port)
  /-- RESTORE (R409): After holddown a marked port becomes usable again. -/
  | restore (port : Port)
  /-- FAB_RESTORE_WRITE (R409): FAB_PORT_CTRL.restore asks to restore a marked port. -/
  | fabRestoreWrite (src : Source) (port : Port) (value : Word)
  /-- FAB_CLR (R116): FAB_CLR clears the fabric counters. -/
  | fabClr (src : Source)
  /-- SENSOR_CONVERSION (R413): Each sensor converts every 10.24 us. -/
  | sensorConversion (sensor : Sensor) (reading : Int) (faulty : Bool)
  /-- MODEL_UPDATE (R414): Every 16 crossings the thermal model steps and levels are computed. -/
  | modelUpdate
  /-- LEVEL_FALL (R423): After down_hold lower updates the live level falls by one. -/
  | levelFall
  /-- RATE_FALL (R425): 8192 cooler updates in a row select a slower refresh rate. -/
  | rateFall
  /-- BOUNDARY_TRACK (R416): Every 1024 updates the boundary moves 0.25 C toward D15 readings. -/
  | boundaryTrack
  /-- SINK_STALE (R416): THM_SINK unwritten for 1 s falls back to tracking. -/
  | sinkStale
  /-- THM_SINK_WRITE (R416): A write to THM_SINK sets the boundary and ends a fallback. -/
  | thmSinkWrite (src : Source) (value : Word)
  /-- BACKSTOP_TRIP (R426): An analog backstop comparator trips the device. -/
  | backstopTrip (sensor : Sensor)
  /-- TRIP_MONITOR_READ (R427): Every 10 ms the trip monitor reads every sensor. -/
  | tripMonitorRead (readings : List (Nat × Int))
  /-- RE_ARM (R428): Sensors cool for 10 s, THERMTRIP_N is released and START begins. -/
  | reArm
  /-- LIFE_COUNT (R429): Each second the always-on life counters advance. -/
  | lifeCount
  /-- OSC_CORRECT (R430): Every 10 ms the 25 MHz oscillator is corrected from TB23. -/
  | oscCorrect (ppm : Int)
  /-- REQUEST_SERVICE (R436): PWR_MODE_REQ with target SERVICE requests an exit to SERVICE. -/
  | requestService (src : Source) (value : Word)
  /-- REQUEST_IDLE (R439): PWR_MODE_REQ with target IDLE starts or queues IDLE entry. -/
  | requestIdle (src : Source) (value : Word)
  /-- REQUEST_RETENTION (R439): PWR_MODE_REQ with target RETENTION starts RETENTION entry. -/
  | requestRetention (src : Source) (value : Word)
  /-- REQUEST_MAINTENANCE (R439): PWR_MODE_REQ with target MAINTENANCE enters MAINTENANCE. -/
  | requestMaintenance (src : Source) (value : Word)
  /-- REQUEST_SAFE (R438): A SAFE request preempts or follows the in-flight transition. -/
  | requestSafe (src : Source) (value : Word)
  /-- REQUEST_COLD (R439): PWR_MODE_REQ with target COLD starts orderly COLD entry. -/
  | requestCold (src : Source) (value : Word)
  /-- DRAIN_DONE (R439): Delivered operations reach completion and the entry passes an abortable point. -/
  | drainDone
  /-- DRAIN_TIMEOUT (R440): A drain over 100 us ends the entry FAILED. -/
  | drainTimeout
  /-- ENTRY_FLUSH_DONE (R439): The entry INVALIDATE of the landing ends. -/
  | entryFlushDone
  /-- WAIT_INSTRUCTION (R439): The purser's wait instruction retires at the commit point of an entry. -/
  | waitInstruction
  /-- IDLE_EXIT (R445): An IDLE exit restores held ports and reopens intake. -/
  | idleExit
  /-- RETENTION_EXIT (R439): Logic powers up, configuration restored, dies leave self-refresh. -/
  | retentionExit (outcomes : List TrainOutcome) (bad : List SentinelRead) (us : Nat)
  /-- RETENTION_RELEASE (R447): Memory services reopen after a RETENTION exit without resetting CROSS_CNT. -/
  | retentionRelease
  /-- MAINTENANCE_EXIT (R439): Maintenance passes stop and ACTIVE returns. -/
  | maintenanceExit
  /-- WAKE_N_LOW (R441): A WAKE_N low pulse is a wake source. -/
  | wakeNLow
  /-- SHUTDOWN_PHASE_DONE (R529): A shutdown self-test phase ends at an abortable point. -/
  | shutdownPhaseDone (findings : List Finding) (flashOk : Bool)
  /-- WATCHDOG_RESTART (R462): Firmware restarts the purser watchdog. -/
  | watchdogRestart
  /-- WATCHDOG_EXPIRY (R462): The watchdog expires and triggers a warm reset. -/
  | watchdogExpiry (pc : Word)
  /-- PURSER_FAULT (R462): An illegal instruction, SRAM or access fault halts the purser. -/
  | purserFault (kind : Fin 3) (pc : Word)
  /-- I3C_BUFFER_WRITE (R468): An I3C private write sets the pointer and writes a window. -/
  | i3cBufferWrite (bytes : List Byte)
  /-- I3C_PRIVATE_READ (R468): An I3C private read returns bytes from the pointer and advances it. -/
  | i3cPrivateRead (count : Nat)
  /-- SUBMIT (R466): Window 2 value 0x01 submits the I3C request buffer. -/
  | submit (mailbox : Fin 8)
  /-- MAILBOX_RELEASE (R466): Window 2 value 0x02 releases a DONE mailbox. -/
  | mailboxRelease (mailbox : Fin 8)
  /-- MAILBOX_DONE_TIMEOUT (R466): An I3C-owned DONE mailbox returns to IDLE after 100 ms. -/
  | mailboxDoneTimeout (mailbox : Fin 8)
  /-- MBX_TIMEOUT (R472): No response within 2 ms posts ABORTED. -/
  | mbxTimeout (mailbox : Fin 8)
  /-- ENTDAA (R467): I3C CCC ENTDAA assigns a dynamic address. -/
  | entdaa (addr : Fin 128)
  /-- SETDASA (R467): I3C CCC SETDASA sets the dynamic address from the static one. -/
  | setdasa (addr : Fin 128)
  /-- SETNEWDA (R467): I3C CCC SETNEWDA changes the dynamic address. -/
  | setnewda (addr : Fin 128)
  /-- RSTDAA (R467): I3C CCC RSTDAA resets the dynamic address. -/
  | rstdaa
  /-- GETPID (R467): I3C CCC GETPID returns the provisional ID. -/
  | getpid
  /-- GETBCR (R467): I3C CCC GETBCR returns BCR. -/
  | getbcr
  /-- GETDCR (R467): I3C CCC GETDCR returns DCR. -/
  | getdcr
  /-- GETSTATUS (R467): I3C CCC GETSTATUS returns status. -/
  | getstatus
  /-- GETMWL (R467): I3C CCC GETMWL returns the write limit. -/
  | getmwl
  /-- GETMRL (R467): I3C CCC GETMRL returns the read limit. -/
  | getmrl
  /-- SETMWL (R467): I3C CCC SETMWL sets the write limit up to 1026. -/
  | setmwl (direct : Bool) (limit : Fin 65536)
  /-- SETMRL (R467): I3C CCC SETMRL sets the read limit up to 1026. -/
  | setmrl (direct : Bool) (limit : Fin 65536)
  /-- ENEC (R467): I3C CCC ENEC is acknowledged without effect. -/
  | enec (direct : Bool)
  /-- DISEC (R467): I3C CCC DISEC is acknowledged without effect. -/
  | disec (direct : Bool)
  /-- I3C_ERROR (R467): An unknown CCC or protocol error is counted and raises E359. -/
  | i3cError
  /-- IDENTITY (R474): Mailbox command IDENTITY returns identity and firmware data. -/
  | identity (mailbox : Fin 8)
  /-- STATUS (R474): Mailbox command STATUS returns mode, start, memory and event status. -/
  | status (mailbox : Fin 8)
  /-- RESET (R474): Mailbox command RESET requests a reset of the given kind. -/
  | reset (mailbox : Fin 8)
  /-- CFG_READ (R475): Mailbox command CFG_READ reads consecutive registers. -/
  | cfgRead (mailbox : Fin 8)
  /-- CFG_WRITE (R475): Mailbox command CFG_WRITE writes consecutive registers. -/
  | cfgWrite (mailbox : Fin 8)
  /-- EVT_LOG_READ (R474): Mailbox command EVT_LOG_READ returns event log records. -/
  | evtLogRead (mailbox : Fin 8)
  /-- MODE (R474): Mailbox command MODE makes a mode request. -/
  | mode (mailbox : Fin 8)
  /-- FLASH_READ (R474): Mailbox command FLASH_READ returns flash bytes. -/
  | flashRead (mailbox : Fin 8) (data : Option (List Byte))
  /-- FLASH_WRITE (R474): Mailbox command FLASH_WRITE starts a flash write job. -/
  | flashWrite (mailbox : Fin 8)
  /-- OTP_READ (R509): Mailbox command OTP_READ returns OTP words with marginal flags. -/
  | otpRead (mailbox : Fin 8)
  /-- OTP_PROGRAM (R515): Mailbox command OTP_PROGRAM starts an OTP programming job. -/
  | otpProgram (mailbox : Fin 8)
  /-- OTP_SEAL (R519): Mailbox command OTP_SEAL seals a region. -/
  | otpSeal (mailbox : Fin 8)
  /-- BIST_RUN (R542): Mailbox command BIST_RUN starts an on-demand self-test job. -/
  | bistRun (mailbox : Fin 8)
  /-- LEDGER_READ (R474): Mailbox command LEDGER_READ returns ledger bytes. -/
  | ledgerRead (mailbox : Fin 8) (data : Option (List Byte))
  /-- RETIRE (R474): Mailbox command RETIRE retires a row or bank. -/
  | retire (mailbox : Fin 8)
  /-- ROW_REPAIR (R474): Mailbox command ROW_REPAIR starts a row repair job. -/
  | rowRepair (mailbox : Fin 8)
  /-- SNAPSHOT (R484): Mailbox command SNAPSHOT triggers a snapshot. -/
  | snapshot (mailbox : Fin 8)
  /-- SNAP_READ (R474): Mailbox command SNAP_READ returns snapshot slot words. -/
  | snapRead (mailbox : Fin 8)
  /-- MODEL_READ (R474): Mailbox command MODEL_READ returns thermal model coefficients. -/
  | modelRead (mailbox : Fin 8)
  /-- JOB_RESULT (R476): Mailbox command JOB_RESULT returns the result of a job. -/
  | jobResult (mailbox : Fin 8)
  /-- UNKNOWN_COMMAND (R473): An unknown command is answered UNSUPPORTED. -/
  | unknownCommand (mailbox : Fin 8)
  /-- JOB_DONE (R476): A long job ends, its result is kept and E353 raised. -/
  | jobDone (job : Fin 256) (flashOk : Bool) (outcome : OtpOutcome) (findings : List Finding)
  /-- EVT_PEND_READ (R478): A read of EVT_PENDi returns and clears pending bits. -/
  | evtPendRead (src : Source) (index : Fin 12)
  /-- CAUSE_READ (R493): A read of an RC cause register returns and clears it. -/
  | causeRead (src : Source) (addr : CfgAddr)
  /-- EVT_LOG_TAIL_WRITE (R481): A write to EVT_LOG_TAIL releases event log records. -/
  | evtLogTailWrite (src : Source) (value : Word)
  /-- EVT_LOG_W0_READ (R481): Reading EVT_LOG_W0 latches the other words of the record. -/
  | evtLogW0Read (src : Source)
  /-- EVT_CLR (R116): EVT_CLR clears EVT_LOG_LOST. -/
  | evtClr (src : Source)
  /-- SH_LO_READ (R497): Reading a _LO word latches the _HI word into the source's shadow. -/
  | shLoRead (src : Source) (addr : CfgAddr)
  /-- SNAP_N_LOW (R484): SNAP_N held low is a snapshot trigger. -/
  | snapNLow
  /-- SNAP_GO (R484): SNAP_CTRL.go is a snapshot trigger. -/
  | snapGo (src : Source) (value : Word)
  /-- SNAP_LATCH (R485): At the latch boundary every block latches its snapshot values. -/
  | snapLatch (rails : List Nat)
  /-- SNAP_DONE (R487): The drain into a slot ends and E368 is raised. -/
  | snapDone
  /-- SNAP_ACK (R487): SNAP_ACK frees snapshot slots. -/
  | snapAck (src : Source) (value : Word)
  /-- SNAP_RD_DATA_READ (R488): Reading SNAP_RD_DATA returns a word and advances the index. -/
  | snapRdDataRead (src : Source)
  /-- SNAP_CLR (R116): SNAP_CLR clears the snapshot counters. -/
  | snapClr (src : Source)
  /-- MBX_CLR (R116): MBX_CLR clears the mailbox counters. -/
  | mbxClr (src : Source)
  /-- GLB_LOCK_WRITE (R500): A write to GLB_LOCK sets lock groups until reset. -/
  | glbLockWrite (src : Source) (value : Word)
  /-- SW_FLAGS_WRITE (R495): A masked write changes the selected bits of GLB_SW_FLAGS. -/
  | swFlagsWrite (src : Source) (value : Word)
  /-- CFG_COMMIT (R503): CFG_COMMIT.go takes the next pass's CRC as reference. -/
  | cfgCommit (src : Source)
  /-- CFG_CHECK_PASS (R502): A walker pass over the guarded set completes and is compared. -/
  | cfgCheckPass
  /-- REGISTER_WRITE (R498): A write to a register with no row of its own is applied by its field types. -/
  | registerWrite (src : Source) (addr : CfgAddr) (value : Word)
  /-- OTP_REREAD (R513): Listed marginal OTP words are re-read at both margins. -/
  | otpReread (bad : List OtpRead)
  /-- RECORDING_PASS (R538): TST_REC_CTRL.go records complete repairs into F4 and F5. -/
  | recordingPass (lanes : OtpOutcome) (rows : OtpOutcome) (cut : Option Nat)
  /-- LEDGER_UPDATE (R527): Within 10 s of a repair list change an UPDATE ledger copy is written. -/
  | ledgerUpdate (flashOk : Bool)
  /-- LOOPBACK_ENABLE (R536): TST_LOOP_CTRL enables a lane loopback during a test hold. -/
  | loopbackEnable (src : Source) (value : Word)
  /-- FORCED_SEAL (R547): A JTAG paired write to TST_JTAG_SEAL forces a region seal. -/
  | forcedSeal (region : Fin 8)
  /-- TAP_RESET (R543): TRST_N low or five TMS-high cycles reset the TAP. -/
  | tapReset
  /-- IDCODE (R543): JTAG IDCODE selects the 32-bit identity register. -/
  | idcode
  /-- SAMPLE_PRELOAD (R543): JTAG SAMPLE/PRELOAD selects the boundary register. -/
  | samplePreload (cells : Nat)
  /-- EXTEST (R543): JTAG EXTEST drives the boundary with RESET_N low. -/
  | extest (cells : Nat)
  /-- EXTEST_PULSE (R545): JTAG EXTEST_PULSE drives AC pulses on the lanes. -/
  | extestPulse (cells : Nat)
  /-- EXTEST_TRAIN (R545): JTAG EXTEST_TRAIN drives AC trains on the lanes. -/
  | extestTrain (cells : Nat)
  /-- CLAMP (R543): JTAG CLAMP holds the boundary and selects bypass. -/
  | clamp
  /-- HIGHZ (R543): JTAG HIGHZ floats outputs and selects bypass. -/
  | highz
  /-- CFG_ACCESS (R544): JTAG CFG_ACCESS Update-DR starts one configuration access. -/
  | cfgAccess (isWrite : Bool) (addr : CfgAddr) (value : Word)
  /-- WRAP_SEL (R543): JTAG WRAP_SEL selects a core die wrapper. -/
  | wrapSel (die : Die)
  /-- WIR_ACCESS (R546): JTAG WIR_ACCESS loads the IEEE 1500 wrapper instruction. -/
  | wirAccess (value : Nat)
  /-- WDR_ACCESS (R546): JTAG WDR_ACCESS accesses the selected wrapper data register. -/
  | wdrAccess (value : Nat)
  /-- WS_BYPASS (R546): Wrapper instruction WS_BYPASS bypasses the die wrapper. -/
  | wsBypass
  /-- WS_EXTEST (R546): Wrapper instruction WS_EXTEST tests the TSV terminals. -/
  | wsExtest
  /-- WS_INTEST (R546): Wrapper instruction WS_INTEST tests the die core. -/
  | wsIntest
  /-- BYPASS (R543): JTAG BYPASS selects the 1-bit bypass register. -/
  | bypass
  /-- RAIL_ABOVE_WARNING (R452): A rail that has stood above its warning level for 160 ns leaves the below-warning state, so no further shedding step is taken for it. -/
  | railAboveWarning (rail : Rail)
  /-- RAIL_RECOVERY_CROSSING (R454): A rail crossing its recovery level starts the 100 us restoration count when all rails stand above recovery, or restarts it when one drops back below recovery. -/
  | railRecoveryCrossing (rail : Rail) (above : Bool)
  /-- LANE_JOIN (R171): A lane joins or leaves the combined towpath bit stream as its despread SNR and bit-boundary alignment meet or lose the thresholds. -/
  | laneJoin (lane : Lane) (snr : Int) (quarters : Nat)
  /-- CONFIGURATION_COPY_DONE (R439): Step 4 of RETENTION entry ends, when the coefficient save and the copy of the configuration registers into purser SRAM are complete, reaching its abortable point and starting the sentinel write. -/
  | configurationCopyDone
  /-- SRF_UNCONFIRMED (R440): A die does not confirm self-refresh within 100 ns of SRE during a mode entry, so SRE is repeated or the entry ends FAILED and is undone. -/
  | srfUnconfirmed (die : Die)
  /-- SNAP_N_PULSE_END (R486): The device releases SNAP_N at the end of its driven pulse and, 200 ns later, listens to SNAP_N as a trigger input again. -/
  | snapNPulseEnd
  /-- WATCHDOG_COUNT_CLEAR (R464): After 60 s of SERVICE without a watchdog expiry, the count of quick watchdog resets returns to 0. -/
  | watchdogCountClear
  /-- VQPS_OUT_OF_RANGE (R515): VQPS leaving its range during an OTP job ends the job ABORTED with result NO_VQPS and leaves a torn tail. -/
  | vqpsOutOfRange (mv : Nat) (written : Nat)
  deriving DecidableEq, Repr

end Sys2Proof
end

