-- ==== Sys2Proof/Decode.lean ====
section
/-!
DEFINITION. Decode.lean: the command that a word of spec/opcode_table.json spells.  Every row of that table has an empty list of fields:
the commands are register accesses, arrivals, pins and times, not words, so no word spells one (log entry 1).
-/
set_option autoImplicit false

namespace Sys2Proof

/-- The rows that give bits: none. -/
def tableRows : List (Nat × Nat × Nat × Instr) := []

/-- The command of the first row whose width, mask and pattern a word meets. -/
def decodeTableWord (nbits w : Nat) : Option Instr :=
  (tableRows.find? fun r => r.1 == nbits && Nat.land w r.2.1 == r.2.2.1).map fun r => r.2.2.2

end Sys2Proof
end

