-- ==== Sys2Proof/Config.lean ====
section
/-!
DEFINITION. Config.lean: the constants the spec fixes for the part, and the values it leaves open, as constants without a body.
-/
set_option autoImplicit false

namespace Sys2Proof.Config

/-! Fixed sizes of the part (00_scope, R1 to R4). -/

def lanes : Nat := 128
def ports : Nat := 16
def dies : Nat := 16
def channels : Nat := 64
def halfChannels : Nat := 128
def banks : Nat := 32
def sensors : Nat := 88
/-- Crossings in the timetable period (R8). -/
def period : Nat := 48
/-- Berths in a crossing (R277). -/
def berths : Nat := 12
/-- Nanoseconds in a crossing. -/
def crossingNs : Nat := 80
/-- The wrap of CROSS_CNT (R5). -/
def crossWrap : Nat := 2 ^ 48
/-- Parcels in the stack. -/
def parcels : Nat := 2 ^ 28

/-- A value the spec leaves open (log entry 2): a number that nothing constrains, drawn by a running count kept in State. -/
opaque freeValue : Nat → Nat

/-- The register of the PRBS13Q generator of a lane at the start of a training stage, which the spec leaves open (R136; log entry 13). -/
opaque prbsStart : Nat → Nat

/-! The thermal model's coefficients, measured for each part at manufacture and held in OTP (R414, R415, R474; log entry 42).  The
flag selects the conservative ROM defaults of R511. -/

/-- Heat capacity of a node in µJ/K. -/
opaque nodeCapacity : Bool → Nat → Nat
/-- Conductance between two nodes in µW/K. -/
opaque conductance : Bool → Nat → Nat → Nat
/-- Conductance of a node of D15 to the boundary in µW/K. -/
opaque sinkConductance : Bool → Nat → Nat
/-- Energy in J that a node takes for one unit of an activity. -/
opaque nodeEnergy : Nat → Nat → Rat
/-- Leakage of a node in W at a temperature in °C. -/
opaque leakage : Nat → Rat → Rat
/-- Heat of the purser and the always-on load in W at an update. -/
opaque purserHeat : Nat → Rat

/-! What OTP regions F0 to F3 of a part were shipped with (R506; log entry 43). -/

/-- A logical word, by 4096 * region + word. -/
opaque shipped : Nat → Word
/-- Records of a region, and its length in words. -/
opaque shippedRecords : Nat → Nat
opaque shippedLength : Nat → Nat

end Sys2Proof.Config
end

