-- ==== Sys2Proof/Machine/KMap.lean ====
section
/-!
DEFINITION. Machine/KMap.lean: sparse tables keyed by numbers, as lists of pairs in rising key order.  A table with a
default holds no pair equal to what an unlisted key reads as, so equal tables are equal lists.
-/
set_option autoImplicit false

namespace Sys2Proof.Machine

/-- A sparse table: pairs of a key and a value, keys strictly rising. -/
abbrev KMap (α : Type) := List (Nat × α)

namespace KMap
variable {α : Type}

/-- The value listed for a key. -/
def find (m : KMap α) (k : Nat) : Option α :=
  match m with
  | [] => none
  | p :: t => if p.1 = k then some p.2 else find t k

/-- The table with a key listed at a value. -/
def ins (m : KMap α) (k : Nat) (v : α) : KMap α :=
  match m with
  | [] => [(k, v)]
  | p :: t => if k < p.1 then (k, v) :: p :: t else if k = p.1 then (k, v) :: t else p :: ins t k v

/-- The table without a key. -/
def erase (m : KMap α) (k : Nat) : KMap α :=
  match m with
  | [] => []
  | p :: t => if p.1 = k then erase t k else p :: erase t k

/-- Reading a table whose unlisted keys read as d. -/
def get (d : Nat → α) (m : KMap α) (k : Nat) : α :=
  match m.find k with
  | some v => v
  | none => d k

/-- Writing such a table: a value equal to the default is not listed. -/
def put [DecidableEq α] (d : Nat → α) (m : KMap α) (k : Nat) (v : α) : KMap α :=
  if v = d k then erase m k else ins m k v

/-- Keys strictly rising. -/
def sorted (m : KMap α) : Bool :=
  match m with
  | [] => true
  | p :: t => (match t with | [] => true | q :: _ => decide (p.1 < q.1)) && sorted t

/-- The canonical form of a table with a default: keys rising and no entry equal to the default. -/
def wf [DecidableEq α] (d : Nat → α) (m : KMap α) : Bool :=
  sorted m && m.all fun p => decide (p.2 ≠ d p.1)

end KMap
end Sys2Proof.Machine
end

