-- ==== Sys2Proof/Machine/Regs.lean ====
section
/-!
DEFINITION. Machine/Regs.lean: the names and addresses of the registers of the configuration space (R490 and the register tables of the spec/ chapters), the bit fields of each (the field tables), and one row per register giving its reset value, the bits software writes live, the set-by-one bits, the read-to-clear bits, the staged bits and its lock group (R499).
-/
set_option autoImplicit false

namespace Sys2Proof.Machine

/-- A bit field of a register: its address and its bits. -/
structure Field where
  addr : Nat
  hi : Nat
  lo : Nat
  deriving DecidableEq, Repr

/-- How a register takes a write: by its masks, through a mask half (R495), through a paired write (R496), or as the complement word of a pair. -/
inductive RegKind where
  | plain | masked | paired | complement
  deriving DecidableEq, Repr

/-- One register of the tables, or an array of them `stride` bytes apart.  Register i resets to reset + i * resetStep. -/
structure RegRow where
  base : Nat
  stride : Nat
  count : Nat
  reset : Nat
  resetStep : Nat
  kind : RegKind
  rw : Nat
  w1s : Nat
  rc : Nat
  staged : Nat
  sh : Bool
  lock : Nat
  deriving DecidableEq, Repr

namespace Reg

/-! Registers of spec chapter 01. -/
def GLB_COMMIT_TGT_LO : Nat := 0x100
def GLB_COMMIT_TGT_HI : Nat := 0x104
def GLB_COMMIT_CTRL : Nat := 0x108
def GLB_COMMIT_STATUS : Nat := 0x10C
def GLB_COMMIT_REFUSERS : Nat := 0x110
def GLB_COMMIT_LAST_LO : Nat := 0x114
def GLB_COMMIT_LAST_HI : Nat := 0x118
def GLB_COMMIT_ABORTS : Nat := 0x11C
def GLB_PERIOD_PHASE : Nat := 0x120

/-! Registers of spec chapter 03. -/
def GLB_START_STATUS : Nat := 0x200
def GLB_START_TIME : Nat := 0x204
def GLB_RESET_CTRL : Nat := 0x208
def GLB_RESET_CTRL_CPL : Nat := 0x20C
def GLB_RESET_CAUSE : Nat := 0x210
def GLB_MEM_STATE : Nat := 0x214
def GLB_ANCHOR_CROSS_LO : Nat := 0x218
def GLB_ANCHOR_CROSS_HI : Nat := 0x21C
def GLB_ANCHOR_DIRTY : Nat := 0x220
def GLB_WSEQ_DONE (p : Nat) : Nat := 0x280 + 0x8 * p
def GLB_WSEQ_SEEN (p : Nat) : Nat := 0x284 + 0x8 * p

/-! Registers of spec chapter 04. -/
def LANE_STATUS (l : Nat) : Nat := 0x10000 + 0x100 * l
def LANE_EVT_CAUSE (l : Nat) : Nat := 0x10004 + 0x100 * l
def LANE_EVT_MASK (l : Nat) : Nat := 0x10008 + 0x100 * l
def LANE_CTRL (l : Nat) : Nat := 0x1000C + 0x100 * l
def LANE_TX_FIR0 (l : Nat) : Nat := 0x10010 + 0x100 * l
def LANE_TX_FIR1 (l : Nat) : Nat := 0x10014 + 0x100 * l
def LANE_TX_SWING (l : Nat) : Nat := 0x10018 + 0x100 * l
def LANE_TX_APPLY (l : Nat) : Nat := 0x1001C + 0x100 * l
def LANE_TX_STATUS (l : Nat) : Nat := 0x10020 + 0x100 * l
def LANE_TOW_SHAPE_IDX (l : Nat) : Nat := 0x10024 + 0x100 * l
def LANE_TOW_SHAPE_DATA (l : Nat) : Nat := 0x10028 + 0x100 * l
def LANE_MASK_CTRL (l : Nat) : Nat := 0x1002C + 0x100 * l
def LANE_MASK_STATUS (l : Nat) : Nat := 0x10030 + 0x100 * l
def LANE_CTLE (l : Nat) : Nat := 0x10040 + 0x100 * l
def LANE_ADC (l : Nat) : Nat := 0x10044 + 0x100 * l
def LANE_ADAPT_CTRL (l : Nat) : Nat := 0x10048 + 0x100 * l
def LANE_ADAPT_STEP (l : Nat) : Nat := 0x1004C + 0x100 * l
def LANE_EQ_WR (l : Nat) : Nat := 0x10050 + 0x100 * l
def LANE_EQ_RD_IDX (l : Nat) : Nat := 0x10054 + 0x100 * l
def LANE_EQ_RD_DATA (l : Nat) : Nat := 0x10058 + 0x100 * l
def LANE_DFE (l : Nat) : Nat := 0x1005C + 0x100 * l
def LANE_CDR (l : Nat) : Nat := 0x10060 + 0x100 * l
def LANE_CDR_STATUS (l : Nat) : Nat := 0x10064 + 0x100 * l
def LANE_RX_LEVEL (l : Nat) : Nat := 0x10068 + 0x100 * l
def LANE_PRBS_CTRL (l : Nat) : Nat := 0x10070 + 0x100 * l
def LANE_PRBS_STATUS (l : Nat) : Nat := 0x10074 + 0x100 * l
def LANE_PRBS_BITERR_LO (l : Nat) : Nat := 0x10078 + 0x100 * l
def LANE_PRBS_BITERR_HI (l : Nat) : Nat := 0x1007C + 0x100 * l
def LANE_PRBS_SYMCNT_LO (l : Nat) : Nat := 0x10080 + 0x100 * l
def LANE_PRBS_SYMCNT_HI (l : Nat) : Nat := 0x10084 + 0x100 * l
def LANE_PRBS_SYMERR (l : Nat) : Nat := 0x10088 + 0x100 * l
def LANE_PREFEC_SYM_LO (l : Nat) : Nat := 0x10090 + 0x100 * l
def LANE_PREFEC_SYM_HI (l : Nat) : Nat := 0x10094 + 0x100 * l
def LANE_EYE_CTRL (l : Nat) : Nat := 0x100A0 + 0x100 * l
def LANE_EYE_STATUS (l : Nat) : Nat := 0x100A4 + 0x100 * l
def LANE_EYE_V0 (l : Nat) : Nat := 0x100A8 + 0x100 * l
def LANE_EYE_V1 (l : Nat) : Nat := 0x100AC + 0x100 * l
def LANE_EYE_H (l : Nat) : Nat := 0x100B0 + 0x100 * l
def LANE_POWER (l : Nat) : Nat := 0x100B4 + 0x100 * l
def LANE_LEDGER_ALLOW : Nat := 0x18000
def LANE_LEDGER_USED : Nat := 0x18004
def LANE_LEDGER_STAGED : Nat := 0x18008
def LANE_LEDGER_STATUS : Nat := 0x1800C
def LANE_LEDGER_REFUSALS : Nat := 0x18010
def LANE_MASK0 (k : Nat) : Nat := 0x18020 + 0x4 * k
def LANE_MASK1 (k : Nat) : Nat := 0x18040 + 0x4 * k
def LANE_PLL_STATUS : Nat := 0x18060

/-! Registers of spec chapter 05. -/
def PORT_STATUS (p : Nat) : Nat := 0x40000 + 0x400 * p
def PORT_EVT_CAUSE (p : Nat) : Nat := 0x40004 + 0x400 * p
def PORT_EVT_MASK (p : Nat) : Nat := 0x40008 + 0x400 * p
def PORT_CTRL (p : Nat) : Nat := 0x4000C + 0x400 * p
def PORT_CAP (p : Nat) : Nat := 0x40010 + 0x400 * p
def PORT_PEER_CAP (p : Nat) : Nat := 0x40014 + 0x400 * p
def PORT_PEER_DEV (p : Nat) : Nat := 0x40018 + 0x400 * p
def PORT_PEER_REV (p : Nat) : Nat := 0x4001C + 0x400 * p
def PORT_NEG (p : Nat) : Nat := 0x40020 + 0x400 * p
def PORT_FALL (p : Nat) : Nat := 0x40024 + 0x400 * p
def PORT_BRINGUP_TIME (p : Nat) : Nat := 0x40028 + 0x400 * p
def PORT_DEGRADE (p : Nat) : Nat := 0x4002C + 0x400 * p
def PORT_FEC_CTRL (p : Nat) : Nat := 0x40030 + 0x400 * p
def PORT_FEC_STATUS (p : Nat) : Nat := 0x40034 + 0x400 * p
def PORT_STATS_CLR (p : Nat) : Nat := 0x40038 + 0x400 * p
def PORT_CW_LO (p : Nat) : Nat := 0x40040 + 0x400 * p
def PORT_CW_HI (p : Nat) : Nat := 0x40044 + 0x400 * p
def PORT_CW_CORR_LO (p : Nat) : Nat := 0x40048 + 0x400 * p
def PORT_CW_CORR_HI (p : Nat) : Nat := 0x4004C + 0x400 * p
def PORT_CW_UNCORR_LO (p : Nat) : Nat := 0x40050 + 0x400 * p
def PORT_CW_UNCORR_HI (p : Nat) : Nat := 0x40054 + 0x400 * p
def PORT_SYM_CORR_LO (p : Nat) : Nat := 0x40058 + 0x400 * p
def PORT_SYM_CORR_HI (p : Nat) : Nat := 0x4005C + 0x400 * p
def PORT_INNER_BLK_LO (p : Nat) : Nat := 0x40060 + 0x400 * p
def PORT_INNER_BLK_HI (p : Nat) : Nat := 0x40064 + 0x400 * p
def PORT_INNER_FAIL_LO (p : Nat) : Nat := 0x40068 + 0x400 * p
def PORT_INNER_FAIL_HI (p : Nat) : Nat := 0x4006C + 0x400 * p
def PORT_HIST (p : Nat) (k : Nat) : Nat := 0x40080 + 0x400 * p + 0x4 * k

/-! Registers of spec chapter 06. -/
def PORT_TOW_CTRL (p : Nat) : Nat := 0x40100 + 0x400 * p
def PORT_TOW_RX_CODES (p : Nat) : Nat := 0x40104 + 0x400 * p
def PORT_TOW_LEVEL (p : Nat) : Nat := 0x40108 + 0x400 * p
def PORT_TOW_STATUS (p : Nat) : Nat := 0x4010C + 0x400 * p
def PORT_TOW_EVT_CAUSE (p : Nat) : Nat := 0x40110 + 0x400 * p
def PORT_TOW_EVT_MASK (p : Nat) : Nat := 0x40114 + 0x400 * p
def PORT_TOW_TAG (p : Nat) : Nat := 0x40118 + 0x400 * p
def PORT_TOW_HAIL (p : Nat) : Nat := 0x4011C + 0x400 * p
def PORT_TOW_FRAMES_OK (p : Nat) : Nat := 0x40120 + 0x400 * p
def PORT_TOW_HDR_ERR (p : Nat) : Nat := 0x40124 + 0x400 * p
def PORT_TOW_CRC_ERR (p : Nat) : Nat := 0x40128 + 0x400 * p
def PORT_TOW_FALSELOCK (p : Nat) : Nat := 0x4012C + 0x400 * p
def PORT_TOW_SELF_ECHO (p : Nat) : Nat := 0x40130 + 0x400 * p
def PORT_TOW_TX_FRAMES (p : Nat) : Nat := 0x40134 + 0x400 * p
def PORT_TOW_TX_SKIP (p : Nat) : Nat := 0x40138 + 0x400 * p
def PORT_TOW_CLR (p : Nat) : Nat := 0x4013C + 0x400 * p
def PORT_TOW_WAKE (p : Nat) : Nat := 0x40140 + 0x400 * p
def PORT_TOW_BCN0 (p : Nat) : Nat := 0x40144 + 0x400 * p
def PORT_TOW_BCN1 (p : Nat) : Nat := 0x40148 + 0x400 * p
def LANE_TOW_NOISE (l : Nat) : Nat := 0x100C0 + 0x100 * l
def LANE_TOW_SIG (l : Nat) : Nat := 0x100C4 + 0x100 * l
def LANE_TOW_PHASE (l : Nat) : Nat := 0x100C8 + 0x100 * l

/-! Registers of spec chapter 07. -/
def UZ_STATUS (p : Nat) : Nat := 0x50000 + 0x400 * p
def UZ_EVT_CAUSE (p : Nat) : Nat := 0x50004 + 0x400 * p
def UZ_EVT_MASK (p : Nat) : Nat := 0x50008 + 0x400 * p
def UZ_CTRL (p : Nat) : Nat := 0x5000C + 0x400 * p
def UZ_CRD_TX0 (p : Nat) : Nat := 0x50010 + 0x400 * p
def UZ_CRD_TX1 (p : Nat) : Nat := 0x50014 + 0x400 * p
def UZ_CRD_RX0 (p : Nat) : Nat := 0x50018 + 0x400 * p
def UZ_CRD_RX1 (p : Nat) : Nat := 0x5001C + 0x400 * p
def UZ_RT (p : Nat) : Nat := 0x50020 + 0x400 * p
def UZ_LAST_NAK (p : Nat) : Nat := 0x50024 + 0x400 * p
def UZ_FLITS_TX_LO (p : Nat) : Nat := 0x50040 + 0x400 * p
def UZ_FLITS_TX_HI (p : Nat) : Nat := 0x50044 + 0x400 * p
def UZ_FLITS_RX_LO (p : Nat) : Nat := 0x50048 + 0x400 * p
def UZ_FLITS_RX_HI (p : Nat) : Nat := 0x5004C + 0x400 * p
def UZ_BAD_FLITS (p : Nat) : Nat := 0x50050 + 0x400 * p
def UZ_REPLAYS (p : Nat) : Nat := 0x50054 + 0x400 * p
def UZ_NAKS (p : Nat) : Nat := 0x50058 + 0x400 * p
def UZ_DELAYS (p : Nat) : Nat := 0x5005C + 0x400 * p
def UZ_NTF_DROP (p : Nat) : Nat := 0x50060 + 0x400 * p
def UZ_CPL_DISCARD (p : Nat) : Nat := 0x50064 + 0x400 * p
def UZ_CLR (p : Nat) : Nat := 0x50068 + 0x400 * p
def UZ_UNEXPECTED (p : Nat) : Nat := 0x5006C + 0x400 * p

/-! Registers of spec chapter 08. -/
def SVC_RGN_PLACE (g : Nat) : Nat := 0x60000 + 0x20 * g
def SVC_RGN_ATTR (g : Nat) : Nat := 0x60004 + 0x20 * g
def SVC_RGN_FC_LO (g : Nat) : Nat := 0x60008 + 0x20 * g
def SVC_RGN_FC_HI (g : Nat) : Nat := 0x6000C + 0x20 * g
def SVC_RGN_STATUS (g : Nat) : Nat := 0x60010 + 0x20 * g
def SVC_PROF_CFG (k : Nat) : Nat := 0x60400 + 0x10 * k
def SVC_PROF_LIMIT (k : Nat) : Nat := 0x60404 + 0x10 * k
def SVC_PROF_WMHI (k : Nat) : Nat := 0x60408 + 0x10 * k
def SVC_PROF_WMLO (k : Nat) : Nat := 0x6040C + 0x10 * k
def SVC_POOL_ROT (g : Nat) (i : Nat) : Nat := 0x60800 + 0x40 * g + 0x4 * i
def SVC_POOL_CFG (g : Nat) : Nat := 0x60810 + 0x40 * g
def SVC_POOL_STATUS (g : Nat) : Nat := 0x60814 + 0x40 * g
def SVC_POOL_FREE (g : Nat) : Nat := 0x60818 + 0x40 * g
def SVC_POOL_SKIPS (g : Nat) : Nat := 0x6081C + 0x40 * g
def SVC_QIND_CTRL : Nat := 0x60C00
def SVC_QIND_STATUS : Nat := 0x60C04
def SVC_QIND_D (i : Nat) : Nat := 0x60C10 + 0x4 * i
def SVC_HCF_IDX : Nat := 0x60C20
def SVC_HCF_DATA : Nat := 0x60C24
def SVC_METER_CTRL : Nat := 0x60C30
def SVC_METER_STATUS : Nat := 0x60C34
def SVC_EVT_CAUSE : Nat := 0x60C40
def SVC_EVT_MASK : Nat := 0x60C44
def SVC_ENQ_DROPS : Nat := 0x60C50
def SVC_PKT_TRUNC : Nat := 0x60C54
def SVC_QSTATE_LOST : Nat := 0x60C58
def SVC_CLR : Nat := 0x60C5C

/-! Registers of spec chapter 09. -/
def TT_CTRL : Nat := 0x70000
def TT_STATUS : Nat := 0x70004
def TT_LOAD_ADDR_LO : Nat := 0x70008
def TT_LOAD_ADDR_HI : Nat := 0x7000C
def TT_LOAD_CTRL : Nat := 0x70010
def TT_VAL_STATUS : Nat := 0x70014
def TT_ID_ACTIVE : Nat := 0x70018
def TT_ID_STANDBY : Nat := 0x7001C
def TT_ID_STORM : Nat := 0x70020
def TT_PRICE_ACTIVE : Nat := 0x70024
def TT_PRICE_STANDBY : Nat := 0x70028
def TT_PRICE_STORM : Nat := 0x7002C
def TT_DUTY_MIN : Nat := 0x70030
def TT_STORM_BUDGET : Nat := 0x70034
def TT_EVT_CAUSE : Nat := 0x70038
def TT_EVT_MASK : Nat := 0x7003C
def TT_VAL_ERR (i : Nat) : Nat := 0x70040 + 0x4 * i
def TT_SUSPEND_LO : Nat := 0x70080
def TT_SUSPEND_HI : Nat := 0x70084
def TT_HC_SHORT (i : Nat) : Nat := 0x70088 + 0x4 * i
def TT_OPEN_PAUSES : Nat := 0x70098
def TT_ENV_EXCESS : Nat := 0x7009C
def TT_BOUND_MISS : Nat := 0x700A0
def TT_CLR : Nat := 0x700A4

/-! Registers of spec chapter 10. -/
def TT_FC_CFG (c : Nat) : Nat := 0x70400 + 0x10 * c
def TT_FC_WAYS (c : Nat) : Nat := 0x70404 + 0x10 * c
def TT_FC_LATE (c : Nat) : Nat := 0x70408 + 0x10 * c
def TT_FC_PANIC (c : Nat) : Nat := 0x7040C + 0x10 * c
def TT_FC_OUT_IDX : Nat := 0x70800
def TT_FC_OUT_DATA : Nat := 0x70804
def HC_ARB_CTRL : Nat := 0x90000
def HC_ARB_PANIC : Nat := 0x90004
def HC_ARB_PAUSE : Nat := 0x90008
def HC_ARB_HC_IDX : Nat := 0x9000C
def HC_ARB_HC_DATA : Nat := 0x90010
def HC_ARB_LATE : Nat := 0x90014
def HC_ARB_PANIC_DENIED : Nat := 0x90018
def HC_ARB_TURNS : Nat := 0x9001C
def HC_ARB_CLR : Nat := 0x90020
def HC_MAP_EDIT (k : Nat) : Nat := 0x90040 + 0x4 * k
def HC_MAP_CTRL : Nat := 0x90070
def HC_MAP_STATUS : Nat := 0x90074
def HC_MAP0_SEL (k : Nat) : Nat := 0x90080 + 0x4 * k
def HC_MAP1_SEL (k : Nat) : Nat := 0x900C0 + 0x4 * k

/-! Registers of spec chapter 11. -/
def HC_STATUS (h : Nat) : Nat := 0x80000 + 0x200 * h
def HC_EVT_CAUSE (h : Nat) : Nat := 0x80004 + 0x200 * h
def HC_EVT_MASK (h : Nat) : Nat := 0x80008 + 0x200 * h
def HC_CTRL (h : Nat) : Nat := 0x8000C + 0x200 * h
def HC_TRAIN_STATUS (h : Nat) : Nat := 0x80010 + 0x200 * h
def HC_TSV_REMAP (h : Nat) : Nat := 0x80014 + 0x200 * h
def HC_WCK_TRIM (h : Nat) : Nat := 0x80018 + 0x200 * h
def HC_DQ_IDX (h : Nat) : Nat := 0x80020 + 0x200 * h
def HC_DQ_DATA (h : Nat) : Nat := 0x80024 + 0x200 * h
def HC_BANKS (h : Nat) : Nat := 0x80030 + 0x200 * h
def HC_REF_IDX (h : Nat) : Nat := 0x80034 + 0x200 * h
def HC_REF_DATA (h : Nat) : Nat := 0x80038 + 0x200 * h
def HC_REPAIR_ADDR (h : Nat) : Nat := 0x80040 + 0x200 * h
def HC_REPAIR_CTRL (h : Nat) : Nat := 0x80044 + 0x200 * h
def HC_REPAIR_STATUS (h : Nat) : Nat := 0x80048 + 0x200 * h
def HC_ACT_CNT_LO (h : Nat) : Nat := 0x80050 + 0x200 * h
def HC_ACT_CNT_HI (h : Nat) : Nat := 0x80054 + 0x200 * h
def HC_REF_CNT (h : Nat) : Nat := 0x80058 + 0x200 * h
def HC_REF_FORCED (h : Nat) : Nat := 0x8005C + 0x200 * h
def HC_CA_RETRIES (h : Nat) : Nat := 0x80060 + 0x200 * h
def HC_CLR (h : Nat) : Nat := 0x80064 + 0x200 * h
def HC_DIE_STATUS (d : Nat) : Nat := 0x91000 + 0x40 * d
def HC_DIE_MW_IDX (d : Nat) : Nat := 0x91004 + 0x40 * d
def HC_DIE_MW_DATA (d : Nat) : Nat := 0x91008 + 0x40 * d

/-! Registers of spec chapter 12. -/
def ECC_CTRL : Nat := 0xA0000
def ECC_STATUS : Nat := 0xA0004
def ECC_EVT_CAUSE : Nat := 0xA0008
def ECC_EVT_MASK : Nat := 0xA000C
def ECC_PIN_CTRL : Nat := 0xA0010
def ECC_PIN_IDX : Nat := 0xA0014
def ECC_PIN_DATA : Nat := 0xA0018
def ECC_SCRUB_CTRL : Nat := 0xA0020
def ECC_SCRUB_IDX : Nat := 0xA0024
def ECC_SCRUB_DATA : Nat := 0xA0028
def ECC_SUSPECT_CTRL : Nat := 0xA0030
def ECC_RETIRE_ADDR : Nat := 0xA0040
def ECC_RETIRE_CTRL : Nat := 0xA0044
def ECC_RETIRE_STATUS : Nat := 0xA0048
def ECC_LOG_HEAD : Nat := 0xA0060
def ECC_LOG_TAIL : Nat := 0xA0064
def ECC_LOG_IDX : Nat := 0xA0068
def ECC_LOG_W (i : Nat) : Nat := 0xA0070 + 0x4 * i
def ECC_CE_CNT_LO : Nat := 0xA0080
def ECC_CE_CNT_HI : Nat := 0xA0084
def ECC_UE_CNT : Nat := 0xA0088
def ECC_REPAIR_DROPS : Nat := 0xA008C
def ECC_LOG_LOST : Nat := 0xA0090
def ECC_CLR : Nat := 0xA0094

/-! Registers of spec chapter 13. -/
def LDG_CTRL : Nat := 0xB0000
def LDG_STATUS : Nat := 0xB0004
def LDG_EVT_CAUSE : Nat := 0xB0008
def LDG_EVT_MASK : Nat := 0xB000C
def LDG_PIN_WAYS : Nat := 0xB0010
def LDG_OP_CTRL : Nat := 0xB0014
def LDG_OP_STATUS : Nat := 0xB0018
def LDG_DIRTY : Nat := 0xB001C
def LDG_SLICE_IDX : Nat := 0xB0020
def LDG_SLICE_DATA : Nat := 0xB0024
def LDG_HIT_LO : Nat := 0xB0040
def LDG_HIT_HI : Nat := 0xB0044
def LDG_MISS_LO : Nat := 0xB0048
def LDG_MISS_HI : Nat := 0xB004C
def LDG_WB_LO : Nat := 0xB0050
def LDG_WB_HI : Nat := 0xB0054
def LDG_NOWAY : Nat := 0xB0058
def LDG_PIN_EVICT : Nat := 0xB005C
def LDG_DIRTY_STALLS : Nat := 0xB0060
def LDG_SRAM_CE : Nat := 0xB0064
def LDG_SRAM_UE : Nat := 0xB0068
def LDG_DISCARDED : Nat := 0xB006C
def LDG_CLR : Nat := 0xB0070
def LDG_RGN_HIT (g : Nat) : Nat := 0xB0100 + 0x8 * g
def LDG_RGN_MISS (g : Nat) : Nat := 0xB0104 + 0x8 * g

/-! Registers of spec chapter 14. -/
def FAB_CTRL : Nat := 0xC0000
def FAB_NODE : Nat := 0xC0004
def FAB_NODE_CFG : Nat := 0xC0008
def FAB_EPOCH : Nat := 0xC000C
def FAB_STATUS : Nat := 0xC0010
def FAB_EVT_CAUSE : Nat := 0xC0014
def FAB_EVT_MASK : Nat := 0xC0018
def FAB_REC : Nat := 0xC001C
def FAB_FWD_LO : Nat := 0xC0040
def FAB_FWD_HI : Nat := 0xC0044
def FAB_NOROUTE : Nat := 0xC0048
def FAB_DISCARD : Nat := 0xC004C
def FAB_REC_EXPIRED : Nat := 0xC0050
def FAB_FAILOVERS : Nat := 0xC0054
def FAB_TOW_UNKNOWN : Nat := 0xC0058
def FAB_DATELINE2 : Nat := 0xC005C
def FAB_CLR : Nat := 0xC0060
def FAB_RT (n : Nat) : Nat := 0xC0100 + 0x4 * n
def FAB_RT_LIVE (n : Nat) : Nat := 0xC0200 + 0x4 * n
def FAB_PORT_CTRL (p : Nat) : Nat := 0xC0300 + 0x10 * p
def FAB_NBR (p : Nat) : Nat := 0xC0304 + 0x10 * p
def FAB_NBR_AGE (p : Nat) : Nat := 0xC0308 + 0x10 * p

/-! Registers of spec chapter 15. -/
def THM_CTRL : Nat := 0xD0000
def THM_STATUS : Nat := 0xD0004
def THM_EVT_CAUSE : Nat := 0xD0008
def THM_EVT_MASK : Nat := 0xD000C
def THM_SINK : Nat := 0xD0010
def THM_BOUNDARY : Nat := 0xD0014
def THM_NODE_IDX : Nat := 0xD0020
def THM_NODE_DATA0 : Nat := 0xD0024
def THM_NODE_DATA1 : Nat := 0xD0028
def THM_BROKEN (i : Nat) : Nat := 0xD0030 + 0x4 * i
def THM_TRIP : Nat := 0xD0040
def THM_HOT_S : Nat := 0xD0044
def THM_ON_S : Nat := 0xD0048
def THM_AVG : Nat := 0xD004C
def THM_OSC : Nat := 0xD0050

/-! Registers of spec chapter 16. -/
def PWR_MODE : Nat := 0xE0000
def PWR_MODE_REQ : Nat := 0xE0004
def PWR_MODE_STATUS : Nat := 0xE0008
def PWR_MODE_LAST : Nat := 0xE000C
def PWR_EVT_CAUSE : Nat := 0xE0010
def PWR_EVT_MASK : Nat := 0xE0014
def PWR_WAKE_EN : Nat := 0xE0018
def PWR_WAKE : Nat := 0xE001C
def PWR_IDLE_CTRL : Nat := 0xE0020
def PWR_CEILING : Nat := 0xE0024
def PWR_LEDGER : Nat := 0xE0028
def PWR_BASE_ALLOW : Nat := 0xE002C
def PWR_SUPPLY : Nat := 0xE0030
def PWR_DIP0 : Nat := 0xE0034
def PWR_DIP1 : Nat := 0xE0038
def PWR_DIP_CNT : Nat := 0xE003C
def PWR_SENT_CTRL : Nat := 0xE0040
def PWR_SENT_STATUS : Nat := 0xE0044
def PWR_EXIT_TIME : Nat := 0xE0048

/-! Registers of spec chapter 17. -/
def EVT_PEND (i : Nat) : Nat := 0x100000 + 0x4 * i
def EVT_ALERT_EN (i : Nat) : Nat := 0x100040 + 0x4 * i
def EVT_NTF_EN (i : Nat) : Nat := 0x100080 + 0x4 * i
def EVT_CTRL : Nat := 0x1000C0
def EVT_STATUS : Nat := 0x1000C4
def EVT_LOG_HEAD : Nat := 0x1000C8
def EVT_LOG_TAIL : Nat := 0x1000CC
def EVT_LOG_IDX : Nat := 0x1000D0
def EVT_LOG_W (i : Nat) : Nat := 0x1000E0 + 0x4 * i
def EVT_LOG_LOST : Nat := 0x1000F0
def EVT_CNT_IDX : Nat := 0x1000F4
def EVT_CNT_DATA : Nat := 0x1000F8
def EVT_CLR : Nat := 0x1000FC
def SNAP_CTRL : Nat := 0x110000
def SNAP_STATUS : Nat := 0x110004
def SNAP_ACK : Nat := 0x110008
def SNAP_RD_IDX : Nat := 0x11000C
def SNAP_RD_DATA : Nat := 0x110010
def SNAP_EVT_CAUSE : Nat := 0x110014
def SNAP_EVT_MASK : Nat := 0x110018
def SNAP_TRIG (k : Nat) : Nat := 0x110020 + 0x4 * k
def SNAP_LOST : Nat := 0x110030
def SNAP_MERGED : Nat := 0x110034
def SNAP_CLR : Nat := 0x110038
def MBX_CFG (m : Nat) : Nat := 0x120000 + 0x10 * m
def MBX_STATUS (m : Nat) : Nat := 0x120004 + 0x10 * m
def MBX_I3C : Nat := 0x120080
def MBX_FW_VER : Nat := 0x120084
def MBX_FW_INFO : Nat := 0x120088
def MBX_WDOG : Nat := 0x12008C
def MBX_WDOG_PC : Nat := 0x120090
def MBX_JOBS : Nat := 0x120094
def MBX_EVT_CAUSE : Nat := 0x120098
def MBX_EVT_MASK : Nat := 0x12009C
def MBX_TIMEOUTS : Nat := 0x1200A0
def MBX_I3C_ERRS : Nat := 0x1200A4
def MBX_CLR : Nat := 0x1200A8

/-! Registers of spec chapter 18. -/
def DEV_ID : Nat := 0x0
def REV_ID : Nat := 0x4
def GLB_SERIAL_LO : Nat := 0x8
def GLB_SERIAL_HI : Nat := 0xC
def CROSS_CNT_LO : Nat := 0x10
def CROSS_CNT_HI : Nat := 0x14
def GLB_SW_FLAGS : Nat := 0x18
def GLB_LOCK : Nat := 0x300
def GLB_LOCK_VIOL : Nat := 0x304
def GLB_LOCK_ADDR : Nat := 0x308
def CFG_CTRL : Nat := 0x30C
def CFG_CRC : Nat := 0x310
def CFG_CRC_REF : Nat := 0x314
def CFG_COMMIT : Nat := 0x318
def CFG_STATUS : Nat := 0x31C
def GLB_PAIR_FAIL : Nat := 0x320
def OTP_STATUS : Nat := 0xF0000
def OTP_CTRL : Nat := 0xF0004
def OTP_EVT_CAUSE : Nat := 0xF0008
def OTP_EVT_MASK : Nat := 0xF000C
def OTP_RGN_STATE (r : Nat) : Nat := 0xF0010 + 0x4 * r
def OTP_MARG_IDX : Nat := 0xF0040
def OTP_MARG_DATA : Nat := 0xF0044
def OTP_REDIR_IDX : Nat := 0xF0048
def OTP_REDIR_DATA : Nat := 0xF004C
def OTP_TEMP_LAST : Nat := 0xF0050

/-! Registers of spec chapter 19. -/
def TST_STATUS : Nat := 0x130000
def TST_EVT_CAUSE : Nat := 0x130004
def TST_EVT_MASK : Nat := 0x130008
def TST_BIST_CFG : Nat := 0x13000C
def TST_ALLOW : Nat := 0x130010
def TST_RESULT : Nat := 0x130014
def TST_COVER : Nat := 0x130018
def TST_REC_CTRL : Nat := 0x13001C
def TST_REC_STATUS : Nat := 0x130020
def TST_REPLACE : Nat := 0x130024
def TST_TSV_IDX : Nat := 0x130028
def TST_TSV_DATA : Nat := 0x13002C
def TST_LOOP_CTRL : Nat := 0x130030
def TST_LOOP_STATUS : Nat := 0x130034
def TST_WAYS_IDX : Nat := 0x130038
def TST_WAYS_OFF : Nat := 0x13003C
def TST_JTAG_SEAL : Nat := 0x130040
def TST_JTAG_SEAL_CPL : Nat := 0x130044

end Reg

namespace Bit
open Reg

def GLB_COMMIT_TGT_HI_tgt_hi : Field := ⟨GLB_COMMIT_TGT_HI, 15, 0⟩

def GLB_COMMIT_CTRL_discard : Field := ⟨GLB_COMMIT_CTRL, 2, 2⟩
def GLB_COMMIT_CTRL_cancel : Field := ⟨GLB_COMMIT_CTRL, 1, 1⟩
def GLB_COMMIT_CTRL_arm : Field := ⟨GLB_COMMIT_CTRL, 0, 0⟩

def GLB_COMMIT_STATUS_first_refuser : Field := ⟨GLB_COMMIT_STATUS, 11, 8⟩
def GLB_COMMIT_STATUS_cause : Field := ⟨GLB_COMMIT_STATUS, 6, 4⟩
def GLB_COMMIT_STATUS_state : Field := ⟨GLB_COMMIT_STATUS, 1, 0⟩

def GLB_COMMIT_REFUSERS_staged : Field := ⟨GLB_COMMIT_REFUSERS, 28, 16⟩
def GLB_COMMIT_REFUSERS_refusers : Field := ⟨GLB_COMMIT_REFUSERS, 12, 0⟩

def GLB_COMMIT_LAST_HI_last_hi : Field := ⟨GLB_COMMIT_LAST_HI, 15, 0⟩

def GLB_COMMIT_ABORTS_count : Field := ⟨GLB_COMMIT_ABORTS, 15, 0⟩

def GLB_PERIOD_PHASE_phase : Field := ⟨GLB_PERIOD_PHASE, 5, 0⟩

def GLB_START_STATUS_released : Field := ⟨GLB_START_STATUS, 31, 31⟩
def GLB_START_STATUS_preserved : Field := ⟨GLB_START_STATUS, 30, 30⟩
def GLB_START_STATUS_ledger_used : Field := ⟨GLB_START_STATUS, 29, 29⟩
def GLB_START_STATUS_fw_slot : Field := ⟨GLB_START_STATUS, 28, 28⟩
def GLB_START_STATUS_rom_safe : Field := ⟨GLB_START_STATUS, 27, 27⟩
def GLB_START_STATUS_fail_step : Field := ⟨GLB_START_STATUS, 15, 8⟩
def GLB_START_STATUS_step : Field := ⟨GLB_START_STATUS, 3, 0⟩

def GLB_START_TIME_us : Field := ⟨GLB_START_TIME, 31, 0⟩

def GLB_RESET_CTRL_port : Field := ⟨GLB_RESET_CTRL, 7, 4⟩
def GLB_RESET_CTRL_flush : Field := ⟨GLB_RESET_CTRL, 2, 2⟩
def GLB_RESET_CTRL_kind : Field := ⟨GLB_RESET_CTRL, 1, 0⟩

def GLB_RESET_CAUSE_unconfirmed : Field := ⟨GLB_RESET_CAUSE, 31, 16⟩
def GLB_RESET_CAUSE_flushed : Field := ⟨GLB_RESET_CAUSE, 14, 14⟩
def GLB_RESET_CAUSE_anchor_run : Field := ⟨GLB_RESET_CAUSE, 13, 13⟩
def GLB_RESET_CAUSE_source : Field := ⟨GLB_RESET_CAUSE, 11, 4⟩
def GLB_RESET_CAUSE_kind : Field := ⟨GLB_RESET_CAUSE, 1, 0⟩

def GLB_MEM_STATE_stale : Field := ⟨GLB_MEM_STATE, 31, 16⟩
def GLB_MEM_STATE_fill_incomplete : Field := ⟨GLB_MEM_STATE, 2, 2⟩
def GLB_MEM_STATE_sentinels_checked : Field := ⟨GLB_MEM_STATE, 1, 1⟩
def GLB_MEM_STATE_preserved : Field := ⟨GLB_MEM_STATE, 0, 0⟩

def LANE_STATUS_store_valid (l : Nat) : Field := ⟨LANE_STATUS l, 13, 13⟩
def LANE_STATUS_fde_active (l : Nat) : Field := ⟨LANE_STATUS l, 12, 12⟩
def LANE_STATUS_pll_sel (l : Nat) : Field := ⟨LANE_STATUS l, 11, 11⟩
def LANE_STATUS_adapt_frozen (l : Nat) : Field := ⟨LANE_STATUS l, 10, 10⟩
def LANE_STATUS_los (l : Nat) : Field := ⟨LANE_STATUS l, 9, 9⟩
def LANE_STATUS_cdr_lock (l : Nat) : Field := ⟨LANE_STATUS l, 8, 8⟩
def LANE_STATUS_reach (l : Nat) : Field := ⟨LANE_STATUS l, 7, 6⟩
def LANE_STATUS_gen (l : Nat) : Field := ⟨LANE_STATUS l, 5, 4⟩
def LANE_STATUS_stage (l : Nat) : Field := ⟨LANE_STATUS l, 3, 0⟩

def LANE_CTRL_clear_prefec (l : Nat) : Field := ⟨LANE_CTRL l, 8, 8⟩
def LANE_CTRL_los_thr (l : Nat) : Field := ⟨LANE_CTRL l, 6, 4⟩
def LANE_CTRL_rx_invert (l : Nat) : Field := ⟨LANE_CTRL l, 3, 3⟩
def LANE_CTRL_tx_invert (l : Nat) : Field := ⟨LANE_CTRL l, 2, 2⟩
def LANE_CTRL_rx_disable (l : Nat) : Field := ⟨LANE_CTRL l, 1, 1⟩
def LANE_CTRL_tx_disable (l : Nat) : Field := ⟨LANE_CTRL l, 0, 0⟩

def LANE_TX_FIR0_c0 (l : Nat) : Field := ⟨LANE_TX_FIR0 l, 31, 24⟩
def LANE_TX_FIR0_cm1 (l : Nat) : Field := ⟨LANE_TX_FIR0 l, 23, 16⟩
def LANE_TX_FIR0_cm2 (l : Nat) : Field := ⟨LANE_TX_FIR0 l, 15, 8⟩
def LANE_TX_FIR0_cm3 (l : Nat) : Field := ⟨LANE_TX_FIR0 l, 7, 0⟩

def LANE_TX_FIR1_cp2 (l : Nat) : Field := ⟨LANE_TX_FIR1 l, 15, 8⟩
def LANE_TX_FIR1_cp1 (l : Nat) : Field := ⟨LANE_TX_FIR1 l, 7, 0⟩

def LANE_TX_SWING_lvl_m (l : Nat) : Field := ⟨LANE_TX_SWING l, 15, 12⟩
def LANE_TX_SWING_lvl_p (l : Nat) : Field := ⟨LANE_TX_SWING l, 11, 8⟩
def LANE_TX_SWING_swing (l : Nat) : Field := ⟨LANE_TX_SWING l, 3, 0⟩

def LANE_TX_APPLY_go (l : Nat) : Field := ⟨LANE_TX_APPLY l, 0, 0⟩

def LANE_TX_STATUS_result (l : Nat) : Field := ⟨LANE_TX_STATUS l, 1, 0⟩

def LANE_TOW_SHAPE_IDX_k (l : Nat) : Field := ⟨LANE_TOW_SHAPE_IDX l, 3, 0⟩

def LANE_TOW_SHAPE_DATA_hk (l : Nat) : Field := ⟨LANE_TOW_SHAPE_DATA l, 9, 0⟩

def LANE_MASK_CTRL_action (l : Nat) : Field := ⟨LANE_MASK_CTRL l, 2, 1⟩
def LANE_MASK_CTRL_enable (l : Nat) : Field := ⟨LANE_MASK_CTRL l, 0, 0⟩

def LANE_MASK_STATUS_invalid (l : Nat) : Field := ⟨LANE_MASK_STATUS l, 29, 29⟩
def LANE_MASK_STATUS_set (l : Nat) : Field := ⟨LANE_MASK_STATUS l, 28, 28⟩
def LANE_MASK_STATUS_backoff (l : Nat) : Field := ⟨LANE_MASK_STATUS l, 27, 24⟩
def LANE_MASK_STATUS_excess (l : Nat) : Field := ⟨LANE_MASK_STATUS l, 23, 16⟩
def LANE_MASK_STATUS_worst_bin (l : Nat) : Field := ⟨LANE_MASK_STATUS l, 14, 8⟩
def LANE_MASK_STATUS_bins_over (l : Nat) : Field := ⟨LANE_MASK_STATUS l, 7, 0⟩

def LANE_CTLE_override (l : Nat) : Field := ⟨LANE_CTLE l, 31, 31⟩
def LANE_CTLE_vga (l : Nat) : Field := ⟨LANE_CTLE l, 11, 8⟩
def LANE_CTLE_peak (l : Nat) : Field := ⟨LANE_CTLE l, 4, 0⟩

def LANE_ADC_range (l : Nat) : Field := ⟨LANE_ADC l, 1, 0⟩

def LANE_ADAPT_CTRL_cursor (l : Nat) : Field := ⟨LANE_ADAPT_CTRL l, 15, 12⟩
def LANE_ADAPT_CTRL_restore_en (l : Nat) : Field := ⟨LANE_ADAPT_CTRL l, 8, 8⟩
def LANE_ADAPT_CTRL_fde_mode (l : Nat) : Field := ⟨LANE_ADAPT_CTRL l, 5, 4⟩
def LANE_ADAPT_CTRL_dfe_mode (l : Nat) : Field := ⟨LANE_ADAPT_CTRL l, 3, 2⟩
def LANE_ADAPT_CTRL_ffe_mode (l : Nat) : Field := ⟨LANE_ADAPT_CTRL l, 1, 0⟩

def LANE_ADAPT_STEP_fde_avg (l : Nat) : Field := ⟨LANE_ADAPT_STEP l, 15, 12⟩
def LANE_ADAPT_STEP_fde_mu (l : Nat) : Field := ⟨LANE_ADAPT_STEP l, 11, 8⟩
def LANE_ADAPT_STEP_dfe_mu (l : Nat) : Field := ⟨LANE_ADAPT_STEP l, 7, 4⟩
def LANE_ADAPT_STEP_ffe_mu (l : Nat) : Field := ⟨LANE_ADAPT_STEP l, 3, 0⟩

def LANE_EQ_WR_go (l : Nat) : Field := ⟨LANE_EQ_WR l, 31, 31⟩
def LANE_EQ_WR_target (l : Nat) : Field := ⟨LANE_EQ_WR l, 30, 29⟩
def LANE_EQ_WR_index (l : Nat) : Field := ⟨LANE_EQ_WR l, 23, 16⟩
def LANE_EQ_WR_value (l : Nat) : Field := ⟨LANE_EQ_WR l, 11, 0⟩

def LANE_EQ_RD_IDX_target (l : Nat) : Field := ⟨LANE_EQ_RD_IDX l, 30, 29⟩
def LANE_EQ_RD_IDX_index (l : Nat) : Field := ⟨LANE_EQ_RD_IDX l, 23, 16⟩

def LANE_EQ_RD_DATA_wr_result (l : Nat) : Field := ⟨LANE_EQ_RD_DATA l, 29, 28⟩
def LANE_EQ_RD_DATA_value (l : Nat) : Field := ⟨LANE_EQ_RD_DATA l, 11, 0⟩

def LANE_DFE_d3 (l : Nat) : Field := ⟨LANE_DFE l, 23, 16⟩
def LANE_DFE_d2 (l : Nat) : Field := ⟨LANE_DFE l, 15, 8⟩
def LANE_DFE_d1 (l : Nat) : Field := ⟨LANE_DFE l, 7, 0⟩

def LANE_CDR_bw (l : Nat) : Field := ⟨LANE_CDR l, 1, 0⟩

def LANE_CDR_STATUS_lock (l : Nat) : Field := ⟨LANE_CDR_STATUS l, 31, 31⟩
def LANE_CDR_STATUS_offset (l : Nat) : Field := ⟨LANE_CDR_STATUS l, 15, 0⟩

def LANE_RX_LEVEL_los (l : Nat) : Field := ⟨LANE_RX_LEVEL l, 16, 16⟩
def LANE_RX_LEVEL_amp (l : Nat) : Field := ⟨LANE_RX_LEVEL l, 11, 0⟩

def LANE_PRBS_CTRL_gen_invert (l : Nat) : Field := ⟨LANE_PRBS_CTRL l, 9, 9⟩
def LANE_PRBS_CTRL_clear (l : Nat) : Field := ⟨LANE_PRBS_CTRL l, 8, 8⟩
def LANE_PRBS_CTRL_chk_pat (l : Nat) : Field := ⟨LANE_PRBS_CTRL l, 6, 5⟩
def LANE_PRBS_CTRL_chk_en (l : Nat) : Field := ⟨LANE_PRBS_CTRL l, 4, 4⟩
def LANE_PRBS_CTRL_gen_pat (l : Nat) : Field := ⟨LANE_PRBS_CTRL l, 2, 1⟩
def LANE_PRBS_CTRL_gen_en (l : Nat) : Field := ⟨LANE_PRBS_CTRL l, 0, 0⟩

def LANE_PRBS_STATUS_lock_losses (l : Nat) : Field := ⟨LANE_PRBS_STATUS l, 31, 16⟩
def LANE_PRBS_STATUS_lock (l : Nat) : Field := ⟨LANE_PRBS_STATUS l, 0, 0⟩

def LANE_EYE_CTRL_ber (l : Nat) : Field := ⟨LANE_EYE_CTRL l, 9, 8⟩
def LANE_EYE_CTRL_dwell (l : Nat) : Field := ⟨LANE_EYE_CTRL l, 7, 4⟩
def LANE_EYE_CTRL_kind (l : Nat) : Field := ⟨LANE_EYE_CTRL l, 2, 1⟩
def LANE_EYE_CTRL_start (l : Nat) : Field := ⟨LANE_EYE_CTRL l, 0, 0⟩

def LANE_EYE_STATUS_busy (l : Nat) : Field := ⟨LANE_EYE_STATUS l, 2, 2⟩
def LANE_EYE_STATUS_result (l : Nat) : Field := ⟨LANE_EYE_STATUS l, 1, 0⟩

def LANE_EYE_V0_middle (l : Nat) : Field := ⟨LANE_EYE_V0 l, 25, 16⟩
def LANE_EYE_V0_upper (l : Nat) : Field := ⟨LANE_EYE_V0 l, 9, 0⟩

def LANE_EYE_V1_snr (l : Nat) : Field := ⟨LANE_EYE_V1 l, 25, 16⟩
def LANE_EYE_V1_lower (l : Nat) : Field := ⟨LANE_EYE_V1 l, 9, 0⟩

def LANE_EYE_H_right (l : Nat) : Field := ⟨LANE_EYE_H l, 13, 8⟩
def LANE_EYE_H_left (l : Nat) : Field := ⟨LANE_EYE_H l, 5, 0⟩

def LANE_POWER_mw (l : Nat) : Field := ⟨LANE_POWER l, 9, 0⟩

def LANE_LEDGER_ALLOW_mw : Field := ⟨LANE_LEDGER_ALLOW, 16, 0⟩

def LANE_LEDGER_USED_mw : Field := ⟨LANE_LEDGER_USED, 16, 0⟩

def LANE_LEDGER_STAGED_mw : Field := ⟨LANE_LEDGER_STAGED, 16, 0⟩

def LANE_LEDGER_STATUS_last_cause : Field := ⟨LANE_LEDGER_STATUS, 14, 12⟩
def LANE_LEDGER_STATUS_last_port : Field := ⟨LANE_LEDGER_STATUS, 11, 8⟩
def LANE_LEDGER_STATUS_bad_write : Field := ⟨LANE_LEDGER_STATUS, 2, 2⟩
def LANE_LEDGER_STATUS_over_staged : Field := ⟨LANE_LEDGER_STATUS, 1, 1⟩
def LANE_LEDGER_STATUS_frozen : Field := ⟨LANE_LEDGER_STATUS, 0, 0⟩

def LANE_LEDGER_REFUSALS_count : Field := ⟨LANE_LEDGER_REFUSALS, 15, 0⟩

def LANE_MASK0_reserved (k : Nat) : Field := ⟨LANE_MASK0 k, 31, 16⟩

def LANE_MASK1_reserved (k : Nat) : Field := ⟨LANE_MASK1 k, 31, 16⟩

def LANE_MASK0_level (k : Nat) : Field := ⟨LANE_MASK0 k, 15, 8⟩

def LANE_MASK1_level (k : Nat) : Field := ⟨LANE_MASK1 k, 15, 8⟩

def LANE_MASK0_bin (k : Nat) : Field := ⟨LANE_MASK0 k, 6, 0⟩

def LANE_MASK1_bin (k : Nat) : Field := ⟨LANE_MASK1 k, 6, 0⟩

def LANE_PLL_STATUS_lock : Field := ⟨LANE_PLL_STATUS, 7, 0⟩

def PORT_STATUS_peer_node_valid (p : Nat) : Field := ⟨PORT_STATUS p, 26, 26⟩
def PORT_STATUS_peer_node (p : Nat) : Field := ⟨PORT_STATUS p, 25, 20⟩
def PORT_STATUS_peer_present (p : Nat) : Field := ⟨PORT_STATUS p, 19, 19⟩
def PORT_STATUS_degraded (p : Nat) : Field := ⟨PORT_STATUS p, 18, 18⟩
def PORT_STATUS_ledger_wait (p : Nat) : Field := ⟨PORT_STATUS p, 17, 17⟩
def PORT_STATUS_stepped_down (p : Nat) : Field := ⟨PORT_STATUS p, 16, 16⟩
def PORT_STATUS_stored_path (p : Nat) : Field := ⟨PORT_STATUS p, 15, 15⟩
def PORT_STATUS_hold (p : Nat) : Field := ⟨PORT_STATUS p, 14, 14⟩
def PORT_STATUS_version (p : Nat) : Field := ⟨PORT_STATUS p, 13, 12⟩
def PORT_STATUS_target_reach (p : Nat) : Field := ⟨PORT_STATUS p, 11, 10⟩
def PORT_STATUS_target_gen (p : Nat) : Field := ⟨PORT_STATUS p, 9, 8⟩
def PORT_STATUS_reach (p : Nat) : Field := ⟨PORT_STATUS p, 7, 6⟩
def PORT_STATUS_gen (p : Nat) : Field := ⟨PORT_STATUS p, 5, 4⟩
def PORT_STATUS_stage (p : Nat) : Field := ⟨PORT_STATUS p, 3, 0⟩

def PORT_CTRL_sheddable (p : Nat) : Field := ⟨PORT_CTRL p, 7, 7⟩
def PORT_CTRL_allow_stored (p : Nat) : Field := ⟨PORT_CTRL p, 6, 6⟩
def PORT_CTRL_step_gen (p : Nat) : Field := ⟨PORT_CTRL p, 5, 4⟩
def PORT_CTRL_step_go (p : Nat) : Field := ⟨PORT_CTRL p, 3, 3⟩
def PORT_CTRL_retrain (p : Nat) : Field := ⟨PORT_CTRL p, 2, 2⟩
def PORT_CTRL_test_hold (p : Nat) : Field := ⟨PORT_CTRL p, 1, 1⟩
def PORT_CTRL_enable (p : Nat) : Field := ⟨PORT_CTRL p, 0, 0⟩

def PORT_CAP_versions (p : Nat) : Field := ⟨PORT_CAP p, 9, 8⟩
def PORT_CAP_reach (p : Nat) : Field := ⟨PORT_CAP p, 5, 4⟩
def PORT_CAP_gens (p : Nat) : Field := ⟨PORT_CAP p, 2, 0⟩

def PORT_PEER_CAP_valid (p : Nat) : Field := ⟨PORT_PEER_CAP p, 31, 31⟩
def PORT_PEER_CAP_peer_port (p : Nat) : Field := ⟨PORT_PEER_CAP p, 27, 24⟩
def PORT_PEER_CAP_stored_reach (p : Nat) : Field := ⟨PORT_PEER_CAP p, 19, 18⟩
def PORT_PEER_CAP_stored_gen (p : Nat) : Field := ⟨PORT_PEER_CAP p, 17, 16⟩
def PORT_PEER_CAP_fresh (p : Nat) : Field := ⟨PORT_PEER_CAP p, 14, 14⟩
def PORT_PEER_CAP_allow_stored (p : Nat) : Field := ⟨PORT_PEER_CAP p, 13, 13⟩
def PORT_PEER_CAP_store_valid (p : Nat) : Field := ⟨PORT_PEER_CAP p, 12, 12⟩
def PORT_PEER_CAP_caps (p : Nat) : Field := ⟨PORT_PEER_CAP p, 11, 0⟩

def PORT_NEG_step_outcome (p : Nat) : Field := ⟨PORT_NEG p, 17, 16⟩
def PORT_NEG_gen_cap (p : Nat) : Field := ⟨PORT_NEG p, 13, 12⟩
def PORT_NEG_ledger_cause (p : Nat) : Field := ⟨PORT_NEG p, 10, 8⟩
def PORT_NEG_attempts (p : Nat) : Field := ⟨PORT_NEG p, 7, 4⟩
def PORT_NEG_cause (p : Nat) : Field := ⟨PORT_NEG p, 2, 0⟩

def PORT_FALL_falls (p : Nat) : Field := ⟨PORT_FALL p, 31, 16⟩
def PORT_FALL_stepdowns (p : Nat) : Field := ⟨PORT_FALL p, 15, 8⟩
def PORT_FALL_last_cause (p : Nat) : Field := ⟨PORT_FALL p, 7, 0⟩

def PORT_DEGRADE_stepdown_en (p : Nat) : Field := ⟨PORT_DEGRADE p, 29, 29⟩
def PORT_DEGRADE_enable (p : Nat) : Field := ⟨PORT_DEGRADE p, 28, 28⟩
def PORT_DEGRADE_inner_thr (p : Nat) : Field := ⟨PORT_DEGRADE p, 27, 20⟩
def PORT_DEGRADE_deg_windows (p : Nat) : Field := ⟨PORT_DEGRADE p, 19, 16⟩
def PORT_DEGRADE_ucw_thr (p : Nat) : Field := ⟨PORT_DEGRADE p, 15, 12⟩
def PORT_DEGRADE_cnt_thr (p : Nat) : Field := ⟨PORT_DEGRADE p, 11, 4⟩
def PORT_DEGRADE_hist_thr (p : Nat) : Field := ⟨PORT_DEGRADE p, 3, 0⟩

def PORT_FEC_CTRL_early_stop (p : Nat) : Field := ⟨PORT_FEC_CTRL p, 4, 4⟩
def PORT_FEC_CTRL_inner_iter (p : Nat) : Field := ⟨PORT_FEC_CTRL p, 2, 0⟩

def PORT_FEC_STATUS_iter_avg (p : Nat) : Field := ⟨PORT_FEC_STATUS p, 23, 16⟩
def PORT_FEC_STATUS_skew (p : Nat) : Field := ⟨PORT_FEC_STATUS p, 15, 8⟩
def PORT_FEC_STATUS_lane_aligned (p : Nat) : Field := ⟨PORT_FEC_STATUS p, 3, 3⟩
def PORT_FEC_STATUS_flit_lock (p : Nat) : Field := ⟨PORT_FEC_STATUS p, 2, 2⟩
def PORT_FEC_STATUS_inner_lock (p : Nat) : Field := ⟨PORT_FEC_STATUS p, 1, 1⟩
def PORT_FEC_STATUS_rs_lock (p : Nat) : Field := ⟨PORT_FEC_STATUS p, 0, 0⟩

def PORT_STATS_CLR_clear (p : Nat) : Field := ⟨PORT_STATS_CLR p, 0, 0⟩

def PORT_TOW_CTRL_beacon_int (p : Nat) : Field := ⟨PORT_TOW_CTRL p, 15, 12⟩
def PORT_TOW_CTRL_code_lock_en (p : Nat) : Field := ⟨PORT_TOW_CTRL p, 10, 10⟩
def PORT_TOW_CTRL_mgmt_en (p : Nat) : Field := ⟨PORT_TOW_CTRL p, 9, 9⟩
def PORT_TOW_CTRL_beacon_en (p : Nat) : Field := ⟨PORT_TOW_CTRL p, 8, 8⟩
def PORT_TOW_CTRL_hail_err (p : Nat) : Field := ⟨PORT_TOW_CTRL p, 6, 4⟩
def PORT_TOW_CTRL_tx_code (p : Nat) : Field := ⟨PORT_TOW_CTRL p, 3, 0⟩

def PORT_TOW_RX_CODES_codes (p : Nat) : Field := ⟨PORT_TOW_RX_CODES p, 15, 0⟩

def PORT_TOW_LEVEL_down_att (p : Nat) : Field := ⟨PORT_TOW_LEVEL p, 13, 8⟩
def PORT_TOW_LEVEL_up_att (p : Nat) : Field := ⟨PORT_TOW_LEVEL p, 5, 0⟩

def PORT_TOW_TAG_tag (p : Nat) : Field := ⟨PORT_TOW_TAG p, 11, 0⟩

def PORT_TOW_STATUS_peer_tag (p : Nat) : Field := ⟨PORT_TOW_STATUS p, 31, 20⟩
def PORT_TOW_STATUS_locked_code (p : Nat) : Field := ⟨PORT_TOW_STATUS p, 19, 16⟩
def PORT_TOW_STATUS_code_locked (p : Nat) : Field := ⟨PORT_TOW_STATUS p, 15, 15⟩
def PORT_TOW_STATUS_tx_busy (p : Nat) : Field := ⟨PORT_TOW_STATUS p, 14, 14⟩
def PORT_TOW_STATUS_ctx1 (p : Nat) : Field := ⟨PORT_TOW_STATUS p, 11, 10⟩
def PORT_TOW_STATUS_ctx0 (p : Nat) : Field := ⟨PORT_TOW_STATUS p, 9, 8⟩
def PORT_TOW_STATUS_lanes (p : Nat) : Field := ⟨PORT_TOW_STATUS p, 3, 0⟩

def PORT_TOW_HAIL_errors (p : Nat) : Field := ⟨PORT_TOW_HAIL p, 14, 12⟩
def PORT_TOW_HAIL_metric (p : Nat) : Field := ⟨PORT_TOW_HAIL p, 11, 0⟩

def PORT_TOW_WAKE_sending (p : Nat) : Field := ⟨PORT_TOW_WAKE p, 8, 8⟩
def PORT_TOW_WAKE_dur (p : Nat) : Field := ⟨PORT_TOW_WAKE p, 7, 4⟩
def PORT_TOW_WAKE_go (p : Nat) : Field := ⟨PORT_TOW_WAKE p, 0, 0⟩

def PORT_TOW_BCN0_valid (p : Nat) : Field := ⟨PORT_TOW_BCN0 p, 31, 31⟩
def PORT_TOW_BCN0_state (p : Nat) : Field := ⟨PORT_TOW_BCN0 p, 23, 16⟩
def PORT_TOW_BCN0_port (p : Nat) : Field := ⟨PORT_TOW_BCN0 p, 11, 8⟩
def PORT_TOW_BCN0_node_valid (p : Nat) : Field := ⟨PORT_TOW_BCN0 p, 7, 7⟩
def PORT_TOW_BCN0_node (p : Nat) : Field := ⟨PORT_TOW_BCN0 p, 5, 0⟩

def PORT_TOW_BCN1_seq (p : Nat) : Field := ⟨PORT_TOW_BCN1 p, 31, 16⟩
def PORT_TOW_BCN1_epoch (p : Nat) : Field := ⟨PORT_TOW_BCN1 p, 15, 0⟩

def LANE_TOW_NOISE_valid (l : Nat) : Field := ⟨LANE_TOW_NOISE l, 31, 31⟩
def LANE_TOW_NOISE_level (l : Nat) : Field := ⟨LANE_TOW_NOISE l, 11, 0⟩

def LANE_TOW_SIG_valid (l : Nat) : Field := ⟨LANE_TOW_SIG l, 31, 31⟩
def LANE_TOW_SIG_snr (l : Nat) : Field := ⟨LANE_TOW_SIG l, 27, 16⟩
def LANE_TOW_SIG_sig (l : Nat) : Field := ⟨LANE_TOW_SIG l, 11, 0⟩

def LANE_TOW_PHASE_joined (l : Nat) : Field := ⟨LANE_TOW_PHASE l, 31, 31⟩
def LANE_TOW_PHASE_phase (l : Nat) : Field := ⟨LANE_TOW_PHASE l, 11, 0⟩

def UZ_STATUS_version (p : Nat) : Field := ⟨UZ_STATUS p, 29, 28⟩
def UZ_STATUS_next_seq (p : Nat) : Field := ⟨UZ_STATUS p, 27, 16⟩
def UZ_STATUS_expected (p : Nat) : Field := ⟨UZ_STATUS p, 15, 4⟩
def UZ_STATUS_replaying (p : Nat) : Field := ⟨UZ_STATUS p, 3, 3⟩
def UZ_STATUS_rx_started (p : Nat) : Field := ⟨UZ_STATUS p, 2, 2⟩
def UZ_STATUS_replay_run (p : Nat) : Field := ⟨UZ_STATUS p, 1, 0⟩

def UZ_CTRL_group (p : Nat) : Field := ⟨UZ_CTRL p, 11, 8⟩
def UZ_CTRL_ntf_en (p : Nat) : Field := ⟨UZ_CTRL p, 3, 3⟩
def UZ_CTRL_posted_en (p : Nat) : Field := ⟨UZ_CTRL p, 2, 2⟩

def UZ_CRD_TX0_vc1 (p : Nat) : Field := ⟨UZ_CRD_TX0 p, 31, 16⟩
def UZ_CRD_TX0_vc0 (p : Nat) : Field := ⟨UZ_CRD_TX0 p, 15, 0⟩

def UZ_CRD_TX1_vc2 (p : Nat) : Field := ⟨UZ_CRD_TX1 p, 15, 0⟩

def UZ_CRD_RX0_vc1 (p : Nat) : Field := ⟨UZ_CRD_RX0 p, 31, 16⟩
def UZ_CRD_RX0_vc0 (p : Nat) : Field := ⟨UZ_CRD_RX0 p, 15, 0⟩

def UZ_CRD_RX1_vc2 (p : Nat) : Field := ⟨UZ_CRD_RX1 p, 15, 0⟩

def UZ_RT_in_use (p : Nat) : Field := ⟨UZ_RT p, 31, 16⟩
def UZ_RT_shared_free (p : Nat) : Field := ⟨UZ_RT p, 13, 0⟩

def UZ_LAST_NAK_code (p : Nat) : Field := ⟨UZ_LAST_NAK p, 31, 24⟩
def UZ_LAST_NAK_opcode (p : Nat) : Field := ⟨UZ_LAST_NAK p, 23, 18⟩
def UZ_LAST_NAK_tag (p : Nat) : Field := ⟨UZ_LAST_NAK p, 17, 6⟩
def UZ_LAST_NAK_src (p : Nat) : Field := ⟨UZ_LAST_NAK p, 5, 0⟩

def SVC_RGN_PLACE_size (g : Nat) : Field := ⟨SVC_RGN_PLACE g, 26, 16⟩
def SVC_RGN_PLACE_base (g : Nat) : Field := ⟨SVC_RGN_PLACE g, 9, 0⟩

def SVC_RGN_ATTR_enable (g : Nat) : Field := ⟨SVC_RGN_ATTR g, 31, 31⟩
def SVC_RGN_ATTR_landing (g : Nat) : Field := ⟨SVC_RGN_ATTR g, 9, 8⟩
def SVC_RGN_ATTR_init (g : Nat) : Field := ⟨SVC_RGN_ATTR g, 6, 6⟩
def SVC_RGN_ATTR_ecc (g : Nat) : Field := ⟨SVC_RGN_ATTR g, 5, 5⟩
def SVC_RGN_ATTR_map (g : Nat) : Field := ⟨SVC_RGN_ATTR g, 4, 4⟩
def SVC_RGN_ATTR_type (g : Nat) : Field := ⟨SVC_RGN_ATTR g, 1, 0⟩

def SVC_RGN_STATUS_other (g : Nat) : Field := ⟨SVC_RGN_STATUS g, 19, 16⟩
def SVC_RGN_STATUS_rebuilding (g : Nat) : Field := ⟨SVC_RGN_STATUS g, 8, 8⟩
def SVC_RGN_STATUS_cause (g : Nat) : Field := ⟨SVC_RGN_STATUS g, 3, 1⟩
def SVC_RGN_STATUS_live (g : Nat) : Field := ⟨SVC_RGN_STATUS g, 0, 0⟩

def SVC_PROF_CFG_enable (k : Nat) : Field := ⟨SVC_PROF_CFG k, 31, 31⟩
def SVC_PROF_CFG_pool (k : Nat) : Field := ⟨SVC_PROF_CFG k, 19, 16⟩
def SVC_PROF_CFG_strict (k : Nat) : Field := ⟨SVC_PROF_CFG k, 8, 8⟩
def SVC_PROF_CFG_qstate_en (k : Nat) : Field := ⟨SVC_PROF_CFG k, 7, 7⟩
def SVC_PROF_CFG_qstate_port (k : Nat) : Field := ⟨SVC_PROF_CFG k, 3, 0⟩

def SVC_PROF_LIMIT_limit (k : Nat) : Field := ⟨SVC_PROF_LIMIT k, 23, 0⟩

def SVC_PROF_WMHI_wm_hi (k : Nat) : Field := ⟨SVC_PROF_WMHI k, 23, 0⟩

def SVC_PROF_WMLO_wm_lo (k : Nat) : Field := ⟨SVC_PROF_WMLO k, 23, 0⟩

def SVC_POOL_ROT_mask (g : Nat) (i : Nat) : Field := ⟨SVC_POOL_ROT g i, 31, 0⟩

def SVC_POOL_CFG_low_thr (g : Nat) : Field := ⟨SVC_POOL_CFG g, 23, 0⟩

def SVC_POOL_STATUS_rebuilding (g : Nat) : Field := ⟨SVC_POOL_STATUS g, 31, 31⟩
def SVC_POOL_STATUS_low_hcs (g : Nat) : Field := ⟨SVC_POOL_STATUS g, 23, 16⟩
def SVC_POOL_STATUS_dry_hcs (g : Nat) : Field := ⟨SVC_POOL_STATUS g, 15, 8⟩
def SVC_POOL_STATUS_n (g : Nat) : Field := ⟨SVC_POOL_STATUS g, 7, 0⟩

def SVC_POOL_FREE_free (g : Nat) : Field := ⟨SVC_POOL_FREE g, 27, 0⟩

def SVC_QIND_CTRL_go : Field := ⟨SVC_QIND_CTRL, 31, 31⟩
def SVC_QIND_CTRL_op : Field := ⟨SVC_QIND_CTRL, 25, 24⟩
def SVC_QIND_CTRL_profile : Field := ⟨SVC_QIND_CTRL, 22, 18⟩
def SVC_QIND_CTRL_queue : Field := ⟨SVC_QIND_CTRL, 17, 0⟩

def SVC_QIND_STATUS_result : Field := ⟨SVC_QIND_STATUS, 1, 0⟩

def SVC_QIND_D_word (i : Nat) : Field := ⟨SVC_QIND_D i, 31, 0⟩

def SVC_HCF_IDX_pool : Field := ⟨SVC_HCF_IDX, 19, 16⟩
def SVC_HCF_IDX_hc : Field := ⟨SVC_HCF_IDX, 6, 0⟩

def SVC_HCF_DATA_in_rotation : Field := ⟨SVC_HCF_DATA, 31, 31⟩
def SVC_HCF_DATA_free : Field := ⟨SVC_HCF_DATA, 27, 0⟩

def SVC_METER_CTRL_sweep_en : Field := ⟨SVC_METER_CTRL, 0, 0⟩

def SVC_METER_STATUS_passes : Field := ⟨SVC_METER_STATUS, 31, 16⟩
def SVC_METER_STATUS_late : Field := ⟨SVC_METER_STATUS, 0, 0⟩

def TT_CTRL_force_storm : Field := ⟨TT_CTRL, 2, 2⟩
def TT_CTRL_swap : Field := ⟨TT_CTRL, 0, 0⟩

def TT_STATUS_demands : Field := ⟨TT_STATUS, 23, 20⟩
def TT_STATUS_rate : Field := ⟨TT_STATUS, 19, 18⟩
def TT_STATUS_suspended : Field := ⟨TT_STATUS, 16, 16⟩
def TT_STATUS_storm_matched : Field := ⟨TT_STATUS, 7, 7⟩
def TT_STATUS_storm_valid : Field := ⟨TT_STATUS, 6, 6⟩
def TT_STATUS_standby_valid : Field := ⟨TT_STATUS, 5, 5⟩
def TT_STATUS_active_default : Field := ⟨TT_STATUS, 4, 4⟩
def TT_STATUS_live : Field := ⟨TT_STATUS, 1, 0⟩

def TT_LOAD_ADDR_LO_addr_lo : Field := ⟨TT_LOAD_ADDR_LO, 31, 10⟩

def TT_LOAD_ADDR_HI_addr_hi : Field := ⟨TT_LOAD_ADDR_HI, 3, 0⟩

def TT_LOAD_CTRL_target : Field := ⟨TT_LOAD_CTRL, 1, 1⟩
def TT_LOAD_CTRL_go : Field := ⟨TT_LOAD_CTRL, 0, 0⟩

def TT_VAL_STATUS_errors : Field := ⟨TT_VAL_STATUS, 31, 16⟩
def TT_VAL_STATUS_target : Field := ⟨TT_VAL_STATUS, 11, 11⟩
def TT_VAL_STATUS_result : Field := ⟨TT_VAL_STATUS, 10, 8⟩
def TT_VAL_STATUS_state : Field := ⟨TT_VAL_STATUS, 1, 0⟩

def TT_DUTY_MIN_train : Field := ⟨TT_DUTY_MIN, 23, 16⟩
def TT_DUTY_MIN_repair : Field := ⟨TT_DUTY_MIN, 15, 8⟩
def TT_DUTY_MIN_scrub : Field := ⟨TT_DUTY_MIN, 7, 0⟩

def TT_STORM_BUDGET_berths : Field := ⟨TT_STORM_BUDGET, 9, 0⟩

def TT_VAL_ERR_code (i : Nat) : Field := ⟨TT_VAL_ERR i, 31, 24⟩
def TT_VAL_ERR_class (i : Nat) : Field := ⟨TT_VAL_ERR i, 23, 18⟩
def TT_VAL_ERR_hc (i : Nat) : Field := ⟨TT_VAL_ERR i, 17, 10⟩
def TT_VAL_ERR_entry (i : Nat) : Field := ⟨TT_VAL_ERR i, 9, 0⟩

def TT_FC_CFG_panic_en (c : Nat) : Field := ⟨TT_FC_CFG c, 26, 26⟩
def TT_FC_CFG_cap (c : Nat) : Field := ⟨TT_FC_CFG c, 25, 16⟩
def TT_FC_CFG_target (c : Nat) : Field := ⟨TT_FC_CFG c, 13, 0⟩

def TT_FC_WAYS_ways (c : Nat) : Field := ⟨TT_FC_WAYS c, 15, 0⟩

def TT_FC_OUT_IDX_port : Field := ⟨TT_FC_OUT_IDX, 11, 8⟩
def TT_FC_OUT_IDX_class : Field := ⟨TT_FC_OUT_IDX, 5, 0⟩

def TT_FC_OUT_DATA_count : Field := ⟨TT_FC_OUT_DATA, 9, 0⟩

def HC_ARB_CTRL_port_share : Field := ⟨HC_ARB_CTRL, 31, 25⟩
def HC_ARB_CTRL_run_max : Field := ⟨HC_ARB_CTRL, 23, 18⟩
def HC_ARB_CTRL_wm_hi : Field := ⟨HC_ARB_CTRL, 15, 9⟩
def HC_ARB_CTRL_wm_lo : Field := ⟨HC_ARB_CTRL, 8, 2⟩
def HC_ARB_CTRL_policy : Field := ⟨HC_ARB_CTRL, 0, 0⟩

def HC_ARB_PANIC_burst : Field := ⟨HC_ARB_PANIC, 13, 8⟩
def HC_ARB_PANIC_share : Field := ⟨HC_ARB_PANIC, 4, 0⟩

def HC_ARB_PAUSE_supply : Field := ⟨HC_ARB_PAUSE, 11, 8⟩
def HC_ARB_PAUSE_thermal : Field := ⟨HC_ARB_PAUSE, 7, 4⟩
def HC_ARB_PAUSE_level : Field := ⟨HC_ARB_PAUSE, 3, 0⟩

def HC_ARB_HC_IDX_hc : Field := ⟨HC_ARB_HC_IDX, 6, 0⟩

def HC_ARB_HC_DATA_panic : Field := ⟨HC_ARB_HC_DATA, 31, 21⟩
def HC_ARB_HC_DATA_dir : Field := ⟨HC_ARB_HC_DATA, 17, 17⟩
def HC_ARB_HC_DATA_phase : Field := ⟨HC_ARB_HC_DATA, 16, 16⟩
def HC_ARB_HC_DATA_writes : Field := ⟨HC_ARB_HC_DATA, 14, 8⟩
def HC_ARB_HC_DATA_reads : Field := ⟨HC_ARB_HC_DATA, 6, 0⟩

def HC_MAP_CTRL_target : Field := ⟨HC_MAP_CTRL, 1, 1⟩
def HC_MAP_CTRL_go : Field := ⟨HC_MAP_CTRL, 0, 0⟩

def HC_MAP_STATUS_staged1 : Field := ⟨HC_MAP_STATUS, 9, 9⟩
def HC_MAP_STATUS_staged0 : Field := ⟨HC_MAP_STATUS, 8, 8⟩
def HC_MAP_STATUS_sel : Field := ⟨HC_MAP_STATUS, 7, 4⟩
def HC_MAP_STATUS_result : Field := ⟨HC_MAP_STATUS, 1, 0⟩

def HC_STATUS_banks (h : Nat) : Field := ⟨HC_STATUS h, 25, 20⟩
def HC_STATUS_rate (h : Nat) : Field := ⟨HC_STATUS h, 19, 18⟩
def HC_STATUS_short (h : Nat) : Field := ⟨HC_STATUS h, 17, 17⟩
def HC_STATUS_remapped (h : Nat) : Field := ⟨HC_STATUS h, 16, 16⟩
def HC_STATUS_state (h : Nat) : Field := ⟨HC_STATUS h, 3, 0⟩

def HC_CTRL_track_en (h : Nat) : Field := ⟨HC_CTRL h, 4, 4⟩
def HC_CTRL_retrain (h : Nat) : Field := ⟨HC_CTRL h, 0, 0⟩

def HC_TRAIN_STATUS_us (h : Nat) : Field := ⟨HC_TRAIN_STATUS h, 31, 16⟩
def HC_TRAIN_STATUS_step (h : Nat) : Field := ⟨HC_TRAIN_STATUS h, 15, 12⟩
def HC_TRAIN_STATUS_fail_step (h : Nat) : Field := ⟨HC_TRAIN_STATUS h, 11, 8⟩
def HC_TRAIN_STATUS_last_cause (h : Nat) : Field := ⟨HC_TRAIN_STATUS h, 7, 6⟩
def HC_TRAIN_STATUS_retrains (h : Nat) : Field := ⟨HC_TRAIN_STATUS h, 5, 0⟩

def HC_TSV_REMAP_src_ca (h : Nat) : Field := ⟨HC_TSV_REMAP h, 26, 26⟩
def HC_TSV_REMAP_src1 (h : Nat) : Field := ⟨HC_TSV_REMAP h, 25, 25⟩
def HC_TSV_REMAP_src0 (h : Nat) : Field := ⟨HC_TSV_REMAP h, 24, 24⟩
def HC_TSV_REMAP_ca_fail (h : Nat) : Field := ⟨HC_TSV_REMAP h, 19, 16⟩
def HC_TSV_REMAP_dq_fail1 (h : Nat) : Field := ⟨HC_TSV_REMAP h, 13, 8⟩
def HC_TSV_REMAP_dq_fail0 (h : Nat) : Field := ⟨HC_TSV_REMAP h, 5, 0⟩

def HC_WCK_TRIM_trim (h : Nat) : Field := ⟨HC_WCK_TRIM h, 5, 0⟩

def HC_DQ_IDX_dq (h : Nat) : Field := ⟨HC_DQ_IDX h, 5, 0⟩

def HC_DQ_DATA_eye (h : Nat) : Field := ⟨HC_DQ_DATA h, 31, 24⟩
def HC_DQ_DATA_wr_deskew (h : Nat) : Field := ⟨HC_DQ_DATA h, 20, 16⟩
def HC_DQ_DATA_rd_deskew (h : Nat) : Field := ⟨HC_DQ_DATA h, 12, 8⟩
def HC_DQ_DATA_use (h : Nat) : Field := ⟨HC_DQ_DATA h, 7, 6⟩
def HC_DQ_DATA_vref (h : Nat) : Field := ⟨HC_DQ_DATA h, 5, 0⟩

def HC_BANKS_in_service (h : Nat) : Field := ⟨HC_BANKS h, 31, 0⟩

def HC_REF_IDX_bank (h : Nat) : Field := ⟨HC_REF_IDX h, 4, 0⟩

def HC_REF_DATA_passovers (h : Nat) : Field := ⟨HC_REF_DATA h, 29, 24⟩
def HC_REF_DATA_ptr (h : Nat) : Field := ⟨HC_REF_DATA h, 13, 0⟩

def HC_REPAIR_ADDR_bank (h : Nat) : Field := ⟨HC_REPAIR_ADDR h, 18, 14⟩
def HC_REPAIR_ADDR_row (h : Nat) : Field := ⟨HC_REPAIR_ADDR h, 13, 0⟩

def HC_REPAIR_CTRL_go (h : Nat) : Field := ⟨HC_REPAIR_CTRL h, 0, 0⟩

def HC_REPAIR_STATUS_spares_left (h : Nat) : Field := ⟨HC_REPAIR_STATUS h, 21, 16⟩
def HC_REPAIR_STATUS_state (h : Nat) : Field := ⟨HC_REPAIR_STATUS h, 6, 4⟩
def HC_REPAIR_STATUS_result (h : Nat) : Field := ⟨HC_REPAIR_STATUS h, 2, 0⟩

def HC_DIE_STATUS_ck_trim (d : Nat) : Field := ⟨HC_DIE_STATUS d, 14, 8⟩
def HC_DIE_STATUS_state (d : Nat) : Field := ⟨HC_DIE_STATUS d, 6, 4⟩
def HC_DIE_STATUS_id_ok (d : Nat) : Field := ⟨HC_DIE_STATUS d, 2, 2⟩
def HC_DIE_STATUS_sr_confirmed (d : Nat) : Field := ⟨HC_DIE_STATUS d, 1, 1⟩
def HC_DIE_STATUS_in_sr (d : Nat) : Field := ⟨HC_DIE_STATUS d, 0, 0⟩

def HC_DIE_MW_IDX_mw (d : Nat) : Field := ⟨HC_DIE_MW_IDX d, 3, 0⟩

def HC_DIE_MW_DATA_valid (d : Nat) : Field := ⟨HC_DIE_MW_DATA d, 31, 31⟩
def HC_DIE_MW_DATA_value (d : Nat) : Field := ⟨HC_DIE_MW_DATA d, 15, 0⟩

def ECC_CTRL_pin_erase_en : Field := ⟨ECC_CTRL, 4, 4⟩
def ECC_CTRL_ce_log : Field := ⟨ECC_CTRL, 3, 3⟩
def ECC_CTRL_auto_retire : Field := ⟨ECC_CTRL, 2, 2⟩
def ECC_CTRL_auto_repair : Field := ⟨ECC_CTRL, 1, 1⟩
def ECC_CTRL_poison : Field := ⟨ECC_CTRL, 0, 0⟩

def ECC_STATUS_log_used : Field := ⟨ECC_STATUS, 21, 12⟩
def ECC_STATUS_fill_region : Field := ⟨ECC_STATUS, 11, 8⟩
def ECC_STATUS_clearing : Field := ⟨ECC_STATUS, 1, 1⟩
def ECC_STATUS_filling : Field := ⟨ECC_STATUS, 0, 0⟩

def ECC_PIN_CTRL_thr : Field := ⟨ECC_PIN_CTRL, 7, 0⟩

def ECC_PIN_IDX_hc : Field := ⟨ECC_PIN_IDX, 6, 0⟩

def ECC_PIN_DATA_top_count : Field := ⟨ECC_PIN_DATA, 23, 8⟩
def ECC_PIN_DATA_erased : Field := ⟨ECC_PIN_DATA, 5, 0⟩

def ECC_SCRUB_CTRL_pass_limit : Field := ⟨ECC_SCRUB_CTRL, 15, 8⟩
def ECC_SCRUB_CTRL_open_rate : Field := ⟨ECC_SCRUB_CTRL, 5, 0⟩

def ECC_SCRUB_IDX_hc : Field := ⟨ECC_SCRUB_IDX, 6, 0⟩

def ECC_SCRUB_DATA_passes : Field := ⟨ECC_SCRUB_DATA, 31, 23⟩
def ECC_SCRUB_DATA_pos : Field := ⟨ECC_SCRUB_DATA, 22, 21⟩
def ECC_SCRUB_DATA_bank : Field := ⟨ECC_SCRUB_DATA, 18, 14⟩
def ECC_SCRUB_DATA_row : Field := ⟨ECC_SCRUB_DATA, 13, 0⟩

def ECC_SUSPECT_CTRL_bank_thr : Field := ⟨ECC_SUSPECT_CTRL, 7, 0⟩

def ECC_RETIRE_ADDR_kind : Field := ⟨ECC_RETIRE_ADDR, 31, 31⟩
def ECC_RETIRE_ADDR_hc : Field := ⟨ECC_RETIRE_ADDR, 25, 19⟩
def ECC_RETIRE_ADDR_bank : Field := ⟨ECC_RETIRE_ADDR, 18, 14⟩
def ECC_RETIRE_ADDR_row : Field := ⟨ECC_RETIRE_ADDR, 13, 0⟩

def ECC_RETIRE_CTRL_go : Field := ⟨ECC_RETIRE_CTRL, 0, 0⟩

def ECC_RETIRE_STATUS_rows : Field := ⟨ECC_RETIRE_STATUS, 31, 16⟩
def ECC_RETIRE_STATUS_result : Field := ⟨ECC_RETIRE_STATUS, 2, 0⟩

def LDG_CTRL_wb_thr : Field := ⟨LDG_CTRL, 14, 0⟩

def LDG_STATUS_region : Field := ⟨LDG_STATUS, 23, 20⟩
def LDG_STATUS_powered_down : Field := ⟨LDG_STATUS, 2, 2⟩
def LDG_STATUS_op_busy : Field := ⟨LDG_STATUS, 1, 1⟩
def LDG_STATUS_flushing : Field := ⟨LDG_STATUS, 0, 0⟩

def LDG_OP_CTRL_go : Field := ⟨LDG_OP_CTRL, 31, 31⟩
def LDG_OP_CTRL_region : Field := ⟨LDG_OP_CTRL, 7, 4⟩
def LDG_OP_CTRL_all : Field := ⟨LDG_OP_CTRL, 3, 3⟩
def LDG_OP_CTRL_op : Field := ⟨LDG_OP_CTRL, 1, 0⟩

def LDG_OP_STATUS_busy : Field := ⟨LDG_OP_STATUS, 3, 3⟩
def LDG_OP_STATUS_result : Field := ⟨LDG_OP_STATUS, 2, 0⟩

def LDG_SLICE_IDX_slice : Field := ⟨LDG_SLICE_IDX, 4, 0⟩

def LDG_SLICE_DATA_misses : Field := ⟨LDG_SLICE_DATA, 31, 25⟩
def LDG_SLICE_DATA_flushing : Field := ⟨LDG_SLICE_DATA, 16, 16⟩
def LDG_SLICE_DATA_dirty : Field := ⟨LDG_SLICE_DATA, 14, 0⟩

def FAB_CTRL_holddown : Field := ⟨FAB_CTRL, 25, 16⟩
def FAB_CTRL_beacon_miss : Field := ⟨FAB_CTRL, 11, 8⟩
def FAB_CTRL_auto_restore : Field := ⟨FAB_CTRL, 1, 1⟩
def FAB_CTRL_fwd_en : Field := ⟨FAB_CTRL, 0, 0⟩

def FAB_NODE_valid : Field := ⟨FAB_NODE, 31, 31⟩
def FAB_NODE_strap : Field := ⟨FAB_NODE, 21, 16⟩
def FAB_NODE_src : Field := ⟨FAB_NODE, 8, 8⟩
def FAB_NODE_id : Field := ⟨FAB_NODE, 5, 0⟩

def FAB_NODE_CFG_mode : Field := ⟨FAB_NODE_CFG, 8, 8⟩
def FAB_NODE_CFG_id : Field := ⟨FAB_NODE_CFG, 5, 0⟩

def FAB_STATUS_failover_busy : Field := ⟨FAB_STATUS, 31, 31⟩
def FAB_STATUS_usable : Field := ⟨FAB_STATUS, 15, 0⟩

def FAB_RT_backup (n : Nat) : Field := ⟨FAB_RT n, 31, 16⟩
def FAB_RT_primary (n : Nat) : Field := ⟨FAB_RT n, 15, 0⟩

def FAB_RT_LIVE_which (n : Nat) : Field := ⟨FAB_RT_LIVE n, 17, 16⟩
def FAB_RT_LIVE_ports (n : Nat) : Field := ⟨FAB_RT_LIVE n, 15, 0⟩

def FAB_PORT_CTRL_restore (p : Nat) : Field := ⟨FAB_PORT_CTRL p, 2, 2⟩
def FAB_PORT_CTRL_dateline (p : Nat) : Field := ⟨FAB_PORT_CTRL p, 1, 1⟩
def FAB_PORT_CTRL_fwd (p : Nat) : Field := ⟨FAB_PORT_CTRL p, 0, 0⟩

def FAB_NBR_valid (p : Nat) : Field := ⟨FAB_NBR p, 31, 31⟩
def FAB_NBR_usable (p : Nat) : Field := ⟨FAB_NBR p, 30, 30⟩
def FAB_NBR_reason (p : Nat) : Field := ⟨FAB_NBR p, 29, 27⟩
def FAB_NBR_state (p : Nat) : Field := ⟨FAB_NBR p, 23, 16⟩
def FAB_NBR_peer_port (p : Nat) : Field := ⟨FAB_NBR p, 15, 12⟩
def FAB_NBR_node_valid (p : Nat) : Field := ⟨FAB_NBR p, 7, 7⟩
def FAB_NBR_node (p : Nat) : Field := ⟨FAB_NBR p, 5, 0⟩

def FAB_NBR_AGE_epoch (p : Nat) : Field := ⟨FAB_NBR_AGE p, 31, 16⟩
def FAB_NBR_AGE_age (p : Nat) : Field := ⟨FAB_NBR_AGE p, 15, 0⟩

def THM_CTRL_sink_src : Field := ⟨THM_CTRL, 29, 29⟩
def THM_CTRL_base_off : Field := ⟨THM_CTRL, 27, 24⟩
def THM_CTRL_core_off : Field := ⟨THM_CTRL, 23, 20⟩
def THM_CTRL_down_hold : Field := ⟨THM_CTRL, 15, 0⟩

def THM_STATUS_boundary_limit : Field := ⟨THM_STATUS, 25, 25⟩
def THM_STATUS_sink_fallback : Field := ⟨THM_STATUS, 24, 24⟩
def THM_STATUS_broken : Field := ⟨THM_STATUS, 22, 16⟩
def THM_STATUS_hottest : Field := ⟨THM_STATUS, 14, 8⟩
def THM_STATUS_rate : Field := ⟨THM_STATUS, 5, 4⟩
def THM_STATUS_level : Field := ⟨THM_STATUS, 2, 0⟩

def THM_SINK_temp : Field := ⟨THM_SINK, 10, 0⟩

def THM_BOUNDARY_temp : Field := ⟨THM_BOUNDARY, 10, 0⟩

def THM_NODE_IDX_node : Field := ⟨THM_NODE_IDX, 6, 0⟩

def THM_NODE_DATA0_sensor : Field := ⟨THM_NODE_DATA0, 26, 16⟩
def THM_NODE_DATA0_model : Field := ⟨THM_NODE_DATA0, 10, 0⟩

def THM_NODE_DATA1_broken : Field := ⟨THM_NODE_DATA1, 31, 31⟩
def THM_NODE_DATA1_cause : Field := ⟨THM_NODE_DATA1, 30, 28⟩
def THM_NODE_DATA1_effective : Field := ⟨THM_NODE_DATA1, 10, 0⟩

def THM_TRIP_backstop : Field := ⟨THM_TRIP, 23, 23⟩
def THM_TRIP_node : Field := ⟨THM_TRIP, 22, 16⟩
def THM_TRIP_count : Field := ⟨THM_TRIP, 15, 0⟩

def THM_AVG_core : Field := ⟨THM_AVG, 26, 16⟩
def THM_AVG_base : Field := ⟨THM_AVG, 10, 0⟩

def THM_OSC_valid : Field := ⟨THM_OSC, 31, 31⟩
def THM_OSC_ppm : Field := ⟨THM_OSC, 15, 0⟩

def PWR_MODE_cause_storm : Field := ⟨PWR_MODE, 10, 10⟩
def PWR_MODE_cause_shed : Field := ⟨PWR_MODE, 9, 9⟩
def PWR_MODE_cause_thermal : Field := ⟨PWR_MODE, 8, 8⟩
def PWR_MODE_mode : Field := ⟨PWR_MODE, 3, 0⟩

def PWR_MODE_REQ_go : Field := ⟨PWR_MODE_REQ, 31, 31⟩
def PWR_MODE_REQ_no_bist : Field := ⟨PWR_MODE_REQ, 21, 21⟩
def PWR_MODE_REQ_mimg : Field := ⟨PWR_MODE_REQ, 20, 20⟩
def PWR_MODE_REQ_target : Field := ⟨PWR_MODE_REQ, 19, 16⟩
def PWR_MODE_REQ_tag : Field := ⟨PWR_MODE_REQ, 15, 8⟩

def PWR_MODE_STATUS_inflight_valid : Field := ⟨PWR_MODE_STATUS, 31, 31⟩
def PWR_MODE_STATUS_pending_valid : Field := ⟨PWR_MODE_STATUS, 30, 30⟩
def PWR_MODE_STATUS_step : Field := ⟨PWR_MODE_STATUS, 29, 26⟩
def PWR_MODE_STATUS_inflight_target : Field := ⟨PWR_MODE_STATUS, 25, 22⟩
def PWR_MODE_STATUS_inflight_tag : Field := ⟨PWR_MODE_STATUS, 21, 14⟩
def PWR_MODE_STATUS_pending_target : Field := ⟨PWR_MODE_STATUS, 13, 10⟩
def PWR_MODE_STATUS_pending_tag : Field := ⟨PWR_MODE_STATUS, 9, 2⟩

def PWR_MODE_LAST_cause : Field := ⟨PWR_MODE_LAST, 19, 16⟩
def PWR_MODE_LAST_status : Field := ⟨PWR_MODE_LAST, 15, 12⟩
def PWR_MODE_LAST_target : Field := ⟨PWR_MODE_LAST, 11, 8⟩
def PWR_MODE_LAST_tag : Field := ⟨PWR_MODE_LAST, 7, 0⟩

def PWR_WAKE_EN_inband : Field := ⟨PWR_WAKE_EN, 18, 18⟩
def PWR_WAKE_EN_sideband : Field := ⟨PWR_WAKE_EN, 17, 17⟩
def PWR_WAKE_EN_pin : Field := ⟨PWR_WAKE_EN, 16, 16⟩
def PWR_WAKE_EN_ports : Field := ⟨PWR_WAKE_EN, 15, 0⟩

def PWR_WAKE_latched : Field := ⟨PWR_WAKE, 31, 31⟩
def PWR_WAKE_sources : Field := ⟨PWR_WAKE, 18, 0⟩

def PWR_IDLE_CTRL_hold : Field := ⟨PWR_IDLE_CTRL, 15, 0⟩

def PWR_SUPPLY_bad_write : Field := ⟨PWR_SUPPLY, 24, 24⟩
def PWR_SUPPLY_restoring : Field := ⟨PWR_SUPPLY, 23, 23⟩
def PWR_SUPPLY_step : Field := ⟨PWR_SUPPLY, 22, 20⟩
def PWR_SUPPLY_below : Field := ⟨PWR_SUPPLY, 5, 0⟩

def PWR_DIP0_valid : Field := ⟨PWR_DIP0, 31, 31⟩
def PWR_DIP0_reset_reached : Field := ⟨PWR_DIP0, 30, 30⟩
def PWR_DIP0_step : Field := ⟨PWR_DIP0, 29, 27⟩
def PWR_DIP0_rail : Field := ⟨PWR_DIP0, 26, 24⟩
def PWR_DIP0_min_mv : Field := ⟨PWR_DIP0, 11, 0⟩

def PWR_DIP1_below : Field := ⟨PWR_DIP1, 31, 16⟩
def PWR_DIP1_total : Field := ⟨PWR_DIP1, 15, 0⟩

def PWR_SENT_CTRL_ce_thr : Field := ⟨PWR_SENT_CTRL, 3, 0⟩

def PWR_SENT_STATUS_checked : Field := ⟨PWR_SENT_STATUS, 31, 31⟩
def PWR_SENT_STATUS_pos : Field := ⟨PWR_SENT_STATUS, 30, 29⟩
def PWR_SENT_STATUS_failed : Field := ⟨PWR_SENT_STATUS, 28, 16⟩
def PWR_SENT_STATUS_us : Field := ⟨PWR_SENT_STATUS, 15, 0⟩

def EVT_CTRL_ntf_ports : Field := ⟨EVT_CTRL, 15, 0⟩

def EVT_STATUS_alert : Field := ⟨EVT_STATUS, 31, 31⟩
def EVT_STATUS_first : Field := ⟨EVT_STATUS, 8, 0⟩

def SNAP_CTRL_src : Field := ⟨SNAP_CTRL, 11, 8⟩
def SNAP_CTRL_hold : Field := ⟨SNAP_CTRL, 5, 5⟩
def SNAP_CTRL_drive : Field := ⟨SNAP_CTRL, 4, 4⟩
def SNAP_CTRL_go : Field := ⟨SNAP_CTRL, 0, 0⟩

def SNAP_STATUS_capturing : Field := ⟨SNAP_STATUS, 31, 31⟩
def SNAP_STATUS_held : Field := ⟨SNAP_STATUS, 30, 30⟩
def SNAP_STATUS_newest : Field := ⟨SNAP_STATUS, 21, 20⟩
def SNAP_STATUS_valid : Field := ⟨SNAP_STATUS, 19, 16⟩
def SNAP_STATUS_seq : Field := ⟨SNAP_STATUS, 15, 0⟩

def SNAP_ACK_slots : Field := ⟨SNAP_ACK, 3, 0⟩

def SNAP_RD_IDX_slot : Field := ⟨SNAP_RD_IDX, 11, 10⟩
def SNAP_RD_IDX_word : Field := ⟨SNAP_RD_IDX, 9, 0⟩

def SNAP_TRIG_enable (k : Nat) : Field := ⟨SNAP_TRIG k, 31, 31⟩
def SNAP_TRIG_event (k : Nat) : Field := ⟨SNAP_TRIG k, 8, 0⟩

def MBX_CFG_sources (m : Nat) : Field := ⟨MBX_CFG m, 2, 0⟩

def MBX_STATUS_cmd (m : Nat) : Field := ⟨MBX_STATUS m, 31, 16⟩
def MBX_STATUS_status (m : Nat) : Field := ⟨MBX_STATUS m, 15, 8⟩
def MBX_STATUS_owner (m : Nat) : Field := ⟨MBX_STATUS m, 5, 4⟩
def MBX_STATUS_state (m : Nat) : Field := ⟨MBX_STATUS m, 1, 0⟩

def MBX_I3C_dyn_valid : Field := ⟨MBX_I3C, 15, 15⟩
def MBX_I3C_dyn : Field := ⟨MBX_I3C, 14, 8⟩
def MBX_I3C_static : Field := ⟨MBX_I3C, 6, 0⟩

def MBX_FW_INFO_rom_safe : Field := ⟨MBX_FW_INFO, 9, 9⟩
def MBX_FW_INFO_slot : Field := ⟨MBX_FW_INFO, 8, 8⟩
def MBX_FW_INFO_rollback : Field := ⟨MBX_FW_INFO, 5, 0⟩

def MBX_WDOG_resets : Field := ⟨MBX_WDOG, 31, 16⟩
def MBX_WDOG_run : Field := ⟨MBX_WDOG, 7, 4⟩
def MBX_WDOG_cause : Field := ⟨MBX_WDOG, 3, 0⟩

def MBX_JOBS_running : Field := ⟨MBX_JOBS, 11, 8⟩
def MBX_JOBS_last : Field := ⟨MBX_JOBS, 7, 0⟩

def GLB_SW_FLAGS_mask : Field := ⟨GLB_SW_FLAGS, 31, 16⟩
def GLB_SW_FLAGS_reset_seen : Field := ⟨GLB_SW_FLAGS, 15, 15⟩
def GLB_SW_FLAGS_flags : Field := ⟨GLB_SW_FLAGS, 14, 0⟩

def GLB_LOCK_groups : Field := ⟨GLB_LOCK, 15, 0⟩

def GLB_LOCK_VIOL_count : Field := ⟨GLB_LOCK_VIOL, 31, 16⟩
def GLB_LOCK_VIOL_source : Field := ⟨GLB_LOCK_VIOL, 4, 0⟩

def CFG_CTRL_safe_on_drift : Field := ⟨CFG_CTRL, 1, 1⟩
def CFG_CTRL_check_en : Field := ⟨CFG_CTRL, 0, 0⟩

def CFG_STATUS_commit_busy : Field := ⟨CFG_STATUS, 3, 3⟩
def CFG_STATUS_suspended : Field := ⟨CFG_STATUS, 2, 2⟩
def CFG_STATUS_drift : Field := ⟨CFG_STATUS, 1, 1⟩
def CFG_STATUS_ref_valid : Field := ⟨CFG_STATUS, 0, 0⟩

def GLB_PAIR_FAIL_source : Field := ⟨GLB_PAIR_FAIL, 31, 27⟩
def GLB_PAIR_FAIL_reason : Field := ⟨GLB_PAIR_FAIL, 26, 24⟩
def GLB_PAIR_FAIL_addr : Field := ⟨GLB_PAIR_FAIL, 23, 0⟩

def OTP_STATUS_loaded : Field := ⟨OTP_STATUS, 31, 31⟩
def OTP_STATUS_vqps : Field := ⟨OTP_STATUS, 30, 30⟩
def OTP_STATUS_busy : Field := ⟨OTP_STATUS, 29, 29⟩
def OTP_STATUS_list_full : Field := ⟨OTP_STATUS, 28, 28⟩
def OTP_STATUS_critical_fail : Field := ⟨OTP_STATUS, 27, 27⟩
def OTP_STATUS_passes : Field := ⟨OTP_STATUS, 26, 20⟩
def OTP_STATUS_spares : Field := ⟨OTP_STATUS, 19, 15⟩
def OTP_STATUS_marginal : Field := ⟨OTP_STATUS, 14, 7⟩

def OTP_RGN_STATE_state (r : Nat) : Field := ⟨OTP_RGN_STATE r, 31, 29⟩
def OTP_RGN_STATE_failed (r : Nat) : Field := ⟨OTP_RGN_STATE r, 28, 24⟩
def OTP_RGN_STATE_records (r : Nat) : Field := ⟨OTP_RGN_STATE r, 23, 16⟩
def OTP_RGN_STATE_torn (r : Nat) : Field := ⟨OTP_RGN_STATE r, 15, 11⟩
def OTP_RGN_STATE_length (r : Nat) : Field := ⟨OTP_RGN_STATE r, 10, 0⟩

def OTP_MARG_DATA_valid : Field := ⟨OTP_MARG_DATA, 31, 31⟩
def OTP_MARG_DATA_failed : Field := ⟨OTP_MARG_DATA, 30, 30⟩
def OTP_MARG_DATA_copies : Field := ⟨OTP_MARG_DATA, 29, 28⟩
def OTP_MARG_DATA_region : Field := ⟨OTP_MARG_DATA, 27, 24⟩
def OTP_MARG_DATA_word : Field := ⟨OTP_MARG_DATA, 10, 0⟩

def TST_STATUS_replace : Field := ⟨TST_STATUS, 31, 31⟩
def TST_STATUS_busy : Field := ⟨TST_STATUS, 30, 30⟩
def TST_STATUS_ledger : Field := ⟨TST_STATUS, 29, 28⟩
def TST_STATUS_last : Field := ⟨TST_STATUS, 27, 26⟩
def TST_STATUS_phase : Field := ⟨TST_STATUS, 3, 0⟩

def TST_BIST_CFG_lane_ports : Field := ⟨TST_BIST_CFG, 31, 16⟩
def TST_BIST_CFG_rows_log2 : Field := ⟨TST_BIST_CFG, 11, 8⟩
def TST_BIST_CFG_array_en : Field := ⟨TST_BIST_CFG, 0, 0⟩

def TST_ALLOW_mw : Field := ⟨TST_ALLOW, 16, 0⟩

def TST_RESULT_phases : Field := ⟨TST_RESULT, 11, 0⟩

def TST_COVER_passes : Field := ⟨TST_COVER, 31, 24⟩
def TST_COVER_pointer : Field := ⟨TST_COVER, 13, 0⟩

def TST_REC_CTRL_auto : Field := ⟨TST_REC_CTRL, 1, 1⟩
def TST_REC_CTRL_go : Field := ⟨TST_REC_CTRL, 0, 0⟩

def TST_REC_STATUS_f5_pending : Field := ⟨TST_REC_STATUS, 31, 16⟩
def TST_REC_STATUS_f4_pending : Field := ⟨TST_REC_STATUS, 15, 6⟩
def TST_REC_STATUS_last : Field := ⟨TST_REC_STATUS, 2, 0⟩

def TST_TSV_DATA_state : Field := ⟨TST_TSV_DATA, 31, 30⟩
def TST_TSV_DATA_baseline : Field := ⟨TST_TSV_DATA, 27, 16⟩
def TST_TSV_DATA_last : Field := ⟨TST_TSV_DATA, 11, 0⟩

def TST_LOOP_CTRL_enable : Field := ⟨TST_LOOP_CTRL, 7, 7⟩
def TST_LOOP_CTRL_kind : Field := ⟨TST_LOOP_CTRL, 5, 4⟩
def TST_LOOP_CTRL_port : Field := ⟨TST_LOOP_CTRL, 3, 0⟩

def TST_LOOP_STATUS_state : Field := ⟨TST_LOOP_STATUS, 1, 0⟩

def GLB_COMMIT_TGT_LO_tgt_lo : Field := ⟨GLB_COMMIT_TGT_LO, 31, 0⟩

def PORT_TOW_CLR_clear (p : Nat) : Field := ⟨PORT_TOW_CLR p, 0, 0⟩

def UZ_CLR_clear (p : Nat) : Field := ⟨UZ_CLR p, 0, 0⟩

def SVC_CLR_clear : Field := ⟨SVC_CLR, 0, 0⟩

def TT_CLR_clear : Field := ⟨TT_CLR, 0, 0⟩

def HC_ARB_CLR_clear : Field := ⟨HC_ARB_CLR, 0, 0⟩

def HC_CLR_clear (h : Nat) : Field := ⟨HC_CLR h, 0, 0⟩

def ECC_CLR_clear : Field := ⟨ECC_CLR, 0, 0⟩

def LDG_CLR_clear : Field := ⟨LDG_CLR, 0, 0⟩

def FAB_CLR_clear : Field := ⟨FAB_CLR, 0, 0⟩

def EVT_CLR_clear : Field := ⟨EVT_CLR, 0, 0⟩

def SNAP_CLR_clear : Field := ⟨SNAP_CLR, 0, 0⟩

def MBX_CLR_clear : Field := ⟨MBX_CLR, 0, 0⟩

def SVC_RGN_FC_LO_fc (g : Nat) : Field := ⟨SVC_RGN_FC_LO g, 31, 1⟩

def SVC_RGN_FC_HI_fc (g : Nat) : Field := ⟨SVC_RGN_FC_HI g, 31, 0⟩

def HC_MAP_EDIT_mask (k : Nat) : Field := ⟨HC_MAP_EDIT k, 25, 0⟩

def HC_MAP0_SEL_mask (k : Nat) : Field := ⟨HC_MAP0_SEL k, 25, 0⟩

def HC_MAP1_SEL_mask (k : Nat) : Field := ⟨HC_MAP1_SEL k, 25, 0⟩

def ECC_LOG_HEAD_index : Field := ⟨ECC_LOG_HEAD, 8, 0⟩

def ECC_LOG_TAIL_index : Field := ⟨ECC_LOG_TAIL, 8, 0⟩

def ECC_LOG_IDX_index : Field := ⟨ECC_LOG_IDX, 8, 0⟩

def LDG_PIN_WAYS_ways : Field := ⟨LDG_PIN_WAYS, 15, 0⟩

def LDG_DIRTY_count : Field := ⟨LDG_DIRTY, 19, 0⟩

def FAB_EPOCH_epoch : Field := ⟨FAB_EPOCH, 15, 0⟩

def FAB_REC_count : Field := ⟨FAB_REC, 14, 0⟩

def PWR_CEILING_mw : Field := ⟨PWR_CEILING, 17, 0⟩

def PWR_LEDGER_mw : Field := ⟨PWR_LEDGER, 17, 0⟩

def PWR_BASE_ALLOW_mw : Field := ⟨PWR_BASE_ALLOW, 15, 0⟩

def EVT_PEND_pend (i : Nat) : Field := ⟨EVT_PEND i, 31, 0⟩

def EVT_ALERT_EN_en (i : Nat) : Field := ⟨EVT_ALERT_EN i, 31, 0⟩

def EVT_NTF_EN_en (i : Nat) : Field := ⟨EVT_NTF_EN i, 31, 0⟩

def EVT_LOG_HEAD_index : Field := ⟨EVT_LOG_HEAD, 11, 0⟩

def EVT_LOG_TAIL_index : Field := ⟨EVT_LOG_TAIL, 11, 0⟩

def EVT_LOG_IDX_index : Field := ⟨EVT_LOG_IDX, 11, 0⟩

def EVT_CNT_IDX_event : Field := ⟨EVT_CNT_IDX, 8, 0⟩

def CFG_COMMIT_go : Field := ⟨CFG_COMMIT, 0, 0⟩

def OTP_CTRL_reread : Field := ⟨OTP_CTRL, 0, 0⟩

def OTP_MARG_IDX_entry : Field := ⟨OTP_MARG_IDX, 5, 0⟩

def OTP_REDIR_IDX_entry : Field := ⟨OTP_REDIR_IDX, 3, 0⟩

def OTP_TEMP_LAST_temp : Field := ⟨OTP_TEMP_LAST, 10, 0⟩

def TST_TSV_IDX_index : Field := ⟨TST_TSV_IDX, 12, 0⟩

def TST_WAYS_IDX_slice : Field := ⟨TST_WAYS_IDX, 4, 0⟩

def TST_WAYS_OFF_ways : Field := ⟨TST_WAYS_OFF, 15, 0⟩

def TST_REPLACE_causes : Field := ⟨TST_REPLACE, 9, 0⟩

def TST_JTAG_SEAL_region : Field := ⟨TST_JTAG_SEAL, 2, 0⟩

def GLB_LOCK_ADDR_addr : Field := ⟨GLB_LOCK_ADDR, 23, 0⟩

end Bit

/-- An event cause bit: its cause and mask registers, its bit, and the event it raises (R126, R483). -/
structure CauseBit where
  cause : Nat
  mask : Nat
  bit : Nat
  event : Nat
  deriving DecidableEq, Repr

namespace Cause
open Reg

def LANE_pll_unlock (l : Nat) : CauseBit := ⟨LANE_EVT_CAUSE l, LANE_EVT_MASK l, 9, l⟩
def LANE_ledger_refused (l : Nat) : CauseBit := ⟨LANE_EVT_CAUSE l, LANE_EVT_MASK l, 8, l⟩
def LANE_eye_done (l : Nat) : CauseBit := ⟨LANE_EVT_CAUSE l, LANE_EVT_MASK l, 7, l⟩
def LANE_fir_refused (l : Nat) : CauseBit := ⟨LANE_EVT_CAUSE l, LANE_EVT_MASK l, 6, l⟩
def LANE_prbs_lock_lost (l : Nat) : CauseBit := ⟨LANE_EVT_CAUSE l, LANE_EVT_MASK l, 5, l⟩
def LANE_mask_violation (l : Nat) : CauseBit := ⟨LANE_EVT_CAUSE l, LANE_EVT_MASK l, 4, l⟩
def LANE_adapt_frozen (l : Nat) : CauseBit := ⟨LANE_EVT_CAUSE l, LANE_EVT_MASK l, 3, l⟩
def LANE_adapt_restore (l : Nat) : CauseBit := ⟨LANE_EVT_CAUSE l, LANE_EVT_MASK l, 2, l⟩
def LANE_cdr_unlock (l : Nat) : CauseBit := ⟨LANE_EVT_CAUSE l, LANE_EVT_MASK l, 1, l⟩
def LANE_los (l : Nat) : CauseBit := ⟨LANE_EVT_CAUSE l, LANE_EVT_MASK l, 0, l⟩
def PORT_degrade_floor (p : Nat) : CauseBit := ⟨PORT_EVT_CAUSE p, PORT_EVT_MASK p, 10, 128 + p⟩
def PORT_degrade_warn (p : Nat) : CauseBit := ⟨PORT_EVT_CAUSE p, PORT_EVT_MASK p, 9, 128 + p⟩
def PORT_deadline (p : Nat) : CauseBit := ⟨PORT_EVT_CAUSE p, PORT_EVT_MASK p, 8, 128 + p⟩
def PORT_ledger_wait (p : Nat) : CauseBit := ⟨PORT_EVT_CAUSE p, PORT_EVT_MASK p, 7, 128 + p⟩
def PORT_negotiate_fail (p : Nat) : CauseBit := ⟨PORT_EVT_CAUSE p, PORT_EVT_MASK p, 6, 128 + p⟩
def PORT_step_result (p : Nat) : CauseBit := ⟨PORT_EVT_CAUSE p, PORT_EVT_MASK p, 5, 128 + p⟩
def PORT_stepdown (p : Nat) : CauseBit := ⟨PORT_EVT_CAUSE p, PORT_EVT_MASK p, 4, 128 + p⟩
def PORT_retrain_failed (p : Nat) : CauseBit := ⟨PORT_EVT_CAUSE p, PORT_EVT_MASK p, 3, 128 + p⟩
def PORT_quick_retrain (p : Nat) : CauseBit := ⟨PORT_EVT_CAUSE p, PORT_EVT_MASK p, 2, 128 + p⟩
def PORT_down (p : Nat) : CauseBit := ⟨PORT_EVT_CAUSE p, PORT_EVT_MASK p, 1, 128 + p⟩
def PORT_up (p : Nat) : CauseBit := ⟨PORT_EVT_CAUSE p, PORT_EVT_MASK p, 0, 128 + p⟩
def PORT_TOW_self_echo (p : Nat) : CauseBit := ⟨PORT_TOW_EVT_CAUSE p, PORT_TOW_EVT_MASK p, 9, 128 + p⟩
def PORT_TOW_beacon_skip (p : Nat) : CauseBit := ⟨PORT_TOW_EVT_CAUSE p, PORT_TOW_EVT_MASK p, 8, 128 + p⟩
def PORT_TOW_mgmt_fail (p : Nat) : CauseBit := ⟨PORT_TOW_EVT_CAUSE p, PORT_TOW_EVT_MASK p, 7, 128 + p⟩
def PORT_TOW_wake_rx (p : Nat) : CauseBit := ⟨PORT_TOW_EVT_CAUSE p, PORT_TOW_EVT_MASK p, 6, 128 + p⟩
def PORT_TOW_code_lost (p : Nat) : CauseBit := ⟨PORT_TOW_EVT_CAUSE p, PORT_TOW_EVT_MASK p, 5, 128 + p⟩
def PORT_TOW_code_lock (p : Nat) : CauseBit := ⟨PORT_TOW_EVT_CAUSE p, PORT_TOW_EVT_MASK p, 4, 128 + p⟩
def PORT_TOW_false_lock (p : Nat) : CauseBit := ⟨PORT_TOW_EVT_CAUSE p, PORT_TOW_EVT_MASK p, 3, 128 + p⟩
def PORT_TOW_crc_err (p : Nat) : CauseBit := ⟨PORT_TOW_EVT_CAUSE p, PORT_TOW_EVT_MASK p, 2, 128 + p⟩
def PORT_TOW_hdr_err (p : Nat) : CauseBit := ⟨PORT_TOW_EVT_CAUSE p, PORT_TOW_EVT_MASK p, 1, 128 + p⟩
def PORT_TOW_frame_rx (p : Nat) : CauseBit := ⟨PORT_TOW_EVT_CAUSE p, PORT_TOW_EVT_MASK p, 0, 128 + p⟩
def UZ_cpl_discard (p : Nat) : CauseBit := ⟨UZ_EVT_CAUSE p, UZ_EVT_MASK p, 8, 128 + p⟩
def UZ_abandoned (p : Nat) : CauseBit := ⟨UZ_EVT_CAUSE p, UZ_EVT_MASK p, 7, 128 + p⟩
def UZ_ntf_drop (p : Nat) : CauseBit := ⟨UZ_EVT_CAUSE p, UZ_EVT_MASK p, 6, 128 + p⟩
def UZ_tag_busy (p : Nat) : CauseBit := ⟨UZ_EVT_CAUSE p, UZ_EVT_MASK p, 5, 128 + p⟩
def UZ_nak_sent (p : Nat) : CauseBit := ⟨UZ_EVT_CAUSE p, UZ_EVT_MASK p, 4, 128 + p⟩
def UZ_malformed (p : Nat) : CauseBit := ⟨UZ_EVT_CAUSE p, UZ_EVT_MASK p, 3, 128 + p⟩
def UZ_bad_flit (p : Nat) : CauseBit := ⟨UZ_EVT_CAUSE p, UZ_EVT_MASK p, 2, 128 + p⟩
def UZ_replay_limit (p : Nat) : CauseBit := ⟨UZ_EVT_CAUSE p, UZ_EVT_MASK p, 1, 128 + p⟩
def UZ_replay (p : Nat) : CauseBit := ⟨UZ_EVT_CAUSE p, UZ_EVT_MASK p, 0, 128 + p⟩
def SVC_meter_sweep_late : CauseBit := ⟨SVC_EVT_CAUSE, SVC_EVT_MASK, 8, 232⟩
def SVC_q_full_drop : CauseBit := ⟨SVC_EVT_CAUSE, SVC_EVT_MASK, 7, 228⟩
def SVC_pool_rebuilt : CauseBit := ⟨SVC_EVT_CAUSE, SVC_EVT_MASK, 6, 230⟩
def SVC_pkt_truncated : CauseBit := ⟨SVC_EVT_CAUSE, SVC_EVT_MASK, 5, 229⟩
def SVC_pool_exhausted : CauseBit := ⟨SVC_EVT_CAUSE, SVC_EVT_MASK, 4, 227⟩
def SVC_pool_dry : CauseBit := ⟨SVC_EVT_CAUSE, SVC_EVT_MASK, 3, 226⟩
def SVC_pool_low : CauseBit := ⟨SVC_EVT_CAUSE, SVC_EVT_MASK, 2, 225⟩
def SVC_region_invalid : CauseBit := ⟨SVC_EVT_CAUSE, SVC_EVT_MASK, 1, 224⟩
def TT_storm_unmatched : CauseBit := ⟨TT_EVT_CAUSE, TT_EVT_MASK, 9, 249⟩
def TT_hc_short : CauseBit := ⟨TT_EVT_CAUSE, TT_EVT_MASK, 8, 248⟩
def TT_envelope_excess : CauseBit := ⟨TT_EVT_CAUSE, TT_EVT_MASK, 7, 247⟩
def TT_bound_miss : CauseBit := ⟨TT_EVT_CAUSE, TT_EVT_MASK, 6, 246⟩
def TT_open_power_pause : CauseBit := ⟨TT_EVT_CAUSE, TT_EVT_MASK, 5, 245⟩
def TT_refresh_rate : CauseBit := ⟨TT_EVT_CAUSE, TT_EVT_MASK, 4, 244⟩
def TT_storm_exit : CauseBit := ⟨TT_EVT_CAUSE, TT_EVT_MASK, 3, 243⟩
def TT_storm_enter : CauseBit := ⟨TT_EVT_CAUSE, TT_EVT_MASK, 2, 242⟩
def TT_class_shortfall : CauseBit := ⟨TT_EVT_CAUSE, TT_EVT_MASK, 1, 241⟩
def TT_load_done : CauseBit := ⟨TT_EVT_CAUSE, TT_EVT_MASK, 0, 240⟩
def HC_drift (h : Nat) : CauseBit := ⟨HC_EVT_CAUSE h, HC_EVT_MASK h, 9, 144 + h / 2⟩
def HC_srf_unconfirmed (h : Nat) : CauseBit := ⟨HC_EVT_CAUSE h, HC_EVT_MASK h, 8, 144 + h / 2⟩
def HC_repair_fail (h : Nat) : CauseBit := ⟨HC_EVT_CAUSE h, HC_EVT_MASK h, 7, 144 + h / 2⟩
def HC_repair_done (h : Nat) : CauseBit := ⟨HC_EVT_CAUSE h, HC_EVT_MASK h, 6, 144 + h / 2⟩
def HC_refresh_forced (h : Nat) : CauseBit := ⟨HC_EVT_CAUSE h, HC_EVT_MASK h, 5, 144 + h / 2⟩
def HC_spare_tsv_exhausted (h : Nat) : CauseBit := ⟨HC_EVT_CAUSE h, HC_EVT_MASK h, 4, 144 + h / 2⟩
def HC_tsv_remap (h : Nat) : CauseBit := ⟨HC_EVT_CAUSE h, HC_EVT_MASK h, 3, 144 + h / 2⟩
def HC_train_fail (h : Nat) : CauseBit := ⟨HC_EVT_CAUSE h, HC_EVT_MASK h, 2, 144 + h / 2⟩
def HC_retrain (h : Nat) : CauseBit := ⟨HC_EVT_CAUSE h, HC_EVT_MASK h, 1, 144 + h / 2⟩
def HC_ca_retry (h : Nat) : CauseBit := ⟨HC_EVT_CAUSE h, HC_EVT_MASK h, 0, 144 + h / 2⟩
def ECC_fill_done : CauseBit := ⟨ECC_EVT_CAUSE, ECC_EVT_MASK, 11, 219⟩
def ECC_bank_retired : CauseBit := ⟨ECC_EVT_CAUSE, ECC_EVT_MASK, 10, 218⟩
def ECC_row_retired : CauseBit := ⟨ECC_EVT_CAUSE, ECC_EVT_MASK, 9, 217⟩
def ECC_repair_dropped : CauseBit := ⟨ECC_EVT_CAUSE, ECC_EVT_MASK, 8, 216⟩
def ECC_pin_erased : CauseBit := ⟨ECC_EVT_CAUSE, ECC_EVT_MASK, 7, 215⟩
def ECC_bank_suspect : CauseBit := ⟨ECC_EVT_CAUSE, ECC_EVT_MASK, 6, 214⟩
def ECC_row_suspect : CauseBit := ⟨ECC_EVT_CAUSE, ECC_EVT_MASK, 5, 213⟩
def ECC_scrub_late : CauseBit := ⟨ECC_EVT_CAUSE, ECC_EVT_MASK, 4, 212⟩
def ECC_scrub_pass : CauseBit := ⟨ECC_EVT_CAUSE, ECC_EVT_MASK, 3, 211⟩
def ECC_log_full : CauseBit := ⟨ECC_EVT_CAUSE, ECC_EVT_MASK, 2, 210⟩
def ECC_ue : CauseBit := ⟨ECC_EVT_CAUSE, ECC_EVT_MASK, 1, 209⟩
def ECC_ce : CauseBit := ⟨ECC_EVT_CAUSE, ECC_EVT_MASK, 0, 208⟩
def LDG_dirty_discarded : CauseBit := ⟨LDG_EVT_CAUSE, LDG_EVT_MASK, 7, 263⟩
def LDG_sram_ue : CauseBit := ⟨LDG_EVT_CAUSE, LDG_EVT_MASK, 6, 262⟩
def LDG_sram_ce : CauseBit := ⟨LDG_EVT_CAUSE, LDG_EVT_MASK, 5, 261⟩
def LDG_no_way : CauseBit := ⟨LDG_EVT_CAUSE, LDG_EVT_MASK, 4, 260⟩
def LDG_pin_overflow : CauseBit := ⟨LDG_EVT_CAUSE, LDG_EVT_MASK, 3, 259⟩
def LDG_dirty_stall : CauseBit := ⟨LDG_EVT_CAUSE, LDG_EVT_MASK, 2, 258⟩
def LDG_fill_error : CauseBit := ⟨LDG_EVT_CAUSE, LDG_EVT_MASK, 1, 257⟩
def LDG_flush_done : CauseBit := ⟨LDG_EVT_CAUSE, LDG_EVT_MASK, 0, 256⟩
def FAB_fwd_discard : CauseBit := ⟨FAB_EVT_CAUSE, FAB_EVT_MASK, 8, 280⟩
def FAB_rec_expired : CauseBit := ⟨FAB_EVT_CAUSE, FAB_EVT_MASK, 7, 279⟩
def FAB_epoch_mismatch : CauseBit := ⟨FAB_EVT_CAUSE, FAB_EVT_MASK, 6, 278⟩
def FAB_dateline_twice : CauseBit := ⟨FAB_EVT_CAUSE, FAB_EVT_MASK, 5, 277⟩
def FAB_no_route : CauseBit := ⟨FAB_EVT_CAUSE, FAB_EVT_MASK, 4, 276⟩
def FAB_nbr_change : CauseBit := ⟨FAB_EVT_CAUSE, FAB_EVT_MASK, 3, 275⟩
def FAB_node_conflict : CauseBit := ⟨FAB_EVT_CAUSE, FAB_EVT_MASK, 2, 274⟩
def FAB_restore : CauseBit := ⟨FAB_EVT_CAUSE, FAB_EVT_MASK, 1, 273⟩
def FAB_failover : CauseBit := ⟨FAB_EVT_CAUSE, FAB_EVT_MASK, 0, 272⟩
def THM_hot_budget : CauseBit := ⟨THM_EVT_CAUSE, THM_EVT_MASK, 8, 296⟩
def THM_sink_stale : CauseBit := ⟨THM_EVT_CAUSE, THM_EVT_MASK, 7, 295⟩
def THM_boundary_limit : CauseBit := ⟨THM_EVT_CAUSE, THM_EVT_MASK, 6, 294⟩
def THM_trip_report : CauseBit := ⟨THM_EVT_CAUSE, THM_EVT_MASK, 5, 293⟩
def THM_level7 : CauseBit := ⟨THM_EVT_CAUSE, THM_EVT_MASK, 4, 292⟩
def THM_diverge_warn : CauseBit := ⟨THM_EVT_CAUSE, THM_EVT_MASK, 3, 291⟩
def THM_sensor_broken : CauseBit := ⟨THM_EVT_CAUSE, THM_EVT_MASK, 2, 290⟩
def THM_rate_select : CauseBit := ⟨THM_EVT_CAUSE, THM_EVT_MASK, 1, 289⟩
def THM_level_change : CauseBit := ⟨THM_EVT_CAUSE, THM_EVT_MASK, 0, 288⟩
def PWR_sentinel_done : CauseBit := ⟨PWR_EVT_CAUSE, PWR_EVT_MASK, 6, 326⟩
def PWR_wake_latched : CauseBit := ⟨PWR_EVT_CAUSE, PWR_EVT_MASK, 5, 325⟩
def PWR_vqps_present : CauseBit := ⟨PWR_EVT_CAUSE, PWR_EVT_MASK, 4, 324⟩
def PWR_pwr_seq_fault : CauseBit := ⟨PWR_EVT_CAUSE, PWR_EVT_MASK, 3, 323⟩
def PWR_shed_step : CauseBit := ⟨PWR_EVT_CAUSE, PWR_EVT_MASK, 2, 322⟩
def PWR_supply_dip : CauseBit := ⟨PWR_EVT_CAUSE, PWR_EVT_MASK, 1, 321⟩
def PWR_mode_done : CauseBit := ⟨PWR_EVT_CAUSE, PWR_EVT_MASK, 0, 320⟩
def MBX_i3c_error : CauseBit := ⟨MBX_EVT_CAUSE, MBX_EVT_MASK, 7, 359⟩
def MBX_evt_log_lost : CauseBit := ⟨MBX_EVT_CAUSE, MBX_EVT_MASK, 6, 358⟩
def MBX_flash_error : CauseBit := ⟨MBX_EVT_CAUSE, MBX_EVT_MASK, 5, 357⟩
def MBX_fw_slot_skipped : CauseBit := ⟨MBX_EVT_CAUSE, MBX_EVT_MASK, 4, 356⟩
def MBX_wdog_reset : CauseBit := ⟨MBX_EVT_CAUSE, MBX_EVT_MASK, 3, 355⟩
def MBX_mbx_timeout : CauseBit := ⟨MBX_EVT_CAUSE, MBX_EVT_MASK, 2, 354⟩
def MBX_job_done : CauseBit := ⟨MBX_EVT_CAUSE, MBX_EVT_MASK, 1, 353⟩
def MBX_fw_reject : CauseBit := ⟨MBX_EVT_CAUSE, MBX_EVT_MASK, 0, 352⟩
def OTP_otp_sealed : CauseBit := ⟨OTP_EVT_CAUSE, OTP_EVT_MASK, 9, 345⟩
def OTP_otp_critical : CauseBit := ⟨OTP_EVT_CAUSE, OTP_EVT_MASK, 8, 344⟩
def OTP_otp_marginal : CauseBit := ⟨OTP_EVT_CAUSE, OTP_EVT_MASK, 7, 343⟩
def OTP_cfg_drift : CauseBit := ⟨OTP_EVT_CAUSE, OTP_EVT_MASK, 6, 342⟩
def OTP_pair_fail : CauseBit := ⟨OTP_EVT_CAUSE, OTP_EVT_MASK, 5, 341⟩
def OTP_lock_viol : CauseBit := ⟨OTP_EVT_CAUSE, OTP_EVT_MASK, 4, 340⟩
def OTP_otp_spare_low : CauseBit := ⟨OTP_EVT_CAUSE, OTP_EVT_MASK, 3, 339⟩
def OTP_otp_redirect : CauseBit := ⟨OTP_EVT_CAUSE, OTP_EVT_MASK, 2, 338⟩
def OTP_otp_prog_fail : CauseBit := ⟨OTP_EVT_CAUSE, OTP_EVT_MASK, 1, 337⟩
def OTP_otp_region : CauseBit := ⟨OTP_EVT_CAUSE, OTP_EVT_MASK, 0, 336⟩
def TST_replace : CauseBit := ⟨TST_EVT_CAUSE, TST_EVT_MASK, 6, 376⟩
def TST_jtag_active : CauseBit := ⟨TST_EVT_CAUSE, TST_EVT_MASK, 5, 375⟩
def TST_ledger_error : CauseBit := ⟨TST_EVT_CAUSE, TST_EVT_MASK, 4, 374⟩
def TST_tsv_trend : CauseBit := ⟨TST_EVT_CAUSE, TST_EVT_MASK, 3, 373⟩
def TST_rec_pending : CauseBit := ⟨TST_EVT_CAUSE, TST_EVT_MASK, 2, 372⟩
def TST_bist_fail : CauseBit := ⟨TST_EVT_CAUSE, TST_EVT_MASK, 1, 371⟩
def TST_bist_done : CauseBit := ⟨TST_EVT_CAUSE, TST_EVT_MASK, 0, 370⟩
def SNAP_snap_done : CauseBit := ⟨SNAP_EVT_CAUSE, SNAP_EVT_MASK, 0, 368⟩
def SNAP_snap_lost : CauseBit := ⟨SNAP_EVT_CAUSE, SNAP_EVT_MASK, 1, 369⟩

end Cause

/-- Rows of the global block. -/
def rowsGlobal : List RegRow := [
  ⟨0x100, 0x4, 1, 0x0, 0x0, .plain, 0xFFFFFFFF, 0x0, 0x0, 0x0, false, 15⟩,  -- GLB_COMMIT_TGT_LO
  ⟨0x104, 0x4, 1, 0x0, 0x0, .plain, 0xFFFF, 0x0, 0x0, 0x0, false, 15⟩,  -- GLB_COMMIT_TGT_HI
  ⟨0x108, 0x4, 1, 0x0, 0x0, .plain, 0x0, 0x7, 0x0, 0x0, false, 15⟩,  -- GLB_COMMIT_CTRL
  ⟨0x10C, 0x4, 1, 0x0, 0x0, .plain, 0x0, 0x0, 0x0, 0x0, false, 16⟩,  -- GLB_COMMIT_STATUS
  ⟨0x110, 0x4, 1, 0x0, 0x0, .plain, 0x0, 0x0, 0x0, 0x0, false, 16⟩,  -- GLB_COMMIT_REFUSERS
  ⟨0x114, 0x4, 1, 0x0, 0x0, .plain, 0x0, 0x0, 0x0, 0x0, true, 16⟩,  -- GLB_COMMIT_LAST_LO
  ⟨0x118, 0x4, 1, 0x0, 0x0, .plain, 0x0, 0x0, 0x0, 0x0, true, 16⟩,  -- GLB_COMMIT_LAST_HI
  ⟨0x11C, 0x4, 1, 0x0, 0x0, .plain, 0x0, 0x0, 0xFFFF, 0x0, false, 16⟩,  -- GLB_COMMIT_ABORTS
  ⟨0x120, 0x4, 1, 0x0, 0x0, .plain, 0x0, 0x0, 0x0, 0x0, false, 16⟩,  -- GLB_PERIOD_PHASE
  ⟨0x200, 0x4, 1, 0x1, 0x0, .plain, 0x0, 0x0, 0x0, 0x0, false, 16⟩,  -- GLB_START_STATUS
  ⟨0x204, 0x4, 1, 0x0, 0x0, .plain, 0x0, 0x0, 0x0, 0x0, false, 16⟩,  -- GLB_START_TIME
  ⟨0x208, 0x4, 1, 0x0, 0x0, .paired, 0xF7, 0x0, 0x0, 0x0, false, 14⟩,  -- GLB_RESET_CTRL
  ⟨0x20C, 0x4, 1, 0x0, 0x0, .complement, 0x0, 0x0, 0x0, 0x0, false, 14⟩,  -- GLB_RESET_CTRL_CPL
  ⟨0x210, 0x4, 1, 0x0, 0x0, .plain, 0x0, 0x0, 0x0, 0x0, false, 16⟩,  -- GLB_RESET_CAUSE
  ⟨0x214, 0x4, 1, 0x0, 0x0, .plain, 0x0, 0x0, 0x0, 0x0, false, 16⟩,  -- GLB_MEM_STATE
  ⟨0x218, 0x4, 1, 0x0, 0x0, .plain, 0x0, 0x0, 0x0, 0x0, true, 16⟩,  -- GLB_ANCHOR_CROSS_LO
  ⟨0x21C, 0x4, 1, 0x0, 0x0, .plain, 0x0, 0x0, 0x0, 0x0, true, 16⟩,  -- GLB_ANCHOR_CROSS_HI
  ⟨0x220, 0x4, 1, 0x0, 0x0, .plain, 0x0, 0x0, 0x0, 0x0, false, 16⟩,  -- GLB_ANCHOR_DIRTY
  ⟨0x280, 0x8, 16, 0x0, 0x0, .plain, 0x0, 0x0, 0x0, 0x0, false, 16⟩,  -- GLB_WSEQ_DONE
  ⟨0x284, 0x8, 16, 0x0, 0x0, .plain, 0x0, 0x0, 0x0, 0x0, false, 16⟩,  -- GLB_WSEQ_SEEN
  ⟨0x0, 0x4, 1, 0x6416, 0x0, .plain, 0x0, 0x0, 0x0, 0x0, false, 16⟩,  -- DEV_ID
  ⟨0x4, 0x4, 1, 0xB0, 0x0, .plain, 0x0, 0x0, 0x0, 0x0, false, 16⟩,  -- REV_ID
  ⟨0x8, 0x4, 1, 0x0, 0x0, .plain, 0x0, 0x0, 0x0, 0x0, false, 16⟩,  -- GLB_SERIAL_LO
  ⟨0xC, 0x4, 1, 0x0, 0x0, .plain, 0x0, 0x0, 0x0, 0x0, false, 16⟩,  -- GLB_SERIAL_HI
  ⟨0x10, 0x4, 1, 0x0, 0x0, .plain, 0x0, 0x0, 0x0, 0x0, true, 16⟩,  -- CROSS_CNT_LO
  ⟨0x14, 0x4, 1, 0x0, 0x0, .plain, 0x0, 0x0, 0x0, 0x0, true, 16⟩,  -- CROSS_CNT_HI
  ⟨0x18, 0x4, 1, 0x0, 0x0, .masked, 0xFFFFFFFF, 0x0, 0x0, 0x0, false, 16⟩,  -- GLB_SW_FLAGS
  ⟨0x300, 0x4, 1, 0x0, 0x0, .plain, 0x0, 0xFFFF, 0x0, 0x0, false, 16⟩,  -- GLB_LOCK
  ⟨0x304, 0x4, 1, 0x0, 0x0, .plain, 0x0, 0x0, 0x0, 0x0, false, 16⟩,  -- GLB_LOCK_VIOL
  ⟨0x308, 0x4, 1, 0x0, 0x0, .plain, 0x0, 0x0, 0x0, 0x0, false, 16⟩,  -- GLB_LOCK_ADDR
  ⟨0x30C, 0x4, 1, 0x0, 0x0, .plain, 0x3, 0x0, 0x0, 0x0, false, 15⟩,  -- CFG_CTRL
  ⟨0x310, 0x4, 1, 0x0, 0x0, .plain, 0x0, 0x0, 0x0, 0x0, false, 16⟩,  -- CFG_CRC
  ⟨0x314, 0x4, 1, 0x0, 0x0, .plain, 0x0, 0x0, 0x0, 0x0, false, 16⟩,  -- CFG_CRC_REF
  ⟨0x318, 0x4, 1, 0x0, 0x0, .plain, 0x0, 0x1, 0x0, 0x0, false, 16⟩,  -- CFG_COMMIT
  ⟨0x31C, 0x4, 1, 0x0, 0x0, .plain, 0x0, 0x0, 0x0, 0x0, false, 16⟩,  -- CFG_STATUS
  ⟨0x320, 0x4, 1, 0x0, 0x0, .plain, 0x0, 0x0, 0x0, 0x0, false, 16⟩  -- GLB_PAIR_FAIL
]

/-- Rows of the lane block. -/
def rowsLane1 : List RegRow := [
  ⟨0x10000, 0x100, 128, 0xC0, 0x0, .plain, 0x0, 0x0, 0x0, 0x0, false, 16⟩,  -- LANE_STATUS
  ⟨0x10004, 0x100, 128, 0x0, 0x0, .plain, 0x0, 0x0, 0x3FF, 0x0, false, 16⟩,  -- LANE_EVT_CAUSE
  ⟨0x10008, 0x100, 128, 0xA0, 0x0, .plain, 0x3FF, 0x0, 0x0, 0x0, false, 8⟩,  -- LANE_EVT_MASK
  ⟨0x1000C, 0x100, 128, 0x20, 0x0, .plain, 0x7F, 0x100, 0x0, 0x0, false, 8⟩,  -- LANE_CTRL
  ⟨0x10010, 0x100, 128, 0x70F80000, 0x0, .plain, 0xFFFFFFFF, 0x0, 0x0, 0x0, false, 8⟩,  -- LANE_TX_FIR0
  ⟨0x10014, 0x100, 128, 0xF8, 0x0, .plain, 0xFFFF, 0x0, 0x0, 0x0, false, 8⟩,  -- LANE_TX_FIR1
  ⟨0x10018, 0x100, 128, 0xA, 0x0, .plain, 0xFF0F, 0x0, 0x0, 0x0, false, 8⟩,  -- LANE_TX_SWING
  ⟨0x1001C, 0x100, 128, 0x0, 0x0, .plain, 0x0, 0x1, 0x0, 0x0, false, 8⟩,  -- LANE_TX_APPLY
  ⟨0x10020, 0x100, 128, 0x0, 0x0, .plain, 0x0, 0x0, 0x0, 0x0, false, 16⟩,  -- LANE_TX_STATUS
  ⟨0x10024, 0x100, 128, 0x0, 0x0, .plain, 0xF, 0x0, 0x0, 0x0, false, 8⟩,  -- LANE_TOW_SHAPE_IDX
  ⟨0x10028, 0x100, 128, 0x1E0, 0x0, .plain, 0x3FF, 0x0, 0x0, 0x0, false, 8⟩,  -- LANE_TOW_SHAPE_DATA
  ⟨0x1002C, 0x100, 128, 0x1, 0x0, .plain, 0x7, 0x0, 0x0, 0x0, false, 8⟩,  -- LANE_MASK_CTRL
  ⟨0x10030, 0x100, 128, 0x0, 0x0, .plain, 0x0, 0x0, 0x0, 0x0, false, 16⟩,  -- LANE_MASK_STATUS
  ⟨0x10040, 0x100, 128, 0x0, 0x0, .plain, 0x80000F1F, 0x0, 0x0, 0x0, false, 8⟩,  -- LANE_CTLE
  ⟨0x10044, 0x100, 128, 0x2, 0x0, .plain, 0x3, 0x0, 0x0, 0x0, false, 8⟩,  -- LANE_ADC
  ⟨0x10048, 0x100, 128, 0x412A, 0x0, .plain, 0xF13F, 0x0, 0x0, 0x0, false, 8⟩,  -- LANE_ADAPT_CTRL
  ⟨0x1004C, 0x100, 128, 0x4466, 0x0, .plain, 0xFFFF, 0x0, 0x0, 0x0, false, 8⟩,  -- LANE_ADAPT_STEP
  ⟨0x10050, 0x100, 128, 0x0, 0x0, .plain, 0x60FF0FFF, 0x80000000, 0x0, 0x0, false, 8⟩,  -- LANE_EQ_WR
  ⟨0x10054, 0x100, 128, 0x0, 0x0, .plain, 0x60FF0000, 0x0, 0x0, 0x0, false, 8⟩,  -- LANE_EQ_RD_IDX
  ⟨0x10058, 0x100, 128, 0x0, 0x0, .plain, 0x0, 0x0, 0x0, 0x0, false, 16⟩,  -- LANE_EQ_RD_DATA
  ⟨0x1005C, 0x100, 128, 0x0, 0x0, .plain, 0x0, 0x0, 0x0, 0x0, false, 16⟩,  -- LANE_DFE
  ⟨0x10060, 0x100, 128, 0x1, 0x0, .plain, 0x3, 0x0, 0x0, 0x0, false, 8⟩,  -- LANE_CDR
  ⟨0x10064, 0x100, 128, 0x0, 0x0, .plain, 0x0, 0x0, 0x0, 0x0, false, 16⟩,  -- LANE_CDR_STATUS
  ⟨0x10068, 0x100, 128, 0x0, 0x0, .plain, 0x0, 0x0, 0x0, 0x0, false, 16⟩,  -- LANE_RX_LEVEL
  ⟨0x10070, 0x100, 128, 0x0, 0x0, .plain, 0x277, 0x100, 0x0, 0x0, false, 8⟩,  -- LANE_PRBS_CTRL
  ⟨0x10074, 0x100, 128, 0x0, 0x0, .plain, 0x0, 0x0, 0x0, 0x0, false, 16⟩,  -- LANE_PRBS_STATUS
  ⟨0x10078, 0x100, 128, 0x0, 0x0, .plain, 0x0, 0x0, 0x0, 0x0, true, 16⟩,  -- LANE_PRBS_BITERR_LO
  ⟨0x1007C, 0x100, 128, 0x0, 0x0, .plain, 0x0, 0x0, 0x0, 0x0, true, 16⟩,  -- LANE_PRBS_BITERR_HI
  ⟨0x10080, 0x100, 128, 0x0, 0x0, .plain, 0x0, 0x0, 0x0, 0x0, true, 16⟩,  -- LANE_PRBS_SYMCNT_LO
  ⟨0x10084, 0x100, 128, 0x0, 0x0, .plain, 0x0, 0x0, 0x0, 0x0, true, 16⟩  -- LANE_PRBS_SYMCNT_HI
]

/-- Rows of the lane block. -/
def rowsLane2 : List RegRow := [
  ⟨0x10088, 0x100, 128, 0x0, 0x0, .plain, 0x0, 0x0, 0x0, 0x0, false, 16⟩,  -- LANE_PRBS_SYMERR
  ⟨0x10090, 0x100, 128, 0x0, 0x0, .plain, 0x0, 0x0, 0x0, 0x0, true, 16⟩,  -- LANE_PREFEC_SYM_LO
  ⟨0x10094, 0x100, 128, 0x0, 0x0, .plain, 0x0, 0x0, 0x0, 0x0, true, 16⟩,  -- LANE_PREFEC_SYM_HI
  ⟨0x100A0, 0x100, 128, 0x180, 0x0, .plain, 0x3F6, 0x1, 0x0, 0x0, false, 8⟩,  -- LANE_EYE_CTRL
  ⟨0x100A4, 0x100, 128, 0x0, 0x0, .plain, 0x0, 0x0, 0x0, 0x0, false, 16⟩,  -- LANE_EYE_STATUS
  ⟨0x100A8, 0x100, 128, 0x0, 0x0, .plain, 0x0, 0x0, 0x0, 0x0, false, 16⟩,  -- LANE_EYE_V0
  ⟨0x100AC, 0x100, 128, 0x0, 0x0, .plain, 0x0, 0x0, 0x0, 0x0, false, 16⟩,  -- LANE_EYE_V1
  ⟨0x100B0, 0x100, 128, 0x0, 0x0, .plain, 0x0, 0x0, 0x0, 0x0, false, 16⟩,  -- LANE_EYE_H
  ⟨0x100B4, 0x100, 128, 0x4, 0x0, .plain, 0x0, 0x0, 0x0, 0x0, false, 16⟩,  -- LANE_POWER
  ⟨0x18000, 0x4, 1, 0xFA00, 0x0, .plain, 0x0, 0x0, 0x0, 0x1FFFF, false, 5⟩,  -- LANE_LEDGER_ALLOW
  ⟨0x18004, 0x4, 1, 0x200, 0x0, .plain, 0x0, 0x0, 0x0, 0x0, false, 16⟩,  -- LANE_LEDGER_USED
  ⟨0x18008, 0x4, 1, 0x200, 0x0, .plain, 0x0, 0x0, 0x0, 0x0, false, 16⟩,  -- LANE_LEDGER_STAGED
  ⟨0x1800C, 0x4, 1, 0x0, 0x0, .plain, 0x0, 0x0, 0x0, 0x0, false, 16⟩,  -- LANE_LEDGER_STATUS
  ⟨0x18010, 0x4, 1, 0x0, 0x0, .plain, 0x0, 0x0, 0xFFFF, 0x0, false, 16⟩,  -- LANE_LEDGER_REFUSALS
  ⟨0x18020, 0x4, 1, 0x5800, 0x0, .plain, 0xFF7F, 0x0, 0x0, 0x0, false, 8⟩,  -- LANE_MASK0
  ⟨0x18024, 0x4, 1, 0x5828, 0x0, .plain, 0xFF7F, 0x0, 0x0, 0x0, false, 8⟩,  -- LANE_MASK0
  ⟨0x18028, 0x4, 1, 0x6430, 0x0, .plain, 0xFF7F, 0x0, 0x0, 0x0, false, 8⟩,  -- LANE_MASK0
  ⟨0x1802C, 0x4, 1, 0x7838, 0x0, .plain, 0xFF7F, 0x0, 0x0, 0x0, false, 8⟩,  -- LANE_MASK0
  ⟨0x18030, 0x4, 1, 0x8C40, 0x0, .plain, 0xFF7F, 0x0, 0x0, 0x0, false, 8⟩,  -- LANE_MASK0
  ⟨0x18034, 0x4, 1, 0x9850, 0x0, .plain, 0xFF7F, 0x0, 0x0, 0x0, false, 8⟩,  -- LANE_MASK0
  ⟨0x18038, 0x4, 1, 0xA060, 0x0, .plain, 0xFF7F, 0x0, 0x0, 0x0, false, 8⟩,  -- LANE_MASK0
  ⟨0x1803C, 0x4, 1, 0xA07F, 0x0, .plain, 0xFF7F, 0x0, 0x0, 0x0, false, 8⟩,  -- LANE_MASK0
  ⟨0x18040, 0x4, 1, 0x1C00, 0x0, .plain, 0xFF7F, 0x0, 0x0, 0x0, false, 8⟩,  -- LANE_MASK1
  ⟨0x18044, 0x4, 1, 0x1C28, 0x0, .plain, 0xFF7F, 0x0, 0x0, 0x0, false, 8⟩,  -- LANE_MASK1
  ⟨0x18048, 0x4, 1, 0x2830, 0x0, .plain, 0xFF7F, 0x0, 0x0, 0x0, false, 8⟩,  -- LANE_MASK1
  ⟨0x1804C, 0x4, 1, 0x3C38, 0x0, .plain, 0xFF7F, 0x0, 0x0, 0x0, false, 8⟩,  -- LANE_MASK1
  ⟨0x18050, 0x4, 1, 0x5040, 0x0, .plain, 0xFF7F, 0x0, 0x0, 0x0, false, 8⟩,  -- LANE_MASK1
  ⟨0x18054, 0x4, 1, 0x5C50, 0x0, .plain, 0xFF7F, 0x0, 0x0, 0x0, false, 8⟩,  -- LANE_MASK1
  ⟨0x18058, 0x4, 1, 0x6460, 0x0, .plain, 0xFF7F, 0x0, 0x0, 0x0, false, 8⟩,  -- LANE_MASK1
  ⟨0x1805C, 0x4, 1, 0x647F, 0x0, .plain, 0xFF7F, 0x0, 0x0, 0x0, false, 8⟩  -- LANE_MASK1
]

/-- Rows of the lane block. -/
def rowsLane3 : List RegRow := [
  ⟨0x18060, 0x4, 1, 0x0, 0x0, .plain, 0x0, 0x0, 0x0, 0x0, false, 16⟩,  -- LANE_PLL_STATUS
  ⟨0x100C0, 0x100, 128, 0x0, 0x0, .plain, 0x0, 0x0, 0x0, 0x0, false, 16⟩,  -- LANE_TOW_NOISE
  ⟨0x100C4, 0x100, 128, 0x0, 0x0, .plain, 0x0, 0x0, 0x0, 0x0, false, 16⟩,  -- LANE_TOW_SIG
  ⟨0x100C8, 0x100, 128, 0x0, 0x0, .plain, 0x0, 0x0, 0x0, 0x0, false, 16⟩  -- LANE_TOW_PHASE
]

/-- Rows of the lane block. -/
def rowsLane : List RegRow := rowsLane1 ++ rowsLane2 ++ rowsLane3

/-- Rows of the port block. -/
def rowsPort1 : List RegRow := [
  ⟨0x40000, 0x400, 16, 0xFC0, 0x0, .plain, 0x0, 0x0, 0x0, 0x0, false, 16⟩,  -- PORT_STATUS
  ⟨0x40004, 0x400, 16, 0x0, 0x0, .plain, 0x0, 0x0, 0x7FF, 0x0, false, 16⟩,  -- PORT_EVT_CAUSE
  ⟨0x40008, 0x400, 16, 0x200, 0x0, .plain, 0x7FF, 0x0, 0x0, 0x0, false, 16⟩,  -- PORT_EVT_MASK
  ⟨0x4000C, 0x400, 16, 0x41, 0x0, .plain, 0xF3, 0xC, 0x0, 0x0, false, 7⟩,  -- PORT_CTRL
  ⟨0x40010, 0x400, 16, 0x307, 0x0, .plain, 0x337, 0x0, 0x0, 0x0, false, 7⟩,  -- PORT_CAP
  ⟨0x40014, 0x400, 16, 0x0, 0x0, .plain, 0x0, 0x0, 0x0, 0x0, false, 16⟩,  -- PORT_PEER_CAP
  ⟨0x40018, 0x400, 16, 0x0, 0x0, .plain, 0x0, 0x0, 0x0, 0x0, false, 16⟩,  -- PORT_PEER_DEV
  ⟨0x4001C, 0x400, 16, 0x0, 0x0, .plain, 0x0, 0x0, 0x0, 0x0, false, 16⟩,  -- PORT_PEER_REV
  ⟨0x40020, 0x400, 16, 0x0, 0x0, .plain, 0x0, 0x0, 0x0, 0x0, false, 16⟩,  -- PORT_NEG
  ⟨0x40024, 0x400, 16, 0x0, 0x0, .plain, 0x0, 0x0, 0x0, 0x0, false, 16⟩,  -- PORT_FALL
  ⟨0x40028, 0x400, 16, 0x0, 0x0, .plain, 0x0, 0x0, 0x0, 0x0, false, 16⟩,  -- PORT_BRINGUP_TIME
  ⟨0x4002C, 0x400, 16, 0x3103208C, 0x0, .plain, 0x3FFFFFFF, 0x0, 0x0, 0x0, false, 7⟩,  -- PORT_DEGRADE
  ⟨0x40030, 0x400, 16, 0x16, 0x0, .plain, 0x17, 0x0, 0x0, 0x0, false, 7⟩,  -- PORT_FEC_CTRL
  ⟨0x40034, 0x400, 16, 0x0, 0x0, .plain, 0x0, 0x0, 0x0, 0x0, false, 16⟩,  -- PORT_FEC_STATUS
  ⟨0x40038, 0x400, 16, 0x0, 0x0, .plain, 0x0, 0x1, 0x0, 0x0, false, 16⟩,  -- PORT_STATS_CLR
  ⟨0x40040, 0x400, 16, 0x0, 0x0, .plain, 0x0, 0x0, 0x0, 0x0, true, 16⟩,  -- PORT_CW_LO
  ⟨0x40044, 0x400, 16, 0x0, 0x0, .plain, 0x0, 0x0, 0x0, 0x0, true, 16⟩,  -- PORT_CW_HI
  ⟨0x40048, 0x400, 16, 0x0, 0x0, .plain, 0x0, 0x0, 0x0, 0x0, true, 16⟩,  -- PORT_CW_CORR_LO
  ⟨0x4004C, 0x400, 16, 0x0, 0x0, .plain, 0x0, 0x0, 0x0, 0x0, true, 16⟩,  -- PORT_CW_CORR_HI
  ⟨0x40050, 0x400, 16, 0x0, 0x0, .plain, 0x0, 0x0, 0x0, 0x0, true, 16⟩,  -- PORT_CW_UNCORR_LO
  ⟨0x40054, 0x400, 16, 0x0, 0x0, .plain, 0x0, 0x0, 0x0, 0x0, true, 16⟩,  -- PORT_CW_UNCORR_HI
  ⟨0x40058, 0x400, 16, 0x0, 0x0, .plain, 0x0, 0x0, 0x0, 0x0, true, 16⟩,  -- PORT_SYM_CORR_LO
  ⟨0x4005C, 0x400, 16, 0x0, 0x0, .plain, 0x0, 0x0, 0x0, 0x0, true, 16⟩,  -- PORT_SYM_CORR_HI
  ⟨0x40060, 0x400, 16, 0x0, 0x0, .plain, 0x0, 0x0, 0x0, 0x0, true, 16⟩,  -- PORT_INNER_BLK_LO
  ⟨0x40064, 0x400, 16, 0x0, 0x0, .plain, 0x0, 0x0, 0x0, 0x0, true, 16⟩,  -- PORT_INNER_BLK_HI
  ⟨0x40068, 0x400, 16, 0x0, 0x0, .plain, 0x0, 0x0, 0x0, 0x0, true, 16⟩,  -- PORT_INNER_FAIL_LO
  ⟨0x4006C, 0x400, 16, 0x0, 0x0, .plain, 0x0, 0x0, 0x0, 0x0, true, 16⟩,  -- PORT_INNER_FAIL_HI
  ⟨0x40080, 0x400, 16, 0x0, 0x0, .plain, 0x0, 0x0, 0x0, 0x0, false, 16⟩,  -- PORT_HIST
  ⟨0x40084, 0x400, 16, 0x0, 0x0, .plain, 0x0, 0x0, 0x0, 0x0, false, 16⟩,  -- PORT_HIST
  ⟨0x40088, 0x400, 16, 0x0, 0x0, .plain, 0x0, 0x0, 0x0, 0x0, false, 16⟩  -- PORT_HIST
]

/-- Rows of the port block. -/
def rowsPort2 : List RegRow := [
  ⟨0x4008C, 0x400, 16, 0x0, 0x0, .plain, 0x0, 0x0, 0x0, 0x0, false, 16⟩,  -- PORT_HIST
  ⟨0x40090, 0x400, 16, 0x0, 0x0, .plain, 0x0, 0x0, 0x0, 0x0, false, 16⟩,  -- PORT_HIST
  ⟨0x40094, 0x400, 16, 0x0, 0x0, .plain, 0x0, 0x0, 0x0, 0x0, false, 16⟩,  -- PORT_HIST
  ⟨0x40098, 0x400, 16, 0x0, 0x0, .plain, 0x0, 0x0, 0x0, 0x0, false, 16⟩,  -- PORT_HIST
  ⟨0x4009C, 0x400, 16, 0x0, 0x0, .plain, 0x0, 0x0, 0x0, 0x0, false, 16⟩,  -- PORT_HIST
  ⟨0x400A0, 0x400, 16, 0x0, 0x0, .plain, 0x0, 0x0, 0x0, 0x0, false, 16⟩,  -- PORT_HIST
  ⟨0x400A4, 0x400, 16, 0x0, 0x0, .plain, 0x0, 0x0, 0x0, 0x0, false, 16⟩,  -- PORT_HIST
  ⟨0x400A8, 0x400, 16, 0x0, 0x0, .plain, 0x0, 0x0, 0x0, 0x0, false, 16⟩,  -- PORT_HIST
  ⟨0x400AC, 0x400, 16, 0x0, 0x0, .plain, 0x0, 0x0, 0x0, 0x0, false, 16⟩,  -- PORT_HIST
  ⟨0x400B0, 0x400, 16, 0x0, 0x0, .plain, 0x0, 0x0, 0x0, 0x0, false, 16⟩,  -- PORT_HIST
  ⟨0x400B4, 0x400, 16, 0x0, 0x0, .plain, 0x0, 0x0, 0x0, 0x0, false, 16⟩,  -- PORT_HIST
  ⟨0x400B8, 0x400, 16, 0x0, 0x0, .plain, 0x0, 0x0, 0x0, 0x0, false, 16⟩,  -- PORT_HIST
  ⟨0x400BC, 0x400, 16, 0x0, 0x0, .plain, 0x0, 0x0, 0x0, 0x0, false, 16⟩,  -- PORT_HIST
  ⟨0x40100, 0x400, 16, 0x1730, 0x1, .plain, 0xF77F, 0x0, 0x0, 0x0, false, 7⟩,  -- PORT_TOW_CTRL
  ⟨0x40104, 0x400, 16, 0xFFFF, 0x0, .plain, 0xFFFF, 0x0, 0x0, 0x0, false, 7⟩,  -- PORT_TOW_RX_CODES
  ⟨0x40108, 0x400, 16, 0x1E, 0x0, .plain, 0x3F3F, 0x0, 0x0, 0x0, false, 7⟩,  -- PORT_TOW_LEVEL
  ⟨0x4010C, 0x400, 16, 0x0, 0x0, .plain, 0x0, 0x0, 0x0, 0x0, false, 16⟩,  -- PORT_TOW_STATUS
  ⟨0x40110, 0x400, 16, 0x0, 0x0, .plain, 0x0, 0x0, 0x3FF, 0x0, false, 16⟩,  -- PORT_TOW_EVT_CAUSE
  ⟨0x40114, 0x400, 16, 0x30B, 0x0, .plain, 0x3FF, 0x0, 0x0, 0x0, false, 16⟩,  -- PORT_TOW_EVT_MASK
  ⟨0x40118, 0x400, 16, 0x0, 0x0, .plain, 0x0, 0x0, 0x0, 0x0, false, 16⟩,  -- PORT_TOW_TAG
  ⟨0x4011C, 0x400, 16, 0x0, 0x0, .plain, 0x0, 0x0, 0x0, 0x0, false, 16⟩,  -- PORT_TOW_HAIL
  ⟨0x40120, 0x400, 16, 0x0, 0x0, .plain, 0x0, 0x0, 0x0, 0x0, false, 16⟩,  -- PORT_TOW_FRAMES_OK
  ⟨0x40124, 0x400, 16, 0x0, 0x0, .plain, 0x0, 0x0, 0x0, 0x0, false, 16⟩,  -- PORT_TOW_HDR_ERR
  ⟨0x40128, 0x400, 16, 0x0, 0x0, .plain, 0x0, 0x0, 0x0, 0x0, false, 16⟩,  -- PORT_TOW_CRC_ERR
  ⟨0x4012C, 0x400, 16, 0x0, 0x0, .plain, 0x0, 0x0, 0x0, 0x0, false, 16⟩,  -- PORT_TOW_FALSELOCK
  ⟨0x40130, 0x400, 16, 0x0, 0x0, .plain, 0x0, 0x0, 0x0, 0x0, false, 16⟩,  -- PORT_TOW_SELF_ECHO
  ⟨0x40134, 0x400, 16, 0x0, 0x0, .plain, 0x0, 0x0, 0x0, 0x0, false, 16⟩,  -- PORT_TOW_TX_FRAMES
  ⟨0x40138, 0x400, 16, 0x0, 0x0, .plain, 0x0, 0x0, 0x0, 0x0, false, 16⟩,  -- PORT_TOW_TX_SKIP
  ⟨0x4013C, 0x400, 16, 0x0, 0x0, .plain, 0x0, 0x1, 0x0, 0x0, false, 16⟩,  -- PORT_TOW_CLR
  ⟨0x40140, 0x400, 16, 0x40, 0x0, .plain, 0xF0, 0x1, 0x0, 0x0, false, 16⟩  -- PORT_TOW_WAKE
]

/-- Rows of the port block. -/
def rowsPort3 : List RegRow := [
  ⟨0x40144, 0x400, 16, 0x0, 0x0, .plain, 0x0, 0x0, 0x0, 0x0, false, 16⟩,  -- PORT_TOW_BCN0
  ⟨0x40148, 0x400, 16, 0x0, 0x0, .plain, 0x0, 0x0, 0x0, 0x0, false, 16⟩  -- PORT_TOW_BCN1
]

/-- Rows of the port block. -/
def rowsPort : List RegRow := rowsPort1 ++ rowsPort2 ++ rowsPort3

/-- Rows of the link block. -/
def rowsLink : List RegRow := [
  ⟨0x50000, 0x400, 16, 0x0, 0x0, .plain, 0x0, 0x0, 0x0, 0x0, false, 16⟩,  -- UZ_STATUS
  ⟨0x50004, 0x400, 16, 0x0, 0x0, .plain, 0x0, 0x0, 0x1FF, 0x0, false, 16⟩,  -- UZ_EVT_CAUSE
  ⟨0x50008, 0x400, 16, 0x15, 0x0, .plain, 0x1FF, 0x0, 0x0, 0x0, false, 16⟩,  -- UZ_EVT_MASK
  ⟨0x5000C, 0x400, 16, 0x4, 0x100, .plain, 0xF0C, 0x0, 0x0, 0x0, false, 7⟩,  -- UZ_CTRL
  ⟨0x50010, 0x400, 16, 0x0, 0x0, .plain, 0x0, 0x0, 0x0, 0x0, false, 16⟩,  -- UZ_CRD_TX0
  ⟨0x50014, 0x400, 16, 0x0, 0x0, .plain, 0x0, 0x0, 0x0, 0x0, false, 16⟩,  -- UZ_CRD_TX1
  ⟨0x50018, 0x400, 16, 0x2002000, 0x0, .plain, 0x0, 0x0, 0x0, 0x0, false, 16⟩,  -- UZ_CRD_RX0
  ⟨0x5001C, 0x400, 16, 0x80, 0x0, .plain, 0x0, 0x0, 0x0, 0x0, false, 16⟩,  -- UZ_CRD_RX1
  ⟨0x50020, 0x400, 16, 0x2000, 0x0, .plain, 0x0, 0x0, 0x0, 0x0, false, 16⟩,  -- UZ_RT
  ⟨0x50024, 0x400, 16, 0x0, 0x0, .plain, 0x0, 0x0, 0x0, 0x0, false, 16⟩,  -- UZ_LAST_NAK
  ⟨0x50040, 0x400, 16, 0x0, 0x0, .plain, 0x0, 0x0, 0x0, 0x0, true, 16⟩,  -- UZ_FLITS_TX_LO
  ⟨0x50044, 0x400, 16, 0x0, 0x0, .plain, 0x0, 0x0, 0x0, 0x0, true, 16⟩,  -- UZ_FLITS_TX_HI
  ⟨0x50048, 0x400, 16, 0x0, 0x0, .plain, 0x0, 0x0, 0x0, 0x0, true, 16⟩,  -- UZ_FLITS_RX_LO
  ⟨0x5004C, 0x400, 16, 0x0, 0x0, .plain, 0x0, 0x0, 0x0, 0x0, true, 16⟩,  -- UZ_FLITS_RX_HI
  ⟨0x50050, 0x400, 16, 0x0, 0x0, .plain, 0x0, 0x0, 0x0, 0x0, false, 16⟩,  -- UZ_BAD_FLITS
  ⟨0x50054, 0x400, 16, 0x0, 0x0, .plain, 0x0, 0x0, 0x0, 0x0, false, 16⟩,  -- UZ_REPLAYS
  ⟨0x50058, 0x400, 16, 0x0, 0x0, .plain, 0x0, 0x0, 0x0, 0x0, false, 16⟩,  -- UZ_NAKS
  ⟨0x5005C, 0x400, 16, 0x0, 0x0, .plain, 0x0, 0x0, 0x0, 0x0, false, 16⟩,  -- UZ_DELAYS
  ⟨0x50060, 0x400, 16, 0x0, 0x0, .plain, 0x0, 0x0, 0x0, 0x0, false, 16⟩,  -- UZ_NTF_DROP
  ⟨0x50064, 0x400, 16, 0x0, 0x0, .plain, 0x0, 0x0, 0x0, 0x0, false, 16⟩,  -- UZ_CPL_DISCARD
  ⟨0x50068, 0x400, 16, 0x0, 0x0, .plain, 0x0, 0x1, 0x0, 0x0, false, 16⟩,  -- UZ_CLR
  ⟨0x5006C, 0x400, 16, 0x0, 0x0, .plain, 0x0, 0x0, 0x0, 0x0, false, 16⟩  -- UZ_UNEXPECTED
]

/-- Rows of the services block. -/
def rowsServices : List RegRow := [
  ⟨0x60000, 0x20, 16, 0x0, 0x0, .plain, 0x0, 0x0, 0x0, 0x7FF03FF, false, 0⟩,  -- SVC_RGN_PLACE
  ⟨0x60004, 0x20, 16, 0x0, 0x0, .plain, 0x0, 0x0, 0x0, 0x80000373, false, 0⟩,  -- SVC_RGN_ATTR
  ⟨0x60008, 0x20, 16, 0x1, 0x0, .plain, 0x0, 0x0, 0x0, 0xFFFFFFFE, false, 0⟩,  -- SVC_RGN_FC_LO
  ⟨0x6000C, 0x20, 16, 0x0, 0x0, .plain, 0x0, 0x0, 0x0, 0xFFFFFFFF, false, 0⟩,  -- SVC_RGN_FC_HI
  ⟨0x60010, 0x20, 16, 0x0, 0x0, .plain, 0x0, 0x0, 0x0, 0x0, false, 16⟩,  -- SVC_RGN_STATUS
  ⟨0x60400, 0x10, 32, 0x0, 0x0, .plain, 0x0, 0x0, 0x0, 0x800F018F, false, 1⟩,  -- SVC_PROF_CFG
  ⟨0x60404, 0x10, 32, 0xFFFFFF, 0x0, .plain, 0x0, 0x0, 0x0, 0xFFFFFF, false, 1⟩,  -- SVC_PROF_LIMIT
  ⟨0x60408, 0x10, 32, 0xFFFFFF, 0x0, .plain, 0x0, 0x0, 0x0, 0xFFFFFF, false, 1⟩,  -- SVC_PROF_WMHI
  ⟨0x6040C, 0x10, 32, 0x0, 0x0, .plain, 0x0, 0x0, 0x0, 0xFFFFFF, false, 1⟩,  -- SVC_PROF_WMLO
  ⟨0x60800, 0x40, 16, 0xFFFFFFFF, 0x0, .plain, 0x0, 0x0, 0x0, 0xFFFFFFFF, false, 1⟩,  -- SVC_POOL_ROT
  ⟨0x60804, 0x40, 16, 0xFFFFFFFF, 0x0, .plain, 0x0, 0x0, 0x0, 0xFFFFFFFF, false, 1⟩,  -- SVC_POOL_ROT
  ⟨0x60808, 0x40, 16, 0xFFFFFFFF, 0x0, .plain, 0x0, 0x0, 0x0, 0xFFFFFFFF, false, 1⟩,  -- SVC_POOL_ROT
  ⟨0x6080C, 0x40, 16, 0xFFFFFFFF, 0x0, .plain, 0x0, 0x0, 0x0, 0xFFFFFFFF, false, 1⟩,  -- SVC_POOL_ROT
  ⟨0x60810, 0x40, 16, 0x4000, 0x0, .plain, 0xFFFFFF, 0x0, 0x0, 0x0, false, 1⟩,  -- SVC_POOL_CFG
  ⟨0x60814, 0x40, 16, 0x0, 0x0, .plain, 0x0, 0x0, 0x0, 0x0, false, 16⟩,  -- SVC_POOL_STATUS
  ⟨0x60818, 0x40, 16, 0x0, 0x0, .plain, 0x0, 0x0, 0x0, 0x0, false, 16⟩,  -- SVC_POOL_FREE
  ⟨0x6081C, 0x40, 16, 0x0, 0x0, .plain, 0x0, 0x0, 0x0, 0x0, false, 16⟩,  -- SVC_POOL_SKIPS
  ⟨0x60C00, 0x4, 1, 0x0, 0x0, .plain, 0x37FFFFF, 0x80000000, 0x0, 0x0, false, 1⟩,  -- SVC_QIND_CTRL
  ⟨0x60C04, 0x4, 1, 0x0, 0x0, .plain, 0x0, 0x0, 0x0, 0x0, false, 16⟩,  -- SVC_QIND_STATUS
  ⟨0x60C10, 0x4, 4, 0x0, 0x0, .plain, 0x0, 0x0, 0x0, 0x0, false, 16⟩,  -- SVC_QIND_D
  ⟨0x60C20, 0x4, 1, 0x0, 0x0, .plain, 0xF007F, 0x0, 0x0, 0x0, false, 16⟩,  -- SVC_HCF_IDX
  ⟨0x60C24, 0x4, 1, 0x0, 0x0, .plain, 0x0, 0x0, 0x0, 0x0, false, 16⟩,  -- SVC_HCF_DATA
  ⟨0x60C30, 0x4, 1, 0x1, 0x0, .plain, 0x1, 0x0, 0x0, 0x0, false, 1⟩,  -- SVC_METER_CTRL
  ⟨0x60C34, 0x4, 1, 0x0, 0x0, .plain, 0x0, 0x0, 0x0, 0x0, false, 16⟩,  -- SVC_METER_STATUS
  ⟨0x60C40, 0x4, 1, 0x0, 0x0, .plain, 0x0, 0x0, 0x1FE, 0x0, false, 16⟩,  -- SVC_EVT_CAUSE
  ⟨0x60C44, 0x4, 1, 0x80, 0x0, .plain, 0x1FE, 0x0, 0x0, 0x0, false, 16⟩,  -- SVC_EVT_MASK
  ⟨0x60C50, 0x4, 1, 0x0, 0x0, .plain, 0x0, 0x0, 0x0, 0x0, false, 16⟩,  -- SVC_ENQ_DROPS
  ⟨0x60C54, 0x4, 1, 0x0, 0x0, .plain, 0x0, 0x0, 0x0, 0x0, false, 16⟩,  -- SVC_PKT_TRUNC
  ⟨0x60C58, 0x4, 1, 0x0, 0x0, .plain, 0x0, 0x0, 0x0, 0x0, false, 16⟩,  -- SVC_QSTATE_LOST
  ⟨0x60C5C, 0x4, 1, 0x0, 0x0, .plain, 0x0, 0x1, 0x0, 0x0, false, 16⟩  -- SVC_CLR
]

/-- Rows of the timetable block. -/
def rowsTimetable : List RegRow := [
  ⟨0x70000, 0x4, 1, 0x0, 0x0, .plain, 0x4, 0x0, 0x0, 0x1, false, 3⟩,  -- TT_CTRL
  ⟨0x70004, 0x4, 1, 0x40010, 0x0, .plain, 0x0, 0x0, 0x0, 0x0, false, 16⟩,  -- TT_STATUS
  ⟨0x70008, 0x4, 1, 0x0, 0x0, .plain, 0xFFFFFC00, 0x0, 0x0, 0x0, false, 3⟩,  -- TT_LOAD_ADDR_LO
  ⟨0x7000C, 0x4, 1, 0x0, 0x0, .plain, 0xF, 0x0, 0x0, 0x0, false, 3⟩,  -- TT_LOAD_ADDR_HI
  ⟨0x70010, 0x4, 1, 0x0, 0x0, .plain, 0x2, 0x1, 0x0, 0x0, false, 3⟩,  -- TT_LOAD_CTRL
  ⟨0x70014, 0x4, 1, 0x0, 0x0, .plain, 0x0, 0x0, 0x0, 0x0, false, 16⟩,  -- TT_VAL_STATUS
  ⟨0x70018, 0x4, 1, 0x0, 0x0, .plain, 0x0, 0x0, 0x0, 0x0, false, 16⟩,  -- TT_ID_ACTIVE
  ⟨0x7001C, 0x4, 1, 0x0, 0x0, .plain, 0x0, 0x0, 0x0, 0x0, false, 16⟩,  -- TT_ID_STANDBY
  ⟨0x70020, 0x4, 1, 0x0, 0x0, .plain, 0x0, 0x0, 0x0, 0x0, false, 16⟩,  -- TT_ID_STORM
  ⟨0x70024, 0x4, 1, 0x0, 0x0, .plain, 0x0, 0x0, 0x0, 0x0, false, 16⟩,  -- TT_PRICE_ACTIVE
  ⟨0x70028, 0x4, 1, 0x0, 0x0, .plain, 0x0, 0x0, 0x0, 0x0, false, 16⟩,  -- TT_PRICE_STANDBY
  ⟨0x7002C, 0x4, 1, 0x0, 0x0, .plain, 0x0, 0x0, 0x0, 0x0, false, 16⟩,  -- TT_PRICE_STORM
  ⟨0x70030, 0x4, 1, 0x402, 0x0, .plain, 0xFFFFFF, 0x0, 0x0, 0x0, false, 3⟩,  -- TT_DUTY_MIN
  ⟨0x70034, 0x4, 1, 0x120, 0x0, .plain, 0x3FF, 0x0, 0x0, 0x0, false, 3⟩,  -- TT_STORM_BUDGET
  ⟨0x70038, 0x4, 1, 0x0, 0x0, .plain, 0x0, 0x0, 0x3FF, 0x0, false, 16⟩,  -- TT_EVT_CAUSE
  ⟨0x7003C, 0x4, 1, 0xA0, 0x0, .plain, 0x3FF, 0x0, 0x0, 0x0, false, 16⟩,  -- TT_EVT_MASK
  ⟨0x70040, 0x4, 16, 0x0, 0x0, .plain, 0x0, 0x0, 0x0, 0x0, false, 16⟩,  -- TT_VAL_ERR
  ⟨0x70080, 0x4, 1, 0x0, 0x0, .plain, 0x0, 0x0, 0x0, 0x0, false, 16⟩,  -- TT_SUSPEND_LO
  ⟨0x70084, 0x4, 1, 0x0, 0x0, .plain, 0x0, 0x0, 0x0, 0x0, false, 16⟩,  -- TT_SUSPEND_HI
  ⟨0x70088, 0x4, 4, 0x0, 0x0, .plain, 0x0, 0x0, 0x0, 0x0, false, 16⟩,  -- TT_HC_SHORT
  ⟨0x70098, 0x4, 1, 0x0, 0x0, .plain, 0x0, 0x0, 0x0, 0x0, false, 16⟩,  -- TT_OPEN_PAUSES
  ⟨0x7009C, 0x4, 1, 0x0, 0x0, .plain, 0x0, 0x0, 0x0, 0x0, false, 16⟩,  -- TT_ENV_EXCESS
  ⟨0x700A0, 0x4, 1, 0x0, 0x0, .plain, 0x0, 0x0, 0x0, 0x0, false, 16⟩,  -- TT_BOUND_MISS
  ⟨0x700A4, 0x4, 1, 0x0, 0x0, .plain, 0x0, 0x1, 0x0, 0x0, false, 16⟩,  -- TT_CLR
  ⟨0x70400, 0x10, 64, 0x44003E8, 0x0, .plain, 0x0, 0x0, 0x0, 0x7FF3FFF, false, 2⟩,  -- TT_FC_CFG
  ⟨0x70404, 0x10, 64, 0xFFFF, 0x0, .plain, 0x0, 0x0, 0x0, 0xFFFF, false, 2⟩,  -- TT_FC_WAYS
  ⟨0x70408, 0x10, 64, 0x0, 0x0, .plain, 0x0, 0x0, 0x0, 0x0, false, 16⟩,  -- TT_FC_LATE
  ⟨0x7040C, 0x10, 64, 0x0, 0x0, .plain, 0x0, 0x0, 0x0, 0x0, false, 16⟩,  -- TT_FC_PANIC
  ⟨0x70800, 0x4, 1, 0x0, 0x0, .plain, 0xF3F, 0x0, 0x0, 0x0, false, 16⟩,  -- TT_FC_OUT_IDX
  ⟨0x70804, 0x4, 1, 0x0, 0x0, .plain, 0x0, 0x0, 0x0, 0x0, false, 16⟩  -- TT_FC_OUT_DATA
]

/-- Rows of the arb block. -/
def rowsArb : List RegRow := [
  ⟨0x90000, 0x4, 1, 0x40406040, 0x0, .plain, 0x0, 0x0, 0x0, 0xFEFCFFFD, false, 4⟩,  -- HC_ARB_CTRL
  ⟨0x90004, 0x4, 1, 0x808, 0x0, .plain, 0x3F1F, 0x0, 0x0, 0x0, false, 4⟩,  -- HC_ARB_PANIC
  ⟨0x90008, 0x4, 1, 0x0, 0x0, .plain, 0x0, 0x0, 0x0, 0x0, false, 16⟩,  -- HC_ARB_PAUSE
  ⟨0x9000C, 0x4, 1, 0x0, 0x0, .plain, 0x7F, 0x0, 0x0, 0x0, false, 16⟩,  -- HC_ARB_HC_IDX
  ⟨0x90010, 0x4, 1, 0x0, 0x0, .plain, 0x0, 0x0, 0x0, 0x0, false, 16⟩,  -- HC_ARB_HC_DATA
  ⟨0x90014, 0x4, 1, 0x0, 0x0, .plain, 0x0, 0x0, 0x0, 0x0, false, 16⟩,  -- HC_ARB_LATE
  ⟨0x90018, 0x4, 1, 0x0, 0x0, .plain, 0x0, 0x0, 0x0, 0x0, false, 16⟩,  -- HC_ARB_PANIC_DENIED
  ⟨0x9001C, 0x4, 1, 0x0, 0x0, .plain, 0x0, 0x0, 0x0, 0x0, false, 16⟩,  -- HC_ARB_TURNS
  ⟨0x90020, 0x4, 1, 0x0, 0x0, .plain, 0x0, 0x1, 0x0, 0x0, false, 16⟩,  -- HC_ARB_CLR
  ⟨0x90040, 0x4, 12, 0x0, 0x0, .plain, 0x3FFFFFF, 0x0, 0x0, 0x0, false, 4⟩,  -- HC_MAP_EDIT
  ⟨0x90070, 0x4, 1, 0x0, 0x0, .plain, 0x2, 0x1, 0x0, 0x0, false, 4⟩,  -- HC_MAP_CTRL
  ⟨0x90074, 0x4, 1, 0x0, 0x0, .plain, 0x0, 0x0, 0x0, 0x0, false, 16⟩,  -- HC_MAP_STATUS
  ⟨0x90080, 0x4, 1, 0x1001, 0x0, .plain, 0x0, 0x0, 0x0, 0x0, false, 16⟩,  -- HC_MAP0_SEL
  ⟨0x90084, 0x4, 1, 0x2002, 0x0, .plain, 0x0, 0x0, 0x0, 0x0, false, 16⟩,  -- HC_MAP0_SEL
  ⟨0x90088, 0x4, 1, 0x4004, 0x0, .plain, 0x0, 0x0, 0x0, 0x0, false, 16⟩,  -- HC_MAP0_SEL
  ⟨0x9008C, 0x4, 1, 0x8008, 0x0, .plain, 0x0, 0x0, 0x0, 0x0, false, 16⟩,  -- HC_MAP0_SEL
  ⟨0x90090, 0x4, 1, 0x10010, 0x0, .plain, 0x0, 0x0, 0x0, 0x0, false, 16⟩,  -- HC_MAP0_SEL
  ⟨0x90094, 0x4, 1, 0x20020, 0x0, .plain, 0x0, 0x0, 0x0, 0x0, false, 16⟩,  -- HC_MAP0_SEL
  ⟨0x90098, 0x4, 1, 0x40040, 0x0, .plain, 0x0, 0x0, 0x0, 0x0, false, 16⟩,  -- HC_MAP0_SEL
  ⟨0x9009C, 0x4, 1, 0x80080, 0x0, .plain, 0x0, 0x0, 0x0, 0x0, false, 16⟩,  -- HC_MAP0_SEL
  ⟨0x900A0, 0x4, 1, 0x100100, 0x0, .plain, 0x0, 0x0, 0x0, 0x0, false, 16⟩,  -- HC_MAP0_SEL
  ⟨0x900A4, 0x4, 1, 0x200200, 0x0, .plain, 0x0, 0x0, 0x0, 0x0, false, 16⟩,  -- HC_MAP0_SEL
  ⟨0x900A8, 0x4, 1, 0x400400, 0x0, .plain, 0x0, 0x0, 0x0, 0x0, false, 16⟩,  -- HC_MAP0_SEL
  ⟨0x900AC, 0x4, 1, 0x800800, 0x0, .plain, 0x0, 0x0, 0x0, 0x0, false, 16⟩,  -- HC_MAP0_SEL
  ⟨0x900C0, 0x4, 1, 0x1, 0x0, .plain, 0x0, 0x0, 0x0, 0x0, false, 16⟩,  -- HC_MAP1_SEL
  ⟨0x900C4, 0x4, 1, 0x2, 0x0, .plain, 0x0, 0x0, 0x0, 0x0, false, 16⟩,  -- HC_MAP1_SEL
  ⟨0x900C8, 0x4, 1, 0x4, 0x0, .plain, 0x0, 0x0, 0x0, 0x0, false, 16⟩,  -- HC_MAP1_SEL
  ⟨0x900CC, 0x4, 1, 0x8, 0x0, .plain, 0x0, 0x0, 0x0, 0x0, false, 16⟩,  -- HC_MAP1_SEL
  ⟨0x900D0, 0x4, 1, 0x10, 0x0, .plain, 0x0, 0x0, 0x0, 0x0, false, 16⟩,  -- HC_MAP1_SEL
  ⟨0x900D4, 0x4, 1, 0x20, 0x0, .plain, 0x0, 0x0, 0x0, 0x0, false, 16⟩,  -- HC_MAP1_SEL
  ⟨0x900D8, 0x4, 1, 0x40, 0x0, .plain, 0x0, 0x0, 0x0, 0x0, false, 16⟩,  -- HC_MAP1_SEL
  ⟨0x900DC, 0x4, 1, 0x80, 0x0, .plain, 0x0, 0x0, 0x0, 0x0, false, 16⟩,  -- HC_MAP1_SEL
  ⟨0x900E0, 0x4, 1, 0x100, 0x0, .plain, 0x0, 0x0, 0x0, 0x0, false, 16⟩,  -- HC_MAP1_SEL
  ⟨0x900E4, 0x4, 1, 0x200, 0x0, .plain, 0x0, 0x0, 0x0, 0x0, false, 16⟩,  -- HC_MAP1_SEL
  ⟨0x900E8, 0x4, 1, 0x400, 0x0, .plain, 0x0, 0x0, 0x0, 0x0, false, 16⟩,  -- HC_MAP1_SEL
  ⟨0x900EC, 0x4, 1, 0x800, 0x0, .plain, 0x0, 0x0, 0x0, 0x0, false, 16⟩,  -- HC_MAP1_SEL
  ⟨0x91000, 0x40, 16, 0x40, 0x0, .plain, 0x0, 0x0, 0x0, 0x0, false, 16⟩,  -- HC_DIE_STATUS
  ⟨0x91004, 0x40, 16, 0x0, 0x0, .plain, 0xF, 0x0, 0x0, 0x0, false, 16⟩,  -- HC_DIE_MW_IDX
  ⟨0x91008, 0x40, 16, 0x0, 0x0, .plain, 0x0, 0x0, 0x0, 0x0, false, 16⟩  -- HC_DIE_MW_DATA
]

/-- Rows of the hc block. -/
def rowsHc : List RegRow := [
  ⟨0x80000, 0x200, 128, 0x2040000, 0x0, .plain, 0x0, 0x0, 0x0, 0x0, false, 16⟩,  -- HC_STATUS
  ⟨0x80004, 0x200, 128, 0x0, 0x0, .plain, 0x0, 0x0, 0x3FF, 0x0, false, 16⟩,  -- HC_EVT_CAUSE
  ⟨0x80008, 0x200, 128, 0x41, 0x0, .plain, 0x3FF, 0x0, 0x0, 0x0, false, 16⟩,  -- HC_EVT_MASK
  ⟨0x8000C, 0x200, 128, 0x10, 0x0, .plain, 0x10, 0x1, 0x0, 0x0, false, 14⟩,  -- HC_CTRL
  ⟨0x80010, 0x200, 128, 0x0, 0x0, .plain, 0x0, 0x0, 0x0, 0x0, false, 16⟩,  -- HC_TRAIN_STATUS
  ⟨0x80014, 0x200, 128, 0xF3F3F, 0x0, .plain, 0x0, 0x0, 0x0, 0x0, false, 16⟩,  -- HC_TSV_REMAP
  ⟨0x80018, 0x200, 128, 0x20, 0x0, .plain, 0x0, 0x0, 0x0, 0x0, false, 16⟩,  -- HC_WCK_TRIM
  ⟨0x80020, 0x200, 128, 0x0, 0x0, .plain, 0x3F, 0x0, 0x0, 0x0, false, 16⟩,  -- HC_DQ_IDX
  ⟨0x80024, 0x200, 128, 0x0, 0x0, .plain, 0x0, 0x0, 0x0, 0x0, false, 16⟩,  -- HC_DQ_DATA
  ⟨0x80030, 0x200, 128, 0xFFFFFFFF, 0x0, .plain, 0x0, 0x0, 0x0, 0x0, false, 16⟩,  -- HC_BANKS
  ⟨0x80034, 0x200, 128, 0x0, 0x0, .plain, 0x1F, 0x0, 0x0, 0x0, false, 16⟩,  -- HC_REF_IDX
  ⟨0x80038, 0x200, 128, 0x0, 0x0, .plain, 0x0, 0x0, 0x0, 0x0, false, 16⟩,  -- HC_REF_DATA
  ⟨0x80040, 0x200, 128, 0x0, 0x0, .plain, 0x7FFFF, 0x0, 0x0, 0x0, false, 14⟩,  -- HC_REPAIR_ADDR
  ⟨0x80044, 0x200, 128, 0x0, 0x0, .plain, 0x0, 0x1, 0x0, 0x0, false, 14⟩,  -- HC_REPAIR_CTRL
  ⟨0x80048, 0x200, 128, 0x1F0000, 0x0, .plain, 0x0, 0x0, 0x0, 0x0, false, 16⟩,  -- HC_REPAIR_STATUS
  ⟨0x80050, 0x200, 128, 0x0, 0x0, .plain, 0x0, 0x0, 0x0, 0x0, true, 16⟩,  -- HC_ACT_CNT_LO
  ⟨0x80054, 0x200, 128, 0x0, 0x0, .plain, 0x0, 0x0, 0x0, 0x0, true, 16⟩,  -- HC_ACT_CNT_HI
  ⟨0x80058, 0x200, 128, 0x0, 0x0, .plain, 0x0, 0x0, 0x0, 0x0, false, 16⟩,  -- HC_REF_CNT
  ⟨0x8005C, 0x200, 128, 0x0, 0x0, .plain, 0x0, 0x0, 0x0, 0x0, false, 16⟩,  -- HC_REF_FORCED
  ⟨0x80060, 0x200, 128, 0x0, 0x0, .plain, 0x0, 0x0, 0x0, 0x0, false, 16⟩,  -- HC_CA_RETRIES
  ⟨0x80064, 0x200, 128, 0x0, 0x0, .plain, 0x0, 0x1, 0x0, 0x0, false, 16⟩  -- HC_CLR
]

/-- Rows of the ecc block. -/
def rowsEcc : List RegRow := [
  ⟨0xA0000, 0x4, 1, 0x1F, 0x0, .plain, 0x1F, 0x0, 0x0, 0x0, false, 9⟩,  -- ECC_CTRL
  ⟨0xA0004, 0x4, 1, 0x0, 0x0, .plain, 0x0, 0x0, 0x0, 0x0, false, 16⟩,  -- ECC_STATUS
  ⟨0xA0008, 0x4, 1, 0x0, 0x0, .plain, 0x0, 0x0, 0xFFF, 0x0, false, 16⟩,  -- ECC_EVT_CAUSE
  ⟨0xA000C, 0x4, 1, 0x9, 0x0, .plain, 0xFFF, 0x0, 0x0, 0x0, false, 16⟩,  -- ECC_EVT_MASK
  ⟨0xA0010, 0x4, 1, 0x40, 0x0, .plain, 0xFF, 0x0, 0x0, 0x0, false, 9⟩,  -- ECC_PIN_CTRL
  ⟨0xA0014, 0x4, 1, 0x0, 0x0, .plain, 0x7F, 0x0, 0x0, 0x0, false, 16⟩,  -- ECC_PIN_IDX
  ⟨0xA0018, 0x4, 1, 0x3F, 0x0, .plain, 0x0, 0x0, 0x0, 0x0, false, 16⟩,  -- ECC_PIN_DATA
  ⟨0xA0020, 0x4, 1, 0x1000, 0x0, .plain, 0xFF3F, 0x0, 0x0, 0x0, false, 9⟩,  -- ECC_SCRUB_CTRL
  ⟨0xA0024, 0x4, 1, 0x0, 0x0, .plain, 0x7F, 0x0, 0x0, 0x0, false, 16⟩,  -- ECC_SCRUB_IDX
  ⟨0xA0028, 0x4, 1, 0x0, 0x0, .plain, 0x0, 0x0, 0x0, 0x0, false, 16⟩,  -- ECC_SCRUB_DATA
  ⟨0xA0030, 0x4, 1, 0x8, 0x0, .plain, 0xFF, 0x0, 0x0, 0x0, false, 9⟩,  -- ECC_SUSPECT_CTRL
  ⟨0xA0040, 0x4, 1, 0x0, 0x0, .plain, 0x83FFFFFF, 0x0, 0x0, 0x0, false, 9⟩,  -- ECC_RETIRE_ADDR
  ⟨0xA0044, 0x4, 1, 0x0, 0x0, .plain, 0x0, 0x1, 0x0, 0x0, false, 9⟩,  -- ECC_RETIRE_CTRL
  ⟨0xA0048, 0x4, 1, 0x0, 0x0, .plain, 0x0, 0x0, 0x0, 0x0, false, 16⟩,  -- ECC_RETIRE_STATUS
  ⟨0xA0060, 0x4, 1, 0x0, 0x0, .plain, 0x0, 0x0, 0x0, 0x0, false, 16⟩,  -- ECC_LOG_HEAD
  ⟨0xA0064, 0x4, 1, 0x0, 0x0, .plain, 0x1FF, 0x0, 0x0, 0x0, false, 16⟩,  -- ECC_LOG_TAIL
  ⟨0xA0068, 0x4, 1, 0x0, 0x0, .plain, 0x1FF, 0x0, 0x0, 0x0, false, 16⟩,  -- ECC_LOG_IDX
  ⟨0xA0070, 0x4, 4, 0x0, 0x0, .plain, 0x0, 0x0, 0x0, 0x0, false, 16⟩,  -- ECC_LOG_W
  ⟨0xA0080, 0x4, 1, 0x0, 0x0, .plain, 0x0, 0x0, 0x0, 0x0, true, 16⟩,  -- ECC_CE_CNT_LO
  ⟨0xA0084, 0x4, 1, 0x0, 0x0, .plain, 0x0, 0x0, 0x0, 0x0, true, 16⟩,  -- ECC_CE_CNT_HI
  ⟨0xA0088, 0x4, 1, 0x0, 0x0, .plain, 0x0, 0x0, 0x0, 0x0, false, 16⟩,  -- ECC_UE_CNT
  ⟨0xA008C, 0x4, 1, 0x0, 0x0, .plain, 0x0, 0x0, 0x0, 0x0, false, 16⟩,  -- ECC_REPAIR_DROPS
  ⟨0xA0090, 0x4, 1, 0x0, 0x0, .plain, 0x0, 0x0, 0x0, 0x0, false, 16⟩,  -- ECC_LOG_LOST
  ⟨0xA0094, 0x4, 1, 0x0, 0x0, .plain, 0x0, 0x1, 0x0, 0x0, false, 16⟩  -- ECC_CLR
]

/-- Rows of the landing block. -/
def rowsLanding : List RegRow := [
  ⟨0xB0000, 0x4, 1, 0x3000, 0x0, .plain, 0x7FFF, 0x0, 0x0, 0x0, false, 10⟩,  -- LDG_CTRL
  ⟨0xB0004, 0x4, 1, 0x0, 0x0, .plain, 0x0, 0x0, 0x0, 0x0, false, 16⟩,  -- LDG_STATUS
  ⟨0xB0008, 0x4, 1, 0x0, 0x0, .plain, 0x0, 0x0, 0xFF, 0x0, false, 16⟩,  -- LDG_EVT_CAUSE
  ⟨0xB000C, 0x4, 1, 0x24, 0x0, .plain, 0xFF, 0x0, 0x0, 0x0, false, 16⟩,  -- LDG_EVT_MASK
  ⟨0xB0010, 0x4, 1, 0x0, 0x0, .plain, 0x0, 0x0, 0x0, 0xFFFF, false, 10⟩,  -- LDG_PIN_WAYS
  ⟨0xB0014, 0x4, 1, 0x0, 0x0, .plain, 0xFB, 0x80000000, 0x0, 0x0, false, 10⟩,  -- LDG_OP_CTRL
  ⟨0xB0018, 0x4, 1, 0x0, 0x0, .plain, 0x0, 0x0, 0x0, 0x0, false, 16⟩,  -- LDG_OP_STATUS
  ⟨0xB001C, 0x4, 1, 0x0, 0x0, .plain, 0x0, 0x0, 0x0, 0x0, false, 16⟩,  -- LDG_DIRTY
  ⟨0xB0020, 0x4, 1, 0x0, 0x0, .plain, 0x1F, 0x0, 0x0, 0x0, false, 16⟩,  -- LDG_SLICE_IDX
  ⟨0xB0024, 0x4, 1, 0x0, 0x0, .plain, 0x0, 0x0, 0x0, 0x0, false, 16⟩,  -- LDG_SLICE_DATA
  ⟨0xB0040, 0x4, 1, 0x0, 0x0, .plain, 0x0, 0x0, 0x0, 0x0, true, 16⟩,  -- LDG_HIT_LO
  ⟨0xB0044, 0x4, 1, 0x0, 0x0, .plain, 0x0, 0x0, 0x0, 0x0, true, 16⟩,  -- LDG_HIT_HI
  ⟨0xB0048, 0x4, 1, 0x0, 0x0, .plain, 0x0, 0x0, 0x0, 0x0, true, 16⟩,  -- LDG_MISS_LO
  ⟨0xB004C, 0x4, 1, 0x0, 0x0, .plain, 0x0, 0x0, 0x0, 0x0, true, 16⟩,  -- LDG_MISS_HI
  ⟨0xB0050, 0x4, 1, 0x0, 0x0, .plain, 0x0, 0x0, 0x0, 0x0, true, 16⟩,  -- LDG_WB_LO
  ⟨0xB0054, 0x4, 1, 0x0, 0x0, .plain, 0x0, 0x0, 0x0, 0x0, true, 16⟩,  -- LDG_WB_HI
  ⟨0xB0058, 0x4, 1, 0x0, 0x0, .plain, 0x0, 0x0, 0x0, 0x0, false, 16⟩,  -- LDG_NOWAY
  ⟨0xB005C, 0x4, 1, 0x0, 0x0, .plain, 0x0, 0x0, 0x0, 0x0, false, 16⟩,  -- LDG_PIN_EVICT
  ⟨0xB0060, 0x4, 1, 0x0, 0x0, .plain, 0x0, 0x0, 0x0, 0x0, false, 16⟩,  -- LDG_DIRTY_STALLS
  ⟨0xB0064, 0x4, 1, 0x0, 0x0, .plain, 0x0, 0x0, 0x0, 0x0, false, 16⟩,  -- LDG_SRAM_CE
  ⟨0xB0068, 0x4, 1, 0x0, 0x0, .plain, 0x0, 0x0, 0x0, 0x0, false, 16⟩,  -- LDG_SRAM_UE
  ⟨0xB006C, 0x4, 1, 0x0, 0x0, .plain, 0x0, 0x0, 0x0, 0x0, false, 16⟩,  -- LDG_DISCARDED
  ⟨0xB0070, 0x4, 1, 0x0, 0x0, .plain, 0x0, 0x1, 0x0, 0x0, false, 16⟩,  -- LDG_CLR
  ⟨0xB0100, 0x8, 16, 0x0, 0x0, .plain, 0x0, 0x0, 0x0, 0x0, false, 16⟩,  -- LDG_RGN_HIT
  ⟨0xB0104, 0x8, 16, 0x0, 0x0, .plain, 0x0, 0x0, 0x0, 0x0, false, 16⟩  -- LDG_RGN_MISS
]

/-- Rows of the fabric block. -/
def rowsFabric : List RegRow := [
  ⟨0xC0000, 0x4, 1, 0x640302, 0x0, .plain, 0x3FF0F02, 0x0, 0x0, 0x1, false, 6⟩,  -- FAB_CTRL
  ⟨0xC0004, 0x4, 1, 0x80000000, 0x0, .plain, 0x0, 0x0, 0x0, 0x0, false, 16⟩,  -- FAB_NODE
  ⟨0xC0008, 0x4, 1, 0x0, 0x0, .plain, 0x0, 0x0, 0x0, 0x13F, false, 6⟩,  -- FAB_NODE_CFG
  ⟨0xC000C, 0x4, 1, 0x0, 0x0, .plain, 0x0, 0x0, 0x0, 0xFFFF, false, 6⟩,  -- FAB_EPOCH
  ⟨0xC0010, 0x4, 1, 0x0, 0x0, .plain, 0x0, 0x0, 0x0, 0x0, false, 16⟩,  -- FAB_STATUS
  ⟨0xC0014, 0x4, 1, 0x0, 0x0, .plain, 0x0, 0x0, 0x1FF, 0x0, false, 16⟩,  -- FAB_EVT_CAUSE
  ⟨0xC0018, 0x4, 1, 0x10, 0x0, .plain, 0x1FF, 0x0, 0x0, 0x0, false, 16⟩,  -- FAB_EVT_MASK
  ⟨0xC001C, 0x4, 1, 0x0, 0x0, .plain, 0x0, 0x0, 0x0, 0x0, false, 16⟩,  -- FAB_REC
  ⟨0xC0040, 0x4, 1, 0x0, 0x0, .plain, 0x0, 0x0, 0x0, 0x0, true, 16⟩,  -- FAB_FWD_LO
  ⟨0xC0044, 0x4, 1, 0x0, 0x0, .plain, 0x0, 0x0, 0x0, 0x0, true, 16⟩,  -- FAB_FWD_HI
  ⟨0xC0048, 0x4, 1, 0x0, 0x0, .plain, 0x0, 0x0, 0x0, 0x0, false, 16⟩,  -- FAB_NOROUTE
  ⟨0xC004C, 0x4, 1, 0x0, 0x0, .plain, 0x0, 0x0, 0x0, 0x0, false, 16⟩,  -- FAB_DISCARD
  ⟨0xC0050, 0x4, 1, 0x0, 0x0, .plain, 0x0, 0x0, 0x0, 0x0, false, 16⟩,  -- FAB_REC_EXPIRED
  ⟨0xC0054, 0x4, 1, 0x0, 0x0, .plain, 0x0, 0x0, 0x0, 0x0, false, 16⟩,  -- FAB_FAILOVERS
  ⟨0xC0058, 0x4, 1, 0x0, 0x0, .plain, 0x0, 0x0, 0x0, 0x0, false, 16⟩,  -- FAB_TOW_UNKNOWN
  ⟨0xC005C, 0x4, 1, 0x0, 0x0, .plain, 0x0, 0x0, 0x0, 0x0, false, 16⟩,  -- FAB_DATELINE2
  ⟨0xC0060, 0x4, 1, 0x0, 0x0, .plain, 0x0, 0x1, 0x0, 0x0, false, 16⟩,  -- FAB_CLR
  ⟨0xC0100, 0x4, 64, 0x0, 0x0, .plain, 0x0, 0x0, 0x0, 0xFFFFFFFF, false, 6⟩,  -- FAB_RT
  ⟨0xC0200, 0x4, 64, 0x0, 0x0, .plain, 0x0, 0x0, 0x0, 0x0, false, 16⟩,  -- FAB_RT_LIVE
  ⟨0xC0300, 0x10, 16, 0x0, 0x0, .plain, 0x0, 0x4, 0x0, 0x3, false, 6⟩,  -- FAB_PORT_CTRL
  ⟨0xC0304, 0x10, 16, 0x8000000, 0x0, .plain, 0x0, 0x0, 0x0, 0x0, false, 16⟩,  -- FAB_NBR
  ⟨0xC0308, 0x10, 16, 0xFFFF, 0x0, .plain, 0x0, 0x0, 0x0, 0x0, false, 16⟩  -- FAB_NBR_AGE
]

/-- Rows of the thermal block. -/
def rowsThermal : List RegRow := [
  ⟨0xD0000, 0x4, 1, 0x400, 0x0, .plain, 0x2FF0FFFF, 0x0, 0x0, 0x0, false, 11⟩,  -- THM_CTRL
  ⟨0xD0004, 0x4, 1, 0x10, 0x0, .plain, 0x0, 0x0, 0x0, 0x0, false, 16⟩,  -- THM_STATUS
  ⟨0xD0008, 0x4, 1, 0x0, 0x0, .plain, 0x0, 0x0, 0x1FF, 0x0, false, 16⟩,  -- THM_EVT_CAUSE
  ⟨0xD000C, 0x4, 1, 0x3, 0x0, .plain, 0x1FF, 0x0, 0x0, 0x0, false, 16⟩,  -- THM_EVT_MASK
  ⟨0xD0010, 0x4, 1, 0x0, 0x0, .plain, 0x7FF, 0x0, 0x0, 0x0, false, 11⟩,  -- THM_SINK
  ⟨0xD0014, 0x4, 1, 0x0, 0x0, .plain, 0x0, 0x0, 0x0, 0x0, false, 16⟩,  -- THM_BOUNDARY
  ⟨0xD0020, 0x4, 1, 0x0, 0x0, .plain, 0x7F, 0x0, 0x0, 0x0, false, 16⟩,  -- THM_NODE_IDX
  ⟨0xD0024, 0x4, 1, 0x0, 0x0, .plain, 0x0, 0x0, 0x0, 0x0, false, 16⟩,  -- THM_NODE_DATA0
  ⟨0xD0028, 0x4, 1, 0x0, 0x0, .plain, 0x0, 0x0, 0x0, 0x0, false, 16⟩,  -- THM_NODE_DATA1
  ⟨0xD0030, 0x4, 3, 0x0, 0x0, .plain, 0x0, 0x0, 0x0, 0x0, false, 16⟩,  -- THM_BROKEN
  ⟨0xD0040, 0x4, 1, 0x0, 0x0, .plain, 0x0, 0x0, 0x0, 0x0, false, 16⟩,  -- THM_TRIP
  ⟨0xD0044, 0x4, 1, 0x0, 0x0, .plain, 0x0, 0x0, 0x0, 0x0, false, 16⟩,  -- THM_HOT_S
  ⟨0xD0048, 0x4, 1, 0x0, 0x0, .plain, 0x0, 0x0, 0x0, 0x0, false, 16⟩,  -- THM_ON_S
  ⟨0xD004C, 0x4, 1, 0x0, 0x0, .plain, 0x0, 0x0, 0x0, 0x0, false, 16⟩,  -- THM_AVG
  ⟨0xD0050, 0x4, 1, 0x0, 0x0, .plain, 0x0, 0x0, 0x0, 0x0, false, 16⟩  -- THM_OSC
]

/-- Rows of the power block. -/
def rowsPower : List RegRow := [
  ⟨0xE0000, 0x4, 1, 0x1, 0x0, .plain, 0x0, 0x0, 0x0, 0x0, false, 16⟩,  -- PWR_MODE
  ⟨0xE0004, 0x4, 1, 0x20000, 0x0, .plain, 0x3FFF00, 0x80000000, 0x0, 0x0, false, 14⟩,  -- PWR_MODE_REQ
  ⟨0xE0008, 0x4, 1, 0x0, 0x0, .plain, 0x0, 0x0, 0x0, 0x0, false, 16⟩,  -- PWR_MODE_STATUS
  ⟨0xE000C, 0x4, 1, 0x0, 0x0, .plain, 0x0, 0x0, 0x0, 0x0, false, 16⟩,  -- PWR_MODE_LAST
  ⟨0xE0010, 0x4, 1, 0x0, 0x0, .plain, 0x0, 0x0, 0x7F, 0x0, false, 16⟩,  -- PWR_EVT_CAUSE
  ⟨0xE0014, 0x4, 1, 0x4, 0x0, .plain, 0x7F, 0x0, 0x0, 0x0, false, 16⟩,  -- PWR_EVT_MASK
  ⟨0xE0018, 0x4, 1, 0x7FFFF, 0x0, .plain, 0x7FFFF, 0x0, 0x0, 0x0, false, 14⟩,  -- PWR_WAKE_EN
  ⟨0xE001C, 0x4, 1, 0x0, 0x0, .plain, 0x0, 0x0, 0x0, 0x0, false, 16⟩,  -- PWR_WAKE
  ⟨0xE0020, 0x4, 1, 0xFFFF, 0x0, .plain, 0xFFFF, 0x0, 0x0, 0x0, false, 14⟩,  -- PWR_IDLE_CTRL
  ⟨0xE0024, 0x4, 1, 0x249F0, 0x0, .plain, 0x0, 0x0, 0x0, 0x3FFFF, false, 5⟩,  -- PWR_CEILING
  ⟨0xE0028, 0x4, 1, 0x5020, 0x0, .plain, 0x0, 0x0, 0x0, 0x0, false, 16⟩,  -- PWR_LEDGER
  ⟨0xE002C, 0x4, 1, 0x4E20, 0x0, .plain, 0x0, 0x0, 0x0, 0x0, false, 16⟩,  -- PWR_BASE_ALLOW
  ⟨0xE0030, 0x4, 1, 0x0, 0x0, .plain, 0x0, 0x0, 0x0, 0x0, false, 16⟩,  -- PWR_SUPPLY
  ⟨0xE0034, 0x4, 1, 0x0, 0x0, .plain, 0x0, 0x0, 0x0, 0x0, false, 16⟩,  -- PWR_DIP0
  ⟨0xE0038, 0x4, 1, 0x0, 0x0, .plain, 0x0, 0x0, 0x0, 0x0, false, 16⟩,  -- PWR_DIP1
  ⟨0xE003C, 0x4, 1, 0x0, 0x0, .plain, 0x0, 0x0, 0x0, 0x0, false, 16⟩,  -- PWR_DIP_CNT
  ⟨0xE0040, 0x4, 1, 0x2, 0x0, .plain, 0xF, 0x0, 0x0, 0x0, false, 16⟩,  -- PWR_SENT_CTRL
  ⟨0xE0044, 0x4, 1, 0x0, 0x0, .plain, 0x0, 0x0, 0x0, 0x0, false, 16⟩,  -- PWR_SENT_STATUS
  ⟨0xE0048, 0x4, 1, 0x0, 0x0, .plain, 0x0, 0x0, 0x0, 0x0, false, 16⟩  -- PWR_EXIT_TIME
]

/-- Rows of the events block. -/
def rowsEvents : List RegRow := [
  ⟨0x100000, 0x4, 12, 0x0, 0x0, .plain, 0x0, 0x0, 0xFFFFFFFF, 0x0, false, 16⟩,  -- EVT_PEND
  ⟨0x100040, 0x4, 12, 0xFFFFFFFF, 0x0, .plain, 0xFFFFFFFF, 0x0, 0x0, 0x0, false, 12⟩,  -- EVT_ALERT_EN
  ⟨0x100080, 0x4, 12, 0x0, 0x0, .plain, 0xFFFFFFFF, 0x0, 0x0, 0x0, false, 12⟩,  -- EVT_NTF_EN
  ⟨0x1000C0, 0x4, 1, 0xFFFF, 0x0, .plain, 0xFFFF, 0x0, 0x0, 0x0, false, 12⟩,  -- EVT_CTRL
  ⟨0x1000C4, 0x4, 1, 0x1FF, 0x0, .plain, 0x0, 0x0, 0x0, 0x0, false, 16⟩,  -- EVT_STATUS
  ⟨0x1000C8, 0x4, 1, 0x0, 0x0, .plain, 0x0, 0x0, 0x0, 0x0, false, 16⟩,  -- EVT_LOG_HEAD
  ⟨0x1000CC, 0x4, 1, 0x0, 0x0, .plain, 0xFFF, 0x0, 0x0, 0x0, false, 16⟩,  -- EVT_LOG_TAIL
  ⟨0x1000D0, 0x4, 1, 0x0, 0x0, .plain, 0xFFF, 0x0, 0x0, 0x0, false, 16⟩,  -- EVT_LOG_IDX
  ⟨0x1000E0, 0x4, 4, 0x0, 0x0, .plain, 0x0, 0x0, 0x0, 0x0, false, 16⟩,  -- EVT_LOG_W
  ⟨0x1000F0, 0x4, 1, 0x0, 0x0, .plain, 0x0, 0x0, 0x0, 0x0, false, 16⟩,  -- EVT_LOG_LOST
  ⟨0x1000F4, 0x4, 1, 0x0, 0x0, .plain, 0x1FF, 0x0, 0x0, 0x0, false, 16⟩,  -- EVT_CNT_IDX
  ⟨0x1000F8, 0x4, 1, 0x0, 0x0, .plain, 0x0, 0x0, 0x0, 0x0, false, 16⟩,  -- EVT_CNT_DATA
  ⟨0x1000FC, 0x4, 1, 0x0, 0x0, .plain, 0x0, 0x1, 0x0, 0x0, false, 16⟩  -- EVT_CLR
]

/-- Rows of the snapshot block. -/
def rowsSnapshot : List RegRow := [
  ⟨0x110000, 0x4, 1, 0xF10, 0x0, .plain, 0xF30, 0x1, 0x0, 0x0, false, 12⟩,  -- SNAP_CTRL
  ⟨0x110004, 0x4, 1, 0x0, 0x0, .plain, 0x0, 0x0, 0x0, 0x0, false, 16⟩,  -- SNAP_STATUS
  ⟨0x110008, 0x4, 1, 0x0, 0x0, .plain, 0x0, 0xF, 0x0, 0x0, false, 16⟩,  -- SNAP_ACK
  ⟨0x11000C, 0x4, 1, 0x0, 0x0, .plain, 0xFFF, 0x0, 0x0, 0x0, false, 16⟩,  -- SNAP_RD_IDX
  ⟨0x110010, 0x4, 1, 0x0, 0x0, .plain, 0x0, 0x0, 0x0, 0x0, false, 16⟩,  -- SNAP_RD_DATA
  ⟨0x110014, 0x4, 1, 0x0, 0x0, .plain, 0x0, 0x0, 0x3, 0x0, false, 16⟩,  -- SNAP_EVT_CAUSE
  ⟨0x110018, 0x4, 1, 0x0, 0x0, .plain, 0x3, 0x0, 0x0, 0x0, false, 16⟩,  -- SNAP_EVT_MASK
  ⟨0x110020, 0x4, 4, 0x1FF, 0x0, .plain, 0x800001FF, 0x0, 0x0, 0x0, false, 12⟩,  -- SNAP_TRIG
  ⟨0x110030, 0x4, 1, 0x0, 0x0, .plain, 0x0, 0x0, 0x0, 0x0, false, 16⟩,  -- SNAP_LOST
  ⟨0x110034, 0x4, 1, 0x0, 0x0, .plain, 0x0, 0x0, 0x0, 0x0, false, 16⟩,  -- SNAP_MERGED
  ⟨0x110038, 0x4, 1, 0x0, 0x0, .plain, 0x0, 0x1, 0x0, 0x0, false, 16⟩  -- SNAP_CLR
]

/-- Rows of the mailbox block. -/
def rowsMailbox : List RegRow := [
  ⟨0x120000, 0x4, 1, 0x1, 0x0, .plain, 0x7, 0x0, 0x0, 0x0, false, 13⟩,  -- MBX_CFG
  ⟨0x120010, 0x4, 1, 0x4, 0x0, .plain, 0x7, 0x0, 0x0, 0x0, false, 13⟩,  -- MBX_CFG
  ⟨0x120020, 0x4, 1, 0x2, 0x0, .plain, 0x7, 0x0, 0x0, 0x0, false, 13⟩,  -- MBX_CFG
  ⟨0x120030, 0x4, 1, 0x2, 0x0, .plain, 0x7, 0x0, 0x0, 0x0, false, 13⟩,  -- MBX_CFG
  ⟨0x120040, 0x4, 1, 0x2, 0x0, .plain, 0x7, 0x0, 0x0, 0x0, false, 13⟩,  -- MBX_CFG
  ⟨0x120050, 0x4, 1, 0x2, 0x0, .plain, 0x7, 0x0, 0x0, 0x0, false, 13⟩,  -- MBX_CFG
  ⟨0x120060, 0x4, 1, 0x2, 0x0, .plain, 0x7, 0x0, 0x0, 0x0, false, 13⟩,  -- MBX_CFG
  ⟨0x120070, 0x4, 1, 0x2, 0x0, .plain, 0x7, 0x0, 0x0, 0x0, false, 13⟩,  -- MBX_CFG
  ⟨0x120004, 0x10, 8, 0x0, 0x0, .plain, 0x0, 0x0, 0x0, 0x0, false, 16⟩,  -- MBX_STATUS
  ⟨0x120080, 0x4, 1, 0x48, 0x0, .plain, 0x0, 0x0, 0x0, 0x0, false, 16⟩,  -- MBX_I3C
  ⟨0x120084, 0x4, 1, 0x0, 0x0, .plain, 0x0, 0x0, 0x0, 0x0, false, 16⟩,  -- MBX_FW_VER
  ⟨0x120088, 0x4, 1, 0x0, 0x0, .plain, 0x0, 0x0, 0x0, 0x0, false, 16⟩,  -- MBX_FW_INFO
  ⟨0x12008C, 0x4, 1, 0x0, 0x0, .plain, 0x0, 0x0, 0x0, 0x0, false, 16⟩,  -- MBX_WDOG
  ⟨0x120090, 0x4, 1, 0x0, 0x0, .plain, 0x0, 0x0, 0x0, 0x0, false, 16⟩,  -- MBX_WDOG_PC
  ⟨0x120094, 0x4, 1, 0x0, 0x0, .plain, 0x0, 0x0, 0x0, 0x0, false, 16⟩,  -- MBX_JOBS
  ⟨0x120098, 0x4, 1, 0x0, 0x0, .plain, 0x0, 0x0, 0xFF, 0x0, false, 16⟩,  -- MBX_EVT_CAUSE
  ⟨0x12009C, 0x4, 1, 0x0, 0x0, .plain, 0xFF, 0x0, 0x0, 0x0, false, 16⟩,  -- MBX_EVT_MASK
  ⟨0x1200A0, 0x4, 1, 0x0, 0x0, .plain, 0x0, 0x0, 0x0, 0x0, false, 16⟩,  -- MBX_TIMEOUTS
  ⟨0x1200A4, 0x4, 1, 0x0, 0x0, .plain, 0x0, 0x0, 0x0, 0x0, false, 16⟩,  -- MBX_I3C_ERRS
  ⟨0x1200A8, 0x4, 1, 0x0, 0x0, .plain, 0x0, 0x1, 0x0, 0x0, false, 16⟩  -- MBX_CLR
]

/-- Rows of the otp block. -/
def rowsOtp : List RegRow := [
  ⟨0xF0000, 0x4, 1, 0x0, 0x0, .plain, 0x0, 0x0, 0x0, 0x0, false, 16⟩,  -- OTP_STATUS
  ⟨0xF0004, 0x4, 1, 0x0, 0x0, .plain, 0x0, 0x1, 0x0, 0x0, false, 16⟩,  -- OTP_CTRL
  ⟨0xF0008, 0x4, 1, 0x0, 0x0, .plain, 0x0, 0x0, 0x3FF, 0x0, false, 16⟩,  -- OTP_EVT_CAUSE
  ⟨0xF000C, 0x4, 1, 0x0, 0x0, .plain, 0x3FF, 0x0, 0x0, 0x0, false, 16⟩,  -- OTP_EVT_MASK
  ⟨0xF0010, 0x4, 8, 0x0, 0x0, .plain, 0x0, 0x0, 0x0, 0x0, false, 16⟩,  -- OTP_RGN_STATE
  ⟨0xF0040, 0x4, 1, 0x0, 0x0, .plain, 0x3F, 0x0, 0x0, 0x0, false, 16⟩,  -- OTP_MARG_IDX
  ⟨0xF0044, 0x4, 1, 0x0, 0x0, .plain, 0x0, 0x0, 0x0, 0x0, false, 16⟩,  -- OTP_MARG_DATA
  ⟨0xF0048, 0x4, 1, 0x0, 0x0, .plain, 0xF, 0x0, 0x0, 0x0, false, 16⟩,  -- OTP_REDIR_IDX
  ⟨0xF004C, 0x4, 1, 0x0, 0x0, .plain, 0x0, 0x0, 0x0, 0x0, false, 16⟩,  -- OTP_REDIR_DATA
  ⟨0xF0050, 0x4, 1, 0x0, 0x0, .plain, 0x0, 0x0, 0x0, 0x0, false, 16⟩  -- OTP_TEMP_LAST
]

/-- Rows of the test block. -/
def rowsTest : List RegRow := [
  ⟨0x130000, 0x4, 1, 0x0, 0x0, .plain, 0x0, 0x0, 0x0, 0x0, false, 16⟩,  -- TST_STATUS
  ⟨0x130004, 0x4, 1, 0x0, 0x0, .plain, 0x0, 0x0, 0x7F, 0x0, false, 16⟩,  -- TST_EVT_CAUSE
  ⟨0x130008, 0x4, 1, 0x0, 0x0, .plain, 0x7F, 0x0, 0x0, 0x0, false, 16⟩,  -- TST_EVT_MASK
  ⟨0x13000C, 0x4, 1, 0x801, 0x0, .plain, 0xFFFF0F01, 0x0, 0x0, 0x0, false, 16⟩,  -- TST_BIST_CFG
  ⟨0x130010, 0x4, 1, 0x9C40, 0x0, .plain, 0x1FFFF, 0x0, 0x0, 0x0, false, 16⟩,  -- TST_ALLOW
  ⟨0x130014, 0x4, 1, 0x0, 0x0, .plain, 0x0, 0x0, 0x0, 0x0, false, 16⟩,  -- TST_RESULT
  ⟨0x130018, 0x4, 1, 0x0, 0x0, .plain, 0x0, 0x0, 0x0, 0x0, false, 16⟩,  -- TST_COVER
  ⟨0x13001C, 0x4, 1, 0x2, 0x0, .plain, 0x2, 0x1, 0x0, 0x0, false, 16⟩,  -- TST_REC_CTRL
  ⟨0x130020, 0x4, 1, 0x0, 0x0, .plain, 0x0, 0x0, 0x0, 0x0, false, 16⟩,  -- TST_REC_STATUS
  ⟨0x130024, 0x4, 1, 0x0, 0x0, .plain, 0x0, 0x0, 0x0, 0x0, false, 16⟩,  -- TST_REPLACE
  ⟨0x130028, 0x4, 1, 0x0, 0x0, .plain, 0x1FFF, 0x0, 0x0, 0x0, false, 16⟩,  -- TST_TSV_IDX
  ⟨0x13002C, 0x4, 1, 0x0, 0x0, .plain, 0x0, 0x0, 0x0, 0x0, false, 16⟩,  -- TST_TSV_DATA
  ⟨0x130030, 0x4, 1, 0x0, 0x0, .plain, 0xBF, 0x0, 0x0, 0x0, false, 16⟩,  -- TST_LOOP_CTRL
  ⟨0x130034, 0x4, 1, 0x0, 0x0, .plain, 0x0, 0x0, 0x0, 0x0, false, 16⟩,  -- TST_LOOP_STATUS
  ⟨0x130038, 0x4, 1, 0x0, 0x0, .plain, 0x1F, 0x0, 0x0, 0x0, false, 16⟩,  -- TST_WAYS_IDX
  ⟨0x13003C, 0x4, 1, 0x0, 0x0, .plain, 0x0, 0x0, 0x0, 0x0, false, 16⟩,  -- TST_WAYS_OFF
  ⟨0x130040, 0x4, 1, 0x0, 0x0, .paired, 0x7, 0x0, 0x0, 0x0, false, 16⟩,  -- TST_JTAG_SEAL
  ⟨0x130044, 0x4, 1, 0x0, 0x0, .complement, 0x0, 0x0, 0x0, 0x0, false, 16⟩  -- TST_JTAG_SEAL_CPL
]

/-- The rows of the block an address lies in, by the block bases of R490. -/
def blockRows (block : Nat) : List RegRow :=
  match block with
  | 0 => rowsGlobal
  | 1 => rowsLane
  | 4 => rowsPort
  | 5 => rowsLink
  | 6 => rowsServices
  | 7 => rowsTimetable
  | 8 => rowsHc
  | 9 => rowsArb
  | 10 => rowsEcc
  | 11 => rowsLanding
  | 12 => rowsFabric
  | 13 => rowsThermal
  | 14 => rowsPower
  | 15 => rowsOtp
  | 16 => rowsEvents
  | 17 => rowsSnapshot
  | 18 => rowsMailbox
  | 19 => rowsTest
  | _ => []

/-- Every row of the register map, in the order of the blocks. -/
def allRows : List RegRow :=
  rowsGlobal ++ rowsLane ++ rowsPort ++ rowsLink ++ rowsServices ++ rowsTimetable ++ rowsHc ++ rowsArb ++ rowsEcc ++ rowsLanding ++ rowsFabric ++ rowsThermal ++ rowsPower ++ rowsOtp ++ rowsEvents ++ rowsSnapshot ++ rowsMailbox ++ rowsTest

/-- Index of the register of an array row at an address, if the row holds it. -/
def RegRow.indexOf (r : RegRow) (a : Nat) : Option Nat :=
  if r.base ≤ a ∧ (a - r.base) % r.stride = 0 ∧ (a - r.base) / r.stride < r.count then some ((a - r.base) / r.stride) else none

/-- The first row of a list that holds an address, with the index there. -/
def findRow (a : Nat) : List RegRow → Option (RegRow × Nat)
  | [] => none
  | r :: t => match r.indexOf a with
    | some i => some (r, i)
    | none => findRow a t

/-- The register at an address of configuration space; none where R492 says no register is defined. -/
def rowAt (a : Nat) : Option (RegRow × Nat) := findRow a (blockRows (a / 0x10000))

/-- The reset value the register tables give an address (0 where no register is defined, R492). -/
def resetAt (a : Nat) : Word :=
  match rowAt a with
  | some (r, i) => BitVec.ofNat 32 (r.reset + i * r.resetStep)
  | none => 0

end Sys2Proof.Machine
end

