-- ==== Sys2Proof/Machine/State.lean ====
section
/-!
DEFINITION. Machine/State.lean: everything the spec gives the block to hold, as plain data, the reasons a step can stop, and the
state after power-on.
-/
set_option autoImplicit false

namespace Sys2Proof.Machine

/-- Reasons a step faults.  There are none: the spec answers every command of the block, and names no address whose access stops it
(R492). -/
inductive Fault where
  deriving DecidableEq, Repr

/-- Reasons a step is refused. -/
inductive Refusal where
  /-- raised by an arm of Dispatch.lean whose command has no meaning yet; safe: the model stops -/
  | notModelled (mnemonic : String)
  deriving DecidableEq, Repr

/-! ### The commit controller, the paired writes and the configuration check (01_architecture, 18_registers_and_otp) -/

/-- A change the device itself decided, waiting in the second commit slot (R21). -/
inductive HwChange where
  /-- the next shedding step is taken (R453) -/
  | shed
  /-- the last shedding step is undone (R454) -/
  | shedUndo
  /-- the throttle level becomes this (R11, R423) -/
  | level (n : Nat)
  /-- STORM becomes the live image (R300) -/
  | stormEnter
  /-- ACTIVE becomes the live image again (R300) -/
  | stormExit
  /-- a bank is taken out of service (R371) -/
  | retireBank (hc : Nat) (bank : Nat)
  /-- ACTIVE and STANDBY change places for MAINTENANCE (R439); it waits for a period boundary -/
  | imageSwap
  /-- MAINTENANCE begins without an image change (R439) -/
  | maintenance
  deriving DecidableEq, Repr

/-- The commit controller (R14 to R19). -/
structure Commit where
  /-- target crossing of the accepted arm -/
  armed : Option Nat
  /-- PREPARE was issued -/
  preparing : Bool
  /-- the ready votes sampled in cycle 90: the mask of refusing units -/
  vote : Option Nat
  /-- the hardware commit slot: changes decided in the current crossing, and those due at the boundary just passed (R21) -/
  hw : List HwChange
  hwDue : List HwChange
  /-- crossings left of the suspension of the configuration comparison (R20, R504) -/
  suspendLeft : Nat
  /-- CFG_DRIFT was raised and no matching pass or CFG_COMMIT followed (R504) -/
  drifting : Bool
  deriving DecidableEq, Repr

/-- The value written in the first step of a paired write (R496). -/
structure PairPending where
  value : Word
  src : Nat
  deriving DecidableEq, Repr

/-! ### Pins, rails and the always-on domain (02_package, 03_start_and_reset, 16_modes) -/

/-- The pins of the sideband and the rails as the block sees them. -/
structure Pins where
  vaon : Bool
  pwrgood : Bool
  resetN : Bool
  /-- NODEID as last sampled (R54) -/
  nodeid : Nat
  /-- THERMTRIP_N driven low (R426) -/
  thermtrip : Bool
  /-- SNAP_N driven low by the device (R486) -/
  snapDrive : Bool
  /-- SNAP_N ignored as an input (R486) -/
  snapIgnore : Bool
  /-- VQPS in mV as last seen -/
  vqps : Nat
  /-- rails above their recovery level (R454) -/
  recovered : Nat
  /-- rails below their reset level (R456) -/
  atReset : Nat
  /-- lowest reading in mV of each rail that has left nominal -/
  mv : KMap Nat
  deriving DecidableEq, Repr

/-- A supply excursion under way (R455). -/
structure Excursion where
  first : Nat
  minMv : Nat
  deepest : Nat
  below : Nat
  /-- tick of the flag -/
  start : Nat
  deriving DecidableEq, Repr

/-- The signature of a sentinel write (R448). -/
structure Signature where
  seed : Nat
  k : Nat
  cross : Nat
  deriving DecidableEq, Repr

/-- The anchor record (R76, R78). -/
structure AnchorRecord where
  cross : Nat
  source : Nat
  kind : Nat
  anchorRun : Bool
  flushed : Bool
  unconfirmed : Nat
  stale : Nat
  dirty : Nat
  /-- PLACE, ATTR, FC_LO, FC_HI of every region -/
  regions : KMap Word
  deriving DecidableEq, Repr

/-- A lane's saved coefficients (R112). -/
structure CoeffRecord where
  gen : Nat
  reach : Nat
  regs : KMap Word
  taps : KMap Nat
  deriving DecidableEq, Repr

/-- The always-on domain (R432). -/
structure AlwaysOn where
  /-- rails were applied out of order (R45) -/
  seqViolation : Bool
  /-- FILL did not complete (R69) -/
  fillIncomplete : Bool
  /-- E324 was raised since power-up (R46) -/
  vqpsReported : Bool
  anchor : Option AnchorRecord
  signature : Option Signature
  /-- sentinel writes since the last cold start (R448) -/
  sentinelWrites : Nat
  /-- dies that confirmed self-refresh -/
  selfRefresh : Nat
  /-- VDDD and VPP stayed above their reset levels while the dies were in self-refresh (R74) -/
  railsHeld : Bool
  /-- valid records of the coefficient store, by lane (R112) -/
  coeffs : KMap CoeffRecord
  excursion : Option Excursion
  /-- a tripped device waits to re-arm (R428) -/
  tripped : Bool
  /-- this START follows a trip (R428) -/
  tripStart : Bool
  /-- an excursion ended at a reset level: SUPPLY_DIP is raised at the next release (R456) -/
  dipDue : Bool
  /-- a self-test at START passed: THM_ON_S when the record was set (R523) -/
  passRecord : Option Nat
  /-- rows recorded as under test by an ARRAY pass: one row of every bank of a group of half-channels: the first, how many, the row (R531) -/
  underTest : Option (Nat × Nat × Nat)
  /-- fw_version of the fault record (R462); its cause and program counter are in MBX_WDOG and MBX_WDOG_PC -/
  faultVersion : Word
  deriving DecidableEq, Repr

/-! ### START and reset (03_start_and_reset) -/

/-- Where START stands. -/
inductive StartPhase where
  /-- held in reset: waiting for the pins, for power or for re-arm -/
  | held
  /-- the anchor sequence runs (R76) -/
  | anchoring
  /-- the 10 µs of R73 run -/
  | delay
  /-- START runs -/
  | running
  /-- START has ended, by release or in SAFE -/
  | ended
  deriving DecidableEq, Repr

/-- A reset requested and not begun (R80, R81). -/
structure ResetRequest where
  /-- 1 warm, 2 base-die-only -/
  kind : Nat
  source : Nat
  flush : Bool
  /-- the drain of R80 runs -/
  draining : Bool
  deriving DecidableEq, Repr

structure Start where
  phase : StartPhase
  /-- 0 cold, 1 warm, 2 base-die-only: the type of the last reset -/
  kind : Nat
  request : Option ResetRequest
  /-- START waits for RESET_N and PWRGOOD after this reset (R73) -/
  waitPins : Bool
  /-- core dies have left self-refresh in this START (R82) -/
  diesOut : Bool
  /-- INIT, and WARMUP where it runs, have ended: release follows (R71) -/
  ready : Bool
  /-- ports whose requested port-only reset waits to begin (R81) -/
  portResets : List Nat
  deriving DecidableEq, Repr

/-! ### Modes (16_modes_and_supply) -/

/-- A mode request (R435). -/
structure ModeReq where
  target : Nat
  tag : Nat
  mimg : Bool
  noBist : Bool
  deriving DecidableEq, Repr

/-- The transition in flight (R439). -/
structure Transition where
  req : ModeReq
  /-- the mode it started from -/
  source : Nat
  step : Nat
  /-- the commit point is passed -/
  committed : Bool
  /-- SAFE or COLD that preempts it at the next abortable point (R438) -/
  preempt : Option ModeReq
  /-- it waits for an armed commit to resolve (R19) -/
  waiting : Bool
  /-- dies that have not confirmed the first SRE (R440) -/
  srfRetry : Nat
  deriving DecidableEq, Repr

structure Modes where
  inflight : Option Transition
  pending : Option ModeReq
  /-- memory operations delivered wait in VC0 (R444) -/
  intakeClosed : Bool
  /-- ports held in IDLE (R444) -/
  held : Nat
  /-- tick at which the running exit began -/
  exitStart : Nat
  /-- tick of the last undo of a shedding step (R454) -/
  undoTick : Nat
  /-- tick at which CROSS_CNT stopped for RETENTION (R446) -/
  stopTick : Nat
  /-- STANDBY was swapped in for MAINTENANCE (R439) -/
  swapped : Bool
  deriving DecidableEq, Repr

/-! ### Events and snapshots (17_purser_events_snapshot) -/

/-- Occurrences of an event in the current crossing, and its info (R477, R480). -/
structure Raised where
  count : Nat
  info : Nat
  deriving DecidableEq, Repr

structure Events where
  raised : KMap Raised
  counts : KMap Nat
  /-- the ring of 4096 records (R481), by index -/
  log : KMap (BitVec 128)
  /-- records held -/
  held : Nat
  /-- words 1 to 3 of the record last latched by a read of EVT_LOG_W0 -/
  latched : Nat
  /-- E358 was raised since EVT_LOG_LOST was cleared -/
  lostRaised : Bool
  deriving DecidableEq, Repr

/-- A snapshot being taken (R485). -/
structure Capture where
  sources : Nat
  /-- the event that triggered it; 0x1FF none -/
  event : Nat
  /-- the boundary at which it latches has come -/
  due : Bool
  /-- the slot that its words go to -/
  slot : Nat
  /-- words latched, once the latch boundary has passed and the blocks drain -/
  words : Option (KMap Word)
  deriving DecidableEq, Repr

structure Snap where
  capture : Option Capture
  heldNext : Option Capture
  /-- words of the slots that hold an unacknowledged snapshot -/
  slots : KMap (KMap Word)
  /-- the four slots in order of last use, least recent first -/
  order : List Nat
  seq : Nat
  deriving DecidableEq, Repr

/-! ### Lanes (04_lanes) -/

/-- What a lane holds beside its registers. -/
structure LaneSt where
  /-- taps and swing that drive the output (R91) -/
  firLive0 : Word
  firLive1 : Word
  swingLive : Word
  /-- an apply waits for the boundary (R91), or is to be refused as BUSY (R127) -/
  applyPending : Bool
  applyBusy : Bool
  /-- tx_disable, rx_disable, tx_invert, rx_invert as applied (R95) -/
  ctrlLive : Nat
  /-- towpath shaping coefficients h0 to h15 in force, ten bits each (R96) -/
  shape : KMap Nat
  /-- coefficients written and waiting for the boundary -/
  shapePending : KMap Nat
  /-- equaliser taps in force: target * 256 + index, two's complement of 12 bits (R102 to R105) -/
  taps : KMap Nat
  /-- taps as they stood at the last boundary (R113) -/
  shownTaps : KMap Nat
  /-- a tap write waiting for the boundary (R113) -/
  eqPending : Option Word
  /-- adaptation modes in force: FFE, DFE, FDE, two bits each (R109) -/
  modes : Nat
  /-- ticks of the restores within the last second (R111) -/
  restores : List Nat
  /-- clean mask windows in a row (R99) -/
  cleanWindows : Nat
  /-- mask set of the last window (R100) -/
  maskSet : Nat
  /-- slicer SNR at S7 entry, 0.1 dB (R110) -/
  snrAtS7 : Nat
  /-- the lane met the threshold of R140 in this stage -/
  threshold : Bool
  /-- the peer's request field last seen, and the status this side reports (R138) -/
  lastRequest : Nat
  tapStatus : Nat
  /-- training frames in a row with the peer's rx_ready (R128) -/
  readyRun : Nat
  /-- towpath receive: the lane is joined to the combined bit stream, and its despread SNR in 0.25 dB (R171) -/
  joined : Bool
  towSnr : Int
  /-- towpath level in force, in dB below the reference; none: dark (R164) -/
  towLevel : Option Nat
  /-- the 24-tap estimate of the towpath pulse response (R180) -/
  canceller : List Int
  /-- the FFE's main tap position latched at the last entry to S2 (R102) -/
  cursor : Nat
  /-- CTLE peak and VGA gain as the host last wrote them (R101) -/
  ctleHost : Word
  /-- fractions of the taps below their last bit, in 2^-13 of it, by tap (R102, R103, R105) -/
  frac : KMap Nat
  /-- ticks since which taps have stood at a limit of their range, by tap (R110) -/
  atLimit : KMap Nat
  /-- what this side's receiver asks of the peer's taps, two bits each, and whether it asks for init (R137, R138) -/
  request : Nat
  initAsk : Bool
  /-- the peer's last status field and step_ready (R137) -/
  peerStatus : Nat
  peerStep : Bool
  /-- inner blocks in a row with zero, and with non-zero, syndrome; block lock and the offset tried (R156) -/
  innerZero : Nat
  innerBad : Nat
  innerLocked : Bool
  innerOffset : Nat
  /-- hard decisions on the information bits of the last inner block (R155) -/
  innerBits : List Bool
  /-- outgoing bits that do not fill an inner block yet, and the last inner codeword sent (R154) -/
  innerRest : List Bool
  innerSent : List Bool
  deriving DecidableEq, Repr

def LaneSt.reset : LaneSt :=
  { firLive0 := 0x70F80000, firLive1 := 0xF8, swingLive := 0xA, applyPending := false, applyBusy := false, ctrlLive := 0,
    shape := [], shapePending := [], taps := [], shownTaps := [], eqPending := none, modes := 0x2A, restores := [], cleanWindows := 0,
    maskSet := 1, snrAtS7 := 0, threshold := false, lastRequest := 0, tapStatus := 0, readyRun := 0, joined := false, towSnr := 0, towLevel := none, canceller := List.replicate 24 0,
    cursor := 4, ctleHost := 0, frac := [], atLimit := [], request := 0, initAsk := false, peerStatus := 0, peerStep := false,
    innerZero := 0, innerBad := 0, innerLocked := false, innerOffset := 0, innerBits := [], innerRest := [], innerSent := [] }

/-- The reset coefficient h(k) of R96, ten bits. -/
def shapeReset (k : Nat) : Nat :=
  match k with
  | 0 => 480 | 1 => 381 | 2 => 242 | 3 => 83 | 4 => 1024 - 34 | 5 => 1024 - 75 | 6 => 1024 - 54 | 7 => 1024 - 9
  | 8 => 23 | 9 => 26 | 10 => 10 | 11 => 1024 - 6 | 12 => 1024 - 10 | 13 => 1024 - 4 | 14 => 4 | 15 => 5 | _ => 0

/-! ### Ports: bring-up and FEC (05_bringup_and_fec) -/

/-- The course a port takes through the stages. -/
inductive Path where
  | full | stored | quick
  deriving DecidableEq, Repr

/-- A SEL message's content (R131). -/
structure SelMsg where
  gen : Nat
  reach : Nat
  version : Nat
  path : Nat
  deriving DecidableEq, Repr

/-- A speed step under way (R147, R149). -/
structure StepSt where
  target : Nat
  fromGen : Nat
  up : Bool
  host : Bool
  /-- the peer accepted and the port is back in S4 -/
  running : Bool
  deriving DecidableEq, Repr

/-- What a request to the lane ledger is for (R121, R122). -/
inductive AskKind where
  /-- entry to S2, or to S5 on the stored path (R134) -/
  | entry
  /-- a step up that the host asked for, or the peer (R149, R150) -/
  | stepHost | stepPeer
  /-- the live mode of a port held in IDLE (R445) -/
  | idleExit
  deriving DecidableEq, Repr

/-- A request that waits for the ledger's decision in its crossing (R122). -/
structure LedgerAsk where
  gen : Nat
  reach : Nat
  kind : AskKind
  deriving DecidableEq, Repr

/-- What a port holds of its bring-up beside its registers. -/
structure PortSt where
  /-- a peer CAP was received since S1 entry (R132) -/
  capHeld : Bool
  /-- an attempt runs; tick at which it began (R129) -/
  attempt : Option Nat
  ownSel : Option SelMsg
  peerSel : Option SelMsg
  /-- different SELs in a row (R133) -/
  selMismatch : Nat
  /-- the ledger granted and GO was queued (R134) -/
  granted : Bool
  peerGo : Bool
  /-- ledger refusals in a row (R135) -/
  refusals : Nat
  path : Path
  /-- a failed negotiation waits 100 ms (R128) -/
  negWait : Bool
  /-- degrade_floor was raised and degrade persists (R148) -/
  floored : Bool
  /-- fresh goes into the next CAPs (R145, R146) -/
  fresh : Bool
  /-- failures of S4, S5 or S6 in this attempt (R130) -/
  failures : Nat
  /-- QR_REQ was sent and no reply came (R145) -/
  qrWaiting : Bool
  /-- cause of the retrain under way -/
  qrCause : Nat
  stepping : Option StepSt
  /-- the step accepted from or by the peer that runs once its STEP_ACK is on the way: cause and target (R150) -/
  stepDue : Option (Nat × Nat)
  /-- lock pairs in a row with f = 1 or 2 from the peer (R142) -/
  lockPairs : Nat
  /-- this side's countdown runs: what is left of it, in eighths of a pair (R142, log entry 14) -/
  countdown : Option Nat
  /-- its transmitter, or its receiver, has switched after c = 0 -/
  txSwitched : Bool
  rxSwitched : Bool
  /-- degraded windows in a row (R147) -/
  degradedRun : Nat
  /-- tick of the end of the last degrade retrain (R147) -/
  degradeEnd : Option Nat
  /-- codewords of the window with at least hist_thr corrected symbols, uncorrectable ones, inner failures (R158) -/
  winHist : Nat
  winUncorr : Nat
  winInner : Nat
  winBlocks : Nat
  winIters : Nat
  /-- pairs in a row with an uncorrectable codeword; a codeword A waits for its B (R153) -/
  uncorrRun : Nat
  pairHalf : Option Bool
  /-- codewords decoded, and blocks taken by flits, since the flit stream began; uncorrectable codewords that flits may overlap, by
  their number in the stream (R153) -/
  cwSeen : Nat
  blkSeen : Nat
  badCw : List Nat
  /-- blocks sent that do not fill a pair yet: flit-start bit and 32 bytes; the pair of codewords last sent (R151, R152) -/
  txBlocks : List (Bool × List Byte)
  txPair : List Nat × List Nat
  /-- the peer's lane that feeds each of the eight lanes, as the last lock pair showed it (R141) -/
  laneOrder : List Nat
  /-- flits in a row that count for flit lock (R143) -/
  flitRun : Nat
  /-- PORT_CTRL.enable was cleared and S0 waits for the boundary (R160) -/
  disabling : Bool
  /-- kept in S1 by the shedding step (R453) -/
  shed : Bool
  /-- kept in S1 by IDLE, RETENTION or SAFE (R439, R444) -/
  parked : Bool
  /-- the link state is kept at the next S7 entry: a quick retrain or a speed step runs (R145) -/
  keepLink : Bool
  /-- tick at which the stage was entered -/
  stageTick : Nat
  /-- generations common to both CAPs of the last negotiation, as a mask (R149) -/
  negGens : Nat
  /-- generation and reach that the attempt aims at (R129) -/
  aim : Option (Nat × Nat)
  /-- caps of the target: one below a failed attempt's (R129), and the one lowered after refusals (R135); 0 none -/
  capAttempt : Nat
  capRefused : Nat
  /-- PORT_CAP was written in S1 and the CAP is to be sent again (R160) -/
  capAgain : Bool
  /-- a trigger of R144 that came in S6 in this crossing: its cause (R160) -/
  trigger : Option Nat
  deriving DecidableEq, Repr

def PortSt.reset : PortSt :=
  { capHeld := false, attempt := none, ownSel := none, peerSel := none, selMismatch := 0, granted := false,
    peerGo := false, refusals := 0, path := .full, negWait := false, floored := false, fresh := false, failures := 0, qrWaiting := false, qrCause := 0,
    stepping := none, stepDue := none, lockPairs := 0, countdown := none, txSwitched := false, rxSwitched := false, degradedRun := 0,
    degradeEnd := none, winHist := 0, winUncorr := 0, winInner := 0, winBlocks := 0, winIters := 0, uncorrRun := 0,
    pairHalf := none, cwSeen := 0, blkSeen := 0, badCw := [], txBlocks := [], txPair := ([], []), laneOrder := [0, 1, 2, 3, 4, 5, 6, 7],
    flitRun := 0, disabling := false, shed := false, parked := false, keepLink := false, stageTick := 0, negGens := 0, aim := none,
    capAttempt := 0, capRefused := 0, capAgain := false, trigger := none }

/-! ### Towpath (06_towpath) -/

/-- An acquisition context (R175). -/
inductive TowCtx where
  | search
  /-- following a hail on a code, with its metric -/
  | header (code : Nat) (metric : Nat)
  /-- header passed: code and header word -/
  | payload (code : Nat) (header : Word)
  deriving DecidableEq, Repr

/-- A management message being sent by fragments (R184). -/
structure MgmtTx where
  mailbox : Nat
  data : List Byte
  fragment : Nat
  sends : Nat
  deriving DecidableEq, Repr

structure TowSt where
  ctx0 : TowCtx
  ctx1 : TowCtx
  /-- a code kept by the search (R170) -/
  found : Option Nat
  /-- code lock (R172) -/
  locked : Option Nat
  /-- payloads waiting to be sent (R169) -/
  queue : List (List Byte)
  /-- the payload of the frame being sent -/
  sending : Option (List Byte)
  /-- the channel bits of the frame being sent (R165) -/
  channel : List Bool
  /-- the code number of what is being sent (R162, R187) -/
  code : Nat
  /-- seq of the next frame (R167) -/
  txSeq : Nat
  /-- ticks of own-tag frames since the last foreign one (R174) -/
  echoes : List Nat
  /-- payloads of good frames handed on and not yet handled (R178) -/
  inbox : List (List Byte)
  /-- tick of the last foreign frame -/
  lastFrame : Option Nat
  beaconSeq : Nat
  /-- the wake pattern is being sent (R185) -/
  waking : Bool
  /-- a wake pattern waits for the frame in progress -/
  wakeWaiting : Bool
  mgmtTx : Option MgmtTx
  /-- mailbox and last fragment accepted of the message being received, and the bytes so far (R184) -/
  mgmtRx : KMap (Nat × List Byte)
  deriving DecidableEq, Repr

def TowSt.reset : TowSt :=
  { ctx0 := .search, ctx1 := .search, found := none, locked := none, queue := [], sending := none, channel := [], code := 0, txSeq := 0, echoes := [], inbox := [], lastFrame := none,
    beaconSeq := 0, waking := false, wakeWaiting := false, mgmtTx := none, mgmtRx := [] }

/-! ### Uzoset links (07_uzoset_link) -/

/-- A transaction: its header and payload (R211). -/
structure Txn where
  hdr : Header
  data : List Byte
  deriving DecidableEq, Repr

/-- The record of a forwarded request (R397): its output port, and the time which that port had spent in S7 when it was sent. -/
structure FabRecord where
  out : Nat
  sent : Option Nat
  deriving DecidableEq, Repr

/-- A request in the request table, or waiting in VC0 (R210, R224). -/
structure Entry where
  /-- the model's own number of the request, in order of arrival over the device -/
  uid : Nat
  txn : Txn
  /-- DELAYs sent for it so far -/
  delays : Nat
  /-- its completion is discarded: the port took a port-only reset (R79) -/
  dead : Bool
  /-- it has entered execution (R221, R225) -/
  begun : Bool
  /-- it has reached its completion point (R272) -/
  done : Bool
  /-- answered with a NAK, so that no cap counts it (R322) -/
  refused : Bool
  /-- what held at its delivery: the port ran v2, its tag was outstanding, posted requests were accepted (R218, R219, R232) -/
  v2 : Bool
  busy : Bool
  postedOk : Bool
  /-- the port's epoch of S7 in which it was delivered: slots of an earlier one are not granted twice (R194, R208) -/
  epoch : Nat
  /-- forwarded: the entry is its record -/
  record : Option FabRecord
  /-- its number (R191) with the port's epoch of numbers above it, until a job takes it over or its NAK is decided (R78) -/
  wseq : Option Nat
  deriving DecidableEq, Repr

/-- A transaction waiting to be sent. -/
structure Outgoing where
  txn : Txn
  /-- arrival port and number of the request that it is or answers; none for a response routed by the table (R398) -/
  request : Option (Nat × Nat)
  /-- sending it frees this entry of the request table: port and number -/
  frees : Option (Nat × Nat)
  /-- it is the device's own, not a forwarded one -/
  own : Bool
  deriving DecidableEq, Repr

structure LinkSt where
  /-- next seq to send, and expected seq (R194) -/
  txSeq : Nat
  expected : Nat
  /-- a DATA flit was delivered since S7 entry (R197) -/
  delivered : Bool
  /-- unacknowledged DATA flits, oldest first: seq and bytes (R195) -/
  replay : List (Nat × List Byte)
  /-- flits of the running replay still to be sent (R200) -/
  replaying : List Nat
  /-- replays started without an advance of the received ack (R202) -/
  replayRun : Nat
  /-- the next flit carries rreq; a replay request is outstanding (R198) -/
  rreqNext : Bool
  rreqOut : Bool
  /-- credits the peer granted, and those consumed, per virtual channel (R206) -/
  granted : Nat × Nat × Nat
  consumed : Nat × Nat × Nat
  /-- credits granted to the peer, and slots freed in this crossing (R208) -/
  given : Nat × Nat × Nat
  freed : Nat × Nat × Nat
  /-- the receive buffers are to be granted (R208) -/
  grantDue : Bool
  /-- bytes of a transaction that runs on into the next flit (R199) -/
  rxPartial : List Byte
  /-- transactions framed and not yet handled -/
  inbox : List Txn
  /-- requests waiting in the VC0 buffer (R210, R444) -/
  vc0 : List Entry
  /-- entries of the request table of this port's requests -/
  table : List Entry
  responses : List Outgoing
  forwards : List Outgoing
  /-- notices waiting, each with the tick at which it was raised (R228) -/
  notices : List (Nat × Txn)
  /-- slots ready to be placed in flits: start bit and 16 bytes (R199) -/
  txSlots : List (Bool × List Byte)
  /-- the last flit sent -/
  lastFlit : List Byte
  /-- the port group until the next boundary, after a write of UZ_CTRL.group (R232) -/
  oldGroup : Option Nat
  /-- number of the last numbered transaction delivered, and numbers not yet wholly at a die, each with the epoch above its 32 bits (R78) -/
  wseqSeen : Nat
  wseqOpen : List Nat
  /-- the count of passes through S1 that started the numbers anew (R78), and whether a port-only reset has still to load the pair (R82) -/
  wseqEpoch : Nat
  wseqLive : Bool
  /-- the tick of the last replay started, and whether the acknowledgement timeout started it (R232) -/
  replayTick : Option (Nat × Bool)
  deriving DecidableEq, Repr

def LinkSt.reset : LinkSt :=
  { txSeq := 0, expected := 0, delivered := false, replay := [], replaying := [], replayRun := 0, rreqNext := false,
    rreqOut := false, granted := (0, 0, 0), consumed := (0, 0, 0), given := (0, 0, 0), freed := (0, 0, 0), grantDue := false,
    rxPartial := [], inbox := [], vc0 := [], table := [], responses := [], forwards := [], notices := [], txSlots := [],
    lastFlit := [], oldGroup := none, wseqSeen := 0, wseqOpen := [], wseqEpoch := 0, wseqLive := false, replayTick := none }

/-! ### Memory services (08_memory_services) -/

/-- The free list of one half-channel of a pool (R243): pushed parcels first, then the parcels never popped since the rebuild,
in rising order from `next`.  `count` parcels are on it. -/
structure FreeList where
  /-- parcels pushed since the rebuild, top first -/
  pushed : List Nat
  /-- the least parcel index that the relinked part may still hold -/
  next : Nat
  /-- parcels on the list -/
  count : Nat
  /-- POOL_LOW raised and the list not back at low_thr (R247) -/
  low : Bool
  /-- parcels on it at the last boundary -/
  shown : Nat
  deriving DecidableEq, Repr

def FreeList.reset : FreeList := { pushed := [], next := 0, count := 0, low := false, shown := 0 }

/-- A parcel pool (R241 to R249). -/
structure PoolSt where
  rebuilding : Bool
  lists : KMap FreeList
  /-- link words written by the engines since the rebuild; the others are those the rebuild wrote -/
  links : KMap Nat
  /-- rows retired and banks out of service when the rebuild linked the lists, as row keys and as 32 * half-channel + bank (R243, R248) -/
  goneRows : List Nat
  goneBanks : List Nat
  deriving DecidableEq, Repr

def PoolSt.reset : PoolSt := { rebuilding := false, lists := [], links := [], goneRows := [], goneBanks := [] }

/-- An entry of the queue table (R250), with what R256 needs of the last DEQ. -/
structure Queue where
  head : Nat
  tail : Nat
  count : Nat
  profile : Nat
  /-- the rotation position; none: that of the last rebuild, the queue number modulo n -/
  rot : Option Nat
  opened : Bool
  discard : Bool
  wm : Nat
  bytes : Nat
  /-- the last DEQ took a parcel without eop -/
  midPacket : Bool
  deriving DecidableEq, Repr

def Queue.reset : Queue :=
  { head := 0, tail := 0, count := 0, profile := 0, rot := none, opened := false, discard := false, wm := 0, bytes := 0, midPacket := false }

/-- What a running memory operation does at its end. -/
inductive JobKind where
  | rd | wr | enq | deq | peek | atomic
  deriving DecidableEq, Repr

/-- A memory operation that has begun and waits for berths or landing lines. -/
structure Job where
  port : Nat
  entry : Entry
  kind : JobKind
  /-- lines or parcels still outstanding -/
  left : Nat
  /-- reads that its writes still wait for: fills, and the reads of read-modify-writes (R223, R239) -/
  reads : Nat
  /-- lines it writes in the landing once those are done: line, whether its miss has been counted, and the bytes -/
  plan : List (Nat × Bool × List (Option Byte))
  /-- lines read so far, by line number -/
  got : KMap (List Byte)
  /-- some parcel or line was uncorrectable -/
  bad : Bool
  status : Nat
  result : Nat
  /-- the stored bytes a DEQ or PEEK returns -/
  len : Nat
  /-- the parcel a DEQ frees at its completion: pool and index -/
  frees : Option (Nat × Nat)
  /-- its number (R191) -/
  wseq : Option Nat
  deriving DecidableEq, Repr

/-- The meter sweep (R271). -/
structure Sweep where
  /-- the tick at which the pass began -/
  start : Nat
  late : Bool
  /-- the line that comes next -/
  line : Nat
  deriving DecidableEq, Repr

structure SvcSt where
  pools : KMap PoolSt
  queues : KMap Queue
  jobs : KMap Job
  nextJob : Nat
  /-- QSTATE records raised in the current crossing: port and record (R261) -/
  records : List (Nat × List Byte)
  /-- pools that raised POOL_EXHAUSTED in the current crossing (R247) -/
  exhausted : List Nat
  /-- events raised at most once per crossing or period, by number, already raised -/
  once : List Nat
  /-- outstanding counts at the last boundary, by 64 * port + class (R323) -/
  outShown : KMap Nat
  sweep : Sweep
  /-- region fills and map clears that a commit requires, in their order (R365); the first runs -/
  fills : List Nat
  /-- region epochs (R387) -/
  epochs : KMap Nat
  deriving DecidableEq, Repr

/-! ### The landing (13_landing) -/

/-- State of a line: clean, dirty, or gathered into a queued write-back (R382). -/
inductive LineState where
  | clean | dirty | gathered
  deriving DecidableEq, Repr

structure Line where
  way : Nat
  data : List Byte
  st : LineState
  poisoned : Bool
  region : Nat
  epoch : Nat
  /-- order of its last write (R383) -/
  written : Nat
  /-- numbered transactions whose data it holds: port and number (R78) -/
  wseqs : List (Nat × Nat)
  deriving DecidableEq, Repr

/-- What an operation does on one line. -/
inductive LineOp where
  /-- returns the line to a job -/
  | read (job : Nat)
  /-- writes the listed bytes -/
  | write (job : Nat) (bytes : List (Option Byte))
  /-- brings the line in for a write of a job -/
  | probe (job : Nat)
  /-- the counter, word or meter operation of a job -/
  | atomic (job : Nat)
  /-- the meter sweep's refresh of a meter (R271) -/
  | refresh (offset : Nat)
  /-- a PRELOAD read (R386) -/
  | preload
  deriving DecidableEq, Repr

/-- A miss entry (R381). -/
structure Miss where
  line : Nat
  fc : Nat
  region : Nat
  /-- ways the fill may take: none when the access acts as bypass or an INVALIDATE came between (R380, R389) -/
  alloc : Bool
  /-- the number of its fill among the accesses -/
  seq : Nat
  /-- the fill has returned: its bytes, or none for an uncorrectable parcel -/
  back : Option (Option (List Byte))
  ops : List LineOp
  deriving DecidableEq, Repr

/-- The running operation of R386. -/
structure LdgOp where
  op : Nat
  region : Nat
  all : Bool
  /-- lines whose write-back must reach a core die, or parcels to read -/
  left : List Nat
  deriving DecidableEq, Repr

structure LdgSt where
  lines : KMap Line
  /-- the replacement tree of a set, by 4096 * slice + set -/
  plru : KMap Nat
  misses : List Miss
  /-- operations waiting for a miss entry: line, class and operation -/
  queued : List (Nat × Nat × LineOp)
  /-- operations held at the dirty limit (R383) -/
  stalled : List (Nat × Nat × LineOp)
  op : Option LdgOp
  /-- regions flushing after a change of policy, with the lines to be written back (R387) -/
  flushes : KMap (List Nat)
  /-- the mode-entry INVALIDATE runs (R388) -/
  entryFlush : Option (List Nat)
  writes : Nat
  disabled : Nat
  /-- misses in use, flushing and dirty lines of each slice as SLICE_DATA shows them -/
  shown : KMap Word
  deriving DecidableEq, Repr

/-! ### The scheduler and the DRAM controllers (09_timetable to 12_integrity) -/

/-- What an access does when its berth comes. -/
inductive Purpose where
  /-- a parcel of an RD, DEQ or PEEK -/
  | read (job : Nat)
  /-- a parcel written by a request: 256 places, a byte where the request writes one -/
  | write (job : Nat) (bytes : List (Option Byte))
  /-- a landing fill -/
  | fill (line : Nat)
  /-- a write-back: its lines, and the bytes of those that left the landing -/
  | writeBack (lines : List Nat) (held : KMap Line)
  deriving DecidableEq, Repr

/-- A request at a half-channel's scheduler. -/
structure Access where
  seq : Nat
  /-- the berth time at which it was passed to the scheduler -/
  born : Nat
  /-- the arrival port; 16: the device itself -/
  port : Nat
  fc : Nat
  panic : Bool
  write : Bool
  /-- the device address of its parcel, divided by 256 -/
  parcel : Nat
  /-- the lines of the parcel that it touches, as a mask of four -/
  lines : Nat
  /-- a booked request that conforms (R287) -/
  conf : Bool
  displaced : Bool
  /-- the read of a read-modify-write comes first (R239) -/
  reads : Bool
  /-- its read is done and nothing else may run on the parcel -/
  locked : Bool
  /-- taken again after a dropped command (R335) -/
  retry : Bool
  /-- the berth time at which it entered the scheduler's queue (R289) -/
  entered : Nat
  /-- an older booked request to its bank was waiting then (R289) -/
  behind : Bool
  purpose : Purpose
  deriving DecidableEq, Repr

/-- A queued repair write (R362). -/
structure Repair where
  parcel : Nat
  data : List Byte
  lost : Bool
  deriving DecidableEq, Repr

/-- A row repair under way (R351). -/
structure RowRepair where
  bank : Nat
  row : Nat
  step : Nat
  berths : Nat
  lost : List Nat
  deriving DecidableEq, Repr

/-- What a half-channel holds beside its registers. -/
structure HcSt where
  intake : List Access
  waiting : List Access
  queue : List Access
  lastPort : Nat
  berth : Nat
  lastAcc : KMap Nat
  lastRef : KMap Nat
  lastRead : Option Nat
  lastWrite : Option Nat
  opens : Nat
  drain : Bool
  dir : Bool
  run : Nat
  group : Option (Nat × Nat)
  panicBucket : Nat
  openBucket : Nat
  /-- what the class buckets hold below their depth, by 2 * class + direction (R287) -/
  spent : KMap Nat
  /-- banks refreshed in the current round of the due order, as a mask (R293) -/
  refDone : Nat
  refCount : KMap Nat
  passed : KMap Nat
  refRetry : Option Nat
  scrubAt : Nat
  scrubPasses : Nat
  scrubStart : Nat
  scrubLate : Bool
  scrubOpen : Nat
  repairs : List Repair
  repaired : List (Nat × Nat)
  pins : KMap Nat
  erased : Option Nat
  eraseDue : Option Nat
  suspects : List Nat
  rowRepair : Option RowRepair
  retrain : Option Nat
  retrainDue : Option Nat
  dropped : List Access
  /-- dropped commands whose retry is not yet arranged (R335), and the ticks of those of the last millisecond (R336) -/
  caNew : Nat
  caTicks : List Nat
  trackBank : Nat
  trackAt : Nat
  dq : KMap Word
  /-- HC_ARB_HC_DATA at the last boundary -/
  shown : Word
  /-- HC_DQ_DATA words at the last boundary -/
  dqShown : KMap Word
  /-- refresh state of the banks and lines of the last boundary -/
  short : Bool
  deriving DecidableEq, Repr

def HcSt.reset : HcSt :=
  { intake := [], waiting := [], queue := [], lastPort := 16, berth := 0, lastAcc := [], lastRef := [], lastRead := none,
    lastWrite := none, opens := 0, drain := false, dir := false, run := 0, group := none, panicBucket := 0, openBucket := 0,
    spent := [], refDone := 0, refCount := [], passed := [], refRetry := none, scrubAt := 0, scrubPasses := 0, scrubStart := 0,
    scrubLate := false, scrubOpen := 0, repairs := [], repaired := [], pins := [], erased := none, eraseDue := none,
    suspects := [], rowRepair := none, retrain := none, retrainDue := none, dropped := [], caNew := 0, caTicks := [],
    trackBank := 0, trackAt := 0, dq := [], shown := 0, dqShown := [], short := false }

/-- A core die: its mode words (R354) and the controller's copies (R355). -/
structure DieSt where
  mw : KMap Nat
  copy : KMap Nat
  valid : Bool
  deriving DecidableEq, Repr

def DieSt.reset : DieSt := { mw := [], copy := [], valid := false }

/-- The stack as a whole. -/
structure DramSt where
  /-- the bytes of the core dies, by location; an unlisted location holds 0 -/
  mem : KMap Byte
  /-- codewords in the lost pattern, by parcel location, as a mask of eight (R352) -/
  lost : KMap Nat
  /-- retired rows, by 16384 * (32 * half-channel + bank) + row (R371) -/
  retired : List Nat
  /-- row addresses served by a spare, numbered the same way (R349) -/
  spares : List Nat
  /-- retirement requests waiting for the next boundary: row keys, and the bank by hardware commit -/
  retireDue : List Nat
  bankDue : Option (Nat × Nat)
  nextSeq : Nat
  dies : KMap DieSt
  /-- entries of the error log, by place (R370) -/
  log : KMap Nat
  logSeq : Nat
  logFull : Bool
  deriving DecidableEq, Repr

/-! ### The timetable (09_timetable) -/

/-- What an image slot holds (R278). -/
inductive Slot where
  | empty
  /-- the default image of R303 -/
  | standard
  /-- a loaded image that is valid -/
  | image (bytes : List Byte)
  deriving DecidableEq, Repr

structure TtSt where
  active : Slot
  standby : Slot
  stormSlot : Slot
  /-- the scheduler runs STORM, entered at this tick (R300) -/
  stormAt : Option Nat
  /-- suspended classes, the last one first (R301) -/
  suspended : List Nat
  /-- precedence-0 classes and half-channels reported once (R301) -/
  reported : List Nat
  /-- the tick at which the last demand was withdrawn (R302) -/
  calmAt : Option Nat
  nextResume : Nat
  /-- a load runs: target STORM (R297) -/
  load : Option Bool
  /-- the refresh rate of the entries in use, 1, 2 or 3 for 1×, 2× and 4× (R293) -/
  rate : Nat
  rateDue : Option Nat
  paused : Bool
  deriving DecidableEq, Repr

/-! ### Forwarding marks of the fabric are in FabPort. -/

/-! ### The repair list of the BIST ledger (19_test_and_repair) -/

/-- Kinds of an entry of the repair list (R526). -/
inductive RepairKind where
  | dqRemap | caRemap | rowRepair | rowRetired | bankRetired
  deriving DecidableEq, Repr

/-- An entry of the repair list: where, and its state 0 PENDING, 1 COMPLETE or 2 RECORDED (R526).  `unit` is the bank, or the
failed line of a remap; `row` the row, or the spare that a remap takes. -/
structure LedgerEntry where
  kind : RepairKind
  hc : Nat
  unit : Nat
  row : Nat
  st : Nat
  deriving DecidableEq, Repr


/-! ### Thermal block (15_thermal) -/

/-- What the thermal block holds beside its registers.  Readings and shown values are in 0.25 °C. -/
structure ThermSt where
  /-- the model temperature of each node in °C (R414) -/
  model : KMap Rat
  /-- model, reading and effective values as the node registers show them -/
  shownModel : KMap Int
  shownRead : KMap Int
  shownEff : KMap Int
  /-- the latest conversion of each sensor, and the sensors whose latest conversion was out of range or faulty (R413, R419) -/
  reading : KMap Int
  badReads : List Nat
  /-- broken sensors with their causes (R419, R420) -/
  broken : KMap Nat
  /-- tick since which a sensor has given the same code, and the node's model values of the last 10 s (R419) -/
  codeSince : KMap Nat
  trail : KMap (List (Nat × Rat))
  /-- tick since which reading and model have differed by more than 12 °C (R419) -/
  diverge : KMap Nat
  /-- the boundary in 0.25 °C (R416) -/
  boundary : Int
  /-- the computed level and the updates in a row at which it was below the live one (R422, R423) -/
  computed : Nat
  below : Nat
  /-- updates in a row cool enough for a slower rate (R425) -/
  cool : Nat
  /-- THM_SINK was written since START, and the tick of its last write (R416) -/
  sinkTick : Option Nat
  /-- sums of the hottest core-die and base-die nodes since START, and the updates summed (R429) -/
  sumCore : Rat
  sumBase : Rat
  sums : Nat
  /-- crossings spent with a node above the live throttle start that THM_HOT_S does not count yet, and HOT_BUDGET was raised (R429) -/
  hotTime : Nat
  hotReported : Bool
  /-- the tick of the last update (R414) -/
  updatedAt : Option Nat
  /-- tick since which every sensor that counts has been cool, and the tick of the trip (R428) -/
  coolSince : Option Nat
  tripTick : Nat
  deriving DecidableEq, Repr

def ThermSt.reset : ThermSt :=
  { model := [], shownModel := [], shownRead := [], shownEff := [], reading := [], badReads := [], broken := [], codeSince := [], trail := [], diverge := [],
    boundary := 0, computed := 0, below := 0, cool := 0, sinkTick := none, sumCore := 0, sumBase := 0, sums := 0, hotTime := 0,
    hotReported := false, updatedAt := none, coolSince := none, tripTick := 0 }

/-! ### Fabric (14_fabric) -/

/-- What the fabric holds of a port beside its registers. -/
structure FabPort where
  /-- a trigger of R407 stands and the failover of R408 is not yet applied -/
  due : Bool
  /-- marked unusable (R408) -/
  marked : Bool
  /-- reason of the mark, as FAB_NBR.reason encodes it -/
  reason : Nat
  /-- a beacon has arrived since S7 entry (R409) -/
  beaconSeen : Bool
  /-- a beacon trigger stands: beacons missed, or a beacon with SAFE or without forwarding (R407) -/
  missed : Bool
  barred : Bool
  /-- the neighbour has the own node ID (R391) -/
  conflict : Bool
  /-- tick from which the hold-down counts (R409), and of the last beacon -/
  s7Tick : Nat
  beaconTick : Option Nat
  /-- ticks spent in S7 in earlier stays, and tick of the last S7 entry (R399) -/
  s7Sum : Nat
  s7In : Nat
  /-- own and peer epoch last reported (R392) -/
  epochs : Option (Nat × Nat)
  deriving DecidableEq, Repr

def FabPort.reset : FabPort :=
  { due := false, marked := false, reason := 0, beaconSeen := false, missed := false, barred := false, conflict := false,
    s7Tick := 0, beaconTick := none, s7Sum := 0, s7In := 0, epochs := none }

/-! ### The OTP array (18_registers_and_otp) -/

/-- An entry of the marginal list (R513). -/
structure Marginal where
  /-- 0 to 7 F0 to F7, 8 the control rows -/
  region : Nat
  word : Nat
  goodA : Bool
  goodB : Bool
  deriving DecidableEq, Repr

/-- What the antifuse array holds beside what F0 to F3 were shipped with (Config.shipped), and what FUSE made of it. -/
structure OtpSt where
  /-- words programmed in the field, by 4096 * region + 2048 * copy + logical word -/
  words : KMap Word
  /-- regions whose seal word is blown, as a mask -/
  seals : Nat
  /-- passes counted by the thermometer -/
  passes : Nat
  /-- redirection entries in their order: main row and spare (R518) -/
  redirs : List (Nat × Nat)
  /-- spare rows that no longer read blank, as a mask (R517) -/
  spent : Nat
  /-- the marginal list (R513) -/
  marginal : List Marginal
  /-- words of which no copy was good, or whose record failed, at the last FUSE or re-read: 4096 * region + word -/
  failed : List Nat
  /-- regions that FUSE found SEALED_INCOMPLETE or marginal in their seal word, as a mask (R508, R512) -/
  sealBad : Nat
  /-- OTP jobs waiting for the running one, by job number (R521) -/
  queue : List Nat
  deriving DecidableEq, Repr

/-! ### The purser (17_purser_events_snapshot) -/

/-- What a mailbox holds beside MBX_STATUS_m (R466). -/
structure Mailbox where
  /-- bytes of the request buffer, by offset (R468) -/
  buffer : KMap Byte
  /-- the request under execution, and the response posted -/
  request : List Byte
  response : List Byte
  /-- the port of an in-band or towpath owner, and the in-band request -/
  port : Nat
  entry : Option Entry
  deriving DecidableEq, Repr

def Mailbox.reset : Mailbox := { buffer := [], request := [], response := [], port := 0, entry := none }

/-- A long job that runs (R476). -/
structure PurserJob where
  num : Nat
  command : Nat
  /-- the request payload -/
  args : List Byte
  deriving DecidableEq, Repr

/-- A job that has ended, kept for JOB_RESULT (R476). -/
structure JobEnd where
  num : Nat
  command : Nat
  status : Nat
  result : List Byte
  deriving DecidableEq, Repr

structure Purser where
  boxes : KMap Mailbox
  /-- I3C pointer: mailbox, window, offset (R468) -/
  pointer : Nat × Nat × Nat
  /-- write and read limits set by SETMWL and SETMRL (R467) -/
  mwl : Nat
  mrl : Nat
  jobs : List PurserJob
  /-- latest first, 16 at most -/
  ended : List JobEnd
  /-- the purser is halted by a fault (R462): cause and program counter -/
  halted : Option (Nat × Word)
  /-- tick of the last release (R464), and of the last restart of the watchdog (R462) -/
  releaseTick : Nat
  watchdog : Nat
  /-- slot accepted last, slot that the boot ROM skips, and key index of the running image (R464, R520) -/
  slot : Nat
  skip : Option Nat
  key : Nat
  /-- the boot configuration block of the running image (R461) -/
  config : Option (List Word)
  /-- the boot ROM answers the mailboxes (R63, R66) -/
  rom : Bool
  deriving DecidableEq, Repr

/-! ### Self-test and test access (19_test_and_repair) -/

/-- A self-test that runs: at shutdown or on demand (R529, R542). -/
structure TestRun where
  shutdown : Bool
  /-- phases still to run, as TST_STATUS.phase encodes them; the first runs -/
  phases : List Nat
  /-- ports of the LANES phase -/
  ports : Nat
  /-- job number of an on-demand run -/
  job : Nat
  deriving DecidableEq, Repr

/-- The TAP (R543 to R545). -/
structure TapSt where
  ir : Nat
  /-- boundary cells driven or preloaded -/
  boundary : Nat
  /-- core die selected, and its WIR and WDR (R546) -/
  die : Nat
  wir : KMap Nat
  wdr : KMap Nat
  /-- the CFG_ACCESS register: data and ok (R544) -/
  data : Word
  ok : Bool
  deriving DecidableEq, Repr

/-- What a copy of the ledger holds (R526). -/
structure LedgerCopy where
  /-- 1 SHUTDOWN, 2 UPDATE, 0 no copy; the verdict of the shutdown self-test: 0 pass, 1 repaired, 2 fail; a START has used it -/
  kind : Nat
  verdict : Nat
  consumed : Bool
  entries : List LedgerEntry
  tsv : KMap (Nat × List Nat)
  shorts : List Nat
  deadSpares : List Nat
  queueRows : Nat
  imageRows : Nat
  disabled : Nat
  pointer : Nat
  passes : Nat
  seen : Nat
  deriving DecidableEq, Repr

def LedgerCopy.reset : LedgerCopy :=
  { kind := 0, verdict := 0, consumed := false, entries := [], tsv := [], shorts := [], deadSpares := [], queueRows := 0, imageRows := 0, disabled := 0, pointer := 0, passes := 0, seen := 0 }

structure TestSt where
  run : Option TestRun
  /-- what the newest valid copy of the ledger in flash holds (R526, R527) -/
  stored : LedgerCopy
  /-- measurements of TSV paths in mΩ: the baseline, and the last eight, newest first (R526, R533) -/
  tsv : KMap (Nat × List Nat)
  /-- paths last found shorted to a neighbour -/
  shorts : List Nat
  /-- spare TSVs that failed while idle (R534) -/
  deadSpares : List Nat
  /-- spare rows of the queue table and of the timetable SRAM in use (R535) -/
  queueRows : Nat
  imageRows : Nat
  /-- ARRAY coverage pointer and passes (R531) -/
  pointer : Nat
  passes : Nat
  /-- REPLACE causes seen and stored in the ledger (R541) -/
  seen : Nat
  /-- an UPDATE copy of the ledger is due (R527) -/
  updateDue : Bool
  /-- the tick of the last UPDATE copy (R527) -/
  updateAt : Option Nat
  /-- E372 was raised in this START (R539) -/
  recRaised : Bool
  tap : TapSt
  deriving DecidableEq, Repr

/-- What the last command that reads returned to its sender: the model's own field, no state of the hardware (log entry 49). -/
structure Answer where
  word : Word
  bytes : List Byte
  deriving DecidableEq, Repr

/-! ### The whole state -/

/-- Everything the block holds. -/
structure State where
  /-- commands that wait, first in first out -/
  pending : List Instr
  /-- the model's own count of the free values drawn (log entry 2) -/
  free : Nat
  /-- what the last command that reads returned (log entry 49) -/
  out : Answer
  /-- the model's own count of crossing boundaries since power-on, by the always-on oscillator (log entry 4) -/
  ticks : Nat
  /-- registers away from their reset values, by address -/
  regs : KMap Word
  /-- staged shadows that differ from the live value, by address (R12) -/
  staged : KMap Word
  /-- latched high words of SH pairs: address of the _HI word * 32 + source (R497) -/
  shadows : KMap Word
  /-- paired writes begun, by the register's address (R496) -/
  pairs : KMap PairPending
  /-- counter clear bits written and waiting for the boundary (R116), by address -/
  clears : List Nat
  /-- registers whose last write takes effect at the next boundary, with the word still in force, by address -/
  late : KMap Word
  commit : Commit
  pins : Pins
  always : AlwaysOn
  start : Start
  modes : Modes
  events : Events
  snap : Snap
  lanes : KMap LaneSt
  /-- requests to the lane ledger made in this crossing, by port, and the charge that its grants add, in mW (R122) -/
  asks : KMap LedgerAsk
  granted : Nat
  /-- ports whose charge changes at the boundary (R120) -/
  chargeDue : List Nat
  ports : KMap PortSt
  tows : KMap TowSt
  links : KMap LinkSt
  /-- the fabric's view of each port -/
  fab : KMap FabPort
  /-- requests that arrived so far -/
  nextUid : Nat
  svc : SvcSt
  landing : LdgSt
  hcs : KMap HcSt
  dram : DramSt
  tt : TtSt
  /-- the repair list of the BIST ledger (R526) -/
  ledger : List LedgerEntry
  therm : ThermSt
  /-- what the thermal model counts since its last update (R414, R415): 4 * half-channel + 0 activates, 1 reads, 2 writes, 3 refreshes;
  512 + slice line accesses; 544 transactions delivered; 545 queue operations -/
  activity : KMap Nat
  otp : OtpSt
  purser : Purser
  test : TestSt
  deriving DecidableEq, Repr

/-- The block when VAON has just risen: nothing is released, every register at its reset value (R72, R433). -/
def State.reset : State :=
  { pending := [], free := 0, out := { word := 0, bytes := [] }, ticks := 0, regs := [], staged := [], shadows := [], pairs := [], clears := [], late := [],
    commit := { armed := none, preparing := false, vote := none, hw := [], hwDue := [], suspendLeft := 0, drifting := false },
    pins := { vaon := true, pwrgood := false, resetN := false, nodeid := 0, thermtrip := false, snapDrive := false,
              snapIgnore := false, vqps := 0, recovered := 63, atReset := 0, mv := [] },
    always := { seqViolation := false, fillIncomplete := false, vqpsReported := false, anchor := none, signature := none,
                sentinelWrites := 0, selfRefresh := 0, railsHeld := true, coeffs := [], excursion := none,
                tripped := false, tripStart := false, dipDue := false, passRecord := none, underTest := none, faultVersion := 0 },
    start := { phase := .held, kind := 0, request := none, waitPins := true, diesOut := false, ready := false, portResets := [] },
    modes := { inflight := none, pending := none, intakeClosed := false, held := 0, exitStart := 0, undoTick := 0, stopTick := 0, swapped := false },
    events := { raised := [], counts := [], log := [], held := 0, latched := 0, lostRaised := false },
    snap := { capture := none, heldNext := none, slots := [], order := [0, 1, 2, 3], seq := 0 },
    lanes := [], asks := [], granted := 0, chargeDue := [], ports := [], tows := [], links := [],
    fab := [], nextUid := 0,
    svc := { pools := [], queues := [], jobs := [], nextJob := 0, records := [], exhausted := [], once := [], outShown := [],
             sweep := { start := 0, late := false, line := 0 }, fills := [], epochs := [] },
    landing := { lines := [], plru := [], misses := [], queued := [], stalled := [], op := none, flushes := [], entryFlush := none,
                 writes := 0, disabled := 0, shown := [] },
    hcs := [],
    dram := { mem := [], lost := [], retired := [], spares := [], retireDue := [], bankDue := none, nextSeq := 0, dies := [],
              log := [], logSeq := 0, logFull := false },
    tt := { active := .empty, standby := .empty, stormSlot := .empty, stormAt := none, suspended := [], reported := [], calmAt := none,
            nextResume := 0, load := none, rate := 1, rateDue := none, paused := false },
    ledger := [],
    therm := ThermSt.reset, activity := [],
    otp := { words := [], seals := 15, passes := 0, redirs := [], spent := 0, marginal := [], failed := [], sealBad := 0, queue := [] },
    purser := { boxes := [], pointer := (0, 0, 0), mwl := 1026, mrl := 1026, jobs := [], ended := [], halted := none, releaseTick := 0, watchdog := 0,
                slot := 0, skip := none, key := 0, config := none, rom := true },
    test := { run := none, stored := LedgerCopy.reset, tsv := [], shorts := [], deadSpares := [], queueRows := 0, imageRows := 0, pointer := 0, passes := 0, seen := 0,
              updateDue := false, updateAt := none, recRaised := false,
              tap := { ir := 1, boundary := 0, die := 0, wir := [], wdr := [], data := 0, ok := false } }
  }

end Sys2Proof.Machine
end

