-- ==== Sys2Proof/Machine/Ops.lean ====
section
/-!
DEFINITION. Machine/Ops.lean: the named operations every meaning is written with: reading and writing a register or a field
as the hardware does, free values, events and causes, counters, and the parts of State by number.
-/
set_option autoImplicit false

namespace Sys2Proof.Machine
open Reg Bit

/-- What every meaning answers: the next state. -/
abbrev Result := Host.Outcome State Fault Refusal

/-- Apply a change for each element of a list, in order. -/
def forEach {α : Type} (l : List α) (f : α → State → State) (s : State) : State := l.foldl (fun t a => f a t) s

/-- Apply a change when a condition holds. -/
def when (c : Bool) (f : State → State) (s : State) : State := if c then f s else s

namespace State

/-! ### Registers as hardware holds them -/

/-- The word a register holds. -/
def reg (s : State) (a : Nat) : Word := KMap.get resetAt s.regs a

/-- The state with a register at a word. -/
def setReg (s : State) (a : Nat) (v : Word) : State := { s with regs := KMap.put resetAt s.regs a v }

/-- The value of a field. -/
def get (s : State) (f : Field) : Nat := (s.reg f.addr).bits f.hi f.lo

/-- The state with a field at a value. -/
def put (s : State) (f : Field) (v : Nat) : State := s.setReg f.addr ((s.reg f.addr).withBits f.hi f.lo v)

/-- The value of a field that is in force: a write that waits for the boundary does not count yet. -/
def inForce (s : State) (f : Field) : Nat := ((s.late.find f.addr).getD (s.reg f.addr)).bits f.hi f.lo

/-- A one-bit field. -/
def flag (s : State) (f : Field) : Bool := s.get f != 0

/-- The state with a one-bit field set or cleared. -/
def putFlag (s : State) (f : Field) (b : Bool) : State := s.put f (if b then 1 else 0)

/-- A register as it stands after a reset of it. -/
def resetReg (s : State) (a : Nat) : State := s.setReg a (resetAt a)

/-! ### Free values (log entry 2) -/

/-- A free value of w bits. -/
def drawn (s : State) (w : Nat) : Nat := Config.freeValue s.free % 2 ^ w

/-- The state after a free value was drawn. -/
def drew (s : State) : State := { s with free := s.free + 1 }

/-- The state after n free values were drawn. -/
def drewMany (s : State) (n : Nat) : State := { s with free := s.free + n }

/-! ### The crossing counter and the period phase (R5, R8) -/

def cross (s : State) : Nat := (s.reg CROSS_CNT_HI).toNat * 2 ^ 32 + (s.reg CROSS_CNT_LO).toNat

def setCross (s : State) (n : Nat) : State :=
  (s.setReg CROSS_CNT_LO (BitVec.ofNat 32 n)).setReg CROSS_CNT_HI (BitVec.ofNat 32 (n / 2 ^ 32 % 2 ^ 16))

def phase (s : State) : Nat := s.get GLB_PERIOD_PHASE_phase

/-- How far ahead of the count a crossing lies, modulo 2^48 (R5). -/
def ahead (s : State) (n : Nat) : Nat := (n + Config.crossWrap - s.cross) % Config.crossWrap

/-- A crossing lies in the future (R5). -/
def future (s : State) (n : Nat) : Bool := decide (1 ≤ s.ahead n ∧ s.ahead n ≤ 2 ^ 47 - 1)

/-! ### Events (R10, R126, R477, R480) -/

/-- An event raised in the current crossing, with its info; the first info of a crossing stands. -/
def raiseEvent (s : State) (e info : Nat) : State :=
  let r := (s.events.raised.find e).getD ⟨0, 0⟩
  { s with events := { s.events with
      raised := s.events.raised.ins e ⟨r.count + 1, if r.count = 0 ∧ r.info = 0 then info else r.info⟩ } }

end State

/-- The info bits a cause contributes to the record of its event (R480). -/
def CauseBit.info (c : CauseBit) : Nat :=
  if c.event < 128 then 2 ^ c.bit
  else if c.event < 144 then
    if c.cause / 0x10000 = 5 then 2 ^ (21 + c.bit) else if c.cause % 0x400 = 0x110 then 2 ^ (11 + c.bit) else 2 ^ c.bit
  else if c.event < 208 then
    if (c.cause - 0x80000) / 0x200 % 2 = 1 then 2 ^ (16 + c.bit) else 2 ^ c.bit
  else 0

namespace State

/-- A cause bit set by hardware, with the info of its event (R126).  A masked cause is recorded and raises nothing. -/
def causeWith (s : State) (c : CauseBit) (info : Nat) : State :=
  let s1 := s.put ⟨c.cause, c.bit, c.bit⟩ 1
  let r := (s1.events.raised.find c.event).getD ⟨0, 0⟩
  let masked := natBit (s.reg c.mask).toNat c.bit
  let bits := if c.event < 208 then r.info ||| c.info else if r.count = 0 then info else r.info
  if masked ∧ 208 ≤ c.event then s1
  else { s1 with events := { s1.events with
      raised := s1.events.raised.ins c.event ⟨if masked then r.count else r.count + 1, bits⟩ } }

/-- A cause bit whose event carries no info of its own. -/
def cause (s : State) (c : CauseBit) : State := s.causeWith c 0

/-! ### Counters (R7, R116) -/

/-- A 32-bit count that saturates. -/
def addSat (s : State) (a n : Nat) : State :=
  s.setReg a (BitVec.ofNat 32 (satAdd 0xFFFFFFFF (s.reg a).toNat n))

/-- A 48-bit count over a _LO and a _HI register, which wraps. -/
def add48 (s : State) (lo n : Nat) : State :=
  let v := (s.reg (lo + 4)).toNat * 2 ^ 32 + (s.reg lo).toNat + n
  (s.setReg lo (BitVec.ofNat 32 v)).setReg (lo + 4) (BitVec.ofNat 32 (v / 2 ^ 32 % 2 ^ 16))

/-- A field that counts up and saturates. -/
def addField (s : State) (f : Field) (n : Nat) : State := s.put f (satAdd (2 ^ (f.hi + 1 - f.lo) - 1) (s.get f) n)

/-- Activity that the thermal model counts (R415). -/
def acted (s : State) (kind n : Nat) : State :=
  { s with activity := KMap.put (fun _ => 0) s.activity kind (KMap.get (fun _ => 0) s.activity kind + n) }

/-! ### Parts by number -/

def lane (s : State) (l : Nat) : LaneSt := KMap.get (fun _ => LaneSt.reset) s.lanes l
def setLane (s : State) (l : Nat) (v : LaneSt) : State := { s with lanes := KMap.put (fun _ => LaneSt.reset) s.lanes l v }
def port (s : State) (p : Nat) : PortSt := KMap.get (fun _ => PortSt.reset) s.ports p
def setPort (s : State) (p : Nat) (v : PortSt) : State := { s with ports := KMap.put (fun _ => PortSt.reset) s.ports p v }
def tow (s : State) (p : Nat) : TowSt := KMap.get (fun _ => TowSt.reset) s.tows p
def setTow (s : State) (p : Nat) (v : TowSt) : State := { s with tows := KMap.put (fun _ => TowSt.reset) s.tows p v }
def link (s : State) (p : Nat) : LinkSt := KMap.get (fun _ => LinkSt.reset) s.links p
def setLink (s : State) (p : Nat) (v : LinkSt) : State := { s with links := KMap.put (fun _ => LinkSt.reset) s.links p v }

def fabPort (s : State) (p : Nat) : FabPort := KMap.get (fun _ => FabPort.reset) s.fab p
def setFab (s : State) (p : Nat) (v : FabPort) : State := { s with fab := KMap.put (fun _ => FabPort.reset) s.fab p v }
def modFab (s : State) (p : Nat) (f : FabPort → FabPort) : State := s.setFab p (f (s.fabPort p))

def modLane (s : State) (l : Nat) (f : LaneSt → LaneSt) : State := s.setLane l (f (s.lane l))
def modPort (s : State) (p : Nat) (f : PortSt → PortSt) : State := s.setPort p (f (s.port p))
def modTow (s : State) (p : Nat) (f : TowSt → TowSt) : State := s.setTow p (f (s.tow p))
def modLink (s : State) (p : Nat) (f : LinkSt → LinkSt) : State := s.setLink p (f (s.link p))

/-! ### Modes (R433) -/

def mode (s : State) : Nat := s.get PWR_MODE_mode

end State

/-- Mode codes of PWR_MODE.mode. -/
def Mode.cold : Nat := 0
def Mode.start : Nat := 1
def Mode.service : Nat := 2
def Mode.throttled : Nat := 3
def Mode.idle : Nat := 4
def Mode.retention : Nat := 5
def Mode.maintenance : Nat := 6
def Mode.safe : Nat := 7

/-- The eight lanes of a port (R1). -/
def lanesOf (p : Nat) : List Nat := (List.range 8).map fun j => 8 * p + j

/-- The port a lane belongs to. -/
def portOf (l : Nat) : Nat := l / 8

/-- The stage of a port, 0 to 7 for S0 to S7 (R128). -/
def State.stage (s : State) (p : Nat) : Nat := s.get (PORT_STATUS_stage p)

/-- The device is in service: SERVICE or THROTTLED (R434). -/
def State.inService (s : State) : Bool := s.mode == Mode.service || s.mode == Mode.throttled

end Sys2Proof.Machine
end

