-- ==== Sys2Proof/Machine/Commit.lean ====
section
/-!
DEFINITION. Machine/Commit.lean: the shadows of staged fields and the commit controller's outcomes (R12 to R19, R549).
-/
set_option autoImplicit false

namespace Sys2Proof.Machine
open Reg Bit

/-- The staged bits of a register; the live masks of a map are staged by MAP_CHECK alone (R327). -/
def stagedMask (a : Nat) : Nat :=
  if HC_MAP0_SEL 0 ≤ a ∧ a ≤ HC_MAP1_SEL 11 then 0x3FFFFFF else match rowAt a with | some (r, _) => r.staged | none => 0

/-- The word that would be live after a switch: staged bits from the shadow, the others live. -/
def nextWord (s : State) (a : Nat) : Word :=
  match s.staged.find a with
  | none => s.reg a
  | some v =>
    let m : Word := BitVec.ofNat 32 (stagedMask a)
    (s.reg a &&& ~~~m) ||| (v &&& m)

/-- The value of a field that would be live after a switch. -/
def nextField (s : State) (f : Field) : Nat := (nextWord s f.addr).bits f.hi f.lo

/-- The unit that owns the staged bits of an address that differ (R549).  A TT_FC_CFG register holds fields of units 2 and 4: a write that
changes cap names 2, whatever else it changes, and one that changes nothing names 4 (the model's choice, log entry 6).  No field table names a
staged lane mode, so no register belongs to units 0 and 1 (the model's choice, log entry 7). -/
def ownerOf (a : Nat) (changed : Word) : Nat :=
  if a = LANE_LEDGER_ALLOW ∨ a = PWR_CEILING then 10
  else match a / 0x10000 with
    | 6 => if a < SVC_PROF_CFG 0 then 2 else 3
    | 7 => if a = TT_CTRL then 4
           else if a % 16 = TT_FC_WAYS 0 % 16 then 7
           else if changed.bits 25 16 ≠ 0 then 2 else 4
    | 9 => if a = HC_ARB_CTRL then 4 else 5
    | 11 => 7
    | 12 => 8
    | _ => 0

/-- The units whose shadow at an address differs from the live value: a fare class register holds fields of two units. -/
def ownersOf (s : State) (a : Nat) : List Nat :=
  let changed := nextWord s a ^^^ s.reg a
  if a / 0x10000 = 7 ∧ a ≠ TT_CTRL ∧ a % 16 = TT_FC_CFG 0 % 16 then
    (if changed.bits 25 16 ≠ 0 then [2] else []) ++ (if changed.bits 26 26 ≠ 0 ∨ changed.bits 13 0 ≠ 0 then [4] else [])
  else if changed = 0 then [] else [ownerOf a changed]

/-- The mask of units that hold a shadow differing from its live value (GLB_COMMIT_REFUSERS.staged). -/
def stagedUnits (s : State) : Nat := s.staged.foldl (fun m p => (ownersOf s p.1).foldl natSetBit m) 0

/-- GLB_COMMIT_STATUS.state. -/
def commitState (s : State) : Nat :=
  if s.commit.preparing then 3 else if s.commit.armed.isSome then 2 else if s.staged.isEmpty then 0 else 1

/-- The word GLB_COMMIT_STATUS reads as. -/
def commitStatus (s : State) : Word := (s.reg GLB_COMMIT_STATUS).withBits 1 0 (commitState s)

/-- Outcomes of an arm, as GLB_COMMIT_STATUS.cause encodes them. -/
def CommitCause.switched : Nat := 0
def CommitCause.notReady : Nat := 1
def CommitCause.tooSoon : Nat := 2
def CommitCause.rewritten : Nat := 3
def CommitCause.preempted : Nat := 4
def CommitCause.mode : Nat := 5
def CommitCause.cancelled : Nat := 6

/-- The arm is gone; go bit cleared. -/
def disarm (s : State) : State :=
  { s with commit := { s.commit with armed := none, preparing := false, vote := none } }.put GLB_COMMIT_CTRL_arm 0

/-- The outcome of an arm recorded, an abort counted and E250 raised with GLB_COMMIT_STATUS (R15, R18, R19, R480). -/
def commitAbort (cause first : Nat) (s : State) : State :=
  let s1 := ((s.put GLB_COMMIT_STATUS_cause cause).put GLB_COMMIT_STATUS_first_refuser first).addField GLB_COMMIT_ABORTS_count 1
  s1.raiseEvent 250 (commitStatus s1).toNat

/-- An armed commit withdrawn with a cause (R19). -/
def commitWithdraw (cause first : Nat) (s : State) : State :=
  if s.commit.armed.isSome then commitAbort cause first (disarm s) else s

/-- All shadows set to their live values. -/
def dropShadows (s : State) : State := { s with staged := [] }

/-- Any reset discards arm and shadows (R19). -/
def commitReset (s : State) : State := dropShadows (disarm s)

/-- An arm with target n (R15, R19): while START runs it is refused with MODE, closer than 4 crossings with TOO_SOON. -/
def commitArm (s : State) : State :=
  if s.commit.preparing then s
  else
    let n := s.get GLB_COMMIT_TGT_HI_tgt_hi * 2 ^ 32 + (s.reg GLB_COMMIT_TGT_LO).toNat
    if s.mode = Mode.start then commitAbort CommitCause.mode 15 s
    else if s.future n && decide (4 ≤ s.ahead n) then
      { s with commit := { s.commit with armed := some n, vote := none } }.put GLB_COMMIT_CTRL_arm 1
    else
      let s1 := commitAbort CommitCause.tooSoon 15 s
      if s.commit.armed.isSome then s1 else s1.put GLB_COMMIT_CTRL_arm 0

/-- The arm withdrawn by the host before the decision is sampled (R19). -/
def commitCancel (s : State) : State :=
  if s.commit.armed.isSome && s.commit.vote.isNone then
    ((disarm s).put GLB_COMMIT_STATUS_cause CommitCause.cancelled).put GLB_COMMIT_STATUS_first_refuser 15
  else s

/-- Shadows discarded by the host while nothing is armed (R19). -/
def commitDiscard (s : State) : State := if s.commit.armed.isSome then s else dropShadows s

/-- A staged field written: its shadow takes the staged bits of the word, and a running arm is withdrawn with REWRITTEN
(R12, R19). -/
def stageWord (a : Nat) (v : Word) (s : State) : State :=
  let m : Word := BitVec.ofNat 32 (stagedMask a)
  let changed := (v ^^^ nextWord s a) &&& m
  let away := (v ^^^ s.reg a) &&& m
  let s1 := { s with staged := if away = 0 then s.staged.erase a else s.staged.ins a (v &&& m) }
  commitWithdraw CommitCause.rewritten (ownerOf a (if changed = 0 then away else changed)) s1

end Sys2Proof.Machine
end

