-- ==== Sys2Proof/Machine/Codes.lean ====
section
/-!
DEFINITION. Machine/Codes.lean: the check codes of the towpath, the flit, the configuration check and the flash image, and the
convolutional and Gold codes of the towpath.
-/
set_option autoImplicit false

namespace Sys2Proof.Machine

/-- The bits of a byte, most significant first. -/
def byteBits (b : Byte) : List Bool := (List.range 8).map fun i => natBit b.toNat (7 - i)

/-- The low n bits of a number, most significant first. -/
def numBits (n v : Nat) : List Bool := (List.range n).map fun i => natBit v (n - 1 - i)

/-- One bit into a CRC of width w that takes its input most significant bit first. -/
def crcStep (w poly : Nat) (crc : Nat) (bit : Bool) : Nat :=
  let shifted := crc * 2 % 2 ^ w
  if natBit crc (w - 1) != bit then Nat.xor shifted poly else shifted

/-- A CRC of width w over bits, without reflection and without a final XOR. -/
def crcBits (w poly start : Nat) (bits : List Bool) : Nat := bits.foldl (crcStep w poly) start

/-- CRC-16 of frames and training control words (R168). -/
def crc16 (bits : List Bool) : Nat := crcBits 16 0x1021 0xFFFF bits

/-- CRC-8 of the towpath header (R167). -/
def crc8 (bits : List Bool) : Nat := crcBits 8 0x07 0 bits

/-- CRC-64 of a flit (R192). -/
def crc64 (l : List Byte) : Nat :=
  Nat.xor (crcBits 64 0x42F0E1EBA9EA3693 (2 ^ 64 - 1) (l.flatMap byteBits)) (2 ^ 64 - 1)

/-- The low w bits of a number in reverse order. -/
def reflect (w v : Nat) : Nat := (List.range w).foldl (fun a i => if natBit v i then a + 2 ^ (w - 1 - i) else a) 0

/-- CRC-32C, reflected, initial value and final XOR all ones (R459, R502). -/
def crc32c (l : List Byte) : Nat :=
  Nat.xor (reflect 32 (crcBits 32 0x1EDC6F41 0xFFFFFFFF (l.flatMap fun b => (byteBits b).reverse))) 0xFFFFFFFF

/-- Channel bits of the convolutional code K = 7, 171 and 133 octal, from the state of the last six bits (R166). -/
def convolve (st : Nat) (bits : List Bool) : List Bool :=
  match bits with
  | [] => []
  | b :: t =>
    let r := st + (if b then 64 else 0)
    let parity (g : Nat) := popCount 7 (Nat.land r g) % 2 == 1
    parity 0x79 :: parity 0x5B :: convolve (r / 2) t

/-! ### The decoder of the convolutional code (R166) -/

/-- A path through the code: what it scores against the soft values, and its bits, the last first. -/
structure Survivor where
  score : Int
  bits : List Bool
  deriving DecidableEq, Repr

/-- The better of two paths; the first on a tie (log entry 21). -/
def Survivor.better : Option Survivor → Option Survivor → Option Survivor
  | some a, some b => if a.score < b.score then some b else some a
  | some a, none => some a
  | none, b => b

/-- A soft value taken with the sign its channel bit asks for; positive for 0. -/
def softFor (bit : Bool) (v : Int) : Int := if bit then -v else v

/-- One information bit more: the survivor of each of the 64 states, from the two soft values of the bit. -/
def viterbiStep (old : List (Option Survivor)) (a b : Int) : List (Option Survivor) :=
  (List.range 64).map fun next =>
    let bit := decide (32 ≤ next)
    let came (st : Nat) : Option Survivor :=
      let out := convolve st [bit]
      (old.getD st none).map fun x =>
        ⟨x.score + softFor (out.getD 0 false) a + softFor (out.getD 1 false) b, bit :: x.bits⟩
    Survivor.better (came (next % 32 * 2)) (came (next % 32 * 2 + 1))

/-- The survivors after a stretch of soft values. -/
def viterbiRun : List (Option Survivor) → List Int → List (Option Survivor)
  | x, a :: b :: t => viterbiRun (viterbiStep x a b) t
  | x, _ => x

/-- The survivors of the coded part, which starts in the zero state. -/
def viterbi (soft : List Int) : List (Option Survivor) :=
  viterbiRun (some ⟨0, []⟩ :: List.replicate 63 none) (soft.map fun v => max (-127) (min 127 v))

/-- The bits of the best path into any state, and of the path the tail ends, in order. -/
def viterbiBest (soft : List Int) : List Bool :=
  match (viterbi soft).foldl Survivor.better none with | some x => x.bits.reverse | none => []
def viterbiEnd (soft : List Int) : List Bool :=
  match (viterbi soft).headD none with | some x => x.bits.reverse | none => []

/-- The number that bits spell, most significant first, and bits cut into numbers of n bits. -/
def bitsNum (l : List Bool) : Nat := l.foldl (fun a b => 2 * a + (if b then 1 else 0)) 0
def cutBits (n : Nat) : Nat → List Bool → List Nat
  | 0, _ => []
  | k + 1, l => bitsNum (l.take n) :: cutBits n k (l.drop n)

/-- The header the decoder commits from the soft values since the hail (R177). -/
def decodedHeader (soft : List Int) : Word := BitVec.ofNat 32 (bitsNum ((viterbiBest soft).take 32))

/-- The payload of L bytes and the CRC-16 at the end of a frame (R165). -/
def decodedPayload (length : Nat) (soft : List Int) : List Byte :=
  (cutBits 8 length ((viterbiEnd soft).drop 32)).map (BitVec.ofNat 8)
def decodedCrc (length : Nat) (soft : List Int) : Nat := bitsNum (((viterbiEnd soft).drop (32 + 8 * length)).take 16)

/-- The bits of the hail word (R165). -/
def hailBits : List Bool := numBits 32 0x2C9FD871

/-- Hard bits of the last 32 soft values that differ from the hail word, and its metric, clipped to 0 to 4064 (R175, R176). -/
def hailErrors (soft : List Int) : Nat := ((hailBits.zip soft).filter fun x => x.1 != decide (x.2 < 0)).length
def hailMetric (soft : List Int) : Nat :=
  (max 0 (min 4064 ((hailBits.zip soft).foldl (fun (a : Int) x => a + softFor x.1 (max (-127) (min 127 x.2))) 0))).toNat

/-- The header word of a towpath frame (R167). -/
def frameHeader (length seq tag : Nat) : Word :=
  let top := length % 128 * 2 ^ 17 + seq % 16 * 2 ^ 13 + tag % 4096 * 2
  BitVec.ofNat 32 (top * 256 + crc8 (numBits 24 top))

/-- A header passes its check (R167). -/
def headerOk (w : Word) : Bool :=
  crc8 (numBits 24 (w.bits 31 8)) == w.bits 7 0 && decide (1 ≤ w.bits 31 25 ∧ w.bits 31 25 ≤ 64) && w.bits 8 8 == 0

/-- CRC-16 over a frame's header and payload (R168). -/
def frameCrc (header : Word) (payload : List Byte) : Nat := crc16 (numBits 32 header.toNat ++ payload.flatMap byteBits)

/-- The channel bits of a frame: lead-in, hail word and coded part (R165, R166). -/
def frameChannel (header : Word) (payload : List Byte) : List Bool :=
  List.replicate 24 false ++ hailBits ++
    convolve 0 (numBits 32 header.toNat ++ payload.flatMap byteBits ++ numBits 16 (frameCrc header payload) ++ List.replicate 6 false)

/-- The output sequence of a 10-stage register whose recurrence is the XOR of the values `back` chips ago, from all ones. -/
def shiftSeq (back : List Nat) : Nat → List Bool → List Bool
  | 0, _ => []
  | n + 1, past =>
    let b := back.foldl (fun x k => x != past.getD (k - 1) false) false
    b :: shiftSeq back n ((b :: past).take 10)

/-- A sequence of 1023 chips: ten ones, then the feedback of the stages the polynomial names (R162; PRESUMED, log entry 30). -/
def goldPart (back : List Nat) : List Bool := List.replicate 10 true ++ shiftSeq back 1013 (List.replicate 10 true)

/-- Chip n of Gold code s (R162). -/
def goldChip (s n : Nat) : Bool :=
  (goldPart [3, 10]).getD (n % 1023) false != (goldPart [2, 3, 6, 8, 9, 10]).getD ((n + 1 + 64 * s) % 1023) false

/-- Chip n of a towpath bit on lane position j, as sent: true for -1 (R161, R163). -/
def sentChip (code j n : Nat) (bit : Bool) : Bool := bit != goldChip code (n + 93 * j)

/-! ### The parcel code (R357, R358) -/

/-- Twice an element of GF(2^8), whose polynomial is x^8 + x^4 + x^3 + x^2 + 1, and the product of two. -/
def byteTwice (a : Nat) : Nat := if 128 ≤ a then Nat.xor (a * 2) 0x11D else a * 2
def byteMul (a b : Nat) : Nat :=
  (List.range 8).foldl (fun r i => let t := byteTwice r; if natBit b (7 - i) then Nat.xor t a else t) 0

/-- α to a power. -/
def byteExp : Nat → Nat
  | 0 => 1
  | n + 1 => byteTwice (byteExp n)

/-- One factor x + α^i more; coefficients from the highest degree. -/
def timesRoot (g : List Nat) (i : Nat) : List Nat :=
  (g ++ [0]).zipWith (fun a b => Nat.xor a (byteMul b (byteExp i))) (0 :: g)

/-- The generator (x + α^0)(x + α^1)(x + α^2)(x + α^3) without its leading term, from x^3 down (R358). -/
def parcelGenerator : List Nat := ((List.range 4).foldl timesRoot [1]).drop 1

/-- The check symbols of 32 message symbols, as DQ32 to DQ35 carry them: m(x) x^4 mod g(x), from x^3 down (R358). -/
def checkSymbols (message : List Byte) : List Byte :=
  (message.foldl (fun (r : List Nat) m =>
    let f := Nat.xor m.toNat (r.getD 0 0)
    (r.drop 1 ++ [0]).zipWith (fun a g => Nat.xor a (byteMul f g)) parcelGenerator) [0, 0, 0, 0]).map (BitVec.ofNat 8)

/-- A word of 36 symbols is a codeword: it vanishes at the four roots of the generator. -/
def isCodeword (w : List Byte) : Bool :=
  (List.range 4).all fun i => w.foldl (fun r c => Nat.xor (byteMul r (byteExp i)) c.toNat) 0 == 0

/-- The symbols of codeword w on DQ0 to DQ35, of a parcel's bytes (R357). -/
def codeword (data : List Byte) (w : Nat) : List Byte :=
  let m := (data.drop (32 * w)).take 32
  m ++ checkSymbols m

/-- A codeword of a pattern: one byte throughout with its check symbols inverted; 0xA5 blank, 0x5A lost (R352). -/
def patternWord (b : Byte) : List Byte := List.replicate 32 b ++ (checkSymbols (List.replicate 32 b)).map fun c => ~~~c

def blankWord : List Byte := patternWord 0xA5
def lostWord : List Byte := patternWord 0x5A

/-- The symbol of codeword w in the 64 beats of a pin, beat k as bit k: beat 8w + k carries symbol bit 7 - k (R332, R357). -/
def beatSymbol (beats w : Nat) : Byte := BitVec.ofNat 8 (reflect 8 (beats / 2 ^ (8 * w) % 256))

end Sys2Proof.Machine
end

