-- ==== Sys2Proof/Machine/Fec.lean ====
section
/-!
DEFINITION. Machine/Fec.lean: the outer code RS(544,514) with its symbol and lane order, the inner code of optical reach with its
decoder, and the training frame (05_bringup_and_fec R136, R141, R151 to R155).
-/
set_option autoImplicit false

namespace Sys2Proof.Machine

/-! ### The field GF(2^10) (R151)

IEEE 802.3 gives this code the field polynomial x^10 + x^3 + 1 and the generator with the roots α^0 to α^29 (PRESUMED, log entry 11). -/

/-- Twice an element, and the product of two. -/
def gfTwice (a : Nat) : Nat := if 512 ≤ a then Nat.xor (a * 2) 0x409 else a * 2
def gfMul (a b : Nat) : Nat :=
  (List.range 10).foldl (fun r i => let t := gfTwice r; if natBit b (9 - i) then Nat.xor t a else t) 0

/-- The power of an element. -/
def gfPow (a : Nat) : Nat → Nat
  | 0 => 1
  | n + 1 => gfMul a (gfPow a n)

/-- α to a power, exponents modulo 1023. -/
def gfExp (n : Nat) : Nat := (List.range (n % 1023)).foldl (fun r _ => gfTwice r) 1

/-- The inverse of a nonzero element, as its 1022nd power: the product of the squarings of its square. -/
def gfInv (a : Nat) : Nat :=
  ((List.range 9).foldl (fun (r : Nat × Nat) _ => let q := gfMul r.2 r.2; (gfMul r.1 q, q)) (1, a)).1

/-- The value of a polynomial, coefficients from degree 0. -/
def gfEval (p : List Nat) (x : Nat) : Nat := p.foldr (fun c r => Nat.xor c (gfMul r x)) 0

/-- Sum and scaled shift of polynomials, coefficients from degree 0. -/
def gfAdd (p q : List Nat) : List Nat := (List.range (max p.length q.length)).map fun i => Nat.xor (p.getD i 0) (q.getD i 0)
def gfShift (c m : Nat) (p : List Nat) : List Nat := List.replicate m 0 ++ p.map (gfMul c)

/-! ### RS(544,514) (R151) -/

/-- The generator polynomial without its leading term, from degree 0. -/
def rsGenerator : List Nat :=
  ((List.range 30).foldl (fun g j => gfAdd (gfShift 1 1 g) (gfShift (gfExp j) 0 g)) [1]).take 30

/-- The codeword of 514 message symbols: the message, then 30 parity symbols, highest degree first. -/
def rsEncode (message : List Nat) : List Nat :=
  let rest := message.foldl (fun (r : List Nat) m =>
    let f := Nat.xor m (r.getD 29 0)
    gfAdd ((0 :: r).take 30) (gfShift f 0 rsGenerator)) (List.replicate 30 0)
  message ++ rest.reverse

/-- The syndromes of a received word. -/
def rsSyndromes (word : List Nat) : List Nat := (List.range 30).map fun j => word.foldl (fun r c => Nat.xor (gfMul r (gfExp j)) c) 0

/-- What the search for the error locator holds: locator, last locator with its discrepancy and age, and length. -/
structure RsSearch where
  loc : List Nat
  last : List Nat
  disc : Nat
  age : Nat
  len : Nat
  deriving DecidableEq, Repr

/-- One step of the search, on the syndromes up to number n. -/
def rsStep (syn : List Nat) (x : RsSearch) (n : Nat) : RsSearch :=
  let d := (List.range (x.len + 1)).foldl (fun r i => if i ≤ n then Nat.xor r (gfMul (x.loc.getD i 0) (syn.getD (n - i) 0)) else r) 0
  if d = 0 then { x with age := x.age + 1 }
  else
    let loc := gfAdd x.loc (gfShift (gfMul d (gfInv x.disc)) x.age x.last)
    if 2 * x.len ≤ n then ⟨loc, x.loc, d, 1, n + 1 - x.len⟩ else { x with loc := loc, age := x.age + 1 }

/-- The error locator of the syndromes (Berlekamp and Massey). -/
def rsLocator (syn : List Nat) : RsSearch := (List.range 30).foldl (rsStep syn) ⟨[1], [1], 1, 1, 0⟩

/-- The value of the error at the symbol of degree e (Forney). -/
def rsError (syn loc : List Nat) (e : Nat) : Nat :=
  let x := gfExp (1023 - e % 1023)
  let omega := (List.range 30).map fun i => (List.range (i + 1)).foldl (fun r j => Nat.xor r (gfMul (loc.getD j 0) (syn.getD (i - j) 0))) 0
  let deriv := (List.range loc.length).map fun i => if i % 2 = 0 then loc.getD (i + 1) 0 else 0
  gfMul (gfExp e) (gfMul (gfEval omega x) (gfInv (gfEval deriv x)))

/-- The decoder: the corrected codeword and the positions corrected, from 0 for the first symbol sent; none when no codeword lies within 15
symbols. -/
def rsDecode (word : List Nat) : Option (List Nat × List Nat) :=
  let syn := rsSyndromes word
  if syn.all (fun s => s == 0) then some (word, [])
  else
    let x := rsLocator syn
    let at_ := (List.range 544).filter fun i => gfEval x.loc (gfExp (1023 - (543 - i))) == 0
    if x.len ≤ 15 && at_.length == x.len then
      let fixed := (List.range word.length).map fun i =>
        if at_.contains i then Nat.xor (word.getD i 0) (rsError syn x.loc (543 - i)) else word.getD i 0
      if (rsSyndromes fixed).all (fun s => s == 0) then some (fixed, at_) else none
    else none

/-! ### Blocks, codewords, pairs and lanes (R151, R152) -/

/-- The blocks of a flit: flit-start bit and 32 bytes. -/
def flitBlocks (flit : List Byte) : List (Bool × List Byte) :=
  (List.range (flit.length / 32)).map fun i => (decide (i = 0), (flit.drop (32 * i)).take 32)

/-- The 257 bits of a block. -/
def blockBits (b : Bool × List Byte) : List Bool := b.1 :: b.2.flatMap byteBits

/-- The message of a codeword that carries 20 blocks. -/
def blocksMessage (blocks : List (Bool × List Byte)) : List Nat := cutBits 10 514 (blocks.flatMap blockBits)

/-- The 20 blocks that a codeword carries. -/
def messageBlocks (word : List Nat) : List (Bool × List Byte) :=
  let bits := (word.take 514).flatMap (numBits 10)
  (List.range 20).map fun k =>
    let b := (bits.drop (257 * k)).take 257
    (b.headD false, (cutBits 8 32 (b.drop 1)).map (BitVec.ofNat 8))

/-- The symbols of a pair that a lane of the sender carries. -/
def laneSymbols (pair : List Nat × List Nat) (lane : Nat) : List Nat :=
  (List.range 68).flatMap fun k => [pair.1.getD (8 * k + lane) 0, pair.2.getD (8 * k + lane) 0]

/-- The lane's bits of a pair. -/
def laneBits (pair : List Nat × List Nat) (lane : Nat) : List Bool := (laneSymbols pair lane).flatMap (numBits 10)

/-- The PAM4 symbol of two bits, Gray-coded: levels -3, -1, +1, +3 as 0 to 3. -/
def grayPam (a b : Bool) : Nat := match a, b with | false, false => 0 | false, true => 1 | true, true => 2 | true, false => 3

/-- Bits mapped to PAM4 symbols. -/
def pamSymbols : List Bool → List Nat
  | a :: b :: t => grayPam a b :: pamSymbols t
  | _ => []

/-- The lock pair with a flag and a countdown (R141). -/
def lockMessage (f c : Nat) : List Nat := (List.range 514).map fun i => c * 32 + f * 8 + i % 8
def lockCodewords (f c : Nat) : List Nat × List Nat := let w := rsEncode (lockMessage f c); (w, w)

/-! ### The inner code of optical reach (R154, R155) -/

/-- The information bits and parity bits that enter check m, parity bit k as 2048 + k. -/
def innerCheck (m : Nat) : List Nat :=
  let info := (List.range 32).map fun c => 64 * c + (if m < 64 then m else (m - 64 + 64 * 15 - 15 * c % 64) % 64)
  info ++ (if m = 0 then [2048] else [2047 + m, 2048 + m])

/-- The parity bits of a block of 2048 bits. -/
def innerParity (u : List Bool) : List Bool :=
  ((List.range 128).foldl (fun (r : List Bool × Bool) m =>
    let s := ((innerCheck m).filter fun i => decide (i < 2048)).foldl (fun x i => x != u.getD i false) false
    let b := r.2 != s
    (r.1 ++ [b], b)) ([], false)).1

/-- The inner codeword of a block. -/
def innerEncode (u : List Bool) : List Bool := u ++ innerParity u

/-- Every check of a word of 2176 bits holds. -/
def innerZeroSyndrome (bits : List Bool) : Bool :=
  (List.range 128).all fun m => !((innerCheck m).foldl (fun x i => x != bits.getD i false) false)

/-- What the decoder holds: the reliability of each bit, positive for 0, and the message of each check to its bits. -/
structure InnerSt where
  llr : List Rat
  msgs : List (List Rat)

/-- One check of a layered normalised min-sum iteration, with normalisation 0.75. -/
def innerLayer (x : InnerSt) (m : Nat) : InnerSt :=
  let bits := innerCheck m
  let old := x.msgs.getD m []
  let q := bits.zipIdx.map fun b => x.llr.getD b.1 0 - old.getD b.2 0
  let mag := fun (r : Rat) => if r < 0 then -r else r
  let new := (List.range q.length).map fun k =>
    let others := q.eraseIdx k
    let least := others.foldl (fun (a : Option Rat) r => match a with | none => some (mag r) | some v => some (min v (mag r))) none
    let odd := others.foldl (fun a r => a != decide (r < 0)) false
    (3 / 4 : Rat) * (if odd then -(least.getD 0) else least.getD 0)
  { llr := (bits.zipIdx).foldl (fun l b => l.set b.1 (q.getD b.2 0 + new.getD b.2 0)) x.llr, msgs := x.msgs.set m new }

/-- The hard decisions. -/
def innerHard (x : InnerSt) : List Bool := x.llr.map fun r => decide (r < 0)

/-- At most n iterations, checks in rising order (log entry 12): the iterations run and the decisions. -/
def innerRun (early : Bool) : Nat → Nat → InnerSt → Nat × List Bool
  | 0, done, x => (done, innerHard x)
  | n + 1, done, x =>
    if early && innerZeroSyndrome (innerHard x) then (done, innerHard x)
    else innerRun early n (done + 1) ((List.range 128).foldl innerLayer x)

/-- A block decoded from 2176 six-bit reliabilities. -/
def innerDecode (early : Bool) (limit : Nat) (llr : List Int) : Nat × List Bool :=
  innerRun early limit 0
    { llr := (List.range 2176).map fun i => ((max (-32) (min 31 (llr.getD i 0)) : Int) : Rat), msgs := List.replicate 128 [] }

/-! ### Training frames (R136) -/

/-- The polynomial x^13 + x^12 + x^2 + x + 1 as a register of thirteen bits, the oldest at bit 12: the next bit and register. -/
def prbs13Step (r : Nat) : Bool × Nat :=
  let b := natBit r 12 != (natBit r 11 != (natBit r 1 != natBit r 0))
  (b, r * 2 % 8192 + (if b then 1 else 0))

/-- n bits of PRBS13 from a register. -/
def prbs13 : Nat → Nat → List Bool
  | 0, _ => []
  | n + 1, r => let x := prbs13Step r; x.1 :: prbs13 n x.2

/-- The control field: the control word and its CRC-16 (R136, R168). -/
def controlField (w : Nat) : List Bool := numBits 32 w ++ numBits 16 (crc16 (numBits 32 w))

/-- The PAM4 symbols of a training frame with a control word and the PRBS13Q symbols that it carries. -/
def trainingSymbols (control : Nat) (prbs : List Bool) : List Nat :=
  List.replicate 16 3 ++ List.replicate 16 0 ++ (controlField control).flatMap (fun b => List.replicate 4 (if b then 3 else 0)) ++
    pamSymbols (prbs.take 7744)

end Sys2Proof.Machine
end

