-- ==== Sys2Proof/Machine/Operands.lean ====
section
/-!
DEFINITION. Machine/Operands.lean: the operand forms of transactions: header and slots, virtual channels, and the rules each
request's header must keep (R188, R205, R211 to R219).
-/
set_option autoImplicit false

namespace Sys2Proof.Machine

/-! ### Header words (R211) -/

def boolNat (b : Bool) : Nat := if b then 1 else 0

/-- The 128 bits of a header. -/
def packHeader (h : Header) : Nat :=
  h.opcode % 64 * 2 ^ 122 + h.fc % 64 * 2 ^ 116 + boolNat h.panic * 2 ^ 115 + h.tag % 4096 * 2 ^ 103 + h.src % 64 * 2 ^ 97 +
    h.dst % 64 * 2 ^ 91 + boolNat h.vn * 2 ^ 90 + boolNat h.posted * 2 ^ 89 + boolNat h.fence * 2 ^ 88 +
    h.addr % 2 ^ 36 * 2 ^ 52 + h.len % 2048 * 2 ^ 41 + h.rlen % 2048 * 2 ^ 30 + h.aux % 2 ^ 24

/-- The header that 128 bits spell; the reserved bits are ignored. -/
def unpackHeader (n : Nat) : Header :=
  { opcode := n / 2 ^ 122 % 64, fc := n / 2 ^ 116 % 64, panic := natBit n 115, tag := n / 2 ^ 103 % 4096,
    src := n / 2 ^ 97 % 64, dst := n / 2 ^ 91 % 64, vn := natBit n 90, posted := natBit n 89, fence := natBit n 88,
    addr := n / 2 ^ 52 % 2 ^ 36, len := n / 2 ^ 41 % 2048, rlen := n / 2 ^ 30 % 2048, aux := n % 2 ^ 24 }

/-- The 16 bytes of a header slot. -/
def headerBytes (h : Header) : List Byte := bytesBE 16 (packHeader h)

/-- Slots, and credits, of a transaction (R199, R205). -/
def slotCount (len : Nat) : Nat := 1 + (len + 15) / 16

/-- Bytes cut into slots of 16, the last padded with zeros. -/
def chunk16 : Nat → List Byte → List (List Byte)
  | 0, _ => []
  | n + 1, l => (l.take 16 ++ List.replicate (16 - (l.take 16).length) 0) :: chunk16 n (l.drop 16)

/-- The slots a transaction is sent in, each with its start bit (R199). -/
def txnSlots (t : Txn) : List (Bool × List Byte) :=
  (true, headerBytes t.hdr) :: (chunk16 ((t.hdr.len + 15) / 16) t.data).map fun b => (false, b)

/-! ### Virtual channels (R204, R206) -/

/-- The virtual channel of an opcode. -/
def vcOf (opcode : Nat) : Nat := if opcode < 0x20 then 0 else if opcode < 0x30 then 1 else 2

def vcGet (c : Nat × Nat × Nat) (vc : Nat) : Nat := match vc with | 0 => c.1 | 1 => c.2.1 | _ => c.2.2

/-- A count per virtual channel advanced modulo 65,536. -/
def vcAdd (c : Nat × Nat × Nat) (vc n : Nat) : Nat × Nat × Nat :=
  match vc with
  | 0 => ((c.1 + n) % 65536, c.2.1, c.2.2)
  | 1 => (c.1, (c.2.1 + n) % 65536, c.2.2)
  | _ => (c.1, c.2.1, (c.2.2 + n) % 65536)

def vcSum (a b : Nat × Nat × Nat) : Nat × Nat × Nat :=
  ((a.1 + b.1) % 65536, (a.2.1 + b.2.1) % 65536, (a.2.2 + b.2.2) % 65536)

/-! ### Request forms (R212, R214, R216, R218, R219) -/

/-- NAK codes (R223). -/
def Nak.notInService : Nat := 0x01
def Nak.malformed : Nat := 0x02
def Nak.unsupported : Nat := 0x03
def Nak.noRegion : Nat := 0x04
def Nak.denied : Nat := 0x05
def Nak.capExceeded : Nat := 0x06
def Nak.tagBusy : Nat := 0x07
def Nak.noRoute : Nat := 0x08
def Nak.dataError : Nat := 0x09
def Nak.abandoned : Nat := 0x0A
def Nak.postedStatus : Nat := 0x10

/-- Opcodes of requests. -/
def Op.rd : Nat := 0x01
def Op.wr : Nat := 0x02
def Op.wrm : Nat := 0x03
def Op.enq : Nat := 0x08
def Op.deq : Nat := 0x09
def Op.peek : Nat := 0x0A
def Op.drop : Nat := 0x0B
def Op.move : Nat := 0x0C
def Op.cntAdd : Nat := 0x10
def Op.cntRdclr : Nat := 0x11
def Op.fadd : Nat := 0x12
def Op.cas : Nat := 0x13
def Op.meter : Nat := 0x14
def Op.cfgRd : Nat := 0x18
def Op.cfgWr : Nat := 0x19
def Op.mbx : Nat := 0x1A

/-- Length of a payload or response within bounds and step. -/
def lenIn (v low high step : Nat) : Bool := decide (low ≤ v ∧ v ≤ high) && v % step == 0

/-- The len and rlen rule of an opcode for a largest length, 1024 in v2 and 512 in v1 (R212, R231). -/
def lenOk (opcode len rlen most : Nat) : Bool :=
  match opcode with
  | 0x01 => len == 0 && lenIn rlen 1 most 1
  | 0x02 => lenIn len 1 most 1 && rlen == 0
  | 0x03 => lenIn (len - 32) 16 256 16 && decide (48 ≤ len) && rlen == 0
  | 0x08 => lenIn len 1 256 1 && rlen == 0
  | 0x09 | 0x0A => len == 0 && rlen == 256
  | 0x0B | 0x14 => len == 0 && rlen == 0
  | 0x0C | 0x10 => len == 16 && rlen == 0
  | 0x11 => len == 0 && rlen == 16
  | 0x12 | 0x13 => len == 16 && rlen == 16
  | 0x18 => len == 0 && lenIn rlen 4 64 4
  | 0x19 => lenIn len 4 64 4 && rlen == 0
  | 0x1A => lenIn len 4 most 4 && lenIn rlen 4 most 4
  | _ => false

/-- Posted is allowed (R212). -/
def mayPost (opcode : Nat) : Bool :=
  opcode == 0x02 || opcode == 0x03 || opcode == 0x08 || opcode == 0x0B || opcode == 0x0C || opcode == 0x10

/-- n bytes from a lie in one 1 KiB-aligned block. -/
def oneBlock (a n : Nat) : Bool := a / 1024 == (a + n - 1) / 1024

/-- The addr rule of an opcode (R214).  Alignment of the 16-byte and 32-byte operands is part of it (R263 to R268). -/
def addrOk (h : Header) : Bool :=
  match h.opcode with
  | 0x01 => oneBlock h.addr h.rlen
  | 0x02 => oneBlock h.addr h.len
  | 0x03 => h.addr % 16 == 0 && oneBlock h.addr (h.len - 32)
  | 0x08 | 0x09 | 0x0A | 0x0B | 0x0C => decide (h.addr < 2 ^ 18)
  | 0x18 | 0x19 => h.addr % 4 == 0 && decide (h.addr < 2 ^ 24)
  | 0x1A => decide (h.addr < 8)
  | _ => true

/-- Memory operations, answered NOT_IN_SERVICE before release (R63). -/
def memoryOp (opcode : Nat) : Bool := decide (opcode < 0x18)

/-- A request keeps the header rules (R212, R214, R216, R219). -/
def requestOk (h : Header) (most : Nat) (postedEn : Bool) : Bool :=
  lenOk h.opcode h.len h.rlen most && addrOk h && (memoryOp h.opcode || h.fc == 0) &&
    (if h.posted then mayPost h.opcode && postedEn && h.tag == 0xFFF else h.tag != 0xFFF)

end Sys2Proof.Machine
end

