-- ==== Sys2Proof/Machine/Responses.lean ====
section
/-!
DEFINITION. Machine/Responses.lean: responses, notices, port groups, the request table and the sending of transactions of a
Uzoset link (R204 to R210, R217 to R230, R399, R402, R405).
-/
set_option autoImplicit false

namespace Sys2Proof.Machine
open Reg Bit

/-- The port runs version 2 (R133, R231). -/
def isV2 (s : State) (p : Nat) : Bool := s.get (PORT_STATUS_version p) == 2

/-- The largest len and rlen of the port's version. -/
def longest (s : State) (p : Nat) : Nat := if isV2 s p then 1024 else 512

/-- The port's link state stands: S7, or a quick retrain or speed step that leads back to it (R145, R226). -/
def linkUp (s : State) (p : Nat) : Bool := s.stage p == 7 || (s.port p).keepLink

/-! ### Routes (R390, R395, R396) -/

def liveNode (s : State) : Nat := s.get FAB_NODE_id

/-- The port takes part in forwarding and no mark stands on it. -/
def portUsable (s : State) (p : Nat) : Bool :=
  s.stage p == 7 && s.flag (FAB_PORT_CTRL_fwd p) && !(s.fabPort p).marked && !(s.fabPort p).conflict

/-- The live set of a node's entry: its ports and 1 for primary, 2 for backup, 0 for none. -/
def liveSet (s : State) (n : Nat) : List Nat × Nat :=
  let of := fun mask => ((List.range 16).filter fun p => natBit mask p && portUsable s p).take 4
  let prim := of (s.get (FAB_RT_primary n))
  let back := of (s.get (FAB_RT_backup n))
  if !prim.isEmpty then (prim, 1) else if !back.isEmpty then (back, 2) else ([], 0)

/-- The XOR of the 6-bit chunks of a key. -/
def chunks : Nat → Nat → Nat
  | 0, _ => 0
  | n + 1, v => Nat.xor (v % 64) (chunks n (v / 64))

/-- The target key of a request; a response, of which the spec names no key, is routed by its addr as a memory operation is (log entry 37). -/
def targetKey (opcode addr : Nat) : Nat :=
  if opcode = 0x18 ∨ opcode = 0x19 then addr / 4 % 2 ^ 22
  else if opcode = 0x1A then addr % 8
  else if 0x08 ≤ opcode ∧ opcode ≤ 0x0C then addr % 2 ^ 18
  else addr / 64 % 2 ^ 30

def hashOf (opcode addr src dst : Nat) : Nat := Nat.xor (chunks 5 (targetKey opcode addr)) (Nat.xor (src % 64) (dst % 64))

/-- The port a header leaves on by the table. -/
def routeOf (s : State) (h : Header) : Option Nat :=
  let l := (liveSet s h.dst).1
  if l.isEmpty then none else l[hashOf h.opcode h.addr h.src h.dst % l.length]?

/-- A beacon or CAP that carries the own node ID as valid marks its port with CONFLICT: a failover trigger (R391, R407). -/
def nodeConflict (p node : Nat) (valid : Bool) (s : State) : State :=
  if !valid || node != liveNode s || (s.fabPort p).conflict then s
  else (s.modFab p fun x => { x with conflict := true, due := true, reason := 4 }).cause Cause.FAB_node_conflict

/-! ### Port groups (R229) -/

def groupOf (s : State) (p : Nat) : Nat := (s.link p).oldGroup.getD (s.get (UZ_CTRL_group p))

def peerNode (s : State) (p : Nat) : Nat := (s.reg (PORT_STATUS p)).bits 26 20

/-- The port that takes the responses of a fallen one. -/
def rerouteTarget (s : State) (p : Nat) : Option Nat :=
  (List.range 16).find? fun q => q != p && s.stage q == 7 && groupOf s q == groupOf s p && peerNode s q == peerNode s p

/-! ### The request table (R210) -/

def Entry.key (e : Entry) : Nat × Nat := (e.txn.hdr.src, e.txn.hdr.tag)

/-- Entries of the shared 8192 in use. -/
def sharedUsed (s : State) : Nat := (List.range 16).foldl (fun t p => t + ((s.link p).table.length - 512)) 0

/-- A request of the port finds a free entry. -/
def tableFree (s : State) (p : Nat) : Bool := decide ((s.link p).table.length < 512) || decide (sharedUsed s < 8192)

/-- The entry of a request leaves the table. -/
def freeEntry (p uid : Nat) (s : State) : State :=
  s.modLink p fun x => { x with table := x.table.filter fun e => e.uid != uid }

def findEntry (s : State) (p src tag : Nat) : Option Entry := (s.link p).table.find? fun e => e.key == (src, tag)

/-- An entry of the table changed in place. -/
def modEntry (p uid : Nat) (f : Entry → Entry) (s : State) : State :=
  s.modLink p fun x => { x with table := x.table.map fun e => if e.uid = uid then f e else e }

/-- The number of a transaction in the port's present epoch: numbers of an earlier pass through S7 count no more (R78, R194). -/
def wseqFull (x : LinkSt) (n : Nat) : Nat := x.wseqEpoch * 2 ^ 32 + n % 2 ^ 32

/-- A number's data is at a core die, or will never be written: once per use of it (R78). -/
def wseqClose (w : Nat × Nat) (s : State) : State := s.modLink w.1 fun x => { x with wseqOpen := x.wseqOpen.erase w.2 }
def wseqHold (w : Nat × Nat) (s : State) : State :=
  s.modLink w.1 fun x => if w.2 / 2 ^ 32 = x.wseqEpoch then { x with wseqOpen := insertDup w.2 x.wseqOpen } else x
where
  /-- Insertion in rising order, repeats kept. -/
  insertDup (n : Nat) : List Nat → List Nat
    | [] => [n]
    | a :: t => if n ≤ a then n :: a :: t else a :: insertDup n t

/-- The entry as the table holds it now. -/
def entryNow (s : State) (p : Nat) (e : Entry) : Entry := ((s.link p).table.find? fun x => x.uid == e.uid).getD e

/-- A request has reached its completion point (R272). -/
def completed (p : Nat) (e : Entry) (s : State) : State := modEntry p e.uid (fun x => { x with begun := true, done := true }) s

/-- The largest n such that every numbered transaction up to n is at a core die: GLB_WSEQ_DONE and wseq_done, modulo 2^32 (R78, R191). -/
def wseqReached (x : LinkSt) : Nat :=
  match x.wseqOpen.map fun w => (x.wseqSeen + 2 ^ 32 - w % 2 ^ 32) % 2 ^ 32 with
  | [] => x.wseqSeen
  | b :: t => (x.wseqSeen + 2 ^ 33 - t.foldl max b - 1) % 2 ^ 32

/-- The tag is outstanding in the port group, in the table or in a VC0 buffer (R218). -/
def tagBusy (s : State) (p src tag : Nat) : Bool :=
  (List.range 16).any fun q => groupOf s q == groupOf s p &&
    ((findEntry s q src tag).isSome || (s.link q).vc0.any fun e => e.key == (src, tag))

/-! ### Responses (R222, R223, R229) -/

/-- Discarded for want of a port (R229). -/
def discardResponse (p : Nat) (s : State) : State := (s.addSat (UZ_CPL_DISCARD p) 1).cause (Cause.UZ_cpl_discard p)

def freeOutgoing (o : Outgoing) (s : State) : State :=
  match o.frees with
  | none => s
  | some (p, uid) => freeEntry p uid s

/-- A response joins those of a port; a port in v1 carries no DELAY (R231, log entry 38). -/
def joinResponses (q : Nat) (o : Outgoing) (s : State) : State :=
  if !isV2 s q && o.txn.hdr.opcode = 0x22 then s else s.modLink q fun x => { x with responses := x.responses ++ [o] }

/-- A response routed by the table (R398, R401). -/
def routeResponse (t : Txn) (s : State) : State :=
  match routeOf s t.hdr with
  | none => (s.addSat FAB_DISCARD 1).cause Cause.FAB_fwd_discard
  | some q =>
    let line := s.flag (FAB_PORT_CTRL_dateline q)
    if line && t.hdr.vn then (s.addSat FAB_DATELINE2 1).cause Cause.FAB_dateline_twice
    else joinResponses q ⟨{ t with hdr := { t.hdr with vn := t.hdr.vn || line } }, none, none, false⟩ s

/-- A response for the requester on port p: on the port itself, or where R229 sends it.  A posted NAK of a fallen port is dropped
(R232); a forwarded response that finds no port is routed by the table (R398). -/
def queueResponse (p : Nat) (o : Outgoing) (s : State) : State :=
  if linkUp s p then joinResponses p o s
  else if o.own && o.txn.hdr.opcode = 0x21 && o.txn.hdr.tag = 0xFFF then freeOutgoing o s
  else match rerouteTarget s p with
    | some q => joinResponses q o s
    | none => if o.own then discardResponse p (freeOutgoing o s) else routeResponse o.txn s

/-- The header of a response (R222); on v1 the panic bit is sent as 0 (R231). -/
def responseHeader (s : State) (p : Nat) (h : Header) (opcode len aux : Nat) : Header :=
  { opcode := opcode, fc := h.fc, panic := h.panic && isV2 s p, tag := h.tag, src := s.get FAB_NODE_id, dst := h.src, vn := h.vn,
    posted := false, fence := false, addr := h.addr, len := len, rlen := 0, aux := aux }

/-- A NAK of a request (R223). -/
def nakTxn (s : State) (p : Nat) (h : Header) (code status : Nat) : Txn :=
  ⟨responseHeader s p h 0x21 16 (code * 65536 + status * 256), headerBytes h⟩

/-- The request ends with a NAK; a request whose completion is discarded ends silently (R79). -/
def answerNak (p : Nat) (e : Entry) (code status : Nat) (s0 : State) : State :=
  let s := match (entryNow s0 p e).wseq with | some n => wseqClose (p, n) s0 | none => s0
  if (entryNow s p e).dead then freeEntry p e.uid s
  else queueResponse p ⟨nakTxn s p e.txn.hdr code status, some (p, e.uid), some (p, e.uid), true⟩
    (modEntry p e.uid (fun x => { x with begun := true, done := true, refused := true, wseq := none }) s)

/-- The request ends with a status, a result and response bytes: a CPL, or for a posted request nothing or POSTED_STATUS
(R219, R222). -/
def answer (p : Nat) (e : Entry) (status result : Nat) (data : List Byte) (s : State) : State :=
  let h := e.txn.hdr
  let s1 := completed p e s
  if (entryNow s p e).dead then freeEntry p e.uid s1
  else if h.posted then
    if status = 0 then freeEntry p e.uid s1
    else queueResponse p ⟨nakTxn s1 p h Nak.postedStatus status, some (p, e.uid), some (p, e.uid), true⟩ s1
  else
    let cpl : Txn := ⟨responseHeader s p h 0x20 data.length (status * 65536 + result % 65536), data⟩
    queueResponse p ⟨cpl, some (p, e.uid), some (p, e.uid), true⟩ s1

/-! ### Notices (R228) -/

/-- A notice raised on a port. -/
def pushNotice (p opcode : Nat) (data : List Byte) (s : State) : State :=
  if !s.flag (UZ_CTRL_ntf_en p) || !isV2 s p then s
  else if 64 ≤ (s.link p).notices.length then (s.addSat (UZ_NTF_DROP p) 1).cause (Cause.UZ_ntf_drop p)
  else
    let dst := if s.flag (PORT_STATUS_peer_node_valid p) then s.get (PORT_STATUS_peer_node p) else s.get FAB_NODE_id
    let h : Header := { opcode := opcode, fc := 0, panic := false, tag := 0xFFF, src := s.get FAB_NODE_id, dst := dst, vn := false,
                        posted := false, fence := false, addr := 0, len := data.length, rlen := 0, aux := 0 }
    s.modLink p fun x => { x with notices := x.notices ++ [(s.ticks, ⟨h, data⟩)] }

/-! ### Sending a transaction (R205 to R207, R228, R402, R405) -/

/-- Credits held on a virtual channel (R206). -/
def creditsHeld (x : LinkSt) (vc : Nat) : Nat := (vcGet x.granted vc + 65536 - vcGet x.consumed vc) % 65536

/-- The transaction may start: its credits are held, and on a forwarding port the reserve of R402 stays. -/
def maySend (s : State) (p : Nat) (t : Txn) : Bool :=
  let vc := vcOf t.hdr.opcode
  let need := slotCount t.hdr.len
  let held := creditsHeld (s.link p) vc
  let reserve := s.flag (FAB_PORT_CTRL_fwd p) && ((vc == 0 && !t.hdr.vn) || (vc == 1 && t.hdr.vn))
  decide (need + (if reserve then 130 else 0) ≤ held)

/-- The forwarded requests that may be next: the oldest of VN1, then the oldest of VN0 (R402, R405). -/
def forwardOrder (l : List Outgoing) : List Outgoing := (l.filter fun o => o.txn.hdr.vn).take 1 ++ (l.filter fun o => !o.txn.hdr.vn).take 1

/-- A transaction as the port's version carries it: v1 sends the panic bit as 0 (R231). -/
def asVersion (s : State) (p : Nat) (t : Txn) : Txn := if isV2 s p then t else { t with hdr := { t.hdr with panic := false } }

/-- The slots of a transaction placed for the next flits and its credits consumed. -/
def placeTxn (p : Nat) (t : Txn) (s : State) : State :=
  s.modLink p fun x => { x with
    txSlots := x.txSlots ++ txnSlots (asVersion s p t), consumed := vcAdd x.consumed (vcOf t.hdr.opcode) (slotCount t.hdr.len) }

/-- Counts of a NAK of the device's own that is sent. -/
def countNak (p : Nat) (t : Txn) (s : State) : State :=
  let code := t.hdr.aux / 65536 % 256
  let req := unpackHeader (ofBytesBE (t.data.take 16))
  let s1 := ((((s.addSat (UZ_NAKS p) 1).put (UZ_LAST_NAK_code p) code).put (UZ_LAST_NAK_opcode p) req.opcode).put
    (UZ_LAST_NAK_tag p) req.tag).put (UZ_LAST_NAK_src p) req.src
  let s2 := s1.cause (Cause.UZ_nak_sent p)
  if code = Nak.malformed then s2.cause (Cause.UZ_malformed p)
  else if code = Nak.tagBusy then s2.cause (Cause.UZ_tag_busy p)
  else if code = Nak.abandoned then s2.cause (Cause.UZ_abandoned p)
  else s2

/-- The ticks that a port has spent in S7 (R399). -/
def s7Time (s : State) (p : Nat) : Nat := (s.fabPort p).s7Sum + (if s.stage p = 7 then s.ticks - (s.fabPort p).s7In else 0)

/-- A forwarded non-posted request is sent on port p: the time of its record begins (R399). -/
def recordSent (p : Nat) (o : Outgoing) (s : State) : State :=
  match o.request with
  | some (q, uid) => modEntry q uid (fun e => { e with record := e.record.map fun r => { r with sent := some (s7Time s p) } }) s
  | none => s

def sendResponse (p : Nat) (o : Outgoing) (s : State) : State :=
  let s1 := freeOutgoing o (placeTxn p o.txn (s.modLink p fun x => { x with responses := x.responses.erase o }))
  if !o.own then s1.add48 FAB_FWD_LO 1
  else if o.txn.hdr.opcode = 0x21 then countNak p o.txn s1
  else if o.txn.hdr.opcode = 0x22 then s1.addSat (UZ_DELAYS p) 1
  else s1

def sendForward (p : Nat) (o : Outgoing) (s : State) : State :=
  let s1 := placeTxn p o.txn (s.modLink p fun x => { x with forwards := x.forwards.erase o })
  let s2 := if o.frees.isSome then freeOutgoing o s1 else recordSent p o s1
  s2.add48 FAB_FWD_LO 1

def sendNotice (p : Nat) (n : Nat × Txn) (s : State) : State :=
  placeTxn p n.2 (s.modLink p fun x => { x with notices := x.notices.erase n })

/-- The next transaction starts on the port (R228): a notice that has waited 1 µs (13 crossings) first, then responses,
forwarded requests and notices.  A notice raised while ntf_en was 1 waits while it is 0 (log entry 34). -/
def transactionSend (p : Nat) (s : State) : State :=
  if s.stage p ≠ 7 then s
  else
    let x := s.link p
    let notice := x.notices.head?.filter fun n => s.flag (UZ_CTRL_ntf_en p) && isV2 s p && maySend s p n.2
    match notice.filter fun n => decide (n.1 + 13 ≤ s.ticks) with
    | some n => sendNotice p n s
    | none =>
      match x.responses.find? fun o => maySend s p o.txn with
      | some o => sendResponse p o s
      | none =>
        match (forwardOrder x.forwards).find? fun o => maySend s p o.txn with
        | some o => sendForward p o s
        | none => match notice with | some n => sendNotice p n s | none => s

/-! ### Link state at stage changes (R78, R79, R194, R208, R229) -/

/-- S7 entry after a pass through S1: sequence, credits and the count of numbered transactions start anew (R78, R194). -/
def linkInit (p : Nat) (s : State) : State :=
  s.modLink p fun x => { LinkSt.reset with
    grantDue := true, inbox := x.inbox, vc0 := x.vc0, table := x.table, responses := x.responses,
    forwards := x.forwards, notices := x.notices, oldGroup := x.oldGroup, wseqEpoch := x.wseqEpoch + 1, wseqLive := true }

/-- The port fell to S1: what was being sent is lost, responses leave elsewhere (R229) and records towards it are released
(R399). -/
def linkFall (p : Nat) (s : State) : State :=
  let waiting := (s.link p).responses
  let s1 := s.modLink p fun x => { x with
    replay := [], replaying := [], txSlots := [], rxPartial := [], rreqNext := false, rreqOut := false, responses := [] }
  let s2 := forEach waiting (fun o s => queueResponse ((o.request.map fun r => r.1).getD p) o s) s1
  forEach (List.range 16) (fun q s =>
    if (s.link q).table.any (fun e => e.record.any fun r => r.out == p && r.sent.isSome) then
      s.modLink q fun x => { x with table := x.table.filter fun e => !(e.record.any fun r => r.out == p && r.sent.isSome) }
    else s) s2

/-- Responses of a port's own requests that wait anywhere are discarded without a count (R79, R229). -/
def dropOwn (p : Nat) (s : State) : State :=
  let mine := fun o : Outgoing => o.own && o.request.any fun r => r.1 == p
  forEach (List.range 16) (fun q s =>
    let gone := (s.link q).responses.filter mine
    if gone.isEmpty then s
    else forEach gone freeOutgoing (s.modLink q fun x => { x with responses := x.responses.filter fun o => !mine o })) s

/-- A port-only reset: the port's GLB_WSEQ pair is loaded, once until its next S7 entry (R79, R82); what is not delivered is dropped; requests
delivered go on, answered to nobody; what passes through the port is lost, but for responses of other ports' requests, which R229 moves on. -/
def linkPortReset (p : Nat) (s : State) : State :=
  let x := s.link p
  let s1 := if x.wseqLive then
      (s.setReg (GLB_WSEQ_SEEN p) (BitVec.ofNat 32 x.wseqSeen)).setReg (GLB_WSEQ_DONE p) (BitVec.ofNat 32 x.wseqSeen)
    else s
  let s2 := forEach x.forwards (fun o s => match o.request with | some (q, uid) => freeEntry q uid s | none => s) s1
  (dropOwn p s2).modLink p fun x => { x with
    replay := [], replaying := [], txSlots := [], rxPartial := [], rreqNext := false, rreqOut := false, notices := [], inbox := [],
    wseqLive := false, forwards := [],
    responses := x.responses.filter fun o => o.own
    vc0 := x.vc0.map fun e => { e with dead := true },
    table := x.table.map fun e => if e.record.isSome then e else { e with dead := true } }

/-- Receive buffers granted, freed slots returned, and a new group taken up, at a boundary; v1 grants no VC2 (R10, R208, R231, R232). -/
def linkBoundary (p : Nat) (s : State) : State :=
  let v2 := isV2 s p
  let full : Nat × Nat × Nat := if v2 then (8192, 512, 128) else (4096, 512, 0)
  s.modLink p fun x => { x with
    given := if x.grantDue then full else vcSum x.given (x.freed.1, x.freed.2.1, if v2 then x.freed.2.2 else 0),
    freed := (0, 0, 0), grantDue := false, oldGroup := none }

end Sys2Proof.Machine
end

