-- ==== Sys2Proof/Machine/Lanes.lean ====
section
/-!
DEFINITION. Machine/Lanes.lean: transmitter, receiver, coefficient store, mask monitor, PRBS and eye of a lane, and the lane
power ledger (04_lanes).
-/
set_option autoImplicit false

namespace Sys2Proof.Machine
open Reg Bit

/-! ### Prices and the lane ledger (R57, R120 to R125) -/

/-- Price of a lane at a generation (1 A, 2 B, 3 C) and reach (0 short, 1 long, 2 optical), in mW (R57). -/
def lanePrice (gen reach : Nat) : Nat :=
  match gen, reach with
  | 1, 0 => 140 | 1, 1 => 220
  | 2, 0 => 240 | 2, 1 => 400 | 2, 2 => 420
  | 3, 0 => 380 | 3, 1 => 620 | 3, 2 => 620
  | _, _ => 30

def heldPrice : Nat := 70
def towpathPrice : Nat := 30
def darkPrice : Nat := 4

/-- The charge of a lane in the stage, target and hold of its port (R95, R120).  A granted port in S1 is charged its target from the boundary
after the grant (R122, R134; log entry 15). -/
def laneCharge (s : State) (l : Nat) : Nat :=
  let p := portOf l
  let applied := (s.lane l).ctrlLive
  if natBit applied 0 && natBit applied 1 then darkPrice
  else match s.stage p with
    | 0 => darkPrice
    | 1 => if (s.port p).granted then lanePrice (s.get (PORT_STATUS_target_gen p)) (s.get (PORT_STATUS_target_reach p)) else towpathPrice
    | _ => if natBit s.modes.held p then heldPrice
           else lanePrice (s.get (PORT_STATUS_target_gen p)) (s.get (PORT_STATUS_target_reach p))

/-- The charge of each lane of a port, and the lane totals, brought up to date (R120). -/
def recharge (p : Nat) (s : State) : State :=
  forEach (lanesOf p) (fun l s =>
    let old := s.get (LANE_POWER_mw l)
    let new := laneCharge s l
    let used := s.get LANE_LEDGER_USED_mw + new - old
    ((s.put (LANE_POWER_mw l) new).put LANE_LEDGER_USED_mw used).put LANE_LEDGER_STAGED_mw used) s

/-- The price of the live image: ACTIVE's, or STORM's while STORM is live (R451). -/
def livePrice (s : State) : Nat :=
  if s.get TT_STATUS_live = 1 then (s.reg TT_PRICE_STORM).toNat else (s.reg TT_PRICE_ACTIVE).toNat

/-- The total of the power ledger in mW (R451). -/
def ledgerTotal (s : State) : Nat := livePrice s + s.get LANE_LEDGER_USED_mw + s.get PWR_BASE_ALLOW_mw

/-- PWR_LEDGER brought up to date (R451). -/
def reledger (s : State) : State := s.put PWR_LEDGER_mw (ledgerTotal s)

/-- A staged register's shadow, or its live value (R12). -/
def stagedOrLive (s : State) (a : Nat) : Word := (s.staged.find a).getD (s.reg a)

/-- The PLL a reach is clocked by in a quadrant: bit of LANE_PLL_STATUS.lock (R87). -/
def pllOf (quadrant reach : Nat) : Nat := if reach = 2 then 2 * quadrant + 1 else 2 * quadrant

/-- The PLL a port's reach needs is locked (R87, R121). -/
def pllLocked (s : State) (p reach : Nat) : Bool := natBit (s.get LANE_PLL_STATUS_lock) (pllOf (p / 4) reach)

/-- Causes of a ledger refusal, as LANE_LEDGER_STATUS.last_cause encodes them. -/
inductive LedgerCause where
  | allowance | ceiling | frozen | noPll
  deriving DecidableEq, Repr

def LedgerCause.code : LedgerCause → Nat
  | .allowance => 1 | .ceiling => 2 | .frozen => 3 | .noPll => 4

/-- The ledger's answer to a port that asks for a charge of its eight lanes (R121 to R123): none grants. -/
def ledgerJudge (s : State) (p gen reach : Nat) : Option LedgerCause :=
  let old := (lanesOf p).foldl (fun t l => t + s.get (LANE_POWER_mw l)) 0
  let new := 8 * lanePrice gen reach
  if new ≤ old then none
  else
    let total := s.get LANE_LEDGER_USED_mw + s.granted + new - old
    if !pllLocked s p reach then some .noPll
    else if s.flag LANE_LEDGER_STATUS_frozen then some .frozen
    else if s.get LANE_LEDGER_ALLOW_mw < total then some .allowance
    else if s.get PWR_CEILING_mw < livePrice s + total + s.get PWR_BASE_ALLOW_mw then some .ceiling
    else none

/-- A granted request is counted in the decisions of its crossing (R122). -/
def ledgerGrant (p gen reach : Nat) (s : State) : State :=
  let old := (lanesOf p).foldl (fun t l => t + s.get (LANE_POWER_mw l)) 0
  { s with granted := s.granted + (8 * lanePrice gen reach - old) }

/-- A refused request is recorded and raises ledger_refused in lane L(8p) (R123). -/
def ledgerRefuse (p : Nat) (c : LedgerCause) (s : State) : State :=
  ((((s.put LANE_LEDGER_STATUS_last_cause c.code).put LANE_LEDGER_STATUS_last_port p).addField
    LANE_LEDGER_REFUSALS_count 1).cause (Cause.LANE_ledger_refused (8 * p))).put (PORT_NEG_ledger_cause p) c.code

/-- A write of LANE_LEDGER_ALLOW is in range (R124). -/
def allowInRange (v : Word) : Bool := decide (16000 ≤ v.bits 16 0 ∧ v.bits 16 0 ≤ 100000)

/-- LANE_LEDGER_STATUS.over_staged: the staged total exceeds the allowance that would be live (R124). -/
def overStaged (s : State) : Bool :=
  decide ((stagedOrLive s LANE_LEDGER_ALLOW).bits 16 0 < s.get LANE_LEDGER_STAGED_mw)

/-! ### Transmitter (R90 to R95) -/

/-- The six taps of the two FIR registers, c-3 to c+2. -/
def firTaps (f0 f1 : Word) : List Int :=
  [toSigned 8 (f0.bits 7 0), toSigned 8 (f0.bits 15 8), toSigned 8 (f0.bits 23 16), toSigned 8 (f0.bits 31 24),
   toSigned 8 (f1.bits 7 0), toSigned 8 (f1.bits 15 8)]

/-- Ranges of the taps c-3 to c+2 (R90). -/
def tapRange (i : Nat) : Int × Int :=
  match i with
  | 0 => (-8, 8) | 1 => (-16, 16) | 2 => (-48, 0) | 3 => (32, 127) | 4 => (-48, 0) | _ => (-16, 16)

/-- A set of taps APPLY accepts (R90). -/
def tapsOk (taps : List Int) : Bool :=
  (taps.zipIdx.all fun p => decide ((tapRange p.2).1 ≤ p.1 ∧ p.1 ≤ (tapRange p.2).2)) &&
    decide (taps.foldl (fun t x => t + x.natAbs) 0 ≤ 128)

/-- Resolution of a pending apply at the boundary (R91, R92). -/
def applyTx (l : Nat) (s : State) : State :=
  let x := s.lane l
  if !x.applyPending then s
  else
    let st := s.stage (portOf l)
    let s1 := (s.modLane l fun x => { x with applyPending := false, applyBusy := false }).put (LANE_TX_APPLY_go l) 0
    if x.applyBusy || decide (2 ≤ st ∧ st ≤ 6) then s1.put (LANE_TX_STATUS_result l) 2
    else if tapsOk (firTaps (s.reg (LANE_TX_FIR0 l)) (s.reg (LANE_TX_FIR1 l))) then
      (s1.put (LANE_TX_STATUS_result l) 0).modLane l fun x =>
        { x with firLive0 := s.reg (LANE_TX_FIR0 l), firLive1 := s.reg (LANE_TX_FIR1 l), swingLive := s.reg (LANE_TX_SWING l) }
    else (s1.put (LANE_TX_STATUS_result l) 1).cause (Cause.LANE_fir_refused l)

/-- Polarity and dark bits taken over at entry to S0 or to a test hold (R95). -/
def applyLaneCtrl (l : Nat) (s : State) : State :=
  s.modLane l fun x => { x with ctrlLive := (s.reg (LANE_CTRL l)).bits 3 0 }

/-! ### Spectral mask (R97 to R100) -/

/-- The breakpoints of a mask set: bin and level value. -/
def maskPoints (s : State) (set : Nat) : List (Nat × Nat) :=
  (List.range 8).map fun k =>
    let w := s.reg (if set = 0 then LANE_MASK0 k else LANE_MASK1 k)
    (w.bits 6 0, w.bits 15 8)

/-- The bins of a valid set strictly ascend (R98). -/
def maskValid : List (Nat × Nat) → Bool
  | a :: b :: t => decide (a.1 < b.1) && maskValid (b :: t)
  | _ => true

/-- How far a bin's level value lies inside the violating side of the mask, in 0.5 dB, rounded down: 0 when it does not
exceed.  The mask value between breakpoints is interpolated linearly (R97). -/
def maskExcess (points : List (Nat × Nat)) (bin v : Nat) : Nat :=
  match points with
  | [] => 0
  | (b0, m0) :: t =>
    if bin ≤ b0 then m0 - v
    else match t with
      | [] => m0 - v
      | (b1, m1) :: _ =>
        if bin < b1 then
          (((m0 : Int) - v) * (b1 - b0) + ((m1 : Int) - m0) * (bin - b0)).toNat / (b1 - b0)
        else maskExcess t bin v

/-- A bin exceeds the mask, by however little. -/
def maskOver (points : List (Nat × Nat)) (bin v : Nat) : Bool :=
  match points with
  | [] => false
  | (b0, m0) :: t =>
    if bin ≤ b0 then decide (v < m0)
    else match t with
      | [] => decide (v < m0)
      | (b1, m1) :: _ =>
        if bin < b1 then decide (0 < ((m0 : Int) - v) * (b1 - b0) + ((m1 : Int) - m0) * (bin - b0))
        else maskOver t bin v

/-- The mask set that applies in a stage (R97). -/
def maskSetOf (st : Nat) : Nat := if 2 ≤ st then 0 else 1

/-- The lane's mask set follows the stage of its port: a change of set ends the back-off (R97, R100). -/
def maskFollows (l st : Nat) (s : State) : State :=
  if (s.lane l).maskSet = maskSetOf st then s
  else (s.modLane l fun x => { x with maskSet := maskSetOf st, cleanWindows := 0 }).put (LANE_MASK_STATUS_backoff l) 0

/-- The end of a mask window with the measured level values of the bins (R98, R99).  Of bins that exceed the mask by the same measure the
lowest is the worst one: the spec does not say which is (the model's choice, log entry 16). -/
def maskWindow (l : Nat) (levels : List Nat) (s : State) : State :=
  if !s.flag (LANE_MASK_CTRL_enable l) then s
  else
    let set := maskSetOf (s.stage (portOf l))
    let points := maskPoints s set
    let s2 := s.put (LANE_MASK_STATUS_set l) set
    if !maskValid points then s2.put (LANE_MASK_STATUS_invalid l) 1
    else
      let bins := (levels.take 128).zipIdx
      let beyond := bins.filter fun p => maskOver points p.2 p.1
      let worst := beyond.foldl (fun (w : Nat × Nat) p =>
        if w.1 < maskExcess points p.2 p.1 + 1 then (maskExcess points p.2 p.1 + 1, p.2) else w) (0, 0)
      let s3 := (s2.put (LANE_MASK_STATUS_invalid l) 0).put (LANE_MASK_STATUS_bins_over l) beyond.length
      if beyond.isEmpty then
        let n := (s3.lane l).cleanWindows + 1
        let b := s3.get (LANE_MASK_STATUS_backoff l)
        (s3.modLane l fun x => { x with cleanWindows := n }).put (LANE_MASK_STATUS_backoff l) (if 8 < n then b - 1 else b)
      else
        let s4 := ((((s3.put (LANE_MASK_STATUS_worst_bin l) worst.2).put (LANE_MASK_STATUS_excess l) (min 255 (worst.1 - 1))).cause
          (Cause.LANE_mask_violation l)).modLane l fun x => { x with cleanWindows := 0 })
        if s.get (LANE_MASK_CTRL_action l) = 1 then
          s4.put (LANE_MASK_STATUS_backoff l) (min 12 (s4.get (LANE_MASK_STATUS_backoff l) + 1))
        else s4

/-! ### Equaliser taps and the coefficient store (R102 to R113) -/

/-- Key of a tap: target 0 FFE, 1 DFE, 2 FDE I, 3 FDE Q, and index. -/
def tapKey (target index : Nat) : Nat := target * 256 + index

/-- Number of taps, and width in bits, of a target (R102, R103, R105). -/
def tapCount (target : Nat) : Nat := match target with | 0 => 24 | 1 => 3 | _ => 256
def tapWidth (target : Nat) : Nat := match target with | 0 => 10 | 1 => 8 | _ => 12

/-- A tap's value, sign-extended to 12 bits. -/
def tapValue (s : State) (l target index : Nat) : Nat := KMap.get (fun _ => 0) (s.lane l).taps (tapKey target index)

def setTap (l target index v : Nat) (s : State) : State :=
  s.modLane l fun x => { x with
    taps := KMap.put (fun _ => 0) x.taps (tapKey target index) (v % 4096), frac := KMap.put (fun _ => 0) x.frac (tapKey target index) 0 }

/-- The FFE taps that run in a reach: cursor - 2 to cursor + 9 in short reach, all 24 otherwise (R86). -/
def ffeRuns (reach cursor index : Nat) : Bool :=
  if reach = 0 then decide (cursor ≤ index + 2 ∧ index ≤ cursor + 9) else true

/-- The cursor that LANE_ADAPT_CTRL asks for: outside 2 to 8 it acts as 4.  An entry to S2 latches it (R102). -/
def cursorAsked (s : State) (l : Nat) : Nat :=
  let c := s.get (LANE_ADAPT_CTRL_cursor l)
  if 2 ≤ c ∧ c ≤ 8 then c else 4

/-- An FFE tap that is held at 0 in the live reach of its lane (R86). -/
def tapOff (s : State) (l target index : Nat) : Bool :=
  let reach := s.get (PORT_STATUS_reach (portOf l))
  (target == 0 && !ffeRuns reach (s.lane l).cursor index) || (decide (2 ≤ target) && reach != 2)

/-- A value clipped to the range of its target (R102, R105). -/
def clipTap (target : Nat) (v : Int) : Nat :=
  let h : Int := 2 ^ (tapWidth target - 1)
  ofSigned 12 (max (-h) (min (h - 1) v))

/-- Crossings that FDE training lasts in S4: 2^(6 + fde_avg) blocks of 256 symbols, 2.27 ns each at Gen C and 4.54 ns at Gen B (R103). -/
def fdeTrainTicks (s : State) (l : Nat) : Nat :=
  let blocks := 2 ^ (6 + min 6 (s.get (LANE_ADAPT_STEP_fde_avg l)))
  let slow := if s.get (PORT_STATUS_gen (portOf l)) = 3 then 1 else 2
  (blocks * 16384 * slow + 577999) / 578000

/-- The FDE is being trained: optical S4, until its average is complete (R103). -/
def fdeTraining (s : State) (l : Nat) : Bool :=
  s.stage (portOf l) == 4 && s.get (PORT_STATUS_reach (portOf l)) == 2 &&
    decide (s.ticks < (s.port (portOf l)).stageTick + fdeTrainTicks s l)

/-- Adaptation of a target runs in a stage under its mode; on a port held in IDLE it is frozen (R104, R109, R444). -/
def adapts (s : State) (l target : Nat) : Bool :=
  let st := s.stage (portOf l)
  let m := (s.lane l).modes
  let mode := match target with | 0 => m % 4 | 1 => m / 4 % 4 | _ => m / 16 % 4
  let optical := s.get (PORT_STATUS_reach (portOf l)) == 2
  if s.flag (LANE_STATUS_adapt_frozen l) || mode == 0 || natBit s.modes.held (portOf l) then false
  else if decide (2 ≤ st ∧ st ≤ 4) then
    (if target = 0 then !fdeTraining s l else if target = 1 then true else optical && st == 4)
  else if decide (5 ≤ st) then
    mode == 2 && (if target = 0 then !optical else if target = 1 then true else optical)
  else false

/-- The step of a target's adaptation in 2^-13 of the tap's last bit: 2^-(6 + ffe_mu) and 2^-(4 + dfe_mu) of taps scaled by 1/256, and
2^-(8 + fde_mu) of taps scaled by 1/1024 (R102, R103, R105). -/
def adaptStep (s : State) (l target : Nat) : Nat :=
  match target with
  | 0 => 2 ^ (15 - min 9 (s.get (LANE_ADAPT_STEP_ffe_mu l)))
  | 1 => 2 ^ (17 - min 9 (s.get (LANE_ADAPT_STEP_dfe_mu l)))
  | _ => 2 ^ (15 - s.get (LANE_ADAPT_STEP_fde_mu l))

/-- Limits of a target's taps. -/
def tapHigh (target : Nat) : Int := 2 ^ (tapWidth target - 1) - 1
def tapLow (target : Nat) : Int := -2 ^ (tapWidth target - 1)

/-- A tap and its fraction after a number of steps, kept within the limits: at a limit it stays until the steps lead back (R102). -/
def movedTap (target v frac : Nat) (steps : Int) (step : Nat) : Nat × Nat :=
  let w := toSigned 12 v * 8192 + frac + steps * step
  if w < tapLow target * 8192 then (ofSigned 12 (tapLow target), 0)
  else if tapHigh target * 8192 ≤ w then (ofSigned 12 (tapHigh target), 0)
  else (ofSigned 12 (w / 8192), (w % 8192).toNat)

/-- A table of taps with all those of a target replaced; a tap held at 0 is not listed. -/
def withTaps (m : KMap Nat) (target : Nat) (new : List (Nat × Nat)) : KMap Nat :=
  new.foldl (fun m p => KMap.put (fun _ => 0) m (tapKey target p.1) p.2) m

/-- The taps of one target adapt for a crossing.  How many steps each tap takes hangs on the signal: a free number (log entries 2, 8). -/
def adaptTarget (l target : Nat) (s : State) : State :=
  if !adapts s l target then s
  else
    let x := s.lane l
    let step := adaptStep s l target
    let moved := (List.range (tapCount target)).map fun i =>
      let k := tapKey target i
      if tapOff s l target i then (i, (0, 0))
      else (i, movedTap target (KMap.get (fun _ => 0) x.taps k) (KMap.get (fun _ => 0) x.frac k) (toSigned 32 (Config.freeValue (s.free + i))) step)
    (s.drewMany (tapCount target)).setLane l { x with
      taps := withTaps x.taps target (moved.map fun m => (m.1, m.2.1)), frac := withTaps x.frac target (moved.map fun m => (m.1, m.2.2)) }

/-- The FDE's taps are set to the inverse of the averaged estimate: free values within their range (R103; log entries 2, 8). -/
def fdeSet (l : Nat) (s : State) : State :=
  let new := fun t => (List.range 256).map fun i => (i, Config.freeValue (s.free + 256 * (t - 2) + i) % 4096)
  (s.drewMany 512).modLane l fun x => { x with taps := withTaps (withTaps x.taps 2 (new 2)) 3 (new 3) }

/-- What the equalisers of a lane do in a crossing: FDE training ends, or each adapting target moves, the FDE ahead of the FFE (R102 to R105,
R109). -/
def adaptLane (l : Nat) (s : State) : State :=
  if s.stage (portOf l) < 2 then s
  else if fdeTraining s l then
    let s1 := adaptTarget l 1 s
    if adapts s l 2 && s.ticks + 1 == (s.port (portOf l)).stageTick + fdeTrainTicks s l then fdeSet l s1 else s1
  else
    let fde := s.stage (portOf l) != 4
    adaptTarget l 1 (adaptTarget l 0 (when fde (fun s => adaptTarget l 3 (adaptTarget l 2 s)) s))

/-- A tap of a table, by its key and value, stands at a limit of its range. -/
def tapAtLimit (e : Nat × Nat) : Bool :=
  decide (toSigned 12 e.2 ≤ tapLow (e.1 / 256) ∨ tapHigh (e.1 / 256) ≤ toSigned 12 e.2)

/-- Ticks since which the taps of continuously adapting targets have stood at a limit of their range (R110). -/
def limitTrack (l : Nat) (s : State) : State :=
  let x := s.lane l
  let watched := fun (e : Nat × Nat) => decide (5 ≤ s.stage (portOf l)) && adapts s l (e.1 / 256) && tapAtLimit e
  s.setLane l { x with atLimit := (x.taps.filter watched).map fun e => (e.1, (KMap.find x.atLimit e.1).getD s.ticks) }

/-- A peaking code as it acts: in short reach one above 16 acts as 16 (R86, R101). -/
def peakIn (s : State) (l v : Nat) : Nat := min (if s.get (PORT_STATUS_reach (portOf l)) = 0 then 16 else 31) v

/-- CTLE and VGA for a crossing: the host's values while override is set, peak at most 16 in short reach and gain at most 12; otherwise the gain
adapts, to a free value from 0 to 12 dB (R86, R101; log entries 2, 8). -/
def ctleBoundary (l : Nat) (s : State) : State :=
  if s.flag (LANE_CTLE_override l) then
    let host := (s.lane l).ctleHost
    (s.put (LANE_CTLE_peak l) (peakIn s l (host.bits 4 0))).put (LANE_CTLE_vga l) (min 12 (host.bits 11 8))
  else if 2 ≤ s.stage (portOf l) && !natBit s.modes.held (portOf l) then (s.drew).put (LANE_CTLE_vga l) (s.drawn 32 % 13)
  else s

/-- Registers a coefficient record holds beside the taps (R112). -/
def coeffRegs (l : Nat) : List Nat := [LANE_CTLE l, LANE_ADC l, LANE_TX_FIR0 l, LANE_TX_FIR1 l, LANE_TX_SWING l, LANE_CDR_STATUS l]

/-- The lane's record written to the always-on store (R112). -/
def saveCoeffs (l : Nat) (s : State) : State :=
  let p := portOf l
  let r : CoeffRecord :=
    { gen := s.get (PORT_STATUS_gen p), reach := s.get (PORT_STATUS_reach p), taps := (s.lane l).taps,
      regs := (coeffRegs l).foldl (fun m a => KMap.put resetAt m a (s.reg a)) [] }
  { s with always := { s.always with coeffs := s.always.coeffs.ins l r } }

/-- The receive side of the record taken back: taps, CTLE and VGA, ADC range, CDR offset (R110, R145). -/
def reloadCoeffs (l : Nat) (s : State) : State :=
  match s.always.coeffs.find l with
  | none => s
  | some r =>
    let word := fun a => KMap.get resetAt r.regs a
    let s1 := (s.modLane l fun x => { x with taps := r.taps, frac := [] }).setReg (LANE_ADC l) (word (LANE_ADC l))
    let s2 := (s1.put (LANE_CTLE_peak l) ((word (LANE_CTLE l)).bits 4 0)).put (LANE_CTLE_vga l) ((word (LANE_CTLE l)).bits 11 8)
    s2.put (LANE_CDR_STATUS_offset l) ((word (LANE_CDR_STATUS l)).bits 15 0)

/-- The whole record taken back, transmit side included, for the stored path (R146). -/
def restoreCoeffs (l : Nat) (s : State) : State :=
  match s.always.coeffs.find l with
  | none => s
  | some r =>
    let s1 := forEach [LANE_TX_FIR0 l, LANE_TX_FIR1 l, LANE_TX_SWING l] (fun a s => s.setReg a (KMap.get resetAt r.regs a))
      (reloadCoeffs l s)
    s1.modLane l fun x => { x with firLive0 := s1.reg (LANE_TX_FIR0 l), firLive1 := s1.reg (LANE_TX_FIR1 l),
                                   swingLive := s1.reg (LANE_TX_SWING l) }

/-- The adaptation modes the register asks for. -/
def modesOf (w : Word) : Nat := w.bits 5 0

/-- Some target adapts continuously on the lane (R109, R110). -/
def adaptsOn (s : State) (l : Nat) : Bool :=
  decide (5 ≤ s.stage (portOf l)) && (List.range 3).any fun t => adapts s l t

/-- What counts as divergence: a tap at a limit for 1 ms, or the slicer SNR of the last 1 ms, in 0.1 dB, more than 3 dB below that of S7 entry
(R110). -/
def diverged (s : State) (l snr : Nat) : Bool :=
  ((s.lane l).atLimit.any fun e => decide (e.2 + 12500 ≤ s.ticks)) ||
    (s.stage (portOf l) == 7 && decide (snr + 30 < (s.lane l).snrAtS7))

/-- A divergence restore, with the highest slicer SNR of the last 1 ms (R110, R111). -/
def divergence (l snr : Nat) (s : State) : State :=
  if !s.flag (LANE_ADAPT_CTRL_restore_en l) || !adaptsOn s l || !diverged s l snr then s
  else
    let recent := (s.ticks :: (s.lane l).restores).filter fun t => decide (s.ticks ≤ t + 12500000)
    let s1 := ((reloadCoeffs l s).modLane l fun x => { x with restores := recent, atLimit := [] }).cause (Cause.LANE_adapt_restore l)
    if 3 ≤ recent.length then
      ((s1.modLane l fun x => { x with modes := 0, restores := [] }).put (LANE_STATUS_adapt_frozen l) 1).cause
        (Cause.LANE_adapt_frozen l)
    else s1

/-- A pending tap write at the boundary (R113). -/
def applyEq (l : Nat) (s : State) : State :=
  match (s.lane l).eqPending with
  | none => s
  | some w =>
    let target := w.bits 30 29
    let index := w.bits 23 16
    let st := s.stage (portOf l)
    let v := toSigned 12 (w.bits 11 0)
    let s1 := (s.modLane l fun x => { x with eqPending := none }).put (LANE_EQ_WR_go l) 0
    if (2 ≤ target ∧ fdeTraining s l = true) ∨ (target < 2 ∧ 2 ≤ st ∧ st ≤ 4) then s1.put (LANE_EQ_RD_DATA_wr_result l) 1
    else if tapCount target ≤ index ∨ v < tapLow target ∨ tapHigh target < v then s1.put (LANE_EQ_RD_DATA_wr_result l) 2
    else
      let kept := if tapOff s l target index then 0 else ofSigned 12 v
      (setTap l target index kept s1).put (LANE_EQ_RD_DATA_wr_result l) 0

/-- Shaping coefficients written in the crossing take effect (R96). -/
def applyShape (l : Nat) (s : State) : State :=
  s.modLane l fun x => { x with shape := x.shapePending.foldl (fun m p => KMap.put shapeReset m p.1 p.2) x.shape, shapePending := [] }

/-- Symbols a lane receives in a crossing: 80 ns at the rates of R85; the half symbols of optical reach come every other crossing. -/
def laneSymbolsPerCrossing (s : State) (l : Nat) : Nat :=
  let p := portOf l
  let odd := s.ticks % 8
  match s.get (PORT_STATUS_gen p), s.get (PORT_STATUS_reach p) with
  | 2, 2 => 4515 + (odd + 1) * 5 / 8 - odd * 5 / 8
  | 3, 2 => 9031 + (odd + 1) * 2 / 8 - odd * 2 / 8
  | 1, _ => 2125
  | 2, _ => 4250
  | 3, _ => 8500
  | _, _ => 0

/-- In a test hold the checker of a lane in lock counts for a crossing: the symbols compared, and free numbers of symbols and bits in error,
fewer than 64 symbols of 1024 (R115; log entries 2, 8).  In S5 the dwell's end brings the counts. -/
def holdCount (l : Nat) (s : State) : State :=
  if s.flag (PORT_STATUS_hold (portOf l)) && s.flag (LANE_PRBS_CTRL_chk_en l) && s.flag (LANE_PRBS_STATUS_lock l) then
    let n := laneSymbolsPerCrossing s l
    let bad := Config.freeValue s.free % (n / 16 + 1)
    let bits := bad + Config.freeValue (s.free + 1) % (bad + 1)
    ((((s.drewMany 2).add48 (LANE_PRBS_SYMCNT_LO l) n).addSat (LANE_PRBS_SYMERR l) bad).add48 (LANE_PRBS_BITERR_LO l) bits)
  else s

/-- What a lane does at a crossing boundary: pending apply, coefficients, adaptation, modes and tap write (R91, R96, R101 to R105, R109, R113,
R115).  A host tap write comes after the adaptation of the same boundary (R127). -/
def laneBoundary (l : Nat) (s0 : State) : State :=
  let s := holdCount l (limitTrack l (ctleBoundary l (adaptLane l s0)))
  let s1 := applyEq l (applyShape l (applyTx l s))
  let frozen := s1.flag (LANE_STATUS_adapt_frozen l)
  s1.modLane l fun x => { x with modes := if frozen then x.modes else modesOf (s1.reg (LANE_ADAPT_CTRL l)), shownTaps := x.taps }

/-! ### Receive level and CDR (R106, R107) -/

/-- The LOS threshold in mV (R107). -/
def losThreshold (s : State) (l : Nat) : Nat := 40 + 20 * s.get (LANE_CTRL_los_thr l)

/-- The amplitude has stayed below the threshold for 1 µs (R107). -/
def losAsserted (l : Nat) (amp : Nat) (s : State) : State :=
  if 2 ≤ s.stage (portOf l) && decide (amp < losThreshold s l) then
    ((s.put (LANE_RX_LEVEL_amp l) (min 4095 amp)).put (LANE_RX_LEVEL_los l) 1).cause (Cause.LANE_los l)
  else s

/-- The amplitude has stayed 20 mV above the threshold for 10 µs (R107). -/
def losDeasserted (l : Nat) (amp : Nat) (s : State) : State :=
  if 2 ≤ s.stage (portOf l) && decide (losThreshold s l + 20 ≤ amp) then (s.put (LANE_RX_LEVEL_amp l) (min 4095 amp)).put (LANE_RX_LEVEL_los l) 0 else s

/-- The CDR has locked: what only a locked receiver can take in came from the lane (R106, DEDUCED, log entry 45). -/
def cdrLocked (l : Nat) (s : State) : State := if 2 ≤ s.stage (portOf l) then s.put (LANE_CDR_STATUS_lock l) 1 else s

def cdrUnlocked (l : Nat) (s : State) : State :=
  if s.flag (LANE_CDR_STATUS_lock l) then (s.put (LANE_CDR_STATUS_lock l) 0).cause (Cause.LANE_cdr_unlock l) else s

/-! ### PRBS (R114 to R116) -/

/-- The checker runs on a lane. -/
def checking (s : State) (l : Nat) : Bool := s.flag (LANE_PRBS_CTRL_chk_en l)

/-- Symbols, symbols in error and bits in error compared while in lock (R115). -/
def prbsCount (l symbols symErrs bitErrs : Nat) (s : State) : State :=
  if s.flag (LANE_PRBS_STATUS_lock l) then
    ((s.add48 (LANE_PRBS_SYMCNT_LO l) symbols).addSat (LANE_PRBS_SYMERR l) symErrs).add48 (LANE_PRBS_BITERR_LO l) bitErrs
  else s

def prbsLocked (l : Nat) (s : State) : State :=
  if checking s l then s.put (LANE_PRBS_STATUS_lock l) 1 else s

def prbsLost (l symbols symErrs bitErrs : Nat) (s : State) : State :=
  if checking s l && s.flag (LANE_PRBS_STATUS_lock l) then
    (((prbsCount l symbols symErrs bitErrs s).put (LANE_PRBS_STATUS_lock l) 0).addField (LANE_PRBS_STATUS_lock_losses l) 1).cause
      (Cause.LANE_prbs_lock_lost l)
  else s

/-- The device turns generator and checker of a lane on with PRBS31Q, not inverted, or off (R114). -/
def devicePrbs (l : Nat) (on : Bool) (s : State) : State :=
  if on then
    (((((s.put (LANE_PRBS_CTRL_gen_invert l) 0).put (LANE_PRBS_CTRL_gen_en l) 1).put (LANE_PRBS_CTRL_chk_en l) 1).put (LANE_PRBS_CTRL_gen_pat l) 1).put
      (LANE_PRBS_CTRL_chk_pat l) 1).put (LANE_PRBS_STATUS_lock l) 0
  else ((s.put (LANE_PRBS_CTRL_gen_en l) 0).put (LANE_PRBS_CTRL_chk_en l) 0).put (LANE_PRBS_STATUS_lock l) 0

/-! ### Eye (R118) -/

/-- A start of a measurement: it runs in S5 to S7 and ends at once with ABORTED elsewhere (R118). -/
def eyeBegin (l : Nat) (s : State) : State :=
  if s.flag (LANE_EYE_STATUS_busy l) then s
  else if 5 ≤ s.stage (portOf l) then (s.put (LANE_EYE_STATUS_busy l) 1).put (LANE_EYE_CTRL_start l) 1
  else ((s.put (LANE_EYE_STATUS_result l) 2).put (LANE_EYE_CTRL_start l) 0).cause (Cause.LANE_eye_done l)

/-- A running measurement ends. -/
def eyeEnd (l : Nat) (aborted : Bool) (v0 v1 h : Word) (s : State) : State :=
  if !s.flag (LANE_EYE_STATUS_busy l) then s
  else
    let kind := s.get (LANE_EYE_CTRL_kind l)
    let s1 := (((s.put (LANE_EYE_STATUS_busy l) 0).put (LANE_EYE_CTRL_start l) 0).put (LANE_EYE_STATUS_result l)
      (if aborted then 2 else 1)).cause (Cause.LANE_eye_done l)
    if aborted then s1
    else
      let s2 := if kind = 1 then s1 else
        (((s1.put (LANE_EYE_V0_middle l) (v0.bits 25 16)).put (LANE_EYE_V0_upper l) (v0.bits 9 0)).put
          (LANE_EYE_V1_snr l) (v1.bits 25 16)).put (LANE_EYE_V1_lower l) (v1.bits 9 0)
      if kind = 0 then s2
      else (s2.put (LANE_EYE_H_right l) (min 32 (h.bits 13 8))).put (LANE_EYE_H_left l) (min 32 (h.bits 5 0))

/-- A change of stage, reach or generation, or a quick retrain, aborts a measurement (R118). -/
def eyeAbort (l : Nat) (s : State) : State := eyeEnd l true 0 0 0 s

/-! ### Host writes with effects of their own (R91, R92, R96, R101, R113, R114, R116 to R118) -/

/-- A write to a register of lane l that does more than store; none leaves it to the plain rule.  In S2 to S4 a host write of gen_en and chk_en is
stored: no rule says what it does there (the model's choice, log entry 17). -/
def laneWrite (l a : Nat) (v : Word) (s : State) : Option State :=
  let st := s.stage (portOf l)
  let training := decide (2 ≤ st ∧ st ≤ 6)
  if a = LANE_TX_FIR0 l ∨ a = LANE_TX_FIR1 l ∨ a = LANE_TX_SWING l then
    if training then some s else none
  else if a = LANE_TX_APPLY l then
    if v.bits 0 0 = 1 then
      some ((s.put (LANE_TX_APPLY_go l) 1).modLane l fun x => { x with applyPending := true, applyBusy := x.applyBusy || training })
    else some s
  else if a = LANE_TOW_SHAPE_DATA l then
    let k := s.get (LANE_TOW_SHAPE_IDX_k l)
    some (s.modLane l fun x => { x with shapePending := x.shapePending.ins k (v.bits 9 0) })
  else if a = LANE_EQ_WR l then
    let s1 := s.setReg a (BitVec.ofNat 32 (v.toNat % 2 ^ 31 + (s.reg a).toNat / 2 ^ 31 * 2 ^ 31) &&& 0xE0FF0FFF)
    if v.bits 31 31 = 1 then some ((s1.put (LANE_EQ_WR_go l) 1).modLane l fun x => { x with eqPending := some (v &&& 0xE0FF0FFF) })
    else some s1
  else if a = LANE_EYE_CTRL l then
    let s1 := if s.flag (LANE_EYE_STATUS_busy l) then s
      else ((s.put (LANE_EYE_CTRL_ber l) (v.bits 9 8)).put (LANE_EYE_CTRL_dwell l) (v.bits 7 4)).put (LANE_EYE_CTRL_kind l) (v.bits 2 1)
    some (if v.bits 0 0 = 1 then eyeBegin l s1 else s1)
  else if a = LANE_PRBS_CTRL l then
    let hold := s.flag (PORT_STATUS_hold (portOf l))
    let keep := decide (5 ≤ st) && !hold
    let off := decide (st ≤ 1)
    let gen := if keep then s.get (LANE_PRBS_CTRL_gen_en l) else if off then 0 else v.bits 0 0
    let chk := if keep then s.get (LANE_PRBS_CTRL_chk_en l) else if off then 0 else v.bits 4 4
    let s0 := if keep && st == 5 then s
      else ((s.put (LANE_PRBS_CTRL_gen_invert l) (v.bits 9 9)).put (LANE_PRBS_CTRL_chk_pat l) (v.bits 6 5)).put
        (LANE_PRBS_CTRL_gen_pat l) (v.bits 2 1)
    let s1 := (when (chk == 0) (fun s => s.put (LANE_PRBS_STATUS_lock l) 0)
      ((s0.put (LANE_PRBS_CTRL_gen_en l) gen).put (LANE_PRBS_CTRL_chk_en l) chk))
    some (if v.bits 8 8 = 1 then { s1.put (LANE_PRBS_CTRL_clear l) 1 with clears := insertSorted a s1.clears } else s1)
  else if a = LANE_CTLE l then
    some ((s.put (LANE_CTLE_override l) (v.bits 31 31)).modLane l fun x => { x with ctleHost := v &&& 0xF1F })
  else if a = LANE_CTRL l then
    let s1 := s.setReg a (BitVec.ofNat 32 ((s.reg a).bits 8 8 * 256 + v.bits 6 0))
    some (if v.bits 8 8 = 1 then { s1.put (LANE_CTRL_clear_prefec l) 1 with clears := insertSorted a s1.clears } else s1)
  else none

end Sys2Proof.Machine
end

