-- ==== Sys2Proof/Machine/Towpath.lean ====
section
/-!
DEFINITION. Machine/Towpath.lean: frames, reception, contexts, tags, beacons, management fragments and the wake pattern of a
port's towpath (06_towpath).
-/
set_option autoImplicit false

namespace Sys2Proof.Machine
open Reg Bit

/-! ### The transmit level (R164) -/

/-- The level of a lane's towpath in dB below the reference; none: dark. -/
def towLevelOf (s : State) (l : Nat) : Option Nat :=
  let p := portOf l
  let off := s.get (LANE_MASK_STATUS_backoff l)
  if s.stage p = 0 then none
  else if s.stage p = 1 then some (min 12 (s.get (PORT_TOW_LEVEL_down_att p)) + off)
  else some (max 24 (min 40 (s.get (PORT_TOW_LEVEL_up_att p))) + off)

/-- Towpath bits that have begun by a tick: 85 chips a crossing, 1023 a bit (R161; the grid starts at tick 0, log entry 22). -/
def towBits (tick : Nat) : Nat := 85 * tick / 1023

/-- A new level takes effect at the bit boundary. -/
def towLevelStep (l : Nat) (s : State) : State :=
  if towBits s.ticks == towBits (s.ticks - 1) || (s.lane l).towLevel == towLevelOf s l then s
  else s.modLane l fun x => { x with towLevel := towLevelOf s l }

/-! ### Sending (R164 to R169) -/

/-- Order of precedence of a waiting payload, by its type byte (R169). -/
def towClass (payload : List Byte) : Nat :=
  let t := (payload.headD 0).toNat
  if t < 0x10 then 0 else if t = 0x12 then 1 else if t = 0x11 then 2 else if t = 0x10 then 4 else 3

/-- A payload put in the port's queue. -/
def towEnqueue (p : Nat) (payload : List Byte) (s : State) : State := s.modTow p fun x => { x with queue := x.queue ++ [payload] }

/-- New frames may start: S1, S5 to S7 and test hold (R164). -/
def towMayStart (s : State) (p : Nat) : Bool := s.stage p == 1 || decide (5 ≤ s.stage p) || s.flag (PORT_STATUS_hold p)

/-- The first waiting payload of the highest precedence. -/
def towPick (queue : List (List Byte)) : Option (List Byte) :=
  (List.range 5).findSome? fun c => queue.find? fun m => towClass m == c

/-- A frame starts (R165 to R169). -/
def frameStart (p : Nat) (s : State) : State :=
  let x := s.tow p
  if !towMayStart s p || x.sending.isSome || x.waking || x.wakeWaiting then s
  else match towPick x.queue with
    | none => s
    | some m =>
      let header := frameHeader m.length x.txSeq (s.get (PORT_TOW_TAG_tag p))
      s.modTow p fun x => { x with
        queue := x.queue.erase m, sending := some m, channel := frameChannel header m, code := s.get (PORT_TOW_CTRL_tx_code p),
        txSeq := (x.txSeq + 1) % 16,
        beaconSeq := if (m.headD 0).toNat = 0x10 then (x.beaconSeq + 1) % 65536 else x.beaconSeq }

/-- The wake pattern begins, or begins again (R185, R187). -/
def wakeBegin (p : Nat) (s : State) : State :=
  ((s.modTow p fun x => { x with waking := true, wakeWaiting := false, code := s.get (PORT_TOW_CTRL_tx_code p) }).put (PORT_TOW_WAKE_sending p) 1).put (PORT_TOW_WAKE_go p) 1

/-- The wake pattern ends; hardware clears go. -/
def wakeEnd (p : Nat) (s : State) : State :=
  if (s.tow p).waking || (s.tow p).wakeWaiting then
    ((s.modTow p fun x => { x with waking := false, wakeWaiting := false }).put (PORT_TOW_WAKE_sending p) 0).put (PORT_TOW_WAKE_go p) 0
  else s

/-- The frame being sent has ended. -/
def frameSent (p : Nat) (s : State) : State :=
  if (s.tow p).sending.isNone then s
  else
    let s1 := (s.modTow p fun x => { x with sending := none, channel := [] }).addSat (PORT_TOW_TX_FRAMES p) 1
    if (s1.tow p).wakeWaiting then wakeBegin p s1 else s1

/-- A write of PORT_TOW_WAKE: the pattern is one of S1 (R164, R185). -/
def wakeWrite (p : Nat) (v : Word) (s : State) : State :=
  let s1 := s.put (PORT_TOW_WAKE_dur p) (v.bits 7 4)
  if v.bits 0 0 = 0 || s.stage p ≠ 1 then s1
  else if (s1.tow p).sending.isSome then (s1.modTow p fun x => { x with wakeWaiting := true }).put (PORT_TOW_WAKE_go p) 1
  else wakeBegin p s1

/-- What a lane sends as chip n of channel bit i of its frame, or of the wake pattern: its level and the chip, true for -1 (R161 to R165,
R185). -/
def laneSends (s : State) (l i n : Nat) : Option (Nat × Bool) :=
  let x := s.tow (portOf l)
  let bit := if x.waking then hailBits[i % 32]? else x.channel[i]?
  match (s.lane l).towLevel, bit with
  | some level, some b => some (level, sentChip x.code (l % 8) n b)
  | _, _ => none

/-! ### Code search and lock (R170 to R172) -/

def codeEnabled (s : State) (p code : Nat) : Bool :=
  let m := s.get (PORT_TOW_RX_CODES_codes p)
  m == 0 || natBit m code

/-- A code found by the search is kept. -/
def codeFound (p code : Nat) (s : State) : State :=
  let x := s.tow p
  let allowed := match x.locked with | some c => c == code | none => codeEnabled s p code
  if s.stage p = 0 || x.found.isSome || !allowed then s else s.modTow p fun x => { x with found := some code }

def codeSearchResume (p : Nat) (s : State) : State := s.modTow p fun x => { x with found := none }

/-- Code lock is released (R172). -/
def codeUnlock (p : Nat) (s : State) : State :=
  if (s.tow p).locked.isSome then
    (((s.modTow p fun x => { x with locked := none }).put (PORT_TOW_STATUS_code_locked p) 0).put (PORT_TOW_STATUS_locked_code p) 0).cause
      (Cause.PORT_TOW_code_lost p)
  else s

/-- The strongest lane of a port: the highest despread SNR, the lowest lane on a tie (log entry 23). -/
def strongestLane (s : State) (p : Nat) : Nat :=
  (lanesOf p).foldl (fun b l => if (s.lane b).towSnr < (s.lane l).towSnr then l else b) (8 * p)

/-- Distance of two chip phases around the code, in quarter chips. -/
def phaseApart (a b : Nat) : Nat := min ((a + 4092 - b) % 4092) ((b + 4092 - a) % 4092)

/-- A lane may be in the combined stream (R171): at least 3 dB, and its bit boundary within 128 chips of the strongest lane's. -/
def mayJoin (s : State) (l : Nat) : Bool :=
  decide (12 ≤ (s.lane l).towSnr) &&
    decide (phaseApart (s.get (LANE_TOW_PHASE_phase l)) (s.get (LANE_TOW_PHASE_phase (strongestLane s (portOf l)))) ≤ 512)

/-- A lane's despread SNR over the last 16 bits, in 0.25 dB, and its code phase: the lanes of the port that meet both conditions are in the
combined stream (R171). -/
def laneJoin (l : Nat) (snr : Int) (quarters : Nat) (s : State) : State :=
  if s.stage (portOf l) = 0 then s
  else
    let s1 := (s.modLane l fun x => { x with towSnr := snr }).put (LANE_TOW_PHASE_phase l) (quarters % 4092)
    forEach (lanesOf (portOf l)) (fun k s =>
      let j := mayJoin s1 k
      if (s.lane k).joined == j then s
      else (s.modLane k fun x => { x with joined := j }).put (LANE_TOW_PHASE_joined k) (if j then 1 else 0)) s1

/-- Lanes joined on a port. -/
def lanesJoined (s : State) (p : Nat) : Nat := ((lanesOf p).filter fun l => (s.lane l).joined).length

/-! ### Acquisition contexts (R175 to R177, R187) -/

/-- Bit errors a hail may carry. -/
def hailErr (s : State) (p : Nat) : Nat := min 6 (s.get (PORT_TOW_CTRL_hail_err p))

/-- A hail of the combined stream: its code, and the soft values of its 32 bits, from which errors and metric follow (R176). -/
def hail (p code : Nat) (soft : List Int) (s : State) : State :=
  let x := s.tow p
  let m := hailMetric soft
  let errors := hailErrors soft
  let known := x.found == some code || x.locked == some code || x.ctx0 != .search || x.ctx1 != .search
  if s.stage p = 0 || soft.length != 32 || hailErr s p < errors || !known then s
  else
    let assigned (s : State) (first : Bool) : State :=
      ((s.modTow p fun x =>
        if first then { x with ctx0 := .header code m, found := none } else { x with ctx1 := .header code m, found := none }).put
          (PORT_TOW_HAIL_errors p) errors).put (PORT_TOW_HAIL_metric p) m
    let abandoned (s : State) : State := (s.addSat (PORT_TOW_FALSELOCK p) 1).cause (Cause.PORT_TOW_false_lock p)
    match x.ctx0, x.ctx1 with
    | .payload _ _, _ => s
    | _, .payload _ _ => s
    | .header _ m1, _ => if m1 < m then assigned (abandoned (s.modTow p fun x => { x with ctx0 := .search })) false else s
    | .search, .header _ m1 => if m1 < m then assigned (abandoned (s.modTow p fun x => { x with ctx1 := .search })) true else s
    | .search, .search => assigned s true

/-- The header check of the context in HEADER, on the header that the decoder commits from the soft values since the hail (R166, R177). -/
def headerCheck (p : Nat) (soft : List Int) (s : State) : State :=
  let header := decodedHeader soft
  let failed (s : State) : State := (s.addSat (PORT_TOW_HDR_ERR p) 1).cause (Cause.PORT_TOW_hdr_err p)
  match (s.tow p).ctx0, (s.tow p).ctx1 with
  | .header c _, _ =>
    if headerOk header then s.modTow p fun x => { x with ctx0 := .payload c header }
    else failed (s.modTow p fun x => { x with ctx0 := .search })
  | _, .header c _ =>
    if headerOk header then s.modTow p fun x => { x with ctx1 := .payload c header }
    else failed (s.modTow p fun x => { x with ctx1 := .search })
  | _, _ => s

/-- Both contexts reset (R186, R187). -/
def towContextsReset (p : Nat) (s : State) : State := s.modTow p fun x => { x with ctx0 := .search, ctx1 := .search }

/-- The code and header of the context in PAYLOAD. -/
def payloadCtx (x : TowSt) : Option (Nat × Word) :=
  match x.ctx0, x.ctx1 with
  | .payload c h, _ => some (c, h)
  | _, .payload c h => some (c, h)
  | _, _ => none

/-! ### The end of a frame (R172 to R174, R178, R181) -/

/-- A tag other than 0x000, which the spec does not fix (R173, log entry 2). -/
def drawTag (s : State) : State :=
  let t := 1 + s.drawn 32 % 4095
  forEach (List.range 16) (fun p s => s.put (PORT_TOW_TAG_tag p) t) s.drew

/-- An own-tag frame: counted, and the sixteenth within 100 ms with no other tag draws a new one (R173, R174). -/
def selfEcho (p : Nat) (s : State) : State :=
  let recent := (s.ticks :: (s.tow p).echoes).filter fun t => decide (s.ticks ≤ t + 1250000)
  let s1 := s.addSat (PORT_TOW_SELF_ECHO p) 1
  if 16 ≤ recent.length then ((drawTag s1).modTow p fun x => { x with echoes := [] }).cause (Cause.PORT_TOW_self_echo p)
  else s1.modTow p fun x => { x with echoes := recent }

/-- LANE_TOW_SIG of the lanes that measured the frame, as chip power and SNR (R181). -/
def towSignals (p : Nat) (sigs : List (Int × Int)) (s : State) : State :=
  forEach sigs.zipIdx (fun m s =>
    if m.2 < 8 then
      let l := 8 * p + m.2
      ((s.put (LANE_TOW_SIG_valid l) 1).put (LANE_TOW_SIG_snr l) (ofSigned 12 m.1.2)).put (LANE_TOW_SIG_sig l) (ofSigned 12 m.1.1)
    else s) s

/-- A message of a type and length that is handled; any other below 0x20 is discarded (R131, R178, R182, R183). -/
def towHandled (payload : List Byte) : Bool :=
  let n := payload.length
  match (payload.headD 0).toNat with
  | 0x01 => n == 18 | 0x02 => n == 5 | 0x03 => n == 3 | 0x04 => n == 2 | 0x05 => n == 1 | 0x06 => n == 3 | 0x07 => n == 2
  | 0x10 => n == 8 | 0x11 => decide (4 ≤ n ∧ n ≤ 64) | 0x12 => n == 4
  | _ => false

/-- A payload of a good frame handed on by its type (R178, R393). -/
def towDeliver (p : Nat) (payload : List Byte) (s : State) : State :=
  let t := (payload.headD 0).toNat
  if towHandled payload then s.modTow p fun x => { x with inbox := x.inbox ++ [payload] }
  else if decide (0x20 ≤ t ∧ t ≤ 0x2F) then s.addSat FAB_TOW_UNKNOWN 1
  else s

/-- The frame in PAYLOAD ends: payload and CRC-16 are decoded from the soft values since the hail (R166, R178). -/
def frameEnd (p : Nat) (soft : List Int) (sigs : List (Int × Int)) (s : State) : State :=
  match payloadCtx (s.tow p) with
  | none => s
  | some (code, header) =>
    let s1 := towSignals p sigs (towContextsReset p s)
    let tag := header.bits 20 9
    let payload := decodedPayload (header.bits 31 25) soft
    if decodedCrc (header.bits 31 25) soft ≠ frameCrc header payload then
      (s1.addSat (PORT_TOW_CRC_ERR p) 1).cause (Cause.PORT_TOW_crc_err p)
    else if tag = s.get (PORT_TOW_TAG_tag p) then selfEcho p s1
    else
      let s2 := (((s1.modTow p fun x => { x with echoes := [] }).addSat (PORT_TOW_FRAMES_OK p) 1).put
        (PORT_TOW_STATUS_peer_tag p) tag).cause (Cause.PORT_TOW_frame_rx p)
      let s3 := s2.modTow p fun x => { x with lastFrame := some s.ticks }
      let s4 := if s3.flag (PORT_TOW_CTRL_code_lock_en p) && (s3.tow p).locked.isNone then
          (((s3.modTow p fun x => { x with locked := some code }).put (PORT_TOW_STATUS_code_locked p) 1).put
            (PORT_TOW_STATUS_locked_code p) code).cause (Cause.PORT_TOW_code_lock p)
        else s3
      towDeliver p payload s4

/-- A handled payload leaves the port's inbox. -/
def towTake (p : Nat) (payload : List Byte) (s : State) : State := s.modTow p fun x => { x with inbox := x.inbox.erase payload }

/-! ### Noise (R181) -/

/-- An idle window's measured level joins the average with weight 1/16.  How the sixteenths are rounded is not stated: a
free value (log entry 2). -/
def noiseWindow (l : Nat) (measured : Int) (s : State) : State :=
  let p := portOf l
  if s.stage p = 0 || (s.tow p).ctx0 != .search || (s.tow p).ctx1 != .search then s
  else if s.flag (LANE_TOW_NOISE_valid l) then
    let n := 15 * toSigned 12 (s.get (LANE_TOW_NOISE_level l)) + measured
    let up : Int := if n % 16 = 0 then 0 else (s.drawn 1 : Nat)
    (if n % 16 = 0 then s else s.drew).put (LANE_TOW_NOISE_level l) (ofSigned 12 (n / 16 + up))
  else (s.put (LANE_TOW_NOISE_valid l) 1).put (LANE_TOW_NOISE_level l) (ofSigned 12 measured)

/-! ### Beacons (R182) -/

/-- The beacon the port would send (R182, R390). -/
def beaconPayload (s : State) (p : Nat) : List Byte :=
  let state := s.stage p % 8 + (if s.flag FAB_CTRL_fwd_en && s.flag (FAB_PORT_CTRL_fwd p) then 8 else 0) +
    (if s.flag TST_STATUS_replace then 16 else 0) + (if s.mode = Mode.safe then 32 else 0)
  [0x10, BitVec.ofNat 8 (s.get FAB_NODE_id + 128 * s.get FAB_NODE_valid), BitVec.ofNat 8 p, BitVec.ofNat 8 state] ++
    bytesBE 2 (s.tow p).beaconSeq ++ bytesBE 2 (s.get FAB_EPOCH_epoch)

/-- A beacon interval has passed: a beacon that has not started is dropped, and one is queued. -/
def beaconTimer (p : Nat) (s : State) : State :=
  if !s.flag (PORT_TOW_CTRL_beacon_en p) || !(s.stage p == 1 || decide (5 ≤ s.stage p)) then s
  else
    let late := (s.tow p).queue.any fun m => towClass m == 4
    let s1 := if late then
        ((s.modTow p fun x => { x with queue := x.queue.filter fun m => towClass m != 4 }).addSat (PORT_TOW_TX_SKIP p) 1).cause
          (Cause.PORT_TOW_beacon_skip p)
      else s
    towEnqueue p (beaconPayload s1 p) s1

/-! ### Management fragments sent (R183, R184) -/

/-- The MGMT payload of a response fragment. -/
def mgmtPayload (x : MgmtTx) : List Byte :=
  let part := (x.data.drop (61 * x.fragment)).take 61
  let last := decide (x.data.length ≤ 61 * (x.fragment + 1))
  [0x11, BitVec.ofNat 8 (x.mailbox % 8 + 128 + (if last then 64 else 0)), BitVec.ofNat 8 x.fragment] ++
    (if part.isEmpty then [0] else part)

/-- A fragment is sent, for the first time or again. -/
def mgmtSend (p : Nat) (x : MgmtTx) (s : State) : State :=
  towEnqueue p (mgmtPayload x) (s.modTow p fun t => { t with mgmtTx := some { x with sends := x.sends + 1 } })

/-- No acknowledgement came, or busy: sent again, up to 8 times (R184). -/
def mgmtAgain (p : Nat) (s : State) : State :=
  match (s.tow p).mgmtTx with
  | none => s
  | some x =>
    if 8 ≤ x.sends then (s.modTow p fun t => { t with mgmtTx := none }).cause (Cause.PORT_TOW_mgmt_fail p)
    else mgmtSend p x s

/-! ### Port stages and the towpath (R169, R172, R181, R187) -/

/-- Sending and reception cut by S0 entry, the anchor sequence or a port-only reset. -/
def towCut (p : Nat) (s : State) : State :=
  codeUnlock p (wakeEnd p (towContextsReset p (s.modTow p fun x =>
    { x with sending := none, channel := [], queue := [], inbox := [], found := none, mgmtTx := none, mgmtRx := [] })))

/-- S0 entry: readouts since S0 start over. -/
def towDark (p : Nat) (s : State) : State :=
  let s1 := ((towCut p s).put (PORT_TOW_BCN0_valid p) 0).put (FAB_NBR_valid p) 0
  forEach (lanesOf p) (fun l s =>
    ((((s.modLane l fun x => { x with joined := false, towSnr := 0, towLevel := none }).put (LANE_TOW_PHASE_joined l) 0).put (LANE_TOW_NOISE_valid l) 0).put
      (LANE_TOW_SIG_valid l) 0)) s1

/-! ### Cancellation from the data path (R180) -/

/-- The canceller of a port works: S2 to S7, with a code found or locked. -/
def cancels (s : State) (p : Nat) : Bool :=
  decide (2 ≤ s.stage p) && ((s.tow p).found.isSome || (s.tow p).locked.isSome)

/-- The code whose signal is rebuilt. -/
def cancelCode (s : State) (p : Nat) : Nat := ((s.tow p).locked.getD ((s.tow p).found.getD 0))

/-- A crossing of sign-sign LMS on the FFE error moves each of the 24 taps; by how much is a free value (log entries 2, 24). -/
def cancelAdapt (l : Nat) (s : State) : State :=
  if cancels s (portOf l) then
    (s.drewMany 24).modLane l fun x => { x with
      canceller := (List.range 24).map fun i => x.canceller.getD i 0 + toSigned 16 (Config.freeValue (s.free + i) % 65536) }
  else s

/-- The sign a chip has on lane position j. -/
def chipSign (code j n : Nat) : Int := if goldChip code (n + 93 * j) then -1 else 1

/-- The tentative decision on a bit: true for -1.  `chips` gives chips 0 to 255 of each joined lane, by lane, with its weight. -/
def tentative (code : Nat) (chips : List (Nat × Int × List Int)) : Bool :=
  decide (chips.foldl (fun (a : Int) x =>
    a + x.2.1 * ((List.range 256).foldl (fun (b : Int) n => b + chipSign code (x.1 % 8) n * x.2.2.getD n 0) 0)) 0 < 0)

/-- What is subtracted from sample i of a bit, at 4 samples a chip, with the tentative sign of the bit: nothing over chips 0 to 255, the rebuilt
towpath over chips 256 to 1022. -/
def cancelled (s : State) (l : Nat) (sign : Bool) (i : Nat) : Int :=
  if !cancels s (portOf l) || decide (i < 4 * 256) then 0
  else
    (List.range 24).foldl (fun (a : Int) k =>
      if (i - k) % 4 = 0 then
        a + (s.lane l).canceller.getD k 0 * (if sign then -1 else 1) * chipSign (cancelCode s (portOf l)) (l % 8) ((i - k) / 4)
      else a) 0

/-- The samples of a bit at the ADC's output, ahead of the FDE and FFE. -/
def dataSamples (s : State) (l : Nat) (sign : Bool) (adc : List Int) : List Int :=
  adc.zipIdx.map fun x => x.1 - cancelled s l sign x.2

/-- A lane's towpath at a boundary. -/
def towLaneBoundary (l : Nat) (s : State) : State := towLevelStep l (cancelAdapt l s)

/-- The towpath's part of a wake declaration: false while the port itself sends the pattern (R186). -/
def wakeSeen (s : State) (p : Nat) : Bool := !(s.tow p).waking && decide (s.stage p ≠ 0)

end Sys2Proof.Machine
end

