-- ==== Sys2Proof/Machine/Bringup.lean ====
section
/-!
DEFINITION. Machine/Bringup.lean: the stages of a port, negotiation, training, lock pairs, quick retrain, speed steps, FEC counts
and the degrade rule (05_bringup_and_fec).
-/
set_option autoImplicit false

namespace Sys2Proof.Machine
open Reg Bit

/-- Causes of PORT_FALL.last_cause. -/
def Fall.los : Nat := 0x01
def Fall.cdrUnlock : Nat := 0x02
def Fall.fecLockLost : Nat := 0x03
def Fall.replayLimit : Nat := 0x04
def Fall.degrade : Nat := 0x05
def Fall.peerRequest : Nat := 0x06
def Fall.hostRequest : Nat := 0x07
def Fall.pllUnlock : Nat := 0x08
def Fall.portReset : Nat := 0x09
def Fall.baseReset : Nat := 0x0A
def Fall.shed : Nat := 0x0B
def Fall.mode : Nat := 0x0C
def Fall.timeout : Nat := 0x0D

/-- Causes of PORT_NEG.cause. -/
def Neg.reachMismatch : Nat := 1
def Neg.noGen : Nat := 2
def Neg.noVersion : Nat := 3
def Neg.selMismatch : Nat := 4
def Neg.timeout : Nat := 5
def Neg.peerAbort : Nat := 6

/-! ### Stages (R128, R552) -/

/-- Entering training from outside it, the FIR and swing registers hold what drives the output (R92; log entry 18). -/
def trainingRegs (l : Nat) (s : State) : State :=
  let x := s.lane l
  ((s.setReg (LANE_TX_FIR0 l) x.firLive0).setReg (LANE_TX_FIR1 l) x.firLive1).setReg (LANE_TX_SWING l) x.swingLive

/-- The stage of a port changes: measurements end, level and lock readouts of stages S0 and S1 clear, the mask set follows, the charge follows at
the boundary (R92, R100, R107, R118, R120, R137, R156). -/
def setStage (p st : Nat) (s : State) : State :=
  let outside := s.stage p ≤ 1 || s.stage p == 7
  let s1 := forEach (lanesOf p) (fun l s =>
    let s1 := maskFollows l st (eyeAbort l s)
    let s2 := if st ≤ 1 then (s1.put (LANE_RX_LEVEL_los l) 0).put (LANE_CDR_STATUS_lock l) 0 else s1
    let s3 := if s.stage p = 5 && st ≠ 5 then devicePrbs l false s2 else s2
    let s4 := if outside && decide (2 ≤ st ∧ st ≤ 6) then trainingRegs l s3 else s3
    if st = 2 || st = 4 then
      (s4.drew).modLane l fun x => { x with
        threshold := false, readyRun := 0, lastRequest := 0, tapStatus := 0, request := 0, initAsk := natBit (Config.freeValue s4.free) 0,
        peerStatus := 0, peerStep := false }
    else if st = 6 then
      s4.modLane l fun x => { x with
        innerZero := 0, innerBad := 0, innerLocked := false, innerOffset := 0, innerBits := [], innerRest := [], innerSent := [] }
    else s4) s
  let s2 := ((s1.put (PORT_STATUS_stage p) st).put (PORT_STATUS_hold p) 0).modPort p fun x => { x with stageTick := s.ticks }
  let s3 := if st = 3 || st = 6 then
      ((((s2.modPort p fun x => { x with
        lockPairs := 0, countdown := none, txSwitched := false, rxSwitched := false, flitRun := 0,
        uncorrRun := 0, pairHalf := none, cwSeen := 0, blkSeen := 0, badCw := [], txBlocks := [], txPair := ([], []) }).put
        (PORT_FEC_STATUS_rs_lock p) 0).put (PORT_FEC_STATUS_inner_lock p) 0).put
        (PORT_FEC_STATUS_lane_aligned p) 0).put (PORT_FEC_STATUS_flit_lock p) 0
    else s2
  { s3 with chargeDue := insertSorted p s3.chargeDue }

/-- A port in S7 leaves it (R552): counted, down raised, the cause recorded, and a failover trigger for the fabric (R407). -/
def departS7 (p cause : Nat) (s : State) : State :=
  if s.stage p = 7 then
    ((((s.addField (PORT_FALL_falls p) 1).put (PORT_FALL_last_cause p) cause).cause (Cause.PORT_down p)).modFab p fun x =>
      { x with due := true, beaconSeen := false, reason := 1, s7Sum := x.s7Sum + (s.ticks - x.s7In) })
  else s

/-- A request of the port that the ledger has not decided is withdrawn. -/
def dropAsk (p : Nat) (s : State) : State := { s with asks := s.asks.erase p }

/-- Negotiation starts over: the peer CAP held for it is discarded, and a reserved charge returns to the stage's (R132, R134). -/
def clearNegotiation (p : Nat) (s : State) : State :=
  let s1 := ((dropAsk p s).modPort p fun x => { x with
    capHeld := false, ownSel := none, peerSel := none, selMismatch := 0, granted := false, peerGo := false,
    refusals := 0, capAgain := false }).put (PORT_STATUS_ledger_wait p) 0
  { s1 with chargeDue := insertSorted p s1.chargeDue }

/-- What a port keeps of a bring-up after a fall: nothing of the attempt, the retrain or the step. -/
def clearCourse (p : Nat) (s : State) : State :=
  let s1 := (clearNegotiation p s).modPort p fun x => { x with
    attempt := none, failures := 0, path := .full, qrWaiting := false, qrCause := 0, stepping := none, stepDue := none, keepLink := false,
    negWait := false, degradedRun := 0, degradeEnd := none, floored := false, aim := none, trigger := none }
  ((((((((s1.put (PORT_STATUS_gen p) 0).put (PORT_STATUS_reach p) 3).put (PORT_STATUS_version p) 0).put (PORT_STATUS_degraded p) 0).put
    (PORT_FEC_STATUS_rs_lock p) 0).put (PORT_FEC_STATUS_inner_lock p) 0).put (PORT_FEC_STATUS_flit_lock p) 0).put
    (PORT_FEC_STATUS_lane_aligned p) 0).put (PORT_CTRL_retrain p) 0

/-- A fall to S1 with its cause (R128, R229, R552). -/
def portFall (p cause : Nat) (s : State) : State :=
  if s.stage p = 0 then s
  else
    let stepped := (s.port p).stepping.any fun x => x.host
    let s1 := (departS7 p cause s).put (PORT_FALL_last_cause p) cause
    let s2 := if stepped then
        ((s1.put (PORT_NEG_step_outcome p) 3).put (PORT_CTRL_step_go p) 0).cause (Cause.PORT_step_result p)
      else s1
    linkFall p (clearCourse p (setStage p 1 s2))

/-- A PLL of the port's quadrant is locked (R128). -/
def anyPll (s : State) (p : Nat) : Bool := pllLocked s p 0 || pllLocked s p 2

/-- START has passed the point where ports may leave S0: the end of BOOT, and after a base-die-only reset SELFTEST (R128). -/
def startLit (s : State) : Bool :=
  match s.start.phase with
  | .ended => s.mode != Mode.cold
  | .running => decide (4 ≤ s.get GLB_START_STATUS_step)
  | _ => false

/-- PORT_NEG.gen_cap shows the lower of the two caps (R129, R135). -/
def putCaps (p : Nat) (s : State) : State :=
  let x := s.port p
  s.put (PORT_NEG_gen_cap p)
    (if x.capAttempt = 0 then x.capRefused else if x.capRefused = 0 then x.capAttempt else min x.capAttempt x.capRefused)

/-- The cap of R129 ends in S7 and in S0. -/
def endAttemptCap (p : Nat) (s : State) : State := putCaps p (s.modPort p fun x => { x with capAttempt := 0 })

/-- S0 ends when the port is enabled, BOOT has ended and a PLL is locked (R128). -/
def leaveDark (p : Nat) (s : State) : State :=
  if s.stage p = 0 && s.flag (PORT_CTRL_enable p) && startLit s && anyPll s p then
    setStage p 1 (clearCourse p (s.put (PORT_NEG_attempts p) 0))
  else s

/-- Entry to S0 with the cause of a departure from S7 (R95, R128, R160). -/
def enterDark (p cause : Nat) (s : State) : State :=
  if s.stage p = 0 then s
  else
    let s1 := setStage p 0 (portFall p cause s)
    let s2 := forEach (lanesOf p) (fun l s => applyLaneCtrl l s) (towDark p s1)
    (endAttemptCap p (s2.put (PORT_PEER_CAP_valid p) 0)).modPort p fun x => { x with disabling := false }

/-! ### Registers of a port (R75) -/

/-- The address lies in the port's own LANE_, PORT_ or UZ_ registers. -/
def ownRegister (p a : Nat) : Bool :=
  (decide (0x10000 ≤ a ∧ a < 0x18000) && portOf ((a - 0x10000) / 0x100) == p) ||
  (decide (0x40000 ≤ a ∧ a < 0x44000) && (a - 0x40000) / 0x400 == p) ||
  (decide (0x50000 ≤ a ∧ a < 0x54000) && (a - 0x50000) / 0x400 == p)

/-- The port's registers at their reset values; the device keeps its towpath tag (R173). -/
def resetPortRegs (p : Nat) (s : State) : State :=
  let tag := s.get (PORT_TOW_TAG_tag p)
  let used := (lanesOf p).foldl (fun t l => t + s.get (LANE_POWER_mw l)) 0
  let s1 := { s with
    regs := s.regs.filter fun e => !ownRegister p e.1
    shadows := s.shadows.filter fun e => !ownRegister p (e.1 / 32)
    clears := s.clears.filter fun a => !ownRegister p a }
  let s2 := forEach (lanesOf p) (fun l s => s.setLane l LaneSt.reset) (s1.put (PORT_TOW_TAG_tag p) tag)
  let now := (lanesOf p).foldl (fun t l => t + s2.get (LANE_POWER_mw l)) 0
  let total := s.get LANE_LEDGER_USED_mw + now - used
  { (s2.put LANE_LEDGER_USED_mw total).put LANE_LEDGER_STAGED_mw total with chargeDue := insertSorted p s2.chargeDue }

/-- A port-only reset (R72, R75, R79, R82): arm and shadows are discarded under R19. -/
def portOnlyReset (p : Nat) (s : State) : State :=
  let dark := s.stage p == 0
  let s1 := portFall p Fall.portReset (linkPortReset p s)
  let s2 := resetPortRegs p (towCut p s1)
  let s3 := (s2.modPort p fun x => { PortSt.reset with
    shed := x.shed, parked := x.parked, fresh := x.fresh, capAttempt := x.capAttempt, capRefused := x.capRefused, stageTick := s.ticks })
  let s4 := commitReset (putCaps p (s3.put (PORT_STATUS_stage p) (if dark then 0 else 1)))
  leaveDark p (s4.put (PORT_FALL_last_cause p) Fall.portReset)

/-! ### Bring-up messages (R131, R132) -/

/-- The reach PORT_CAP or a CAP names: 0b11 acts as short. -/
def reachOf (v : Nat) : Nat := if v = 3 then 0 else v

/-- The generations offered, within the cap of R129 and R135. -/
def offeredGens (s : State) (p : Nat) : Nat :=
  let g := s.get (PORT_CAP_gens p)
  match s.get (PORT_NEG_gen_cap p) with
  | 1 => Nat.land g 1
  | 2 => Nat.land g 3
  | _ => g

/-- The generation and reach of the store, when all eight lanes hold a record of one kind (R112). -/
def storeOf (s : State) (p : Nat) : Option (Nat × Nat) :=
  match s.always.coeffs.find (8 * p) with
  | none => none
  | some r =>
    if (lanesOf p).all fun l => (s.always.coeffs.find l).any fun q => q.gen == r.gen && q.reach == r.reach then some (r.gen, r.reach)
    else none

/-- The port's CAP (R131, R132). -/
def capPayload (s : State) (p : Nat) : List Byte :=
  let store := storeOf s p
  let flags := (if store.isSome then 1 else 0) + 2 * s.get (PORT_CTRL_allow_stored p) + (if (s.port p).fresh then 4 else 0)
  let kind := match store with | some (g, r) => g + 4 * r | none => 0
  [0x01, 0x01, BitVec.ofNat 8 (offeredGens s p), BitVec.ofNat 8 (reachOf (s.get (PORT_CAP_reach p))),
   BitVec.ofNat 8 (s.get (PORT_CAP_versions p)), BitVec.ofNat 8 (s.get FAB_NODE_id + 128 * s.get FAB_NODE_valid),
   BitVec.ofNat 8 flags, BitVec.ofNat 8 kind, BitVec.ofNat 8 p, 0] ++
    bytesBE 4 (s.reg DEV_ID).toNat ++ bytesBE 4 (s.reg REV_ID).toNat

def selPayload (x : SelMsg) : List Byte :=
  [0x02, BitVec.ofNat 8 x.gen, BitVec.ofNat 8 x.reach, BitVec.ofNat 8 x.version, BitVec.ofNat 8 x.path]

def goPayload (what cause : Nat) : List Byte := [0x03, BitVec.ofNat 8 what, BitVec.ofNat 8 cause]

/-- The port takes part in negotiation: S1, and not kept there by shedding, a mode or a failed exchange. -/
def negotiates (s : State) (p : Nat) : Bool :=
  s.stage p == 1 && !(s.port p).shed && !(s.port p).parked && !(s.port p).negWait

/-- A bring-up message of a type and length (R131). -/
def isMessage (m : List Byte) (type length : Nat) : Bool := m.length == length && (m.headD 0).toNat == type

/-- A millisecond of S1: CAP until a peer CAP came, or again after PORT_CAP changed; then SEL until the peer's SEL came (R132, R160). -/
def capTimer (p : Nat) (s : State) : State :=
  let x := s.port p
  if !negotiates s p || x.granted then s
  else if !x.capHeld || x.capAgain then towEnqueue p (capPayload s p) (s.modPort p fun x => { x with capAgain := false })
  else match x.ownSel, x.peerSel with
    | some sel, none => towEnqueue p (selPayload sel) s
    | _, _ => s

/-- A failed negotiation: ABORT is sent and the exchange restarts 100 ms later (R128, R133). -/
def negotiateFail (p cause : Nat) (s : State) : State :=
  ((clearNegotiation p (towEnqueue p (goPayload 2 cause) s)).modPort p fun x => { x with negWait := true }).put (PORT_NEG_cause p) cause
    |>.cause (Cause.PORT_negotiate_fail p)

/-- The highest set bit of a mask of generations, as a generation code. -/
def highestGen (m : Nat) : Nat := if natBit m 2 then 3 else if natBit m 1 then 2 else if natBit m 0 then 1 else 0

/-- The SEL that own CAP and peer CAP give, or the cause of failure (R133). -/
def computeSel (s : State) (p : Nat) : SelMsg ⊕ Nat :=
  let caps := s.get (PORT_PEER_CAP_caps p)
  let reach := reachOf (s.get (PORT_CAP_reach p))
  if reach ≠ reachOf (caps / 16 % 4) then .inr Neg.reachMismatch
  else
    let common := Nat.land (offeredGens s p) (caps % 8)
    let gen := highestGen (if reach = 2 then Nat.land common 6 else common)
    if gen = 0 then .inr Neg.noGen
    else
      let versions := Nat.land (s.get (PORT_CAP_versions p)) (caps / 256 % 4)
      if versions = 0 then .inr Neg.noVersion
      else
        let version := if natBit versions 1 then 2 else 1
        let stored := storeOf s p == some (gen, reach) && s.flag (PORT_CTRL_allow_stored p) && !(s.port p).fresh &&
          s.flag (PORT_PEER_CAP_store_valid p) && s.flag (PORT_PEER_CAP_allow_stored p) && !s.flag (PORT_PEER_CAP_fresh p) &&
          s.get (PORT_PEER_CAP_stored_gen p) == gen && s.get (PORT_PEER_CAP_stored_reach p) == reach
        .inl ⟨gen, reach, version, if stored then 1 else 0⟩

/-- The SEL computed again after a CAP, or after PORT_CAP was written in S1 (R133, R160).  The attempt aims at it, and the generations common to
both CAPs are kept for speed steps (R129, R149). -/
def recomputeSel (p : Nat) (s : State) : State :=
  let x := s.port p
  if !negotiates s p || !x.capHeld || x.granted then s
  else match computeSel s p with
    | .inl sel => s.modPort p fun x => { x with
        ownSel := some sel, aim := some (sel.gen, sel.reach)
        negGens := Nat.land (s.get (PORT_CAP_gens p)) (s.get (PORT_PEER_CAP_caps p) % 8) }
    | .inr c => negotiateFail p c s

/-- PORT_CAP changed in S1: the SELs are computed and exchanged again, and the next message is the new CAP (R160). -/
def capChanged (p : Nat) (s : State) : State :=
  if !negotiates s p || !(s.port p).capHeld || (s.port p).granted then s
  else recomputeSel p (((dropAsk p s).modPort p fun x => { x with peerSel := none, selMismatch := 0, refusals := 0, capAgain := true }).put
    (PORT_STATUS_ledger_wait p) 0)

/-- The fields of a peer CAP recorded (PORT_PEER_CAP, PORT_PEER_DEV, PORT_PEER_REV, PORT_STATUS). -/
def recordCap (p : Nat) (m : List Byte) (s : State) : State :=
  let b (i : Nat) : Nat := (m.getD i 0).toNat
  let word := 2 ^ 31 + b 8 % 16 * 2 ^ 24 + b 7 / 4 % 4 * 2 ^ 18 + b 7 % 4 * 2 ^ 16 + b 6 / 4 % 2 * 2 ^ 14 + b 6 / 2 % 2 * 2 ^ 13 +
    b 6 % 2 * 2 ^ 12 + b 4 % 4 * 2 ^ 8 + b 3 % 4 * 2 ^ 4 + b 2 % 8
  let s1 := (((s.setReg (PORT_PEER_CAP p) (BitVec.ofNat 32 word)).setReg (PORT_PEER_DEV p) (BitVec.ofNat 32 (ofBytesBE ((m.drop 10).take 4)))).setReg
    (PORT_PEER_REV p) (BitVec.ofNat 32 (ofBytesBE ((m.drop 14).take 4))))
  ((s1.put (PORT_STATUS_peer_node p) (b 5 % 64)).put (PORT_STATUS_peer_node_valid p) (b 5 / 128)).modTow p fun x =>
    { x with lastFrame := some s.ticks }

/-- A peer CAP (R129, R132, R133, R185).  Every copy is answered by the own CAP until the peer's SEL shows that it has it (log entry 19). -/
def capArrives (p : Nat) (m : List Byte) (s : State) : State :=
  if !isMessage m 0x01 18 || s.stage p = 0 then s
  else
    let id := (m.getD 5 0).toNat
    let s1 := nodeConflict p (id % 64) (id / 128 == 1) (wakeEnd p (recordCap p m s))
    if !negotiates s1 p || (s1.port p).granted then s1
    else
      let first := (s1.port p).attempt.isNone
      let s2 := s1.modPort p fun x => { x with
        capHeld := true, attempt := if first then some s.ticks else x.attempt, failures := if first then 0 else x.failures }
      let s3 := if (s2.port p).peerSel.isNone then towEnqueue p (capPayload s2 p) s2 else s2
      recomputeSel p (if first then s3.addField (PORT_NEG_attempts p) 1 else s3)

/-- The lowest generation a target may be lowered to (R129, R130, R135). -/
def floorGen (reach : Nat) : Nat := if reach = 2 then 2 else 1

/-- A request to the ledger, for decision in this crossing (R122). -/
def askLedger (p : Nat) (a : LedgerAsk) (s : State) : State := { s with asks := s.asks.ins p a }

/-- The ledger asked for the target of the agreed SEL (R121, R134). -/
def requestLedger (p : Nat) (sel : SelMsg) (s : State) : State := askLedger p ⟨sel.gen, sel.reach, .entry⟩ s

/-- The target of a port, which its charge follows (R120). -/
def setTarget (p gen reach : Nat) (s : State) : State :=
  let s1 := (s.put (PORT_STATUS_target_gen p) gen).put (PORT_STATUS_target_reach p) reach
  { s1 with chargeDue := insertSorted p s1.chargeDue }

/-- The ledger grants the entry: GO is sent (R134). -/
def entryGranted (p : Nat) (a : LedgerAsk) (s : State) : State :=
  let sel := (s.port p).ownSel.getD ⟨a.gen, a.reach, 0, 0⟩
  let s1 := s.modPort p fun x => { x with granted := true, refusals := 0, path := if sel.path = 1 then .stored else .full }
  towEnqueue p (goPayload 0 0) (((setTarget p a.gen a.reach s1).put (PORT_STATUS_version p) sel.version).put (PORT_STATUS_ledger_wait p) 0)

/-- The ledger refuses the entry: WAIT is sent, and after ten refusals in a row for want of power the target is lowered (R134, R135). -/
def entryRefused (p : Nat) (a : LedgerAsk) (c : LedgerCause) (s : State) : State :=
  let s1 := towEnqueue p (goPayload 1 0) (s.modPort p fun x => { x with refusals := x.refusals + 1 })
  let s2 := (s1.put (PORT_STATUS_ledger_wait p) 1).cause (Cause.PORT_ledger_wait p)
  if (c = .allowance ∨ c = .ceiling) ∧ 10 ≤ (s2.port p).refusals ∧ floorGen a.reach < a.gen then
    putCaps p ((clearNegotiation p s2).modPort p fun x => { x with capRefused := a.gen - 1 })
  else s2

/-- A peer SEL (R133, R134): answered by the own SEL once per copy (R132). -/
def selArrives (p : Nat) (m : List Byte) (s : State) : State :=
  let x := s.port p
  if !isMessage m 0x02 5 || !negotiates s p || !x.capHeld then s
  else
    let b (i : Nat) : Nat := (m.getD i 0).toNat
    let peer : SelMsg := ⟨b 1, b 2, b 3, b 4⟩
    match x.ownSel with
    | none => s
    | some own =>
      let s0 := towEnqueue p (selPayload own) s
      if x.granted then s0
      else if own = peer then
        let s1 := s0.modPort p fun x => { x with peerSel := some peer, selMismatch := 0 }
        if s.flag (PORT_STATUS_ledger_wait p) then s1 else requestLedger p own s1
      else if 2 ≤ x.selMismatch then negotiateFail p Neg.selMismatch s
      else s0.modPort p fun x => { x with selMismatch := x.selMismatch + 1 }

/-- The next request after a refusal (R135). -/
def ledgerRetry (p : Nat) (s : State) : State :=
  let x := s.port p
  if !negotiates s p || x.granted || !s.flag (PORT_STATUS_ledger_wait p) then s
  else match x.ownSel with | some sel => requestLedger p sel s | none => s

/-- A peer GO, WAIT or ABORT (R133, R134). -/
def goArrives (p : Nat) (m : List Byte) (s : State) : State :=
  if !isMessage m 0x03 3 then s
  else match (m.getD 1 0).toNat with
    | 0 => if (s.port p).capHeld && negotiates s p then s.modPort p fun x => { x with peerGo := true } else s
    | 2 => if negotiates s p && !(s.port p).granted then negotiateFail p Neg.peerAbort s else s
    | _ => s

/-- 10 ms without the peer's GO: back to S1 and its charge, a new exchange begins (R134). -/
def goTimeout (p : Nat) (s : State) : State :=
  let x := s.port p
  if x.granted && !x.peerGo && s.stage p == 1 then clearNegotiation p s else s

/-- 100 ms after a failed negotiation the exchange restarts (R128). -/
def negotiateRestart (p : Nat) (s : State) : State :=
  if (s.port p).negWait then (clearNegotiation p s).modPort p fun x => { x with negWait := false } else s

/-! ### Entering the stages of bring-up -/

/-- The PLL that clocks a reach is lost: the lanes raise pll_unlock and the port falls (R87). -/
def pllFall (p : Nat) (s : State) : State :=
  portFall p Fall.pllUnlock (forEach (lanesOf p) (fun l s => s.cause (Cause.LANE_pll_unlock l)) s)

/-- S5 is entered: a test hold stops there, otherwise the device runs PRBS31Q on every lane (R95, R114, R159). -/
def enterS5 (p : Nat) (s : State) : State :=
  let s1 := setStage p 5 s
  if s.flag (PORT_CTRL_test_hold p) then
    forEach (lanesOf p) (fun l s => applyLaneCtrl l s) (s1.put (PORT_STATUS_hold p) 1)
  else forEach (lanesOf p) (fun l s => devicePrbs l true s) s1

/-- The reach in which Gen A trains and links: an optical target runs there as long reach (R85, R140). -/
def reachAtA (reach : Nat) : Nat := if reach = 2 then 1 else reach

/-- S2 is entered: Gen A; adaptation starts afresh and the cursor is latched (R102, R111, R140). -/
def enterS2 (p : Nat) (s : State) : State :=
  let reach := reachAtA (s.get (PORT_STATUS_target_reach p))
  if !pllLocked s p reach then pllFall p s
  else
    let s1 := ((setStage p 2 s).put (PORT_STATUS_gen p) 1).put (PORT_STATUS_reach p) reach
    forEach (lanesOf p) (fun l s =>
      (s.put (LANE_STATUS_adapt_frozen l) 0).modLane l fun x => { x with
        modes := modesOf (s.reg (LANE_ADAPT_CTRL l)), restores := [], cursor := cursorAsked s l }) s1

/-- The live generation and reach are the target's. -/
def goTarget (p : Nat) (s : State) : State :=
  (s.put (PORT_STATUS_gen p) (s.get (PORT_STATUS_target_gen p))).put (PORT_STATUS_reach p) (s.get (PORT_STATUS_target_reach p))

/-- S3 is entered at Gen A (R128, R130). -/
def enterS3 (p : Nat) (s : State) : State :=
  ((setStage p 3 s).put (PORT_STATUS_gen p) 1).put (PORT_STATUS_reach p) (reachAtA (s.get (PORT_STATUS_target_reach p)))

/-- S4 is entered at the target, whose PLL has to be locked (R87). -/
def enterS4 (p : Nat) (s : State) : State :=
  if !pllLocked s p (s.get (PORT_STATUS_target_reach p)) then pllFall p s else goTarget p (setStage p 4 s)

/-- A message of the port still waits for its frame to start. -/
def queued (s : State) (p : Nat) (m : List Byte) : Bool := (s.tow p).queue.contains m

/-- A granted port enters S2, or S5 on the stored path, at the first boundary at which the peer's GO has come and its own is on the way: in S2 no
frame starts (R122, R128, R134, R146, R164; log entry 15). -/
def enterGranted (p : Nat) (s : State) : State :=
  let x := s.port p
  if !x.granted || !x.peerGo || queued s p (goPayload 0 0) || s.stage p ≠ 1 then s
  else
    let s1 := s.modPort p fun x => { x with granted := false, peerGo := false }
    if x.path = .stored then
      if !pllLocked s p (s.get (PORT_STATUS_target_reach p)) then pllFall p s
      else enterS5 p (forEach (lanesOf p) (fun l s => restoreCoeffs l s) (goTarget p s1))
    else enterS2 p s1

/-- A replay begins with the oldest unacknowledged flit and is counted (R200, R202). -/
def beginReplay (p : Nat) (s : State) : State :=
  ((s.modLink p fun x => { x with replaying := x.replay.map fun r => r.1, replayRun := x.replayRun + 1 }).addSat (UZ_REPLAYS p) 1).cause
    (Cause.UZ_replay p)

/-- The link at S7 entry: as it stood after a quick retrain or a speed step, with the replay that a retrain for REPLAY_LIMIT asks for; otherwise
begun anew (R145, R194, R202). -/
def linkEnter (p : Nat) (s : State) : State :=
  let x := s.port p
  if !x.keepLink then linkInit p s
  else
    let s1 := s.modLink p fun y => { y with replayRun := 0 }
    if x.qrCause = Fall.replayLimit ∧ (s.link p).replay ≠ [] then beginReplay p s1 else s1

/-- Flits enter service: S7 (R112, R128, R129, R147, R149, R158, R194, R202). -/
def enterS7 (p : Nat) (s : State) : State :=
  let x := s.port p
  let s1 := (setStage p 7 s).cause (Cause.PORT_up p)
  let s2 := forEach (lanesOf p) (fun l s =>
    saveCoeffs l (s.modLane l fun y => { y with snrAtS7 := s.get (LANE_EYE_V1_snr l), atLimit := [] })) s1
  let s3 := linkEnter p s2
  let s4 := match x.attempt with
    | some t0 => s3.setReg (PORT_BRINGUP_TIME p) (BitVec.ofNat 32 (min 0xFFFFFFFF ((s.ticks - t0) * 80 / 1000)))
    | none => s3
  let negotiated := (x.ownSel.map fun y => y.gen).getD 0
  let s5 := (((s4.put (PORT_STATUS_stored_path p) (if x.path = .stored then 1 else 0)).putFlag (PORT_STATUS_stepped_down p)
    (decide (s.get (PORT_STATUS_gen p) < negotiated))).put (PORT_CTRL_retrain p) 0)
  let s6 := match x.stepping with
    | some st =>
      if st.host then
        (((s5.put (PORT_NEG_step_outcome p) 1).put (PORT_CTRL_step_go p) 0).cause (Cause.PORT_step_result p))
      else s5
    | none => s5
  (endAttemptCap p s6 |>.modPort p fun y => { y with
    attempt := none, aim := none, failures := 0, fresh := false, path := .full, qrWaiting := false, qrCause := 0, stepping := none,
    keepLink := false, degradedRun := 0, degradeEnd := if x.qrCause = Fall.degrade ∧ x.stepping = none then some s.ticks else y.degradeEnd,
    winHist := 0, winUncorr := 0, winInner := 0, winBlocks := 0, winIters := 0, uncorrRun := 0, pairHalf := none }).modFab p fun y =>
      { y with s7Tick := s.ticks, s7In := s.ticks, beaconSeen := false }

/-! ### Quick retrain (R144, R145, R159) -/

/-- A step that the host asked for is given up: REFUSED when it had not begun (R149, R160). -/
def stepDropped (p : Nat) (s : State) : State :=
  if (s.port p).stepping.any fun x => x.host then
    ((s.put (PORT_NEG_step_outcome p) 2).put (PORT_CTRL_step_go p) 0).cause (Cause.PORT_step_result p)
  else s

/-- A port leaves S7 for a quick retrain: the course it now takes.  A target reserved for a step is given back (R120, R145). -/
def retrainCourse (p cause : Nat) (waiting : Bool) (s : State) : State :=
  let s1 := (stepDropped p (dropAsk p (departS7 p cause s))).modPort p fun x => { x with
    qrWaiting := waiting, qrCause := cause, keepLink := true, path := .quick, stepping := none, stepDue := none }
  (setTarget p (s.get (PORT_STATUS_gen p)) (s.get (PORT_STATUS_reach p)) s1).cause (Cause.PORT_quick_retrain p)

/-- A quick retrain begins: the port leaves S7, asks the peer and enters S5 (R145).  In S6 the trigger is kept for the crossing (R160). -/
def startRetrain (p cause : Nat) (s : State) : State :=
  if s.stage p = 6 then s.modPort p fun x => { x with trigger := x.trigger.orElse fun _ => some cause }
  else if s.stage p ≠ 7 then s
  else enterS5 p (towEnqueue p [0x04, BitVec.ofNat 8 cause] (retrainCourse p cause true s))

/-- Both sides reload their receive coefficients (R145). -/
def retrainAgreed (p : Nat) (s : State) : State :=
  forEach (lanesOf p) (fun l s => reloadCoeffs l s) (s.modPort p fun x => { x with qrWaiting := false })

/-- A quick retrain fails (R145). -/
def retrainFailed (p : Nat) (s : State) : State :=
  ((portOnlyReset p s).modPort p fun x => { x with fresh := true }).cause (Cause.PORT_retrain_failed p)

/-- A retrain that the peer asked for.  A QR_REQ with HOST_REQUEST also makes this side hold: PORT_STATUS.hold is set, R95 and R114 apply and the
stage maxima do not run, while the device's PRBS31Q goes on until the host takes over (R145, R159; log entry 20). -/
def peerRetrain (p : Nat) (hold : Bool) (s : State) : State :=
  let s1 := enterS5 p (retrainAgreed p (retrainCourse p Fall.peerRequest false s))
  if hold && !s1.flag (PORT_STATUS_hold p) then forEach (lanesOf p) (fun l s => applyLaneCtrl l s) (s1.put (PORT_STATUS_hold p) 1) else s1

/-- The hold of S5 ends in a quick retrain from its beginning. -/
def holdEnds (p : Nat) (waiting : Bool) (cause : Nat) (s : State) : State :=
  let s1 := s.modPort p fun x => { x with qrWaiting := waiting, qrCause := cause, path := .quick }
  forEach (lanesOf p) (fun l s => devicePrbs l true s) (setStage p 5 (s1.cause (Cause.PORT_quick_retrain p)))

/-- A QR_REQ from the peer: answered by QR_ACK; in S7 a trigger, during a retrain the acknowledgement, in a hold that the peer began its end (R144,
R145, R159). -/
def qrReqArrives (p : Nat) (m : List Byte) (s : State) : State :=
  if !isMessage m 0x04 2 || s.stage p < 2 then s
  else
    let s1 := towEnqueue p [0x05] s
    let hold := (m.getD 1 0).toNat == Fall.hostRequest
    if s.stage p = 7 then peerRetrain p hold s1
    else if s.stage p = 6 then startRetrain p Fall.peerRequest s1
    else if (s.port p).qrWaiting then retrainAgreed p s1
    else if s.flag (PORT_STATUS_hold p) && !s.flag (PORT_CTRL_test_hold p) then retrainAgreed p (holdEnds p false Fall.peerRequest s1)
    else s1

/-- A trigger of the crossing in which S6 ends acts after S7 was entered (R160). -/
def keptTrigger (p : Nat) (s : State) : State :=
  match (s.port p).trigger with
  | some c =>
    let s1 := s.modPort p fun x => { x with trigger := none }
    if c = Fall.peerRequest then peerRetrain p false s1 else startRetrain p c s1
  | none => s

/-- S6 ends with flit lock after the transmitter has switched (R128, R142, R143, R160). -/
def tryS7 (p : Nat) (s : State) : State :=
  if s.stage p = 6 && s.flag (PORT_FEC_STATUS_flit_lock p) && (s.port p).txSwitched then keptTrigger p (enterS7 p s) else s

/-- LOS asserted or the CDR lost in S7 starts a quick retrain (R106, R107, R144). -/
def losTrigger (l amp : Nat) (s : State) : State :=
  let s1 := losAsserted l amp s
  if s1.flag (LANE_RX_LEVEL_los l) && !s.flag (LANE_RX_LEVEL_los l) then startRetrain (portOf l) Fall.los s1 else s1
def cdrTrigger (l : Nat) (s : State) : State :=
  if s.flag (LANE_CDR_STATUS_lock l) then startRetrain (portOf l) Fall.cdrUnlock (cdrUnlocked l s) else cdrUnlocked l s

def qrAckArrives (p : Nat) (m : List Byte) (s : State) : State :=
  if isMessage m 0x05 1 && (s.port p).qrWaiting then retrainAgreed p s else s

def qrTimeout (p : Nat) (s : State) : State := if (s.port p).qrWaiting then retrainFailed p s else s

/-- PORT_CTRL.test_hold set (R159). -/
def testHoldSet (p : Nat) (s : State) : State := startRetrain p Fall.hostRequest (s.put (PORT_CTRL_test_hold p) 1)

/-- PORT_CTRL.test_hold cleared: the hold ends in a quick retrain (R159). -/
def testHoldClear (p : Nat) (s : State) : State :=
  let s1 := s.put (PORT_CTRL_test_hold p) 0
  if !s.flag (PORT_STATUS_hold p) then s1
  else towEnqueue p [0x04, BitVec.ofNat 8 Fall.hostRequest] (holdEnds p true Fall.hostRequest s1)

/-! ### Failure and time limits (R129, R130, R145, R146, R149) -/

/-- A failure of S4, S5 or S6. -/
def stageFailed (p : Nat) (s : State) : State :=
  let x := s.port p
  match x.stepping with
  | some st =>
    let s1 := setTarget p st.fromGen (s.get (PORT_STATUS_target_reach p)) (s.modPort p fun y => { y with stepping := none, qrCause := 0 })
    let s2 := if st.host then
        ((s1.put (PORT_NEG_step_outcome p) 3).put (PORT_CTRL_step_go p) 0).cause (Cause.PORT_step_result p)
      else s1
    enterS4 p s2
  | none =>
    if x.path = .quick then retrainFailed p s
    else if x.path = .stored then (portFall p Fall.timeout s).modPort p fun y => { y with fresh := true }
    else if x.attempt.isNone then portFall p Fall.timeout s
    else if x.failures = 0 then enterS3 p (s.modPort p fun y => { y with failures := 1 })
    else
      let g := s.get (PORT_STATUS_target_gen p)
      let reach := s.get (PORT_STATUS_target_reach p)
      if floorGen reach < g then
        enterS3 p (setTarget p (g - 1) reach (s.modPort p fun y => { y with failures := 0, aim := some (g - 1, reach) }))
      else portFall p Fall.timeout s

/-- A stage maximum has passed (R128, R159). -/
def stageTimeout (p : Nat) (s : State) : State :=
  let x := s.port p
  if s.flag (PORT_STATUS_hold p) then s
  else match s.stage p with
    | 1 => if negotiates s p && x.attempt.isSome && !x.granted then negotiateFail p Neg.timeout s else s
    | 2 | 3 => portFall p Fall.timeout s
    | 4 | 5 | 6 => stageFailed p s
    | _ => s

/-- 150 ms after the attempt began (R129): the next attempt is capped one below this one's target; a lower cap stands. -/
def deadline (p : Nat) (s : State) : State :=
  let x := s.port p
  if x.attempt.isNone || s.stage p = 0 || s.stage p = 7 then s
  else
    let s1 := (portFall p Fall.timeout s).cause (Cause.PORT_deadline p)
    match x.aim with
    | some (g, reach) =>
      let cap := max (floorGen reach) (g - 1)
      putCaps p (s1.modPort p fun y => { y with capAttempt := if x.capAttempt = 0 then cap else min x.capAttempt cap })
    | none => s1

/-! ### Training (R136 to R140) -/

/-- The slicer SNR a lane needs, in 0.1 dB (R140). -/
def snrThreshold (s : State) (p : Nat) : Nat :=
  let reach := s.get (PORT_STATUS_target_reach p)
  if s.stage p = 2 then (if reach = 0 then 210 else 170) else match reach with | 0 => 210 | 1 => 170 | _ => 145

/-- S2 or S4 ends once every lane met its threshold and the peer signalled rx_ready for 64 frames (R128). -/
def tryTrained (p : Nat) (s : State) : State :=
  if (lanesOf p).all fun l => (s.lane l).threshold && decide (64 ≤ (s.lane l).readyRun) then
    match s.stage p with
    | 2 => enterS3 p s
    | 4 => enterS5 p s
    | _ => s
  else s

/-- A lane's SNR held for 1 ms, with the CTLE peak of the receiver's sweep and the frequency offset in 0.1 ppm, which the CDR tracks within 200 ppm
(R86, R101, R106, R140). -/
def thresholdMet (l snr peak : Nat) (offset : Int) (s : State) : State :=
  let p := portOf l
  if (s.stage p ≠ 2 && s.stage p ≠ 4) || decide (offset < -2000 ∨ 2000 < offset) then s
  else
    let s1 := (s.put (LANE_EYE_V1_snr l) (min 1023 snr)).put (LANE_CDR_STATUS_offset l) (ofSigned 16 offset)
    let s2 := if s.flag (LANE_CTLE_override l) then s1 else s1.put (LANE_CTLE_peak l) (peakIn s l peak)
    if snrThreshold s p ≤ snr then tryTrained p (s2.modLane l fun x => { x with threshold := true }) else s2

/-- Two bits of a field of requests or of tap states. -/
def pairBits (v i : Nat) : Nat := v / 4 ^ i % 4

/-- Tap i set in a FIR register word pair. -/
def firWith (i : Nat) (v : Int) (f : Word × Word) : Word × Word :=
  if i < 4 then (f.1.withBits (8 * i + 7) (8 * i) (ofSigned 8 v), f.2) else (f.1, f.2.withBits (8 * i - 25) (8 * i - 32) (ofSigned 8 v))

/-- Tap i set at the output and shown in the FIR registers (R92, R138). -/
def setFirTap (l i : Nat) (v : Int) (s : State) : State :=
  let x := s.lane l
  let live := firWith i v (x.firLive0, x.firLive1)
  let shown := firWith i v (s.reg (LANE_TX_FIR0 l), s.reg (LANE_TX_FIR1 l))
  (((s.setReg (LANE_TX_FIR0 l) shown.1).setReg (LANE_TX_FIR1 l) shown.2)).setLane l { x with firLive0 := live.1, firLive1 := live.2 }

/-- The request field of a frame acts on tap i: one step as it leaves hold, reported as updated or at limit (R138). -/
def tapRequest (l i request : Nat) (s : State) : State :=
  let x := s.lane l
  let now := pairBits request i
  let before := pairBits x.lastRequest i
  let asks (r : Nat) : Bool := r == 1 || r == 2
  let report (v : Nat) (s : State) : State :=
    s.modLane l fun x => { x with tapStatus := x.tapStatus - pairBits x.tapStatus i * 4 ^ i + v * 4 ^ i }
  if !asks now then report 0 s
  else if asks before then s
  else
    let taps := firTaps x.firLive0 x.firLive1
    let v := taps.getD i 0 + (if now = 1 then 1 else -1)
    if tapsOk (taps.set i v) then report 1 (setFirTap l i v s) else report 2 s

/-- What this side asks of tap i after a frame with the peer's status: a request stands until it is answered; then, and once the answer is taken
back, the receiver is free to ask for a step of the tap until it meets its threshold (R137, R138; log entries 2, 8). -/
def nextRequest (own status free : Nat) (met : Bool) : Nat :=
  if own = 1 ∨ own = 2 then (if status = 0 then own else 0)
  else if status = 0 && !met then free % 3 else 0

/-- The requests of a lane's receiver after a good frame (R138). -/
def formRequests (l status : Nat) (s : State) : State :=
  let x := s.lane l
  let r := (List.range 6).foldl (fun a i =>
    a + nextRequest (pairBits x.request i) (pairBits status i) (Config.freeValue (s.free + i)) x.threshold * 4 ^ i) 0
  (s.drewMany 6).setLane l { x with request := r, initAsk := false, peerStatus := status }

/-- The polarity of a received lane is found inverted: the correction is in force at once and LANE_CTRL.rx_invert shows it (R139). -/
def correctPolarity (l : Nat) (s : State) : State :=
  let v := if natBit (s.lane l).ctrlLive 3 then 0 else 1
  (s.put (LANE_CTRL_rx_invert l) v).modLane l fun x => { x with ctrlLive := x.ctrlLive % 8 + 8 * v }

/-- A training frame of a lane: control word, its CRC-16 and the polarity of its marker (R136 to R139). -/
def trainingFrame (l : Nat) (control : Word) (crc : Nat) (inverted : Bool) (s : State) : State :=
  let p := portOf l
  let st := s.stage p
  if st ≠ 2 && st ≠ 4 then s
  else
    let s1 := if inverted && st = 2 then correctPolarity l s else s
    if crc16 (numBits 32 control.toNat) ≠ crc then s1.modLane l fun x => { x with readyRun := 0 }
    else
      let request := control.bits 11 0
      let s2 := forEach (List.range 6) (fun i s => tapRequest l i request s) s1
      let s3 := if control.bits 12 12 = 1 then
          ((s2.resetReg (LANE_TX_FIR0 l)).resetReg (LANE_TX_FIR1 l)).modLane l fun x =>
            { x with firLive0 := LaneSt.reset.firLive0, firLive1 := LaneSt.reset.firLive1 }
        else s2
      let s4 := formRequests l (control.bits 27 16) (cdrLocked l s3)
      tryTrained p (s4.modLane l fun x => { x with
        lastRequest := request, readyRun := if control.bits 28 28 = 1 then x.readyRun + 1 else 0, peerStep := control.bits 29 29 == 1 })

/-- The control word the device sends on a lane (R137): readiness, the states of its taps and its requests. -/
def controlWord (s : State) (l : Nat) : Word :=
  let x := s.lane l
  BitVec.ofNat 32 ((if x.threshold && decide (64 ≤ x.readyRun) then 2 ^ 29 else 0) + (if x.threshold then 2 ^ 28 else 0) +
    x.tapStatus % 4096 * 2 ^ 16 + (if x.initAsk then 2 ^ 12 else 0) + x.request % 4096)

/-- The k-th training frame of the stage that a lane sends, as PAM4 symbols 0 to 3 for -3 to +3; its PRBS13Q goes on from frame to frame, from a
start that the spec leaves open (R136; log entry 13). -/
def sentFrame (s : State) (l k : Nat) : List Nat :=
  trainingSymbols (controlWord s l).toNat ((prbs13 (7744 * (k % 8191 + 1)) (Config.prbsStart l)).drop (7744 * (k % 8191)))

/-! ### Lock pairs (R141, R142) -/

/-- S3 or S6 ends in one direction or both. -/
def trySwitched (p : Nat) (s : State) : State :=
  let x := s.port p
  if s.stage p = 3 && x.txSwitched && x.rxSwitched then
    if s.get (PORT_STATUS_target_gen p) = 1 then enterS5 p s else enterS4 p s
  else tryS7 p s

/-- The pairs a port sends in a crossing, in eighths: 340 blocks of 257 bits times the generation's rate (R152). -/
def pairRate (gen : Nat) : Nat := match gen with | 1 => 25 | 2 => 50 | _ => 100

/-- The flag that every lane's symbol of a lock pair carries, and the countdown; not ready where the lanes differ (R141). -/
def pairFlag (symbols : List Nat) : Nat × Nat :=
  match symbols with
  | [] => (0, 0)
  | v :: t => if t.all fun w => w / 8 == v / 8 then (v / 8 % 4, v / 32 % 32) else (0, 0)

/-- The peer's lanes in the order of the own lanes: each of the eight comes once (R141). -/
def laneOrderOk (order : List Nat) : Bool := order.length == 8 && (List.range 8).all fun j => order.contains j

/-- A lock pair received, as the first message symbol that each of the eight lanes carries of it, while this side has or has not found the codeword
boundaries, with the skew measured (R141, R142).  In optical reach S6 needs inner block lock first (R156). -/
def lockPair (p : Nat) (symbols : List Nat) (own : Bool) (skew : Nat) (s : State) : State :=
  if s.stage p ≠ 3 && s.stage p ≠ 6 then s
  else
    let locked := own && (s.stage p == 3 || s.get (PORT_STATUS_reach p) != 2 || s.flag (PORT_FEC_STATUS_inner_lock p))
    let order := symbols.map fun v => v % 8
    let aligned := locked && laneOrderOk order && decide (skew ≤ 64)
    let s1 := ((s.putFlag (PORT_FEC_STATUS_rs_lock p) locked).putFlag (PORT_FEC_STATUS_lane_aligned p) aligned).put
      (PORT_FEC_STATUS_skew p) (min 255 skew)
    let fc := if aligned then pairFlag symbols else (0, 0)
    let x := s1.port p
    let run := if fc.1 = 1 ∨ fc.1 = 2 then x.lockPairs + 1 else 0
    let begins := aligned && decide (16 ≤ run) && x.countdown.isNone && !x.txSwitched
    trySwitched p ((when locked (forEach (lanesOf p) cdrLocked) s1).modPort p fun x => { x with
      lockPairs := run, countdown := if begins then some 256 else x.countdown
      laneOrder := if aligned then order else x.laneOrder
      rxSwitched := x.rxSwitched || (fc.1 == 2 && fc.2 == 0) })

/-- The lock pair the port sends: flag and countdown (R142). -/
def sentLockPair (s : State) (p : Nat) : Nat × Nat :=
  match (s.port p).countdown with
  | some n => (2, (n + 7) / 8 - 1)
  | none => (if s.flag (PORT_FEC_STATUS_lane_aligned p) then 1 else 0, 0)

/-- The symbols of that pair on the eight lanes (R141, R152). -/
def sentLockLanes (s : State) (p : Nat) : List (List Nat) :=
  let fc := sentLockPair s p
  (List.range 8).map (laneSymbols (lockCodewords fc.1 fc.2))

/-- A crossing of the own countdown: after the pair with c = 0 the transmitter switches, whether or not the peer still sends pairs (R142; log entry
14). -/
def countdownTick (p : Nat) (s : State) : State :=
  match (s.port p).countdown with
  | some n =>
    let rate := pairRate (s.get (PORT_STATUS_gen p))
    if n ≤ rate then trySwitched p (s.modPort p fun x => { x with countdown := none, txSwitched := true })
    else s.modPort p fun x => { x with countdown := some (n - rate) }
  | none => s

/-! ### PRBS verification (R143) -/

/-- The bit errors are within the bit-error ratio of R88 for the reach. -/
def errorsPass (reach errors bits : Nat) : Bool :=
  match reach with
  | 0 => decide (errors * 1000000 ≤ bits)
  | 1 => decide (errors * 100000 ≤ 24 * bits)
  | _ => decide (errors * 10000 ≤ 48 * bits)

/-- The dwell of S5 in bits compared (R143). -/
def dwellBits (x : PortSt) : Nat := if x.path = .full then 2 ^ 27 else 2 ^ 23

/-- The dwell ends with each lane's lock verdict and bit errors. -/
def prbsVerifyEnd (p : Nat) (lanes : List (Bool × Nat)) (s : State) : State :=
  if s.stage p ≠ 5 || (s.flag (PORT_STATUS_hold p) && s.flag (PORT_CTRL_test_hold p)) || (s.port p).qrWaiting then s
  else
    let reach := s.get (PORT_STATUS_reach p)
    let pass := lanes.length == 8 && lanes.all fun r => r.1 && errorsPass reach r.2 (dwellBits (s.port p))
    if pass then setStage p 6 s else stageFailed p s

/-! ### Speed steps (R147 to R150) -/

/-- Generations a step may take: common to both CAPs of the last negotiation, and in optical reach not A (R85, R149). -/
def commonGens (s : State) (p : Nat) : Nat :=
  let g := (s.port p).negGens
  if s.get (PORT_STATUS_reach p) = 2 then Nat.land g 6 else g

/-- A step the host asked for is refused (R149). -/
def stepRefused (p : Nat) (s : State) : State :=
  ((s.put (PORT_NEG_step_outcome p) 2).put (PORT_CTRL_step_go p) 0).cause (Cause.PORT_step_result p)

/-- STEP is sent and its answer awaited. -/
def sendStep (p target : Nat) (up host : Bool) (s : State) : State :=
  towEnqueue p [0x06, BitVec.ofNat 8 target, if up then 1 else 0] (s.modPort p fun x =>
    { x with stepping := some ⟨target, s.get (PORT_STATUS_gen p), up, host, false⟩ })

/-- PORT_CTRL.step_go: a step to step_gen is asked for or refused (R149). -/
def stepGo (p target : Nat) (s : State) : State :=
  let s0 := s.put (PORT_CTRL_step_go p) 1
  let gen := s.get (PORT_STATUS_gen p)
  if s.stage p ≠ 7 || target = gen || target = 0 || !natBit (commonGens s p) (target - 1) || (s.port p).stepping.isSome ||
      (s.asks.find p).isSome then stepRefused p s0
  else if target < gen then sendStep p target false true s0
  else askLedger p ⟨target, s.get (PORT_STATUS_reach p), .stepHost⟩ s0

/-- The agreed step runs: from S7 to S4 at its generation (R147, R149).  A step down is counted; a step up lifts the caps of R129 and R135. -/
def runStep (p cause target : Nat) (s : State) : State :=
  let gen := s.get (PORT_STATUS_gen p)
  let s1 := (departS7 p cause s).modPort p fun x => { x with
    keepLink := true, path := .full, qrCause := 0, stepDue := none
    stepping := x.stepping.map fun y => { y with target := target, running := true } }
  let s2 := if target < gen then s1.addField (PORT_FALL_stepdowns p) 1
    else putCaps p (s1.modPort p fun x => { x with capAttempt := 0, capRefused := 0 })
  enterS4 p (setTarget p target (s.get (PORT_STATUS_reach p)) s2)

/-- The cause that a step begun on this side records (R552). -/
def stepCause (x : StepSt) : Nat := if x.host then Fall.hostRequest else Fall.degrade

/-- stepdown is raised when this side's degrade step goes (R147). -/
def raiseStepdown (p : Nat) (x : StepSt) (s : State) : State := if x.host then s else s.cause (Cause.PORT_stepdown p)

/-- A step of this side that the peer refused: its reserved charge is given back (R149). -/
def stepLost (p : Nat) (st : StepSt) (s : State) : State :=
  let s1 := setTarget p (s.get (PORT_STATUS_gen p)) (s.get (PORT_STATUS_reach p)) (s.modPort p fun x => { x with stepping := none })
  if st.host then stepRefused p s1 else s1

/-- The peer's answer to STEP (R149). -/
def stepAckArrives (p : Nat) (m : List Byte) (s : State) : State :=
  match (s.port p).stepping with
  | none => s
  | some st =>
    if !isMessage m 0x07 2 || st.running || s.stage p ≠ 7 || (s.port p).stepDue.isSome then s
    else if (m.getD 1 0).toNat = 0 then runStep p (stepCause st) st.target (raiseStepdown p st s)
    else stepLost p st s

/-- STEP_ACK is sent; the accepted step runs once it is on the way: in S4 no frame starts (R150, R164). -/
def stepReply (p : Nat) (v : Byte) (s : State) : State := towEnqueue p [0x07, v] s
def acceptStep (p cause target : Nat) (s : State) : State :=
  stepReply p 0 (s.modPort p fun x => { x with stepDue := some (cause, target) })

/-- A peer's STEP: answered after the own ledger's decision; of two STEPs the lower target applies once (R150). -/
def stepArrives (p : Nat) (m : List Byte) (s : State) : State :=
  if !isMessage m 0x06 3 then s
  else
    let asked := (m.getD 1 0).toNat
    let gen := s.get (PORT_STATUS_gen p)
    if s.stage p ≠ 7 || asked = 0 || 3 < asked || !natBit (commonGens s p) (asked - 1) then stepReply p 1 s
    else if (s.asks.find p).isSome then stepReply p 1 s
    else match (s.port p).stepping with
      | some own => if own.running then stepReply p 0 s else acceptStep p (stepCause own) (min own.target asked) (raiseStepdown p own s)
      | none =>
        let begun := fun (s : State) => s.modPort p fun x => { x with stepping := some ⟨asked, gen, decide (gen < asked), false, true⟩ }
        if asked ≤ gen then acceptStep p Fall.peerRequest asked (begun s)
        else askLedger p ⟨asked, s.get (PORT_STATUS_reach p), .stepPeer⟩ s

/-- An accepted step runs at the first boundary at which its STEP_ACK has started. -/
def stepStarts (p : Nat) (s : State) : State :=
  match (s.port p).stepDue with
  | some (cause, target) => if s.stage p = 7 && !queued s p [0x07, 0] then runStep p cause target s else s
  | none => s

/-! ### The ledger's decisions of a crossing (R121 to R123, R127) -/

/-- A granted request takes its course (R134, R149, R150, R445). -/
def askGranted (p : Nat) (a : LedgerAsk) (s : State) : State :=
  match a.kind with
  | .entry => entryGranted p a s
  | .stepHost => sendStep p a.gen true true (setTarget p a.gen a.reach s)
  | .stepPeer =>
    acceptStep p Fall.peerRequest a.gen ((setTarget p a.gen a.reach s).modPort p fun x => { x with
      stepping := some ⟨a.gen, s.get (PORT_STATUS_gen p), true, false, true⟩ })
  | .idleExit => { s with modes := { s.modes with held := natClearBit s.modes.held p }, chargeDue := insertSorted p s.chargeDue }

/-- A refused request is recorded and takes its course (R123, R134, R149, R150, R445). -/
def askRefused (p : Nat) (a : LedgerAsk) (c : LedgerCause) (s : State) : State :=
  let s1 := ledgerRefuse p c s
  match a.kind with
  | .entry => entryRefused p a c s1
  | .stepHost => stepRefused p s1
  | .stepPeer => stepReply p 1 s1
  | .idleExit => s1

/-- One request decided. -/
def decideAsk (e : Nat × LedgerAsk) (s : State) : State :=
  match ledgerJudge s e.1 e.2.gen e.2.reach with
  | none => askGranted e.1 e.2 (ledgerGrant e.1 e.2.gen e.2.reach s)
  | some c => askRefused e.1 e.2 c s

/-- The requests of a crossing decided in ascending port order (R122). -/
def ledgerDecide (s : State) : State := forEach s.asks decideAsk { s with asks := [] }

/-! ### Codewords and inner blocks (R117, R151 to R156) -/

def histThr (s : State) (p : Nat) : Nat := max 1 (s.get (PORT_DEGRADE_hist_thr p))

/-- FEC lock is lost (R153, R156): in S7 a trigger of a quick retrain. -/
def fecLockLost (p : Nat) (s : State) : State :=
  startRetrain p Fall.fecLockLost ((s.put (PORT_FEC_STATUS_rs_lock p) 0).modPort p fun x => { x with uncorrRun := 0, pairHalf := none })

/-- The own lane that carries the symbols of a lane of the peer (R141, R152). -/
def carrierLane (x : PortSt) (peer : Nat) : Nat := ((x.laneOrder.zipIdx.find? fun e => e.1 == peer).map fun e => e.2).getD peer

/-- A received codeword of 544 symbols, decoded and counted: LANE_PREFEC_SYM on the lanes that carried corrected symbols in any stage, the port's
counters in S7.  While flits flow its verdict marks the flits that overlap it (R117, R151 to R153, R158). -/
def codewordDecode (p : Nat) (received : List Nat) (s : State) : State :=
  let word := (List.range 544).map fun i => received.getD i 0 % 1024
  let fixed := match rsDecode word with | some r => r.2 | none => []
  let bad := (rsDecode word).isNone
  let k := fixed.length
  let s0 := forEach fixed (fun j s => s.add48 (LANE_PREFEC_SYM_LO (8 * p + carrierLane (s.port p) (j % 8))) 1) s
  let s1 := if s.stage p ≠ 7 then s0
    else
      let s1 := s0.add48 (PORT_CW_LO p) 1
      let s2 := if bad then s1.add48 (PORT_CW_UNCORR_LO p) 1
        else
          let t := s1.addSat (PORT_HIST p k) 1
          if k = 0 then t else (t.add48 (PORT_CW_CORR_LO p) 1).add48 (PORT_SYM_CORR_LO p) k
      s2.modPort p fun x => { x with
        winHist := if !bad && decide (histThr s p ≤ k) then x.winHist + 1 else x.winHist
        winUncorr := if bad then x.winUncorr + 1 else x.winUncorr }
  let s2 := if s.stage p = 7 || (s.stage p = 6 && (s.port p).rxSwitched) then
      s1.modPort p fun x => { x with cwSeen := x.cwSeen + 1, badCw := if bad then x.badCw ++ [x.cwSeen] else x.badCw }
    else s1
  match (s2.port p).pairHalf with
  | none => s2.modPort p fun x => { x with pairHalf := some bad }
  | some first =>
    let run := if first || bad then (s2.port p).uncorrRun + 1 else 0
    let s3 := s2.modPort p fun x => { x with pairHalf := none, uncorrRun := run }
    if 3 ≤ run then fecLockLost p s3 else s3

/-- The next flit of the stream, of a number of blocks: whether an uncorrectable codeword overlaps it (R151, R153). -/
def flitMarked (x : PortSt) (blocks : Nat) : Bool :=
  x.badCw.any fun n => decide (x.blkSeen / 20 ≤ n ∧ n ≤ (x.blkSeen + blocks - 1) / 20)

/-- The flit's blocks are taken from the stream. -/
def flitTaken (p blocks : Nat) (s : State) : State :=
  s.modPort p fun x => { x with blkSeen := x.blkSeen + blocks, badCw := x.badCw.filter fun n => decide ((x.blkSeen + blocks) / 20 ≤ n) }

/-- The bits that a lane sends of a pair: in optical reach as inner codewords, cut without regard to symbols or pairs (R152, R154). -/
def innerSend (l : Nat) (bits : List Bool) (s : State) : State :=
  s.modLane l fun x =>
    let all := x.innerRest ++ bits
    if 2048 ≤ all.length then { x with innerSent := innerEncode (all.take 2048), innerRest := all.drop 2048 } else { x with innerRest := all }

/-- A flit given to the FEC sublayer: its blocks join those that wait, and forty of them make the two codewords of a pair, the first twenty codeword
A (R151, R152; log entry 11). -/
def fecSend (p : Nat) (flit : List Byte) (s : State) : State :=
  let blocks := (s.port p).txBlocks ++ flitBlocks flit
  if blocks.length < 40 then s.modPort p fun x => { x with txBlocks := blocks }
  else
    let pair := (rsEncode (blocksMessage (blocks.take 20)), rsEncode (blocksMessage ((blocks.drop 20).take 20)))
    let s1 := s.modPort p fun x => { x with txBlocks := blocks.drop 40, txPair := pair }
    if s.get (PORT_STATUS_reach p) = 2 then forEach (List.range 8) (fun j s => innerSend (8 * p + j) (laneBits pair j) s) s1 else s1

/-- The PAM4 symbols that lane j of the port sends of the last pair, or of the last inner codeword in optical reach (R152, R154). -/
def sentPam (s : State) (p j : Nat) : List Nat :=
  if s.get (PORT_STATUS_reach p) = 2 then pamSymbols (s.lane (8 * p + j)).innerSent else pamSymbols (laneBits (s.port p).txPair j)

/-- Iterations the inner decoder may run (R155). -/
def innerLimit (s : State) (p : Nat) : Nat :=
  let n := s.get (PORT_FEC_CTRL_inner_iter p)
  if n = 0 ∨ n = 7 then 6 else n

/-- All eight lanes have found their inner blocks. -/
def innerAll (s : State) (p : Nat) : Bool := (lanesOf p).all fun l => (s.lane l).innerLocked

/-- A lane's block verdict: before lock the offset search goes on after a failed block and ends with the eighth good one in a row; after it the
64th failed block in a row loses lock (R156). -/
def innerTrack (x : LaneSt) (zero : Bool) : LaneSt :=
  let good := if zero then x.innerZero + 1 else 0
  let bad := if zero then 0 else x.innerBad + 1
  let y := { x with innerZero := good, innerBad := bad }
  if x.innerLocked then (if 64 ≤ bad then { y with innerLocked := false } else y)
  else if 8 ≤ good then { y with innerLocked := true }
  else if zero then y else { y with innerOffset := (x.innerOffset + 1) % 2176 }

/-- An inner block of a lane, decoded from its 2176 reliabilities; its hard decisions go on to the outer code whatever its syndrome (R155, R156). -/
def innerBlockDecode (l : Nat) (llr : List Int) (s : State) : State :=
  let p := portOf l
  if s.get (PORT_STATUS_reach p) ≠ 2 || s.stage p < 6 then s
  else
    let r := innerDecode (s.flag (PORT_FEC_CTRL_early_stop p)) (innerLimit s p) llr
    let zero := innerZeroSyndrome r.2
    let s1 := s.add48 (PORT_INNER_BLK_LO p) 1
    let s2 := (if zero then s1 else s1.add48 (PORT_INNER_FAIL_LO p) 1)
    let s3 := if s.stage p ≠ 7 then s2
      else s2.modPort p fun x => { x with
        winInner := if zero then x.winInner else x.winInner + 1, winBlocks := x.winBlocks + 1, winIters := x.winIters + r.1 }
    let s4 := s3.modLane l fun x => { innerTrack x zero with innerBits := r.2.take 2048 }
    let had := s.flag (PORT_FEC_STATUS_inner_lock p)
    let s5 := s4.putFlag (PORT_FEC_STATUS_inner_lock p) (innerAll s4 p)
    if had && !innerAll s4 p then fecLockLost p s5 else s5

/-! ### Degrade (R147, R148, R158) -/

/-- A window of 12,500 crossings in S7 meets one of the conditions of R158. -/
def windowDegraded (s : State) (p : Nat) : Bool :=
  let x := s.port p
  decide (s.get (PORT_DEGRADE_cnt_thr p) < x.winHist) || decide (max 1 (s.get (PORT_DEGRADE_ucw_thr p)) ≤ x.winUncorr) ||
    (s.get (PORT_STATUS_reach p) == 2 && decide (4 * s.get (PORT_DEGRADE_inner_thr p) < x.winInner))

/-- The degrade action after deg_windows degraded windows in a row (R147, R148). -/
def degradeAct (p : Nat) (s : State) : State :=
  let x := s.port p
  let soon := x.degradeEnd.any fun t => decide (s.ticks ≤ t + 1250000)
  let withinSecond := x.degradeEnd.any fun t => decide (s.ticks < t + 12500000)
  let gen := s.get (PORT_STATUS_gen p)
  if x.stepping.isSome then s
  else if x.floored && withinSecond then s
  else if soon && decide (gen ≤ floorGen (s.get (PORT_STATUS_reach p))) then
    (s.modPort p fun y => { y with floored := true }).cause (Cause.PORT_degrade_floor p)
  else if soon && s.flag (PORT_DEGRADE_stepdown_en p) then sendStep p (gen - 1) false false s
  else startRetrain p Fall.degrade s

/-- The end of a window (R158). -/
def degradeWindow (p : Nat) (s : State) : State :=
  if s.stage p ≠ 7 then s
  else
    let x := s.port p
    let bad := windowDegraded s p
    let avg := if x.winBlocks = 0 then 0 else min 255 (x.winIters * 16 / x.winBlocks)
    let counts := bad && s.flag (PORT_DEGRADE_enable p)
    let run := if counts then x.degradedRun + 1 else 0
    let s1 := ((s.putFlag (PORT_STATUS_degraded p) bad).put (PORT_FEC_STATUS_iter_avg p) avg).modPort p fun y => { y with
      winHist := 0, winUncorr := 0, winInner := 0, winBlocks := 0, winIters := 0, degradedRun := run,
      floored := y.floored && bad }
    let s2 := if bad then s1.cause (Cause.PORT_degrade_warn p) else s1
    if counts && decide (max 1 (s.get (PORT_DEGRADE_deg_windows p)) ≤ run) then
      degradeAct p (s2.modPort p fun y => { y with degradedRun := 0 })
    else s2

/-! ### PLLs (R87, R128, R160) -/

/-- A PLL loses lock: the ports it clocks fall; a quadrant with neither PLL goes dark. -/
def pllUnlock (pll : Nat) (s : State) : State :=
  let s1 := s.put LANE_PLL_STATUS_lock (natClearBit (s.get LANE_PLL_STATUS_lock) pll)
  forEach ((List.range 4).map fun i => 4 * (pll / 2) + i) (fun p s =>
    let clocked := decide (2 ≤ s.stage p) && pllOf (p / 4) (s.get (PORT_STATUS_reach p)) == pll
    let s2 := if clocked then pllFall p s else s
    if anyPll s2 p then s2 else enterDark p Fall.pllUnlock s2) s1

def pllLock (pll : Nat) (s : State) : State :=
  forEach ((List.range 4).map fun i => 4 * (pll / 2) + i) (fun p s => leaveDark p s)
    (s.put LANE_PLL_STATUS_lock (natSetBit (s.get LANE_PLL_STATUS_lock) pll))

/-! ### Host writes and the boundary -/

/-- A write to a register of port p that does more than store; none leaves it to the plain rule. -/
def portWrite (p a : Nat) (v : Word) (s : State) : Option State :=
  if a = PORT_CTRL p then
    let s1 := ((s.put (PORT_CTRL_sheddable p) (v.bits 7 7)).put (PORT_CTRL_allow_stored p) (v.bits 6 6)).put
      (PORT_CTRL_step_gen p) (v.bits 5 4)
    let s2 := if v.bits 0 0 = 1 then leaveDark p ((s1.put (PORT_CTRL_enable p) 1).modPort p fun x => { x with disabling := false })
      else (s1.put (PORT_CTRL_enable p) 0).modPort p fun x => { x with disabling := decide (s.stage p ≠ 0) }
    let s3 := if v.bits 1 1 = 1 && !s.flag (PORT_CTRL_test_hold p) then testHoldSet p s2
      else if v.bits 1 1 = 0 && s.flag (PORT_CTRL_test_hold p) then testHoldClear p s2 else s2
    let s4 := if v.bits 2 2 = 1 && s3.stage p = 7 then startRetrain p Fall.hostRequest (s3.put (PORT_CTRL_retrain p) 1) else s3
    some (if v.bits 3 3 = 1 then stepGo p (v.bits 5 4) s4 else s4)
  else if a = PORT_CAP p then some (capChanged p (s.setReg a (v &&& 0x337)))
  else none

/-- What a port does at a crossing boundary: S0 after a cleared enable, the granted entry, the countdown, an accepted step; a trigger kept for a
crossing of S6 lapses (R122, R142, R150, R160). -/
def portBoundary (p : Nat) (s : State) : State :=
  let s0 := if (s.port p).trigger.isSome then s.modPort p fun x => { x with trigger := none } else s
  let s1 := if (s.port p).disabling then enterDark p Fall.hostRequest s0 else s0
  stepStarts p (countdownTick p (enterGranted p s1))

end Sys2Proof.Machine
end

