-- ==== Sys2Proof/Machine/Link.lean ====
section
/-!
DEFINITION. Machine/Link.lean: flits sent and received, replay, credits and the times of a request on a Uzoset link
(R188 to R202, R224 to R226, R231).
-/
set_option autoImplicit false

namespace Sys2Proof.Machine
open Reg Bit

/-! ### Flit layout (R189 to R192, R231) -/

/-- Bytes and transaction slots of a flit. -/
def flitBytes (v2 : Bool) : Nat := if v2 then 512 else 256
def flitSlots (v2 : Bool) : Nat := if v2 then 30 else 14

/-- The fields of slot 0. -/
structure FlitHead where
  ftype : Nat
  seq : Nat
  ack : Nat
  ackValid : Bool
  rreq : Bool
  credits : Nat × Nat × Nat
  start : Nat
  deriving DecidableEq, Repr

def packHead (h : FlitHead) : Nat :=
  h.ftype % 16 * 2 ^ 124 + h.seq % 4096 * 2 ^ 112 + h.ack % 4096 * 2 ^ 100 + boolNat h.ackValid * 2 ^ 99 + boolNat h.rreq * 2 ^ 98 +
    h.credits.1 % 65536 * 2 ^ 80 + h.credits.2.1 % 65536 * 2 ^ 64 + h.credits.2.2 % 65536 * 2 ^ 48 + h.start % 2 ^ 30 * 2 ^ 18

def unpackHead (n : Nat) : FlitHead :=
  { ftype := n / 2 ^ 124 % 16, seq := n / 2 ^ 112 % 4096, ack := n / 2 ^ 100 % 4096, ackValid := natBit n 99, rreq := natBit n 98,
    credits := (n / 2 ^ 80 % 65536, n / 2 ^ 64 % 65536, n / 2 ^ 48 % 65536), start := n / 2 ^ 18 % 2 ^ 30 }

/-- The start map of slots 1 and on: slot k has bit 17 + k of the header slot. -/
def startMap (slots : List (Bool × List Byte)) : Nat :=
  slots.zipIdx.foldl (fun m e => if e.1.1 then m + 2 ^ e.2 else m) 0

/-- A flit from its header fields, its transaction slots and wseq_done. -/
def buildFlit (v2 : Bool) (h : FlitHead) (slots : List (List Byte)) (wseqDone : Nat) : List Byte :=
  let n := flitSlots v2
  let body := bytesBE 16 (packHead h) ++ ((slots ++ List.replicate (n - slots.length) (List.replicate 16 0)).take n).flatten ++
    (if v2 then bytesBE 4 wseqDone ++ List.replicate 4 0 else List.replicate 8 0)
  body ++ bytesBE 8 (crc64 body)

/-- The CRC-64 of a received flit is right (R192). -/
def flitCrcOk (v2 : Bool) (l : List Byte) : Bool :=
  l.length == flitBytes v2 && ofBytesBE (l.drop (flitBytes v2 - 8)) == crc64 (l.take (flitBytes v2 - 8))

/-! ### Framing (R199, R213) -/

/-- A transaction being framed, the transactions complete, and whether filler was met. -/
structure Framing where
  part : List Byte
  done : List Txn
  filler : Bool
  ok : Bool
  deriving DecidableEq, Repr

/-- The transaction that the bytes of its slots spell. -/
def txnOf (bytes : List Byte) : Txn :=
  let h := unpackHeader (ofBytesBE (bytes.take 16))
  ⟨h, (bytes.drop 16).take h.len⟩

/-- The bytes of the open transaction fill all of its slots. -/
def txnWhole (bytes : List Byte) : Bool := decide (16 * slotCount (unpackHeader (ofBytesBE (bytes.take 16))).len ≤ bytes.length)

def closeTxn (f : Framing) (bytes : List Byte) : Framing :=
  if txnWhole bytes then { f with part := [], done := f.done ++ [txnOf bytes] } else { f with part := bytes }

/-- One slot with its start bit. -/
def frameSlot (f : Framing) (start : Bool) (slot : List Byte) : Framing :=
  if f.part ≠ [] then (if start then { f with ok := false } else closeTxn f (f.part ++ slot))
  else if start then (if f.filler then { f with ok := false } else closeTxn f slot)
  else if slot.all (fun b => b == 0) then { f with filler := true }
  else { f with ok := false }

/-- The slots of a DATA flit framed after what ran on from the flit before. -/
def frameFlit (v2 : Bool) (part : List Byte) (h : FlitHead) (bytes : List Byte) : Framing :=
  (List.range (flitSlots v2)).foldl (fun f k => frameSlot f (natBit h.start k) ((bytes.drop (16 * (k + 1))).take 16))
    ⟨part, [], false, true⟩

/-! ### Replay (R198, R200 to R202) -/

/-- A replay begins, or the fourth without progress becomes a quick retrain (R200, R202). -/
def startReplay (p : Nat) (s : State) : State :=
  let x := s.link p
  if x.replay.isEmpty then s
  else if 3 ≤ x.replayRun then startRetrain p Fall.replayLimit (s.cause (Cause.UZ_replay_limit p))
  else beginReplay p s

/-- A replay started in this crossing by the other of the two reasons stands for both (R232). -/
def replayedNow (s : State) (p : Nat) (timeout : Bool) : Bool := (s.link p).replayTick == some (s.ticks, !timeout)

def noteReplay (p : Nat) (timeout : Bool) (s : State) : State := s.modLink p fun x => { x with replayTick := some (s.ticks, timeout) }

/-- The flit that the running replay sends next, as the flit carrying the request found it. -/
def rreqCounts (replaying : List Nat) (ack : Nat) : Bool :=
  match replaying with
  | [] => true
  | seq :: _ => decide (1 ≤ (seq + 4096 - ack) % 4096 ∧ (seq + 4096 - ack) % 4096 ≤ 256)

/-- A replay request from the peer in a good flit: it starts a replay, or restarts the one that ran when the flit came only where its ack lies below
the flit then being replayed (R200, R201, R232). -/
def rreqArrives (p ack : Nat) (replaying : List Nat) (s : State) : State :=
  if !rreqCounts replaying ack || replayedNow s p false then s else startReplay p (noteReplay p false s)

/-- This side asks for a replay, unless a request is outstanding (R198). -/
def askReplay (p : Nat) (s : State) : State := s.modLink p fun x => { x with rreqNext := x.rreqNext || !x.rreqOut }

/-- A cumulative acknowledgement: the flits it covers leave the replay buffer, and any advance clears the replay count. -/
def ackArrives (p ack : Nat) (s : State) : State :=
  let x := s.link p
  if x.replay.any fun r => r.1 == ack then
    let rest := (x.replay.dropWhile fun r => r.1 != ack).drop 1
    s.modLink p fun x => { x with
      replay := rest, replaying := x.replaying.filter fun q => rest.any fun r => r.1 == q, replayRun := 0 }
  else s

/-! ### Receiving (R193 to R197, R206) -/

/-- A DATA flit with the expected seq is delivered. -/
def deliverFlit (p : Nat) (f : Framing) (s : State) : State :=
  (s.modLink p fun x => { x with
    expected := (x.expected + 1) % 4096, delivered := true, rreqOut := false, rxPartial := f.part,
    inbox := x.inbox ++ f.done }).add48 (UZ_FLITS_RX_LO p) 1

/-- A flit in S6 counts towards flit lock (R143). -/
def flitInS6 (p : Nat) (good : Bool) (s : State) : State :=
  let run := if good then (s.port p).flitRun + 1 else 0
  let s1 := s.modPort p fun x => { x with flitRun := run }
  if 16 ≤ run then tryS7 p (s1.put (PORT_FEC_STATUS_flit_lock p) 1) else s1

/-- A received flit, as the FEC sublayer hands it on: marked bad where an uncorrectable codeword overlaps it (R153), and with the verdict on its
flit-start bits. -/
def flitReceived (p : Nat) (bytes : List Byte) (startOk : Bool) (s0 : State) : State :=
  let v2 := isV2 s0 p
  let blocks := if v2 then 16 else 8
  let fecBad := flitMarked (s0.port p) blocks
  let s := if s0.stage p = 7 || (s0.stage p = 6 && (s0.port p).rxSwitched) then flitTaken p blocks s0 else s0
  if s.stage p = 6 then flitInS6 p (startOk && !fecBad && flitCrcOk v2 bytes) s
  else if s.stage p ≠ 7 then s
  else
    let x := s.link p
    let h := unpackHead (ofBytesBE (bytes.take 16))
    let f := frameFlit v2 x.rxPartial h bytes
    let data := h.ftype == 1
    let bad := fecBad || !flitCrcOk v2 bytes || !(h.ftype == 1 || h.ftype == 2) || (h.ftype == 2 && h.start != 0) ||
      (data && h.seq == x.expected && !f.ok)
    if bad then askReplay p ((s.addSat (UZ_BAD_FLITS p) 1).cause (Cause.UZ_bad_flit p))
    else
      let s1 := if h.ackValid then ackArrives p h.ack s else s
      let s2 := s1.modLink p fun x => { x with granted := h.credits }
      let s3 := if h.rreq then rreqArrives p h.ack x.replaying s2 else s2
      let late := (x.expected + 4096 - h.seq) % 4096
      if h.seq = x.expected then (if data then deliverFlit p f s3 else s3)
      else if data && decide (1 ≤ late ∧ late ≤ 256) then s3
      else askReplay p s3

/-! ### Sending (R190, R191, R194, R195, R197, R201) -/

/-- Slot 0 with the current acknowledgement, replay request and credits. -/
def currentHead (x : LinkSt) (ftype seq start : Nat) : FlitHead :=
  { ftype := ftype, seq := seq, ack := (x.expected + 4095) % 4096, ackValid := x.delivered, rreq := x.rreqNext, credits := x.given,
    start := start }

/-- A flit sent: rreq goes with it, and the flit is what the port last sent. -/
def emitFlit (p : Nat) (bytes : List Byte) (s : State) : State :=
  fecSend p bytes (s.modLink p fun x => { x with lastFlit := bytes, rreqOut := x.rreqOut || x.rreqNext, rreqNext := false })

/-- The next flit of a port: a replayed one, a new DATA flit, or IDLE.  In S6, once the sender has switched from lock pairs to flits, it has nothing
to send but IDLE flits (R142, R143, R190). -/
def flitSend (p : Nat) (s : State) : State :=
  if s.stage p = 6 && (s.port p).txSwitched then
    fecSend p (buildFlit (isV2 s p) (currentHead (s.link p) 2 (s.link p).txSeq 0) [] (wseqReached (s.link p))) s
  else if s.stage p ≠ 7 then s
  else
    let v2 := isV2 s p
    let x := s.link p
    let idle : List Byte := buildFlit v2 (currentHead x 2 x.txSeq 0) [] (wseqReached x)
    match x.replaying with
    | seq :: rest =>
      match x.replay.find? fun r => r.1 == seq with
      | none => s.modLink p fun x => { x with replaying := rest }
      | some r =>
        let old := unpackHead (ofBytesBE (r.2.take 16))
        let slots := chunk16 (flitSlots v2) (r.2.drop 16)
        emitFlit p (buildFlit v2 (currentHead x 1 seq old.start) slots (wseqReached x)) (s.modLink p fun x => { x with replaying := rest })
    | [] =>
      if x.txSlots.isEmpty || decide (256 ≤ x.replay.length) then emitFlit p idle s
      else
        let slots := x.txSlots.take (flitSlots v2)
        let bytes := buildFlit v2 (currentHead x 1 x.txSeq (startMap slots)) (slots.map fun e => e.2) (wseqReached x)
        (emitFlit p bytes (s.modLink p fun y => { y with
          txSlots := x.txSlots.drop (flitSlots v2), txSeq := (x.txSeq + 1) % 4096, replay := x.replay ++ [(x.txSeq, bytes)] })).add48
          (UZ_FLITS_TX_LO p) 1

/-- The oldest unacknowledged flit has waited 1.0 µs without progress (R200). -/
def ackTimeout (p : Nat) (s : State) : State :=
  if s.stage p = 7 && (s.link p).replaying.isEmpty && !replayedNow s p true then startReplay p (noteReplay p true s) else s

/-- 1.0 µs after a replay request without delivery (R198). -/
def rreqRepeat (p : Nat) (s : State) : State :=
  if s.stage p = 7 && (s.link p).rreqOut then s.modLink p fun x => { x with rreqNext := true } else s

/-! ### Times of a request (R224 to R226, R231, R550) -/

/-- The DELAY of a request (R224). -/
def delayTxn (s : State) (p : Nat) (e : Entry) : Txn := ⟨responseHeader s p e.txn.hdr 0x22 0 (e.delays + 1), []⟩

/-- One more DELAY counted for a request. -/
def bumpDelay (uid : Nat) (l : List Entry) : List Entry :=
  l.map fun e => if e.uid = uid then { e with delays := e.delays + 1 } else e

/-- 2 µs without an answer for a request of the port: a DELAY, or NAK ABANDONED for one that has not begun after 1024
(R224, R225, R231).  The time does not run outside S7, nor while the answer or the DELAY lacks credits (R226, R550). -/
def delayTimer (p src tag : Nat) (s : State) : State :=
  let x := s.link p
  match (x.vc0 ++ x.table).find? fun e => e.key == (src, tag) && e.record.isNone with
  | none => s
  | some e =>
    let counted := s.modLink p fun x => { x with vc0 := bumpDelay e.uid x.vc0, table := bumpDelay e.uid x.table }
    if s.stage p ≠ 7 || x.responses.any (fun o => o.frees == some (p, e.uid)) then s
    else if !e.begun && decide (1024 ≤ e.delays) then
      let waits := x.vc0.any fun w => w.uid == e.uid
      answerNak p e Nak.abandoned 0 (s.modLink p fun x => { x with
        vc0 := x.vc0.filter fun w => w.uid != e.uid,
        freed := if waits then vcAdd x.freed 0 (slotCount e.txn.hdr.len) else x.freed })
    else if isV2 s p then
      (if e.dead || decide (1024 ≤ e.delays) || creditsHeld x 1 = 0 then s else queueResponse p ⟨delayTxn s p e, some (p, e.uid), none, true⟩ counted)
    else if 1024 ≤ e.delays then s else counted

end Sys2Proof.Machine
end

