-- ==== Sys2Proof/Machine/Fabric.lean ====
section
/-!
DEFINITION. Machine/Fabric.lean: node identity, neighbours, forwarding of requests and responses, failover and restore (R390 to
R411).
-/
set_option autoImplicit false

namespace Sys2Proof.Machine
open Reg Bit

/-! ### Live sets (R395) -/

/-- FAB_RT_LIVE_n. -/
def liveWord (s : State) (n : Nat) : Word :=
  let l := liveSet s n
  BitVec.ofNat 32 (l.2 * 2 ^ 16 + l.1.foldl (fun m p => m + 2 ^ p) 0)

/-- Why a port is not usable, as FAB_NBR.reason encodes it; of several reasons the first in this order (log entry 39). -/
def unusableReason (s : State) (p : Nat) : Nat :=
  let x := s.fabPort p
  if portUsable s p then 0
  else if !s.flag (FAB_PORT_CTRL_fwd p) then 7
  else if x.conflict then 4
  else if s.stage p ≠ 7 then 1
  else if x.due || x.missed || x.barred then x.reason
  else 6

/-! ### Outstanding caps (R322) -/

/-- The outstanding requests of a class that arrived on a port, other than one. -/
def outstanding (s : State) (p c uid : Nat) : Nat :=
  ((s.link p).table.filter fun e => e.txn.hdr.fc == c && !e.refused && e.uid != uid && !(e.txn.hdr.posted && e.done && e.record.isNone)).length

def capOf (s : State) (c : Nat) : Nat := let v := s.get (TT_FC_CFG_cap c); if v = 0 ∨ 512 < v then 512 else v

def capFull (s : State) (p c uid : Nat) : Bool := decide (capOf s c ≤ outstanding s p c uid)

/-! ### Requests (R394, R397, R401) -/

/-- NAK NO_ROUTE, counted (R394). -/
def noRoute (p : Nat) (e : Entry) (s : State) : State :=
  answerNak p e Nak.noRoute 0 ((s.addSat FAB_NOROUTE 1).cause Cause.FAB_no_route)

/-- A request for another node that stands in the table of its arrival port. -/
def forwardRequest (p : Nat) (e : Entry) (s : State) : State :=
  let h := e.txn.hdr
  if !s.flag FAB_CTRL_fwd_en || !s.flag (FAB_PORT_CTRL_fwd p) then noRoute p e s
  else match routeOf s h with
    | none => noRoute p e s
    | some q =>
      let line := s.flag (FAB_PORT_CTRL_dateline q)
      if line && h.vn then answerNak p e Nak.noRoute 0 ((s.addSat FAB_DATELINE2 1).cause Cause.FAB_dateline_twice)
      else if capFull s p h.fc e.uid then answerNak p e Nak.capExceeded 0 s
      else
        let t : Txn := { e.txn with hdr := { h with vn := h.vn || line } }
        let s1 := modEntry p e.uid (fun x => { x with begun := true, record := some ⟨q, none⟩ }) s
        s1.modLink q fun x => { x with forwards := x.forwards ++ [⟨t, some (p, e.uid), if h.posted then some (p, e.uid) else none, false⟩] }

/-! ### Responses (R398, R551) -/

/-- The record that a response on a port matches: arrival port and entry. -/
def recordOf (s : State) (p dst tag : Nat) : Option (Nat × Entry) :=
  (List.range 16).findSome? fun q =>
    ((s.link q).table.find? fun e => e.key == (dst, tag) && e.record.any fun r => r.out == p).map fun e => (q, e)

/-- A received transaction that leads nowhere. -/
def unexpected (p : Nat) (s : State) : State := s.addSat (UZ_UNEXPECTED p) 1

/-- A CPL, NAK or DELAY received on a port: discarded, or forwarded by its record or the table. -/
def responseArrives (p : Nat) (t : Txn) (s : State) : State :=
  if t.hdr.dst = liveNode s || !s.flag FAB_CTRL_fwd_en || !s.flag (FAB_PORT_CTRL_fwd p) then unexpected p s
  else match recordOf s p t.hdr.dst t.hdr.tag with
    | none => routeResponse t s
    | some (q, e) =>
      let s1 := if t.hdr.opcode = 0x22 then s else freeEntry q e.uid s
      if linkUp s q || (rerouteTarget s q).isSome then queueResponse q ⟨{ t with hdr := { t.hdr with vn := e.txn.hdr.vn } }, some (q, e.uid), none, false⟩ s1
      else routeResponse t s1

/-- A record whose output port spent 2.2 ms (27,500 crossings) in S7 since the request was sent (R399). -/
def recordExpiry (p src tag : Nat) (s : State) : State :=
  match (s.link p).table.find? fun e => e.key == (src, tag) && e.record.isSome with
  | none => s
  | some e =>
    match e.record with
    | some ⟨out, some t⟩ =>
      if s.stage out = 7 && decide (t + 27500 ≤ s7Time s out) then
        ((freeEntry p e.uid s).addSat FAB_REC_EXPIRED 1).cause Cause.FAB_rec_expired
      else s
    | _ => s

/-! ### Failover and restore (R407 to R409) -/

/-- A forwarded request that waits for a fallen port is hashed again (R408). -/
def rehash (o : Outgoing) (s : State) : State :=
  match o.request with
  | none => s
  | some (q, uid) =>
    match (s.link q).table.find? fun e => e.uid == uid with
    | none => s
    | some e => forwardRequest q { e with record := none } (modEntry q uid (fun x => { x with record := none }) s)

/-- The failover of a port whose trigger stands. -/
def failover (p : Nat) (s : State) : State :=
  if !(s.fabPort p).due then s
  else
    let s1 := s.modFab p fun x => { x with due := false, marked := true }
    let waiting := (s1.link p).forwards
    let s2 := s1.modLink p fun x => { x with forwards := [] }
    ((forEach waiting rehash s2).addSat FAB_FAILOVERS 1).cause Cause.FAB_failover

/-- No beacon for beacon_miss intervals of the peer since one arrived in S7. -/
def beaconMiss (p : Nat) (s : State) : State :=
  if s.stage p = 7 && (s.fabPort p).beaconSeen then
    s.modFab p fun x => { x with due := x.due || !x.marked, missed := true, reason := 2 }
  else s

/-- The conditions of R409 hold. -/
def mayRestore (s : State) (p : Nat) : Bool :=
  let x := s.fabPort p
  x.marked && s.stage p == 7 && decide (x.s7Tick + 12500 * max 1 (s.get FAB_CTRL_holddown) ≤ s.ticks) && x.beaconSeen &&
    !x.due && !x.missed && !x.barred && !x.conflict && (s.flag FAB_CTRL_auto_restore || s.flag (FAB_PORT_CTRL_restore p))

/-- A marked port becomes usable again. -/
def restore (p : Nat) (s : State) : State :=
  if mayRestore s p then ((s.modFab p fun x => { x with marked := false }).put (FAB_PORT_CTRL_restore p) 0).cause Cause.FAB_restore else s

/-- A write of restore to a port without a mark leaves it clear. -/
def restoreWrite (p : Nat) (s : State) : State := if (s.fabPort p).marked then s.put (FAB_PORT_CTRL_restore p) 1 else s

/-! ### Neighbours (R391, R392) -/

/-- A node ID in a beacon: the own one marks the port, another ends its mark (R391). -/
def nodeSeen (p node : Nat) (valid : Bool) (s : State) : State :=
  if valid && node != liveNode s then (if (s.fabPort p).conflict then s.modFab p fun x => { x with conflict := false } else s)
  else nodeConflict p node valid s

/-- A beacon received on a port (R182, R392). -/
def beaconArrives (p : Nat) (payload : List Byte) (s : State) : State :=
  if payload.length ≠ 8 ∨ (payload.headD 0).toNat ≠ 0x10 then s else
  let b := fun i => (payload.getD i 0).toNat
  let node := b 1 % 64
  let valid := b 1 / 128 == 1
  let peer := b 2 % 16
  let seq := b 4 * 256 + b 5
  let epoch := b 6 * 256 + b 7
  let known := s.flag (FAB_NBR_valid p)
  let changed := known && (s.get (FAB_NBR_node p) != node || s.flag (FAB_NBR_node_valid p) != valid || s.get (FAB_NBR_peer_port p) != peer)
  let bar := natBit (b 3) 5 || !natBit (b 3) 3
  let s1 := ((((s.put (PORT_TOW_BCN0_valid p) 1).put (PORT_TOW_BCN0_state p) (b 3)).put (PORT_TOW_BCN0_port p) peer).putFlag
    (PORT_TOW_BCN0_node_valid p) valid).put (PORT_TOW_BCN0_node p) node
  let s2 := (s1.put (PORT_TOW_BCN1_seq p) seq).put (PORT_TOW_BCN1_epoch p) epoch
  let s3 := ((((s2.put (FAB_NBR_valid p) 1).put (FAB_NBR_state p) (b 3)).put (FAB_NBR_peer_port p) peer).putFlag (FAB_NBR_node_valid p) valid).put
    (FAB_NBR_node p) node
  let s4 := s3.put (FAB_NBR_AGE_epoch p) epoch
  let s5 := s4.modFab p fun x => { x with
    beaconSeen := s.stage p == 7, missed := false, barred := bar, beaconTick := some s.ticks
    due := x.due || changed || (bar && !x.marked && s.stage p == 7)
    reason := if changed then 5 else if bar then 3 else x.reason
    s7Tick := if changed then s.ticks else x.s7Tick }
  let s6 := if changed then s5.cause Cause.FAB_nbr_change else s5
  let own := s6.get FAB_EPOCH_epoch
  let s7 := if epoch ≠ own ∧ (s6.fabPort p).epochs ≠ some (own, epoch) then
      (s6.modFab p fun x => { x with epochs := some (own, epoch) }).cause Cause.FAB_epoch_mismatch
    else s6
  nodeSeen p node valid s7

/-- The own node ID changed at a commit: marks of R391 end. -/
def nodeChanged (s : State) : State := forEach (List.range 16) (fun p s => s.modFab p fun x => { x with conflict := false }) s

/-! ### Registers computed on a read -/

/-- FAB_NBR_p. -/
def nbrWord (s : State) (p : Nat) : Word :=
  ((s.reg (FAB_NBR p)).withBits 30 30 (boolNat (portUsable s p))).withBits 29 27 (unusableReason s p)

/-- FAB_NBR_AGE_p. -/
def ageWord (s : State) (p : Nat) : Word :=
  (s.reg (FAB_NBR_AGE p)).withBits 15 0 (match (s.fabPort p).beaconTick with | some t => min 0xFFFF ((s.ticks - t) / 12500) | none => 0xFFFF)

/-- FAB_STATUS. -/
def fabStatus (s : State) : Word :=
  BitVec.ofNat 32 (boolNat ((List.range 16).any fun p => (s.fabPort p).due) * 2 ^ 31 +
    (List.range 16).foldl (fun m p => if portUsable s p then m + 2 ^ p else m) 0)

/-- FAB_REC. -/
def recCount (s : State) : Word :=
  BitVec.ofNat 32 ((List.range 16).foldl (fun n p => n + ((s.link p).table.filter fun e => e.record.isSome && !e.txn.hdr.posted).length) 0)

end Sys2Proof.Machine
end

