-- ==== Sys2Proof/Machine/Atomics.lean ====
section
/-!
DEFINITION. Machine/Atomics.lean: what the ALU of a landing slice does to a line: counters, words and meters (R263 to R270).
-/
set_option autoImplicit false

namespace Sys2Proof.Machine

/-- What an operation of the ALU leaves: the line, whether it changed, its status, its result bits and its response bytes. -/
structure AluOut where
  line : List Byte
  changed : Bool
  status : Nat
  result : Nat
  data : List Byte
  deriving DecidableEq, Repr

/-- Bytes o to o + n − 1 of a line as a number, most significant first (R188). -/
def lineNum (l : List Byte) (o n : Nat) : Nat := ofBytesBE ((l.drop o).take n)

/-- A line with a number stored over n bytes from o on. -/
def lineSet (l : List Byte) (o n v : Nat) : List Byte := l.take o ++ bytesBE n v ++ l.drop (o + n)

/-- One counter added to: the new value and whether it wrapped or saturated (R263). -/
def countAdd (sat : Bool) (a b : Nat) : Nat × Bool :=
  if a + b < 2 ^ 64 then (a + b, false) else (if sat then 2 ^ 64 - 1 else a + b - 2 ^ 64, true)

/-- CNT_ADD at offset o (R263). -/
def aluCntAdd (l : List Byte) (o aux : Nat) (operand : List Byte) : AluOut :=
  let sat := natBit aux 0
  let p := countAdd sat (lineNum l o 8) (ofBytesBE (operand.take 8))
  let b := countAdd sat (lineNum l (o + 8) 8) (ofBytesBE ((operand.drop 8).take 8))
  { line := lineSet (lineSet l o 8 p.1) (o + 8) 8 b.1, changed := true, status := 0, result := boolNat p.2 + 2 * boolNat b.2, data := [] }

/-- CNT_RDCLR at offset o (R264). -/
def aluCntRdclr (l : List Byte) (o : Nat) : AluOut :=
  { line := lineSet l o 16 0, changed := true, status := 0, result := 0, data := (l.drop o).take 16 }

/-- The signed addition of FADD: new value and whether it wrapped or saturated (R265). -/
def signedAdd (w : Nat) (sat : Bool) (a b : Int) : Int × Bool :=
  let t := a + b
  let top : Int := 2 ^ (w - 1)
  if -top ≤ t ∧ t < top then (t, false)
  else if sat then (if t < 0 then -top else top - 1, true)
  else (toSigned w (ofSigned w t), true)

/-- Width in bytes and the place of the operand in its 8 bytes (R265, R266). -/
def wordBytes (aux : Nat) : Nat := if natBit aux 0 then 4 else 8

/-- The operand value for a width, from 8 operand bytes. -/
def wordOperand (n : Nat) (b : List Byte) : Nat := ofBytesBE ((b.drop (8 - n)).take n)

/-- FADD at offset o (R265). -/
def aluFadd (l : List Byte) (o aux : Nat) (operand : List Byte) : AluOut :=
  let n := wordBytes aux
  let old := toSigned (8 * n) (lineNum l o n)
  let r := signedAdd (8 * n) (natBit aux 1) old (toSigned (8 * n) (wordOperand n (operand.take 8)))
  { line := lineSet l o n (ofSigned (8 * n) r.1), changed := true, status := 0, result := boolNat r.2,
    data := bytesBE 8 (ofSigned 64 old) ++ bytesBE 8 (ofSigned 64 r.1) }

/-- Status CAS_FAIL (R275). -/
def Status.casFail : Nat := 0x0C

/-- CAS at offset o (R266). -/
def aluCas (l : List Byte) (o aux : Nat) (operand : List Byte) : AluOut :=
  let n := wordBytes aux
  let old := lineNum l o n
  let same := old == wordOperand n (operand.take 8)
  { line := if same then lineSet l o n (wordOperand n ((operand.drop 8).take 8)) else l, changed := same,
    status := if same then 0 else Status.casFail, result := 0,
    data := bytesBE 8 (ofSigned 64 (toSigned (8 * n) old)) ++ List.replicate 8 0 }

/-! ### Meters (R268 to R270) -/

/-- A meter's fields (R268). -/
structure Meter where
  cir : Nat
  eir : Nat
  cbs : Nat
  ebs : Nat
  tc : Nat
  te : Nat
  mode : Nat
  stamp : Nat
  deriving DecidableEq, Repr

def readMeter (l : List Byte) (o : Nat) : Meter :=
  { cir := lineNum l o 4, eir := lineNum l (o + 4) 4, cbs := lineNum l (o + 8) 4, ebs := lineNum l (o + 12) 4,
    tc := lineNum l (o + 16) 6, te := lineNum l (o + 22) 6, mode := lineNum l (o + 28) 4 / 2 ^ 30, stamp := lineNum l (o + 28) 4 % 2 ^ 30 }

def writeMeter (l : List Byte) (o : Nat) (m : Meter) : List Byte :=
  lineSet (lineSet (lineSet l (o + 16) 6 m.tc) (o + 22) 6 m.te) (o + 28) 4 (m.mode * 2 ^ 30 + m.stamp)

/-- A meter brought up to date at a crossing modulo 2^30 (R269). -/
def refreshMeter (m : Meter) (now : Nat) : Meter :=
  let delta := (now + 2 ^ 30 - m.stamp) % 2 ^ 30
  if m.mode = 0 then
    let add := m.cir * delta
    if m.tc + add ≤ m.cbs * 2 ^ 16 then { m with tc := m.tc + add, stamp := now }
    else { m with tc := m.cbs * 2 ^ 16, te := min (m.te + (m.tc + add - m.cbs * 2 ^ 16)) (m.ebs * 2 ^ 16), stamp := now }
  else if m.mode = 1 then
    { m with tc := min (m.tc + m.cir * delta) (m.cbs * 2 ^ 16), te := min (m.te + m.eir * delta) (m.ebs * 2 ^ 16), stamp := now }
  else m

/-- The colour of a packet of b units and the meter after it: 0 green, 1 yellow, 2 red (R270).  Pre-colour 3 is colour-blind. -/
def colour (m : Meter) (pre b : Nat) : Nat × Meter :=
  let pre := if pre = 3 then 0 else pre
  if m.mode = 0 then
    if pre = 0 ∧ b ≤ m.tc then (0, { m with tc := m.tc - b })
    else if pre ≤ 1 ∧ b ≤ m.te then (1, { m with te := m.te - b })
    else (2, m)
  else if m.mode = 1 then
    if pre = 2 ∨ m.te < b then (2, m)
    else if pre = 1 ∨ m.tc < b then (1, { m with te := m.te - b })
    else (0, { m with te := m.te - b, tc := m.tc - b })
  else (pre, m)

/-- METER at offset o; length 0 only refreshes and is green (R269, R270). -/
def aluMeter (l : List Byte) (o aux now : Nat) : AluOut :=
  let m := readMeter l o
  if 2 ≤ m.mode then
    { line := l, changed := false, status := 0, result := (if aux / 2 ^ 16 % 4 = 3 then 0 else aux / 2 ^ 16 % 4), data := [] }
  else
    let m1 := refreshMeter m now
    let b := aux % 2 ^ 16 * 2 ^ 16
    let r := if b = 0 then (0, m1) else colour m1 (aux / 2 ^ 16 % 4) b
    { line := writeMeter l o r.2, changed := true, status := 0, result := r.1, data := [] }

/-- The operation of a request on its line (R263 to R270). -/
def aluRun (h : Header) (operand : List Byte) (l : List Byte) (now : Nat) : AluOut :=
  let o := h.addr % 64
  match h.opcode with
  | 0x10 => aluCntAdd l o h.aux operand
  | 0x11 => aluCntRdclr l o
  | 0x12 => aluFadd l o h.aux operand
  | 0x13 => aluCas l o h.aux operand
  | _ => aluMeter l o h.aux now

/-- The alignment of a counter, word or meter (R263, R265, R266, R268). -/
def aluAligned (h : Header) : Bool :=
  match h.opcode with
  | 0x10 | 0x11 => h.addr % 16 == 0
  | 0x12 | 0x13 => h.addr % wordBytes h.aux == 0
  | 0x14 => h.addr % 32 == 0
  | _ => true

end Sys2Proof.Machine
end

