-- ==== Sys2Proof/Machine/Regions.lean ====
section
/-!
DEFINITION. Machine/Regions.lean: region descriptors, address maps, the bytes of the core dies, pool layout and valid maps
(R233 to R244, R325, R326, R352, R366, R374).
-/
set_option autoImplicit false

namespace Sys2Proof.Machine
open Reg Bit

/-- A cause raised at most once until its mark is cleared, at the next boundary. -/
def causeOnce (c : CauseBit) (info : Nat) (s : State) : State :=
  if c.event ∈ s.svc.once then s else { s with svc := { s.svc with once := c.event :: s.svc.once } }.causeWith c info

/-! ### Parts by number -/

def State.hc (s : State) (h : Nat) : HcSt := KMap.get (fun _ => HcSt.reset) s.hcs h
def State.setHc (s : State) (h : Nat) (v : HcSt) : State := { s with hcs := KMap.put (fun _ => HcSt.reset) s.hcs h v }
def State.modHc (s : State) (h : Nat) (f : HcSt → HcSt) : State := s.setHc h (f (s.hc h))
def State.die (s : State) (d : Nat) : DieSt := KMap.get (fun _ => DieSt.reset) s.dram.dies d
def State.modDie (s : State) (d : Nat) (f : DieSt → DieSt) : State :=
  { s with dram := { s.dram with dies := KMap.put (fun _ => DieSt.reset) s.dram.dies d (f (s.die d)) } }
def State.pool (s : State) (g : Nat) : PoolSt := KMap.get (fun _ => PoolSt.reset) s.svc.pools g
def State.setPool (s : State) (g : Nat) (v : PoolSt) : State :=
  { s with svc := { s.svc with pools := KMap.put (fun _ => PoolSt.reset) s.svc.pools g v } }
def State.modPool (s : State) (g : Nat) (f : PoolSt → PoolSt) : State := s.setPool g (f (s.pool g))
def State.queue (s : State) (q : Nat) : Queue := KMap.get (fun _ => Queue.reset) s.svc.queues q
def State.setQueue (s : State) (q : Nat) (v : Queue) : State :=
  { s with svc := { s.svc with queues := KMap.put (fun _ => Queue.reset) s.svc.queues q v } }
def State.modQueue (s : State) (q : Nat) (f : Queue → Queue) : State := s.setQueue q (f (s.queue q))
def State.job (s : State) (j : Nat) : Option Job := s.svc.jobs.find j
def State.setJob (s : State) (j : Nat) (v : Job) : State := { s with svc := { s.svc with jobs := s.svc.jobs.ins j v } }
def State.dropJob (s : State) (j : Nat) : State := { s with svc := { s.svc with jobs := s.svc.jobs.erase j } }
def State.modJob (s : State) (j : Nat) (f : Job → Job) : State :=
  match s.job j with | some v => s.setJob j (f v) | none => s

/-! ### Regions (R233, R234) -/

def rgnBase (s : State) (g : Nat) : Nat := s.get (SVC_RGN_PLACE_base g) * 2 ^ 26
def rgnSize (s : State) (g : Nat) : Nat := s.get (SVC_RGN_PLACE_size g) * 2 ^ 26
def rgnType (s : State) (g : Nat) : Nat := s.get (SVC_RGN_ATTR_type g)
def rgnMap (s : State) (g : Nat) : Nat := s.get (SVC_RGN_ATTR_map g)
/-- Mode B decoding. -/
def rgnModeB (s : State) (g : Nat) : Bool := s.flag (SVC_RGN_ATTR_ecc g)
/-- Landing policy: 0 bypass, 1 allocate, 2 pinned; 0b11 acts as bypass. -/
def rgnPolicy (s : State) (g : Nat) : Nat := let l := s.get (SVC_RGN_ATTR_landing g); if l = 3 then 0 else l
/-- A region with a valid map: VALIDBIT and no pool (R366). -/
def rgnValidBit (s : State) (g : Nat) : Bool := s.flag (SVC_RGN_ATTR_init g) && rgnType s g != 1
/-- The descriptor is enabled and passed the check of R234. -/
def rgnGood (s : State) (g : Nat) : Bool := s.flag (SVC_RGN_ATTR_enable g) && s.get (SVC_RGN_STATUS_cause g) == 0 && rgnSize s g != 0
def rgnLive (s : State) (g : Nat) : Bool := s.flag (SVC_RGN_STATUS_live g)
def rgnHas (s : State) (g a : Nat) : Bool := decide (rgnBase s g ≤ a ∧ a < rgnBase s g + rgnSize s g)

/-- The region that serves an address. -/
def regionOf (s : State) (a : Nat) : Option Nat := (List.range 16).find? fun g => rgnLive s g && rgnHas s g a

/-- The region an address lies in, served or being filled. -/
def regionOver (s : State) (a : Nat) : Option Nat := (List.range 16).find? fun g => rgnGood s g && rgnHas s g a

/-- The number a log entry gives the region of an address: 15 outside every region (R370). -/
def regionNumber (s : State) (a : Nat) : Nat := (regionOver s a).getD 15

/-- The fare class may reach the region (R235). -/
def rgnAllows (s : State) (g fc : Nat) : Bool :=
  if fc < 32 then natBit (s.reg (SVC_RGN_FC_LO g)).toNat fc || fc == 0 else natBit (s.reg (SVC_RGN_FC_HI g)).toNat (fc - 32)

/-- What R234 finds wrong with an enabled descriptor: cause and the region overlapped. -/
def rgnFault (s : State) (g : Nat) : Nat × Nat :=
  let base := s.get (SVC_RGN_PLACE_base g)
  let size := s.get (SVC_RGN_PLACE_size g)
  let hit := (List.range g).find? fun k =>
    s.flag (SVC_RGN_ATTR_enable k) &&
      decide (s.get (SVC_RGN_PLACE_size k) ≠ 0 ∧ base < s.get (SVC_RGN_PLACE_base k) + s.get (SVC_RGN_PLACE_size k) ∧
        s.get (SVC_RGN_PLACE_base k) < base + size)
  if size = 0 ∨ 1024 < base + size then (1, 0)
  else match hit with
    | some k => (2, k)
    | none => if rgnType s g = 1 && (List.range 4).all (fun i => s.reg (SVC_POOL_ROT g i) == 0) then (3, 0) else (0, 0)

/-! ### Address maps (R325, R326) -/

/-- The mask of a selector of a map. -/
def selMask (s : State) (m k : Nat) : Nat := (if m = 0 then s.get (HC_MAP0_SEL_mask k) else s.get (HC_MAP1_SEL_mask k))

/-- The number of bits a mask shares with a value is odd. -/
def oddBits (mask v : Nat) : Bool := popCount 26 (Nat.land mask v) % 2 == 1

/-- The twelve selector bits of an address. -/
def selBits (mask : Nat → Nat) (a : Nat) : Nat :=
  (List.range 12).foldl (fun v k => if oddBits (mask k) (a / 1024 % 2 ^ 26) then v + 2 ^ k else v) 0

/-- The map of an address: its region's, MAP0 outside every region. -/
def mapOf (s : State) (a : Nat) : Nat := match regionOver s a with | some g => rgnMap s g | none => 0

/-- A place in the stack. -/
structure Place where
  hc : Nat
  bank : Nat
  row : Nat
  pos : Nat
  deriving DecidableEq, Repr

/-- The place of a device address. -/
def placeOf (s : State) (a : Nat) : Place :=
  let v := selBits (selMask s (mapOf s a)) a
  { hc := v % 128, bank := v / 128 % 8 * 4 + v / 1024 % 4, row := a / 2 ^ 22 % 2 ^ 14, pos := a / 256 % 4 }

/-- A row of the stack by one number. -/
def Place.rowKey (p : Place) : Nat := (p.hc * 32 + p.bank) * 2 ^ 14 + p.row
/-- A parcel of the stack by one number. -/
def Place.key (p : Place) : Nat := p.rowKey * 4 + p.pos

/-- The address that a map gives a place. -/
def addrUnder (s : State) (m : Nat) (p : Place) : Nat :=
  let v := p.hc + p.bank / 4 * 128 + p.bank % 4 * 1024
  match (List.range 4096).find? fun c => selBits (selMask s m) (p.row * 2 ^ 22 + c * 1024) == v with
  | some c => p.row * 2 ^ 22 + c * 1024 + p.pos * 256
  | none => p.row * 2 ^ 22 + p.pos * 256

/-- The device address of a place: under the map of the region that holds it, MAP0 outside every region. -/
def addrOfPlace (s : State) (p : Place) : Nat :=
  let a0 := addrUnder s 0 p
  let a1 := addrUnder s 1 p
  if mapOf s a0 = 0 then a0 else if mapOf s a1 = 1 then a1 else a0

/-! ### The bytes of the core dies -/

/-- The number of the parcel of an address is address / 256; its location in the stack. -/
def parcelKey (s : State) (n : Nat) : Nat := (placeOf s (256 * n)).key

/-- A byte of the core dies by location: an unlisted location holds 0 (log entry 3). -/
def Dram.byte (m : KMap Byte) (loc : Nat) : Byte := KMap.get (fun _ => (0 : Byte)) m loc
def Dram.setByte (m : KMap Byte) (loc : Nat) (b : Byte) : KMap Byte := KMap.put (fun _ => (0 : Byte)) m loc b

/-- The canonical form of the core dies' bytes. -/
def Dram.wf (m : KMap Byte) : Bool := KMap.wf (fun _ => (0 : Byte)) m

/-- Bytes stored from a location on, where they are given. -/
def Dram.store (m : KMap Byte) (loc : Nat) : List (Option Byte) → KMap Byte
  | [] => m
  | none :: t => Dram.store m (loc + 1) t
  | some b :: t => Dram.store (Dram.setByte m loc b) (loc + 1) t

/-- n bytes from a location. -/
def Dram.load (m : KMap Byte) (loc n : Nat) : List Byte := (List.range n).map fun i => Dram.byte m (loc + i)

def State.setMem (s : State) (m : KMap Byte) : State := { s with dram := { s.dram with mem := m } }

/-- The stored bytes of a parcel. -/
def dieParcel (s : State) (n : Nat) : List Byte := Dram.load s.dram.mem (parcelKey s n * 256) 256

/-- The codewords of a parcel in the lost pattern. -/
def lostMask (s : State) (n : Nat) : Nat := KMap.get (fun _ => 0) s.dram.lost (parcelKey s n)

def setLost (n mask : Nat) (s : State) : State :=
  { s with dram := { s.dram with lost := KMap.put (fun _ => 0) s.dram.lost (parcelKey s n) mask } }

/-- Codewords of a parcel that a write covers whole. -/
def coveredCws (l : List (Option Byte)) : Nat :=
  (List.range 8).foldl (fun m w => if ((l.drop (32 * w)).take 32).all Option.isSome && 32 * w < l.length then m + 2 ^ w else m) 0

/-- Bytes written to a parcel; codewords written whole leave the lost pattern. -/
def dieWrite (n : Nat) (l : List (Option Byte)) (s : State) : State :=
  let s1 := s.setMem (Dram.store s.dram.mem (parcelKey s n * 256) l)
  let mask := lostMask s n
  if mask = 0 then s1 else setLost n (mask - Nat.land mask (coveredCws l)) s1

/-! ### Pool layout and link words (R241 to R244) -/

def poolParcels (s : State) (g : Nat) : Nat := rgnSize s g * 31 / 8192
def linkBase (s : State) (g : Nat) : Nat := rgnBase s g + rgnSize s g / 32 * 31
/-- The address lies in the link area of its pool region. -/
def inLinkArea (s : State) (g a : Nat) : Bool := rgnType s g == 1 && decide (linkBase s g ≤ a)

/-- Half-channels of the rotation mask. -/
def inRotation (s : State) (g h : Nat) : Bool := natBit (s.reg (SVC_POOL_ROT g (h / 32))).toNat (h % 32)

/-- The half-channels of the rotation in its order (R244). -/
def rotation (s : State) (g : Nat) : List Nat :=
  ((List.range 128).map fun key => key % 16 * 8 + key / 16).filter fun h => inRotation s g h

/-- The address and half-channel of a parcel of a pool. -/
def poolAddr (s : State) (g i : Nat) : Nat := rgnBase s g + 256 * i
def poolHc (s : State) (g i : Nat) : Nat := (placeOf s (poolAddr s g i)).hc

/-- The row is retired, or its bank is. -/
def rowRetired (s : State) (p : Place) : Bool :=
  s.dram.retired.contains p.rowKey || !natBit (s.reg (HC_BANKS p.hc)).toNat p.bank

/-- The index that ends a list (R242). -/
def noParcel : Nat := 0xFFFFFFF

/-- The first index from i on that a test accepts, within a number of tries. -/
def scan (ok : Nat → Bool) : Nat → Nat → Option Nat
  | 0, _ => none
  | n + 1, i => if ok i then some i else scan ok n (i + 1)

/-- The rebuild left the parcel off its list: its row or bank was retired then (R248). -/
def leftOut (s : State) (g i : Nat) : Bool :=
  let p := placeOf s (poolAddr s g i)
  (s.pool g).goneRows.contains p.rowKey || (s.pool g).goneBanks.contains (32 * p.hc + p.bank)

/-- The first parcel from i on that the rebuild put on the list of a half-channel. -/
def freshFrom (s : State) (g h i : Nat) : Option Nat :=
  scan (fun j => poolHc s g j == h && !leftOut s g j) (poolParcels s g - i) i

/-- Fields of a link word (R242). -/
structure Link where
  next : Nat
  len : Nat
  sop : Bool
  eop : Bool
  truncated : Bool
  displaced : Bool
  info : Nat
  deriving DecidableEq, Repr

def packLink (l : Link) : Nat :=
  l.next % 2 ^ 28 * 2 ^ 36 + (l.len + 511) % 512 * 2 ^ 27 + boolNat l.sop * 2 ^ 26 + boolNat l.eop * 2 ^ 25 +
    boolNat l.truncated * 2 ^ 24 + boolNat l.displaced * 2 ^ 23 + l.info % 256 * 2 ^ 15

def unpackLink (n : Nat) : Link :=
  { next := n / 2 ^ 36 % 2 ^ 28, len := (n / 2 ^ 27 % 512 + 1) % 512, sop := natBit n 26, eop := natBit n 25, truncated := natBit n 24,
    displaced := natBit n 23, info := n / 2 ^ 15 % 256 }

/-- The link word of a free parcel: only the next index (R243). -/
def freeLink (next : Nat) : Nat := next % 2 ^ 28 * 2 ^ 36

/-- The link word of a parcel: as an engine wrote it, else as the rebuild did (R243); 0 for a parcel that the rebuild left off its list
(log entry 56). -/
def linkWord (s : State) (g i : Nat) : Nat :=
  match (s.pool g).links.find i with
  | some v => v
  | none =>
    if leftOut s g i then 0
    else freeLink ((freshFrom s g (poolHc s g i) (i + 1)).getD noParcel)

def setLinkWord (g i v : Nat) (s : State) : State := s.modPool g fun p => { p with links := p.links.ins i v }

/-- The bytes of a parcel as the dies and the link words of its pool hold them. -/
def rawParcel (s : State) (n : Nat) : List Byte :=
  match regionOver s (256 * n) with
  | some g =>
    if inLinkArea s g (256 * n) then
      (List.range 32).flatMap fun k =>
        let i := (256 * n - linkBase s g) / 8 + k
        if i < poolParcels s g then bytesBE 8 (linkWord s g i) else List.replicate 8 0
    else dieParcel s n
  | none => dieParcel s n

/-! ### Landing lines and valid maps (R366, R367, R374) -/

/-- Slice and set of a line, numbered address / 64 (R374). -/
def sliceOf (n : Nat) : Nat :=
  let f := fun k => n / 2 ^ k % 32
  Nat.xor (f 0) (Nat.xor (f 5) (Nat.xor (f 10) (Nat.xor (f 15) (Nat.xor (f 20) (f 25)))))
def setOf (n : Nat) : Nat := n / 32 % 4096

def lineAt (s : State) (n : Nat) : Option Line := s.landing.lines.find n

/-- The line lies in the link area of a pool. -/
def linkLine (s : State) (n : Nat) : Bool := match regionOver s (64 * n) with | some g => inLinkArea s g (64 * n) | none => false

/-- Mode B decodes at an address: the mode of its region, A outside every region (R359). -/
def modeBAt (s : State) (a : Nat) : Bool := match regionOver s a with | some g => rgnModeB s g | none => false

/-- A line's bytes in the stack, under the landing. -/
def rawLine (s : State) (n : Nat) : List Byte := ((rawParcel s (n / 4)).drop (n % 4 * 64)).take 64

/-- A line as the landing, or else the stack, holds it. -/
def lineNow (s : State) (n : Nat) : List Byte := match lineAt s n with | some l => l.data | none => rawLine s n

/-- Where the valid map of a region begins. -/
def validBase (s : State) (g : Nat) : Nat := rgnBase s g + rgnSize s g / 2048 * 2047
def inValidMap (s : State) (g a : Nat) : Bool := rgnValidBit s g && decide (validBase s g ≤ a)

/-- The map byte and bit of a parcel. -/
def validByte (s : State) (g n : Nat) : Nat := validBase s g + (n - rgnBase s g / 256) / 8
def validBit (s : State) (g n : Nat) : Nat := 7 - (n - rgnBase s g / 256) % 8

/-- The parcel has been written, or its region keeps no map (R366). -/
def parcelValid (s : State) (n : Nat) : Bool :=
  match regionOver s (256 * n) with
  | none => true
  | some g =>
    if !rgnValidBit s g || inValidMap s g (256 * n) then true
    else
      let a := validByte s g n
      natBit ((lineNow s (a / 64)).getD (a % 64) 0).toNat (validBit s g n)

end Sys2Proof.Machine
end

