-- ==== Sys2Proof/Machine/Integrity.lean ====
section
/-!
DEFINITION. Machine/Integrity.lean: decoding of parcels, repair writes, suspect rows, row repair, retirement, the error log and
the scrub (R349 to R372).
-/
set_option autoImplicit false

namespace Sys2Proof.Machine
open Reg Bit

/-- Beats in error in the burst of a parcel: the pin, and its 64 beats as a mask (R332, R357). -/
abbrev PinErr := Nat × Nat

/-- A symbol that decoding corrects: codeword and pin. -/
abbrev SymErr := Nat × Nat

/-! ### The error log (R370) -/

/-- Kinds of an entry. -/
def EccKind.ce : Nat := 1
def EccKind.ue : Nat := 2
def EccKind.hard : Nat := 3
def EccKind.lost : Nat := 4
def EccKind.retention : Nat := 5
def EccKind.pinErased : Nat := 6
def EccKind.rowRetired : Nat := 7
def EccKind.bankRetired : Nat := 8

/-- Sources of an entry. -/
def EccSource.request : Nat := 0
def EccSource.scrub : Nat := 1
def EccSource.sentinel : Nat := 2
def EccSource.repairCopy : Nat := 3

/-- What an entry says beside its number and crossing. -/
structure EccEntry where
  kind : Nat
  source : Nat
  place : Place
  cws : Nat
  pin : Nat
  symbols : Nat
  modeB : Bool
  fc : Nat
  region : Nat
  deriving DecidableEq, Repr

def packEcc (e : EccEntry) (seq cross : Nat) : Nat :=
  e.kind % 16 * 2 ^ 124 + e.source % 4 * 2 ^ 122 + e.place.hc % 128 * 2 ^ 115 + e.place.bank % 32 * 2 ^ 110 +
    e.place.row % 2 ^ 14 * 2 ^ 96 + e.place.pos % 4 * 2 ^ 94 + e.cws % 256 * 2 ^ 86 + e.pin % 64 * 2 ^ 80 + min e.symbols 15 * 2 ^ 76 +
    boolNat e.modeB * 2 ^ 75 + e.fc % 64 * 2 ^ 69 + e.region % 16 * 2 ^ 64 + seq % 2 ^ 16 * 2 ^ 48 + cross % 2 ^ 48

/-- An entry recorded, or dropped and counted while the ring holds 512. -/
def eccLog (e : EccEntry) (s : State) : State :=
  if s.get ECC_STATUS_log_used = 512 then
    let s1 := s.addSat ECC_LOG_LOST 1
    if s1.dram.logFull then s1 else { s1 with dram := { s1.dram with logFull := true } }.cause Cause.ECC_log_full
  else
    let at_ := s.get ECC_LOG_HEAD_index
    let s1 := { s with dram := { s.dram with log := s.dram.log.ins at_ (packEcc e s.dram.logSeq s.cross), logSeq := (s.dram.logSeq + 1) % 65536 } }
    (s1.put ECC_LOG_HEAD_index (at_ + 1)).put ECC_STATUS_log_used (s.get ECC_STATUS_log_used + 1)

/-- A write to ECC_LOG_TAIL: a forward move modulo 512, capped at the entries held (R370, R481). -/
def eccTailWrite (v : Nat) (s : State) : State :=
  let tail := s.get ECC_LOG_TAIL_index
  let used := s.get ECC_STATUS_log_used
  let d := min ((v % 512 + 512 - tail) % 512) used
  let s1 := ((s.put ECC_LOG_TAIL_index (tail + d)).put ECC_STATUS_log_used (used - d))
  if d = 0 then s1 else { s1 with dram := { s1.dram with logFull := false } }

/-! ### Suspect rows and banks, row repair requests (R350, R363, R372) -/

/-- The info of E213 and E214 (R480). -/
def rowInfo (p : Place) : Nat := p.hc * 2 ^ 14 + p.bank * 2 ^ 9 + p.row / 32
def bankInfo (p : Place) : Nat := p.hc * 2 ^ 14 + p.bank * 2 ^ 9

def bankSuspect (p : Place) (s : State) : State := s.causeWith Cause.ECC_bank_suspect (bankInfo p)

/-- Results of a row repair, as HC_REPAIR_STATUS.result encodes them. -/
def RepairResult.done : Nat := 1
def RepairResult.busy : Nat := 2
def RepairResult.noSpare : Nat := 3
def RepairResult.already : Nat := 4
def RepairResult.notInService : Nat := 5

/-- Spares left in the group that serves a row (R349). -/
def sparesLeft (s : State) (p : Place) : Nat :=
  31 - (s.dram.spares.filter fun k => k / 2 ^ 14 == p.hc * 32 + p.bank && k % 2 ^ 14 / 8192 == p.row / 8192).length

/-- The first cause that refuses a repair (R350). -/
def repairRefusal (s : State) (p : Place) : Option Nat :=
  if (s.hc p.hc).rowRepair.isSome || s.get (HC_STATUS_state p.hc) != 2 then some RepairResult.busy
  else if !natBit (s.reg (HC_BANKS p.hc)).toNat p.bank then some RepairResult.notInService
  else if s.dram.spares.contains p.rowKey then some RepairResult.already
  else if sparesLeft s p = 0 then some RepairResult.noSpare
  else none

/-- The state of a row repair as HC_REPAIR_STATUS shows it. -/
def RepairStep.ledger : Nat := 1
def RepairStep.hold : Nat := 2
def RepairStep.copyIn : Nat := 3
def RepairStep.enable : Nat := 4
def RepairStep.copyOut : Nat := 5

/-- An entry joins the repair list; an UPDATE copy of the ledger is due (R527). -/
def ledgerAdd (e : LedgerEntry) (s : State) : State :=
  { s with ledger := s.ledger ++ [e], test := { s.test with updateDue := true } }

/-- An accepted repair begins at LEDGER: the purser lists it as pending (R351). -/
def repairBegin (p : Place) (s : State) : State :=
  let s1 := ledgerAdd ⟨.rowRepair, p.hc, p.bank, p.row, 0⟩ s
  ((s1.modHc p.hc fun x => { x with rowRepair := some ⟨p.bank, p.row, RepairStep.ledger, 0, []⟩ }).put
    (HC_REPAIR_STATUS_state p.hc) RepairStep.ledger).put (HC_REPAIR_STATUS_spares_left p.hc) (sparesLeft s p)

/-- A retired row recorded, as far as the table holds it (R371). -/
def retireRowNow (p : Place) (s : State) : State :=
  let s1 := { s with dram := { s.dram with retired := insertSorted p.rowKey s.dram.retired } }
  let s2 := ledgerAdd ⟨.rowRetired, p.hc, p.bank, p.row, 1⟩ (s1.put ECC_RETIRE_STATUS_rows (min 4096 s1.dram.retired.length))
  (eccLog ⟨EccKind.rowRetired, EccSource.request, { p with pos := 0 }, 0, 63, 0, false, 0, 15⟩ s2).cause Cause.ECC_row_retired

/-- Results of a retirement, as ECC_RETIRE_STATUS.result encodes them. -/
def RetireResult.done : Nat := 1
def RetireResult.busy : Nat := 2
def RetireResult.already : Nat := 3
def RetireResult.full : Nat := 4

/-- The bank is retired: the repair list holds it, recorded or not. -/
def bankRetired (s : State) (p : Place) : Bool := s.ledger.any fun e => e.kind == .bankRetired && e.hc == p.hc && e.unit == p.bank

/-- Why a retirement is refused (R371). -/
def retireRefusal (s : State) (bank : Bool) (p : Place) : Option Nat :=
  if bankRetired s p || (!bank && s.dram.retired.contains p.rowKey) then some RetireResult.already
  else if !s.dram.retireDue.isEmpty || s.dram.bankDue.isSome || s.get (HC_STATUS_state p.hc) != 2 then some RetireResult.busy
  else if !bank && decide (4096 ≤ s.dram.retired.length) then some RetireResult.full
  else none

/-- A row to be retired at the next boundary. -/
def retireRowDue (p : Place) (s : State) : State := { s with dram := { s.dram with retireDue := s.dram.retireDue ++ [p.rowKey] } }

/-- The device's own request to repair a suspect row; without a spare the row of a pool is retired (R363). -/
def autoRepair (p : Place) (s : State) : State :=
  match repairRefusal s p with
  | none => repairBegin p s
  | some r =>
    let s1 := (s.put (HC_REPAIR_STATUS_result p.hc) r).cause (Cause.HC_repair_fail p.hc)
    if r = RepairResult.noSpare then
      let s2 := bankSuspect p s1
      let pool := match regionOver s (addrOfPlace s p) with | some g => rgnType s g == 1 | none => false
      if pool && s2.flag ECC_CTRL_auto_retire then
        match retireRefusal s2 false p with
        | none => retireRowDue p s2
        | some r => if r = RetireResult.full then bankSuspect p s2 else s2
      else s2
    else s1

/-- A row becomes suspect (R363, R372). -/
def rowSuspect (p : Place) (s : State) : State :=
  let key := p.bank * 2 ^ 14 + p.row
  if (s.hc p.hc).suspects.contains key then s
  else
    let s1 := (s.modHc p.hc fun x => { x with suspects := insertSorted key x.suspects }).causeWith Cause.ECC_row_suspect (rowInfo p)
    let n := ((s1.hc p.hc).suspects.filter fun k => k / 2 ^ 14 == p.bank).length
    let s2 := if n = max 1 (s1.get ECC_SUSPECT_CTRL_bank_thr) then bankSuspect p s1 else s1
    if s2.flag ECC_CTRL_auto_repair then autoRepair p s2 else s2

/-! ### Repair writes (R362, R364) -/

/-- A repair write queued: one entry per parcel, at most 32 a half-channel. -/
def queueRepair (n : Nat) (data : List Byte) (lost : Bool) (s : State) : State :=
  let h := (placeOf s (256 * n)).hc
  let rs := (s.hc h).repairs
  if rs.any fun r => r.parcel == n then
    s.modHc h fun x => { x with repairs := rs.map fun r => if r.parcel = n then ⟨n, data, lost⟩ else r }
  else if 32 ≤ rs.length then causeOnce Cause.ECC_repair_dropped 0 (s.addSat ECC_REPAIR_DROPS 1)
  else s.modHc h fun x => { x with repairs := rs ++ [⟨n, data, lost⟩] }

/-- A repair write reaches its core die. -/
def repairWrite (r : Repair) (s : State) : State :=
  let h := (placeOf s (256 * r.parcel)).hc
  let s1 := if r.lost then setLost r.parcel 255 s else dieWrite r.parcel (r.data.map some) s
  s1.modHc h fun x => { x with
    repairs := x.repairs.filter fun q => q.parcel != r.parcel
    repaired := ((x.repaired.filter fun q => q.1 != r.parcel) ++ [(r.parcel, s.ticks)]).drop
      (((x.repaired.filter fun q => q.1 != r.parcel).length + 1) - 64) }

/-- A host write to a parcel takes its repair write away (R373). -/
def dropRepair (n : Nat) (s : State) : State :=
  let h := (placeOf s (256 * n)).hc
  if (s.hc h).repairs.any fun r => r.parcel == n then
    s.modHc h fun x => { x with repairs := x.repairs.filter fun r => r.parcel != n }
  else s

/-! ### Decoding (R359, R361) -/

/-- What the decoder makes of a codeword. -/
inductive CwResult where
  | clean
  | corrected
  | uncorrectable
  /-- beyond what the table guarantees -/
  | beyond
  deriving DecidableEq, Repr

/-- The table of R359, for the pins in error of a codeword. -/
def decodeCw (modeB : Bool) (erased : Option Nat) (pins : List Nat) : CwResult :=
  let others := pins.filter fun q => erased != some q
  let e := others.length
  if pins.isEmpty then .clean
  else if erased.isSome then
    (if e ≤ 1 then .corrected else if e = 2 && !modeB then .uncorrectable else .beyond)
  else if modeB then (if e ≤ 2 then .corrected else .beyond)
  else if e ≤ 1 then .corrected else if e ≤ 3 then .uncorrectable else .beyond

/-- A parcel as decoded. -/
structure Decoded where
  data : List Byte
  /-- codewords uncorrectable, corrected -/
  bad : Nat
  fixed : Nat
  symbols : List SymErr
  /-- a codeword in the lost or the blank pattern was found -/
  lost : Bool
  deriving DecidableEq, Repr

/-- The error of codeword w on a pin: the sum of what the bursts' errors put on it. -/
def symbolError (errs : List PinErr) (w q : Nat) : Byte :=
  errs.foldl (fun b e => if e.1 = q then b ^^^ beatSymbol e.2 w else b) 0

/-- The pins of a codeword that are in error. -/
def pinsOf (errs : List PinErr) (w : Nat) : List Nat := (List.range 36).filter fun q => symbolError errs w q != 0

/-- A codeword with its errors, as the dies return it. -/
def receivedWord (errs : List PinErr) (w : Nat) (stored : List Byte) : List Byte :=
  (stored.zip (List.range 36)).map fun x => x.1 ^^^ symbolError errs w x.2

/-- Codeword w of a parcel as its die stores it: of its bytes, or the lost pattern (R352, R357). -/
def storedWord (data : List Byte) (lost w : Nat) : List Byte := if natBit lost w then lostWord else codeword data w

/-- The bytes of codeword w replaced. -/
def Decoded.setData (w : Nat) (word : List Byte) (d : Decoded) : Decoded :=
  { d with data := d.data.take (32 * w) ++ word.take 32 ++ d.data.drop (32 * w + 32) }

/-- A word beyond the table's guarantees: one that is a codeword passes unseen; of any other, free values decide whether it is
reported or miscorrected, and in which one or two symbols (log entry 2). -/
def decodeBeyond (w : Nat) (word : List Byte) (d : Decoded) (s : State) : Decoded × State :=
  if isCodeword word then (d.setData w word, s)
  else
    let s1 := s.drew
    match s.drawn 1 with
    | 0 => ({ d with bad := natSetBit d.bad w }, s1)
    | _ =>
      let q0 := s1.drawn 6 % 36
      let q1 := s1.drew.drawn 6 % 36
      let s3 := s1.drew.drew
      let v0 : Byte := BitVec.ofNat 8 (s3.drawn 8)
      let v1 : Byte := BitVec.ofNat 8 (s3.drew.drawn 8)
      let wrong := (word.zip (List.range 36)).map fun x =>
        x.1 ^^^ (if x.2 = q0 then v0 else 0) ^^^ (if x.2 = q1 && q1 != q0 then v1 else 0)
      let touched := (if v0 = 0 then [] else [(w, q0)]) ++ (if v1 = 0 || q1 == q0 then [] else [(w, q1)])
      ({ d with fixed := natSetBit d.fixed w, symbols := d.symbols ++ touched }.setData w wrong, s3.drew.drew)

/-- One codeword of a parcel decoded: the patterns are recognised exactly, and reported whatever decoding would give (R359).  `data`
and `lost` are what the die stores.  A codeword that comes without an error is as it was written. -/
def decodeOne (modeB : Bool) (erased : Option Nat) (errs : List PinErr) (data : List Byte) (lost : Nat) (r : Decoded × State) (w : Nat) :
    Decoded × State :=
  let pins := pinsOf errs w
  if pins.isEmpty && !natBit lost w then r
  else
    let word := receivedWord errs w (storedWord data lost w)
    if word = lostWord || word = blankWord then ({ r.1 with bad := natSetBit r.1.bad w, lost := true }, r.2)
    else if natBit lost w then decodeBeyond w word r.1 r.2
    else match decodeCw modeB erased pins with
      | .clean => r
      | .corrected => ({ r.1 with fixed := natSetBit r.1.fixed w, symbols := r.1.symbols ++ pins.map fun q => (w, q) }, r.2)
      | .uncorrectable => ({ r.1 with bad := natSetBit r.1.bad w }, r.2)
      | .beyond => decodeBeyond w word r.1 r.2

/-- A parcel decoded with the errors that came in its burst. -/
def decodeParcel (modeB : Bool) (erased : Option Nat) (errs : List PinErr) (data : List Byte) (lost : Nat) (s : State) :
    Decoded × State :=
  (List.range 8).foldl (decodeOne modeB erased errs data lost) (⟨data, 0, 0, [], false⟩, s)

/-- The threshold q of R361. -/
def pinThr (s : State) : Nat := max 4 (s.get ECC_PIN_CTRL_thr)
def pinQuarter (s : State) : Nat := (pinThr s + 3) / 4

def pinCount (x : HcSt) (q : Nat) : Nat := KMap.get (fun _ => 0) x.pins q

/-- A symbol corrected on a pin counted; the pin that reaches the threshold is erased at the boundary (R361). -/
def countPin (h q : Nat) (s : State) : State :=
  let n := pinCount (s.hc h) q + 1
  let s1 := s.modHc h fun x => { x with pins := x.pins.ins q n }
  let others := (List.range 36).any fun r => r != q && decide (pinQuarter s ≤ pinCount (s.hc h) r)
  if n = pinThr s && !others && s.flag ECC_CTRL_pin_erase_en && (s.hc h).erased.isNone then
    s1.modHc h fun x => { x with eraseDue := some q }
  else s1

/-- The correction lies on pins that R361 leaves out. -/
def pinExcluded (s : State) (h : Nat) (l : List SymErr) : Bool :=
  !l.isEmpty && l.all fun e => (s.hc h).erased == some e.2 || decide (pinQuarter s ≤ pinCount (s.hc h) e.2)

/-- A corrected parcel whose repair write reached the die within the last 2^24 crossings (R363). -/
def repairedLately (s : State) (h n : Nat) : Bool :=
  (s.hc h).repaired.any fun r => r.1 == n && decide (s.ticks < r.2 + 2 ^ 24)

/-- The first symbol's pin, 63 where none is known. -/
def firstPin (l : List SymErr) : Nat := match l with | [] => 63 | e :: _ => e.2

/-- The info of E209 (R480). -/
def ueInfo (s : State) (n : Nat) : Nat := 256 * n + regionNumber s (256 * n) * 2 ^ 36

/-- An uncorrectable parcel recorded; `suspect` tells whether its row becomes suspect (R363, R370). -/
def noteBad (source fc n : Nat) (d : Decoded) (suspect : Bool) (s : State) : State :=
  let p := placeOf s (256 * n)
  let g := regionNumber s (256 * n)
  let kind := if d.lost then EccKind.lost else EccKind.ue
  let s1 := eccLog ⟨kind, source, p, d.bad, firstPin d.symbols, d.symbols.length, modeBAt s (256 * n), fc, g⟩ s
  let s2 := (s1.addSat ECC_UE_CNT 1).causeWith Cause.ECC_ue (ueInfo s n)
  if suspect then rowSuspect p s2 else s2

/-- A corrected parcel recorded, and its repair write queued (R361 to R363, R370). -/
def noteFixed (source fc n : Nat) (d : Decoded) (repair : Bool) (s : State) : State :=
  let p := placeOf s (256 * n)
  let g := regionNumber s (256 * n)
  let out := pinExcluded s p.hc d.symbols
  let hard := !out && repairedLately s p.hc n
  let entry : EccEntry :=
    ⟨if hard then EccKind.hard else EccKind.ce, source, p, d.fixed, firstPin d.symbols, d.symbols.length, modeBAt s (256 * n), fc, g⟩
  let s1 := ((s.add48 ECC_CE_CNT_LO 1).cause Cause.ECC_ce)
  let s2 := if hard || s1.flag ECC_CTRL_ce_log then eccLog entry s1 else s1
  let s3 := forEach d.symbols (fun e s => countPin p.hc e.2 s) s2
  let s4 := if out || !repair then s3 else queueRepair n d.data false s3
  if hard then rowSuspect p s4 else s4

/-- A parcel read from its die, decoded and recorded.  Answers its bytes, none where it is uncorrectable. -/
def readParcel (source fc n : Nat) (repair suspect : Bool) (errs : List PinErr) (s : State) : Option (List Byte) × State :=
  let p := placeOf s (256 * n)
  let modeB := modeBAt s (256 * n)
  let (d, s1) := decodeParcel modeB (s.hc p.hc).erased errs (rawParcel s n) (lostMask s n) s
  if d.bad ≠ 0 then (none, noteBad source fc n d suspect s1)
  else if d.fixed ≠ 0 then (some d.data, noteFixed source fc n d repair s1)
  else (some d.data, s1)

/-! ### Scrub (R364, R368) -/

/-- The place a scrub pointer stands at: position, then bank, then row. -/
def scrubPlace (h at_ : Nat) : Place := { hc := h, bank := at_ / 4 % 32, row := at_ / 128 % 2 ^ 14, pos := at_ % 4 }

/-- Parcels in a pass. -/
def scrubLen : Nat := 2 ^ 21

/-- The scrub pointer moves on; at its wrap a pass ends (R368). -/
def scrubStep (h : Nat) (s : State) : State :=
  let x := s.hc h
  if x.scrubAt + 1 = scrubLen then
    (s.setHc h { x with scrubAt := 0, scrubPasses := (x.scrubPasses + 1) % 512, scrubStart := s.ticks, scrubLate := false }).cause Cause.ECC_scrub_pass
  else s.setHc h { x with scrubAt := x.scrubAt + 1 }

/-- The row of the pointer is held by a row repair (R351, R373). -/
def rowHeld (x : HcSt) (p : Place) : Bool :=
  match x.rowRepair with
  | some r => decide (RepairStep.hold ≤ r.step) && r.bank == p.bank && r.row == p.row
  | none => false

/-- One parcel of the scrub read; an uncorrectable one is rewritten in the lost pattern where poison is set (R364). -/
def scrubRead (h : Nat) (errs : List PinErr) (s : State) : State :=
  let p := scrubPlace h (s.hc h).scrubAt
  let n := addrOfPlace s p / 256
  if !parcelValid s n then scrubStep h s
  else
    let lost := lostMask s n != 0
    let (r, s1) := readParcel EccSource.scrub 0 n true true errs s
    let s2 := if r.isNone && !lost && s1.flag ECC_CTRL_poison then queueRepair n [] true s1 else s1
    scrubStep h s2

/-- A pass has lasted longer than its limit in seconds (12,500,000 crossings each, R369). -/
def scrubLateNow (h : Nat) (s : State) : State :=
  let x := s.hc h
  if !x.scrubLate && decide (max 1 (s.get ECC_SCRUB_CTRL_pass_limit) * 12500000 < s.ticks - x.scrubStart) then
    (s.setHc h { x with scrubLate := true }).cause Cause.ECC_scrub_late
  else s

/-! ### Pin windows and erasure (R361) -/

/-- A window ends: the counts start again. -/
def pinWindowEnd (h : Nat) (s : State) : State := s.modHc h fun x => { x with pins := [] }

/-- A field retrain decided for a half-channel (R346): 0 HOST, 1 CA, 2 DRIFT, 3 DQ.  For CA both half-channels take it. -/
def retrainDecide (h cause : Nat) (s : State) : State :=
  forEach (if cause = 1 then [h / 2 * 2, h / 2 * 2 + 1] else [h]) (fun k s =>
    s.modHc k fun x => { x with retrainDue := if x.retrainDue.isSome then x.retrainDue else some cause }) s

/-- At the boundary the due pin is erased (R361). -/
def pinErase (h : Nat) (s : State) : State :=
  match (s.hc h).eraseDue with
  | none => s
  | some q =>
    let others := (List.range 36).any fun r => r != q && decide (pinQuarter s ≤ pinCount (s.hc h) r)
    let s0 := s.modHc h fun x => { x with eraseDue := none }
    if others || (s.hc h).erased.isSome then s0
    else
      let s1 := (s0.modHc h fun x => { x with erased := some q }).cause Cause.ECC_pin_erased
      let s2 := eccLog ⟨EccKind.pinErased, EccSource.request, ⟨h, 0, 0, 0⟩, 0, q, 0, false, 0, 15⟩ s1
      if s2.get (HC_TSV_REMAP_dq_fail0 h) = 63 ∨ s2.get (HC_TSV_REMAP_dq_fail1 h) = 63 then retrainDecide h 3 s2 else s2

/-! ### Retirement (R371) -/

/-- A row or bank retirement requested by the host: judged, and taken up at the next boundary. -/
def retireRequest (bank : Bool) (p : Place) (s : State) : State :=
  match retireRefusal s bank p with
  | some r =>
    let s1 := (s.put ECC_RETIRE_STATUS_result r).put ECC_RETIRE_CTRL_go 0
    if r = RetireResult.full then bankSuspect p s1 else s1
  | none =>
    if bank then
      { s with dram := { s.dram with bankDue := some (p.hc, p.bank) }, commit := { s.commit with hw := s.commit.hw ++ [.retireBank p.hc p.bank] } }
    else retireRowDue p s

/-- Rows due are retired at the boundary. -/
def retireRowsNow (s : State) : State :=
  if s.dram.retireDue.isEmpty then s
  else
    let rows := s.dram.retireDue
    let s1 := { s with dram := { s.dram with retireDue := [] } }
    let s2 := forEach rows (fun k s => retireRowNow ⟨k / 2 ^ 19, k / 2 ^ 14 % 32, k % 2 ^ 14, 0⟩ s) s1
    (s2.put ECC_RETIRE_STATUS_result RetireResult.done).put ECC_RETIRE_CTRL_go 0

/-- A bank retired by its hardware commit; a half-channel left with fewer than 7 banks is short (R300, R371). -/
def retireBankNow (h b : Nat) (s : State) : State :=
  let banks := natClearBit (s.reg (HC_BANKS h)).toNat b
  let n := popCount 32 banks
  let s1 := (s.setReg (HC_BANKS h) (BitVec.ofNat 32 banks)).put (HC_STATUS_banks h) n
  let s2 := { s1 with dram := { s1.dram with bankDue := none } }
  let s3 := if n < 7 && !s.flag (HC_STATUS_short h) then
      ((s2.put (HC_STATUS_short h) 1).setReg (TT_HC_SHORT (h / 32))
        (BitVec.ofNat 32 (natSetBit (s2.reg (TT_HC_SHORT (h / 32))).toNat (h % 32)))).cause Cause.TT_hc_short
    else s2
  let s4 := ledgerAdd ⟨.bankRetired, h, b, 0, 1⟩ s3
  let s5 := (eccLog ⟨EccKind.bankRetired, EccSource.request, ⟨h, b, 0, 0⟩, 0, 63, 0, false, 0, 15⟩ s4).cause Cause.ECC_bank_retired
  (s5.put ECC_RETIRE_STATUS_result RetireResult.done).put ECC_RETIRE_CTRL_go 0

end Sys2Proof.Machine
end

