-- ==== Sys2Proof/Machine/Landing.lean ====
section
/-!
DEFINITION. Machine/Landing.lean: running jobs, accesses passed to the scheduler, and the landing: ways, misses, fills,
write-backs and flushes (R267, R272, R366, R367, R374 to R389).
-/
set_option autoImplicit false

namespace Sys2Proof.Machine
open Reg Bit

/-! ### Accesses passed to the scheduler -/

/-- The time in berths: crossings since power-on times 12 and the berth (R277). -/
def berthTime (s : State) (h : Nat) : Nat := s.ticks * 12 + (s.hc h).berth

/-- The port number of the device's own requests (R307). -/
def ownPort : Nat := 16

/-- A parcel access with a place in the order of accesses, handed to the intake of its half-channel.  A read-modify-write comes as its
read first (R239). -/
def pushAt (seq port fc : Nat) (panic write reads displaced : Bool) (n lines : Nat) (what : Purpose) (s : State) : State :=
  let h := (placeOf s (256 * n)).hc
  let a : Access := { seq := seq, born := berthTime s h, port := port, fc := fc, panic := panic, write := write && !reads, parcel := n, lines := lines,
                      conf := false, displaced := displaced, reads := reads, locked := false, retry := false, entered := 0, behind := false, purpose := what }
  s.modHc h fun x => { x with intake := x.intake ++ [a] }

/-- A parcel access that comes after every earlier one. -/
def pushAccess (port fc : Nat) (panic write reads displaced : Bool) (n lines : Nat) (what : Purpose) (s : State) : State :=
  pushAt s.dram.nextSeq port fc panic write reads displaced n lines what { s with dram := { s.dram with nextSeq := s.dram.nextSeq + 1 } }

/-- The accesses of a half-channel that have not been served. -/
def HcSt.pending (x : HcSt) : List Access := x.intake ++ x.waiting ++ x.queue ++ x.dropped

/-- The access writes its parcel, at once or after its read. -/
def Access.writes (a : Access) : Bool := match a.purpose with | .write _ _ | .writeBack _ _ => true | _ => false

/-- A write of the line, or its write-back, waits for its berth. -/
def pendingWrite (s : State) (n : Nat) : Bool :=
  (s.hc (placeOf s (64 * n)).hc).pending.any fun a => a.writes && a.parcel == n / 4 && natBit a.lines (n % 4)

/-! ### Ways (R378 to R380, R535) -/

def pinWays (s : State) : Nat := s.get LDG_PIN_WAYS_ways
def disabledWays (s : State) (slice : Nat) : Nat := s.landing.disabled / 2 ^ (16 * slice) % 65536

/-- The region of a line uses the pin ways: pinned policy while LDG_PIN_WAYS is not 0 (R380). -/
def pinnedRegion (s : State) (g : Nat) : Bool := rgnPolicy s g == 2 && pinWays s != 0

/-- The line holds a region's own data, not a link word or map byte (R377). -/
def plainLine (s : State) (g n : Nat) : Bool := !(inLinkArea s g (64 * n)) && !(inValidMap s g (64 * n))

/-- The ways a fill may take for a line (R378). -/
def allowedWays (s : State) (g fc n : Nat) : Nat :=
  let off := 65535 - disabledWays s (sliceOf n)
  if pinnedRegion s g && plainLine s g n then Nat.land (pinWays s) off
  else
    let c := if plainLine s g n then fc else 0
    Nat.land (Nat.land (s.get (TT_FC_WAYS_ways c)) (65535 - pinWays s)) off

/-- Lines of a set, with their numbers. -/
def setLines (s : State) (n : Nat) : List (Nat × Line) := s.landing.lines.filter fun p => sliceOf p.1 == sliceOf n && setOf p.1 == setOf n

def isPinned (s : State) (p : Nat × Line) : Bool := pinnedRegion s p.2.region && plainLine s p.2.region p.1

def setKey (n : Nat) : Nat := sliceOf n * 4096 + setOf n

/-- The tree of 15 bits after way w was used: every node on its path points away from it (R379). -/
def plruTouch (t w : Nat) : Nat :=
  (List.range 4).foldl (fun t d =>
    let node := 2 ^ d + w / 2 ^ (4 - d)
    let right := natBit w (3 - d)
    if right then natClearBit t node else natSetBit t node) t

/-- Ways under a node of the tree at depth d. -/
def underNode (d node : Nat) : Nat := (List.range 16).foldl (fun m w => if 2 ^ d + w / 2 ^ (4 - d) = node then m + 2 ^ w else m) 0

/-- The victim the tree names, restricted to allowed ways (R379). -/
def plruVictim (t allowed : Nat) : Nat :=
  (List.range 4).foldl (fun node d =>
    let right := natBit t node
    let want := 2 * node + boolNat right
    let other := 2 * node + boolNat (!right)
    if Nat.land (underNode (d + 1) want) allowed = 0 then other else want) 1 - 16

def touchWay (n w : Nat) (s : State) : State :=
  let key := setKey n
  { s with landing := { s.landing with plru := KMap.put (fun _ => 0) s.landing.plru key (plruTouch (KMap.get (fun _ => 0) s.landing.plru key) w) } }

/-- The first set bit of a mask of 16. -/
def lowWay (m : Nat) : Option Nat := (List.range 16).find? fun w => natBit m w

/-- The way for a fill: an invalid allowed way first, else the victim's; the flag tells that a pinned line is replaced (R379,
R380). -/
def chooseWay (s : State) (g fc n : Nat) : Option (Nat × Option Nat × Bool) :=
  let allowed := allowedWays s g fc n
  let held := setLines s n
  let used := held.foldl (fun m p => natSetBit m p.2.way) 0
  let pins := held.foldl (fun m p => if isPinned s p then natSetBit m p.2.way else m) 0
  let mine := pinnedRegion s g && plainLine s g n
  let t := KMap.get (fun _ => 0) s.landing.plru (setKey n)
  match lowWay (allowed - Nat.land allowed used) with
  | some w => some (w, none, false)
  | none =>
    let free := allowed - Nat.land allowed pins
    let pick := if free ≠ 0 then free else if mine then allowed else 0
    if pick = 0 then none
    else
      let w := plruVictim t pick
      some (w, (held.find? fun p => p.2.way == w).map fun p => p.1, mine && free == 0)

/-! ### Write-back (R382, R383, R385) -/

def setLine (n : Nat) (l : Line) (s : State) : State := { s with landing := { s.landing with lines := s.landing.lines.ins n l } }
def dropLine (n : Nat) (s : State) : State := { s with landing := { s.landing with lines := s.landing.lines.erase n } }

def dirtyIn (s : State) (slice : Nat) : Nat :=
  (s.landing.lines.filter fun p => sliceOf p.1 == slice && p.2.st == .dirty).length
def dirtyAll (s : State) : Nat := (s.landing.lines.filter fun p => p.2.st == .dirty).length

/-- A change to every access of a half-channel that waits. -/
def mapAccesses (f : Access → Access) (h : Nat) (s : State) : State :=
  s.modHc h fun x => { x with intake := x.intake.map f, waiting := x.waiting.map f, queue := x.queue.map f, dropped := x.dropped.map f }

/-- The bytes of a line that leaves the landing while gathered go with its write-back. -/
def holdLine (n : Nat) (l : Line) (a : Access) : Access :=
  match a.purpose with
  | .writeBack lines held => if lines.contains n then { a with purpose := .writeBack lines (held.ins n l) } else a
  | _ => a

/-- A write-back of a dirty line queued with every other dirty line of its parcel. -/
def writeBack (n : Nat) (s : State) : State :=
  let lines := ((List.range 4).map fun k => n / 4 * 4 + k).filter fun m => (lineAt s m).any fun l => l.st == .dirty
  let s1 := forEach lines (fun m s =>
    match lineAt s m with | some l => setLine m { l with st := .gathered } s | none => s) s
  let mask := lines.foldl (fun v m => v + 2 ^ (m % 4)) 0
  (pushAccess ownPort 0 false true (lines.length != 4) false (n / 4) mask (.writeBack lines []) s1).add48 LDG_WB_LO 1

/-- A line leaves the landing: a dirty one is written back, a gathered one goes with its queued write-back. -/
def evict (n : Nat) (s : State) : State :=
  match lineAt s n with
  | none => s
  | some l =>
    let s1 := if l.st = .dirty then writeBack n s else s
    let s2 := if l.st = .clean then s1 else mapAccesses (holdLine n l) (placeOf s (64 * n)).hc s1
    dropLine n s2

/-- The line that the newest waiting write-back of it holds (R273, R382). -/
def heldLine (s : State) (n : Nat) : Option (List Byte) :=
  let held := (s.hc (placeOf s (64 * n)).hc).pending.filterMap fun a =>
    match a.purpose with | .writeBack _ held => (held.find n).map fun l => (a.seq, l) | _ => none
  match held.foldl (fun (b : Option (Nat × Line)) p => match b with | some c => if c.1 < p.1 then some p else b | none => some p) none with
  | some p => some p.2.data
  | none => none

/-- A line of a parcel as the newest waiting write-back holds it, else as its die does (R273, R382). -/
def underLine (s : State) (n : Nat) : List Byte := (heldLine s n).getD (rawLine s n)

/-- A line allocated, its victim evicted. -/
def allocate (g n : Nat) (way : Nat × Option Nat × Bool) (data : List Byte) (st : LineState) (s : State) : State :=
  let s1 := match way.2.1 with | some v => evict v s | none => s
  let s2 := if way.2.2 then causeOnce Cause.LDG_pin_overflow 0 (s1.addSat LDG_PIN_EVICT 1) else s1
  let epoch := KMap.get (fun _ => 0) s2.svc.epochs g
  let l : Line := { way := way.1, data := data, st := st, poisoned := false, region := g, epoch := epoch, written := s2.landing.writes, wseqs := [] }
  touchWay n way.1 (setLine n l
    { s2 with landing := { s2.landing with writes := s2.landing.writes + 1 } })

/-! ### Link words and valid maps in the landing (R367, R377) -/

/-- One access to a line of link words or of a valid map, under FC00's ways: hit and miss counted, the line allocated when it
can be, and dirtied by a write.  Its fill is taken at once (log entry 40). -/
def metaAccess (n : Nat) (dirty : Bool) (s0 : State) : State :=
  let s := s0.acted (512 + sliceOf n) 1
  let g := regionNumber s (64 * n)
  match lineAt s n with
  | some l =>
    let s1 := (touchWay n l.way (s.add48 LDG_HIT_LO 1)).addSat (LDG_RGN_HIT g) 1
    if dirty && l.st == .clean then setLine n { l with st := .dirty, written := s1.landing.writes } s1 else s1
  | none =>
    let s1 := (s.add48 LDG_MISS_LO 1).addSat (LDG_RGN_MISS g) 1
    match chooseWay s1 g 0 n with
    | some w => allocate g n w (underLine s1 n) (if dirty then .dirty else .clean) s1
    | none => causeOnce Cause.LDG_no_way 0 (s1.addSat LDG_NOWAY 1)

/-- The link word of a parcel is read or written through the landing (R242, R377). -/
def touchLink (g i : Nat) (dirty : Bool) (s : State) : State := metaAccess ((linkBase s g + 8 * i) / 64) dirty s

/-- The valid bit of a parcel set, its die bytes zeros until they are written (R367).  The number of the write stays open until the
map line reaches a die. -/
def validate (n : Nat) (marks : List (Nat × Nat)) (s : State) : State :=
  match regionOver s (256 * n) with
  | none => s
  | some g =>
    if parcelValid s n then s
    else
      let a := validByte s g n
      let line := a / 64
      let s1 := metaAccess line true (dieWrite n (List.replicate 256 (some 0)) s)
      let byte := (lineNow s1 line).getD (a % 64) 0
      let byte' : Byte := BitVec.ofNat 8 (natSetBit byte.toNat (validBit s g n))
      match lineAt s1 line with
      | some l => setLine line { l with data := l.data.set (a % 64) byte', st := .dirty, wseqs := l.wseqs ++ marks } (forEach marks wseqHold s1)
      | none => dieWrite (line / 4) ((List.range 256).map fun k => if k = a % 256 then some byte' else none) s1

/-! ### Jobs (R240, R257, R272) -/

/-- Statuses of R275. -/
def Status.empty : Nat := 0x02
def Status.endOfPacket : Nat := 0x03
def Status.qFull : Nat := 0x04
def Status.poolEmpty : Nat := 0x05
def Status.hcDry : Nat := 0x06
def Status.pktDiscard : Nat := 0x07
def Status.srcOpen : Nat := 0x08
def Status.destOpen : Nat := 0x09
def Status.poolMismatch : Nat := 0x0A
def Status.poolRebuild : Nat := 0x0B
def Status.dataLost : Nat := 0x0D

def closeAll (l : List (Nat × Nat)) (s : State) : State := forEach l wseqClose s

/-- The number of a job, with its port. -/
def Job.mark (j : Job) : List (Nat × Nat) := match j.wseq with | some n => [(j.port, n)] | none => []

/-- A new job; answers its number. -/
def newJob (port : Nat) (e : Entry) (kind : JobKind) (left : Nat) (wseq : Option Nat) (s : State) : Nat × State :=
  let j : Job := { port := port, entry := e, kind := kind, left := left, reads := 0, plan := [], got := [], bad := false, status := 0, result := 0, len := 0,
                   frees := none, wseq := wseq }
  (s.svc.nextJob, ({ s with svc := { s.svc with nextJob := s.svc.nextJob + 1 } }.setJob s.svc.nextJob j))

/-- The bytes a job gathered from an address on. -/
def gathered (got : KMap (List Byte)) (a n : Nat) : List Byte :=
  (List.range n).map fun i => (((got.find ((a + i) / 64)).getD []).getD ((a + i) % 64) 0)

/-- A parcel returned to the free list of its half-channel, unless its row is retired (R243, R247, R248). -/
def freeParcel (g i : Nat) (s : State) : State :=
  let h := poolHc s g i
  if rowRetired s (placeOf s (poolAddr s g i)) then s
  else
    let l := KMap.get (fun _ => FreeList.reset) (s.pool g).lists h
    let top := match l.pushed with
      | t :: _ => t
      | [] => (freshFrom s g h l.next).getD noParcel
    let s1 := setLinkWord g i (freeLink top) (touchLink g i true s)
    let low := l.low && decide (l.count + 1 < s.get (SVC_POOL_CFG_low_thr g))
    s1.modPool g fun p => { p with
      lists := KMap.put (fun _ => FreeList.reset) p.lists h { l with pushed := i :: l.pushed, count := l.count + 1, low := low } }

/-- A job ends: its request is answered and what it held is released. -/
def jobDone (id : Nat) (s : State) : State :=
  match s.job id with
  | none => s
  | some j =>
    let h := j.entry.txn.hdr
    let s1 := closeAll j.mark (s.dropJob id)
    let s2 := match j.frees with | some (g, i) => freeParcel g i s1 | none => s1
    match j.kind with
    | .rd => if j.bad then answerNak j.port j.entry Nak.dataError 0 s2 else answer j.port j.entry 0 0 (gathered j.got h.addr h.rlen) s2
    | .wr => if j.bad then answerNak j.port j.entry Nak.dataError 0 s2 else answer j.port j.entry 0 0 [] s2
    | .enq => answer j.port j.entry j.status j.result [] s2
    | .deq | .peek =>
      if j.bad then answer j.port j.entry Status.dataLost j.result [] s2
      else answer j.port j.entry j.status j.result ((j.got.flatMap fun p => p.2).take j.len) s2
    | .atomic => if j.bad then answerNak j.port j.entry Nak.dataError 0 s2 else answer j.port j.entry j.status j.result (gathered j.got 0 j.len) s2

/-- One part of a job is finished. -/
def jobPart (id : Nat) (s : State) : State :=
  match s.job id with
  | none => s
  | some j => if j.left ≤ 1 then jobDone id s else s.setJob id { j with left := j.left - 1 }

/-- The job an access works for. -/
def Access.job? (a : Access) : Option Nat := match a.purpose with | .read j | .write j _ => some j | _ => none

/-- The accesses of a job that have not been served are withdrawn. -/
def dropAccesses (id : Nat) (s : State) : State :=
  let keep := fun a : Access => a.job? != some id
  forEach (List.range 128) (fun h s =>
    if (s.hc h).pending.all keep then s
    else s.modHc h fun x => { x with
      intake := x.intake.filter keep, waiting := x.waiting.filter keep, queue := x.queue.filter keep, dropped := x.dropped.filter keep }) s

/-- A read that a write needs met an uncorrectable parcel: the write is abandoned whole and has changed nothing (R223, R240). -/
def jobFail (id : Nat) (s : State) : State := jobDone id (dropAccesses id (s.modJob id fun j => { j with bad := true }))

/-- A read that the writes of a job wait for is done. -/
def jobRead (id : Nat) (s : State) : State := s.modJob id fun j => { j with reads := j.reads - 1 }

/-- One part of a job failed on an uncorrectable parcel or a poisoned line. -/
def jobBad (id : Nat) (s : State) : State := jobPart id (s.modJob id fun j => { j with bad := true })

/-- A line returned to a job. -/
def jobLine (id n : Nat) (data : List Byte) (s : State) : State :=
  jobPart id (s.modJob id fun j => { j with got := j.got.ins n data })

/-! ### Operations on a line (R367, R376, R381 to R385) -/

def opJob : LineOp → Option Nat
  | .read j | .write j _ | .probe j | .atomic j => some j
  | .refresh _ | .preload => none

/-- The operation cannot be done: its job ends with NAK DATA_ERROR. -/
def opFail (op : LineOp) (s : State) : State :=
  match op with
  | .probe j | .write j _ => jobFail j s
  | .read j | .atomic j => jobBad j s
  | .refresh _ | .preload => s

/-- A line after the listed bytes were written over it. -/
def overlay (data : List Byte) (b : List (Option Byte)) : List Byte := (List.range 64).map fun i => ((b.getD i none).getD (data.getD i 0))

def coversLine (b : List (Option Byte)) : Bool := (List.range 64).all fun i => (b.getD i none).isSome

/-- The crossing a meter sees (R269). -/
def meterNow (s : State) : Nat := s.cross % 2 ^ 30

/-- What an operation makes of a line: the bytes it leaves, and whether it changes them. -/
def opEffect (s : State) (op : LineOp) (data : List Byte) : List Byte × Bool :=
  match op with
  | .read _ | .probe _ | .preload => (data, false)
  | .write _ b => (overlay data b, true)
  | .atomic j =>
    match s.job j with
    | some job => let r := aluRun job.entry.txn.hdr job.entry.txn.data data (meterNow s); (r.line, r.changed)
    | none => (data, false)
  | .refresh o =>
    let m := readMeter data o
    if 2 ≤ m.mode then (data, false) else (writeMeter data o (refreshMeter m (meterNow s)), true)

/-- The job's side of an operation done on a line that held data. -/
def opFinish (op : LineOp) (n : Nat) (data : List Byte) (s : State) : State :=
  match op with
  | .read j => jobLine j n data s
  | .write j _ => jobPart j s
  | .probe j => jobRead j s
  | .atomic j =>
    match s.job j with
    | some job =>
      let r := aluRun job.entry.txn.hdr job.entry.txn.data data (meterNow s)
      jobPart j (s.setJob j { job with status := r.status, result := r.result, len := r.data.length, got := [(0, r.data)] })
    | none => s
  | .refresh _ | .preload => s

/-- The numbers of an operation's job. -/
def opMarks (s : State) (op : LineOp) : List (Nat × Nat) :=
  match opJob op with | some j => (match s.job j with | some job => job.mark | none => []) | none => []

/-- The bytes a landing line stands for: a line of link words holds what the queue engines have written (R242). -/
def lineData (s : State) (n : Nat) (l : Line) : List Byte := if linkLine s n then rawLine s n else l.data

/-- An operation on a line that the landing holds.  Reads and atomics of a poisoned line fail; a write that covers it clears the poison
(R385). -/
def onLine (n : Nat) (l : Line) (op : LineOp) (s : State) : State :=
  let whole := match op with | .write _ b => coversLine b | _ => false
  let refused := match op with | .read _ | .atomic _ => true | _ => false
  if l.poisoned && refused then opFail op (touchWay n l.way s)
  else
    let data := lineData s n l
    let r := opEffect s op data
    let marks := opMarks s op
    let s1 := if r.2 then validate (n / 4) marks s else s
    let l1 := (lineAt s1 n).getD l
    let s2 := if r.2 then
        setLine n { l1 with data := r.1, st := (if l1.st = .gathered then .gathered else .dirty), poisoned := l1.poisoned && !whole, written := s1.landing.writes, wseqs := l1.wseqs ++ marks }
          (forEach marks wseqHold { s1 with landing := { s1.landing with writes := s1.landing.writes + 1 } })
      else s1
    opFinish op n data (touchWay n l.way s2)

/-- Operations done on a line that is not kept, one after the other: the bytes left, the numbers of those that changed it, and whether any
did. -/
def offOps (n : Nat) : List LineOp → List Byte → List (Nat × Nat) → Bool → State → (List Byte × List (Nat × Nat) × Bool) × State
  | [], data, marks, dirty, s => ((data, marks, dirty), s)
  | op :: t, data, marks, dirty, s =>
    let r := opEffect s op data
    let mine := if r.2 then opMarks s op else []
    offOps n t r.1 (marks ++ mine) (dirty || r.2) (opFinish op n data (forEach mine wseqHold s))

/-- Operations on a line that is not kept: what they change goes out at once as one write-back, which stands where their fill stood among
the accesses (R274, R380, R384). -/
def offLine (g n seq : Nat) (ops : List LineOp) (data : List Byte) (s : State) : State :=
  let r := offOps n ops data [] false s
  if r.1.2.2 then
    let l : Line := { way := 0, data := r.1.1, st := .gathered, poisoned := false, region := g, epoch := 0, written := 0, wseqs := r.1.2.1 }
    pushAt seq ownPort 0 false true true false (n / 4) (2 ^ (n % 4)) (.writeBack [n] [(n, l)]) r.2
  else r.2

/-- The same for a line that needs no fill. -/
def offLineNow (g n : Nat) (op : LineOp) (data : List Byte) (s : State) : State :=
  offLine g n s.dram.nextSeq [op] data { s with dram := { s.dram with nextSeq := s.dram.nextSeq + 1 } }

/-- The operation would dirty a line. -/
def opDirties (s : State) (op : LineOp) (data : List Byte) : Bool := (opEffect s op data).2

/-- The limit of dirty lines in a slice (R383). -/
def dirtyLimit : Nat := 16384

/-- Held at the dirty limit (R383). -/
def stall (n fc : Nat) (op : LineOp) (s : State) : State :=
  causeOnce Cause.LDG_dirty_stall 0 (({ s with landing := { s.landing with stalled := s.landing.stalled ++ [(n, fc, op)] } }).addSat LDG_DIRTY_STALLS 1)

def atLimit (s : State) (n : Nat) : Bool := decide (dirtyLimit ≤ dirtyIn s (sliceOf n))

/-- A miss takes an entry and issues its fill, or waits for an entry of its slice (R381). -/
def takeMiss (g n fc : Nat) (alloc : Bool) (op : LineOp) (s : State) : State :=
  if 64 ≤ (s.landing.misses.filter fun m => sliceOf m.line == sliceOf n).length then
    { s with landing := { s.landing with queued := s.landing.queued ++ [(n, fc, op)] } }
  else
    pushAccess ownPort fc false false false false (n / 4) (2 ^ (n % 4)) (.fill n)
      { s with landing := { s.landing with misses := s.landing.misses ++ [⟨n, fc, g, alloc, s.dram.nextSeq, none, [op]⟩] } }

/-- The 256 places of a parcel with a line's bytes. -/
def linePlaces (n : Nat) (b : List (Option Byte)) : List (Option Byte) :=
  (List.range 256).map fun i => if i / 64 = n % 4 then b.getD (i % 64) none else none

/-- A write or read that a landing without ways passes to the scheduler as a bypass region would (R380). -/
def passBy (port fc : Nat) (panic : Bool) (n : Nat) (op : LineOp) (s : State) : State :=
  match op with
  | .write j b => pushAccess port fc panic true (parcelValid s (n / 4)) false (n / 4) (2 ^ (n % 4)) (.write j (linePlaces n b)) s
  | .read j => pushAccess port fc panic false false false (n / 4) (2 ^ (n % 4)) (.read j) s
  | _ => s

/-- The line's region keeps lines in the landing, or the line is one of link words or of a valid map (R376, R377). -/
def keepsLine (s : State) (n : Nat) : Bool :=
  match regionOver s (64 * n) with
  | some g => rgnPolicy s g != 0 || !plainLine s g n
  | none => false

def countHit (g : Nat) (count : Bool) (s : State) : State := if count then (s.add48 LDG_HIT_LO 1).addSat (LDG_RGN_HIT g) 1 else s
def countMiss (g : Nat) (count : Bool) (s : State) : State := if count then (s.add48 LDG_MISS_LO 1).addSat (LDG_RGN_MISS g) 1 else s
def countNoWay (s : State) : State := causeOnce Cause.LDG_no_way 0 (s.addSat LDG_NOWAY 1)

/-- One line of a request looked up in its slice (R376, R380, R381, R383).  `keep` is false for an atomic of a bypass region.  A line is
zeros without a fill where its parcel was never written and no write of it waits (R367). -/
def lookupNow (port fc : Nat) (panic keep count : Bool) (n : Nat) (op : LineOp) (s0 : State) : State :=
  let s := s0.acted (512 + sliceOf n) 1
  let g := regionNumber s (64 * n)
  match lineAt s n with
  | some l =>
    let s1 := countHit g count s
    if l.st = .clean && opDirties s1 op (lineData s1 n l) && atLimit s1 n then stall n fc op s1 else onLine n l op s1
  | none =>
    let s1 := countMiss g count s
    let whole := match op with | .write _ b => coversLine b | _ => false
    let way := if keep then chooseWay s1 g fc n else none
    let empty := !parcelValid s1 (n / 4) && !pendingWrite s1 n
    if s1.landing.misses.any fun m => m.line == n then
      { s1 with landing := { s1.landing with misses := s1.landing.misses.map fun m => if m.line = n then { m with ops := m.ops ++ [op] } else m } }
    else if empty || (whole && way.isSome) then
      let zeros := List.replicate 64 (0 : Byte)
      if !opDirties s1 op zeros then opFinish op n zeros s1
      else match way with
        | some w =>
          if atLimit s1 n then stall n fc op s1
          else
            let s2 := allocate g n w zeros .clean s1
            (match lineAt s2 n with | some l => onLine n l op s2 | none => s2)
        | none => offLineNow g n op zeros (if keep then countNoWay s1 else s1)
    else match way, keep with
      | some _, _ => takeMiss g n fc true op s1
      | none, false => takeMiss g n fc false op s1
      | none, true =>
        let s2 := countNoWay s1
        (match op with
         | .write _ _ => passBy port fc panic n op s2
         | _ => takeMiss g n fc false op s2)

/-- A lookup that keeps the order of operations on one line: it waits behind those that stall at the dirty limit or wait for a miss
entry. -/
def lookup (port fc : Nat) (panic keep : Bool) (n : Nat) (op : LineOp) (s : State) : State :=
  if s.landing.stalled.any fun q => q.1 == n then stall n fc op s
  else if s.landing.queued.any fun q => q.1 == n then { s with landing := { s.landing with queued := s.landing.queued ++ [(n, fc, op)] } }
  else lookupNow port fc panic keep true n op s

/-- The port and panic bit of an operation's request. -/
def opSource (s : State) (op : LineOp) : Nat × Bool :=
  match (opJob op).bind s.job with | some j => (j.port, j.entry.txn.hdr.panic) | none => (ownPort, false)

/-- An operation that waited is looked up. -/
def lookupWaiting (q : Nat × Nat × LineOp) (s : State) : State :=
  let src := opSource s q.2.2
  lookupNow src.1 q.2.1 src.2 (keepsLine s q.1) true q.1 q.2.2 s

/-! ### Writes of several lines (R223, R274, R376) -/

/-- The line can be written without reading its parcel: the landing holds it, or allocates it for a write that covers it, or it is zeros. -/
def writeReady (s : State) (fc n : Nat) (b : List (Option Byte)) : Bool :=
  (lineAt s n).isSome || (!parcelValid s (n / 4) && !pendingWrite s n) ||
    (coversLine b && keepsLine s n && (chooseWay s (regionNumber s (64 * n)) fc n).isSome)

/-- A line of a job's plan is brought in; one that finds no way is written as in a bypass region (R380). -/
def planLine (id : Nat) (x : Nat × Bool × List (Option Byte)) (s : State) : State :=
  match s.job id with
  | none => s
  | some j =>
    let n := x.1
    let h := j.entry.txn.hdr
    let g := regionNumber s (64 * n)
    let keep := keepsLine s n
    let others := j.plan.filter fun y => y.1 != n
    if keep && (chooseWay s g h.fc n).isSome then
      lookup j.port h.fc h.panic true n (.probe id) (s.setJob id { j with reads := j.reads + 1, plan := others ++ [(n, true, x.2.2)] })
    else
      let s1 := if keep && !x.2.1 then countNoWay (countMiss g true s) else s
      pushAccess j.port h.fc h.panic true true false (n / 4) (2 ^ (n % 4)) (.write id (linePlaces n x.2.2))
        (s1.setJob id { j with reads := j.reads + 1, plan := others })

/-- The planned lines of a job are written together once none of them needs a read any more, so that a read that fails leaves all as it
was (R223). -/
def runPlan (id : Nat) (s : State) : State :=
  match s.job id with
  | none => s
  | some j =>
    if j.reads ≠ 0 || j.plan.isEmpty then s
    else
      let h := j.entry.txn.hdr
      let wait := j.plan.filter fun x => !writeReady s h.fc x.1 x.2.2
      if wait.isEmpty then
        forEach j.plan (fun x s => lookupNow j.port h.fc h.panic (keepsLine s x.1) (!x.2.1) x.1 (.write id x.2.2) s) (s.setJob id { j with plan := [] })
      else forEach wait (planLine id) s

/-- Every job whose reads are done goes on with its plan. -/
def runPlans (s : State) : State := forEach ((s.svc.jobs.filter fun p => p.2.reads == 0 && !p.2.plan.isEmpty).map fun p => p.1) runPlan s

/-- SRAM errors found on lines of an access: single-bit errors are corrected; a double one invalidates a clean line or poisons a
dirty one (R385). -/
def sramError (n : Nat) (double : Bool) (s : State) : State :=
  match lineAt s n with
  | none => s
  | some l =>
    if !double then (s.addSat LDG_SRAM_CE 1).cause Cause.LDG_sram_ce
    else
      let s1 := (s.addSat LDG_SRAM_UE 1).cause Cause.LDG_sram_ue
      if l.st = .clean then dropLine n s1
      else
        let p := placeOf s (64 * n)
        eccLog ⟨EccKind.lost, EccSource.request, p, 2 ^ (n % 4 * 2) + 2 ^ (n % 4 * 2 + 1), 63, 0, rgnModeB s l.region, 0, l.region⟩
          (setLine n { l with poisoned := true } s1)

/-! ### Fills, cleaning and flushes (R381, R383, R386, R387) -/

/-- The operations of a miss done on a line that the fill allocated; each may stall, and one behind a stalled one stalls too. -/
def runOps (n fc seq : Nat) : List LineOp → State → State
  | [], s => s
  | op :: t, s =>
    runOps n fc seq t
      (match lineAt s n with
       | some l =>
         if (s.landing.stalled.any fun q => q.1 == n) || (l.st = .clean && opDirties s op (lineData s n l) && atLimit s n) then stall n fc op s
         else onLine n l op s
       | none => offLine (regionNumber s (64 * n)) n seq [op] (underLine s n) s)

/-- Operations of a slice that wait for a miss entry proceed in order while they can; those on one line keep their order (R381). -/
def nextQueued (slice : Nat) (s : State) : State :=
  forEach (s.landing.queued.filter fun q => sliceOf q.1 == slice) (fun q s =>
    let n := q.1
    let first := (s.landing.queued.find? fun x => x.1 == n) == some q
    let room := (lineAt s n).isSome || (s.landing.misses.any fun m => m.line == n) ||
      decide ((s.landing.misses.filter fun m => sliceOf m.line == slice).length < 64)
    if first && room then lookupWaiting q { s with landing := { s.landing with queued := s.landing.queued.erase q } } else s) s

/-- A returned fill allocates its line and serves the requests that wait on it; an uncorrectable one allocates nothing (R381). -/
def fillArrive (s : State) : State :=
  match s.landing.misses.find? fun m => m.back.isSome with
  | none => s
  | some m =>
    let s1 := { s with landing := { s.landing with misses := s.landing.misses.erase m } }
    let s2 := match m.back with
      | some (some data) =>
        (match (if m.alloc then chooseWay s1 m.region m.fc m.line else none) with
         | some w => runOps m.line m.fc m.seq m.ops (allocate m.region m.line w data .clean s1)
         | none => offLine m.region m.line m.seq m.ops data s1)
      | _ => (forEach m.ops opFail s1).cause Cause.LDG_fill_error
    runPlans (nextQueued (sliceOf m.line) s2)

/-- The least recently written dirty line of a slice. -/
def oldestDirty (s : State) (slice : Nat) : Option Nat :=
  (s.landing.lines.foldl (fun (b : Option (Nat × Nat)) p =>
    if sliceOf p.1 == slice && p.2.st == .dirty then
      match b with | some (_, w) => if p.2.written < w then some (p.1, p.2.written) else b | none => some (p.1, p.2.written)
    else b) none).map fun b => b.1

/-- The first stalled operation of a slice tried again, and the reads behind it on its line. -/
def unstall (slice : Nat) (s : State) : State :=
  match s.landing.stalled.find? fun q => sliceOf q.1 == slice with
  | none => s
  | some q =>
    if dirtyLimit ≤ dirtyIn s slice then s
    else
      let s1 := lookupWaiting q { s with landing := { s.landing with stalled := s.landing.stalled.erase q } }
      forEach (s1.landing.stalled.filter fun x => x.1 == q.1) (fun x s =>
        let dirty := match lineAt s x.1 with | some l => l.st == .dirty || !opDirties s x.2.2 (lineData s x.1 l) | none => false
        if dirty && (s.landing.stalled.find? fun y => y.1 == x.1) == some x then
          lookupWaiting x { s with landing := { s.landing with stalled := s.landing.stalled.erase x } }
        else s) s1

/-- The cleaning of a slice: one write-back every 4 cycles above the threshold (R383). -/
def cleanSlice (slice : Nat) (s : State) : State :=
  let s1 :=
    if min dirtyLimit (s.get LDG_CTRL_wb_thr) < dirtyIn s slice then
      match oldestDirty s slice with | some n => writeBack n s | none => s
    else s
  unstall slice s1

/-- Operations of LDG_OP_CTRL. -/
def LdgKind.clean : Nat := 0
def LdgKind.invalidate : Nat := 1
def LdgKind.preload : Nat := 2
def LdgKind.discard : Nat := 3

/-- Lines of a region, or of the whole landing. -/
def linesOf (s : State) (all : Bool) (g : Nat) : List (Nat × Line) := s.landing.lines.filter fun p => all || p.2.region == g

/-- Write-backs queued for every dirty line listed; answers the lines whose write-back is under way. -/
def flushStart (l : List (Nat × Line)) (s : State) : List Nat × State :=
  let s1 := forEach l (fun p s => match lineAt s p.1 with | some x => if x.st = .dirty then writeBack p.1 s else s | none => s) s
  ((l.filter fun p => p.2.st != .clean).map fun p => p.1, s1)

/-- Fills issued before an INVALIDATE or DISCARD of their region allocate no line (R389). -/
def noAlloc (all : Bool) (g : Nat) (s : State) : State :=
  { s with landing := { s.landing with misses := s.landing.misses.map fun m => if all || m.region == g then { m with alloc := false } else m } }

/-- Lines dropped without write-back: dirty ones are counted (R386, R387). -/
def discardLines (l : List (Nat × Line)) (s : State) : State :=
  let n := (l.filter fun p => p.2.st == .dirty).length
  let s1 := forEach l (fun p s => closeAll p.2.wseqs (dropLine p.1 s)) s
  if n = 0 then s1 else (s1.addSat LDG_DISCARDED n).cause Cause.LDG_dirty_discarded

/-- The operation ends with a result (R386, R389). -/
def ldgEnd (result : Nat) (s : State) : State :=
  (((({ s with landing := { s.landing with op := none } }.put LDG_OP_CTRL_go 0).put LDG_OP_STATUS_result result).put LDG_OP_STATUS_busy 0).put
    LDG_STATUS_op_busy 0).cause Cause.LDG_flush_done

/-- Results of LDG_OP_STATUS. -/
def LdgResult.done : Nat := 1
def LdgResult.notPinned : Nat := 2
def LdgResult.aborted : Nat := 3

/-- An operation of R386 begins; one that runs goes on (R389). -/
def ldgStart (op g : Nat) (all : Bool) (s : State) : State :=
  if s.landing.op.isSome then s
  else
    let s0 := (((s.put LDG_OP_CTRL_go 1).put LDG_OP_STATUS_busy 1).put LDG_STATUS_op_busy 1).put LDG_STATUS_region g
    if op = LdgKind.discard then ldgEnd LdgResult.done (discardLines (linesOf s0 all g) (noAlloc all g s0))
    else if op = LdgKind.preload then
      (if rgnPolicy s g = 2 && rgnLive s g then { s0 with landing := { s0.landing with op := some ⟨op, g, false, []⟩ } }
       else ldgEnd LdgResult.notPinned s0)
    else
      let (left, s1) := flushStart (linesOf s0 all g) (if op = LdgKind.invalidate then noAlloc all g s0 else s0)
      { s1 with landing := { s1.landing with op := some ⟨op, g, all, left⟩ } }

/-- The way that a PRELOAD may fill a line into: an absent line, and a pin way that holds an invalid or non-pinned line (R386). -/
def preloadWay (s : State) (g m : Nat) : Option (Nat × Option Nat × Bool) :=
  if (lineAt s m).isSome then none else (chooseWay s g 0 m).filter fun w => !w.2.2

/-- One parcel of a PRELOAD: its absent lines are allocated while the pin ways of their sets hold invalid or other lines; an uncorrectable one
allocates none (R381, R386). -/
def preloadParcel (g n : Nat) (s : State) : State :=
  let lines := (List.range 4).map fun k => 4 * n + k
  if lines.all fun m => (preloadWay s g m).isNone then s
  else
    let (r, s1) := if parcelValid s n then readParcel EccSource.request 0 n true true [] s else (some (List.replicate 256 (0 : Byte)), s)
    match r with
    | none => s1.cause Cause.LDG_fill_error
    | some d => forEach lines (fun m s =>
        match preloadWay s g m with
        | some w => allocate g m w ((heldLine s m).getD ((d.drop (m % 4 * 64)).take 64)) .clean s
        | none => s) s1

/-- Every line listed leaves the landing, dirty ones by a write-back. -/
def invalidateLines (l : List (Nat × Line)) (s : State) : State := forEach l (fun p s => evict p.1 s) s

/-- The running operation has reached its end (R386); a write-back still under way keeps it. -/
def ldgFinish (s : State) : State :=
  match s.landing.op with
  | none => s
  | some o =>
    if !o.left.isEmpty then s
    else if o.op = LdgKind.preload then
      ldgEnd LdgResult.done (forEach ((List.range (rgnSize s o.region / 256)).map fun i => rgnBase s o.region / 256 + i) (preloadParcel o.region) s)
    else if o.op = LdgKind.invalidate then ldgEnd LdgResult.done (invalidateLines (linesOf s o.all o.region) s)
    else ldgEnd LdgResult.done s

/-- A line's write-back has reached its die: operations that waited for it go on. -/
def flushedLine (n : Nat) (s : State) : State :=
  let s1 := { s with landing := { s.landing with
    op := s.landing.op.map fun o => { o with left := o.left.filter fun m => m != n }
    entryFlush := s.landing.entryFlush.map fun l => l.filter fun m => m != n
    flushes := s.landing.flushes.map fun p => (p.1, p.2.filter fun m => m != n) } }
  forEach (s1.landing.flushes.filter fun p => p.2.isEmpty) (fun p s =>
    invalidateLines (linesOf s false p.1) { s with landing := { s.landing with flushes := s.landing.flushes.erase p.1 } }) s1

/-- A change of landing policy from allocate or pinned to bypass flushes the region's lines (R387). -/
def policyFlush (g : Nat) (s : State) : State :=
  let (left, s1) := flushStart (linesOf s false g) s
  if left.isEmpty then invalidateLines (linesOf s1 false g) s1
  else { s1 with landing := { s1.landing with flushes := s1.landing.flushes.ins g left } }

/-- The INVALIDATE of the whole landing that a mode entry runs; a host operation ends ABORTED (R388, R389). -/
def entryFlushStart (s : State) : State :=
  let s1 := if s.landing.op.isSome then ldgEnd LdgResult.aborted s else s
  let (left, s2) := flushStart (linesOf s1 true 0) (noAlloc true 0 s1)
  { s2 with landing := { s2.landing with entryFlush := some left } }

/-- The entry flush ends: every line leaves and the SRAM is powered down. -/
def entryFlushEnd (s : State) : State :=
  { s with landing := { s.landing with lines := [], plru := [], entryFlush := none } }.put LDG_STATUS_powered_down 1

/-- A region's lines are lost at a switch that changes it (R387). -/
def regionEpoch (g : Nat) (s : State) : State :=
  let s1 := { s with svc := { s.svc with epochs := KMap.put (fun _ => 0) s.svc.epochs g (KMap.get (fun _ => 0) s.svc.epochs g + 1) } }
  discardLines (linesOf s1 false g) (noAlloc false g s1)

/-- A slice is flushing (R386). -/
def sliceFlushing (s : State) (slice : Nat) : Bool :=
  let hit := fun l : List Nat => l.any fun n => sliceOf n == slice
  (match s.landing.op with
   | some o => (o.op == LdgKind.clean || o.op == LdgKind.invalidate) && (linesOf s o.all o.region).any fun p => sliceOf p.1 == slice
   | none => false) ||
    s.landing.flushes.any (fun p => hit p.2) || (match s.landing.entryFlush with | some l => hit l | none => false)

/-- The word LDG_SLICE_DATA shows for a slice. -/
def sliceWord (s : State) (slice : Nat) : Word :=
  BitVec.ofNat 32 ((s.landing.misses.filter fun m => sliceOf m.line == slice).length * 2 ^ 25 + boolNat (sliceFlushing s slice) * 2 ^ 16 + dirtyIn s slice)

/-- Reset of the landing: every line is lost; a running operation ends ABORTED at START (R388, R389). -/
def landingReset (s : State) : State :=
  { s with landing := { lines := [], plru := [], misses := [], queued := [], stalled := [], op := none, flushes := [], entryFlush := none,
                        writes := 0, disabled := s.landing.disabled, shown := [] } }

end Sys2Proof.Machine
end

