-- ==== Sys2Proof/Machine/Queues.lean ====
section
/-!
DEFINITION. Machine/Queues.lean: parcel pools and queues: allocation, ENQ, DEQ, PEEK, DROP, MOVE, watermarks, rebuilds and the
indirect access to queue entries (R243 to R262, R275).
-/
set_option autoImplicit false

namespace Sys2Proof.Machine
open Reg Bit

/-! ### Profiles (R252) -/

def profEnabled (s : State) (k : Nat) : Bool := s.flag (SVC_PROF_CFG_enable k)
def profPool (s : State) (k : Nat) : Nat := s.get (SVC_PROF_CFG_pool k)
def profStrict (s : State) (k : Nat) : Bool := s.flag (SVC_PROF_CFG_strict k)
def profLimit (s : State) (k : Nat) : Nat := let v := s.get (SVC_PROF_LIMIT_limit k); if v = 0 then 0xFFFFFF else v
def profHigh (s : State) (k : Nat) : Nat := s.get (SVC_PROF_WMHI_wm_hi k)
def profLow (s : State) (k : Nat) : Nat := min (s.get (SVC_PROF_WMLO_wm_lo k)) (profHigh s k)

/-- The pool of a queue, where its profile is enabled and names a live pool region. -/
def queuePool (s : State) (q : Nat) : Option Nat :=
  let k := (s.queue q).profile
  let g := profPool s k
  if profEnabled s k && rgnLive s g && rgnType s g == 1 then some g else none

/-! ### Free lists (R243 to R247) -/

def listAt (s : State) (g h : Nat) : FreeList := KMap.get (fun _ => FreeList.reset) (s.pool g).lists h
def setList (g h : Nat) (l : FreeList) (s : State) : State :=
  s.modPool g fun p => { p with lists := KMap.put (fun _ => FreeList.reset) p.lists h l }

/-- The parcel's row or bank is retired now. -/
def parcelRetired (s : State) (g i : Nat) : Bool := rowRetired s (placeOf s (poolAddr s g i))

/-- A list without the retired parcels above its first good one: they are skipped when they are found (R371). -/
def skipRetired (s : State) (g h : Nat) (l : FreeList) : FreeList :=
  let kept := l.pushed.dropWhile (parcelRetired s g)
  let gone := l.pushed.length - kept.length
  if !kept.isEmpty then { l with pushed := kept, count := l.count - gone }
  else
    let top := poolParcels s g
    let next := (scan (fun j => poolHc s g j == h && !leftOut s g j && !parcelRetired s g j) (top - l.next) l.next).getD top
    let skipped := ((List.range (next - l.next)).filter fun k => poolHc s g (l.next + k) == h && !leftOut s g (l.next + k)).length
    { l with pushed := [], next := next, count := l.count - gone - skipped }

/-- The top of a list whose retired parcels were skipped, with the list after it was taken. -/
def popTop (s : State) (g h : Nat) (l : FreeList) : Option (Nat × FreeList) :=
  match l.pushed with
  | i :: t => some (i, { l with pushed := t, count := l.count - 1 })
  | [] => (freshFrom s g h l.next).map fun i => (i, { l with next := i + 1, count := l.count - 1 })

/-- The info of E225 to E227. -/
def poolInfo (g h : Nat) : Nat := g * 256 + h

/-- A list becomes shorter: POOL_LOW when it falls below the threshold, once until it has been back at it, and POOL_DRY when it becomes
empty (R247). -/
def shortenList (g h : Nat) (l : FreeList) (s : State) : State :=
  let old := listAt s g h
  let thr := s.get (SVC_POOL_CFG_low_thr g)
  let armed := !old.low || decide (thr ≤ old.count)
  let falls := armed && decide (l.count < thr ∧ l.count < old.count)
  let s1 := setList g h { l with low := !armed || falls } s
  let s2 := if falls then s1.causeWith Cause.SVC_pool_low (poolInfo g h) else s1
  if l.count = 0 ∧ old.count ≠ 0 then s2.causeWith Cause.SVC_pool_dry (poolInfo g h) else s2

/-- What an allocation finds (R245). -/
inductive Alloc where
  | got (parcel hc : Nat) (displaced : Bool)
  | dry
  | empty
  deriving DecidableEq, Repr

/-- The rotation position of a queue. -/
def rotOf (s : State) (q g : Nat) : Nat :=
  let n := (rotation s g).length
  match (s.queue q).rot with | some r => r | none => if n = 0 then 0 else q % n

/-- A parcel for a queue at its rotation position under its profile's dry policy (R245). -/
def allocParcel (q g : Nat) (strict : Bool) (s : State) : Alloc × State :=
  let order := rotation s g
  let n := order.length
  let p := rotOf s q g
  let next := if n = 0 then 0 else (p + 1) % n
  let hc := fun i => order.getD (i % n) 0
  let trim := fun (i : Nat) (s : State) => shortenList g (hc i) (skipRetired s g (hc i) (listAt s g (hc i))) s
  let try_ := fun (s : State) i => (popTop s g (hc i) (listAt s g (hc i))).map fun r => (hc i, r)
  let take := fun (h : Nat) (r : Nat × FreeList) (disp : Bool) (s : State) =>
    let s1 := (shortenList g h r.2 s).modQueue q fun x => { x with rot := some next }
    (Alloc.got r.1 h disp, if disp then s1.addSat (SVC_POOL_SKIPS g) 1 else s1)
  if n = 0 then (.empty, s)
  else
    let s0 := trim p s
    match try_ s0 p with
    | some (h, r) => take h r false s0
    | none =>
      let rest := (List.range (n - 1)).map fun i => p + 1 + i
      let s1 := forEach rest (fun i s => if (rest.takeWhile (fun j => j != i)).any (fun j => (try_ s j).isSome) then s else trim i s) s0
      match rest.findSome? (try_ s1) with
      | none => (.empty, s1)
      | some (h, r) => if strict then (.dry, s1) else take h r true s1

/-! ### Link words through the landing -/

/-- A link word written by an engine (R242, R377). -/
def putLink (g i : Nat) (l : Link) (s : State) : State := setLinkWord g i (packLink l) (touchLink g i true s)
def linkOf (s : State) (g i : Nat) : Link := unpackLink (linkWord s g i)

/-- The parcels of a queue from its head on, n of them. -/
def chain (s : State) (g : Nat) : Nat → Nat → List Nat
  | 0, _ => []
  | n + 1, i => i :: chain s g n (linkOf s g i).next

/-- The parcels from the head through the first with eop; none where no queued parcel carries it. -/
def headPacket (s : State) (g : Nat) (l : List Nat) : Option (List Nat) :=
  let before := l.takeWhile fun i => !(linkOf s g i).eop
  if before.length < l.length then some (l.take (before.length + 1)) else none

/-! ### Watermarks (R261, R262) -/

/-- Kinds of a QSTATE record. -/
def Record.high : Nat := 1
def Record.low : Nat := 2
def Record.full : Nat := 3

/-- A record of a queue, kept until the boundary. -/
def pushRecord (q kind : Nat) (s : State) : State :=
  let x := s.queue q
  if !s.flag (SVC_PROF_CFG_qstate_en x.profile) then s
  else
    let v := kind * 2 ^ 124 + q % 2 ^ 18 * 2 ^ 104 + x.profile * 2 ^ 99 + x.count % 2 ^ 24 * 2 ^ 72 + s.cross % 2 ^ 48
    { s with svc := { s.svc with records := s.svc.records ++ [(s.get (SVC_PROF_CFG_qstate_port x.profile), bytesBE 16 v)] } }

/-- A count that rose above the high watermark while NORMAL. -/
def wmRise (q : Nat) (s : State) : State :=
  let x := s.queue q
  if x.wm = 0 && decide (profHigh s x.profile < x.count) then pushRecord q Record.high (s.setQueue q { x with wm := 1 }) else s

/-- A count that fell below the low watermark while HIGH or FULL. -/
def wmFall (q : Nat) (s : State) : State :=
  let x := s.queue q
  if x.wm ≠ 0 && decide (x.count < profLow s x.profile) then pushRecord q Record.low (s.setQueue q { x with wm := 0 }) else s

/-- A refusal with Q_FULL. -/
def wmFull (q : Nat) (s : State) : State :=
  let x := s.queue q
  let s1 := if x.wm ≠ 2 then pushRecord q Record.full (s.setQueue q { x with wm := 2 }) else s
  s1.cause Cause.SVC_q_full_drop

/-- At the boundary the records leave in QSTATE notices, four to a notice; those of a port that takes none are lost (R261). -/
def sendRecords (s : State) : State :=
  let s0 := { s with svc := { s.svc with records := [] } }
  forEach (List.range 16) (fun p s1 =>
    let mine := (s.svc.records.filter fun r => r.1 == p).map fun r => r.2
    if mine.isEmpty then s1
    else if s1.stage p ≠ 7 || !s1.flag (UZ_CTRL_ntf_en p) || !isV2 s1 p then s1.addSat SVC_QSTATE_LOST mine.length
    else forEach (List.range ((mine.length + 3) / 4)) (fun k s1 => pushNotice p 0x31 ((mine.drop (4 * k)).take 4).flatten s1) s1) s0

/-! ### ENQ (R253, R254) -/

/-- The open packet of a queue is closed as truncated (R253). -/
def closeTruncated (q g : Nat) (s : State) : State :=
  let x := s.queue q
  let s1 := s.setQueue q { x with opened := false }
  let s2 := if x.count = 0 then s1 else
      let l := linkOf s1 g x.tail
      putLink g x.tail { l with eop := true, truncated := true } s1
  (s2.addSat SVC_PKT_TRUNC 1).cause Cause.SVC_pkt_truncated

/-- Writing the parcel of an ENQ: bytes past the stored ones are free (log entry 2). -/
def enqWrite (p : Nat) (e : Entry) (g i result : Nat) (s : State) : State :=
  let h := e.txn.hdr
  let n := poolAddr s g i / 256
  let body := (e.txn.data.take h.len ++ bytesBE (256 - h.len) (s.drawn (8 * (256 - h.len)))).map some
  let s0 := s.drew
  if rgnPolicy s g = 0 then
    let (id, s1) := newJob p e .enq 1 none s0
    pushAccess p h.fc h.panic true false false n 15 (.write id body) (s1.modJob id fun j => { j with result := result })
  else
    let (id, s1) := newJob p e .enq 4 none s0
    forEach (List.range 4) (fun k s => lookup p h.fc h.panic true (4 * n + k) (.write id ((body.drop (64 * k)).take 64)) s)
      (s1.modJob id fun j => { j with result := result })

/-- An ENQ refused: it counts, and the packet it belonged to is closed or discarded (R254). -/
def enqRefuse (p : Nat) (e : Entry) (q g status : Nat) (s : State) : State :=
  let sop := natBit e.txn.hdr.aux 0
  let eop := natBit e.txn.hdr.aux 1
  let s1 := if !sop && (s.queue q).opened then closeTruncated q g s else s
  let s2 := if eop then s1 else s1.modQueue q fun x => { x with discard := true }
  let s3 := if status = Status.qFull then wmFull q s2 else s2
  let s4 := if status = Status.poolEmpty && !s3.svc.exhausted.contains g then
      { s3 with svc := { s3.svc with exhausted := g :: s3.svc.exhausted } }.causeWith Cause.SVC_pool_exhausted (g * 256)
    else s3
  answer p e status 0 [] (s4.addSat SVC_ENQ_DROPS 1)

/-- The parcel stored and linked at the tail. -/
def enqStore (p : Nat) (e : Entry) (q g i hc : Nat) (displaced : Bool) (s : State) : State :=
  let h := e.txn.hdr
  let x := s.queue q
  let link : Link := { next := noParcel, len := h.len, sop := natBit h.aux 0, eop := natBit h.aux 1, truncated := false, displaced := displaced,
                       info := h.aux / 256 % 256 }
  let s1 := if x.count = 0 then s else putLink g x.tail { linkOf s g x.tail with next := i } s
  let s2 := (putLink g i link s1).setQueue q { x with
    head := if x.count = 0 then i else x.head
    tail := i
    count := x.count + 1
    bytes := min 0xFFFFFFFF (x.bytes + h.len)
    opened := !natBit h.aux 1
    discard := if natBit h.aux 0 then false else x.discard }
  enqWrite p e g i (hc % 128 + 128 * boolNat displaced) (wmRise q s2)

/-- ENQ (R253, R254). -/
def enqRun (p : Nat) (e : Entry) (g : Nat) (s : State) : State :=
  let h := e.txn.hdr
  let q := h.addr
  let x := s.queue q
  let sop := natBit h.aux 0
  let eop := natBit h.aux 1
  if (s.pool g).rebuilding then answer p e Status.poolRebuild 0 [] s
  else if !sop && (x.discard || !x.opened) then
    answer p e Status.pktDiscard 0 [] ((s.modQueue q fun y => { y with discard := y.discard && !eop }).addSat SVC_ENQ_DROPS 1)
  else
    let s1 := if sop && x.opened then closeTruncated q g s
      else if sop then s.modQueue q fun y => { y with discard := false } else s
    if x.count = profLimit s x.profile then enqRefuse p e q g Status.qFull s1
    else match allocParcel q g (profStrict s1 x.profile) s1 with
      | (.got i hc disp, s2) => enqStore p e q g i hc disp s2
      | (.dry, s2) => enqRefuse p e q g Status.hcDry s2
      | (.empty, s2) => enqRefuse p e q g Status.poolEmpty s2

/-! ### DEQ and PEEK (R255 to R257) -/

/-- The result bits of R255. -/
def deqResult (l : Link) (opened nowEmpty : Bool) : Nat :=
  boolNat l.sop + 2 * boolNat l.eop + 4 * boolNat l.truncated + 8 * boolNat l.displaced + 16 * boolNat opened + 32 * boolNat nowEmpty + l.info * 256

/-- The read of a parcel for a DEQ or PEEK. -/
def deqRead (p : Nat) (e : Entry) (kind : JobKind) (g i : Nat) (l : Link) (result : Nat) (frees : Option (Nat × Nat)) (s : State) : State :=
  let h := e.txn.hdr
  let n := poolAddr s g i / 256
  let (id, s1) := newJob p e kind 4 none s
  let s2 := s1.modJob id fun j => { j with result := result, len := l.len, frees := frees }
  if rgnPolicy s g = 0 then pushAccess p h.fc h.panic false false l.displaced n 15 (.read id) s2
  else forEach (List.range 4) (fun k s => lookup p h.fc h.panic true (4 * n + k) (.read id) s) s2

/-- DEQ (R255 to R257). -/
def deqRun (p : Nat) (e : Entry) (g : Nat) (s : State) : State :=
  let q := e.txn.hdr.addr
  let x := s.queue q
  let l := linkOf s g x.head
  if (s.pool g).rebuilding then answer p e Status.poolRebuild 0 [] s
  else if x.count = 0 then answer p e Status.empty (16 * boolNat x.opened + 32) [] s
  else if natBit e.txn.hdr.aux 0 && (l.sop || !x.midPacket) then answer p e Status.endOfPacket (16 * boolNat x.opened) [] s
  else
    let s1 := (touchLink g x.head false s).setQueue q { x with
      head := l.next, count := x.count - 1, bytes := x.bytes - l.len, midPacket := !l.eop }
    deqRead p e .deq g x.head l (deqResult l x.opened (x.count == 1)) (some (g, x.head)) (wmFall q s1)

/-- PEEK (R255 to R257). -/
def peekRun (p : Nat) (e : Entry) (g : Nat) (s : State) : State :=
  let x := s.queue e.txn.hdr.addr
  let l := linkOf s g x.head
  if (s.pool g).rebuilding then answer p e Status.poolRebuild 0 [] s
  else if x.count = 0 then answer p e Status.empty (16 * boolNat x.opened + 32) [] s
  else deqRead p e .peek g x.head l (deqResult l x.opened false) none (touchLink g x.head false s)

/-! ### DROP and MOVE (R258, R259) -/

/-- Parcels freed from the head of a queue. -/
def dropParcels (q g : Nat) (l : List Nat) (s : State) : State :=
  let x := s.queue q
  let bytes := l.foldl (fun b i => b + (linkOf s g i).len) 0
  let rest := match l.getLast? with | some i => (linkOf s g i).next | none => x.head
  let s1 := s.setQueue q { x with
    head := rest, count := x.count - l.length, bytes := x.bytes - bytes, opened := x.opened && decide (l.length < x.count) }
  wmFall q (forEach l (freeParcel g) s1)

/-- DROP (R258). -/
def dropRun (p : Nat) (e : Entry) (g : Nat) (s : State) : State :=
  let q := e.txn.hdr.addr
  let x := s.queue q
  let mode := e.txn.hdr.aux % 4
  let all := chain s g x.count x.head
  if (s.pool g).rebuilding then answer p e Status.poolRebuild 0 [] s
  else
    let l := if mode = 0 then all.take 1 else if mode = 1 then (headPacket s g all).getD all else all
    let s1 := if mode = 1 && (headPacket s g all).isNone && x.opened then s.modQueue q fun y => { y with discard := true } else s
    answer p e 0 (min 0xFFFF l.length) [] (if x.count = 0 then s1.modQueue q fun y => { y with opened := false } else dropParcels q g l s1)

/-- The parcels moved, with their link words marked displaced and joined to the tail of the destination. -/
def moveParcels (q d g : Nat) (l : List Nat) (s : State) : State :=
  match l.head?, l.getLast? with
  | some first, some last =>
    let x := s.queue q
    let bytes := l.foldl (fun b i => b + (linkOf s g i).len) 0
    let rest := (linkOf s g last).next
    let open_ := !(linkOf s g last).eop
    let s1 := s.setQueue q { x with head := rest, count := x.count - l.length, bytes := x.bytes - bytes }
    let s2 := forEach l (fun i s => putLink g i { linkOf s g i with displaced := true } s) s1
    let s3 := putLink g last { linkOf s2 g last with next := noParcel } s2
    let y := s3.queue d
    let s4 := if y.count = 0 then s3 else putLink g y.tail { linkOf s3 g y.tail with next := first } s3
    wmRise d (wmFall q (s4.setQueue d { y with
      head := if y.count = 0 then first else y.head
      tail := last
      count := y.count + l.length
      bytes := min 0xFFFFFFFF (y.bytes + bytes)
      opened := open_ }))
  | _, _ => s

/-- MOVE within a pool; the destination's pool is `gd` (R259). -/
def moveRun (p : Nat) (e : Entry) (g gd : Nat) (s : State) : State :=
  let q := e.txn.hdr.addr
  let d := ofBytesBE (e.txn.data.take 4) % 2 ^ 18
  let mode := (e.txn.data.getD 4 0).toNat
  let x := s.queue q
  let y := s.queue d
  let all := chain s g x.count x.head
  let packet := headPacket s g all
  let l := if mode = 0 then all.take 1 else packet.getD []
  let after := if q = d then y.count else y.count + l.length
  if (s.pool g).rebuilding || (s.pool gd).rebuilding then answer p e Status.poolRebuild 0 [] s
  else if g ≠ gd then answer p e Status.poolMismatch 0 [] s
  else if x.count = 0 then answer p e Status.empty 0 [] s
  else if mode ≠ 0 && packet.isNone then answer p e Status.srcOpen 0 [] s
  else if y.opened then answer p e Status.destOpen 0 [] s
  else if profLimit s y.profile < after then answer p e Status.qFull 0 [] (wmFull d s)
  else answer p e 0 (min 0xFFFF l.length) [] (moveParcels q d g l s)

/-! ### Rebuild (R249) -/

/-- A pool relinked and its queues emptied.  A parcel that a running DEQ still reads is listed here and not freed again (R248). -/
def relink (g : Nat) (s0 : State) : State :=
  let s := forEach s0.svc.jobs (fun p s => s.modJob p.1 fun j => { j with frees := j.frees.filter fun f => f.1 != g }) s0
  let banks := (List.range 128).flatMap fun h => ((List.range 32).filter fun b => !natBit (s.reg (HC_BANKS h)).toNat b).map fun b => 32 * h + b
  let queues := s.svc.queues.map fun p => if profPool s p.2.profile = g then (p.1, { Queue.reset with profile := p.2.profile }) else p
  let s1 := { s with svc := { s.svc with queues := queues.filter fun p => decide (p.2 ≠ Queue.reset) } }
  let count := fun h => ((List.range (poolParcels s g)).filter fun i => poolHc s g i == h && !rowRetired s (placeOf s (poolAddr s g i))).length
  s1.setPool g { rebuilding := (s.pool g).rebuilding, goneRows := s.dram.retired, goneBanks := banks,
                 links := (s.pool g).links.filter fun l => parcelRetired s g l.1,
                 lists := (List.range 128).filterMap fun h => if count h = 0 then none else some (h, { FreeList.reset with count := count h }) }

/-- A commit starts a rebuild of a live pool. -/
def rebuildStart (g : Nat) (s : State) : State :=
  ((relink g s).modPool g fun p => { p with rebuilding := true }).put (SVC_RGN_STATUS_rebuilding g) 1

/-- The rebuild ends. -/
def rebuildEnd (g : Nat) (s : State) : State :=
  if (s.pool g).rebuilding then
    ((s.modPool g fun p => { p with rebuilding := false }).put (SVC_RGN_STATUS_rebuilding g) 0).cause Cause.SVC_pool_rebuilt
  else s

/-! ### Indirect access (R251, R252) -/

/-- The 128 bits of a queue's entry (R250). -/
def queueBits (s : State) (q : Nat) : Nat :=
  let x := s.queue q
  x.head % 2 ^ 28 * 2 ^ 100 + x.tail % 2 ^ 28 * 2 ^ 72 + x.count % 2 ^ 24 * 2 ^ 48 + x.profile % 32 * 2 ^ 43 + rotOf s q (profPool s x.profile) % 128 * 2 ^ 36 +
    boolNat x.opened * 2 ^ 35 + boolNat x.discard * 2 ^ 34 + x.wm % 4 * 2 ^ 32 + x.bytes % 2 ^ 32

/-- SVC_QIND_CTRL with op READ. -/
def qindRead (q : Nat) (s : State) : State :=
  let v := queueBits s q
  (forEach (List.range 4) (fun i s => s.setReg (SVC_QIND_D i) (BitVec.ofNat 32 (v / 2 ^ (32 * (3 - i))))) s).put SVC_QIND_STATUS_result 0

/-- SVC_QIND_CTRL with op SET_PROFILE (R252). -/
def setProfile (q k : Nat) (s : State) : State :=
  let x := s.queue q
  let other := profPool s k != profPool s x.profile
  if x.count ≠ 0 && other then s.put SVC_QIND_STATUS_result 1
  else (s.setQueue q { x with profile := k, rot := if other then none else x.rot }).put SVC_QIND_STATUS_result 0

/-! ### Registers computed on a read -/

/-- SVC_POOL_STATUS_g. -/
def poolStatus (s : State) (g : Nat) : Word :=
  if !(rgnGood s g && rgnType s g == 1) then 0
  else
    let order := rotation s g
    let low := (order.filter fun h => decide ((listAt s g h).count < s.get (SVC_POOL_CFG_low_thr g))).length
    let dry := (order.filter fun h => (listAt s g h).count == 0).length
    BitVec.ofNat 32 (boolNat (s.pool g).rebuilding * 2 ^ 31 + low * 2 ^ 16 + dry * 2 ^ 8 + order.length)

/-- SVC_POOL_FREE_g. -/
def poolFree (s : State) (g : Nat) : Word :=
  BitVec.ofNat 32 ((rotation s g).foldl (fun n h => n + (listAt s g h).count) 0)

/-- SVC_HCF_DATA. -/
def hcfData (s : State) : Word :=
  let g := s.get SVC_HCF_IDX_pool
  let h := s.get SVC_HCF_IDX_hc
  BitVec.ofNat 32 (boolNat (rgnGood s g && rgnType s g == 1 && inRotation s g h) * 2 ^ 31 + (listAt s g h).shown)

/-- The counts that the free-list register shows are taken at a boundary; a list back at its threshold may raise POOL_LOW again (R247). -/
def showLists (s : State) : State :=
  { s with svc := { s.svc with pools := s.svc.pools.map fun p => (p.1, { p.2 with lists := p.2.lists.map fun l =>
    (l.1, { l.2 with shown := l.2.count, low := l.2.low && decide (l.2.count < s.get (SVC_POOL_CFG_low_thr p.1)) }) }) } }

end Sys2Proof.Machine
end

