-- ==== Sys2Proof/Machine/Timetable.lean ====
section
/-!
DEFINITION. Machine/Timetable.lean: timetable images, the validator, loads, STORM and the suspension of classes (R277 to R304).
-/
set_option autoImplicit false

namespace Sys2Proof.Machine
open Reg Bit

/-! ### The parts of an image (R279 to R283, R303) -/

/-- Length of an image in bytes. -/
def imageLen : Nat := 150528

/-- n bytes of an image from an offset, most significant first. -/
def imageNum (b : List Byte) (o n : Nat) : Nat := ofBytesBE ((b.drop o).take n)

/-- A class as the manifest declares it (R281). -/
structure Manifest where
  declared : Bool
  precedence : Nat
  rateRd : Nat
  burstRd : Nat
  rateWr : Nat
  burstWr : Nat
  boundRd : Nat
  boundWr : Nat
  deriving DecidableEq, Repr

def Manifest.none : Manifest :=
  { declared := false, precedence := 0, rateRd := 0, burstRd := 0, rateWr := 0, burstWr := 0, boundRd := 0, boundWr := 0 }

/-- Rate, burst and declared bound in a direction. -/
def Manifest.rate (m : Manifest) (w : Bool) : Nat := if w then m.rateWr else m.rateRd
def Manifest.burst (m : Manifest) (w : Bool) : Nat := if w then m.burstWr else m.burstRd
def Manifest.bound (m : Manifest) (w : Bool) : Nat := if w then m.boundWr else m.boundRd

def Slot.manifest (t : Slot) (c : Nat) : Manifest :=
  match t with
  | .empty => Manifest.none
  | .standard => if c = 0 then { Manifest.none with declared := true, rateRd := 1, burstRd := 1, rateWr := 1, burstWr := 1 } else Manifest.none
  | .image b =>
    let o := 0x40 + 32 * c
    { declared := imageNum b o 1 % 2 == 1, precedence := imageNum b (o + 1) 1, rateRd := imageNum b (o + 4) 2, burstRd := imageNum b (o + 6) 2,
      rateWr := imageNum b (o + 8) 2, burstWr := imageNum b (o + 10) 2, boundRd := imageNum b (o + 12) 4, boundWr := imageNum b (o + 16) 4 }

/-- Entry e of every table of the default image (R303). -/
def standardEntry (e : Nat) : Nat :=
  let q := e % 144
  if q % 9 = 8 then (if q / 9 % 4 = 0 then 0x8400 else if q / 9 % 4 = 2 then 0x8600 else 0x8800)
  else if e = 0 then 0x2000
  else if e = 288 then 0x4000
  else if e = 72 ∨ e = 360 then 0x8A00
  else if q = 36 then 0x8E00
  else 0x8000

/-- Entry e of the table of half-channel h. -/
def Slot.entry (t : Slot) (h e : Nat) : Nat :=
  match t with
  | .empty => 0x9000
  | .standard => standardEntry e
  | .image b => imageNum b (0xC00 + 1152 * h + 2 * e) 2

/-- Floors of the prices (R282). -/
def priceFloor (i : Nat) : Nat := match i with | 0 | 1 | 3 | 4 => 4096 | 2 => 2400 | 5 => 2048 | _ => 0

def Slot.price (t : Slot) (i : Nat) : Nat :=
  match t with
  | .image b => max (imageNum b (0x840 + 4 * i) 4) (priceFloor i)
  | _ => priceFloor i

def Slot.openAllow (t : Slot) : Nat := match t with | .empty => 0 | .standard => 56000 | .image b => imageNum b 0x1C 4
def Slot.id (t : Slot) : Nat := match t with | .image b => imageNum b 0x20 4 | _ => 0

/-! ### Entries (R283, R284) -/

/-- Directions a berth used as open allows. -/
inductive OpenDir where
  | any | readOnly | writeOnly
  deriving DecidableEq, Repr

/-- What an entry asks for. -/
inductive Duty where
  | booked (fc : Nat) (write : Bool)
  | opened (dir : OpenDir)
  | turn
  | refresh (kind : Nat)
  | scrub
  | train
  | repair
  | idle
  | bad
  deriving DecidableEq, Repr

def dutyOf (e : Nat) : Duty :=
  let dir := e / 2 ^ 13 % 4
  if e < 2 ^ 15 then
    if e / 64 % 128 ≠ 0 then .bad else if dir = 1 then .booked (e % 64) false else if dir = 2 then .booked (e % 64) true else .bad
  else if e % 512 ≠ 0 then .bad
  else
    let code := e / 512 % 16
    if code = 0 then (if dir = 0 then .opened .any else if dir = 1 then .opened .readOnly else if dir = 2 then .opened .writeOnly else .bad)
    else if dir ≠ 0 then .bad
    else match code with
      | 1 => .turn | 2 => .refresh 1 | 3 => .refresh 2 | 4 => .refresh 3 | 5 => .scrub | 6 => .train | 7 => .repair | 8 => .idle
      | _ => .bad

/-- The kind of an entry for the turnaround rules (R284): a fixed read, a fixed write, or neither. -/
inductive Kind where
  | r | w | q
  deriving DecidableEq, Repr

def Duty.kind (d : Duty) : Kind :=
  match d with
  | .booked _ false | .scrub | .opened .readOnly => .r
  | .booked _ true | .repair | .opened .writeOnly => .w
  | _ => .q

/-- The image in use (R278). -/
def liveSlot (s : State) : Slot := if s.tt.stormAt.isSome then s.tt.stormSlot else s.tt.active

def entryNumber (s : State) (berth : Nat) : Nat := 12 * s.phase + berth
def dutyAt (t : Slot) (h e : Nat) : Duty := dutyOf (t.entry h (e % 576))

/-- The entries of a class and direction in a table, in order. -/
def bookedAt (t : Slot) (h c : Nat) (w : Bool) : List Nat := (List.range 576).filter fun e => dutyOf (t.entry h e) == .booked c w
def books (t : Slot) (h c : Nat) (w : Bool) : Bool := (List.range 576).any fun e => dutyOf (t.entry h e) == .booked c w
def booksAnywhere (t : Slot) (c : Nat) : Bool := (List.range 128).any fun h => books t h c false || books t h c true

/-! ### Power pricing (R295) -/

/-- The price index of an entry, none where it adds nothing. -/
def priceIndex (t : Slot) (d : Duty) : Option Nat :=
  match d with
  | .booked c w => if (t.manifest c).declared then some (if w then 1 else 0) else none
  | .refresh _ => some 2
  | .scrub => some 3
  | .repair => some 4
  | .train => some 5
  | _ => none

/-- The priced total in mW. -/
def pricedTotal (t : Slot) : Nat :=
  let sum := (List.range 128).foldl (fun a h => (List.range 576).foldl (fun a e =>
    match priceIndex t (dutyOf (t.entry h e)) with | some i => a + t.price i | none => a) a) 0
  (sum + 3839) / 3840 + t.openAllow

/-! ### Bounds (R287, R288) -/

/-- W(k) for the entries of a table, k at most their number n: the longest stretch from an entry to the k-th after it. -/
def stretch (pos : List Nat) (k : Nat) : Nat :=
  let n := pos.length
  (List.range n).foldl (fun m i =>
    let j := i + k
    max m ((pos.getD (j % n) 0) + 576 * (j / n) - pos.getD i 0)) 0

/-- W(k) for every k. -/
def berthsFor (pos : List Nat) (k : Nat) : Nat :=
  let n := pos.length
  if k = 0 ∨ n = 0 then 0 else (k - 1) / n * 576 + stretch pos ((k - 1) % n + 1)

/-- ⌈a(x)⌉ of the envelope. -/
def arrivals (rate burst x : Nat) : Nat := burst + (rate * ((x + 11) / 12) + 47) / 48

/-- The bound of a class in a direction on a half-channel, in ns. -/
def boundOn (t : Slot) (h c : Nat) (w : Bool) : Nat :=
  let pos := bookedAt t h c w
  let m := t.manifest c
  let d := (List.range 576).foldl (fun b x => max b (berthsFor pos (arrivals (m.rate w) (m.burst w) x) - x)) 0
  ((d + 24) * 20 + 2) / 3

/-- Half-channels on which a bound is computed. -/
def boundHcs (t : Slot) (c : Nat) (w : Bool) : List Nat :=
  (List.range 128).filter fun h => books t h c w && decide ((t.manifest c).rate w ≤ (bookedAt t h c w).length)

/-- The bound of a class in a direction: none where it books the direction nowhere. -/
def boundOf (t : Slot) (c : Nat) (w : Bool) : Option Nat :=
  match boundHcs t c w with
  | [] => none
  | l => some (l.foldl (fun b h => max b (boundOn t h c w)) 0)

/-! ### The validator (R286) -/

/-- A failure as it is logged. -/
structure ValError where
  code : Nat
  cls : Nat
  hc : Nat
  entry : Nat
  deriving DecidableEq, Repr

/-- A failure that reports no class, half-channel or entry (R286). -/
def ValError.header (code : Nat) : ValError := ⟨code, 0, 0xFE, 0x3FF⟩

def failIf (b : Bool) (e : ValError) : List ValError := if b then [e] else []

/-- The header checks. -/
def checkHeader (b : List Byte) (storm : Bool) : List ValError :=
  failIf (imageNum b 0 4 != 0x4F5A5454) (.header 0x01) ++
  failIf (imageNum b 4 2 != 1) (.header 0x02) ++
  failIf (imageNum b 8 2 != 48 || imageNum b 10 2 != 12 || imageNum b 12 2 != 128 || imageNum b 0x10 4 != imageLen) (.header 0x03) ++
  failIf (imageNum b 0x14 4 != 0x6416 || imageNum b 0x18 4 != 0xB0) (.header 0x04) ++
  failIf (imageNum b 0x3C 4 != crc32c (b.take 0x3C ++ [0, 0, 0, 0] ++ (b.drop 0x40).take (imageLen - 0x40))) (.header 0x05) ++
  failIf ((imageNum b 6 2 % 2 == 1) != storm) (.header 0x06) ++
  failIf (imageNum b 6 2 / 2 != 0 || imageNum b 14 2 != 0 || imageNum b 0x24 24 != 0 || ((b.drop 0x860).take 928).any fun x => x != 0) (.header 0x07)

/-- A manifest entry is out of range (R281). -/
def manifestBad (b : List Byte) (m : Manifest) (c : Nat) : Bool :=
  let o := 0x40 + 32 * c
  decide (1 < imageNum b o 1 ∨ 7 < m.precedence ∨ 576 < m.rateRd ∨ 576 < m.rateWr ∨ 4096 < m.burstRd ∨ 4096 < m.burstWr) ||
    imageNum b (o + 2) 2 != 0 || imageNum b (o + 20) 12 != 0 ||
    (m.declared && ((decide (0 < m.rateRd) && m.burstRd == 0) || (decide (0 < m.rateWr) && m.burstWr == 0)))

def classes : List Nat := List.range 64
def halfChannels : List Nat := List.range 128
def entries : List Nat := List.range 576

/-- TT_TURN on a table: entries whose change of direction lacks its Q entries, walking it twice round to start in its cycle. -/
def turnFaults (t : Slot) (h : Nat) : List Nat :=
  let walk := fun (st : Option Kind × Nat × List Nat) (e : Nat) =>
    match (dutyOf (t.entry h e)).kind with
    | .q => (st.1, st.2.1 + 1, st.2.2)
    | .r => (some .r, 0, if st.1 = some .w ∧ st.2.1 < 2 then st.2.2 ++ [e] else st.2.2)
    | .w => (some .w, 0, if st.1 = some .r ∧ st.2.1 < 1 then st.2.2 ++ [e] else st.2.2)
  let first := entries.foldl walk (none, 0, [])
  (entries.foldl walk (first.1, first.2.1, [])).2.2

def isRefresh (d : Duty) : Bool := match d with | .refresh _ => true | _ => false
def countDuty (t : Slot) (h : Nat) (es : List Nat) (d : Duty) : Nat := (es.filter fun e => dutyAt t h e == d).length

/-- Quarters of a table with a wrong refresh count. -/
def refreshFaults (t : Slot) (h : Nat) : List Nat :=
  ((List.range 4).map fun q => 144 * q).filter fun e0 =>
    let es := (List.range 144).map fun i => e0 + i
    countDuty t h es (.refresh 1) != 4 || countDuty t h es (.refresh 2) != 4 || countDuty t h es (.refresh 3) != 8

/-- Windows of 24 entries with more than 4 refresh entries. -/
def spacingFaults (t : Slot) (h : Nat) : List Nat :=
  entries.filter fun e => decide (4 < ((List.range 24).filter fun i => isRefresh (dutyAt t h (e + i))).length)

/-- The class reported for a power failure: the highest-numbered of the largest precedence. -/
def powerClass (t : Slot) : Nat :=
  let top := classes.foldl (fun m c => if (t.manifest c).declared then max m (t.manifest c).precedence else m) 0
  classes.foldl (fun m c => if (t.manifest c).declared && (t.manifest c).precedence == top then c else m) 0

/-- Errors of every half-channel. -/
def perHc (f : Nat → List ValError) : List ValError := halfChannels.flatMap f

/-- All failures of an image in the order of the log. -/
def imageErrors (s : State) (b : List Byte) (storm : Bool) : List ValError :=
  let t : Slot := .image b
  let m := t.manifest
  let duty := fun h e => dutyAt t h e
  checkHeader b storm ++
  (classes.filter fun c => manifestBad b (m c) c).map (fun c => ⟨0x10, c, 0xFE, 0x3FF⟩) ++
  perHc (fun h => failIf (!(books t h 0 false && books t h 0 true)) ⟨0x11, 0, h, 0x3FF⟩) ++
  failIf (!((m 0).declared && (m 0).precedence == 0)) (.header 0x11) ++
  perHc (fun h => (entries.filter fun e => duty h e == .bad).map fun e => ⟨0x20, 0, h, e⟩) ++
  perHc (fun h => entries.filterMap fun e =>
    match duty h e with | .booked c _ => if (m c).declared then none else some ⟨0x21, c, h, e⟩ | _ => none) ++
  perHc (fun h => (turnFaults t h).map fun e => ⟨0x22, 0, h, e⟩) ++
  perHc (fun h => (refreshFaults t h).map fun e => ⟨0x23, 0, h, e⟩) ++
  perHc (fun h => (spacingFaults t h).map fun e => ⟨0x24, 0, h, e⟩) ++
  perHc (fun h => failIf (decide (countDuty t h entries .scrub < s.get TT_DUTY_MIN_scrub ∨ countDuty t h entries .repair < s.get TT_DUTY_MIN_repair ∨
    countDuty t h entries .train < s.get TT_DUTY_MIN_train)) ⟨0x25, 0, h, 0x3FF⟩) ++
  perHc (fun h => if s.flag (HC_STATUS_short h) then
    (classes.filter fun c => c != 0 && (books t h c false || books t h c true)).map fun c => ⟨0x26, c, h, 0x3FF⟩ else []) ++
  perHc (fun h => classes.flatMap fun c => [false, true].flatMap fun w =>
    failIf ((m c).declared && books t h c w && decide ((bookedAt t h c w).length < (m c).rate w)) ⟨0x30, c, h, 0x3FF⟩) ++
  failIf (decide (s.get PWR_CEILING_mw < pricedTotal t + s.get LANE_LEDGER_USED_mw + s.get PWR_BASE_ALLOW_mw)) ⟨0x30, powerClass t, 0xFF, 0x3FF⟩ ++
  perHc (fun h => classes.flatMap fun c => [false, true].flatMap fun w =>
    failIf ((m c).declared && books t h c w && decide ((m c).rate w ≤ (bookedAt t h c w).length) &&
      (decide (100000 < boundOn t h c w) || ((m c).bound w != 0 && decide ((m c).bound w < boundOn t h c w)))) ⟨0x31, c, h, 0x3FF⟩)

/-! ### STORM (R298, R300) -/

/-- STORM matches ACTIVE (R298). -/
def stormMatches (storm active : Slot) : Bool :=
  decide (pricedTotal storm ≤ pricedTotal active) &&
  (classes.all fun c =>
    let a := active.manifest c
    if !a.declared || a.precedence != 0 then true
    else
      (storm.manifest c).declared && (storm.manifest c).precedence == 0 && ([false, true].all fun w =>
        (halfChannels.all fun h => decide ((bookedAt active h c w).length ≤ (bookedAt storm h c w).length)) &&
        (match boundOf storm c w with
         | none => true
         | some b =>
           if a.bound w ≠ 0 then decide (b ≤ a.bound w)
           else match boundOf active c w with | some ab => decide (b ≤ ab) | none => true)))

def slotFull (t : Slot) : Bool := t != .empty

/-- The demands for STORM: throttle level, brown-out, short half-channel, host (R300). -/
def stormDemands (s : State) : Nat :=
  boolNat (decide (4 ≤ s.get HC_ARB_PAUSE_thermal)) + 2 * boolNat (decide (4 ≤ s.get PWR_SUPPLY_step)) +
    4 * boolNat ((List.range 4).any fun i => s.reg (TT_HC_SHORT i) != 0) + 8 * boolNat (s.flag TT_CTRL_force_storm)

def shortHc (s : State) (h : Nat) : Bool := natBit (s.reg (TT_HC_SHORT (h / 32))).toNat (h % 32)

/-- The image books a class other than FC00 on a short half-channel. -/
def booksShort (s : State) (t : Slot) : Bool :=
  halfChannels.any fun h => shortHc s h && classes.any fun c => c != 0 && (books t h c false || books t h c true)

/-- STORM may be selected (R300, R304). -/
def stormUsable (s : State) : Bool :=
  slotFull s.tt.stormSlot && s.flag TT_STATUS_storm_matched && s.tt.load != some true && !booksShort s s.tt.stormSlot

/-- The match of STORM judged anew (R298).  TT_VAL_STATUS follows while it shows the load of STORM (log entry 60). -/
def judgeStorm (s : State) : State :=
  let shown := s.flag TT_VAL_STATUS_target && (s.get TT_VAL_STATUS_result == 1 || s.get TT_VAL_STATUS_result == 2)
  let result := fun (r : Nat) (s : State) => if shown then s.put TT_VAL_STATUS_result r else s
  if !slotFull s.tt.stormSlot then s.put TT_STATUS_storm_matched 0
  else if stormMatches s.tt.stormSlot s.tt.active then result 1 (s.put TT_STATUS_storm_matched 1)
  else (result 2 (s.put TT_STATUS_storm_matched 0)).cause Cause.TT_storm_unmatched

/-- Slot registers: validity, IDs and priced totals. -/
def showSlots (s : State) : State :=
  let put := fun (a : Nat) (v : Nat) (s : State) => s.setReg a (BitVec.ofNat 32 v)
  let price := fun t : Slot => if slotFull t then pricedTotal t else 0
  let s1 := ((s.putFlag TT_STATUS_storm_valid (slotFull s.tt.stormSlot)).putFlag TT_STATUS_standby_valid (slotFull s.tt.standby)).putFlag
    TT_STATUS_active_default (s.tt.active == .standard)
  put TT_ID_ACTIVE s.tt.active.id (put TT_ID_STANDBY s.tt.standby.id (put TT_ID_STORM s.tt.stormSlot.id
    (put TT_PRICE_ACTIVE (price s.tt.active) (put TT_PRICE_STANDBY (price s.tt.standby) (put TT_PRICE_STORM (price s.tt.stormSlot) s1)))))

/-! ### Loading (R297, R304) -/

/-- Results of TT_VAL_STATUS. -/
def TtResult.valid : Nat := 1
def TtResult.unmatched : Nat := 2
def TtResult.invalid : Nat := 3
def TtResult.srcErr : Nat := 4
def TtResult.busy : Nat := 5

/-- The load ends with a result: go is cleared and E240 raised. -/
def loadEnd (target : Bool) (result : Nat) (s : State) : State :=
  (((({ s with tt := { s.tt with load := none } }.put TT_LOAD_CTRL_go 0).put TT_VAL_STATUS_result result).putFlag TT_VAL_STATUS_target target).put
    TT_VAL_STATUS_state 0).cause Cause.TT_load_done

/-- A commit with swap staged is armed or prepared. -/
def swapArmed (s : State) : Bool := s.commit.armed.isSome && (nextWord s TT_CTRL).bits 0 0 == 1

/-- TT_LOAD_CTRL.go set (R297, R304). -/
def loadStart (target : Bool) (s : State) : State :=
  if s.tt.load.isSome then s
  else if (!target && swapArmed s) || (target && s.tt.stormAt.isSome) then loadEnd target TtResult.busy s
  else
    let tt := if target then { s.tt with load := some target, stormSlot := .empty } else { s.tt with load := some target, standby := .empty }
    showSlots ((({ s with tt := tt }.put TT_LOAD_CTRL_go 1).put TT_VAL_STATUS_state 1).putFlag TT_STATUS_storm_matched
      (!target && s.flag TT_STATUS_storm_matched))

/-- The source address of a load. -/
def loadAddr (s : State) : Nat := s.get TT_LOAD_ADDR_HI_addr_hi * 2 ^ 32 + s.get TT_LOAD_ADDR_LO_addr_lo * 1024

/-- A line of device memory as a read returns it: from the landing, as zeros where its parcel was never written, else from the newest
waiting write-back or its die (R273, R367). -/
def lineRead (s : State) (n : Nat) : List Byte :=
  match lineAt s n with
  | some l => lineData s n l
  | none => if parcelValid s (n / 4) then underLine s n else List.replicate 64 0

/-- Bytes of device memory from an address on. -/
def memoryBytes (s : State) (a n : Nat) : List Byte :=
  (List.range n).map fun i => (lineRead s ((a + i) / 64)).getD ((a + i) % 64) 0

/-- The failures logged (R286). -/
def logErrors (l : List ValError) (s : State) : State :=
  forEach (List.range 16) (fun i s =>
    match l[i]? with
    | some e => s.setReg (TT_VAL_ERR i) (BitVec.ofNat 32 (e.code * 2 ^ 24 + e.cls % 64 * 2 ^ 18 + e.hc % 256 * 2 ^ 10 + e.entry % 1024))
    | none => s.setReg (TT_VAL_ERR i) 0) (s.put TT_VAL_STATUS_errors (min 0xFFFF l.length))

/-- Copying and validation are finished (R297, R298).  `bad` tells that a source parcel was uncorrectable. -/
def loadDone (bad : Bool) (s : State) : State :=
  match s.tt.load with
  | none => s
  | some target =>
    let a := loadAddr s
    let within := match regionOf s a with
      | some g => decide (a + imageLen ≤ rgnBase s g + rgnSize s g)
      | none => false
    let lost := (List.range ((imageLen + 255) / 256)).any fun i => lostMask s (a / 256 + i) != 0
    if !within || bad || lost then loadEnd target TtResult.srcErr s
    else
      let b := memoryBytes s a imageLen
      let errs := imageErrors s b target
      let s1 := logErrors errs s
      if !errs.isEmpty then loadEnd target TtResult.invalid s1
      else if target then
        let s2 := judgeStorm (showSlots { s1 with tt := { s1.tt with stormSlot := .image b } })
        loadEnd target (if s2.flag TT_STATUS_storm_matched then TtResult.valid else TtResult.unmatched) s2
      else loadEnd target TtResult.valid (showSlots { s1 with tt := { s1.tt with standby := .image b } })

/-! ### Suspension (R301, R302) -/

def suspendedClass (s : State) (c : Nat) : Bool := s.tt.suspended.contains c

/-- TT_SUSPEND_LO, TT_SUSPEND_HI and TT_STATUS.suspended follow the suspended classes. -/
def showSuspended (s : State) : State :=
  let mask := s.tt.suspended.foldl natSetBit 0
  ((s.setReg TT_SUSPEND_LO (BitVec.ofNat 32 mask)).setReg TT_SUSPEND_HI (BitVec.ofNat 32 (mask / 2 ^ 32))).putFlag TT_STATUS_suspended (mask != 0)

/-- Every suspension is lifted. -/
def liftSuspensions (s : State) : State := showSuspended { s with tt := { s.tt with suspended := [], reported := [] } }

/-- Booked entries of classes not suspended on a half-channel. -/
def bookedLeft (s : State) (t : Slot) (h : Nat) : Nat :=
  (entries.filter fun e => match dutyOf (t.entry h e) with | .booked c _ => !suspendedClass s c | _ => false).length

/-- R301's condition to stop. -/
def suspendEnough (s : State) (t : Slot) : Bool :=
  (halfChannels.all fun h => decide (bookedLeft s t h ≤ min 576 (s.get TT_STORM_BUDGET_berths))) &&
  (classes.all fun c => suspendedClass s c || (t.manifest c).precedence == 0 ||
    !(halfChannels.any fun h => shortHc s h && (books t h c false || books t h c true)))

/-- The class to suspend next: by precedence from 7 down to 1, the highest number first. -/
def suspendNext (s : State) (t : Slot) : Option Nat :=
  (((List.range 7).map fun i => 7 - i).flatMap fun p =>
    (classes.reverse.filter fun c => (t.manifest c).declared && (t.manifest c).precedence == p && !suspendedClass s c && booksAnywhere t c)).head?

/-- The booked requests of a class wait as dynamic ones from now on (R301, R329). -/
def toDynamic (c : Nat) (s : State) : State :=
  forEach halfChannels (fun h s =>
    let x := s.hc h
    let mine := x.queue.filter fun a => a.conf && a.fc == c
    if mine.isEmpty then s
    else s.setHc h { x with
      queue := x.queue.filter fun a => !(a.conf && a.fc == c)
      waiting := mine.map (fun a => { a with conf := false }) ++ x.waiting }) s

/-- One class suspended, with E241. -/
def suspendOne (c : Nat) (s : State) : State :=
  (showSuspended (toDynamic c { s with tt := { s.tt with suspended := c :: s.tt.suspended } })).cause Cause.TT_class_shortfall

/-- Classes of precedence 0 that book a short half-channel report it once (R301). -/
def reportShort (s : State) (t : Slot) : State :=
  forEach classes (fun c s =>
    if (t.manifest c).declared && (t.manifest c).precedence == 0 && !s.tt.reported.contains c &&
        halfChannels.any fun h => shortHc s h && (books t h c false || books t h c true) then
      { s with tt := { s.tt with reported := c :: s.tt.reported } }.cause Cause.TT_class_shortfall
    else s) s

/-- The judgement of demands at a boundary: STORM is queued for the hardware commit where usable, else one class is suspended
(R300, R301); without demands the calm begins (R302). -/
def stormBoundary (s : State) : State :=
  if stormDemands s = 0 then
    (if s.tt.calmAt.isNone then { s with tt := { s.tt with calmAt := some s.ticks, nextResume := s.ticks + 16 } } else s)
  else
    let s1 := { s with tt := { s.tt with calmAt := none } }
    let t := liveSlot s1
    if s1.tt.stormAt.isNone && stormUsable s1 then
      (if s1.commit.hw.contains .stormEnter then s1 else { s1 with commit := { s1.commit with hw := s1.commit.hw ++ [.stormEnter] } })
    else if s1.tt.stormAt.isSome && !booksShort s1 t then s1
    else
      let s2 := reportShort s1 t
      if suspendEnough s2 t then s2 else match suspendNext s2 t with | some c => suspendOne c s2 | none => s2

/-- Requests and buckets at a change of the live image: buckets full, the bounds of waiting requests counted from now, and
requests of classes that it does not book become dynamic (R287, R289, R299). -/
def imageSwitched (s : State) : State :=
  let t := liveSlot s
  forEach halfChannels (fun h s =>
    let x := s.hc h
    let stays := fun a : Access => a.conf && books t h a.fc a.write
    s.setHc h { x with
      spent := []
      queue := (x.queue.filter fun a => !a.conf || stays a).map fun a => { a with entered := berthTime s h }
      waiting := ((x.queue.filter fun a => a.conf && !stays a).map fun a => { a with conf := false }) ++ x.waiting }) s

/-- STORM selected by its hardware commit (R300, R302). -/
def stormEnter (s : State) : State :=
  if s.tt.stormAt.isSome || !slotFull s.tt.stormSlot then s
  else
    imageSwitched (liftSuspensions (({ s with tt := { s.tt with stormAt := some s.ticks } }.put TT_STATUS_live 1).cause Cause.TT_storm_enter))

/-- ACTIVE selected again (R300, R302). -/
def stormLeave (s : State) : State :=
  if s.tt.stormAt.isNone then s
  else
    imageSwitched (liftSuspensions (({ s with tt := { s.tt with stormAt := none } }.put TT_STATUS_live 0).cause Cause.TT_storm_exit))

/-- No demand stands and the dwell on STORM is over at the tick `now` (R300). -/
def stormMayLeave (now : Nat) (s : State) : Bool :=
  stormDemands s == 0 && match s.tt.stormAt with | some t => decide (t + 3072 ≤ now) | none => false

/-- The last suspended class resumes, 16 crossings after the calm began or after the class before (R302). -/
def classResume (s : State) : State :=
  match s.tt.suspended, s.tt.calmAt with
  | c :: rest, some _ =>
    if stormDemands s = 0 && decide (s.tt.nextResume ≤ s.ticks) then
      showSuspended { s with tt := { s.tt with suspended := rest, nextResume := s.ticks + 16, reported := s.tt.reported.erase c } }
    else s
  | _, _ => s

/-- The suspensions that stand after a swap: of classes that the new image declares at precedence 1 or more and books (R25, R301).  That the
others are lifted is the model's choice (log entry 9). -/
def keepSuspensions (s : State) : State :=
  let t := liveSlot s
  showSuspended { s with tt := { s.tt with
    suspended := s.tt.suspended.filter fun c => (t.manifest c).declared && (t.manifest c).precedence != 0 && booksAnywhere t c } }

/-- ACTIVE and STANDBY exchanged at a commit (R299). -/
def imageSwap (s : State) : State :=
  let s1 := { s with tt := { s.tt with active := s.tt.standby, standby := s.tt.active } }
  imageSwitched (keepSuspensions (judgeStorm (showSlots s1)))

/-! ### Rates (R294) -/

/-- A rate selected takes effect at a period boundary. -/
def rateBoundary (s : State) : State :=
  match s.tt.rateDue with
  | none => s
  | some r =>
    let s1 := ({ s with tt := { s.tt with rate := r, rateDue := none } }.put TT_STATUS_rate r).cause Cause.TT_refresh_rate
    forEach halfChannels (fun h s => s.put (HC_STATUS_rate h) r) s1

/-- The slots after release: the default image in ACTIVE, the others empty (R71, R278). -/
def timetableRelease (s : State) : State :=
  showSlots (liftSuspensions { s with tt := { s.tt with active := .standard, standby := .empty, stormSlot := .empty, stormAt := none, load := none } })

/-- Nothing is left of the timetable after a reset. -/
def timetableReset (s : State) : State :=
  { s with tt := { active := .empty, standby := .empty, stormSlot := .empty, stormAt := none, suspended := [], reported := [], calmAt := none,
                   nextResume := 0, load := none, rate := 1, rateDue := none, paused := false } }

end Sys2Proof.Machine
end

