-- ==== Sys2Proof/Machine/Scheduler.lean ====
section
/-!
DEFINITION. Machine/Scheduler.lean: the scheduler of a half-channel: intake, admission, booked and open berths, refresh, and what
an access does in its berth (R287 to R296, R305 to R324, R329, R335, R339, R362, R368).
-/
set_option autoImplicit false

namespace Sys2Proof.Machine
open Reg Bit

def bankOf (s : State) (n : Nat) : Nat := (placeOf s (256 * n)).bank
def placeOfAccess (s : State) (a : Access) : Place := placeOf s (256 * a.parcel)

/-- The half-channel serves requests. -/
def hcServes (s : State) (h : Nat) : Bool := s.get (HC_STATUS_state h) == 2

/-! ### Intake and admission (R287, R305, R307, R308) -/

/-- What a class's bucket lacks, in 1/48 parcels. -/
def spentOf (x : HcSt) (c : Nat) (w : Bool) : Nat := KMap.get (fun _ => 0) x.spent (2 * c + boolNat w)

/-- The request may count as booked: its class books its direction here, is not suspended, it is not displaced nor the device's own,
and its bank is in service (R305, R371). -/
def mayBook (s : State) (h : Nat) (a : Access) : Bool :=
  a.port != ownPort && !a.displaced && !suspendedClass s a.fc && books (liveSlot s) h a.fc a.write && natBit (s.reg (HC_BANKS h)).toNat (bankOf s a.parcel)

/-- An older conforming request waits for the bank. -/
def bankWanted (s : State) (h bank seq : Nat) : Bool :=
  (s.hc h).queue.any fun b => b.conf && decide (b.seq < seq) && bankOf s b.parcel == bank

/-- The first request of the intake enters the scheduler and is judged against its envelope (R287).  The write of a read-modify-write that
is dynamic takes its entry at once, since its parcel is held for it (log entry 55). -/
def schedulerIntake (h : Nat) (s : State) : State :=
  let x := s.hc h
  match x.intake with
  | [] => s
  | a :: rest =>
    let s1 := s.setHc h { x with intake := rest }
    let dynamic := fun s : State => s.modHc h fun y =>
      if a.locked then { y with queue := y.queue ++ [a] } else { y with waiting := y.waiting ++ [a] }
    if !mayBook s h a then dynamic s1
    else
      let m := (liveSlot s).manifest a.fc
      let spent := spentOf x a.fc a.write
      if spent + 48 ≤ 48 * m.burst a.write then
        let b := { a with conf := true, entered := berthTime s h, behind := bankWanted s h (bankOf s a.parcel) a.seq }
        s1.modHc h fun y => { y with
          queue := y.queue ++ [b], spent := KMap.put (fun _ => 0) y.spent (2 * a.fc + boolNat a.write) (spent + 48) }
      else
        dynamic (causeOnce Cause.TT_envelope_excess 0 (s1.addSat TT_ENV_EXCESS 1))

/-- Entries of a direction that dynamic requests use, of one port or of all. -/
def dynUsed (x : HcSt) (w : Bool) (port : Option Nat) : Nat :=
  (x.queue.filter fun a => !a.conf && a.write == w && (port.isNone || port == some a.port)).length

def portShare (s : State) : Nat := let v := s.get HC_ARB_CTRL_port_share; if v = 0 ∨ 64 < v then 64 else v

def overlaps (a b : Access) : Bool := a.parcel == b.parcel && Nat.land a.lines b.lines != 0

/-- The parcel belongs to a pool, whose engines order its operations (R251). -/
def poolParcel (s : State) (n : Nat) : Bool := match regionOver s (256 * n) with | some g => rgnType s g == 1 | none => false

/-- An older access goes before a younger one: they overlap and come from one port (R220), or one of them writes and comes from the landing,
or their parcel is a pool's (R251, R273, R274); or both write one parcel (log entry 55). -/
def goesBefore (s : State) (b a : Access) : Bool :=
  decide (b.seq < a.seq) &&
    (overlaps a b && (b.port == a.port || (a.writes || b.writes) && (b.port == ownPort || a.port == ownPort || poolParcel s a.parcel)) ||
     a.parcel == b.parcel && a.writes && b.writes)

/-- A write whose job still has reads to do: they may fail, and then nothing is written (R223). -/
def awaitsReads (s : State) (a : Access) : Bool :=
  match a.purpose with
  | .write j _ => !a.reads && (s.job j).any fun x => x.reads != 0
  | _ => false

/-- The request of a port that is next to be admitted, where its direction has room and what goes before it has been admitted. -/
def admissible (s : State) (x : HcSt) (p : Nat) : Option Access :=
  (x.waiting.find? fun a => a.port == p && !awaitsReads s a).filter fun a =>
    decide (dynUsed x a.write none < 64) && decide (dynUsed x a.write (some p) < portShare s) &&
      !(x.intake ++ x.waiting).any fun b => goesBefore s b a

/-- One waiting dynamic request admitted, the ports in turn after the last one admitted (R308). -/
def dynamicAdmit (h : Nat) (s : State) : State :=
  let x := s.hc h
  match ((List.range 17).map fun i => (x.lastPort + 1 + i) % 17).findSome? fun p => admissible s x p with
  | none => s
  | some a => s.setHc h { x with waiting := x.waiting.filter (fun b => b.seq != a.seq), queue := x.queue ++ [a], lastPort := a.port }

/-! ### Banks and exclusions (R290, R291, R309, R351) -/

/-- Not accessed in the previous 6 berths and no refresh of it in the previous 23 (R290). -/
def bankIdle (x : HcSt) (now bank : Nat) : Bool :=
  (match x.lastAcc.find bank with | some t => decide (t + 6 < now) | none => true) &&
  (match x.lastRef.find bank with | some t => decide (t + 23 < now) | none => true)

/-- A conforming booked request waits for the bank: of another class and older than a candidate, or any (R290, R291). -/
def reserved (s : State) (x : HcSt) (bank : Nat) (c : Option Access) : Bool :=
  x.queue.any fun b => b.conf && bankOf s b.parcel == bank &&
    (match c with | some a => b.seq != a.seq && (!a.conf || (b.fc != a.fc && decide (b.seq < a.seq))) | none => true)

/-- A fill older than a write has come back and the operations that wait on it have not run: the write comes after them (R274). -/
def awaitsFill (s : State) (a : Access) : Bool :=
  (match a.purpose with | .write _ _ => true | _ => false) &&
    s.landing.misses.any fun m => m.line / 4 == a.parcel && natBit a.lines (m.line % 4) && m.back.isSome && decide (m.seq < a.seq)

/-- Something goes before the access, or a read-modify-write holds the parcel, or its row is under repair (R220, R239, R274, R309,
R351). -/
def heldBack (s : State) (x : HcSt) (a : Access) : Bool :=
  (x.pending.any fun b => goesBefore s b a || b.locked && b.seq != a.seq && b.parcel == a.parcel) ||
    awaitsReads s a || awaitsFill s a || rowHeld x (placeOfAccess s a)

/-! ### Turnarounds (R316) -/

/-- An access of a direction keeps the rules against the berths executed and the fixed entries that follow. -/
def turnOk (s : State) (h e now : Nat) (w : Bool) : Bool :=
  let x := s.hc h
  let t := liveSlot s
  let kind := fun i => (dutyAt t h (e + i)).kind
  if w then
    (match x.lastRead with | some r => decide (r + 2 ≤ now) | none => true) && kind 1 != .r && kind 2 != .r
  else
    (match x.lastWrite with | some r => decide (r + 3 ≤ now) | none => true) && kind 1 != .w

/-! ### What an access does (R239, R273, R359, R381, R382) -/

/-- An access is taken out of the lists of its half-channel. -/
def takeAccess (h seq : Nat) (s : State) : State :=
  s.modHc h fun x => { x with
    queue := x.queue.filter fun a => a.seq != seq
    waiting := x.waiting.filter fun a => a.seq != seq
    dropped := x.dropped.filter fun a => a.seq != seq }

/-- The lines of an access's mask. -/
def maskLines (n mask : Nat) : List Nat := ((List.range 4).filter fun k => natBit mask k).map fun k => 4 * n + k

/-- A parcel's bytes with the lines that a waiting write-back carries laid over it (R273). -/
def withWriteBacks (s : State) (n : Nat) (data : List Byte) : List Byte :=
  (List.range 4).flatMap fun k =>
    let raw := rawLine s (4 * n + k)
    let now := underLine s (4 * n + k)
    if now = raw then (data.drop (64 * k)).take 64 else now

/-- Bytes written by a request also reach lines of the parcel that the landing holds. -/
def patchLines (n : Nat) (b : List (Option Byte)) (s : State) : State :=
  forEach ((List.range 4).map fun k => 4 * n + k) (fun m s =>
    match lineAt s m with
    | some l => setLine m { l with data := overlay l.data ((b.drop (64 * (m % 4))).take 64) } s
    | none => s) s

/-- Data of the parcels whose valid bits a map line carries reaches its die before the bits (R367). -/
def mapDataFirst (g n : Nat) (s : State) : State :=
  if !inValidMap s g (64 * n) then s
  else
    let first := rgnBase s g / 256 + (64 * n - validBase s g) * 8
    let covered := fun p : Nat × Line => p.2.region == g && decide (4 * first ≤ p.1 ∧ p.1 < 4 * (first + 512))
    let held := s.hcs.flatMap fun x => x.2.pending.flatMap fun a => match a.purpose with | .writeBack _ held => held | _ => []
    forEach (held.filter covered ++ s.landing.lines.filter fun p => p.2.st != .clean && covered p)
      (fun p s => dieWrite (p.1 / 4) (linePlaces p.1 (p.2.data.map some)) s) s

/-- One line of a write-back reaches its die (R382, R385).  The first write of a parcel sets its valid bit (R367); a line of link words
stands there as the engines wrote it. -/
def backLine (n : Nat) (l : Line) (s : State) : State :=
  let s0 := validate (n / 4) l.wseqs (mapDataFirst l.region n s)
  let lost := 3 * 2 ^ (n % 4 * 2)
  let s1 := if l.poisoned then setLost (n / 4) (Nat.lor (lostMask s0 (n / 4)) lost) s0
    else if linkLine s0 n then setLost (n / 4) (lostMask s0 (n / 4) - Nat.land (lostMask s0 (n / 4)) lost) s0
    else dieWrite (n / 4) (linePlaces n (l.data.map some)) s0
  flushedLine n (closeAll l.wseqs s1)

/-- A line's landing copy is clean once its values were taken. -/
def settleLine (n : Nat) (s : State) : State :=
  match lineAt s n with
  | some l => if l.st = .gathered then setLine n { l with st := .clean, wseqs := [] } s else s
  | none => s

/-- The write-back of lines: held ones, and those still in the landing. -/
def backLines (lines : List Nat) (held : KMap Line) (s : State) : State :=
  forEach lines (fun n s =>
    match held.find n with
    | some l => backLine n l s
    | none =>
      match lineAt s n with
      | some l => if l.st = .gathered then settleLine n (backLine n l s) else flushedLine n s
      | none => flushedLine n s) s

/-- The read of a read-modify-write is done: the access goes on as a write that holds its parcel (R239). -/
def rmwRead (h : Nat) (a : Access) (s : State) : State :=
  s.modHc h fun x => { x with intake := { a with write := true, reads := false, locked := true, conf := false } :: x.intake }

/-- A parcel read for a request; one never written is zeros, whatever its die holds (R367). -/
def readNow (source fc n : Nat) (repair : Bool) (errs : List PinErr) (s : State) : Option (List Byte) × State :=
  if parcelValid s n then readParcel source fc n repair true errs s else (some (List.replicate 256 0), s)

/-- The effect of an access in its berth, with the symbols in error that came with a read. -/
def perform (h : Nat) (a : Access) (errs : List PinErr) (s : State) : State :=
  match a.purpose with
  | .read j =>
    let (r, s1) := readNow EccSource.request a.fc a.parcel true errs s
    (match r with
     | none => forEach (maskLines a.parcel a.lines) (fun _ s => jobBad j s) s1
     | some d =>
       let d := withWriteBacks s1 a.parcel d
       forEach (maskLines a.parcel a.lines) (fun n s => jobLine j n ((d.drop (64 * (n % 4))).take 64) s) s1)
  | .write j b =>
    if a.reads then
      let (r, s1) := readNow EccSource.request a.fc a.parcel false errs s
      (match r with
       | none => jobFail j s1
       | some _ => jobRead j (rmwRead h a s1))
    else
      let marks := match s.job j with | some job => job.mark | none => []
      jobPart j (patchLines a.parcel b (dieWrite a.parcel b (dropRepair a.parcel (validate a.parcel marks s))))
  | .fill n =>
    let (r, s1) := readNow EccSource.request a.fc a.parcel true errs s
    let back := r.map fun d => ((withWriteBacks s1 a.parcel d).drop (64 * (n % 4))).take 64
    { s1 with landing := { s1.landing with misses := s1.landing.misses.map fun m => if m.line = n then { m with back := some back } else m } }
  | .writeBack lines held =>
    if a.reads then rmwRead h a (readNow EccSource.request 0 a.parcel false errs s).2
    else backLines lines held (dropRepair a.parcel s)

/-- A command dropped on its parity: noted by the half-channel, and by its die in MW13 (R335, R336). -/
def noteDrop (h : Nat) (s : State) : State :=
  let s1 := s.modHc h fun x => { x with caNew := x.caNew + 1, caTicks := s.ticks :: x.caTicks.filter fun t => decide (s.ticks ≤ t + 12500) }
  s1.modDie (h / 8) fun d => { d with mw := KMap.put (fun _ => 0) d.mw 13 (natSetBit (KMap.get (fun _ => 0) d.mw 13) 0) }

/-- A dropped command: the access waits for the controller to read MW13 and is then retried (R335). -/
def dropAccess (h : Nat) (a : Access) (s0 : State) : State :=
  let s := noteDrop h s0
  (takeAccess h a.seq s).modHc h fun x => { x with dropped := x.dropped ++ [{ a with retry := true, conf := false }] }

/-- A bank accessed in a direction at a berth. -/
def noteAccess (h bank now : Nat) (w : Bool) (s : State) : State :=
  (s.modHc h fun x => { x with
    lastAcc := x.lastAcc.ins bank now
    lastRead := if w then x.lastRead else some now
    lastWrite := if w then some now else x.lastWrite }).add48 (HC_ACT_CNT_LO h) 1 |>.acted (4 * h) 1
    |>.acted (4 * h + (if w then 2 else 1)) 1

/-- An access served in its berth. -/
def serve (h now : Nat) (a : Access) (dropped : Bool) (errs : List PinErr) (s : State) : State :=
  let s1 := noteAccess h (bankOf s a.parcel) now a.write s
  if dropped then dropAccess h a s1 else perform h a errs (takeAccess h a.seq s1)

/-! ### Booked berths (R289, R290) -/

def oldest (l : List Access) : Option Access :=
  l.foldl (fun b a => match b with | some c => if a.seq < c.seq then some a else b | none => some a) none

/-- Candidates for a berth of a direction: not held back, their bank idle and not reserved against them. -/
def ready (s : State) (h now : Nat) (a : Access) : Bool :=
  let x := s.hc h
  bankIdle x now (bankOf s a.parcel) && !reserved s x (bankOf s a.parcel) (some a) && !heldBack s x a

/-- The request that a booked berth takes: a retry, then the oldest conforming, then the oldest other of its class and direction. -/
def bookedPick (s : State) (h now c : Nat) (w : Bool) : Option Access :=
  let mine := (s.hc h).queue.filter fun a => a.fc == c && a.write == w && ready s h now a
  match oldest (mine.filter fun a => a.retry) with
  | some a => some a
  | none => match oldest (mine.filter fun a => a.conf) with | some a => some a | none => oldest mine

/-- A conforming request served later than its bound (R289). -/
def boundMissed (s : State) (now : Nat) (a : Access) : Bool :=
  a.conf && !a.behind && !a.retry && match boundOf (liveSlot s) a.fc a.write with
    | some b => decide (b * 3 < (now - a.entered) * 20)
    | none => false

def serveBooked (h now : Nat) (a : Access) (dropped : Bool) (errs : List PinErr) (s : State) : State :=
  let s1 := if boundMissed s now a then (s.addSat TT_BOUND_MISS 1).cause Cause.TT_bound_miss else s
  serve h now a dropped errs s1

/-! ### Open berths (R296, R310 to R321) -/

/-- The latency target of a class in units of 10 ns. -/
def fcTarget (s : State) (c : Nat) : Nat := max 10 (min 10000 (s.get (TT_FC_CFG_target c)))

def panicDepth (s : State) : Nat := 16 * max 1 (s.inForce HC_ARB_PANIC_burst)

/-- The request's panic bit counts: its class honours it, and HC_ARB_PANIC.share is not 0, which turns the bit off (R310, R318; log entry 62). -/
def panics (s : State) (a : Access) : Bool := a.panic && s.flag (TT_FC_CFG_panic_en a.fc) && s.inForce HC_ARB_PANIC_share != 0

/-- The tier of a candidate of some age in berths (R310). -/
def tier (s : State) (x : HcSt) (a : Access) (age : Nat) : Nat :=
  let t := fcTarget s a.fc
  if panics s a && decide (16 ≤ x.panicBucket) then 5
  else if 3 * t ≤ 2 * age then 4
  else if 135 * t ≤ 100 * age then 3
  else if 1125 * t ≤ 1000 * age then 2
  else if 75 * t ≤ 100 * age then 1
  else 0

/-- The phase of READ_FIRST evaluated at a berth (R314). -/
def drainNext (s : State) (x : HcSt) : Bool :=
  let hi := let v := s.get HC_ARB_CTRL_wm_hi; if v = 0 then 1 else min 64 v
  let lo := min (s.get HC_ARB_CTRL_wm_lo) (hi - 1)
  let n := dynUsed x true none
  if hi ≤ n then true else if n ≤ lo then false else x.drain

/-- The choice of READ_FIRST within a tier (R314). -/
def pickReadFirst (drain : Bool) (l : List Access) : Option Access :=
  match oldest (l.filter fun a => a.write == drain) with
  | some a => some a
  | none => oldest l

/-- The row group of an access: bank group and row. -/
def groupOfAccess (s : State) (a : Access) : Nat × Nat := let p := placeOfAccess s a; (p.bank / 4, p.row)

/-- The choice of ROW_GROUP within a tier (R315). -/
def pickRowGroup (s : State) (x : HcSt) (l : List Access) : Option Access :=
  let most := max 1 (s.get HC_ARB_CTRL_run_max)
  let same := l.filter fun a => a.write == x.dir
  let other := l.filter fun a => a.write != x.dir
  if x.run < most && !same.isEmpty then
    match oldest (same.filter fun a => x.group == some (groupOfAccess s a)) with
    | some a => some a
    | none => oldest same
  else match oldest other with | some a => some a | none => oldest same

/-- The candidate that an open berth selects, with its tier: retries first, then by tier (R311, R335). -/
def openPick (s : State) (h now : Nat) (dir : OpenDir) : Option (Access × Nat) :=
  let x := s.hc h
  let cand := x.queue.filter fun a => !a.conf && (match dir with | .any => true | .readOnly => !a.write | .writeOnly => a.write) && ready s h now a
  match oldest (cand.filter fun a => a.retry) with
  | some a => some (a, 0)
  | none =>
    let age := fun a : Access => now - a.born
    let top := cand.foldl (fun m a => max m (tier s x a (age a))) 0
    let l := cand.filter fun a => tier s x a (age a) == top
    let pick := if 4 ≤ top then oldest l else if s.get HC_ARB_CTRL_policy = 0 then pickReadFirst x.drain l else pickRowGroup s x l
    pick.map fun a => (a, top)

/-- The open power bucket counts eighths of a picojoule. -/
def openPrice (s : State) (w : Bool) : Nat := 8 * (liveSlot s).price (if w then 1 else 0)

/-- The bucket pays for an access, or the berth stays idle (R296). -/
def payOpen (h : Nat) (w reclaimed : Bool) (act : State → State) (s : State) : State :=
  if reclaimed then act s
  else if openPrice s w ≤ (s.hc h).openBucket then
    act (s.modHc h fun x => { x with openBucket := x.openBucket - openPrice s w })
  else
    let s1 := s.addSat TT_OPEN_PAUSES 1
    if s1.tt.paused then s1 else { s1 with tt := { s1.tt with paused := true } }.cause Cause.TT_open_power_pause

/-- Counts and the run after a dynamic request was chosen (R312, R315, R318). -/
def noteDynamic (h : Nat) (a : Access) (t : Nat) (s : State) : State :=
  let s1 := if t = 5 then (s.modHc h fun x => { x with panicBucket := x.panicBucket - 16 }).addSat (TT_FC_PANIC a.fc) 1
    else if t = 4 then (s.addSat (TT_FC_LATE a.fc) 1).addSat HC_ARB_LATE 1
    else s
  let most := max 1 (s.get HC_ARB_CTRL_run_max)
  s1.modHc h fun x => { x with
    dir := a.write, group := some (groupOfAccess s a), run := if x.dir = a.write && decide (x.run < most) then x.run + 1 else 1 }

/-- A panic request that lacks the budget is counted once a berth (R318). -/
def notePanic (h now : Nat) (dir : OpenDir) (s : State) : State :=
  let x := s.hc h
  let denied := x.queue.any fun a => !a.conf && panics s a &&
    (match dir with | .any => true | .readOnly => !a.write | .writeOnly => a.write) && ready s h now a
  if denied && decide (x.panicBucket < 16) then s.addSat HC_ARB_PANIC_DENIED 1 else s

def dirAllows (dir : OpenDir) (w : Bool) : Bool := match dir with | .any => true | .readOnly => !w | .writeOnly => w

/-- The repair write a berth may carry: the first whose bank is idle and not reserved (R362). -/
def repairReady (s : State) (h now : Nat) : Option Repair :=
  let x := s.hc h
  x.repairs.find? fun r => bankIdle x now (bankOf s r.parcel) && !reserved s x (bankOf s r.parcel) none && !rowHeld x (placeOf s (256 * r.parcel))

/-- A scrub read may run at a berth: the bank of the pointer is idle and not reserved, its row is not under repair, scrub is not
paused by shedding (R368, R369, R373). -/
def scrubReady (s : State) (h now : Nat) : Bool :=
  let x := s.hc h
  let p := scrubPlace h x.scrubAt
  bankIdle x now p.bank && !reserved s x p.bank none && !rowHeld x p && decide (s.get PWR_SUPPLY_step < 1)

/-- A scrub read in a berth; dropped on its parity, the pointer stays and the read is made again (R335). -/
def scrubBerth (h now : Nat) (dropped : Bool) (errs : List PinErr) (s : State) : State :=
  let s1 := noteAccess h (scrubPlace h (s.hc h).scrubAt).bank now false s
  if dropped then noteDrop h s1 else scrubRead h errs s1

/-- A repair write in a berth; dropped on its parity, it stays queued (R335, R362). -/
def repairBerth (h now : Nat) (dropped : Bool) (r : Repair) (s : State) : State :=
  let s1 := noteAccess h (bankOf s r.parcel) now true s
  if dropped then noteDrop h s1 else repairWrite r s1

/-- A berth used as open (R292, R310 to R321). -/
def openBerth (h e now : Nat) (dir : OpenDir) (reclaimed dropped : Bool) (errs : List PinErr) (s : State) : State :=
  let x := s.hc h
  let p := s.get HC_ARB_PAUSE_level
  let paused := decide (x.opens * p % 8 < p)
  let s0 := s.modHc h fun y => { y with opens := (y.opens + 1) % 8 }
  if paused then s0
  else
    let gain := min 16 (s.inForce HC_ARB_PANIC_share)
    let s1 := s0.modHc h fun y => { y with panicBucket := min (panicDepth s) (y.panicBucket + gain), drain := drainNext s y }
    let s2 := notePanic h now dir s1
    match (if dirAllows dir true && turnOk s2 h e now true then repairReady s2 h now else none) with
    | some r => payOpen h true reclaimed (repairBerth h now dropped r) s2
    | none =>
      match openPick s2 h now dir with
      | some (a, t) =>
        if !turnOk s2 h e now a.write then s2.addSat HC_ARB_TURNS 1
        else payOpen h a.write reclaimed (fun s => serve h now a dropped errs (noteDynamic h a t s)) s2
      | none =>
        if dirAllows dir false && decide (x.scrubOpen < s.get ECC_SCRUB_CTRL_open_rate) && scrubReady s2 h now && turnOk s2 h e now false then
          payOpen h false reclaimed (fun s => scrubBerth h now dropped errs (s.modHc h fun y => { y with scrubOpen := y.scrubOpen + 1 })) s2
        else s2

/-! ### Refresh (R293, R339) -/

/-- The due order over the banks: those not refreshed in this round first, each part in rising order. -/
def dueOrder (x : HcSt) : List Nat :=
  ((List.range 32).filter fun b => !natBit x.refDone b) ++ (List.range 32).filter fun b => natBit x.refDone b

def passedOver (x : HcSt) (b : Nat) : Nat := KMap.get (fun _ => 0) x.passed b
def refreshes (x : HcSt) (b : Nat) : Nat := KMap.get (fun _ => 0) x.refCount b

/-- The bank may be refreshed: not accessed in the previous 6 berths, and not reserved unless passed over 32 times. -/
def refreshable (s : State) (x : HcSt) (now b : Nat) : Bool :=
  (match x.lastAcc.find b with | some t => decide (t + 6 < now) | none => true) &&
  (!reserved s x b none || decide (32 ≤ passedOver x b))

/-- One more pass-over for every bank listed. -/
def passAll (l : List Nat) (x : HcSt) : HcSt :=
  { x with passed := l.foldl (fun m b => KMap.put (fun _ => 0) m b (min 32 (KMap.get (fun _ => 0) m b + 1))) x.passed }

/-- A per-bank refresh of a bank: 4 rows, its counter and its place in the round move on. -/
def refreshBank (h b now : Nat) (forced dropped : Bool) (s : State) : State :=
  let s1 := s.modHc h fun x => { x with
    refDone := (let m := natSetBit x.refDone b; if m = 2 ^ 32 - 1 then 0 else m)
    refCount := if dropped then x.refCount else KMap.put (fun _ => 0) x.refCount b (refreshes x b + 1)
    passed := KMap.put (fun _ => 0) x.passed b 0
    lastRef := x.lastRef.ins b now
    refRetry := if dropped then some b else x.refRetry }
  let s2 := (s1.setReg (HC_REF_CNT h) (s1.reg (HC_REF_CNT h) + 1)).acted (4 * h + 3) 1
  let s3 := if dropped then noteDrop h s2 else s2
  if forced then (s3.addSat (HC_REF_FORCED h) 1).cause (Cause.HC_refresh_forced h) else s3

/-- An active refresh entry (R293): a dropped refresh first, else the first bank in the due order that qualifies.  Answers whether a
bank was refreshed. -/
def refreshEntry (h now : Nat) (dropped : Bool) (s : State) : Bool × State :=
  let x := s.hc h
  match x.refRetry with
  | some b => (true, refreshBank h b now false dropped (s.setHc h { x with refRetry := none }))
  | none =>
    let order := dueOrder x
    match order.find? fun b => refreshable s x now b with
    | none => (false, s.setHc h (passAll order x))
    | some b =>
      let ahead := order.takeWhile fun c => c != b
      (true, refreshBank h b now (decide (32 ≤ passedOver x b)) dropped (s.setHc h (passAll ahead x)))

/-! ### A row repair's copies (R351) -/

/-- Four reads in COPY_IN, the enable, four writes in COPY_OUT, one per REPAIR berth. -/
def repairCopy (h now : Nat) (r : RowRepair) (errs : List PinErr) (s : State) : State :=
  let p : Place := ⟨h, r.bank, r.row, r.berths % 4⟩
  let n := addrOfPlace s p / 256
  if r.step = RepairStep.copyIn then
    let (d, s1) := readParcel EccSource.repairCopy 0 n false false errs (noteAccess h r.bank now false s)
    let r1 := { r with berths := r.berths + 1, lost := if d.isNone then r.lost ++ [n] else r.lost }
    let r2 := if r1.berths = 4 then { r1 with step := RepairStep.copyOut } else r1
    (s1.modHc h fun x => { x with rowRepair := some r2 }).put (HC_REPAIR_STATUS_state h) r2.step
  else if r.step = RepairStep.copyOut ∧ r.berths < 8 then
    let s1 := noteAccess h r.bank now true s
    let s2 := if r.lost.contains n then setLost n 255 s1 else s1
    s2.modHc h fun x => { x with rowRepair := some { r with berths := r.berths + 1 } }
  else s

/-- A copy in its berth; dropped on its parity, it is made again (R335). -/
def repairCopyBerth (h now : Nat) (dropped : Bool) (r : RowRepair) (errs : List PinErr) (s : State) : State :=
  if dropped then noteDrop h (noteAccess h r.bank now (r.step == RepairStep.copyOut) s) else repairCopy h now r errs s

/-! ### A berth (R277, R292, R346) -/

/-- Kind k of refresh entries is active at the live rate (R293). -/
def refreshActive (s : State) (k : Nat) : Bool := decide (k ≤ s.tt.rate)

/-- The scheduler executes the duties alone: in IDLE (R444), unless a reset drains the device (R80). -/
def dutiesOnly (s : State) : Bool := s.mode == Mode.idle && !(s.start.request.any fun r => r.draining)

/-- The berth's entry executed; in IDLE booked and open berths stay idle (R444). -/
def runBerth (h e now : Nat) (dropped : Bool) (errs : List PinErr) (s : State) : State :=
  let dir := fun w : Bool => if w then OpenDir.writeOnly else OpenDir.readOnly
  match dutyAt (liveSlot s) h e with
  | .booked c w =>
    if suspendedClass s c || dutiesOnly s then s
    else match bookedPick s h now c w with
      | some a => serveBooked h now a dropped errs s
      | none => openBerth h e now (dir w) true dropped errs s
  | .opened d => if dutiesOnly s then s else openBerth h e now d false dropped errs s
  | .refresh k =>
    if refreshActive s k then
      match refreshEntry h now dropped s with
      | (true, s1) => s1
      | (false, s1) => openBerth h e now .any false dropped errs s1
    else openBerth h e now .any false dropped errs s
  | .scrub => if scrubReady s h now then scrubBerth h now dropped errs s else openBerth h e now .readOnly false dropped errs s
  | .train => openBerth h e now .any false dropped errs s
  | .repair =>
    match (s.hc h).rowRepair.filter fun r => decide (RepairStep.copyIn ≤ r.step ∧ r.berths < 8) with
    | some r => if bankIdle (s.hc h) now r.bank then repairCopyBerth h now dropped r errs s else openBerth h e now .writeOnly false dropped errs s
    | none =>
      match repairReady s h now with
      | some r => repairBerth h now dropped r s
      | none => openBerth h e now .writeOnly false dropped errs s
  | .turn | .idle | .bad => s

/-- The next berth of a half-channel in the crossing: it executes its entry while the half-channel serves; during a field retrain
only the active refresh entries work (R346). -/
def berth (h : Nat) (dropped : Bool) (errs : List PinErr) (s : State) : State :=
  let x := s.hc h
  if 12 ≤ x.berth || !slotFull (liveSlot s) then s
  else
    let e := entryNumber s x.berth
    let now := berthTime s h
    let s1 := if hcServes s h then runBerth h e now dropped errs s
      else if s.get (HC_STATUS_state h) = 4 then
        (match dutyAt (liveSlot s) h e with
         | .refresh k => if refreshActive s k then (refreshEntry h now dropped s).2 else s
         | _ => s)
      else s
    (runPlans s1).modHc h fun y => { y with berth := x.berth + 1 }

/-! ### Boundaries (R287, R296, R307, R318) -/

/-- The buckets of a class at a boundary. -/
def refill (t : Slot) (x : HcSt) : KMap Nat :=
  x.spent.filterMap fun p =>
    let m := t.manifest (p.1 / 2)
    let v := p.2 - m.rate (p.1 % 2 == 1)
    if v = 0 then none else some (p.1, v)

/-- HC_ARB_HC_DATA as it is shown until the next boundary. -/
def arbWord (x : HcSt) : Word :=
  BitVec.ofNat 32 (x.panicBucket % 2048 * 2 ^ 21 + boolNat x.dir * 2 ^ 17 + boolNat x.drain * 2 ^ 16 + dynUsed x true none * 2 ^ 8 + dynUsed x false none)

/-- A half-channel at a boundary. -/
def hcBoundary (h : Nat) (s : State) : State :=
  let t := liveSlot s
  let newPeriod := s.phase == 0
  let s1 := s.modHc h fun x => { x with
    berth := 0
    spent := refill t x
    openBucket := min (8 * 49152) (x.openBucket + 5 * t.openAllow)
    panicBucket := min (panicDepth s) x.panicBucket
    scrubOpen := if newPeriod then 0 else x.scrubOpen
    shown := arbWord x
    dqShown := x.dq }
  pinErase h s1

/-- The buckets of a half-channel at release (R318). -/
def hcRelease (h : Nat) (s : State) : State := s.modHc h fun x => { x with panicBucket := panicDepth s, spent := [] }

/-- A policy change lets READ_FIRST start as READ (R329). -/
def policyChanged (s : State) : State := forEach halfChannels (fun h s => s.modHc h fun x => { x with drain := false }) s

end Sys2Proof.Machine
end

