-- ==== Sys2Proof/Machine/Requests.lean ====
section
/-!
DEFINITION. Machine/Requests.lean: a request from its delivery to its execution: the request table, numbering, the header and
region checks, fences, and the start of each memory operation (R63, R78, R191, R210 to R221, R231, R235 to R240, R267).
-/
set_option autoImplicit false

namespace Sys2Proof.Machine
open Reg Bit

/-! ### Numbering (R78) -/

/-- Opcodes whose transactions are numbered. -/
def modifying (opcode : Nat) : Bool :=
  opcode == Op.wr || opcode == Op.wrm || (decide (Op.cntAdd ≤ opcode) && decide (opcode ≤ Op.meter))

/-- A transaction delivered now takes a number: it is for this node and its address lies in an enabled region with bypass policy. -/
def numbered (s : State) (h : Header) : Bool :=
  modifying h.opcode && h.dst == liveNode s &&
    match regionOver s h.addr with | some g => rgnPolicy s g == 0 | none => false

/-! ### Checks -/

/-- Opcodes that a port in v1 does not carry (R231). -/
def v2Only (opcode : Nat) : Bool := opcode == Op.peek || opcode == Op.move || opcode == Op.meter

/-- The header checks of a request for this device, in order, by what held at its delivery (R212 to R219, R231, R232, R267). -/
def headerNak (e : Entry) : Option Nat :=
  let h := e.txn.hdr
  if !e.v2 && v2Only h.opcode then some Nak.unsupported
  else if !requestOk h (if e.v2 then 1024 else 512) e.postedOk || !aluAligned h then some Nak.malformed
  else if !h.posted && e.busy then some Nak.tagBusy
  else none

/-- The device serves memory operations: it has been released and is not in SAFE (R63, R433). -/
def memoryServed (s : State) : Bool := !(s.mode == Mode.cold || s.mode == Mode.start || s.mode == Mode.safe)

/-- A queue operation. -/
def queueOp (opcode : Nat) : Bool := decide (Op.enq ≤ opcode) && decide (opcode ≤ Op.move)

/-- The destination queue of a MOVE (R259). -/
def moveDest (t : Txn) : Nat := ofBytesBE (t.data.take 4) % 2 ^ 18

/-- The region that a memory operation targets: of its address, or the pool of its queue; a MOVE needs a pool at both ends
(R236, R252, R259). -/
def targetRegion (s : State) (t : Txn) : Option Nat :=
  let h := t.hdr
  if h.opcode = Op.move then (match queuePool s (moveDest t) with | some _ => queuePool s h.addr | none => none)
  else if queueOp h.opcode then queuePool s h.addr
  else regionOf s h.addr

/-- The region type serves the opcode (R237). -/
def typeServes (type opcode fc : Nat) : Bool :=
  if opcode = Op.rd then type != 1 || fc == 0
  else if opcode = Op.wr ∨ opcode = Op.wrm then type != 1
  else if queueOp opcode then type == 1
  else if opcode = Op.cntAdd ∨ opcode = Op.cntRdclr then type == 2
  else if opcode = Op.fadd ∨ opcode = Op.cas then type == 0 || type == 2
  else opcode == Op.meter && type == 3

/-- The valid map of a region is reached only by RD with FC00 (R366). -/
def mapDenied (s : State) (g : Nat) (h : Header) : Bool :=
  !queueOp h.opcode && inValidMap s g h.addr && !(h.opcode == Op.rd && h.fc == 0)

/-- The checks of R63 and R236 on a memory operation. -/
def memoryNak (s : State) (p : Nat) (e : Entry) : Option Nat :=
  let h := e.txn.hdr
  if !memoryServed s then some Nak.notInService
  else match targetRegion s e.txn with
    | none => some Nak.noRegion
    | some g =>
      if !typeServes (rgnType s g) h.opcode h.fc then some Nak.unsupported
      else if !rgnAllows s g h.fc || mapDenied s g h then some Nak.denied
      else if capFull s p h.fc e.uid then some Nak.capExceeded
      else none

/-! ### Reads and writes (R238 to R240, R367) -/

/-- Lines that n bytes from an address touch. -/
def linesFrom (a n : Nat) : List Nat := (List.range ((a + n - 1) / 64 - a / 64 + 1)).map fun i => a / 64 + i

/-- Parcels that n bytes from an address touch. -/
def parcelsFrom (a n : Nat) : List Nat := (List.range ((a + n - 1) / 256 - a / 256 + 1)).map fun i => a / 256 + i

/-- The mask of lines of a parcel among those listed. -/
def lineMask (n : Nat) (l : List Nat) : Nat := (List.range 4).foldl (fun m k => if l.contains (4 * n + k) then m + 2 ^ k else m) 0

/-- RD: each line from the landing, from a parcel that holds zeros, or by an access of its parcel. -/
def rdRun (p : Nat) (e : Entry) (g : Nat) (s : State) : State :=
  let h := e.txn.hdr
  let lines := linesFrom h.addr h.rlen
  let (id, s1) := newJob p e .rd lines.length none s
  if rgnPolicy s g ≠ 0 || inLinkArea s g h.addr || inValidMap s g h.addr then
    forEach lines (fun n s => lookup p h.fc h.panic true n (.read id) s) s1
  else
    let held := lines.filter fun n => (lineAt s n).isSome
    let empty := fun n => !parcelValid s (n / 4) && !pendingWrite s n
    let zeros := lines.filter fun n => (lineAt s n).isNone && empty n
    let rest := lines.filter fun n => (lineAt s n).isNone && !empty n
    let s2 := forEach held (fun n s => lookup p h.fc h.panic false n (.read id) s) s1
    let s3 := forEach zeros (fun n s => jobLine id n (List.replicate 64 0) s) s2
    forEach (parcelsFrom h.addr h.rlen) (fun n s =>
      let mask := lineMask n rest
      if mask = 0 then s else pushAccess p h.fc h.panic false false false n mask (.read id) s) s3

/-- The bytes that a WR or WRM writes from its address on, a place for each byte it spans (R212). -/
def writeBytes (t : Txn) : List (Option Byte) :=
  if t.hdr.opcode = Op.wrm then
    (List.range (t.hdr.len - 32)).map fun i =>
      if natBit (t.data.getD (i / 8) 0).toNat (7 - i % 8) then some (t.data.getD (32 + i) 0) else none
  else (List.range t.hdr.len).map fun i => some (t.data.getD i 0)

/-- The places of n bytes from an address on that a run of bytes written at `a` fills. -/
def placesAt (a : Nat) (b : List (Option Byte)) (at_ n : Nat) : List (Option Byte) :=
  (List.range n).map fun i => if a ≤ at_ + i then b.getD (at_ + i - a) none else none

/-- WR and WRM.  In a bypass region: one access for each parcel, reading first unless the parcel is written whole or was never written
(R239, R367); while the region's lines are still being flushed, those that the landing holds are written there (R387).  In other regions: each
line through its slice.  Nothing is written before every read that it needs is done (R223). -/
def wrRun (p : Nat) (e : Entry) (g : Nat) (wseq : Option Nat) (s : State) : State :=
  let h := e.txn.hdr
  let b := writeBytes e.txn
  let lines := linesFrom h.addr b.length
  let here := lines.filter fun n => rgnPolicy s g != 0 || ((s.landing.flushes.find g).isSome && (lineAt s n).isSome)
  let away := lines.filter fun n => !here.contains n
  let parcels := (parcelsFrom h.addr b.length).filter fun n => lineMask n away != 0
  let places := fun n => (placesAt h.addr b (256 * n) 256).zipIdx.map fun x => if away.contains (4 * n + x.2 / 64) then x.1 else none
  let reads := fun n => !((places n).all Option.isSome) && parcelValid s n
  let (id, s1) := newJob p e .wr (parcels.length + here.length) wseq s
  let s2 := s1.modJob id fun j => { j with
    reads := (parcels.filter reads).length, plan := here.map fun n => (n, false, placesAt h.addr b (64 * n) 64) }
  runPlan id (forEach parcels (fun n s => pushAccess p h.fc h.panic true (reads n) false n (lineMask n away) (.write id (places n)) s) s2)

/-- CNT_ADD, CNT_RDCLR, FADD, CAS and METER: one operation on the line of the target (R267). -/
def atomicRun (p : Nat) (e : Entry) (g : Nat) (wseq : Option Nat) (s : State) : State :=
  let h := e.txn.hdr
  let (id, s1) := newJob p e .atomic 1 wseq s
  lookup p h.fc h.panic (rgnPolicy s g != 0) (h.addr / 64) (.atomic id) s1

/-! ### Execution -/

/-- A memory operation enters execution (R221, R225, R236, R251 to R267). -/
def runMemory (p : Nat) (e : Entry) (s0 : State) : State :=
  let wseq := (entryNow s0 p e).wseq
  let s1 := modEntry p e.uid (fun x => { x with begun := true, wseq := none }) s0
  let s := if queueOp e.txn.hdr.opcode then s1.acted 545 1 else s1
  match targetRegion s e.txn with
  | none => answerNak p e Nak.noRegion 0 (match wseq with | some n => wseqClose (p, n) s | none => s)
  | some g =>
    match e.txn.hdr.opcode with
    | 0x01 => rdRun p e g s
    | 0x02 | 0x03 => wrRun p e g wseq s
    | 0x08 => enqRun p e g s
    | 0x09 => deqRun p e g s
    | 0x0A => peekRun p e g s
    | 0x0B => dropRun p e g s
    | 0x0C => moveRun p e g ((queuePool s (moveDest e.txn)).getD g) s
    | _ => atomicRun p e g wseq s

/-- The queues that a queue operation works on. -/
def txnQueues (t : Txn) : List Nat := if t.hdr.opcode = Op.move then [t.hdr.addr, moveDest t] else [t.hdr.addr]

/-- The lines that an operation on an address works on. -/
def txnLines (t : Txn) : List Nat :=
  let h := t.hdr
  linesFrom h.addr (if h.opcode = Op.rd then h.rlen else if h.opcode = Op.wr then h.len else if h.opcode = Op.wrm then h.len - 32
    else if h.opcode = Op.cntAdd ∨ h.opcode = Op.cntRdclr then 16 else if h.opcode = Op.meter then 32 else 8)

/-- Two memory operations overlap: they name one queue, or one line (R220). -/
def sameTarget (a b : Txn) : Bool :=
  memoryOp a.hdr.opcode && memoryOp b.hdr.opcode &&
    (if queueOp a.hdr.opcode || queueOp b.hdr.opcode then
       queueOp a.hdr.opcode && queueOp b.hdr.opcode && (txnQueues a).any fun q => (txnQueues b).contains q
     else (txnLines a).any fun n => (txnLines b).contains n)

/-- A begun request leaves its target to those after it: its accesses or its line operations stand in their order.  An atomic that waits for
its fill, and a write whose lines are still being brought in, do not. -/
def ordered (s : State) (p : Nat) (e : Entry) : Bool :=
  e.done || !s.svc.jobs.any fun j => j.2.port == p && j.2.entry.uid == e.uid && (j.2.kind == .atomic || !j.2.plan.isEmpty)

/-- A request of the port may enter execution: after the requests of the port whose targets overlap its own (R220, R251), and a fenced one when
every request delivered before it has reached its completion point (R221). -/
def runnable (s : State) (p : Nat) (e : Entry) : Bool :=
  !e.begun && e.record.isNone &&
    (!e.txn.hdr.fence || ((s.link p).table ++ (s.link p).vc0).all fun x => decide (e.uid ≤ x.uid) || x.done) &&
    ((s.link p).table ++ (s.link p).vc0).all fun x => decide (e.uid ≤ x.uid) || (x.begun && ordered s p x) || x.record.isSome || !sameTarget x.txn e.txn

/-! ### Delivery and admission (R78, R210, R215, R218, R220, R322, R444) -/

/-- A request delivered joins the port's VC0 buffer, is numbered where R78 numbers it, and is judged against what holds now (R218, R232). -/
def deliverRequest (p : Nat) (t0 : Txn) (s : State) : State :=
  let t := asVersion s p t0
  let x := s.link p
  let num := numbered s t.hdr
  let n := (x.wseqSeen + 1) % 2 ^ 32
  let e : Entry := { uid := s.nextUid, txn := t, delays := 0, dead := false, begun := false, done := false, refused := false, v2 := isV2 s p,
                     busy := tagBusy s p t.hdr.src t.hdr.tag, postedOk := s.flag (UZ_CTRL_posted_en p), epoch := x.wseqEpoch, record := none,
                     wseq := if num then some (wseqFull x n) else none }
  let s1 := { s with nextUid := s.nextUid + 1 }.modLink p fun x => { x with vc0 := x.vc0 ++ [e], wseqSeen := if num then n else x.wseqSeen }
  if num then wseqHold (p, wseqFull x n) s1 else s1

/-- A waiting request may enter the table: while the intake is closed, memory operations stay in the buffer (R444). -/
def admissibleNow (s : State) (e : Entry) : Bool := !(s.modes.intakeClosed && memoryOp e.txn.hdr.opcode && e.txn.hdr.dst == liveNode s)

/-- The entry takes its place in the table, and its slots are freed. -/
def takeEntry (p : Nat) (e : Entry) (s : State) : State :=
  s.modLink p fun x => { x with
    vc0 := x.vc0.filter fun w => w.uid != e.uid
    freed := if e.epoch = x.wseqEpoch then vcAdd x.freed 0 (slotCount e.txn.hdr.len) else x.freed
    table := x.table ++ [e] }

/-- An admitted request judged: forwarded, refused, or left to enter execution (R215, R394). -/
def judgeRequest (p : Nat) (e : Entry) (s : State) : State :=
  if e.txn.hdr.dst ≠ liveNode s then forwardRequest p e s
  else match headerNak e with
    | some c => answerNak p e c 0 s
    | none =>
      if memoryOp e.txn.hdr.opcode then
        match memoryNak s p e with
        | some c => answerNak p e c 0 s
        | none => s
      else s

/-- The request that a port would admit next. -/
def nextWaiting (s : State) (p : Nat) : Option Entry := (s.link p).vc0.find? (admissibleNow s)

/-- A port's next request finds a free entry: one of its own, or a shared one that no older request of another port waits for (R210). -/
def mayAdmit (s : State) (p : Nat) (e : Entry) : Bool :=
  decide ((s.link p).table.length < 512) ||
    (decide (sharedUsed s < 8192) && (List.range 16).all fun q =>
      q == p || decide ((s.link q).table.length < 512) || (match nextWaiting s q with | some w => decide (e.uid ≤ w.uid) | none => true))

/-- The first waiting request that may enter the table enters it (R210). -/
def admitNext (p : Nat) (s : State) : State :=
  match nextWaiting s p with
  | none => s
  | some e => if mayAdmit s p e then judgeRequest p e (takeEntry p e s) else s

/-! ### The delivery of a transaction (R196, R213, R551) -/

/-- Slots of a transaction freed at once on its virtual channel. -/
def freeSlots (p : Nat) (h : Header) (s : State) : State :=
  s.modLink p fun x => { x with freed := vcAdd x.freed (vcOf h.opcode) (slotCount h.len) }

/-- The transaction is delivered on the port: the oldest of those framed, or, on a port in S7, handed over by the flit layer
directly.  While a reset drains the device, ingress is closed (R80). -/
def takeDelivered (p : Nat) (t : Txn) (s : State) : Option State :=
  let x := s.link p
  if s.start.request.any fun r => r.draining then none
  else if x.inbox.head? = some t then some ((s.modLink p fun x => { x with inbox := x.inbox.drop 1 }).acted 544 1)
  else if s.stage p = 7 then some (s.acted 544 1)
  else none

end Sys2Proof.Machine
end

