-- ==== Sys2Proof/Machine/Dram.lean ====
section
/-!
DEFINITION. Machine/Dram.lean: the core dies and their controllers: mode words, dropped commands, training, field retrains, drift
tracking, self-refresh, row repair, region fills, the map check and the meter sweep (R271, R327, R335 to R356, R365, R366).
-/
set_option autoImplicit false

namespace Sys2Proof.Machine
open Reg Bit

/-- States of HC_STATUS. -/
def HcState.down : Nat := 0
def HcState.training : Nat := 1
def HcState.service : Nat := 2
def HcState.selfRefresh : Nat := 3
def HcState.retrain : Nat := 4
def HcState.failed : Nat := 15

/-- States of HC_DIE_STATUS. -/
def DieState.service : Nat := 0
def DieState.selfRefresh : Nat := 1
def DieState.unconfirmed : Nat := 2
def DieState.failed : Nat := 3
def DieState.notTrained : Nat := 4

/-- The eight half-channels of a die. -/
def hcsOfDie (d : Nat) : List Nat := (List.range 8).map fun j => 8 * d + j

/-! ### Mode words (R354, R355) -/

def mwHeld (s : State) (d w : Nat) : Nat := KMap.get (fun _ => 0) (s.die d).mw w

def setMw (d w v : Nat) (s : State) : State := s.modDie d fun x => { x with mw := KMap.put (fun _ => 0) x.mw w v }

/-- The remap fields of a half-channel, as MW6 and MW7 hold them. -/
def remapWord (s : State) (h : Nat) : Nat := s.get (HC_TSV_REMAP_dq_fail1 h) * 256 + s.get (HC_TSV_REMAP_dq_fail0 h)

/-- A mode word as its die holds it.  MW3.extra_ptr follows the refreshes of the die's first bank (log entry 41). -/
def mwNow (s : State) (d w : Nat) : Nat :=
  match w with
  | 0 => 0x5AB0 + mwHeld s d 0 % 16
  | 1 => 31 * 2048 + 4 * 128 + 2 * 16 + 15
  | 2 => 0x22
  | 3 => refreshes (s.hc (8 * d)) 0 / 64 % 64 * 16 + mwHeld s d 3 % 8
  | 4 => mwHeld s d 4
  | 5 => if natBit s.always.selfRefresh d then 3 else 0
  | 6 => remapWord s (8 * d)
  | 7 => remapWord s (8 * d + 1)
  | 8 => s.get (HC_TSV_REMAP_ca_fail (8 * d + 1)) * 16 + s.get (HC_TSV_REMAP_ca_fail (8 * d))
  | 9 => (s.dram.spares.filter fun k => k / 2 ^ 22 == d).length
  | 12 => mwHeld s d 12
  | 13 => mwHeld s d 13
  | _ => 0

/-- The controller's copies of a die's mode words are read again. -/
def copyRefresh (d : Nat) (s : State) : State :=
  s.modDie d fun x => { x with valid := true, copy := (List.range 16).foldl (fun m w => KMap.put (fun _ => 0) m w (mwNow s d w)) x.copy }

/-- HC_DIE_MW_DATA. -/
def mwData (s : State) (d : Nat) : Word :=
  BitVec.ofNat 32 (boolNat (s.die d).valid * 2 ^ 31 + KMap.get (fun _ => 0) (s.die d).copy (s.get (HC_DIE_MW_IDX_mw d)) % 2 ^ 16)

/-- MW13 read by the controller: its copy follows, and the bits that a read clears are cleared. -/
def readMw13 (d : Nat) (s : State) : State :=
  let v := mwHeld s d 13
  s.modDie d fun x => { x with copy := KMap.put (fun _ => 0) x.copy 13 v, mw := KMap.put (fun _ => 0) x.mw 13 (v / 4 * 4) }

/-- MW13 as read in every crossing (R355). -/
def readMw13All (s : State) : State :=
  forEach (List.range 16) (fun d s =>
    if mwHeld s d 13 % 4 = 0 && KMap.get (fun _ => 0) (s.die d).copy 13 == mwHeld s d 13 then s else readMw13 d s) s

/-- The temperature flags of a die (R341). -/
def dieHot (d : Nat) (hot85 hot95 : Bool) (s : State) : State :=
  setMw d 13 (mwHeld s d 13 % 4 + 4 * boolNat hot85 + 8 * boolNat hot95) s

/-! ### Dropped commands (R335, R336) -/

/-- Commands dropped on a channel within the last millisecond. -/
def channelDrops (s : State) (h : Nat) : Nat :=
  ([h / 2 * 2, h / 2 * 2 + 1].map fun k => ((s.hc k).caTicks.filter fun t => decide (s.ticks ≤ t + 12500)).length).sum

/-- The controller reads MW13: dropped commands are retried, and the sixteenth in a millisecond retrains the channel. -/
def caParity (h : Nat) (s : State) : State :=
  let x := s.hc h
  let s0 := readMw13 (h / 8) s
  if x.caNew = 0 then s0
  else
    let s1 := s0.modHc h fun y => { y with queue := y.queue ++ y.dropped, dropped := [], caNew := 0 }
    let s2 := (s1.addSat (HC_CA_RETRIES h) x.caNew).cause (Cause.HC_ca_retry h)
    if channelDrops s h < 16 then s2
    else if [h / 2 * 2, h / 2 * 2 + 1].any fun k => s.get (HC_STATUS_state k) == HcState.retrain then s2
    else
      retrainDecide h 1 ((s2.modHc (h / 2 * 2) fun y => { y with caTicks := [] }).modHc (h / 2 * 2 + 1) fun y => { y with caTicks := [] })

/-! ### Spare TSVs (R347, R348) -/

def markExhausted (h : Nat) (s : State) : State := s.cause (Cause.HC_spare_tsv_exhausted h)

/-- The index of a TSV path of a half-channel: 0 to 35 DQ, 36 and 37 the spares, 38 and 39 the strobes (R533). -/
def tsvOfDq (h line : Nat) : Nat := 376 * (h / 8) + 40 * (h % 8) + line

/-- The index of a CA path of the channel of a half-channel: 0 to 11 CA lines, 12 and 13 the spares. -/
def tsvOfCa (h line : Nat) : Nat := 376 * (h / 8) + 320 + 14 * (h / 2 % 4) + line

/-- The spare DQ that a failed line takes: the first one free and not failed (R347, R534). -/
def spareDq (s : State) (h : Nat) : Option Nat :=
  [0, 1].find? fun k =>
    (if k = 0 then s.get (HC_TSV_REMAP_dq_fail0 h) else s.get (HC_TSV_REMAP_dq_fail1 h)) == 63 && !s.test.deadSpares.contains (tsvOfDq h (36 + k))

/-- The spare CA line of the channel whose half 0 is c. -/
def spareCa (s : State) (c : Nat) : Option Nat :=
  [0, 1].find? fun k => s.get (HC_TSV_REMAP_ca_fail (c + k)) == 15 && !s.test.deadSpares.contains (tsvOfCa c (12 + k))

/-- A failed DQ line is carried on a spare; src 0 names OTP, 1 the ledger. -/
def carryDq (h line k src : Nat) (s : State) : State :=
  let s1 := if k = 0 then (s.put (HC_TSV_REMAP_dq_fail0 h) line).put (HC_TSV_REMAP_src0 h) src
    else (s.put (HC_TSV_REMAP_dq_fail1 h) line).put (HC_TSV_REMAP_src1 h) src
  s1.put (HC_STATUS_remapped h) 1

/-- A failed CA line is carried on the spare that a half owns. -/
def carryCa (h line src : Nat) (s : State) : State :=
  ((s.put (HC_TSV_REMAP_ca_fail h) line).put (HC_TSV_REMAP_src_ca h) src).put (HC_STATUS_remapped h) 1

/-- Both spare DQs of a half-channel, or both spare CA lines of its channel, are in use. -/
def dqSpent (s : State) (h : Nat) : Bool := s.get (HC_TSV_REMAP_dq_fail0 h) != 63 && s.get (HC_TSV_REMAP_dq_fail1 h) != 63
def caSpent (s : State) (c : Nat) : Bool := s.get (HC_TSV_REMAP_ca_fail c) != 15 && s.get (HC_TSV_REMAP_ca_fail (c + 1)) != 15

/-- A line is carried on a spare already. -/
def dqCarried (s : State) (h line : Nat) : Bool := s.get (HC_TSV_REMAP_dq_fail0 h) == line || s.get (HC_TSV_REMAP_dq_fail1 h) == line
def caCarried (s : State) (c line : Nat) : Bool := s.get (HC_TSV_REMAP_ca_fail c) == line || s.get (HC_TSV_REMAP_ca_fail (c + 1)) == line

/-- A DQ line that newly failed takes a spare of its half-channel. -/
def remapDq (h line : Nat) (s : State) : State :=
  if dqCarried s h line then s
  else match spareDq s h with
  | none => s
  | some k =>
    let s1 := ledgerAdd ⟨.dqRemap, h, line, k, 1⟩ ((carryDq h line k 1 s).cause (Cause.HC_tsv_remap h))
    if dqSpent s1 h then markExhausted h s1 else s1

/-- A CA line that newly failed takes a spare of its channel: SCA0 of half 0, then SCA1 of half 1. -/
def remapCa (h line : Nat) (s : State) : State :=
  let c := h / 2 * 2
  if caCarried s c line then s
  else match spareCa s c with
  | none => s
  | some k =>
    let s1 := ledgerAdd ⟨.caRemap, c + k, line, k, 1⟩ ((carryCa (c + k) line 1 s).cause (Cause.HC_tsv_remap (c + k)))
    if caSpent s1 c then markExhausted (c + k) s1 else s1

/-- Which of the two uses HC_DQ_DATA names for a line. -/
def dqUse (s : State) (h line : Nat) : Nat :=
  let f0 := s.get (HC_TSV_REMAP_dq_fail0 h)
  let f1 := s.get (HC_TSV_REMAP_dq_fail1 h)
  if line < 36 then (if line = f0 ∨ line = f1 then 2 else 0)
  else if line = 36 then (if f0 = 63 then 1 else 3)
  else if f1 = 63 then 1 else 3

/-- HC_DQ_DATA. -/
def dqData (s : State) (h : Nat) : Word :=
  let line := s.get (HC_DQ_IDX_dq h)
  if 37 < line then 0
  else (KMap.get (fun _ => (0 : Word)) (s.hc h).dqShown line).withBits 7 6 (dqUse s h line)

/-- HC_REF_DATA. -/
def refData (s : State) (h : Nat) : Word :=
  let b := s.get (HC_REF_IDX_bank h)
  BitVec.ofNat 32 (passedOver (s.hc h) b * 2 ^ 24 + 4 * refreshes (s.hc h) b % 2 ^ 14)

/-! ### Training (R343 to R348, R353) -/

/-- The half-channel's banks all leave service (R346). -/
def banksOut (h : Nat) (s : State) : State :=
  let s1 := (s.setReg (HC_BANKS h) 0).put (HC_STATUS_banks h) 0
  if s.flag (HC_STATUS_short h) then s1
  else ((s1.put (HC_STATUS_short h) 1).setReg (TT_HC_SHORT (h / 32))
    (BitVec.ofNat 32 (natSetBit (s1.reg (TT_HC_SHORT (h / 32))).toNat (h % 32)))).cause Cause.TT_hc_short

/-- The step at which a training fails: where its report says, or where a line finds no spare left, CA lines (4) before DQ lines (6);
0 none (R344). -/
def trainFailStep (o : TrainOutcome) (s : State) : Nat :=
  let s1 := forEach o.newCa (fun l s => remapCa o.hc l s) s
  let s2 := forEach o.newDq (fun l s => remapDq o.hc l s) s1
  let steps := [(o.newCa.any fun l => !caCarried s1 (o.hc / 2 * 2) l, 4), (o.newDq.any fun l => !dqCarried s2 o.hc l, 6), (o.failStep != 0, o.failStep)]
  ((steps.filter fun x => x.1).map fun x => x.2).foldl (fun m n => if m = 0 then n else min m n) 0

/-- The bits of HC_DQ_DATA that training sets: eye, write deskew, read deskew and Vref. -/
def dqTrims (w : Word) : Word := w &&& 0xFF1F1F3F

/-- Trims, remaps and times that a training of a half-channel leaves; an erasure ends (R361). -/
def trainApply (o : TrainOutcome) (s : State) : State :=
  let h := o.hc
  let fail := trainFailStep o s
  let s1 := forEach o.newDq (fun l s => remapDq h l s) (forEach o.newCa (fun l s => remapCa h l s) s)
  let s2 := ((s1.put (HC_WCK_TRIM_trim h) (min 63 o.wck)).put (HC_TRAIN_STATUS_us h) (min 0xFFFF o.us)).put (HC_TRAIN_STATUS_fail_step h) fail
  let s3 := s2.put (HC_TRAIN_STATUS_step h) (if fail = 0 then 9 else fail)
  s3.modHc h fun x => { x with
    dq := o.dq.foldl (fun m p => if p.1 ≤ 37 then KMap.put (fun _ => (0 : Word)) m p.1 (dqTrims p.2) else m) x.dq
    erased := none, eraseDue := none, caTicks := [] }

/-- The half-channels that fail with a half-channel at a step: for a CA line without a spare, both of the channel (R344). -/
def failsWith (h fail : Nat) : List Nat := if fail = 4 then [h / 2 * 2, h / 2 * 2 + 1] else [h]

/-- A half-channel FAILED at a step of training. -/
def hcFailed (fail k : Nat) (s : State) : State :=
  if s.get (HC_STATUS_state k) = HcState.failed then s
  else ((s.put (HC_TRAIN_STATUS_fail_step k) fail).put (HC_STATUS_state k) HcState.failed).cause (Cause.HC_train_fail k)

/-- A half-channel trained at START: in SERVICE, or FAILED (R343, R344). -/
def trainHc (o : TrainOutcome) (s : State) : State :=
  let fail := trainFailStep o s
  let s1 := (trainApply o s).put (HC_TRAIN_STATUS_retrains o.hc) 0
  if fail ≠ 0 then forEach (failsWith o.hc fail) (hcFailed fail) s1
  else if s1.get (HC_STATUS_state o.hc) = HcState.failed then s1
  else s1.put (HC_STATUS_state o.hc) HcState.service

/-- A die trained: its position, its trims and its identity; a die whose identity does not check fails (R344). -/
def trainDie (o : DieOutcome) (s : State) : State :=
  let d := o.die
  let s1 := setMw d 12 (o.seed % 2 ^ 16) (setMw d 4 (o.mw4 / 256 % 256 * 256 + o.mw4 % 16) (setMw d 3 4 (setMw d 0 (d % 16) s)))
  let s2 := ((s1.put (HC_DIE_STATUS_ck_trim d) (min 127 o.ckTrim)).putFlag (HC_DIE_STATUS_id_ok d) o.idOk).put (HC_DIE_STATUS_state d)
    (if o.idOk then DieState.service else DieState.failed)
  copyRefresh d s2

/-- A pending repair resolved at the REPAIR step: kept when its copy had finished (R353).  After power was lost the spare's contents
are open: a free value decides (log entry 2). -/
def resolveRepair (e : LedgerEntry) (s : State) : State :=
  let copied := match (s.hc e.hc).rowRepair with
    | some r => r.bank == e.unit && r.row == e.row && r.step == RepairStep.copyOut && r.berths == 8
    | none => false
  let keep := if s.start.kind = 0 then s.drawn 1 == 1 else copied
  let s1 := if s.start.kind = 0 then s.drew else s
  if keep then
    { s1 with
      ledger := s1.ledger.map fun x => if x = e then { x with st := 1 } else x
      dram := { s1.dram with spares := insertSorted ((e.hc * 32 + e.unit) * 2 ^ 14 + e.row) s1.dram.spares } }
  else { s1 with ledger := s1.ledger.filter fun x => x != e }

/-- The REPAIR step of training (R343, R353). -/
def resolveRepairs (s : State) : State :=
  let due := s.ledger.filter fun e => e.kind == .rowRepair && e.st == 0
  let s1 := forEach due resolveRepair s
  forEach halfChannels (fun h s => s.modHc h fun x => { x with rowRepair := none }) s1

/-! ### Field retrains (R346) -/

/-- What a training outside START leaves: the half-channel in SERVICE, or FAILED with its banks out of service (R346, R446). -/
def retrained (o : TrainOutcome) (s : State) : State :=
  let fail := trainFailStep o s
  let s1 := trainApply o s
  if fail ≠ 0 then forEach (failsWith o.hc fail) (fun k s => banksOut k (hcFailed fail k s)) s1
  else if s1.get (HC_STATUS_state o.hc) = HcState.failed then s1
  else s1.put (HC_STATUS_state o.hc) HcState.service

/-- A retrain that is due begins at the boundary. -/
def fieldRetrain (h : Nat) (s : State) : State :=
  match (s.hc h).retrainDue with
  | none => s
  | some c =>
    if s.get (HC_STATUS_state h) ≠ HcState.service then s
    else
      (((s.modHc h fun x => { x with retrain := some c, retrainDue := none }).put (HC_STATUS_state h) HcState.retrain).put
        (HC_TRAIN_STATUS_step h) 4).put (HC_TRAIN_STATUS_last_cause h) c

/-- The retrain ends, in SERVICE or FAILED. -/
def fieldRetrainEnd (o : TrainOutcome) (s : State) : State :=
  if (s.hc o.hc).retrain.isNone then s
  else
    let s1 := ((s.modHc o.hc fun x => { x with retrain := none }).addField (HC_TRAIN_STATUS_retrains o.hc) 1).put (HC_CTRL_retrain o.hc) 0
    copyRefresh (o.hc / 8) (retrained o (s1.cause (Cause.HC_retrain o.hc)))

/-- A write of HC_CTRL: its go bit asks for a retrain of a half-channel in SERVICE (R346, R356). -/
def hcCtrlWrite (h : Nat) (v : Word) (s : State) : State :=
  let s1 := s.put (HC_CTRL_track_en h) (v.bits 4 4)
  if v.bits 0 0 = 1 && s.get (HC_STATUS_state h) == HcState.service && (s.hc h).retrainDue.isNone then
    retrainDecide h 0 (s1.put (HC_CTRL_retrain h) 1)
  else s1

/-- One step of a trim. -/
def moved (v : Nat) (by_ : Int) (top : Nat) : Nat := (max 0 (min (top : Int) ((v : Int) + max (-1) (min 1 by_)))).toNat

/-- A tracking pass of a half-channel in SERVICE (R345).  A trim reaches its end when a move of the pass leaves it there (log entry 63). -/
def trackingPass (h : Nat) (errors : Bool) (wckMove : Int) (dqMoves : List (Nat × Int)) (s : State) : State :=
  if !s.flag (HC_CTRL_track_en h) || s.get (HC_STATUS_state h) != HcState.service then s
  else
    let wck := moved (s.get (HC_WCK_TRIM_trim h)) wckMove 63
    let x := s.hc h
    let dq := dqMoves.foldl (fun (m : KMap Word) p =>
      if p.1 ≤ 37 then
        let w := KMap.get (fun _ => (0 : Word)) m p.1
        KMap.put (fun _ => (0 : Word)) m p.1 (w.withBits 20 16 (moved (w.bits 20 16) p.2 31))
      else m) x.dq
    let edge := (wckMove != 0 && (wck == 0 || wck == 63)) || dqMoves.any fun p =>
      p.1 ≤ 37 && p.2 != 0 && (let v := (KMap.get (fun _ => (0 : Word)) dq p.1).bits 20 16; v == 0 || v == 31)
    let s1 := (s.setHc h { x with dq := dq, trackBank := (x.trackBank + 1) % 32, trackAt := s.ticks }).put (HC_WCK_TRIM_trim h) wck
    let s2 := s1.add48 (HC_ACT_CNT_LO h) 8
    let s3 := if edge then retrainDecide h 2 (s2.cause (Cause.HC_drift h)) else s2
    if errors then retrainDecide h 3 s3 else s3

/-! ### Self-refresh (R340 to R342) -/

/-- A die confirms self-refresh; MW3.sr_rate is the rate live at entry. -/
def confirmSelfRefresh (d : Nat) (s : State) : State :=
  let s1 := setMw d 3 (mwHeld s d 3 / 4 * 4 + s.tt.rate) { s with always := { s.always with selfRefresh := natSetBit s.always.selfRefresh d } }
  let s2 := ((s1.put (HC_DIE_STATUS_in_sr d) 1).put (HC_DIE_STATUS_sr_confirmed d) 1).put (HC_DIE_STATUS_state d) DieState.selfRefresh
  forEach (hcsOfDie d) (fun h s =>
    if s.get (HC_STATUS_state h) = HcState.failed then s else s.put (HC_STATUS_state h) HcState.selfRefresh) s2

/-- A die has left self-refresh: its row counters are as it advanced them, which the spec does not give (log entry 2), and its
half-channels are in SERVICE with the live rate. -/
def leaveSelfRefresh (d : Nat) (s : State) : State :=
  let s1 := { s with always := { s.always with selfRefresh := natClearBit s.always.selfRefresh d } }
  let s2 := ((s1.put (HC_DIE_STATUS_in_sr d) 0).put (HC_DIE_STATUS_sr_confirmed d) 0).put (HC_DIE_STATUS_state d) DieState.service
  forEach (hcsOfDie d) (fun h s =>
    if s.get (HC_STATUS_state h) = HcState.failed then s
    else
      let base := s.free
      ((s.drewMany 32).modHc h fun x => { x with
        refCount := (List.range 32).foldl (fun m b => KMap.put (fun _ => 0) m b (Config.freeValue (base + b) % 4096)) []
        lastAcc := [], lastRef := [], lastRead := none, lastWrite := none }).put (HC_STATUS_state h) HcState.service) s2

/-! ### Row repair (R350, R351) -/

/-- A requested row repair judged (R350). -/
def repairRequest (p : Place) (s : State) : State :=
  let s1 := s.put (HC_REPAIR_STATUS_spares_left p.hc) (sparesLeft s p)
  match repairRefusal s p with
  | some r => ((s1.put (HC_REPAIR_STATUS_result p.hc) r).put (HC_REPAIR_CTRL_go p.hc) 0).cause (Cause.HC_repair_fail p.hc)
  | none => repairBegin p (s1.put (HC_REPAIR_CTRL_go p.hc) 1)

/-- A write of HC_REPAIR_CTRL. -/
def hcRepairWrite (h : Nat) (v : Word) (s : State) : State :=
  if v.bits 0 0 = 0 then s
  else if (s.hc h).rowRepair.isSome then (s.put (HC_REPAIR_STATUS_result h) RepairResult.busy).cause (Cause.HC_repair_fail h)
  else repairRequest ⟨h, s.get (HC_REPAIR_ADDR_bank h), s.get (HC_REPAIR_ADDR_row h), 0⟩ s

def State.modTest (s : State) (f : TestSt → TestSt) : State := { s with test := f s.test }

/-- What the purser holds now, as a copy of a kind with a verdict (R526). -/
def ledgerCopy (kind verdict : Nat) (s : State) : LedgerCopy :=
  { kind := kind, verdict := verdict, consumed := false, entries := s.ledger, tsv := s.test.tsv, shorts := s.test.shorts, deadSpares := s.test.deadSpares, queueRows := s.test.queueRows,
    imageRows := s.test.imageRows, disabled := s.landing.disabled, pointer := s.test.pointer, passes := s.test.passes, seen := s.test.seen }

/-- A copy is written and is the newest (R527). -/
def ledgerWrite (kind verdict : Nat) (s : State) : State :=
  s.modTest fun x => { x with stored := ledgerCopy kind verdict s, updateDue := false, updateAt := if kind = 2 then some s.ticks else x.updateAt }

/-- An UPDATE copy, which keeps the verdict of the last shutdown self-test. -/
def ledgerUpdateCopy (s : State) : State := ledgerWrite 2 s.test.stored.verdict s

/-- LEDGER and HOLD pass at boundaries: LEDGER has written the pending entry to the ledger. -/
def repairAdvance (h : Nat) (s : State) : State :=
  match (s.hc h).rowRepair with
  | some r =>
    if r.step < RepairStep.copyIn then
      let s1 := if r.step = RepairStep.ledger then ledgerUpdateCopy s else s
      (s1.modHc h fun x => { x with rowRepair := some { r with step := r.step + 1 } }).put (HC_REPAIR_STATUS_state h) (r.step + 1)
    else s
  | none => s

/-- The copies a repair still lacks. -/
def repairCopies (h now : Nat) : Nat → State → State
  | 0, s => s
  | n + 1, s =>
    match (s.hc h).rowRepair with
    | some r => repairCopies h now n (repairCopy h now r [] s)
    | none => s

/-- The repair ends: the spare serves the row, the ledger entry is complete and held requests proceed. -/
def repairRelease (h : Nat) (s : State) : State :=
  match (s.hc h).rowRepair with
  | none => s
  | some r =>
    let p : Place := ⟨h, r.bank, r.row, 0⟩
    let s1 := repairCopies h (berthTime s h) (8 - r.berths) (repairAdvance h (repairAdvance h s))
    let s2 := { s1 with
      ledger := s1.ledger.map fun (x : LedgerEntry) =>
        if x.kind = RepairKind.rowRepair ∧ x.hc = h ∧ x.unit = r.bank ∧ x.row = r.row ∧ x.st = 0 then { x with st := 1 } else x
      dram := { s1.dram with spares := insertSorted p.rowKey s1.dram.spares }
      test := { s1.test with updateDue := true } }
    let s3 := s2.modHc h fun x => { x with rowRepair := none, suspects := x.suspects.filter fun k => k != r.bank * 2 ^ 14 + r.row }
    copyRefresh (h / 8)
      (((((s3.put (HC_REPAIR_STATUS_state h) 0).put (HC_REPAIR_STATUS_result h) RepairResult.done).put
        (HC_REPAIR_STATUS_spares_left h) (sparesLeft s3 p)).put (HC_REPAIR_CTRL_go h) 0).cause (Cause.HC_repair_done h))

/-! ### Fills and map clears (R365, R366) -/

/-- The stored bytes whose device addresses lie in a range become 0, and no codeword of them stays lost. -/
def zeroRange (lo hi : Nat) (s : State) : State :=
  let inside := fun parcel : Nat =>
    let a := addrOfPlace s ⟨parcel / 2 ^ 21, parcel / 2 ^ 16 % 32, parcel / 4 % 2 ^ 14, parcel % 4⟩
    decide (lo ≤ a ∧ a < hi)
  { s with dram := { s.dram with
    mem := s.dram.mem.filter fun p => !inside (p.1 / 256)
    lost := s.dram.lost.filter fun p => !inside p.1 } }

/-- A region is filled with zeros, or its valid map cleared; a pool is always filled. -/
def fillRegion (g : Nat) (s : State) : State :=
  if rgnValidBit s g then zeroRange (validBase s g) (rgnBase s g + rgnSize s g) s else zeroRange (rgnBase s g) (rgnBase s g + rgnSize s g) s

/-- ECC_STATUS names the fill in progress. -/
def showFill (s : State) : State :=
  match s.svc.fills with
  | [] => (s.put ECC_STATUS_filling 0).put ECC_STATUS_clearing 0
  | g :: _ =>
    let clears := rgnValidBit s g
    ((s.put ECC_STATUS_fill_region g).putFlag ECC_STATUS_filling (!clears)).putFlag ECC_STATUS_clearing clears

/-- The fill in progress ends: its region goes live and the next one begins. -/
def fillDone (s : State) : State :=
  match s.svc.fills with
  | [] => s
  | g :: rest =>
    let s1 := fillRegion g { s with svc := { s.svc with fills := rest } }
    let s2 := if rest.contains g then s1 else s1.putFlag (SVC_RGN_STATUS_live g) (rgnGood s g)
    showFill (s2.cause Cause.ECC_fill_done)

/-- A fill or clear of a region that a commit requires waits its turn; the region is not live until it ends. -/
def queueFill (g : Nat) (s : State) : State :=
  showFill ({ s with svc := { s.svc with fills := s.svc.fills ++ [g] } }.put (SVC_RGN_STATUS_live g) 0)

/-! ### The map check (R326, R327) -/

/-- One column of the elimination over GF(2): the rows left, or none where no row has the bit. -/
def gfColumn (rows : Option (List Nat)) (i : Nat) : Option (List Nat) :=
  match rows with
  | none => none
  | some l =>
    match l.find? fun r => natBit r i with
    | none => none
    | some r => some ((l.erase r).map fun q => if natBit q i then Nat.xor q r else q)

/-- The matrix of the low twelve bits is nonsingular. -/
def nonsingular (masks : List Nat) : Bool := ((List.range 12).foldl gfColumn (some (masks.map fun m => m % 4096))).isSome

/-- HC_MAP_CTRL.go: the edit set is checked and, when valid, staged as the shadow of the target map. -/
def mapCheck (target : Bool) (s : State) : State :=
  let masks := (List.range 12).map fun k => s.get (HC_MAP_EDIT_mask k)
  let bad := (List.range 12).find? fun k => let n := popCount 26 (masks.getD k 0); n == 0 || decide (8 < n)
  let s1 := (s.putFlag HC_MAP_CTRL_target target).put HC_MAP_CTRL_go 0
  match bad with
  | some k => (s1.put HC_MAP_STATUS_result 2).put HC_MAP_STATUS_sel k
  | none =>
    if !nonsingular masks then s1.put HC_MAP_STATUS_result 3
    else
      let reg := fun k => if target then HC_MAP1_SEL k else HC_MAP0_SEL k
      (forEach (List.range 12) (fun k s => stageWord (reg k) (BitVec.ofNat 32 (masks.getD k 0)) s) s1).put HC_MAP_STATUS_result 1

/-- HC_MAP_STATUS. -/
def mapStatus (s : State) : Word :=
  let away := fun f : Nat → Nat => (List.range 12).any fun k => (s.staged.find (f k)).isSome
  ((s.reg HC_MAP_STATUS).withBits 8 8 (boolNat (away HC_MAP0_SEL))).withBits 9 9 (boolNat (away HC_MAP1_SEL))

/-! ### The meter sweep (R271) -/

/-- The next line of a live meter region from a line on. -/
def nextMeterLine (s : State) (n : Nat) : Option Nat :=
  ((List.range 16).filterMap fun g =>
    if rgnLive s g && rgnType s g == 3 then
      let m := max n (rgnBase s g / 64)
      let top := if rgnValidBit s g then validBase s g else rgnBase s g + rgnSize s g
      if m < top / 64 then some m else none
    else none).foldl (fun b m => match b with | some c => some (min c m) | none => some m) none

/-- The sweep refreshes the two meters of its next line; past the last one a pass ends.  A line never written holds no meter. -/
def meterSweep (s : State) : State :=
  if !s.flag SVC_METER_CTRL_sweep_en then s
  else
    let x := s.svc.sweep
    match nextMeterLine s x.line with
    | some n =>
      let s1 := { s with svc := { s.svc with sweep := { x with line := n + 1 } } }
      if !parcelValid s1 (n / 4) then s1
      else
        let keep := match regionOver s1 (64 * n) with | some g => rgnPolicy s1 g != 0 | none => false
        lookup ownPort 0 false keep n (.refresh 32) (lookup ownPort 0 false keep n (.refresh 0) s1)
    | none =>
      if x.line = 0 then s
      else
        let s1 := (s.put SVC_METER_STATUS_passes (s.get SVC_METER_STATUS_passes + 1)).putFlag SVC_METER_STATUS_late x.late
        { s1 with svc := { s1.svc with sweep := { start := s.ticks, late := false, line := 0 } } }

/-- A pass that has lasted longer than 2^28 crossings raises METER_SWEEP_LATE and goes on. -/
def meterSweepLate (s : State) : State :=
  if s.flag SVC_METER_CTRL_sweep_en && !s.svc.sweep.late && decide (2 ^ 28 < s.ticks - s.svc.sweep.start) then
    ({ s with svc := { s.svc with sweep := { s.svc.sweep with late := true } } }.put SVC_METER_STATUS_late 1).cause Cause.SVC_meter_sweep_late
  else s

end Sys2Proof.Machine
end

