-- ==== Sys2Proof/Machine/Thermal.lean ====
section
/-!
DEFINITION. Machine/Thermal.lean: sensors, the thermal model, effective temperatures, levels, the refresh rate, and life accounting
(15_thermal).
-/
set_option autoImplicit false

namespace Sys2Proof.Machine
open Reg Bit

/-- A word of an OTP region failed at FUSE (R511). -/
def lostRegion (s : State) (r : Nat) : Bool := s.otp.failed.any fun w => w / 4096 == r

/-- The model runs on the ROM's coefficients (R511). -/
def romModel (s : State) : Bool := lostRegion s 2

def State.setTherm (s : State) (v : ThermSt) : State := { s with therm := v }
def State.modTherm (s : State) (f : ThermSt → ThermSt) : State := s.setTherm (f s.therm)

/-! ### Nodes (R412) -/

def thermNodes : List Nat := List.range 88
/-- A node of a core die. -/
def coreNode (n : Nat) : Bool := decide (24 ≤ n)
/-- The die of a node: 0 the base die, d + 1 core die Dd. -/
def nodeDie (n : Nat) : Nat := if n < 24 then 0 else (n - 24) / 4 + 1

def modelOf (s : State) (n : Nat) : Rat := KMap.get (fun _ => (0 : Rat)) s.therm.model n
def readingOf (s : State) (n : Nat) : Int := KMap.get (fun _ => (0 : Int)) s.therm.reading n
def sensorBroken (s : State) (n : Nat) : Bool := (s.therm.broken.find n).isSome
/-- A conversion within −45 °C to 135 °C. -/
def inRange (v : Int) : Bool := decide (-180 ≤ v ∧ v ≤ 540)
/-- The sensor's reading may be used. -/
def trusted (s : State) (n : Nat) : Bool := !sensorBroken s n && !s.therm.badReads.contains n

/-- A conversion of a sensor (R413, R419). -/
def sensorConversion (n : Nat) (reading : Int) (faulty : Bool) (s : State) : State :=
  let bad := faulty || !inRange reading
  s.modTherm fun x => { x with
    reading := KMap.put (fun _ => (0 : Int)) x.reading n reading
    badReads := if bad then insertSorted n x.badReads else x.badReads.filter fun m => m != n
    codeSince := if readingOf s n = reading && (x.codeSince.find n).isSome then x.codeSince else x.codeSince.ins n s.ticks }

/-! ### The model (R414, R415) -/

def activityOf (s : State) (k : Nat) : Nat := KMap.get (fun _ => 0) s.activity k

/-- An activity of two half-channels of a channel. -/
def channelActivity (s : State) (c kind : Nat) : Nat := activityOf s (4 * (2 * c) + kind) + activityOf s (4 * (2 * c + 1) + kind)

/-- Bursts of half-channels from h on, n of them. -/
def bursts (s : State) (h n : Nat) : Nat :=
  (List.range n).foldl (fun t i => t + activityOf s (4 * (h + i) + 1) + activityOf s (4 * (h + i) + 2)) 0

/-- The heat of a node over the last 16 crossings, as power in W (R415). -/
def nodePower (s : State) (n : Nat) : Rat :=
  let e := fun k (count : Nat) => (count : Rat) * Config.nodeEnergy n k / (128 / 100000000 : Rat)
  let leak := Config.leakage n (modelOf s n)
  if 24 ≤ n then
    (List.range 4).foldl (fun p k => p + e k (channelActivity s (n - 24) k)) leak
  else if n < 16 then leak + (((lanesOf n).foldl (fun t l => t + s.get (LANE_POWER_mw l)) 0 : Nat) : Rat) / 1000
  else if n < 20 then leak + e 0 ((List.range 8).foldl (fun t i => t + activityOf s (512 + 8 * (n - 16) + i)) 0)
  else if n < 22 then leak + e 0 (bursts s (64 * (n - 20)) 64)
  else if n = 22 then leak + e 0 (activityOf s 544) + e 1 (activityOf s 545)
  else leak + Config.purserHeat s.ticks

/-- One step of the model for a node: 1.28 µs over its capacity, in °C. -/
def nodeStep (s : State) (n : Nat) : Rat :=
  let t := modelOf s n
  let flow := thermNodes.foldl (fun f j => f + (Config.conductance (romModel s) n j : Rat) / 1000000 * (modelOf s j - t)) 0
  let sink := if 84 ≤ n then (Config.sinkConductance (romModel s) n : Rat) / 1000000 * ((s.therm.boundary : Rat) / 4 - t) else 0
  t + (128 / 100 : Rat) / (Config.nodeCapacity (romModel s) n : Rat) * (nodePower s n + flow + sink)

/-- Temperatures in 0.25 °C; which way one between two steps goes is not stated (log entry 2). -/
def quarters (up : Bool) (t : Rat) : Int :=
  if (4 * t).den = 1 then (4 * t).num else (4 * t).floor + (if up then 1 else 0)

/-! ### Broken sensors (R418, R419) -/

/-- Causes of THM_NODE_DATA1. -/
def Broken.range : Nat := 1
def Broken.stuck : Nat := 2
def Broken.diverge : Nat := 3

/-- The span of a node's model values over the last 10 s. -/
def modelSpan (l : List (Nat × Rat)) : Rat :=
  match l with
  | [] => 0
  | p :: t => (t.foldl (fun m q => max m q.2) p.2) - (t.foldl (fun m q => min m q.2) p.2)

/-- Reading and model differ by more than 12 °C. -/
def diverges (s : State) (n : Nat) : Bool :=
  let d := (readingOf s n : Rat) / 4 - modelOf s n
  decide (12 < d) || decide (d < -12)

/-- The cause that a sensor meets at this update. -/
def brokenCause (s : State) (n : Nat) : Option Nat :=
  if s.therm.badReads.contains n then some Broken.range
  else if (match s.therm.codeSince.find n with | some t => decide (t + 125000000 ≤ s.ticks) | none => false) &&
      decide (5 < modelSpan ((s.therm.trail.find n).getD [])) then some Broken.stuck
  else if diverges s n && (match s.therm.diverge.find n with | some t => decide (t + 1250000 ≤ s.ticks) | none => false) then some Broken.diverge
  else none

/-- Divergences that begin and end at this update. -/
def noteDiverge (n : Nat) (s : State) : State :=
  if sensorBroken s n then s
  else if diverges s n then
    (if (s.therm.diverge.find n).isSome then s
     else (s.modTherm fun x => { x with diverge := x.diverge.ins n s.ticks }).cause Cause.THM_diverge_warn)
  else s.modTherm fun x => { x with diverge := x.diverge.erase n }

/-- THM_BROKENi and the count of broken sensors. -/
def showBroken (s : State) : State :=
  let word := fun i => (List.range 32).foldl (fun m j => if sensorBroken s (32 * i + j) then m + 2 ^ j else m) 0
  (forEach (List.range 3) (fun i s => s.setReg (THM_BROKEN i) (BitVec.ofNat 32 (word i))) s).put THM_STATUS_broken s.therm.broken.length

def breakSensor (n c : Nat) (s : State) : State :=
  (s.modTherm fun x => { x with broken := x.broken.ins n c }).cause Cause.THM_sensor_broken

def judgeSensor (n : Nat) (s : State) : State :=
  if sensorBroken s n then s
  else match brokenCause s n with
    | some c => breakSensor n c s
    | none => s

/-! ### Effective temperatures and levels (R418, R421, R422) -/

/-- The live throttle start of a node's die type in °C. -/
def throttleStart (s : State) (n : Nat) : Rat :=
  let low : Nat := if lostRegion s 1 then 5 else 0
  if coreNode n then 95 - (min 10 (s.get THM_CTRL_core_off) + low : Nat) else 105 - (min 10 (s.get THM_CTRL_base_off) + low : Nat)

/-- The effective temperature of a node in °C. -/
def effective (s : State) (n : Nat) : Rat :=
  if sensorBroken s n then max (throttleStart s n) (modelOf s n + 10) else max ((readingOf s n : Rat) / 4) (modelOf s n)

/-- The largest value of a function over nodes, with the first node that has it. -/
def hottest (f : Nat → Rat) (l : List Nat) : Nat × Rat :=
  match l with
  | [] => (0, 0)
  | n :: t => t.foldl (fun b m => if b.2 < f m then (m, f m) else b) (n, f n)

/-- The level of an excess (R422). -/
def levelOf (x : Rat) : Nat := if x < 0 then 0 else min 7 (1 + (x / (3 / 2)).floor.toNat)

/-- The node that trips the device at this update (R426). -/
def tripNode (s : State) : Option Nat :=
  thermNodes.find? fun n => decide ((if coreNode n then (105 : Rat) else 115) ≤ effective s n)

/-- A level that the hardware commit slot already holds. -/
def levelDue (s : State) : Option Nat :=
  s.commit.hw.findSome? fun c => match c with | .level n => some n | _ => none

def liveLevel (s : State) : Nat := s.get THM_STATUS_level

/-- A level for the next boundary (R11, R21). -/
def queueLevel (n : Nat) (s : State) : State :=
  let rest := s.commit.hw.filter fun c => match c with | .level _ => false | _ => true
  { s with commit := { s.commit with hw := rest ++ [.level n] } }

/-- The pause level in effect is the larger of the thermal and the supply level (R319, R320). -/
def showPause (s : State) : State := s.put HC_ARB_PAUSE_level (min 8 (max (s.get HC_ARB_PAUSE_thermal) (s.get HC_ARB_PAUSE_supply)))

/-- The live level changes at the boundary (R423, R424). -/
def applyLevel (n : Nat) (s : State) : State :=
  if n = liveLevel s then s
  else
    let s1 := showPause (((s.put THM_STATUS_level n).put HC_ARB_PAUSE_thermal n).cause Cause.THM_level_change)
    if n = 7 then s1.cause Cause.THM_level7 else s1

/-- Levels at an update: a rise waits for the boundary, a fall is counted. -/
def judgeLevel (s : State) : State :=
  let h := hottest (fun n => effective s n - throttleStart s n) thermNodes
  let lv := levelOf h.2
  let now := (levelDue s).getD (liveLevel s)
  let s1 := (s.put THM_STATUS_hottest h.1).modTherm fun x => { x with computed := lv, below := if lv < now then x.below + 1 else 0, hotTime := x.hotTime + if 0 < h.2 then 16 else 0 }
  if now < lv then queueLevel lv s1 else s1

/-- The live level falls by one after down_hold lower updates. -/
def levelFall (s : State) : State :=
  let now := (levelDue s).getD (liveLevel s)
  if decide (max 1 (s.get THM_CTRL_down_hold) ≤ s.therm.below) && decide (0 < now) then
    queueLevel (now - 1) (s.modTherm fun x => { x with below := 0 })
  else s

/-! ### The refresh rate (R425) -/

/-- A rate selected: live at the next period boundary. -/
def selectRate (r : Nat) (s : State) : State :=
  let s1 := { (s.put THM_STATUS_rate r) with tt := { s.tt with rateDue := some r } }
  (s1.modTherm fun x => { x with cool := 0 }).cause Cause.THM_rate_select

def coreMax (s : State) : Rat := (hottest (effective s) (thermNodes.filter coreNode)).2
def baseMax (s : State) : Rat := (hottest (effective s) (thermNodes.filter fun n => !coreNode n)).2

def judgeRate (s : State) : State :=
  let t := coreMax s
  let r := s.get THM_STATUS_rate
  if 93 ≤ t ∧ r ≠ 3 then selectRate 3 s
  else if 83 ≤ t ∧ r = 1 then selectRate 2 s
  else
    let cool := (r == 3 && decide (t < 90)) || (r == 2 && decide (t < 80))
    s.modTherm fun x => { x with cool := if cool then x.cool + 1 else 0 }

/-- A slower rate after 8192 cooler updates in a row. -/
def rateFall (s : State) : State :=
  let r := s.get THM_STATUS_rate
  if decide (8192 ≤ s.therm.cool) && decide (1 < r) then selectRate (r - 1) s else s

/-! ### The boundary (R416, R417) -/

/-- The boundary moves within 0 °C and 100 °C; reaching a limit is reported once. -/
def setBoundary (v : Int) (s : State) : State :=
  let b := max 0 (min 400 v)
  let s1 := (s.modTherm fun x => { x with boundary := b }).put THM_BOUNDARY_temp (ofSigned 11 b)
  if b = 0 ∨ b = 400 then
    (if s.flag THM_STATUS_boundary_limit then s1 else (s1.put THM_STATUS_boundary_limit 1).cause Cause.THM_boundary_limit)
  else s1.put THM_STATUS_boundary_limit 0

def sinkTemp (s : State) : Int := toSigned 11 (s.get THM_SINK_temp)

/-- The boundary follows THM_SINK. -/
def sinkFollows (s : State) : Bool := s.flag THM_CTRL_sink_src && !s.flag THM_STATUS_sink_fallback && s.therm.sinkTick.isSome

/-- The trusted sensors of D15. -/
def topSensors (s : State) : List Nat := [84, 85, 86, 87].filter (trusted s)

/-- A step of tracking (R416). -/
def boundaryTrack (s : State) : State :=
  let l := topSensors s
  if (s.flag THM_CTRL_sink_src && !s.flag THM_STATUS_sink_fallback) || l.isEmpty then s
  else
    let read := l.foldl (fun (t : Rat) n => t + (readingOf s n : Rat) / 4) 0
    let mod := l.foldl (fun (t : Rat) n => t + modelOf s n) 0
    if mod < read then setBoundary (s.therm.boundary + 1) s
    else if read < mod then setBoundary (s.therm.boundary - 1) s
    else s

/-- THM_SINK has not been written for 1 s (12,500,000 crossings). -/
def sinkOld (s : State) : Bool := match s.therm.sinkTick with | some t => decide (t + 12500000 ≤ s.ticks) | none => true

def sinkStale (s : State) : State :=
  if s.flag THM_CTRL_sink_src && !s.flag THM_STATUS_sink_fallback && sinkOld s then (s.put THM_STATUS_sink_fallback 1).cause Cause.THM_sink_stale else s

/-- A write of THM_SINK. -/
def thmSinkWrite (v : Word) (s : State) : State :=
  let s1 := ((s.put THM_SINK_temp (v.bits 10 0)).put THM_STATUS_sink_fallback 0).modTherm fun x => { x with sinkTick := some s.ticks }
  if s1.flag THM_CTRL_sink_src then setBoundary (sinkTemp s1) s1 else s1

/-- Where a model without usable readings starts is not stated: a free value (log entry 2). -/
def freeTemp (s : State) : Int := (s.drawn 10 : Nat) - 180

/-- The model starts: at the end of ARM and at an exit from RETENTION (R417, R431). -/
def thermStart (s : State) : State :=
  let s0 := forEach thermNodes (fun n s => if s.therm.badReads.contains n then judgeSensor n s else s) s
  let best := fun n => ((thermNodes.filter fun m => nodeDie m == nodeDie n && trusted s0 m).map (readingOf s0)).foldl
    (fun (b : Option Int) v => match b with | some c => some (max c v) | none => some v) none
  let s1 := forEach thermNodes (fun n s =>
    if !s0.therm.badReads.contains n then s.modTherm fun x => { x with model := KMap.put (fun _ => (0 : Rat)) x.model n ((readingOf s0 n : Rat) / 4) }
    else match best n with
      | some v => s.modTherm fun x => { x with model := KMap.put (fun _ => (0 : Rat)) x.model n ((v : Rat) / 4) }
      | none => s.drew.modTherm fun x => { x with model := KMap.put (fun _ => (0 : Rat)) x.model n ((freeTemp s : Rat) / 4) }) s0
  let top := (topSensors s1).map (readingOf s1)
  let s2 := showBroken { s1 with activity := [] }
  if sinkFollows s2 then setBoundary (sinkTemp s2) s2
  else match top with
    | [] => setBoundary (freeTemp s2) s2.drew
    | v :: t => setBoundary (t.foldl min v - 8) s2

/-! ### An update (R414 to R426, R429) -/

/-- An update is due: CROSS_CNT is a multiple of 16, and the model has not stepped at this boundary (R414). -/
def updateDue (s : State) : Bool := s.cross % 16 == 0 && s.therm.updatedAt != some s.ticks

/-- The model runs: power is on and the device is not in RETENTION. -/
def thermRuns (s : State) : Bool :=
  (s.start.phase == .running || s.start.phase == .ended) && s.mode != Mode.cold && s.mode != Mode.retention

/-- The values that the node registers show, and the averages since START. -/
def showNodes (s : State) : State :=
  let free := s.drawn 256
  let bit := natBit free
  let x := s.therm
  let core := x.sumCore + coreMax s
  let base := x.sumBase + baseMax s
  let n := x.sums + 1
  let s1 := s.drew.setTherm { x with
    shownModel := thermNodes.foldl (fun m i => KMap.put (fun _ => (0 : Int)) m i (quarters (bit i) (modelOf s i))) []
    shownEff := thermNodes.foldl (fun m i => KMap.put (fun _ => (0 : Int)) m i (quarters (bit (88 + i)) (effective s i))) []
    shownRead := x.reading
    sumCore := core, sumBase := base, sums := n }
  (s1.put THM_AVG_core (ofSigned 11 (quarters (bit 180) (core / (n : Rat))))).put THM_AVG_base (ofSigned 11 (quarters (bit 181) (base / (n : Rat))))

/-- The values of every node kept for ten seconds. -/
def keepTrail (s : State) : State :=
  s.modTherm fun x => { x with
    trail := thermNodes.map fun n => (n, (s.ticks, modelOf s n) :: (((x.trail.find n).getD []).filter fun p => decide (s.ticks ≤ p.1 + 125000000))) }

/-- A model update, up to the trip. -/
def modelUpdate (s : State) : State :=
  if !thermRuns s then s
  else
    let s00 := s.modTherm fun x => { x with updatedAt := some s.ticks }
    let s0 := if sinkFollows s then setBoundary (sinkTemp s) s00 else s00
    let next := thermNodes.foldl (fun m n => KMap.put (fun _ => (0 : Rat)) m n (nodeStep s0 n)) []
    let s1 := keepTrail { (s0.modTherm fun x => { x with model := next }) with activity := [] }
    let s2 := showBroken (forEach thermNodes (fun n s => judgeSensor n (noteDiverge n s)) s1)
    showNodes (judgeRate (judgeLevel s2))

/-! ### Life accounting and the oscillator (R429, R430) -/

/-- A second of the always-on domain: a second above the throttle start is counted when 12,500,000 crossings of it have added up (log entry
70). -/
def lifeCount (s : State) : State :=
  if !s.pins.vaon then s
  else
  let s1 := s.addSat THM_ON_S 1
  let s2 := if 12500000 ≤ s1.therm.hotTime then (s1.modTherm fun x => { x with hotTime := x.hotTime - 12500000 }).addSat THM_HOT_S 1 else s1
  if thermRuns s2 && decide (86400 ≤ (s2.reg THM_ON_S).toNat) && decide ((s2.reg THM_ON_S).toNat < 100 * (s2.reg THM_HOT_S).toNat) && !s.therm.hotReported then
    (s2.modTherm fun x => { x with hotReported := true }).cause Cause.THM_hot_budget
  else s2

/-- The oscillator's error as measured against the reference clock. -/
def oscCorrect (ppm : Int) (s : State) : State := (s.put THM_OSC_valid 1).put THM_OSC_ppm (ofSigned 16 ppm)

/-! ### The trip monitor (R427, R428) -/

/-- Every sensor that is not broken reads cool. -/
def allCool (s : State) : Bool :=
  thermNodes.all fun n => sensorBroken s n || decide (readingOf s n ≤ if coreNode n then 340 else 380)

/-- The monitor reads the sensors. -/
def monitorRead (readings : List (Nat × Int)) (s : State) : State :=
  let s1 := s.modTherm fun x => { x with reading := readings.foldl (fun m p => if p.1 < 88 then KMap.put (fun _ => (0 : Int)) m p.1 p.2 else m) x.reading }
  s1.modTherm fun x => { x with coolSince := if allCool s1 then (match x.coolSince with | some t => some t | none => some s.ticks) else none }

/-- A sensor that trips the device in RETENTION, on its reading alone (R431). -/
def monitorTrip (s : State) : Option Nat :=
  thermNodes.find? fun n => !sensorBroken s n && decide ((if coreNode n then (420 : Int) else 460) ≤ readingOf s n)

/-! ### Registers computed on a read -/

def nodeData0 (s : State) : Word :=
  let n := s.get THM_NODE_IDX_node
  if 88 ≤ n then 0
  else BitVec.ofNat 32 (ofSigned 11 (KMap.get (fun _ => (0 : Int)) s.therm.shownRead n) * 2 ^ 16 + ofSigned 11 (KMap.get (fun _ => (0 : Int)) s.therm.shownModel n))

def nodeData1 (s : State) : Word :=
  let n := s.get THM_NODE_IDX_node
  if 88 ≤ n then 0
  else
    let c := (s.therm.broken.find n).getD 0
    BitVec.ofNat 32 (boolNat (sensorBroken s n) * 2 ^ 31 + c * 2 ^ 28 + ofSigned 11 (KMap.get (fun _ => (0 : Int)) s.therm.shownEff n))

end Sys2Proof.Machine
end

