-- ==== Sys2Proof/Machine/Otp.lean ====
section
/-!
DEFINITION. Machine/Otp.lean: the antifuse array: regions, records, the reads of FUSE, programming, redirection and sealing, and the
words of F4, F5 and F7 (R505 to R521).
-/
set_option autoImplicit false

namespace Sys2Proof.Machine
open Reg Bit

/-! ### Regions (R506) -/

/-- Logical words of a region. -/
def otpSize (r : Nat) : Nat := match r with | 0 => 128 | 1 => 512 | 2 => 512 | 3 => 256 | 4 => 512 | 5 => 1536 | 6 => 768 | 7 => 512 | _ => 0

/-- First main row of a region. -/
def otpRow (r : Nat) : Nat := match r with | 0 => 0 | 1 => 8 | 2 => 40 | 3 => 72 | 4 => 88 | 5 => 120 | 6 => 216 | _ => 240

/-- A twin region: F0 to F5, which are the critical ones. -/
def otpTwin (r : Nat) : Bool := decide (r < 6)

/-- Copies of a region. -/
def otpCopies (r : Nat) : List Nat := if otpTwin r then [0, 1] else [0]

/-- The main row that holds a word of a copy. -/
def otpMainRow (r copy w : Nat) : Nat := otpRow r + copy * (otpSize r / 32) + w / 32

/-- A word of a copy as the array holds it. -/
def otpCell (s : State) (r copy w : Nat) : Word :=
  if r < 4 then Config.shipped (4096 * r + w) else KMap.get (fun _ => (0 : Word)) s.otp.words (4096 * r + 2048 * copy + w)

/-- A word of a region with both copies as listed at the last read at two margins: each copy good. -/
def otpGood (s : State) (r w : Nat) : Bool × Bool :=
  match s.otp.marginal.find? fun m => m.region == r && m.word == w with
  | some m => (m.goodA, m.goodB)
  | none => (true, true)

/-! ### Records (R507, R508) -/

/-- The CRC of a record: region, pass and data words. -/
def recordCrc (r pass : Nat) (data : List Word) : Nat :=
  crc32c (BitVec.ofNat 8 r :: BitVec.ofNat 8 pass :: data.flatMap fun w => bytesBE 4 w.toNat)

/-- The marker of a record. -/
def marker (pass len : Nat) : Word := BitVec.ofNat 32 (0xC5 * 2 ^ 24 + pass % 256 * 2 ^ 16 + len % 4096)

/-- Data words followed by the completion word. -/
def recordWords (r pass : Nat) (data : List Word) : List Word :=
  data ++ [BitVec.ofNat 32 (recordCrc r pass data), marker pass data.length]

/-- Words a parse of a region found: first word and length of each record, torn tail, append point. -/
structure Parse where
  records : List (Nat × Nat)
  torn : Nat
  length : Nat
  deriving DecidableEq, Repr

/-- The data words of the record whose marker stands at i, where it checks. -/
def recordAt (r : Nat) (words : List Word) (i : Nat) : Option (List Word) :=
  let m := words.getD i 0
  let len := m.bits 11 0
  if m.bits 31 24 = 0xC5 ∧ 1 ≤ len ∧ len + 1 ≤ i then
    let data := (words.drop (i - 1 - len)).take len
    if (words.getD (i - 1) 0).toNat = recordCrc r (m.bits 23 16) data then some data else none
  else none

/-- The parse from word i backward. -/
def parseBack (r : Nat) (words : List Word) : Nat → Nat → Parse → Parse
  | 0, _, p => p
  | fuel + 1, n, p =>
    match n with
    | 0 => p
    | i + 1 =>
      match recordAt r words i with
      | some data => parseBack r words fuel (i - 1 - data.length) { p with records := (i - 1 - data.length, data.length) :: p.records }
      | none =>
        parseBack r words fuel i
          (if p.records.isEmpty && words.getD i 0 != 0 then { p with torn := p.torn + 1 } else p)

/-- The word after the last non-zero one. -/
def appendPoint (words : List Word) : Nat := words.zipIdx.foldl (fun n p => if p.1 ≠ 0 then p.2 + 1 else n) 0

/-- The parse of a region's words (R508). -/
def parseWords (r : Nat) (words : List Word) : Parse :=
  let n := appendPoint words
  parseBack r words n n { records := [], torn := 0, length := n }

/-- The words of a copy of a region that was programmed in the field. -/
def otpWords (s : State) (r copy : Nat) : List Word := (List.range (otpSize r)).map fun w => otpCell s r copy w

/-- The record of a copy that holds a word checks. -/
def recordChecks (s : State) (r copy w : Nat) : Bool :=
  (parseWords r (otpWords s r copy)).records.any fun p => decide (p.1 ≤ w ∧ w < p.1 + p.2 + 2)

/-- A word as FUSE takes it; none where it failed (R509). -/
def otpTaken (s : State) (r w : Nat) : Option Word :=
  let a := otpCell s r 0 w
  let b := otpCell s r 1 w
  let g := otpGood s r w
  if !otpTwin r || decide (r < 4) then (if g.1 || (decide (r < 4) && g.2) then some a else none)
  else match g.1, g.2 with
    | true, true => if a = b then some a else if recordChecks s r 0 w then some a else if recordChecks s r 1 w then some b else none
    | true, false => some a
    | false, true => some b
    | false, false => none

/-- A region as it reads. -/
def otpParse (s : State) (r : Nat) : Parse := parseWords r ((List.range (otpSize r)).map fun w => (otpTaken s r w).getD 0)

/-- The seal of a region reads as blown. -/
def otpSealed (s : State) (r : Nat) : Bool := natBit s.otp.seals r || natBit s.otp.sealBad r

/-- States of a region. -/
def OtpState.blank : Nat := 0
def OtpState.opened : Nat := 1
def OtpState.torn : Nat := 2
def OtpState.sealed : Nat := 3
def OtpState.incomplete : Nat := 4

/-- The state of a region (R508). -/
def otpState (s : State) (r : Nat) : Nat :=
  if r < 4 then (if natBit s.otp.sealBad r then OtpState.incomplete else OtpState.sealed)
  else
    let p := otpParse s r
    if otpSealed s r then (if natBit s.otp.sealBad r || p.length = 0 || p.torn ≠ 0 then OtpState.incomplete else OtpState.sealed)
    else if p.length = 0 then OtpState.blank
    else if p.torn ≠ 0 then OtpState.torn else OtpState.opened

/-- Words of a region that failed. -/
def otpFailedWords (s : State) (r : Nat) : Nat := (s.otp.failed.filter fun w => w / 4096 == r).length

/-- OTP_RGN_STATE_r. -/
def otpRegionWord (s : State) (r : Nat) : Word :=
  if !s.flag OTP_STATUS_loaded then 0
  else
    let p := otpParse s r
    let records := if r < 4 then Config.shippedRecords r else p.records.length
    let torn := if r < 4 then 0 else p.torn
    let length := if r < 4 then Config.shippedLength r else p.length
    BitVec.ofNat 32 (otpState s r * 2 ^ 29 + min 31 (otpFailedWords s r) * 2 ^ 24 + records % 256 * 2 ^ 16 + min 31 torn * 2 ^ 11 + length % 2 ^ 11)

/-- Spare rows left. -/
def otpSpares (s : State) : Nat := 16 - popCount 16 s.otp.spent

/-- VQPS within 1.746 V to 1.854 V. -/
def vqpsGood (s : State) : Bool := decide (1746 ≤ s.pins.vqps ∧ s.pins.vqps ≤ 1854)

/-- Words that hold a data word of a field-programmed region, with their places, record by record. -/
def otpData (s : State) (r : Nat) : List Word :=
  (otpParse s r).records.flatMap fun p => (List.range p.2).map fun i => (otpTaken s r (p.1 + i)).getD 0

/-! ### OTP_STATUS and the lists -/

/-- The counts of OTP_STATUS follow the array. -/
def showOtp (s : State) : State :=
  ((s.put OTP_STATUS_passes (min 127 s.otp.passes)).put OTP_STATUS_spares (otpSpares s)).put OTP_STATUS_marginal (min 255 s.otp.marginal.length)

/-- OTP_MARG_DATA: the list holds 64 words. -/
def margData (s : State) : Word :=
  match s.otp.marginal[s.get OTP_MARG_IDX_entry]? with
  | none => 0
  | some m =>
    let taken := m.goodA || m.goodB
    BitVec.ofNat 32 (2 ^ 31 + (if taken then 0 else 2 ^ 30) + boolNat m.goodB * 2 ^ 29 + boolNat m.goodA * 2 ^ 28 + m.region % 16 * 2 ^ 24 + m.word % 2 ^ 11)

/-- OTP_REDIR_DATA. -/
def redirData (s : State) : Word :=
  match s.otp.redirs[s.get OTP_REDIR_IDX_entry]? with
  | none => 0
  | some e => BitVec.ofNat 32 (2 ^ 31 + e.1 % 256 * 2 ^ 23 + e.2 % 16 * 2 ^ 19)

/-! ### FUSE (R509 to R512) -/

/-- A critical word failed: recorded, and REPLACE follows (R511, R540). -/
def otpCritical (s : State) : State :=
  let s1 := (s.put OTP_STATUS_critical_fail 1).cause Cause.OTP_otp_critical
  { s1 with test := { s1.test with seen := natSetBit s1.test.seen 0 } }

/-- Words of a critical region that count as failed: no copy taken, or in a record that does not check (R510). -/
def otpFailures (s : State) (r : Nat) : List Nat :=
  if r < 4 then (List.range (otpSize r)).filter fun w => let g := otpGood s r w; !g.1 && !g.2
  else if r < 6 then
    let lost := (List.range (otpSize r)).filter fun w => (otpTaken s r w).isNone
    let raw := parseWords r (otpWords s r 0)
    let inRecord := fun w => raw.records.filter fun p => decide (p.1 ≤ w ∧ w < p.1 + p.2 + 2)
    lost.foldl (fun l w => (inRecord w).foldl (fun l p => (List.range (p.2 + 2)).foldl (fun l i => insertSorted (p.1 + i) l) l) (insertSorted w l)) []
  else []

/-- What a read at two margins found is taken over: `bad` lists the words with a copy that is not good. -/
def otpRead (bad : List Marginal) (s : State) : State :=
  let s1 := { s with otp := { s.otp with marginal := bad } }
  let failed := (List.range 6).flatMap fun r => (otpFailures s1 r).map fun w => 4096 * r + w
  let s2 := { s1 with otp := { s1.otp with failed := failed } }
  showOtp (if 64 < bad.length then s2.put OTP_STATUS_list_full 1 else s2)

/-- Memory counts as not preserved in this START (R74, R511). -/
def notPreserved (s : State) : State :=
  if s.flag GLB_MEM_STATE_preserved then
    ((s.put GLB_MEM_STATE_preserved 0).put GLB_START_STATUS_preserved 0).raiseEvent 382 0
  else s

/-- FUSE: every word is read, and failed and marginal ones act (R509 to R512).  `incomplete` names regions of F0 to F3 whose completion
word does not read valid; a seal word good in neither copy makes its region read the same way. -/
def fuseRead (bad : List Marginal) (incomplete : List Nat) (s : State) : State :=
  let broken := fun (m : Marginal) => !m.goodA && !m.goodB
  let seals := (bad.filter fun m => m.region == 8 && decide (m.word < 8) && broken m).map (·.word)
  let lostEntries := (bad.filter fun m => m.region == 8 && decide (8 ≤ m.word ∧ m.word < 24) && broken m).map fun m => m.word - 8
  let s0 := { s with otp := { s.otp with
    sealBad := (seals ++ incomplete.filter fun r => decide (r < 4)).foldl natSetBit 0
    redirs := (s.otp.redirs.zipIdx.filter fun p => !lostEntries.contains p.2).map (·.1) } }
  let s1 := otpRead bad s0
  let s2 := bad.foldl (fun t _ => t.cause Cause.OTP_otp_marginal) s1
  let s3 := forEach ((List.range 8).filter fun r => otpState s2 r == OtpState.incomplete) (fun r s =>
    let t := s.cause Cause.OTP_otp_region
    if r < 4 then { t with otp := { t.otp with failed := insertSorted (4096 * r) t.otp.failed } } else t) s2
  let s4 := forEach ((List.range 6).filter fun r => lostRegion s3 r || otpState s3 r == OtpState.incomplete) (fun _ s => otpCritical s) s3
  let s5 := if lostRegion s4 4 || lostRegion s4 5 then notPreserved s4 else s4
  s5.put OTP_STATUS_loaded 1

/-- A re-read of the listed words (R513): words now good in both copies leave the list. -/
def otpReread (bad : List Marginal) (s : State) : State :=
  let listed := if s.flag OTP_STATUS_list_full then bad
    else (bad.filter fun m => s.otp.marginal.any fun x => x.region == m.region && x.word == m.word)
  let before := s.otp.failed
  let s1 := otpRead (listed.filter fun m => !m.goodA || !(m.goodB || !otpTwin m.region)) s
  let s2 := if s1.otp.failed.any fun w => !before.contains w then otpCritical s1 else s1
  let kept := { s2 with otp := { s2.otp with failed := before } }
  (kept.put OTP_TEMP_LAST_temp (ofSigned 11 (readingOf s 23))).put OTP_CTRL_reread 0

/-! ### Words of F4, F5 and F7 (R520) -/

/-- A repair entry as its word in F4 or F5. -/
def repairWord (e : LedgerEntry) : Word :=
  match e.kind with
  | .dqRemap => BitVec.ofNat 32 (2 ^ 30 + e.hc * 2 ^ 23 + e.row % 2 * 2 ^ 22 + e.unit % 64 * 2 ^ 16)
  | .caRemap => BitVec.ofNat 32 (2 ^ 31 + e.hc * 2 ^ 23 + e.row % 2 * 2 ^ 22 + e.unit % 64 * 2 ^ 16)
  | .rowRepair => BitVec.ofNat 32 (2 ^ 30 + e.hc * 2 ^ 23 + e.unit * 2 ^ 18 + e.row * 2 ^ 4)
  | .rowRetired => BitVec.ofNat 32 (2 ^ 31 + e.hc * 2 ^ 23 + e.unit * 2 ^ 18 + e.row * 2 ^ 4)
  | .bankRetired => BitVec.ofNat 32 (3 * 2 ^ 30 + e.hc * 2 ^ 23 + e.unit * 2 ^ 18)

/-- The entry that a word of F4 or F5 spells, as recorded. -/
def repairEntry (r : Nat) (w : Word) : Option LedgerEntry :=
  if r = 4 then
    match w.bits 31 30 with
    | 1 => some ⟨.dqRemap, w.bits 29 23, w.bits 21 16, w.bits 22 22, 2⟩
    | 2 => some ⟨.caRemap, w.bits 29 23, w.bits 21 16, w.bits 22 22, 2⟩
    | _ => none
  else
    match w.bits 31 30 with
    | 1 => some ⟨.rowRepair, w.bits 29 23, w.bits 22 18, w.bits 17 4, 2⟩
    | 2 => some ⟨.rowRetired, w.bits 29 23, w.bits 22 18, w.bits 17 4, 2⟩
    | 3 => some ⟨.bankRetired, w.bits 29 23, w.bits 22 18, 0, 2⟩
    | _ => none

/-- Entries recorded in F4 and F5, but for failed words and regions that boot ignores (R510 to R512). -/
def recordedEntries (s : State) : List LedgerEntry :=
  [4, 5].flatMap fun r =>
    if otpState s r = OtpState.incomplete then []
    else (otpParse s r).records.flatMap fun p => (List.range p.2).filterMap fun i =>
      if s.otp.failed.contains (4096 * r + p.1 + i) then none else (otpTaken s r (p.1 + i)).bind (repairEntry r)

/-- The words of F7 that pass their check. -/
def f7Words (s : State) : List Word := (List.range (otpSize 7)).map fun w => (otpTaken s 7 w).getD 0

/-- The anti-rollback value (R520). -/
def rollbackValue (s : State) : Nat := (f7Words s).foldl (fun m w => if w.bits 31 24 = 1 then max m (w.bits 7 0) else m) 0

/-- A key named by a REVOKE. -/
def keyRevoked (s : State) (k : Nat) : Bool := (f7Words s).any fun w => w.bits 31 24 == 2 && w.bits 7 0 == k

/-- A key hash that can be used: its words did not fail and no REVOKE names it (R511). -/
def keyUsable (s : State) (k : Nat) : Bool :=
  decide (k < 4) && !keyRevoked s k && !natBit s.otp.sealBad 0 && !((List.range 12).any fun i => s.otp.failed.contains (2 + 12 * k + i))

/-- GLB_SERIAL words: 0 until FUSE ends or when they failed (R511). -/
def serialWord (s : State) (i : Nat) : Word :=
  if !s.flag OTP_STATUS_loaded || natBit s.otp.sealBad 0 || s.otp.failed.contains 0 || s.otp.failed.contains 1 then 0 else Config.shipped i

/-! ### Programming (R514 to R519) -/

/-- Result codes of R514. -/
def OtpResult.done : Nat := 0x00
def OtpResult.sealed : Nat := 0x01
def OtpResult.purserOnly : Nat := 0x02
def OtpResult.notAppend : Nat := 0x03
def OtpResult.noRoom : Nat := 0x04
def OtpResult.badRecord : Nat := 0x05
def OtpResult.inUse : Nat := 0x06
def OtpResult.passLimit : Nat := 0x07
def OtpResult.noVqps : Nat := 0x08
def OtpResult.temp : Nat := 0x09
def OtpResult.noSpare : Nat := 0x0A
def OtpResult.incomplete : Nat := 0x0B

/-- A word of F7 is out of form (R520). -/
def f7Bad (w : Word) : Bool :=
  w.bits 23 8 != 0 ||
    match w.bits 31 24 with
    | 1 => decide (63 < w.bits 7 0)
    | 2 => decide (3 < w.bits 7 0)
    | _ => true

/-- A word of F7 would strand the running image (R520). -/
def f7InUse (s : State) (data : List Word) : Bool :=
  (data.any fun w => w.bits 31 24 == 1 && decide (s.get MBX_FW_INFO_rollback < w.bits 7 0)) ||
  (data.any fun w => w.bits 31 24 == 2 && w.bits 7 0 == s.purser.key) ||
  ((data.any fun w => w.bits 31 24 == 2) &&
    (List.range 4).all fun k => !keyUsable s k || data.any fun w => w.bits 31 24 == 2 && w.bits 7 0 == k)

/-- The highest base-die effective temperature lies within 0 °C to 95 °C. -/
def otpTempGood (s : State) : Bool := decide ((0 : Rat) ≤ baseMax s ∧ baseMax s ≤ 95)

/-- The first condition of R514 that refuses a program. -/
def otpRefusal (s : State) (host : Bool) (r offset : Nat) (data : List Word) : Option Nat :=
  let point := (otpParse s r).length
  if r < 4 || decide (8 ≤ r) || decide (OtpState.sealed ≤ otpState s r) then some OtpResult.sealed
  else if host && (r == 4 || r == 5) then some OtpResult.purserOnly
  else if offset ≠ point then some OtpResult.notAppend
  else if otpSize r < point + data.length + 2 then some OtpResult.noRoom
  else if r = 7 && data.any f7Bad then some OtpResult.badRecord
  else if r = 7 && f7InUse s data then some OtpResult.inUse
  else if 64 ≤ s.otp.passes then some OtpResult.passLimit
  else if !vqpsGood s then some OtpResult.noVqps
  else if !otpTempGood s then some OtpResult.temp
  else none

/-- A pass begins: the thermometer counts it (R515). -/
def otpPass (s : State) : State := showOtp { s with otp := { s.otp with passes := s.otp.passes + 1 } }

/-- A word written in the copies named. -/
def otpWriteIn (copies : List Nat) (r w : Nat) (v : Word) (s : State) : State :=
  { s with otp := { s.otp with
    words := copies.foldl (fun m c => KMap.put (fun _ => (0 : Word)) m (4096 * r + 2048 * c + w) v) s.otp.words } }

/-- A word written in every copy. -/
def otpWrite (r w : Nat) (v : Word) (s : State) : State := otpWriteIn (otpCopies r) r w v s

/-- The lowest spare that is free (R517). -/
def spareFree (s : State) : Option Nat := (List.range 16).find? fun k => !natBit s.otp.spent k && !s.otp.redirs.any fun e => e.2 == k

/-- A spare and a redirection entry taken for a main row (R518). -/
def redirectTake (row k : Nat) (s : State) : State :=
  let s1 := showOtp { s with otp := { s.otp with redirs := s.otp.redirs ++ [(row, k)], spent := natSetBit s.otp.spent k } }
  let s2 := s1.cause Cause.OTP_otp_redirect
  if otpSpares s2 ≤ 2 then s2.cause Cause.OTP_otp_spare_low else s2

/-- A failing word's row is redirected, where a spare and an entry remain (R518). -/
def otpRedirect (row : Nat) (s : State) : Option State :=
  match spareFree s with
  | some k => if s.otp.redirs.length < 16 then some (redirectTake row k s) else none
  | none => none

/-- A failing word moved to a spare.  A spare that fails too has been copied into, so it no longer reads blank (R517, R518). -/
def otpMove (row : Nat) (stuck : Bool) (s : State) : Bool × State :=
  if stuck then
    match spareFree s with
    | some k => (false, { s with otp := { s.otp with spent := natSetBit s.otp.spent k } })
    | none => (false, s)
  else
    match otpRedirect row s with
    | some t => (true, t)
    | none => (false, s)

/-- Words programmed in turn.  `redirect` lists the words, by 2 * place + copy, that still fail after three more pulses, and `stuck`
those whose spare fails too.  Answers whether all were programmed. -/
def otpProgram (r point : Nat) (redirect stuck : List Nat) : List (Word × Nat) → State → Bool × State
  | [], s => (true, s)
  | (v, i) :: rest, s =>
    let need := (otpCopies r).filter fun c => redirect.contains (2 * i + c)
    let moved := need.foldl (fun (t : Bool × State) c =>
      if t.1 then otpMove (otpMainRow r c (point + i)) (stuck.contains (2 * i + c)) t.2 else t) (true, s)
    if moved.1 then otpProgram r point redirect stuck rest (otpWrite r (point + i) v moved.2)
    else
      let kept := otpWriteIn ((otpCopies r).filter fun c => !need.contains c) r (point + i) v moved.2
      (false, kept.cause Cause.OTP_otp_prog_fail)

/-- A record programmed at the append point of a region, after its pass was counted. -/
def otpAppend (r : Nat) (data : List Word) (redirect stuck : List Nat) (s : State) : Bool × State :=
  otpProgram r (otpParse s r).length redirect stuck (recordWords r s.otp.passes data).zipIdx s

/-- The first n words of a record are blown when a job is cut (R515). -/
def otpTear (r : Nat) (data : List Word) (n : Nat) (s : State) : State :=
  let point := (otpParse s r).length
  forEach ((recordWords r s.otp.passes data).zipIdx.take n) (fun p s => otpWrite r (point + p.2) p.1 s) s

/-- The seal word of a region blown (R519); `forced` leaves out the completion check (R547). -/
def otpSealRefusal (s : State) (forced : Bool) (r : Nat) : Option Nat :=
  if r < 4 || decide (8 ≤ r) || decide (OtpState.sealed ≤ otpState s r) then some OtpResult.sealed
  else if !forced && otpState s r != OtpState.opened then some OtpResult.incomplete
  else if !vqpsGood s then some OtpResult.noVqps
  else if !otpTempGood s then some OtpResult.temp
  else none

def otpSeal (r : Nat) (s : State) : State :=
  { s with otp := { s.otp with seals := natSetBit s.otp.seals r } }.cause Cause.OTP_otp_sealed

end Sys2Proof.Machine
end

