-- ==== Sys2Proof/Machine/Power.lean ====
section
/-!
DEFINITION. Machine/Power.lean: modes, requests and transitions, wakes, IDLE, RETENTION and the sentinels, supply excursions and
shedding (16_modes_and_supply).
-/
set_option autoImplicit false

namespace Sys2Proof.Machine
open Reg Bit

/-- Codes of PWR_MODE_LAST.status. -/
def ModeStatus.done : Nat := 1
def ModeStatus.superseded : Nat := 2
def ModeStatus.preempted : Nat := 3
def ModeStatus.woken : Nat := 4
def ModeStatus.refused : Nat := 5
def ModeStatus.notReady : Nat := 6
def ModeStatus.failed : Nat := 7

/-- Codes of PWR_MODE_LAST.cause. -/
def ModeCause.drainTimeout : Nat := 1
def ModeCause.unconfirmed : Nat := 2
def ModeCause.badTag : Nat := 3

/-! ### The live mode (R433, R434) -/

/-- PWR_MODE: the causes of THROTTLED, and SERVICE or THROTTLED by them. -/
def showMode (s : State) : State :=
  let storm := stormDemands s != 0
  let shed := decide (1 ≤ s.get PWR_SUPPLY_step)
  let hot := decide (1 ≤ liveLevel s)
  let s1 := ((s.putFlag PWR_MODE_cause_storm storm).putFlag PWR_MODE_cause_shed shed).putFlag PWR_MODE_cause_thermal hot
  if s.inService then s1.put PWR_MODE_mode (if storm || shed || hot then Mode.throttled else Mode.service) else s1

/-- A mode is entered. -/
def setMode (m : Nat) (s : State) : State := showMode (s.put PWR_MODE_mode m)

/-- The live mode as the table of R436 has it: THROTTLED counts as SERVICE. -/
def tableMode (s : State) : Nat := if s.mode = Mode.throttled then Mode.service else s.mode

/-- The logic outside the always-on domain is powered and out of reset. -/
def State.up (s : State) : Bool :=
  match s.start.phase with
  | .running => true
  | .ended =>
    if s.mode = Mode.cold then false
    else if s.mode = Mode.retention then s.modes.inflight.any fun t => t.step ≠ 0
    else true
  | _ => false

/-- The command clock runs: from the end of ARM, and in RETENTION not before the exit has powered the logic (R5, R446). -/
def clockRuns (s : State) : Bool :=
  match s.start.phase with
  | .running => decide (2 ≤ s.get GLB_START_STATUS_step)
  | .ended =>
    if s.mode = Mode.cold then false
    else if s.mode = Mode.retention then s.modes.inflight.any fun t => decide (2 ≤ t.step)
    else true
  | _ => false

/-! ### Requests (R435 to R438) -/

/-- PWR_MODE_STATUS. -/
def modeStatusWord (s : State) : Word :=
  let flight := match s.modes.inflight with
    | some t => 2 ^ 31 + t.step % 16 * 2 ^ 26 + t.req.target % 16 * 2 ^ 22 + t.req.tag % 256 * 2 ^ 14
    | none => 0
  let wait := match s.modes.pending with
    | some r => 2 ^ 30 + r.target % 16 * 2 ^ 10 + r.tag % 256 * 2 ^ 2
    | none => 0
  BitVec.ofNat 32 (flight + wait)

/-- A request ends with its final status (R435). -/
def modeEnd (r : ModeReq) (status cause : Nat) (s : State) : State :=
  let w := r.tag % 256 + r.target % 16 * 2 ^ 8 + status * 2 ^ 12 + cause * 2 ^ 16
  (s.setReg PWR_MODE_LAST (BitVec.ofNat 32 w)).causeWith Cause.PWR_mode_done w

/-- What a request comes to in a live mode; none runs (R436). -/
def modeVerdict (s : State) (r : ModeReq) : Option Nat :=
  let live := tableMode s
  let t := r.target
  if !(t == Mode.service || t == Mode.idle || t == Mode.retention || t == Mode.maintenance || t == Mode.safe || t == Mode.cold) then
    some ModeStatus.refused
  else if live = Mode.start then some ModeStatus.notReady
  else if live = t then some ModeStatus.done
  else if live = Mode.cold then some ModeStatus.refused
  else if live = Mode.service then
    (if t = Mode.maintenance && r.mimg && !slotFull s.tt.standby then some ModeStatus.refused else none)
  else if live = Mode.idle then (if t = Mode.maintenance then some ModeStatus.refused else none)
  else if live = Mode.retention then (if t = Mode.idle ∨ t = Mode.maintenance then some ModeStatus.refused else none)
  else if live = Mode.maintenance then (if t = Mode.idle ∨ t = Mode.retention then some ModeStatus.refused else none)
  else (if t = Mode.cold then none else some ModeStatus.refused)

/-! ### Steps of a transition (R439) -/

/-- The transition in flight goes to a step. -/
def setStep (n : Nat) (s : State) : State :=
  { s with modes := { s.modes with inflight := s.modes.inflight.map fun t => { t with step := n } } }

/-- Memory operations delivered from now on wait in VC0. -/
def closeIntake (s : State) : State := { s with modes := { s.modes with intakeClosed := true } }
def openIntake (s : State) : State := { s with modes := { s.modes with intakeClosed := false } }

/-- A port is kept in S1, dropping to it with cause MODE. -/
def parkPort (p : Nat) (s : State) : State :=
  (if s.stage p = 0 then s else portFall p Fall.mode s).modPort p fun x => { x with parked := true }

def unparkPort (p : Nat) (s : State) : State := s.modPort p fun x => { x with parked := false }

/-- Every memory operation delivered and admitted has reached its completion point (R272). -/
def drained (s : State) : Bool :=
  (List.range 16).all fun p => (s.link p).table.all fun e => e.record.isSome || !memoryOp e.txn.hdr.opcode || e.done

/-- The sentinel parcels are written and their signature goes to the always-on domain (R448).  The seed is drawn from noise (log
entry 2). -/
def sentinelWrite (s : State) : State :=
  let k := s.always.sentinelWrites
  let s1 := { s.drew with always := { s.always with signature := some { seed := s.drawn 32, k := k, cross := s.cross }, sentinelWrites := k + 1 } }
  let s2 := forEach halfChannels (fun h s => (s.acted (4 * h) 32).acted (4 * h + 2) 32) s1
  s2.put PWR_SENT_STATUS_pos (k % 4)

/-- Every core die has confirmed self-refresh. -/
def allAsleep (s : State) : Bool := s.always.selfRefresh == 0xFFFF

/-- A row repair runs on some half-channel. -/
def repairRuns (s : State) : Bool := halfChannels.any fun h => (s.hc h).rowRepair.isSome

/-- The ports that an entry to IDLE holds: those of PWR_IDLE_CTRL.hold in S7.  Every port in S7 saves its coefficients (R112, R444). -/
def holdPorts (s : State) : State :=
  let keep := fun p => natBit (s.get PWR_IDLE_CTRL_hold) p && s.stage p == 7
  let s1 := forEach (List.range 16) (fun p s =>
    let saved := when (s.stage p == 7) (forEach (lanesOf p) (fun l s => saveCoeffs l s)) s
    if keep p then saved else parkPort p saved) s
  { s1 with
    modes := { s1.modes with held := (List.range 16).foldl (fun m p => if keep p then natSetBit m p else m) 0 }
    chargeDue := List.range 16 }

/-- What a step does when it begins. -/
def stepStart (target n : Nat) (s : State) : State :=
  if target = Mode.idle then (if n = 1 then closeIntake s else if n = 4 then holdPorts s else s)
  else if target = Mode.retention then
    match n with
    | 1 => closeIntake s
    | 3 => entryFlushStart s
    | 4 => forEach (List.range 16) (fun p s => if 5 ≤ s.stage p then forEach (lanesOf p) (fun l s => saveCoeffs l s) s else s) s
    | 5 => sentinelWrite s
    | 8 => forEach (List.range 16) parkPort { s with modes := { s.modes with held := 0 } }
    | _ => s
  else if target = Mode.safe then
    match n with
    | 1 => closeIntake s
    | 3 => entryFlushStart s
    | 4 => sentinelWrite s
    | _ => s
  else if target = Mode.cold then
    match n with
    | 1 => closeIntake s
    | 3 => entryFlushStart s
    | 5 => if allAsleep s then s else sentinelWrite s
    | 6 => forEach (List.range 16) (fun p s => enterDark p Fall.mode s) s
    | _ => s
  else if target = Mode.maintenance then
    { s with commit := { s.commit with hw := s.commit.hw ++ [if s.modes.inflight.any fun t => t.req.mimg then .imageSwap else .maintenance] } }
  else s

/-- The transition moves on to a step. -/
def goStep (n : Nat) (s : State) : State :=
  match s.modes.inflight with
  | some t => stepStart t.req.target n (setStep n s)
  | none => s

/-- The transition in flight begins. -/
def transitionStart (s : State) : State :=
  match s.modes.inflight with
  | none => s
  | some t =>
    let s1 := { s with modes := { s.modes with inflight := some { t with waiting := false }, exitStart := s.ticks } }
    if t.source = Mode.retention then (if t.req.target = Mode.service then goStep 1 s1 else s1)
    else goStep 1 s1

/-- A request becomes in-flight and is judged (R436, R437, R457).  A SAFE or COLD request withdraws an armed commit when it becomes in-flight, not
already when it takes the pending slot (R19, log entry 33). -/
def modeBegin (r : ModeReq) (s : State) : State :=
  match modeVerdict s r with
  | some v => modeEnd r v 0 s
  | none =>
    let hard := r.target == Mode.safe || r.target == Mode.cold
    let s1 := if hard then commitWithdraw CommitCause.mode 15 s else s
    let wait := !hard && r.target != Mode.service && s1.commit.armed.isSome
    let t : Transition := { req := r, source := tableMode s1, step := 0, committed := false, preempt := none, waiting := wait, srfRetry := 0 }
    let s2 := { s1 with modes := { s1.modes with inflight := some t } }
    if wait then s2 else transitionStart s2

/-- The pending request becomes in-flight once none runs (R437). -/
def takePending (s : State) : State :=
  match s.modes.inflight, s.modes.pending with
  | none, some r => modeBegin r { s with modes := { s.modes with pending := none } }
  | _, _ => s

/-- The pending slot takes a request; the one it replaces ends SUPERSEDED (R437). -/
def pendRequest (r : ModeReq) (s : State) : State :=
  let s1 := match s.modes.pending with
    | some old => modeEnd old ModeStatus.superseded 0 s
    | none => s
  { s1 with modes := { s1.modes with pending := some r } }

/-- The transition in flight has an abortable point ahead (R438, R439). -/
def abortable (t : Transition) : Bool :=
  !t.committed && t.preempt.isNone && (t.req.target == Mode.idle || t.req.target == Mode.retention || (t.waiting && t.req.target == Mode.maintenance))

/-- The steps taken by an abandoned entry are undone (R440). -/
def modeUndo (t : Transition) (s : State) : State :=
  let out := if t.source = Mode.retention || t.source = Mode.safe then s
    else forEach ((List.range 16).filter fun d => natBit s.always.selfRefresh d) leaveSelfRefresh s
  let s1 := { out with modes := { out.modes with inflight := none, intakeClosed := t.source == Mode.idle } }
  let s2 := { s1 with
    landing := { s1.landing with entryFlush := none }
    test := if t.req.target = Mode.cold then { s1.test with run := none } else s1.test }
  (s2.put LDG_STATUS_powered_down 0).put TST_STATUS_phase 0

/-- WAKE_LATCH cleared. -/
def clearLatch (s : State) : State := s.setReg PWR_WAKE 0

/-- A request made of the mode machine: `host` requests carry a tag.  Answers the mailbox status of R474. -/
def modeRequest (host : Bool) (r : ModeReq) (s : State) : Nat × State :=
  if host && r.tag == 0 then (0x08, modeEnd r ModeStatus.refused ModeCause.badTag s)
  else
    match s.modes.inflight with
    | none =>
      let reply := match modeVerdict s r with
        | some 5 => 0x08
        | some 6 => 0x09
        | _ => 0x00
      (reply, modeBegin r s)
    | some t =>
      if (r.target = Mode.safe || r.target = Mode.cold) && abortable t then
        let s1 := match s.modes.pending with
          | some old => modeEnd old ModeStatus.superseded 0 { s with modes := { s.modes with pending := none } }
          | none => s
        if t.waiting then
          (0x02, modeBegin r (modeEnd t.req ModeStatus.preempted 0 { s1 with modes := { s1.modes with inflight := none } }))
        else
          let s2 := commitWithdraw CommitCause.mode 15 s1
          (0x02, { s2 with modes := { s2.modes with inflight := some { t with preempt := some r } } })
      else (0x02, pendRequest r s)

/-- The word of PWR_MODE_REQ as a request. -/
def modeReqOf (target : Nat) (w : Word) : ModeReq :=
  { target := target, tag := w.bits 15 8, mimg := w.bits 20 20 == 1, noBist := w.bits 21 21 == 1 }

/-- A SAFE request of the device (R435). -/
def safeRequest (s : State) : State := (modeRequest false { target := Mode.safe, tag := 0, mimg := false, noBist := false } s).2

/-! ### Ends of transitions -/

/-- An exit to SERVICE begins with tag 0, for a wake (R442). -/
def wakeExit (s : State) : State :=
  let r : ModeReq := { target := Mode.service, tag := 0, mimg := false, noBist := false }
  transitionStart { s with modes := { s.modes with
    inflight := some { req := r, source := s.mode, step := 0, committed := false, preempt := none, waiting := false, srfRetry := 0 } } }

/-- An entry or exit ends DONE in its mode. -/
def modeFinish (m : Nat) (s : State) : State :=
  match s.modes.inflight with
  | none => s
  | some t =>
    let s1 := modeEnd t.req ModeStatus.done 0 (setMode m { s with modes := { s.modes with inflight := none, stopTick := s.ticks } })
    if (m = Mode.idle || m = Mode.retention) && s1.flag PWR_WAKE_latched then wakeExit s1
    else takePending (if m = Mode.service then clearLatch s1 else s1)

/-- An entry ends FAILED and is undone (R440, R457). -/
def modeFail (cause : Nat) (s : State) : State :=
  match s.modes.inflight with
  | none => s
  | some t => takePending (clearLatch (modeEnd t.req ModeStatus.failed cause (modeUndo t s)))

/-- The end of an abortable step: an abandonment, or the next step (R438, R440, R442). -/
def abortPoint (next : Nat) (s : State) : State :=
  match s.modes.inflight with
  | none => s
  | some t =>
    match t.preempt with
    | some r => modeBegin r (clearLatch (modeEnd t.req ModeStatus.preempted 0 (modeUndo t s)))
    | none =>
      if (t.req.target = Mode.idle || t.req.target = Mode.retention) && s.flag PWR_WAKE_latched then
        takePending (clearLatch (modeEnd t.req ModeStatus.woken 0 (modeUndo t s)))
      else goStep next s

/-- The commit point of an entry is passed. -/
def passCommit (s : State) : State :=
  { s with modes := { s.modes with inflight := s.modes.inflight.map fun t => { t with committed := true } } }

/-- The step that ends without an event of its own, at a crossing boundary: closing the intake, the sentinel write, and the last step of
an entry (R439). -/
def modesBoundary (s : State) : State :=
  match s.modes.inflight with
  | none => s
  | some t =>
    let g := t.req.target
    if t.waiting then (if s.commit.armed.isSome then s else transitionStart s)
    else if t.step = 1 && g = Mode.retention && t.source = Mode.idle then abortPoint 3 s
    else if t.step = 1 && (g = Mode.idle || g = Mode.retention || g = Mode.cold) then abortPoint 2 s
    else if t.step = 1 && g = Mode.safe then goStep 2 s
    else if t.step = 4 && g = Mode.safe then goStep 5 s
    else if t.step = 5 && g = Mode.retention then abortPoint 6 s
    else if t.step = 4 && g = Mode.idle then modeFinish Mode.idle s
    else if t.step = 8 && g = Mode.retention then modeFinish Mode.retention s
    else if t.step = 6 && g = Mode.cold then modeFinish Mode.cold s
    else s

/-- Operations of a port that have not started are answered NAK ABANDONED (R439). -/
def abandonPort (p : Nat) (s : State) : State :=
  let x := s.link p
  let waits := fun e : Entry => memoryOp e.txn.hdr.opcode && e.txn.hdr.dst == liveNode s && e.record.isNone
  let s1 := forEach (x.table.filter fun e => waits e && !e.begun) (fun e s => answerNak p e Nak.abandoned 0 s) s
  forEach (x.vc0.filter waits) (fun e s =>
    answerNak p e Nak.abandoned 0 (takeEntry p e s)) s1

/-- The drain of an entry ends (R439). -/
def drainEnd (s : State) : State :=
  match s.modes.inflight with
  | some t =>
    if t.step ≠ 2 then s
    else if t.req.target = Mode.safe then
      let s1 := forEach (List.range 16) abandonPort s
      if drained s1 then goStep 3 s1 else s1
    else if !drained s then s
    else if t.req.target = Mode.idle || t.req.target = Mode.retention || t.req.target = Mode.cold then abortPoint 3 s
    else s
  | none => s

/-- The drain of an entry has lasted 100 µs (R439, R440). -/
def drainTimeout (s : State) : State :=
  match s.modes.inflight with
  | some t =>
    if t.step ≠ 2 then s
    else if t.req.target = Mode.safe then drainEnd s
    else modeFail ModeCause.drainTimeout s
  | none => s

/-- Step 4 of a COLD entry begins with its first phase, or is left out (R439, R529). -/
def coldTest (s : State) : State :=
  match s.modes.inflight with
  | some t =>
    let asleep := t.source == Mode.safe
    if t.req.noBist then goStep 5 s
    else
      let phases := if asleep then [1, 2, 3, 6]
        else [1, 2, 3] ++ (if s.flag TST_BIST_CFG_array_en then [4] else []) ++ (if s.get TST_BIST_CFG_lane_ports = 0 then [] else [5]) ++ [6]
      let s1 := { setStep 4 s with test := { s.test with run := some { shutdown := true, phases := phases, ports := s.get TST_BIST_CFG_lane_ports, job := 0 } } }
      ((s1.put TST_STATUS_busy 1).put TST_STATUS_phase 1).setReg TST_RESULT 0
  | none => s

/-- After the sentinel write of a SAFE or COLD entry, dies already in self-refresh have nothing left to confirm. -/
def sleepEnd (s : State) : State :=
  match s.modes.inflight with
  | some t =>
    if !allAsleep s then s
    else if t.req.target = Mode.safe && t.step = 5 then
      modeFinish Mode.safe ((forEach (List.range 16) parkPort (setStep 6 s)).raiseEvent 377 0)
    else if t.req.target = Mode.cold && t.step = 5 then goStep 6 (passCommit s)
    else if t.req.target = Mode.retention && t.step = 6 then abortPoint 7 s
    else s
  | none => s

/-- The landing flush of an entry ends (R388, R439). -/
def flushEnd (s : State) : State :=
  match s.modes.inflight with
  | some t =>
    if t.step ≠ 3 || s.landing.entryFlush != some [] then s
    else if t.req.target = Mode.retention then abortPoint 4 (entryFlushEnd s)
    else if t.req.target = Mode.safe then sleepEnd (goStep 4 (entryFlushEnd s))
    else if t.req.target = Mode.cold then
      let s1 := entryFlushEnd s
      (match t.preempt with
       | some _ => abortPoint 4 s1
       | none => sleepEnd (coldTest s1))
    else s
  | none => s

/-- Step 4 of a RETENTION entry ends: the copies are complete and no row repair runs (R356, R439). -/
def copyDone (s : State) : State :=
  match s.modes.inflight with
  | some t => if t.req.target = Mode.retention && t.step = 4 && !repairRuns s then abortPoint 5 s else s
  | none => s

/-- SRE was issued and the dies' confirmations are awaited. -/
def sleepIssued (s : State) : Bool :=
  match s.modes.inflight with
  | some t => (t.req.target == Mode.retention && t.step == 6) || ((t.req.target == Mode.safe || t.req.target == Mode.cold) && t.step == 5)
  | none => false

/-- A die confirms self-refresh: in the anchor sequence, or after the SRE of an entry (R340). -/
def srfConfirm (d : Nat) (s : State) : State :=
  if s.start.phase = .anchoring then confirmSelfRefresh d s
  else if sleepIssued s then sleepEnd (confirmSelfRefresh d s)
  else s

/-- A die does not confirm: SRE is repeated, and the second time the entry fails (R440).  A device that enters SAFE after a failed
START has no mode to return to and goes on to SAFE (log entry 44). -/
def srfUnconfirmed (d : Nat) (s : State) : State :=
  match s.modes.inflight with
  | some t =>
    if !sleepIssued s || natBit s.always.selfRefresh d then s
    else if !natBit t.srfRetry d then
      { s with modes := { s.modes with inflight := some { t with srfRetry := natSetBit t.srfRetry d } } }
    else
      let s1 := forEach (hcsOfDie d) (fun h s => s.cause (Cause.HC_srf_unconfirmed h)) (s.put (HC_DIE_STATUS_state d) DieState.unconfirmed)
      if t.source = Mode.start then modeFinish Mode.safe ((forEach (List.range 16) parkPort (setStep 6 s1)).raiseEvent 377 0)
      else modeFail ModeCause.unconfirmed s1
  | none => s

/-- The wait instruction of an entry retires: the commit point (R439). -/
def waitInstruction (s : State) : State :=
  match s.modes.inflight with
  | some t =>
    if t.req.target = Mode.idle && t.step = 3 then goStep 4 (passCommit s)
    else if t.req.target = Mode.retention && t.step = 7 then goStep 8 (passCommit s)
    else s
  | none => s

/-! ### Wakes (R441, R442) -/

/-- A wake source, by its bit in PWR_WAKE_EN. -/
def wakeSource (bit : Nat) (s : State) : State :=
  if !natBit (s.reg PWR_WAKE_EN).toNat bit then s
  else
    let held := s.reg PWR_WAKE
    let first := !s.flag PWR_WAKE_latched
    let s1 := s.setReg PWR_WAKE (BitVec.ofNat 32 (natSetBit (natSetBit held.toNat bit) 31))
    let settled := s.modes.inflight.isNone && (s.mode == Mode.idle || s.mode == Mode.retention) && s.start.phase == .ended
    let waits := match s.modes.inflight with
      | some t => t.req.target == Mode.idle || t.req.target == Mode.retention || (t.req.target == Mode.service && t.req.tag == 0)
      | none => settled
    if s.start.phase ≠ .ended || s.mode = Mode.start then s1
    else
      let s2 := if !waits || first then s1.cause Cause.PWR_wake_latched else s1
      if settled then wakeExit s2 else s2

/-- The latch of a wake that nothing waits for clears at the boundary (R441). -/
def latchBoundary (s : State) : State :=
  if !s.flag PWR_WAKE_latched || s.start.phase ≠ .ended then s
  else
    let waits := match s.modes.inflight with
      | some t => t.req.target == Mode.idle || t.req.target == Mode.retention || t.req.target == Mode.service
      | none => false
    if waits then s else clearLatch s

/-! ### Exits (R439, R444, R445, R447) -/

/-- A held port asks the ledger for its live mode, every crossing until it is granted (R121, R445). -/
def releaseHeld (p : Nat) (s : State) : State :=
  if !natBit s.modes.held p then s
  else askLedger p ⟨s.get (PORT_STATUS_gen p), s.get (PORT_STATUS_reach p), .idleExit⟩ s

/-- µs since the running exit began. -/
def exitUs (s : State) : Nat := min 0xFFFFFFFF ((s.ticks - s.modes.exitStart) * 2 / 25)

/-- IDLE ends in SERVICE (R439). -/
def idleExit (s : State) : State :=
  match s.modes.inflight with
  | some t =>
    if t.req.target = Mode.service && t.source = Mode.idle && t.step = 1 then
      let s1 := forEach (List.range 16) (fun p s => releaseHeld p (unparkPort p s)) (openIntake s)
      modeFinish Mode.service (s1.setReg PWR_EXIT_TIME (BitVec.ofNat 32 (exitUs s)))
    else s
  | none => s

/-- One failing sentinel: its bank is suspect, logged and scrubbed (R450). -/
def sentinelFailed (r : SentinelRead) (s : State) : State :=
  let place : Place := ⟨r.bank / 32 % 128, r.bank % 32, 0, 0⟩
  let s1 := eccLog ⟨EccKind.retention, EccSource.sentinel, place, 0, 63, r.symbols, false, 0, 15⟩ (bankSuspect place s)
  forEach r.found (fun f s => (readParcel EccSource.sentinel 0 (addrOfPlace s ⟨place.hc, place.bank, f.1, f.2.1⟩ / 256) true true f.2.2 s).2) s1

/-- The check of all 4096 sentinels: `bad` lists those not read clean (R449). -/
def sentinelCheck (bad : List SentinelRead) (us : Nat) (s : State) : State :=
  let thr := max 1 (s.get PWR_SENT_CTRL_ce_thr)
  let fails := bad.filter fun r => decide (r.bank < 4096) && (r.uncorrectable || r.differs || decide (thr ≤ r.symbols))
  let s1 := forEach fails sentinelFailed s
  (((s1.put PWR_SENT_STATUS_checked 1).put PWR_SENT_STATUS_failed (min 4096 fails.length)).put PWR_SENT_STATUS_us (min 0xFFFF us)).cause
    Cause.PWR_sentinel_done

/-- Steps 1 to 3 of a RETENTION exit (R439, R446, R449).  For SAFE or COLD only step 1 runs and the dies stay in self-refresh. -/
def retentionExit (outcomes : List TrainOutcome) (bad : List SentinelRead) (us : Nat) (s : State) : State :=
  match s.modes.inflight with
  | some t =>
    if t.source ≠ Mode.retention || (t.req.target = Mode.service && t.step ≠ 1) || (t.req.target ≠ Mode.service && t.step ≠ 0) then s
    else
      let s0 := s.setCross ((s.cross + (s.ticks - s.modes.stopTick)) % Config.crossWrap)
      let s1 := if s0.flag CFG_STATUS_ref_valid && s0.reg CFG_CRC != s0.reg CFG_CRC_REF then s0.cause Cause.OTP_cfg_drift else s0
      if t.req.target = Mode.service then
        let s2 := forEach (List.range 16) leaveSelfRefresh s1
        let s3 := forEach (outcomes.filter fun o => decide (o.hc < 128)) retrained s2
        let s4 := sentinelCheck bad us (thermStart s3)
        setStep 4 (forEach (List.range 16) unparkPort s4)
      else if t.req.target = Mode.safe then sleepEnd (goStep 5 s1)
      else sleepEnd (goStep 5 s1)
  | none => s

/-- The release that ends a RETENTION exit (R447). -/
def retentionRelease (s : State) : State :=
  match s.modes.inflight with
  | some t =>
    if t.req.target = Mode.service && t.source = Mode.retention && t.step = 4 then
      let s1 := { s.put GLB_PERIOD_PHASE_phase 0 with tt := { s.tt with stormAt := none } }.put TT_STATUS_live 0
      let s2 := forEach halfChannels (fun h s => s.modHc h fun x => { x with spent := [] }) s1
      let s3 := openIntake (sentinelWrite (s2.put LDG_STATUS_powered_down 0))
      modeFinish Mode.service (s3.setReg PWR_EXIT_TIME (BitVec.ofNat 32 (exitUs s)))
    else s
  | none => s

/-- MAINTENANCE ends once its passes have stopped; a swapped image goes back at a period boundary (R439). -/
def maintenanceExit (s : State) : State :=
  match s.modes.inflight with
  | some t =>
    if t.req.target = Mode.service && t.source = Mode.maintenance && s.test.run.isNone then
      if s.modes.swapped then
        (if s.commit.hw.contains .imageSwap then s else { s with commit := { s.commit with hw := s.commit.hw ++ [.imageSwap] } })
      else modeFinish Mode.service s
    else s
  | none => s

/-- The hardware commit of MAINTENANCE: its entry, or the swap back (R439). -/
def maintenanceCommit (swap : Bool) (s : State) : State :=
  match s.modes.inflight with
  | some t =>
    if t.req.target = Mode.maintenance then
      let s1 := if swap then imageSwap s else s
      modeFinish Mode.maintenance { s1 with modes := { s1.modes with swapped := swap } }
    else if t.source = Mode.maintenance && t.req.target = Mode.service && swap then
      let s1 := imageSwap s
      modeFinish Mode.service { s1 with modes := { s1.modes with swapped := false } }
    else s
  | none => s

/-! ### Supply excursions (R452 to R456) -/

/-- The lowest level of any rail in the excursion. -/
def noteLevel (rail mv : Nat) (s : State) : State :=
  let s1 := { s with pins := { s.pins with mv := s.pins.mv.ins rail mv } }
  { s1 with always := { s1.always with excursion := s1.always.excursion.map fun x => { x with minMv := min x.minMv mv } } }

/-- A rail falls below warning (R452, R454, R455). -/
def railBelow (rail mv : Nat) (s : State) : State :=
  let s1 := s.put PWR_SUPPLY_below (natSetBit (s.get PWR_SUPPLY_below) rail)
  let s2 := { s1 with pins := { s1.pins with recovered := natClearBit s1.pins.recovered rail } }
  let s3 := match s2.always.excursion with
    | some _ => s2
    | none => { s2 with always := { s2.always with excursion := some { first := rail, minMv := mv, deepest := s2.get PWR_SUPPLY_step, below := 0, start := s2.ticks } } }
  noteLevel rail mv (s3.put PWR_SUPPLY_restoring 0)

/-- A rail leaves the below-warning state. -/
def railAbove (rail : Nat) (s : State) : State :=
  { s with pins := { s.pins with atReset := natClearBit s.pins.atReset rail } }.put PWR_SUPPLY_below (natClearBit (s.get PWR_SUPPLY_below) rail)

/-- A rail crosses its recovery level (R454). -/
def railRecovery (rail : Nat) (above : Bool) (s : State) : State :=
  if above then { railAbove rail s with pins := { (railAbove rail s).pins with recovered := natSetBit s.pins.recovered rail } }
  else { s with pins := { s.pins with recovered := natClearBit s.pins.recovered rail } }.put PWR_SUPPLY_restoring 0

/-- The record of an excursion (R455). -/
def dipRecord (atReset : Bool) (x : Excursion) (s : State) : State :=
  let us := min 0xFFFF ((s.ticks - x.start) * 2 / 25)
  let w0 := 2 ^ 31 + boolNat atReset * 2 ^ 30 + min 7 x.deepest * 2 ^ 27 + x.first % 8 * 2 ^ 24 + min 0xFFF x.minMv
  let s1 := (s.setReg PWR_DIP0 (BitVec.ofNat 32 w0)).setReg PWR_DIP1 (BitVec.ofNat 32 (min 0xFFFF x.below * 2 ^ 16 + us))
  { s1.addSat PWR_DIP_CNT 1 with always := { s1.always with excursion := none } }

/-- An excursion ends with its last step undone (R455). -/
def excursionEnd (s : State) : State :=
  match s.always.excursion with
  | some x =>
    let s1 := dipRecord false x s
    s1.causeWith Cause.PWR_supply_dip (s1.reg PWR_DIP0).toNat
  | none => s

/-- What a shedding step does, and what its undoing does (R453, R454). -/
def shedEffect (n : Nat) (on : Bool) (s : State) : State :=
  match n with
  | 2 => s.putFlag LANE_LEDGER_STATUS_frozen on
  | 3 => showPause (s.put HC_ARB_PAUSE_supply (if on then 4 else 0))
  | 5 =>
    if on then
      forEach ((List.range 16).filter fun p => s.flag (PORT_CTRL_sheddable p)) (fun p s =>
        let s1 := (if s.stage p ≤ 1 then s else portFall p Fall.shed s).modPort p fun x => { x with shed := true }
        { s1 with modes := { s1.modes with held := natClearBit s1.modes.held p } }) s
    else forEach (List.range 16) (fun p s => s.modPort p fun x => { x with shed := false }) s
  | 6 => showPause (s.put HC_ARB_PAUSE_supply (if on then 8 else 4))
  | _ => s

/-- The next shedding step, by its hardware commit (R453). -/
def shedNext (s : State) : State :=
  let n := s.get PWR_SUPPLY_step
  if 6 ≤ n then s
  else
    let s1 := shedEffect (n + 1) true ((s.put PWR_SUPPLY_step (n + 1)).cause Cause.PWR_shed_step)
    { s1 with always := { s1.always with excursion := s1.always.excursion.map fun x => { x with deepest := max x.deepest (n + 1) } } }

/-- The last shedding step is undone, by its hardware commit (R454). -/
def shedUndo (s : State) : State :=
  let n := s.get PWR_SUPPLY_step
  if n = 0 then s
  else
    let s1 := shedEffect n false (s.put PWR_SUPPLY_step (n - 1))
    if n = 1 then excursionEnd (s1.put PWR_SUPPLY_restoring 0) else s1

/-- Every rail has stood above recovery for 100 µs: the first undo falls at this boundary (R454). -/
def restorationStart (s : State) : State :=
  if s.pins.recovered ≠ 63 || s.get PWR_SUPPLY_below ≠ 0 || s.flag PWR_SUPPLY_restoring then s
  else if s.get PWR_SUPPLY_step = 0 then excursionEnd s
  else
    let s1 := { s.put PWR_SUPPLY_restoring 1 with modes := { s.modes with undoTick := s.ticks } }
    { s1 with commit := { s1.commit with hwDue := s1.commit.hwDue ++ [.shedUndo] } }

/-- 16 crossings after the undo before (R454). -/
def undoNext (s : State) : State :=
  if s.flag PWR_SUPPLY_restoring && decide (1 ≤ s.get PWR_SUPPLY_step) && decide (s.modes.undoTick + 16 ≤ s.ticks) && !s.commit.hwDue.contains .shedUndo then
    { s with commit := { s.commit with hwDue := s.commit.hwDue ++ [.shedUndo] }, modes := { s.modes with undoTick := s.ticks } }
  else s

/-- At a boundary with a rail below warning a step is due; in RETENTION none is taken (R453, R457). -/
def supplyBoundary (s : State) : State :=
  if s.get PWR_SUPPLY_below = 0 then s
  else
    let s1 := { s with always := { s.always with excursion := s.always.excursion.map fun x => { x with below := x.below + 1 } } }
    if s.mode = Mode.retention || 6 ≤ s.get PWR_SUPPLY_step then s1
    else { s1 with commit := { s1.commit with hwDue := s1.commit.hwDue ++ [.shed] } }

end Sys2Proof.Machine
end

