-- ==== Sys2Proof/Machine/Selftest.lean ====
section
/-!
DEFINITION. Machine/Selftest.lean: the phases of self-test and what their findings do, the repair list at START, and the remaps and
retirements that TRAIN applies (R348, R353, R371, R522 to R537).
-/
set_option autoImplicit false

namespace Sys2Proof.Machine
open Reg Bit

/-- Phases, as TST_STATUS.phase encodes them. -/
def Phase.lbist : Nat := 1
def Phase.sram : Nat := 2
def Phase.tsv : Nat := 3
def Phase.array : Nat := 4
def Phase.lanes : Nat := 5
def Phase.ledger : Nat := 6

/-- Outcomes of a phase in TST_RESULT. -/
def PhaseResult.pass : Nat := 1
def PhaseResult.repaired : Nat := 2
def PhaseResult.fail : Nat := 3

/-- Causes of the REPLACE flag that a test finds (R540). -/
def Replace.tsvAgeing : Nat := 3
def Replace.lane : Nat := 8

/-- A cause of R540 is seen: it stays (R541). -/
def replaceSeen (c : Nat) (s : State) : State := s.modTest fun x => { x with seen := natSetBit x.seen c }

/-! ### TSV paths (R533, R534) -/

/-- A TSV path: a DQ, spare or strobe of a half-channel, or a CA line or spare of the channel whose half 0 is c. -/
inductive TsvPath where
  | dq (h line : Nat)
  | ca (c line : Nat)
  deriving DecidableEq, Repr

def tsvPath (i : Nat) : TsvPath :=
  let d := i / 376
  let r := i % 376
  if r < 320 then .dq (8 * d + r / 40) (r % 40) else .ca (8 * d + 2 * ((r - 320) / 14)) ((r - 320) % 14)

/-- The repair list holds a remap of a kind onto spare k of a half-channel or channel. -/
def spareListed (s : State) (kind : RepairKind) (h k : Nat) : Bool :=
  s.ledger.any fun e => e.kind == kind && (if kind = .caRemap then e.hc / 2 == h / 2 else e.hc == h) && e.row == k

/-- A line is carried on a spare already. -/
def lineListed (s : State) (kind : RepairKind) (h line : Nat) : Bool :=
  s.ledger.any fun e => e.kind == kind && (if kind = .caRemap then e.hc / 2 == h / 2 else e.hc == h) && e.unit == line

/-- A path has failed: at 2,000 mΩ and above, or short. -/
def tsvFailed (s : State) (i : Nat) : Bool :=
  (match s.test.tsv.find i with | some p => decide (2000 ≤ p.2.headD 0) | none => false) || s.test.shorts.contains i

/-- A path ages: above 1.5 times its baseline and above 100 mΩ. -/
def tsvAgeing (s : State) (i : Nat) : Bool :=
  match s.test.tsv.find i with | some p => decide (3 * p.1 < 2 * p.2.headD 0 ∧ 100 < p.2.headD 0) | none => false

/-- No spare covers a failed or ageing line. -/
def tsvUncovered (i : Nat) (s : State) : Nat × State :=
  (if tsvFailed s i then PhaseResult.fail else PhaseResult.pass, replaceSeen Replace.tsvAgeing s)

/-- A line in use that failed or ages takes a free spare at the next TRAIN (R534). -/
def tsvCover (kind : RepairKind) (h line i : Nat) (spare : Nat → Nat) (s : State) : Nat × State :=
  match [0, 1].find? fun k => !spareListed s kind h k && !s.test.deadSpares.contains (spare k) with
  | some k =>
    let owner := if kind = .caRemap then h / 2 * 2 + k else h
    (PhaseResult.repaired, (ledgerAdd ⟨kind, owner, line, k, 0⟩ s).cause Cause.TST_tsv_trend)
  | none => tsvUncovered i s

/-- A measured path. -/
def tsvMeasured (i mohm : Nat) (short : Bool) (s : State) : Nat × State :=
  if 6016 ≤ i then (PhaseResult.pass, s)
  else
    let last := min 4095 mohm
    let known := s.test.tsv.find i
    let entry := match known with | some p => (p.1, (last :: p.2).take 8) | none => (last, [last])
    let s1 := s.modTest fun x => { x with
      tsv := x.tsv.ins i entry
      shorts := if short then insertSorted i x.shorts else x.shorts.filter fun j => j != i }
    if !tsvFailed s1 i && !tsvAgeing s1 i then (PhaseResult.pass, s1)
    else match tsvPath i with
      | .dq h line =>
        if 38 ≤ line then tsvUncovered i s1
        else if 36 ≤ line then
          (if spareListed s1 .dqRemap h (line - 36) then tsvUncovered i s1
           else (PhaseResult.pass, if tsvFailed s1 i then s1.modTest fun x => { x with deadSpares := insertSorted i x.deadSpares } else s1))
        else if lineListed s1 .dqRemap h line then (PhaseResult.pass, s1)
        else tsvCover .dqRemap h line i (fun k => tsvOfDq h (36 + k)) s1
      | .ca c line =>
        if 12 ≤ line then
          (if spareListed s1 .caRemap c (line - 12) then tsvUncovered i s1
           else (PhaseResult.pass, if tsvFailed s1 i then s1.modTest fun x => { x with deadSpares := insertSorted i x.deadSpares } else s1))
        else if lineListed s1 .caRemap c line then (PhaseResult.pass, s1)
        else tsvCover .caRemap c line i (fun k => tsvOfCa c (12 + k)) s1

/-! ### Findings (R525, R531, R535, R537) -/

/-- A way of a slice is disabled: in service its lines are cleaned first, and they are invalidated (R535). -/
def disableWay (slice way : Nat) (s : State) : State :=
  let lines := s.landing.lines.filter fun p => sliceOf p.1 == slice && p.2.way == way
  let s1 := invalidateLines lines s
  { s1 with landing := { s1.landing with disabled := natSetBit s1.landing.disabled (16 * slice + way) } }

/-- An ARRAY row at fault while START tests it: the row is suspect and moves to a spare where one is left (R525, R531). -/
def startRow (p : Place) (s : State) : State :=
  let s1 := (s.modHc p.hc fun x => { x with suspects := insertSorted (p.bank * 2 ^ 14 + p.row) x.suspects }).causeWith Cause.ECC_row_suspect (rowInfo p)
  if s1.dram.spares.contains p.rowKey then s1
  else if sparesLeft s1 p = 0 then bankSuspect p s1
  else
    let s2 := ledgerAdd ⟨.rowRepair, p.hc, p.bank, p.row, 1⟩ s1
    { s2 with dram := { s2.dram with spares := insertSorted p.rowKey s2.dram.spares } }

/-- The phase a finding belongs to. -/
def findingPhase : Finding → Nat
  | .logic => Phase.lbist
  | .queueSram _ | .imageSram _ | .landing _ _ => Phase.sram
  | .tsv _ _ _ => Phase.tsv
  | .row _ _ _ | .save _ _ _ _ _ => Phase.array
  | .lane _ => Phase.lanes

/-- What a finding does and what it makes of its phase.  `start`: the test runs at START. -/
def applyFinding (start : Bool) (f : Finding) (s : State) : Nat × State :=
  match f with
  | .logic => (PhaseResult.fail, s)
  | .queueSram n =>
    if s.test.queueRows + n ≤ 8 then (PhaseResult.repaired, s.modTest fun x => { x with queueRows := x.queueRows + n })
    else (PhaseResult.fail, s.modTest fun x => { x with queueRows := 8 })
  | .imageSram n =>
    if s.test.imageRows + n ≤ 8 then (PhaseResult.repaired, s.modTest fun x => { x with imageRows := x.imageRows + n })
    else (PhaseResult.fail, s.modTest fun x => { x with imageRows := 8 })
  | .landing slice way =>
    let s1 := disableWay (slice % 32) (way % 16) s
    (if disabledWays s1 (slice % 32) = 65535 then PhaseResult.fail else PhaseResult.repaired, s1)
  | .tsv i mohm short => tsvMeasured i mohm short s
  | .row h b r =>
    let p : Place := ⟨h % 128, b % 32, r % 2 ^ 14, 0⟩
    (PhaseResult.repaired, if start then startRow p s else rowSuspect p s)
  | .save h b r pos errs =>
    let n := addrOfPlace s ⟨h % 128, b % 32, r % 2 ^ 14, pos % 4⟩ / 256
    (PhaseResult.pass, if parcelValid s n then (readParcel EccSource.request 0 n (!start) (!start) errs s).2 else s)
  | .lane _ => (PhaseResult.fail, replaceSeen Replace.lane s)

/-- Findings applied in turn, with the worst outcome. -/
def applyFindings (start : Bool) : List Finding → Nat × State → Nat × State
  | [], r => r
  | f :: l, r =>
    let u := applyFinding start f r.2
    applyFindings start l (max r.1 u.1, u.2)

/-- The save of a row found a parcel uncorrectable: the row is not tested (R531). -/
def saveFails (s : State) (h b r : Nat) : Finding → Bool
  | .save h' b' r' pos errs =>
    h' == h && b' == b && r' == r &&
      (let n := addrOfPlace s ⟨h % 128, b % 32, r % 2 ^ 14, pos % 4⟩ / 256
       parcelValid s n && (readParcel EccSource.request 0 n false false errs s).1.isNone)
  | _ => false

/-- The findings of a phase that count: none of a row whose save failed. -/
def findingsDone (l : List Finding) (s : State) : List Finding :=
  l.filter fun f => match f with | .row h b r => !l.any (saveFails s h b r) | _ => true

/-! ### Half-channel groups (R530) -/

/-- The half-channels of a group: the largest of 128, 64, 32, 16 and 8 whose draw of 614.4 mW each TST_ALLOW covers; below 5,000 it acts
as 5,000. -/
def testGroup (s : State) : Nat := ([128, 64, 32, 16].find? fun g => decide (g * 6144 ≤ 10 * max 5000 (s.get TST_ALLOW_mw))).getD 8

/-- The power ledger with the draw of a group stays within the ceiling, and no shedding pauses BIST (R453, R530). -/
def testMayRun (s : State) : Bool :=
  decide (10 * ledgerTotal s + 6144 * testGroup s ≤ 10 * s.get PWR_CEILING_mw) && decide (s.get PWR_SUPPLY_step < 1)

/-- The phases that R530 binds. -/
def powered (phase : Nat) : Bool := phase == Phase.sram || phase == Phase.tsv || phase == Phase.array

/-- The half-channel that a finding is about. -/
def findingHc : Finding → Option Nat
  | .tsv i _ _ => some (match tsvPath i with | .dq h _ => h | .ca c _ => c)
  | .row h _ _ | .save h _ _ _ _ => some h
  | _ => none

/-- Findings in the order in which the groups are worked, those about no half-channel first (R530). -/
def inGroups (s : State) (l : List Finding) : List Finding :=
  (l.filter fun f => (findingHc f).isNone) ++
    (List.range (128 / testGroup s)).flatMap fun k => l.filter fun f => (findingHc f).any fun h => h / testGroup s == k

/-- Rows of a bank that a pass tests. -/
def rowsPerPass (s : State) : Nat := 2 ^ min 10 (s.get TST_BIST_CFG_rows_log2)

/-- A phase runs with the findings it makes; TST_RESULT takes its outcome.  An ARRAY pass advances the coverage pointer (R531). -/
def runPhase (start : Bool) (phase : Nat) (findings : List Finding) (s : State) : State :=
  let found := findingsDone (findings.filter fun f => findingPhase f == phase) s
  let r := applyFindings start (inGroups s found) (PhaseResult.pass, s)
  let s1 := r.2.setReg TST_RESULT ((r.2.reg TST_RESULT).withBits (2 * phase - 1) (2 * phase - 2) r.1)
  if phase = Phase.array then
    s1.modTest fun x => { x with pointer := (x.pointer + rowsPerPass s) % 2 ^ 14, passes := (x.passes + 1) % 256 }
  else s1

/-- The outcome of a phase in TST_RESULT. -/
def phaseResult (s : State) (phase : Nat) : Nat := (s.reg TST_RESULT).bits (2 * phase - 1) (2 * phase - 2)

/-- The worst outcome of the phases that ran. -/
def testVerdict (s : State) : Nat := (List.range 6).foldl (fun m i => max m (phaseResult s (i + 1))) 0

/-! ### The repair list at START (R525, R528, R538) -/

def sameRepair (a b : LedgerEntry) : Bool := a.kind == b.kind && a.hc == b.hc && a.unit == b.unit && a.row == b.row

/-- Entries that exist in F4 or F5 count as recorded, and recorded ones that the ledger lacks join the list. -/
def mergeRecorded (s : State) : State :=
  let known := recordedEntries s
  let old := s.ledger.map fun e => if known.any (sameRepair e) then { e with st := 2 } else e
  { s with ledger := old ++ known.filter fun r => !old.any (sameRepair r) }

/-- The data of a copy are taken over, beside the causes of REPLACE seen in this START. -/
def ledgerTake (c : LedgerCopy) (s : State) : State :=
  let s1 := s.modTest fun x => { x with
    tsv := c.tsv, shorts := c.shorts, deadSpares := c.deadSpares, queueRows := c.queueRows, imageRows := c.imageRows
    pointer := c.pointer, passes := c.passes, seen := Nat.lor c.seen x.seen }
  { s1 with ledger := c.entries, landing := { s1.landing with disabled := c.disabled } }

/-- Banks of a half-channel in service, from the list. -/
def banksListed (s : State) (h : Nat) : Nat :=
  s.ledger.foldl (fun m e => if e.kind = .bankRetired ∧ e.hc = h then natClearBit m e.unit else m) 0xFFFFFFFF

/-- HC_BANKS and what follows from it. -/
def showBanks (h banks : Nat) (s : State) : State :=
  let s1 := (s.setReg (HC_BANKS h) (BitVec.ofNat 32 banks)).put (HC_STATUS_banks h) (popCount 32 banks)
  if popCount 32 banks < 7 then
    ((s1.put (HC_STATUS_short h) 1).setReg (TT_HC_SHORT (h / 32))
      (BitVec.ofNat 32 (natSetBit (s1.reg (TT_HC_SHORT (h / 32))).toNat (h % 32)))).cause Cause.TT_hc_short
  else s1

/-- A completed row repair takes a spare of its group while its bank is in service and one is left (R520). -/
def loadSpare (e : LedgerEntry) (s : State) : State :=
  let p : Place := ⟨e.hc, e.unit, e.row, 0⟩
  if e.kind = .rowRepair ∧ 1 ≤ e.st ∧ natBit (s.reg (HC_BANKS e.hc)).toNat e.unit ∧ 0 < sparesLeft s p then
    { s with dram := { s.dram with spares := insertSorted p.rowKey s.dram.spares } }
  else s

/-- Recorded retirements and row repairs are applied (R348, R371). -/
def applyList (s : State) : State :=
  let s1 := forEach halfChannels (fun h s => if s.ledger.any fun e => e.kind == .bankRetired && e.hc == h then showBanks h (banksListed s h) s else s) s
  let rows := (s.ledger.filter fun e => e.kind == .rowRetired).map fun e => (Place.mk e.hc e.unit e.row 0).rowKey
  let s2 := { s1 with dram := { s1.dram with spares := [], retired := rows.foldl (fun l k => insertSorted k l) [] } }
  (forEach s2.ledger loadSpare s2).put ECC_RETIRE_STATUS_rows (min 4096 s2.dram.retired.length)

/-- A remap of the list is applied at TRAIN; one that was pending is new (R348, R534). -/
def applyRemap (e : LedgerEntry) (s : State) : State :=
  let src := if e.st = 2 then 0 else 1
  let note := fun (s : State) => if e.st = 0 then s.cause (Cause.HC_tsv_remap e.hc) else s
  match e.kind with
  | .dqRemap => let s1 := note (carryDq e.hc e.unit e.row src s); if dqSpent s1 e.hc && !dqSpent s e.hc then markExhausted e.hc s1 else s1
  | .caRemap => let s1 := note (carryCa e.hc e.unit src s); if caSpent s1 (e.hc / 2 * 2) && !caSpent s (e.hc / 2 * 2) then markExhausted e.hc s1 else s1
  | _ => s

/-- Every remap of the list applied: pending ones are complete. -/
def applyRemaps (s : State) : State :=
  let s1 := forEach s.ledger applyRemap s
  { s1 with ledger := s1.ledger.map fun e => if (e.kind = .dqRemap ∨ e.kind = .caRemap) ∧ e.st = 0 then { e with st := 1 } else e }

end Sys2Proof.Machine
end

