-- ==== Sys2Proof/Machine/Start.lean ====
section
/-!
DEFINITION. Machine/Start.lean: the START sequence, release, resets, the anchor sequence and the hardware thermal trip
(03_start_and_reset, 02_package R43 to R55, 15_thermal R426 to R428, 17_purser R458 to R464).
-/
set_option autoImplicit false

namespace Sys2Proof.Machine
open Reg Bit

/-- Types of reset, as GLB_RESET_CAUSE.kind encodes them (R72). -/
def ResetKind.cold : Nat := 0
def ResetKind.warm : Nat := 1
def ResetKind.baseOnly : Nat := 2

/-- Sources of a reset. -/
def ResetSource.resetN : Nat := 1
def ResetSource.pwrgood : Nat := 2
def ResetSource.rail : Nat := 3
def ResetSource.trip : Nat := 4
def ResetSource.ctrl : Nat := 5
def ResetSource.mailbox : Nat := 6
def ResetSource.watchdog : Nat := 7

/-- Steps of START (R61). -/
def StartStep.arm : Nat := 1
def StartStep.fuse : Nat := 2
def StartStep.boot : Nat := 3
def StartStep.selftest : Nat := 4
def StartStep.train : Nat := 5
def StartStep.init : Nat := 6
def StartStep.warmup : Nat := 7
def StartStep.released : Nat := 8
def StartStep.safe : Nat := 15

def startStep (s : State) : Nat := s.get GLB_START_STATUS_step

/-- START runs and stands at a step. -/
def startAt (s : State) (n : Nat) : Bool := s.start.phase == .running && startStep s == n

def State.modStart (s : State) (f : Start → Start) : State := { s with start := f s.start }
def State.modAlways (s : State) (f : AlwaysOn → AlwaysOn) : State := { s with always := f s.always }
def State.modPurser (s : State) (f : Purser → Purser) : State := { s with purser := f s.purser }

/-! ### Long jobs (R476) -/

def Cmd.flashWrite : Nat := 0x41
def Cmd.otpProgram : Nat := 0x51
def Cmd.otpSeal : Nat := 0x52
def Cmd.bistRun : Nat := 0x60
def Cmd.rowRepair : Nat := 0x63

/-- Numbers of a big-endian payload. -/
def payloadNum (l : List Byte) (at_ n : Nat) : Nat := ofBytesBE ((l.drop at_).take n)

/-- A job ends with a status and result, kept until sixteen later jobs have ended. -/
def jobEnd (num status : Nat) (result : List Byte) (s : State) : State :=
  match s.purser.jobs.find? fun j => j.num == num with
  | none => s
  | some j =>
    let s1 := s.modPurser fun x => { x with
      jobs := x.jobs.filter fun k => k.num != num
      ended := ({ num := num, command := j.command, status := status, result := result.take 256 } :: x.ended).take 16 }
    (s1.put MBX_JOBS_running s1.purser.jobs.length).causeWith Cause.MBX_job_done (num % 256 * 256 + status % 256)

/-- The OTP job that runs: one that is not in the queue (R521). -/
def otpJob (s : State) : Option PurserJob :=
  s.purser.jobs.find? fun j => (j.command == Cmd.otpProgram || j.command == Cmd.otpSeal) && !s.otp.queue.contains j.num

/-- The data words of an OTP_PROGRAM request. -/
def otpJobWords (j : PurserJob) : List Word :=
  (List.range (payloadNum j.args 4 2)).map fun i => BitVec.ofNat 32 (payloadNum j.args (8 + 4 * i) 4)

/-- What a reset does to the jobs: a warm one ends them all and cuts an OTP program short at a word that the spec leaves open, a
base-die-only one ends ROW_REPAIR and BIST_RUN (R476, R515; log entry 2). -/
def resetJobs (kind : Nat) (s : State) : State :=
  if kind = ResetKind.baseOnly then
    forEach (s.purser.jobs.filter fun j => j.command == Cmd.rowRepair || j.command == Cmd.bistRun) (fun j s => jobEnd j.num 0x0E [0x03] s) s
  else
    let s1 := match otpJob s with
      | some j =>
        if j.command = Cmd.otpProgram then
          let words := otpJobWords j
          otpTear (payloadNum j.args 0 1) words (s.drawn 16 % (words.length + 3)) s.drew
        else s
      | none => s
    { s1.modPurser fun x => { x with jobs := [], ended := [] } with otp := { s1.otp with queue := [] } }

/-! ### What a reset leaves (R75, R83) -/

/-- The register keeps its word across a warm or base-die-only reset. -/
def keptRegister (kind a : Nat) : Bool :=
  decide (GLB_WSEQ_DONE 0 ≤ a ∧ a ≤ GLB_WSEQ_SEEN 15) ||
  [GLB_SW_FLAGS, PWR_WAKE, PWR_DIP0, PWR_DIP1, PWR_DIP_CNT, THM_TRIP, THM_ON_S, THM_HOT_S, THM_OSC, MBX_WDOG, MBX_WDOG_PC].contains a ||
  (kind == ResetKind.baseOnly &&
    ([EVT_LOG_HEAD, EVT_LOG_TAIL, EVT_LOG_LOST, OTP_STATUS, OTP_TEMP_LAST, MBX_I3C, MBX_FW_VER, MBX_FW_INFO, MBX_JOBS, LANE_PLL_STATUS].contains a ||
     (List.range 8).any fun m => a == MBX_STATUS m))

/-- The rails below warning stay so: the comparators belong to the always-on domain. -/
def keepBelow (below : Nat) (s : State) : State := s.put PWR_SUPPLY_below below

/-- The node ID and the static I3C address follow the sample of NODEID (R390, R467). -/
def showStrap (s : State) : State :=
  let n := s.pins.nodeid % 64
  ((s.put FAB_NODE_strap n).put FAB_NODE_id n).put MBX_I3C_static (0x48 + n % 8)

/-- Mailboxes of in-band owners fall idle with their ports; the others go on over a base-die-only reset (R489). -/
def idleInBand (s : State) : State :=
  forEach (List.range 8) (fun m s =>
    if s.get (MBX_STATUS_state m) ≠ 0 ∧ s.get (MBX_STATUS_owner m) = 1 then
      (s.put (MBX_STATUS_state m) 0).modPurser fun x => { x with boxes := KMap.put (fun _ => Mailbox.reset) x.boxes m Mailbox.reset }
    else s) s

/-- What a reset of the base-die logic leaves of State (R75). -/
def resetParts (s : State) : State :=
  let r := State.reset
  let kind := s.start.kind
  let base := kind == ResetKind.baseOnly
  { r with
    pending := s.pending
    free := s.free
    out := s.out
    ticks := s.ticks
    regs := s.regs.filter fun p => keptRegister kind p.1
    pins := { s.pins with snapDrive := false, snapIgnore := false }
    always := s.always
    start := { s.start with request := none, diesOut := false, ready := false, portResets := [] }
    events := if base then { r.events with log := s.events.log, held := s.events.held, lostRaised := s.events.lostRaised } else r.events
    landing := { r.landing with disabled := s.landing.disabled }
    hcs := s.hcs.filterMap fun p => if p.2.rowRepair.isSome then some (p.1, { HcSt.reset with rowRepair := p.2.rowRepair }) else none
    dram := { r.dram with mem := s.dram.mem, lost := s.dram.lost, dies := s.dram.dies.map fun p => (p.1, { p.2 with valid := false, copy := [] }) }
    ledger := if base then s.ledger else []
    therm := { ThermSt.reset with
      reading := s.therm.reading, broken := s.therm.broken, tripTick := s.therm.tripTick, hotReported := s.therm.hotReported
      hotTime := s.therm.hotTime }
    otp := s.otp
    purser := if base then s.purser else { r.purser with releaseTick := s.purser.releaseTick, slot := s.purser.slot, skip := s.purser.skip }
    test := if base then { s.test with run := none } else { r.test with stored := s.test.stored, tap := s.test.tap } }

/-- The base-die logic at its reset state, but for what R75 keeps. -/
def resetLogic (s : State) : State :=
  let base := s.start.kind == ResetKind.baseOnly
  let s1 := resetParts s
  let s2 := keepBelow (s.get PWR_SUPPLY_below) (showStrap s1)
  let s3 := if base then
      idleInBand (((s2.put GLB_START_STATUS_fw_slot (s.get GLB_START_STATUS_fw_slot)).put GLB_START_STATUS_rom_safe
        (s.get GLB_START_STATUS_rom_safe)).put GLB_START_STATUS_step StartStep.selftest)
    else s2
  if s.landing.op.isSome then ldgEnd LdgResult.aborted s3 else s3

/-- The registers of R83, from the anchor record. -/
def showAnchor (s : State) : State :=
  match s.always.anchor with
  | none => s
  | some r =>
    let cause := r.unconfirmed % 2 ^ 16 * 2 ^ 16 + boolNat r.flushed * 2 ^ 14 + boolNat r.anchorRun * 2 ^ 13 + r.source % 256 * 16 + r.kind % 4
    ((((s.setReg GLB_RESET_CAUSE (BitVec.ofNat 32 cause)).put GLB_MEM_STATE_stale r.stale).setReg GLB_ANCHOR_CROSS_LO (BitVec.ofNat 32 r.cross)).setReg
      GLB_ANCHOR_CROSS_HI (BitVec.ofNat 32 (r.cross / 2 ^ 32 % 2 ^ 16))).setReg GLB_ANCHOR_DIRTY (BitVec.ofNat 32 r.dirty)

/-! ### The anchor sequence (R76 to R78) -/

/-- Lines that hold data no core die has yet: those of the landing, and of regions with allocate or pinned policy those that a waiting write-back
carries after they left it. -/
def lostLines (s : State) : List (Nat × Line) :=
  (s.landing.lines.filter fun p => p.2.st != .clean) ++
    halfChannels.flatMap fun h =>
      let x := s.hc h
      (x.intake ++ x.waiting ++ x.queue ++ x.dropped).flatMap fun a =>
        match a.purpose with
        | .writeBack _ held => held.filter fun p => decide (p.2.region < 16) && rgnPolicy s p.2.region != 0
        | _ => []

def recordWseq (p : Nat) (s : State) : State :=
  let x := s.link p
  (s.setReg (GLB_WSEQ_SEEN p) (BitVec.ofNat 32 x.wseqSeen)).setReg (GLB_WSEQ_DONE p) (BitVec.ofNat 32 (wseqReached x))

/-- The words of the region descriptors, by register. -/
def regionWords (s : State) : KMap Word :=
  (List.range 16).foldl (fun m g => [SVC_RGN_PLACE g, SVC_RGN_ATTR g, SVC_RGN_FC_LO g, SVC_RGN_FC_HI g].foldl (fun m a => m.ins a (s.reg a)) m) []

/-- The descriptors of this START are not live yet: an anchor sequence that cuts it leaves what the last record says of the regions, their stale
bits, the lost lines and the GLB_WSEQ pairs as it is (log entry 35). -/
def beforeRegions (s : State) : Bool :=
  s.start.phase == .running && !s.start.ready && startStep s != StartStep.warmup && s.always.anchor.isSome

/-- The record of an anchor sequence that starts now (R76, R78). -/
def anchorRecord (kind source : Nat) (flushed : Bool) (s : State) : AnchorRecord :=
  let lines := lostLines s
  let new : AnchorRecord :=
    { cross := s.cross, source := source, kind := kind, anchorRun := true, flushed := flushed, unconfirmed := 0
      stale := (lines.filter fun p => decide (p.2.region < 16) && rgnPolicy s p.2.region != 0).foldl (fun m p => natSetBit m p.2.region) 0
      dirty := lines.length, regions := regionWords s }
  match s.always.anchor with
  | some r => if beforeRegions s then { new with stale := r.stale, dirty := r.dirty, regions := r.regions } else new
  | none => new

/-- An anchor sequence runs: always outside START, where R72 names no exception for RETENTION or COLD (log entry 26), and in START once dies have
left self-refresh (R82). -/
def anchorNeeded (s : State) : Bool :=
  match s.start.phase with
  | .running => s.start.diesOut
  | .ended => true
  | _ => false

/-- The excursion under way ends at a reset (R455, R456). -/
def closeExcursion (atReset : Bool) (s : State) : State :=
  match s.always.excursion with
  | some x => (dipRecord atReset x s).modAlways fun a => { a with dipDue := true }
  | none => s

/-- The trigger of an anchor sequence: ingress closes, the record is made, every port falls and loses code lock (R76, R78, R172). -/
def anchorStart (kind source : Nat) (flushed : Bool) (s : State) : State :=
  let r := anchorRecord kind source flushed s
  let s1 := commitReset s
  let s2 := resetJobs kind (if beforeRegions s then s1 else forEach (List.range 16) recordWseq s1)
  let s3 := forEach (List.range 16) (fun p s => towCut p (portFall p Fall.baseReset s)) (s2.modAlways fun x => { x with anchor := some r })
  { s3 with
    start := { s3.start with phase := .anchoring, kind := kind, request := none }
    modes := { s3.modes with inflight := none, pending := none } }

/-- START begins again after a reset: the pins, a trip or 10 µs hold it (R73, R428). -/
def holdOrDelay (source : Nat) (s : State) : State :=
  let held := source == ResetSource.resetN || source == ResetSource.pwrgood || !s.pins.resetN || !s.pins.pwrgood || s.always.tripped
  s.modStart fun x => { x with phase := if held then .held else .delay, waitPins := held }

/-- The memory is PRESERVED at this START (R45, R69, R74, R448). -/
def memoryKept (s : State) : Bool :=
  s.start.kind != ResetKind.cold && s.always.selfRefresh == 0xFFFF && s.always.railsHeld && !s.always.fillIncomplete && !s.always.seqViolation &&
    s.always.signature.isSome

/-- What every START, and a restart from SELFTEST, begins with.  A START that will fill memory marks FILL as incomplete until it has run (R69). -/
def startCommon (s : State) : State :=
  let kept := memoryKept s
  let s1 := setMode Mode.start { s with
    start := { s.start with phase := .running, request := none, diesOut := false, ready := false, waitPins := false, portResets := [] }
    test := { s.test with recRaised := false }
    therm := { s.therm with broken := [] } }
  let s2 := ((s1.putFlag GLB_MEM_STATE_preserved kept).putFlag GLB_START_STATUS_preserved kept).putFlag GLB_MEM_STATE_fill_incomplete s.always.fillIncomplete
  let s3 := if s.start.kind ≠ ResetKind.cold && !kept then s2.raiseEvent 382 0 else s2
  let s4 := if s.always.seqViolation then s3.cause Cause.PWR_pwr_seq_fault else s3
  s4.modAlways fun x => { x with seqViolation := false, fillIncomplete := x.fillIncomplete || !kept }

/-- A restart of the data path from SELFTEST after a base-die-only reset (R72). -/
def startFromSelftest (s : State) : State :=
  drawTag (thermStart ((startCommon s).put GLB_START_STATUS_step StartStep.selftest))

/-- A self-test works on ARRAY rows: a run whose phase is ARRAY, or SELFTEST at START. -/
def testsRows (s : State) : Bool :=
  (s.test.run.any fun r => if r.shutdown then r.phases.head? == some Phase.array else r.phases.contains Phase.array) ||
    (s.start.phase == .running && s.get GLB_START_STATUS_step == StartStep.selftest)

/-- A reset cuts an ARRAY pass.  Whether the save of a row had completed, of which group, and which of the pass's rows it is, is open: free
values tell (R530 to R532, log entry 66). -/
def arrayCut (s : State) : State :=
  if !testsRows s then s
  else
    let g := testGroup s
    let s1 := s.drew
    let s2 := s1.drew
    let row := (s.test.pointer + s2.drawn 10 % rowsPerPass s) % 2 ^ 14
    let s3 := s2.drew
    if s.drawn 1 = 0 then s3 else s3.modAlways fun x => { x with underTest := some (g * (s1.drawn 7 % (128 / g)), g, row) }

/-- The end of a reset: logic in reset, and what comes next by its type (R72, R73, R76). -/
def resetEnd (source : Nat) (s : State) : State :=
  let s1 := showAnchor (resetLogic (arrayCut s))
  if s1.start.kind = ResetKind.baseOnly then
    let s2 := startFromSelftest s1
    forEach (List.range 16) leaveDark s2
  else holdOrDelay source s1

/-- A reset without an anchor sequence: no die is out of self-refresh, and the memory's state is unchanged (R82).  Before the first START there
is nothing to reset.  A trigger in the 10 µs of R73, or while START waits with both pins high, is a reset of its own whose record keeps anchor_run and
flushed of the sequence before it, which no START has followed (log entry 27).  A base-die-only request in START before SELFTEST stays pending (log
entry 28). -/
def resetHeld (kind source : Nat) (s : State) : State :=
  if s.start.kind = ResetKind.cold && s.start.phase == .held then s
  else if kind = ResetKind.baseOnly && s.start.phase == .running && startStep s < StartStep.selftest then s
  else
    let r := match s.always.anchor with
      | some r => if s.start.phase = .running then { r with kind := kind, source := source, anchorRun := false, flushed := false }
        else { r with kind := kind, source := source }
      | none => { cross := 0, source := source, kind := kind, anchorRun := false, flushed := false, unconfirmed := 0, stale := 0, dirty := 0, regions := [] }
    let s1 := (resetJobs kind (commitReset s)).modAlways fun x => { x with anchor := some r }
    resetEnd source { s1 with start := { s1.start with kind := kind } }

/-- A trip in RETENTION needs no anchor sequence: the dies are in self-refresh and the logic goes into reset at once, with the record of the
regions (R431). -/
def retentionTrip (s : State) : State :=
  let s1 := (anchorStart ResetKind.warm ResetSource.trip false s).modAlways fun x => { x with
    anchor := x.anchor.map fun r => { r with anchorRun := false, unconfirmed := 0 } }
  resetEnd ResetSource.trip (closeExcursion false s1)

/-- A reset trigger of a type (R72, R76, R82): a running sequence keeps its source and takes the higher type; while a pin holds the device it is
held already (R55). -/
def resetTrigger (kind source : Nat) (flushed : Bool) (s : State) : State :=
  if s.start.phase = .anchoring then
    (if kind = ResetKind.warm then
       (s.modStart fun x => { x with kind := ResetKind.warm }).modAlways fun x => { x with
         anchor := x.anchor.map fun r => { r with kind := ResetKind.warm } }
     else s)
  else if source = ResetSource.trip && s.mode == Mode.retention && s.start.phase == .ended && s.always.selfRefresh == 0xFFFF then retentionTrip s
  else if anchorNeeded s then anchorStart kind source flushed s
  else if s.start.phase = .held && source != ResetSource.resetN && source != ResetSource.pwrgood && !(s.pins.resetN && s.pins.pwrgood) then s
  else resetHeld kind source s

/-- 2 µs after the trigger: dies that did not confirm are recorded and the logic is reset (R77). -/
def anchorEnd (confirmed : Nat) (s : State) : State :=
  if s.start.phase ≠ .anchoring then s
  else
    let s1 := forEach ((List.range 16).filter fun d => natBit confirmed d && !natBit s.always.selfRefresh d) confirmSelfRefresh s
    let missing := 0xFFFF - s1.always.selfRefresh % 2 ^ 16
    let s2 := s1.modAlways fun x => { x with anchor := x.anchor.map fun r => { r with unconfirmed := missing } }
    let source := match s2.always.anchor with | some r => r.source | none => 0
    resetEnd source (closeExcursion false s2)

/-! ### Pins and rails (R43 to R46, R54, R55, R72, R82, R456) -/

/-- VAON has risen: a cold reset. -/
def vaonRise (s : State) : State :=
  if s.pins.vaon then s else setMode Mode.cold { s with pins := { s.pins with vaon := true } }

/-- VAON has fallen: everything is lost but what is blown or in flash. -/
def vaonFall (s : State) : State :=
  let r := State.reset
  { r with
    pending := s.pending, free := s.free, ticks := s.ticks
    pins := { r.pins with vaon := false, vqps := s.pins.vqps }
    otp := { s.otp with marginal := [], failed := [], sealBad := 0, queue := [] }
    test := { r.test with stored := s.test.stored } }

/-- PWRGOOD falls: with RESET_N high as a reset level on every rail (R55).  R74 asks for the levels of VDDD and VPP themselves, which the pin does
not tell (log entry 25). -/
def pwrgoodFall (s : State) : State :=
  let trigger := s.pins.pwrgood && s.pins.resetN
  let s1 := { s with pins := { s.pins with pwrgood := false } }
  if trigger then resetTrigger ResetKind.warm ResetSource.pwrgood false (closeExcursion true s1) else s1

/-- RESET_N low for 10 µs; while PWRGOOD is low nothing more happens (R55, R72). -/
def resetLow (s : State) : State :=
  let trigger := s.pins.pwrgood && s.pins.resetN
  let s1 := { s with pins := { s.pins with resetN := false } }
  if trigger then resetTrigger ResetKind.warm ResetSource.resetN false s1 else s1

/-- NODEID is sampled at this rising edge: PWRGOOD is high (R55), and the start is cold or RESET_N was the trigger (R54, R75). -/
def samplesNode (s : State) : Bool :=
  s.pins.pwrgood && (s.start.kind == ResetKind.cold || s.always.anchor.any fun r => r.source == ResetSource.resetN)

/-- RESET_N rises. -/
def resetRise (nodeid : Nat) (s : State) : State :=
  if s.pins.resetN then s
  else
    let s1 := { s with pins := { s.pins with resetN := true } }
    if !samplesNode s then s1
    else
      let s2 := { s1 with pins := { s1.pins with nodeid := nodeid % 64 } }
      if s2.up then s2 else showStrap s2

/-- A rail at its reset level for 40 ns (R74, R456). -/
def railReset (rail mv : Nat) (s : State) : State :=
  let s1 := noteLevel rail mv { s with pins := { s.pins with atReset := natSetBit s.pins.atReset rail } }
  let s2 := if rail = 3 ∨ rail = 4 then s1.modAlways fun x => { x with railsHeld := false } else s1
  resetTrigger ResetKind.warm ResetSource.rail false (closeExcursion true s2)

/-- VQPS above 0.3 V for 1 s without a programming command (R46). -/
def vqpsPresent (mv : Nat) (s : State) : State :=
  let s1 := { s with pins := { s.pins with vqps := mv } }
  let s2 := s1.putFlag OTP_STATUS_vqps (vqpsGood s1)
  if s.always.vqpsReported || mv ≤ 300 || (otpJob s).isSome then s2
  else (s2.cause Cause.PWR_vqps_present).modAlways fun x => { x with vqpsReported := true }

/-- A hardware thermal trip (R426, R427). -/
def thermalTrip (node : Nat) (backstop : Bool) (s : State) : State :=
  if s.always.tripped then s
  else
    let s1 := (((s.addField THM_TRIP_count 1).put THM_TRIP_node node).putFlag THM_TRIP_backstop backstop).modAlways fun x => { x with tripped := true, tripStart := true }
    resetTrigger ResetKind.warm ResetSource.trip false { s1 with
      pins := { s1.pins with thermtrip := true }
      therm := { s1.therm with tripTick := s1.ticks, coolSince := none } }

/-! ### START (R61 to R70) -/

/-- START begins at ARM. -/
def startBegin (s : State) : State := (startCommon s).put GLB_START_STATUS_step StartStep.arm

/-- RESET_N has been high for 1 ms with PWRGOOD high (R43, R55). -/
def startPins (s : State) : State :=
  if s.start.phase = .held && s.pins.vaon && s.pins.resetN && s.pins.pwrgood && !s.always.tripped && s.pins.atReset == 0 then startBegin s else s

/-- 10 µs after the anchor sequence (R73), and not before the rail that triggered it has recovered: START waits for the trigger to clear (R82). -/
def startDelay (s : State) : State := if s.start.phase = .delay && s.pins.atReset == 0 then startBegin s else s

/-- Every sensor has read cool for 10 s; with all four sensors of a core die broken 60 s must have passed as well (R428). -/
def reArm (s : State) : State :=
  let now := s.ticks
  let cool := match s.therm.coolSince with | some t => decide (t + 125000000 ≤ now) | none => false
  let blind := (List.range 16).any fun d => [0, 1, 2, 3].all fun i => sensorBroken s (24 + 4 * d + i)
  if s.always.tripped && s.start.phase == .held && cool && (!blind || decide (s.therm.tripTick + 750000000 ≤ now)) then
    startPins { s with always := { s.always with tripped := false }, pins := { s.pins with thermtrip := false } }
  else s

/-- Modes end in SAFE after a failed START, with its step (R61): dies that are out go into self-refresh first (R439). -/
def safeFromStart (step : Nat) (s : State) : State :=
  let s1 := ((s.put GLB_START_STATUS_fail_step step).put GLB_START_STATUS_step StartStep.safe).modStart fun x => { x with phase := .ended, ready := false }
  let t : Transition :=
    { req := { target := Mode.safe, tag := 0, mimg := false, noBist := false }, source := Mode.start, step := 5, committed := true, preempt := none,
      waiting := false, srfRetry := 0 }
  let s2 := { s1 with modes := { s1.modes with inflight := some t, pending := none } }
  if s.start.diesOut then s2
  else modeFinish Mode.safe ((forEach (List.range 16) parkPort (setStep 6 s2)).raiseEvent 377 0)

/-- ARM ends (R5, R61): the PLLs named have locked. -/
def startArm (plls : Nat) (s : State) : State :=
  if !startAt s StartStep.arm then s
  else ((drawTag (thermStart ((s.setCross 0).put LANE_PLL_STATUS_lock plls))).modPurser fun x => { x with watchdog := s.ticks }).put
    GLB_START_STATUS_step StartStep.fuse

/-- FUSE ends (R509 to R512). -/
def startFuse (bad : List Marginal) (incomplete : List Nat) (s : State) : State :=
  if !startAt s StartStep.fuse then s
  else ((fuseRead bad incomplete s).putFlag OTP_STATUS_vqps (vqpsGood s)).put GLB_START_STATUS_step StartStep.boot

/-- Why a slot is rejected: FW_REJECT's reason (R65, R460). -/
def slotVerdict (s : State) (b : BootSlot) : Option Nat :=
  if !b.readOk then some 6
  else if !b.headerOk then some 1
  else if !keyUsable s b.keyIndex || !b.hashOk then some 2
  else if !b.sigOk then some 3
  else if b.revId ≠ (s.reg REV_ID).toNat then some 4
  else if 63 < b.rollback || b.rollback < rollbackValue s then some 5
  else none

/-- A slot tried: accepted, or rejected and reported. -/
def trySlot (n : Nat) (b : BootSlot) (s : State) : Bool × State :=
  match slotVerdict s b with
  | none => (true, s)
  | some r => (false, s.causeWith Cause.MBX_fw_reject (256 * n + r))

/-- The accepted image runs. -/
def bootAccept (n : Nat) (b : BootSlot) (s : State) : State :=
  let s1 := (((s.put GLB_START_STATUS_fw_slot n).setReg MBX_FW_VER (BitVec.ofNat 32 b.fwVersion)).put MBX_FW_INFO_slot n).put MBX_FW_INFO_rollback b.rollback
  let s2 := s1.modPurser fun x => { x with slot := n, key := b.keyIndex, rom := false, config := b.config }
  forEach (List.range 16) leaveDark (s2.put GLB_START_STATUS_step StartStep.selftest)

/-- No slot is accepted: SAFE with the boot ROM (R66).  A base-die-only reset then restarts the data path with the boot ROM still running (log entry
32). -/
def bootFail (s : State) : State :=
  let s1 := (s.put GLB_START_STATUS_rom_safe 1).put MBX_FW_INFO_rom_safe 1
  safeFromStart StartStep.boot (forEach (List.range 16) leaveDark (s1.put GLB_START_STATUS_step StartStep.selftest))

/-- BOOT ends (R65, R66, R464).  A flash that does not answer SFDP rejects both slots, each as one that cannot be read (log entry 31). -/
def startBoot (slot0 slot1 : BootSlot) (s : State) : State :=
  if !startAt s StartStep.boot then s
  else
    let skips := 3 ≤ s.get MBX_WDOG_run
    let both := skips && s.purser.skip.any fun k => k != s.purser.slot
    let s1 := if skips then
        ((s.put MBX_WDOG_run 0).cause Cause.MBX_fw_slot_skipped).modPurser fun x => { x with skip := some x.slot }
      else s
    if both then bootFail s1
    else
      let (ok0, s2) := if s1.purser.skip = some 0 then (false, s1) else trySlot 0 slot0 s1
      if ok0 then bootAccept 0 slot0 s2
      else
        let (ok1, s3) := if s1.purser.skip = some 1 then (false, s2) else trySlot 1 slot1 s2
        if ok1 then bootAccept 1 slot1 s3 else bootFail s3

/-- The pass record holds and is younger than a day of THM_ON_S (R523). -/
def passFresh (s : State) : Bool :=
  s.start.kind != ResetKind.cold && s.always.passRecord.any fun t => decide ((s.reg THM_ON_S).toNat < t + 86400)

/-- A valid copy is valid for a quick start as well (R528). -/
def quickCopy (c : LedgerCopy) : Bool := c.kind == 1 && decide (c.verdict ≤ 1) && !c.consumed

/-- What a self-test at START comes to: the ledger taken, the repair list applied and the phases run (R523 to R538).  A copy used for a
quick start is consumed. -/
def selftestRun (ledger : Nat) (findings : List Finding) (s0 : State) : State :=
  let valid := ledger == 1
  let quick := valid && quickCopy s0.test.stored
  let short := quick || (valid && passFresh s0)
  let s := if quick then s0.modTest fun x => { x with stored := { x.stored with consumed := true } } else s0
  let s1 := mergeRecorded (if !valid then ledgerTake LedgerCopy.reset s else if s.start.kind = ResetKind.baseOnly then s else ledgerTake s.test.stored s)
  let s2 := applyList (if ledger = 2 then s1.cause Cause.TST_ledger_error else s1)
  let s3 := ((s2.put TST_STATUS_ledger (if quick then 1 else if valid then 2 else if ledger = 2 then 3 else 0)).put TST_STATUS_last (if short then 1 else 2)).setReg TST_RESULT 0
  let s4 := s3.putFlag GLB_START_STATUS_ledger_used short
  let fits := fun f : Finding => match f with | .landing _ _ => !short | _ => true
  let phases := if short then [Phase.lbist, Phase.sram] else [Phase.lbist, Phase.sram, Phase.tsv, Phase.array]
  forEach phases (fun p s => runPhase true p (findings.filter fits) s) s4

/-- TRAIN begins: every half-channel is TRAINING, at its first step (R343). -/
def trainBegin (s : State) : State :=
  forEach halfChannels (fun h s => (s.put (HC_STATUS_state h) HcState.training).put (HC_TRAIN_STATUS_step h) 1) s

/-- SELFTEST ends (R523 to R528).  `ledger` says what the flash's copies are: 0 none valid, 1 the newest is valid, 2 a copy that cannot be
read or whose CRC fails. -/
def startSelftest (ledger : Nat) (findings : List Finding) (s : State) : State :=
  if !startAt s StartStep.selftest then s
  else
    let s1 := selftestRun ledger findings s
    if testVerdict s1 = PhaseResult.fail then
      safeFromStart StartStep.selftest (s1.modAlways fun x => { x with passRecord := none })
    else
      trainBegin ((s1.modAlways fun x => { x with passRecord := some (s1.reg THM_ON_S).toNat }).put GLB_START_STATUS_step StartStep.train)

/-- A region of repairs that boot ignores takes no new repair (R512). -/
def repairsClosed (s : State) : Bool := otpState s 4 == OtpState.incomplete || otpState s 5 == OtpState.incomplete

/-- Rows recorded as under test are restored from the training rows of their banks, and the record is cleared (R532).  The model keeps such
a row's data at its own address throughout, since nothing reads a row between a reset and this step (log entry 66). -/
def restoreRows (s : State) : State := s.modAlways fun x => { x with underTest := none }

/-- Every core die and half-channel trained, with the repairs that are due (R338 to R348, R523); and whether a repair of the list was taken
on the way. -/
def trainRun (outcomes : List TrainOutcome) (dies : List DieOutcome) (s : State) : State × Bool :=
  let pend := s.ledger.any fun e => (e.kind == .dqRemap || e.kind == .caRemap) && e.st == 0
  let asleep := s.always.selfRefresh
  let s1 := forEach ((List.range 16).filter fun d => natBit asleep d) leaveSelfRefresh (s.modStart fun x => { x with diesOut := true })
  let s2 := applyRemaps { s1 with always := { s1.always with selfRefresh := 0 } }
  let s3 := forEach (List.range 16) (fun d s =>
    trainDie ((dies.find? fun o => o.die == d).getD { die := d, ckTrim := s.get (HC_DIE_STATUS_ck_trim d), idOk := true, mw4 := mwHeld s d 4, seed := mwHeld s d 12 }) s) s2
  let n := s3.ledger.length
  let s4 := forEach halfChannels (fun h s =>
    let o := (outcomes.find? fun o => o.hc == h).getD { hc := h, failStep := 0, us := 0, wck := s.get (HC_WCK_TRIM_trim h), dq := [], newDq := [], newCa := [] }
    let dieBad := s.get (HC_DIE_STATUS_state (h / 8)) == DieState.failed
    trainHc (if dieBad && o.failStep = 0 then { o with failStep := 2 } else o) s) s3
  let rows := (s4.ledger.filter fun e => e.kind == .rowRepair && e.st == 0).length
  let s5 := resolveRepairs (restoreRows s4)
  let lostRows := s4.ledger.length - s5.ledger.length
  (forEach (List.range 16) copyRefresh s5, pend || decide (n < s4.ledger.length) || decide (lostRows < rows))

/-- Training sends START to SAFE: a half-channel fails, or a repair was taken while the ledger is closed to repairs. -/
def trainFails (outcomes : List TrainOutcome) (dies : List DieOutcome) (s : State) : Bool :=
  let r := trainRun outcomes dies s
  (halfChannels.any fun h => r.1.get (HC_STATUS_state h) == HcState.failed) || (repairsClosed s && r.2)

/-- TRAIN ends (R343, R344, R348, R353, R532).  Half-channels and dies that are not listed trained with nothing new. -/
def startTrain (outcomes : List TrainOutcome) (dies : List DieOutcome) (s : State) : State :=
  if !startAt s StartStep.train then s
  else
    let s1 := (trainRun outcomes dies s).1
    if trainFails outcomes dies s then safeFromStart StartStep.train (s1.modAlways fun x => { x with passRecord := none })
    else s1.put GLB_START_STATUS_step StartStep.init

/-! ### INIT (R67 to R70) -/

/-- A descriptor is judged: its cause, and the event of one taken into service disabled (R234). -/
def judgeRegion (g : Nat) (s : State) : State :=
  let f := if s.flag (SVC_RGN_ATTR_enable g) then rgnFault s g else (0, 0)
  let s1 := (s.put (SVC_RGN_STATUS_cause g) f.1).put (SVC_RGN_STATUS_other g) f.2
  if f.1 = 0 then s1 else s1.cause Cause.SVC_region_invalid

/-- Descriptor words as a boot configuration block gives them: region and four words; none: the block is ignored (R461). -/
def configEntries : Nat → List Word → Option (List (Nat × List Word))
  | 0, _ => some []
  | n + 1, w :: l =>
    if l.length < 4 then none
    else (configEntries n (l.drop 4)).map fun r => (w.bits 3 0, l.take 4) :: r
  | _ + 1, [] => none

def configBlock (l : List Word) : Option (List (Nat × List Word)) :=
  match l with
  | [] => none
  | w :: rest =>
    let n := w.bits 4 0
    if w.bits 31 16 ≠ 0x4243 ∨ n = 0 ∨ 16 < n then none
    else match configEntries n rest with
      | none => none
      | some es => if es.any (fun e => (es.filter fun x => x.1 == e.1).length != 1) then none else some es

/-- A descriptor word goes live, in the bits its register has. -/
def putDescriptor (a : Nat) (w : Word) (s : State) : State :=
  let m : Word := BitVec.ofNat 32 (stagedMask a)
  s.setReg a ((s.reg a &&& ~~~m) ||| (w &&& m))

/-- The registers of a region's descriptor, in the order of a block's entry. -/
def descriptorRegs (g : Nat) : List Nat := [SVC_RGN_PLACE g, SVC_RGN_ATTR g, SVC_RGN_FC_LO g, SVC_RGN_FC_HI g]

/-- The region of 64 GiB that is used without a block: plain, MAP0, mode A, FILL, every class, bypass (R67). -/
def defaultRegion (s : State) : State :=
  let s1 := ((s.put (SVC_RGN_PLACE_base 0) 0).put (SVC_RGN_PLACE_size 0) 1024).setReg (SVC_RGN_ATTR 0) 0
  ((s1.put (SVC_RGN_ATTR_enable 0) 1).setReg (SVC_RGN_FC_LO 0) 0xFFFFFFFF).setReg (SVC_RGN_FC_HI 0) 0xFFFFFFFF

/-- The descriptors of a START without PRESERVED memory. -/
def bootRegions (s : State) : State :=
  match s.purser.config.bind configBlock with
  | none => defaultRegion s
  | some es => forEach es (fun e s => forEach ((descriptorRegs e.1).zip e.2) (fun p s => putDescriptor p.1 p.2 s) s) s

/-- Memory is filled with zeros; of a VALIDBIT region only the map is cleared (R67, R366). -/
def fillMemory (s : State) : State :=
  let keeps := fun parcel : Nat =>
    let a := addrOfPlace s ⟨parcel / 2 ^ 21, parcel / 2 ^ 16 % 32, parcel / 4 % 2 ^ 14, parcel % 4⟩
    match regionOver s a with
    | some g => rgnValidBit s g && decide (a < validBase s g)
    | none => false
  { s with dram := { s.dram with mem := s.dram.mem.filter fun p => keeps (p.1 / 256), lost := s.dram.lost.filter fun p => keeps p.1 } }

/-- A region goes live, and a pool is rebuilt empty, which is reported (R70, R249). -/
def regionUp (g : Nat) (s : State) : State :=
  let s1 := s.putFlag (SVC_RGN_STATUS_live g) (rgnGood s g)
  if rgnGood s g && rgnType s g == 1 then (relink g s1).cause Cause.SVC_pool_rebuilt else s1

/-- WARMUP runs: a core die stands below −20 °C (R61). -/
def warmupDue (s : State) : Bool := thermNodes.any fun n => coreNode n && decide (effective s n < -20)

/-- INIT ends: memory is filled, or its sentinels are checked (R67 to R70, R449). -/
def startInit (bad : List SentinelRead) (us : Nat) (s : State) : State :=
  if !startAt s StartStep.init || s.start.ready then s
  else
    let kept := s.flag GLB_MEM_STATE_preserved
    let s1 := if kept then
        (match s.always.anchor with
         | some r => forEach r.regions (fun p s => s.setReg p.1 p.2) s
         | none => s)
      else bootRegions s
    let s2 := forEach (List.range 16) judgeRegion s1
    let s3 := if kept then (sentinelCheck bad us s2).put GLB_MEM_STATE_sentinels_checked 1
      else (fillMemory s2).modAlways fun x => { x with fillIncomplete := false }
    let s4 := (forEach (List.range 16) regionUp s3).modAlways fun x => { x with railsHeld := true }
    if warmupDue s4 then s4.put GLB_START_STATUS_step StartStep.warmup else s4.modStart fun x => { x with ready := true }

/-- WARMUP ends: the stack is warm enough, or the maximum has passed (R61). -/
def startWarmup (reached : Bool) (s : State) : State :=
  if !startAt s StartStep.warmup || s.start.ready then s
  else if reached then s.modStart fun x => { x with ready := true }
  else safeFromStart StartStep.warmup s

/-! ### Release (R71) -/

/-- The events of a release that reports what led to this START (R84, R428, R456, R463). -/
def releaseReports (s : State) : State :=
  let s1 := s.raiseEvent 380 0
  let s2 := if s.start.kind ≠ ResetKind.cold && s.flag GLB_RESET_CAUSE_anchor_run then s1.raiseEvent 381 (s1.reg GLB_RESET_CAUSE).toNat else s1
  let s3 := if s.always.tripStart then s2.cause Cause.THM_trip_report else s2
  let s4 := if s.start.kind ≠ ResetKind.cold && s.get GLB_RESET_CAUSE_source == ResetSource.watchdog then
      s3.causeWith Cause.MBX_wdog_reset (s.get MBX_WDOG_cause * 2 ^ 32 + (s.reg MBX_WDOG_PC).toNat)
    else s3
  let s5 := if s.always.dipDue then s4.causeWith Cause.PWR_supply_dip (s.reg PWR_DIP0).toNat else s4
  s5.modAlways fun x => { x with tripStart := false, dipDue := false }

/-- The release that ends START, at a boundary whose count is a multiple of 16. -/
def startRelease (us : Nat) (s : State) : State :=
  if !(s.start.phase == .running && s.start.ready) || s.cross % 16 ≠ 0 then s
  else
    let s1 := timetableRelease ((s.setCross 0).put GLB_PERIOD_PHASE_phase 0)
    let s2 := openIntake (sentinelWrite (forEach halfChannels hcRelease s1))
    let s3 := ((s2.put GLB_START_STATUS_released 1).put GLB_START_STATUS_step StartStep.released).put GLB_START_TIME_us (min 0xFFFFFFFF us)
    let s4 := (clearLatch (releaseReports s3)).put GLB_SW_FLAGS_reset_seen 1
    setMode Mode.service { s4 with
      start := { s4.start with phase := .ended, ready := false }
      purser := { s4.purser with releaseTick := s4.ticks } }

/-! ### Requested resets (R72, R79 to R81, R84) -/

/-- A warm or base-die-only reset requested: it waits to begin; a second request takes the higher type, and the source stays (R84).  The flush bit of
the second request is not looked at (log entry 29). -/
def resetRequest (kind source : Nat) (flush : Bool) (s : State) : State :=
  s.modStart fun x => { x with request := match x.request with
    | none => some { kind := kind, source := source, flush := flush, draining := false }
    | some r => some { r with kind := min r.kind kind } }

/-- A transition that a reset abandons: its steps are undone, and it ends with no status (R82, R457). -/
def abandonTransition (s : State) : State :=
  match s.modes.inflight with
  | none => s
  | some t =>
    let keep := fun c : HwChange => c != .imageSwap && c != .maintenance
    modeUndo t { s with commit := { s.commit with hw := s.commit.hw.filter keep, hwDue := s.commit.hwDue.filter keep } }

/-- A port-only reset that is requested.  It abandons an entry that has not passed its commit point; past that, and in an exit, the device goes on to
the mode it has begun (R82, log entry 36). -/
def portResetBegin (p : Nat) (s : State) : State :=
  portOnlyReset p
    (if s.modes.inflight.any fun t => !t.committed && t.req.target != Mode.service then takePending (abandonTransition s) else s)

/-- The requested resets begin: port-only ones, then the one of the device, at once or by draining it: ingress closes, what was delivered executes, and
every dirty line is written back (R80 to R82). -/
def requestBegin (s0 : State) : State :=
  let s := forEach s0.start.portResets portResetBegin (s0.modStart fun x => { x with portResets := [] })
  match s.start.request with
  | none => s
  | some r =>
    if r.draining then s
    else if r.flush && s.start.phase == .ended && s.up && s.mode != Mode.retention then
      let s1 := abandonTransition (s.modStart fun x => { x with request := some { r with draining := true } })
      entryFlushStart (openIntake { s1 with modes := { s1.modes with pending := none } })
    else resetTrigger r.kind r.source false s

/-- While a reset drains the device, lines dirtied since the last write-backs were queued are written back as well (R80). -/
def drainFlush (s : State) : State :=
  if (s.start.request.any fun r => r.draining) && s.landing.entryFlush == some [] && decide (0 < dirtyAll s) then entryFlushStart s else s

/-- Everything delivered has completed, and no write waits for a core die (R80). -/
def allDrained (s : State) : Bool :=
  drained s && (List.range 16).all (fun p => (s.link p).vc0.isEmpty && (s.link p).table.all fun e => e.begun || e.record.isSome) && s.svc.jobs.isEmpty &&
    s.landing.misses.isEmpty && s.landing.queued.isEmpty && s.landing.stalled.isEmpty && (lostLines s).isEmpty &&
    halfChannels.all fun h => ((s.hc h).intake ++ (s.hc h).waiting ++ (s.hc h).queue ++ (s.hc h).dropped).all fun a => !a.write

/-- The drain of a requested reset ends. -/
def resetDrained (s : State) : State :=
  match s.start.request with
  | none => s
  | some r => if r.draining && allDrained s then resetTrigger r.kind r.source true s else s

end Sys2Proof.Machine
end

