-- ==== Sys2Proof/Machine/Readout.lean ====
section
/-!
DEFINITION. Machine/Readout.lean: what each register reads as.  Most registers read as the word State holds for them; the ones here show
what other parts of State hold.
-/
set_option autoImplicit false

namespace Sys2Proof.Machine
open Reg Bit

/-! ### Lanes and ports -/

/-- LANE_STATUS_l. -/
def laneStatus (s : State) (l : Nat) : Word :=
  let p := portOf l
  let reach := s.get (PORT_STATUS_reach p)
  BitVec.ofNat 32 (boolNat (s.always.coeffs.find l).isSome * 2 ^ 13 + boolNat (reach == 2) * 2 ^ 12 + boolNat (reach == 2) * 2 ^ 11 +
    s.get (LANE_STATUS_adapt_frozen l) * 2 ^ 10 + s.get (LANE_RX_LEVEL_los l) * 2 ^ 9 + s.get (LANE_CDR_STATUS_lock l) * 2 ^ 8 +
    reach * 2 ^ 6 + s.get (PORT_STATUS_gen p) * 2 ^ 4 + s.stage p)

/-- LANE_EQ_RD_DATA_l: the tap at the last boundary; blocks that are off read as 0 (R86, R113). -/
def eqData (s : State) (l : Nat) : Word :=
  let target := s.get (LANE_EQ_RD_IDX_target l)
  let index := s.get (LANE_EQ_RD_IDX_index l)
  let off := tapOff s l target index || decide (tapCount target ≤ index)
  (s.reg (LANE_EQ_RD_DATA l)).withBits 11 0 (if off then 0 else KMap.get (fun _ => 0) (s.lane l).shownTaps (tapKey target index))

/-- LANE_TX_STATUS_l: BUSY while the device trains the lane (R92). -/
def txStatus (s : State) (l : Nat) : Word :=
  let st := s.stage (portOf l)
  if 2 ≤ st ∧ st ≤ 6 then 2 else s.reg (LANE_TX_STATUS l)

/-- LANE_TOW_SHAPE_DATA_l: the coefficient that LANE_TOW_SHAPE_IDX selects, as last written (R96). -/
def shapeData (s : State) (l : Nat) : Word :=
  let k := s.get (LANE_TOW_SHAPE_IDX_k l)
  BitVec.ofNat 32 (((s.lane l).shapePending.find k).getD (KMap.get shapeReset (s.lane l).shape k))

/-- LANE_DFE_l. -/
def dfeWord (s : State) (l : Nat) : Word :=
  BitVec.ofNat 32 (tapValue s l 1 2 % 256 * 2 ^ 16 + tapValue s l 1 1 % 256 * 2 ^ 8 + tapValue s l 1 0 % 256)

/-- A peer CAP or frame arrived within the last 10 ms. -/
def peerPresent (s : State) (p : Nat) : Bool :=
  match (s.tow p).lastFrame with | some t => decide (s.ticks - t ≤ 125000) | none => false

def ctxCode : TowCtx → Nat
  | .search => 0
  | .header _ _ => 1
  | .payload _ _ => 2

/-- PORT_TOW_STATUS_p. -/
def towStatus (s : State) (p : Nat) : Word :=
  let x := s.tow p
  let w := (s.reg (PORT_TOW_STATUS p)).withBits 14 14 (boolNat (x.sending.isSome || x.waking))
  ((w.withBits 11 10 (ctxCode x.ctx1)).withBits 9 8 (ctxCode x.ctx0)).withBits 3 0 (lanesJoined s p)

/-! ### Links -/

/-- UZ_STATUS_p. -/
def uzStatus (s : State) (p : Nat) : Word :=
  let x := s.link p
  BitVec.ofNat 32 (s.get (PORT_STATUS_version p) * 2 ^ 28 + x.txSeq % 4096 * 2 ^ 16 + x.expected % 4096 * 2 ^ 4 +
    boolNat (!x.replaying.isEmpty) * 2 ^ 3 + boolNat x.delivered * 2 ^ 2 + min 3 x.replayRun)

/-- UZ_CRD_TX0_p and UZ_CRD_TX1_p. -/
def credTx0 (s : State) (p : Nat) : Word := BitVec.ofNat 32 (creditsHeld (s.link p) 1 * 2 ^ 16 + creditsHeld (s.link p) 0)
def credTx1 (s : State) (p : Nat) : Word := BitVec.ofNat 32 (creditsHeld (s.link p) 2)

/-- UZ_CRD_RX0_p and UZ_CRD_RX1_p. -/
def credRx0 (s : State) (p : Nat) : Word := if s.get (PORT_STATUS_version p) = 1 then 0x02001000 else 0x02002000
def credRx1 (s : State) (p : Nat) : Word := if s.get (PORT_STATUS_version p) = 1 then 0 else 0x80

/-- UZ_RT_p. -/
def rtWord (s : State) (p : Nat) : Word := BitVec.ofNat 32 ((s.link p).table.length * 2 ^ 16 + (8192 - sharedUsed s))

/-! ### Memory, its services and its checks -/

/-- TT_FC_OUT_DATA: the count at the last boundary. -/
def outData (s : State) : Word :=
  BitVec.ofNat 32 (min 1023 (KMap.get (fun _ => 0) s.svc.outShown (64 * s.get TT_FC_OUT_IDX_port + s.get TT_FC_OUT_IDX_class)))

/-- ECC_PIN_DATA. -/
def pinData (s : State) : Word :=
  let x := s.hc (s.get ECC_PIN_IDX_hc)
  BitVec.ofNat 32 (min 65535 (x.pins.foldl (fun m p => max m p.2) 0) * 2 ^ 8 + match x.erased with | some q => q | none => 63)

/-- ECC_SCRUB_DATA. -/
def scrubData (s : State) : Word :=
  let x := s.hc (s.get ECC_SCRUB_IDX_hc)
  BitVec.ofNat 32 (x.scrubPasses % 512 * 2 ^ 23 + x.scrubAt % 4 * 2 ^ 21 + x.scrubAt / 4 % 32 * 2 ^ 14 + x.scrubAt / 128 % 2 ^ 14)

/-- Word i of the selected entry of the error log. -/
def eccLogWord (s : State) (i : Nat) : Word :=
  BitVec.ofNat 32 (KMap.get (fun _ => 0) s.dram.log (s.get ECC_LOG_IDX_index) / 2 ^ (32 * (3 - i)))

/-! ### Events, snapshots, jobs and tests -/

/-- The lowest event pending and enabled for ALERT_N; 0x1FF none (R478). -/
def firstPending (s : State) : Nat :=
  ((List.range 384).find? fun e => natBit ((s.reg (EVT_PEND (e / 32))) &&& s.reg (EVT_ALERT_EN (e / 32))).toNat (e % 32)).getD 0x1FF

/-- EVT_STATUS. -/
def evtStatus (s : State) : Word := (s.reg EVT_STATUS).withBits 8 0 (firstPending s)

/-- A record of the event log. -/
def logRecord (s : State) (i : Nat) : Nat := (KMap.get (fun _ => (0 : BitVec 128)) s.events.log i).toNat

/-- EVT_LOG_W0 shows the selected record, words 1 to 3 the one latched by a read of it (R481). -/
def evtLogWord (s : State) (i : Nat) : Word :=
  if i = 0 then BitVec.ofNat 32 (logRecord s (s.get EVT_LOG_IDX_index) / 2 ^ 96) else BitVec.ofNat 32 (s.events.latched / 2 ^ (32 * (3 - i)))

/-- EVT_CNT_DATA. -/
def evtCount (s : State) : Word := BitVec.ofNat 32 (KMap.get (fun _ => 0) s.events.counts (s.get EVT_CNT_IDX_event))

/-- SNAP_STATUS. -/
def snapStatus (s : State) : Word :=
  let w := (s.reg SNAP_STATUS).withBits 31 31 (boolNat s.snap.capture.isSome)
  (w.withBits 30 30 (boolNat s.snap.heldNext.isSome)).withBits 19 16 (s.snap.slots.foldl (fun m p => natSetBit m (p.1 % 4)) 0)

/-- A word of a slot; a free slot reads 0. -/
def snapWord (s : State) (slot word : Nat) : Word :=
  match s.snap.slots.find slot with | some m => KMap.get (fun _ => (0 : Word)) m word | none => 0

/-- MBX_JOBS. -/
def jobsWord (s : State) : Word := (s.reg MBX_JOBS).withBits 11 8 s.purser.jobs.length

/-- CFG_STATUS. -/
def cfgStatus (s : State) : Word :=
  ((s.reg CFG_STATUS).withBits 3 3 (s.get CFG_COMMIT_go)).withBits 2 2 (boolNat (s.commit.suspendLeft != 0))

/-- OTP_STATUS. -/
def otpStatus (s : State) : Word :=
  ((s.reg OTP_STATUS).withBits 30 30 (boolNat (s.flag OTP_STATUS_loaded && vqpsGood s))).withBits 29 29
    (boolNat ((otpJob s).isSome || s.flag OTP_CTRL_reread))

/-- TST_TSV_DATA: state and resistances of the selected path (R533, R534). -/
def tsvData (s : State) : Word :=
  let i := s.get TST_TSV_IDX_index
  if 6016 ≤ i then 0
  else
    let m := match s.test.tsv.find i with | some p => (p.1, p.2.headD 0) | none => (0, 0)
    let idle := match tsvPath i with
      | .dq h 36 => s.get (HC_TSV_REMAP_dq_fail0 h) == 63
      | .dq h 37 => s.get (HC_TSV_REMAP_dq_fail1 h) == 63
      | .ca c 12 => s.get (HC_TSV_REMAP_ca_fail c) == 15
      | .ca c 13 => s.get (HC_TSV_REMAP_ca_fail (c + 1)) == 15
      | _ => false
    let st := if tsvFailed s i || s.test.deadSpares.contains i then 2 else if tsvAgeing s i then 1 else if idle then 3 else 0
    BitVec.ofNat 32 (st * 2 ^ 30 + min 4095 m.1 * 2 ^ 16 + min 4095 m.2)

/-- COMPLETE entries that a recording pass takes to F4, and to F5: row retirements only past 7,168 entries (R538). -/
def pendingF4 (s : State) : List LedgerEntry := s.ledger.filter fun e => e.st == 1 && (e.kind == .dqRemap || e.kind == .caRemap)
def pendingF5 (s : State) : List LedgerEntry :=
  s.ledger.filter fun e => e.st == 1 && (e.kind == .rowRepair || e.kind == .bankRetired || (e.kind == .rowRetired && decide (7168 < s.ledger.length)))

/-- TST_REC_STATUS. -/
def recStatus (s : State) : Word :=
  BitVec.ofNat 32 (min 65535 (pendingF5 s).length * 2 ^ 16 + min 1023 (pendingF4 s).length * 2 ^ 6 + s.get TST_REC_STATUS_last)

/-- TST_LOOP_STATUS (R536). -/
def loopStatus (s : State) : Word :=
  if !s.flag TST_LOOP_CTRL_enable || s.get TST_LOOP_CTRL_kind == 3 then 0
  else if s.flag (PORT_STATUS_hold (s.get TST_LOOP_CTRL_port)) then 2 else 1

/-! ### The word of every register -/

/-- Registers of the global block. -/
def shownGlobal (s : State) (a : Nat) : Word :=
  if a = GLB_COMMIT_STATUS then commitStatus s
  else if a = GLB_COMMIT_REFUSERS then (s.reg a).withBits 28 16 (stagedUnits s)
  else if a = GLB_SERIAL_LO then serialWord s 0
  else if a = GLB_SERIAL_HI then serialWord s 1
  else if a = CFG_STATUS then cfgStatus s
  else s.reg a

/-- Registers of the lane blocks. -/
def shownLane (s : State) (r : RegRow) (i a : Nat) : Word :=
  if r.base = LANE_STATUS 0 then laneStatus s i
  else if r.base = LANE_EQ_RD_DATA 0 then eqData s i
  else if r.base = LANE_TX_STATUS 0 then txStatus s i
  else if r.base = LANE_TOW_SHAPE_DATA 0 then shapeData s i
  else if r.base = LANE_DFE 0 then dfeWord s i
  else if a = LANE_LEDGER_STAGED then s.reg LANE_LEDGER_USED
  else if a = LANE_LEDGER_STATUS then (s.reg a).withBits 1 1 (boolNat (overStaged s))
  else s.reg a

/-- Registers of the ports and links. -/
def shownPort (s : State) (r : RegRow) (i a : Nat) : Word :=
  if r.base = PORT_STATUS 0 then (s.reg a).withBits 19 19 (boolNat (peerPresent s i))
  else if r.base = PORT_TOW_STATUS 0 then towStatus s i
  else if r.base = UZ_STATUS 0 then uzStatus s i
  else if r.base = UZ_CRD_TX0 0 then credTx0 s i
  else if r.base = UZ_CRD_TX1 0 then credTx1 s i
  else if r.base = UZ_CRD_RX0 0 then credRx0 s i
  else if r.base = UZ_CRD_RX1 0 then credRx1 s i
  else if r.base = UZ_RT 0 then rtWord s i
  else s.reg a

/-- Registers of memory services, timetable and half-channels. -/
def shownMemory (s : State) (r : RegRow) (i a : Nat) : Word :=
  if r.base = SVC_POOL_STATUS 0 then poolStatus s i
  else if r.base = SVC_POOL_FREE 0 then poolFree s i
  else if a = SVC_HCF_DATA then hcfData s
  else if a = TT_STATUS then (s.reg a).withBits 23 20 (stormDemands s)
  else if a = TT_FC_OUT_DATA then outData s
  else if r.base = HC_REF_DATA 0 then refData s i
  else if r.base = HC_DQ_DATA 0 then dqData s i
  else if a = HC_ARB_HC_DATA then (s.hc (s.get HC_ARB_HC_IDX_hc)).shown
  else if a = HC_MAP_STATUS then mapStatus s
  else if r.base = HC_DIE_MW_DATA 0 then mwData s i
  else s.reg a

/-- Registers of checks, landing, fabric, heat, power and OTP. -/
def shownServices (s : State) (r : RegRow) (i a : Nat) : Word :=
  if a = ECC_PIN_DATA then pinData s
  else if a = ECC_SCRUB_DATA then scrubData s
  else if r.base = ECC_LOG_W 0 then eccLogWord s i
  else if a = LDG_STATUS then (s.reg a).withBits 0 0 (boolNat ((List.range 32).any (sliceFlushing s)))
  else if a = LDG_DIRTY then BitVec.ofNat 32 (dirtyAll s)
  else if a = LDG_SLICE_DATA then KMap.get (fun _ => (0 : Word)) s.landing.shown (s.get LDG_SLICE_IDX_slice)
  else if a = FAB_STATUS then fabStatus s
  else if a = FAB_REC then recCount s
  else if r.base = FAB_RT_LIVE 0 then liveWord s i
  else if r.base = FAB_NBR 0 then nbrWord s i
  else if r.base = FAB_NBR_AGE 0 then ageWord s i
  else if a = THM_NODE_DATA0 then nodeData0 s
  else if a = THM_NODE_DATA1 then nodeData1 s
  else if a = PWR_LEDGER then BitVec.ofNat 32 (ledgerTotal s)
  else if a = PWR_MODE_STATUS then modeStatusWord s
  else if a = OTP_STATUS then otpStatus s
  else if r.base = OTP_RGN_STATE 0 then otpRegionWord s i
  else if a = OTP_MARG_DATA then margData s
  else if a = OTP_REDIR_DATA then redirData s
  else s.reg a

/-- Registers of events, snapshots, mailboxes and tests. -/
def shownPurser (s : State) (r : RegRow) (i a : Nat) : Word :=
  if a = EVT_STATUS then evtStatus s
  else if r.base = EVT_LOG_W 0 then evtLogWord s i
  else if a = EVT_CNT_DATA then evtCount s
  else if a = SNAP_STATUS then snapStatus s
  else if a = SNAP_RD_DATA then snapWord s (s.get SNAP_RD_IDX_slot) (s.get SNAP_RD_IDX_word)
  else if a = MBX_JOBS then jobsWord s
  else if a = TST_TSV_DATA then tsvData s
  else if a = TST_WAYS_OFF then BitVec.ofNat 32 (disabledWays s (s.get TST_WAYS_IDX_slice))
  else if a = TST_COVER then BitVec.ofNat 32 (s.test.passes % 256 * 2 ^ 24 + s.test.pointer % 2 ^ 14)
  else if a = TST_REPLACE then BitVec.ofNat 32 s.test.seen
  else if a = TST_REC_STATUS then recStatus s
  else if a = TST_LOOP_STATUS then loopStatus s
  else s.reg a

/-- The word the register at an address shows; an address without one shows 0 (R492).  The complement word of a pair and the mask half of
a masked register read 0 (R495, R496). -/
def shown (s : State) (a : Nat) : Word :=
  match rowAt a with
  | none => 0
  | some (r, i) =>
    match r.kind with
    | .complement => 0
    | .masked => (s.reg a) &&& 0xFFFF
    | _ =>
      let b := a / 0x10000
      if b = 0 then shownGlobal s a
      else if b < 4 then shownLane s r i a
      else if b < 6 then shownPort s r i a
      else if b < 0xA then shownMemory s r i a
      else if b < 0x10 then shownServices s r i a
      else shownPurser s r i a

end Sys2Proof.Machine
end

