-- ==== Sys2Proof/Machine/Flags.lean ====
section
/-!
DEFINITION. Machine/Flags.lean: the flags the block shows and what follows from them: counters cleared by software, event aggregation
with its log, notices and ALERT_N (R116, R477 to R482), and snapshots (R484 to R488).
-/
set_option autoImplicit false

namespace Sys2Proof.Machine
open Reg Bit

/-! ### Counters cleared by software (R116) -/

/-- The registers from an address on. -/
def regsFrom (a n : Nat) : List Nat := (List.range n).map fun i => a + 4 * i

/-- Counters at zero. -/
def zeroRegs (l : List Nat) (s : State) : State := forEach l (fun a s => s.setReg a 0) s

/-- The counters that a clear bit clears, by the register that holds it (log entry 46). -/
def clearedBy (a : Nat) : List Nat :=
  match rowAt a with
  | none => []
  | some (r, i) =>
    if r.base = LANE_PRBS_CTRL 0 then regsFrom (LANE_PRBS_BITERR_LO i) 5
    else if r.base = LANE_CTRL 0 then regsFrom (LANE_PREFEC_SYM_LO i) 2
    else if r.base = PORT_STATS_CLR 0 then regsFrom (PORT_CW_LO i) 12 ++ regsFrom (PORT_HIST i 0) 16
    else if r.base = PORT_TOW_CLR 0 then regsFrom (PORT_TOW_FRAMES_OK i) 7
    else if r.base = UZ_CLR 0 then regsFrom (UZ_FLITS_TX_LO i) 10 ++ [UZ_UNEXPECTED i]
    else if a = SVC_CLR then (List.range 16).map SVC_POOL_SKIPS ++ regsFrom SVC_ENQ_DROPS 3
    else if a = TT_CLR then regsFrom TT_OPEN_PAUSES 3 ++ (List.range 64).map TT_FC_LATE ++ (List.range 64).map TT_FC_PANIC
    else if a = HC_ARB_CLR then regsFrom HC_ARB_LATE 3
    else if r.base = HC_CLR 0 then regsFrom (HC_ACT_CNT_LO i) 5
    else if a = ECC_CLR then regsFrom ECC_UE_CNT 3
    else if a = LDG_CLR then regsFrom LDG_HIT_LO 12 ++ regsFrom (LDG_RGN_HIT 0) 32
    else if a = FAB_CLR then regsFrom FAB_FWD_LO 8
    else if a = EVT_CLR then [EVT_LOG_LOST]
    else if a = SNAP_CLR then [SNAP_LOST, SNAP_MERGED]
    else if a = MBX_CLR then [MBX_TIMEOUTS, MBX_I3C_ERRS]
    else []

/-- A clear takes effect, and hardware clears its bit.  With PRBS counters the lock losses are cleared, with port counters those of
PORT_FALL; EVT_LOG_LOST can be raised again (R481). -/
def applyClear (a : Nat) (s : State) : State :=
  let s1 := zeroRegs (clearedBy a) s
  match rowAt a with
  | none => s1
  | some (r, i) =>
    if r.base = LANE_PRBS_CTRL 0 then (s1.put (LANE_PRBS_STATUS_lock_losses i) 0).put (LANE_PRBS_CTRL_clear i) 0
    else if r.base = LANE_CTRL 0 then s1.put (LANE_CTRL_clear_prefec i) 0
    else
      let s2 := s1.setReg a 0
      if r.base = PORT_STATS_CLR 0 then (s2.put (PORT_FALL_falls i) 0).put (PORT_FALL_stepdowns i) 0
      else if a = EVT_CLR then { s2 with events := { s2.events with lostRaised := false } }
      else s2

/-- A clear bit written: it acts at the next boundary. -/
def requestClear (a : Nat) (s : State) : State := { s with clears := insertSorted a s.clears }

/-- Every clear written in the crossing that ended. -/
def applyClears (s : State) : State := forEach s.clears applyClear { s with clears := [] }

/-! ### Snapshots (R484 to R488) -/

/-- Sources of a snapshot, as SNAP_CTRL.src numbers them. -/
def SnapSource.pin : Nat := 0
def SnapSource.go : Nat := 1
def SnapSource.command : Nat := 2
def SnapSource.event : Nat := 3

def Capture.joined (c : Capture) (source event : Nat) : Capture :=
  { c with sources := natSetBit c.sources source, event := if c.event = 0x1FF then event else c.event }

def newCapture (source event : Nat) : Capture :=
  { sources := 2 ^ source, event := event, due := false, slot := 0, words := none }

/-- A trigger of an enabled source: it starts a snapshot, joins the pending one, or makes or joins the held one while the blocks drain
(R485); the device pulls SNAP_N for it (R486). -/
def snapTrigger (source event : Nat) (s : State) : State :=
  if !natBit (s.get SNAP_CTRL_src) source then s
  else
    let s1 := match s.snap.capture with
      | none => { s with snap := { s.snap with capture := some (newCapture source event) } }
      | some c =>
        match c.words with
        | none => { s with snap := { s.snap with capture := some (c.joined source event) } }.addSat SNAP_MERGED 1
        | some _ =>
          match s.snap.heldNext with
          | none => { s with snap := { s.snap with heldNext := some (newCapture source event) } }
          | some h => { s with snap := { s.snap with heldNext := some (h.joined source event) } }.addSat SNAP_MERGED 1
    if source ≠ SnapSource.pin && s.flag SNAP_CTRL_drive then { s1 with pins := { s1.pins with snapDrive := true, snapIgnore := true } } else s1

/-- SNAP_N held low: a trigger while the device does not drive the line itself (R486). -/
def snapPin (s : State) : State := if s.pins.snapIgnore then s else snapTrigger SnapSource.pin 0x1FF s

/-- The driven pulse has ended, and 200 ns have passed (R486). -/
def snapPulseEnd (s : State) : State := { s with pins := { s.pins with snapDrive := false, snapIgnore := false } }

/-- Two readings in one word. -/
def halves (low high : Int) : Word := BitVec.ofNat 32 (ofSigned 16 high * 2 ^ 16 + ofSigned 16 low)

/-- The words of a slot, by index; unlisted words are 0 (R488).  `rails` are the readings in mV of the six rails. -/
def snapWords (s : State) (c : Capture) (seq : Nat) (rails : List Nat) : KMap Word :=
  let eff := fun n => KMap.get (fun _ => (0 : Int)) s.therm.shownEff n
  let rail := fun k => ((rails.getD k 0 : Nat) : Int)
  let head : List (Nat × Word) :=
    [(0, BitVec.ofNat 32 (seq % 65536 * 2 ^ 16 + c.sources % 16)), (1, s.reg CROSS_CNT_LO),
     (2, BitVec.ofNat 32 (s.mode * 2 ^ 24 + s.phase * 2 ^ 16 + (s.reg CROSS_CNT_HI).toNat)), (3, commitStatus s), (4, BitVec.ofNat 32 c.event)]
  let lanes := (List.range 128).flatMap fun l =>
    [(8 + 3 * l, shown s (LANE_STATUS l)), (9 + 3 * l, shown s (LANE_EYE_V1 l)), (10 + 3 * l, shown s (LANE_PREFEC_SYM_LO l))]
  let ports := (List.range 16).flatMap fun p =>
    [(392 + 3 * p, shown s (PORT_STATUS p)), (393 + 3 * p, shown s (PORT_FEC_STATUS p)), (394 + 3 * p, shown s (PORT_CW_UNCORR_LO p))]
  let links := (List.range 16).flatMap fun p =>
    [(440 + 4 * p, shown s (UZ_STATUS p)), (441 + 4 * p, shown s (UZ_CRD_TX0 p)), (442 + 4 * p, shown s (UZ_CRD_TX1 p)), (443 + 4 * p, shown s (UZ_RT p))]
  let pools := (List.range 16).map fun g => (504 + g, shown s (SVC_POOL_FREE g))
  let times := [(520, shown s SVC_ENQ_DROPS), (521, shown s TT_STATUS), (522, shown s TT_SUSPEND_LO), (523, shown s TT_SUSPEND_HI),
    (524, shown s TT_OPEN_PAUSES), (525, shown s TT_BOUND_MISS), (526, shown s TT_ENV_EXCESS)]
  let hcs := (List.range 128).flatMap fun h => [(527 + 2 * h, shown s (HC_STATUS h)), (528 + 2 * h, (s.hc h).shown)]
  let rest := [(783, shown s ECC_CE_CNT_LO), (784, shown s ECC_UE_CNT), (785, shown s ECC_LOG_HEAD), (786, shown s LDG_DIRTY),
    (787, shown s LDG_HIT_LO), (788, shown s LDG_MISS_LO), (789, shown s FAB_STATUS), (790, shown s FAB_REC), (791, shown s THM_STATUS)]
  let nodes := (List.range 44).map fun k => (792 + k, halves (eff (2 * k)) (eff (2 * k + 1)))
  let power := [(836, shown s PWR_LEDGER), (837, shown s PWR_SUPPLY), (838, halves (rail 0) (rail 1)), (839, halves (rail 2) (rail 3)),
    (840, halves (rail 4) (rail 5))]
  let pend := (List.range 12).map fun i => (841 + i, s.reg (EVT_PEND i))
  head ++ lanes ++ ports ++ links ++ pools ++ times ++ hcs ++ rest ++ nodes ++ power ++ pend

/-- At the latch boundary the words are taken and a slot is found: the free slot least recently used; with none free the snapshot is lost,
or it overwrites the oldest (R487, log entry 47). -/
def snapLatch (rails : List Nat) (s : State) : State :=
  match s.snap.capture with
  | none => s
  | some c =>
    if !c.due || c.words.isSome then s
    else
      let free := s.snap.order.find? fun k => (s.snap.slots.find k).isNone
      let s1 := if free.isSome then s else (s.addSat SNAP_LOST 1).cause Cause.SNAP_snap_lost
      match (match free with | some k => some k | none => if s.flag SNAP_CTRL_hold then none else s.snap.order.head?) with
      | none => { s1 with snap := { s1.snap with capture := none } }
      | some k =>
        let seq := (s1.snap.seq + 1) % 65536
        { s1 with snap := { s1.snap with
          seq := seq
          slots := s1.snap.slots.erase k
          capture := some { c with slot := k, words := some (snapWords s c seq rails) } } }

/-- The drain ends: the slot is valid, and a held snapshot is pending (R485, R487). -/
def snapDone (s : State) : State :=
  match s.snap.capture with
  | none => s
  | some c =>
    match c.words with
    | none => s
    | some w =>
      let s1 := { s with snap := { s.snap with
        slots := s.snap.slots.ins c.slot w
        order := s.snap.order.erase c.slot ++ [c.slot]
        capture := s.snap.heldNext
        heldNext := none } }
      ((s1.put SNAP_STATUS_newest c.slot).put SNAP_STATUS_seq s.snap.seq).cause Cause.SNAP_snap_done

/-- Slots freed by the host. -/
def snapAck (mask : Nat) (s : State) : State :=
  { s with snap := { s.snap with slots := s.snap.slots.filter fun p => !natBit mask p.1 } }

/-- A pending snapshot latches at this boundary. -/
def snapBoundary (s : State) : State :=
  { s with snap := { s.snap with capture := s.snap.capture.map fun c => { c with due := true } } }

/-! ### Aggregation (R477 to R482) -/

/-- The record of an event (R479). -/
def eventRecord (e count cross info : Nat) : Nat :=
  e % 512 * 2 ^ 119 + (if 0xFFFF ≤ count then 2 ^ 118 else 0) + min 0xFFFF count * 2 ^ 96 + cross % 2 ^ 48 * 2 ^ 48 + info % 2 ^ 48

/-- A record written into the ring; a full ring loses its oldest (R481). -/
def logAppend (rec : Nat) (s : State) : State :=
  let at_ := s.get EVT_LOG_HEAD_index
  let s1 := { s with events := { s.events with log := s.events.log.ins at_ (BitVec.ofNat 128 rec) } }.put EVT_LOG_HEAD_index (at_ + 1)
  if s.events.held < 4096 then { s1 with events := { s1.events with held := s1.events.held + 1 } }
  else
    let s2 := (s1.put EVT_LOG_TAIL_index (s.get EVT_LOG_TAIL_index + 1)).addSat EVT_LOG_LOST 1
    if s2.events.lostRaised then s2 else { s2 with events := { s2.events with lostRaised := true } }.cause Cause.MBX_evt_log_lost

/-- A write to EVT_LOG_TAIL, as a forward move (R481). -/
def evtTailWrite (v : Nat) (s : State) : State :=
  let tail := s.get EVT_LOG_TAIL_index
  let d := min ((v % 4096 + 4096 - tail) % 4096) s.events.held
  { s with events := { s.events with held := s.events.held - d } }.put EVT_LOG_TAIL_index (tail + d)

/-- A read of EVT_LOG_W0 latches the record's other words. -/
def evtLogLatch (s : State) : State :=
  { s with events := { s.events with latched := logRecord s (s.get EVT_LOG_IDX_index) % 2 ^ 96 } }

/-- Pending bit, count and record of an event. -/
def aggregateOne (cross e : Nat) (r : Raised) (s : State) : State :=
  let s1 := s.put ⟨EVT_PEND (e / 32), e % 32, e % 32⟩ 1
  let n := satAdd 0xFFFFFFFF (KMap.get (fun _ => 0) s.events.counts e) r.count
  logAppend (eventRecord e r.count cross r.info) { s1 with events := { s1.events with counts := KMap.put (fun _ => 0) s1.events.counts e n } }

/-- Records sent as notices, one to four in each (R482). -/
def sendEvents (cross : Nat) (l : List (Nat × Raised)) (s : State) : State :=
  let recs := (l.filter fun p => natBit (s.reg (EVT_NTF_EN (p.1 / 32))).toNat (p.1 % 32)).map fun p =>
    bytesBE 16 (eventRecord p.1 p.2.count cross p.2.info)
  forEach ((List.range 16).filter fun p => natBit (s.get EVT_CTRL_ntf_ports) p) (fun p s =>
    forEach (List.range ((recs.length + 3) / 4)) (fun k s => pushNotice p 0x30 ((recs.drop (4 * k)).take 4).flatten s) s) s

/-- ALERT_N follows the pending and enabled bits (R478). -/
def showAlert (s : State) : State := s.putFlag EVT_STATUS_alert (firstPending s != 0x1FF)

/-- The events of the crossing that ended, raised at a crossing count. -/
def aggregate (cross : Nat) (s : State) : State :=
  let l := s.events.raised.filter fun p => decide (0 < p.2.count)
  let s1 := forEach l (fun p s => aggregateOne cross p.1 p.2 s) { s with events := { s.events with raised := [] } }
  let s2 := showAlert (sendEvents cross l s1)
  forEach (List.range 4) (fun k s =>
    if s.flag (SNAP_TRIG_enable k) && l.any (fun p => p.1 == s.get (SNAP_TRIG_event k)) then
      snapTrigger SnapSource.event (s.get (SNAP_TRIG_event k)) s
    else s) s2

end Sys2Proof.Machine
end

