-- ==== Sys2Proof/Machine/Boundary.lean ====
section
/-!
DEFINITION. Machine/Boundary.lean: the crossing boundary, the replacement request, and the commits that take effect at a boundary
(01_architecture R8 to R25 and R549, 19_test_and_repair R540).
-/
set_option autoImplicit false

namespace Sys2Proof.Machine
open Reg Bit

/-! ### The replacement request (R540, R541) -/

/-- Sensors marked broken. -/
def brokenCount (s : State) : Nat := s.therm.broken.length

/-- The causes of R540 that State shows, by bit; the others are marked where they are found. -/
def replaceCauses (s : State) : List (Nat × Bool) :=
  [(1, decide (otpSpares s ≤ 2) || decide (56 ≤ s.otp.passes)),
   (2, halfChannels.any fun h => dqSpent s h || (h % 2 == 0 && caSpent s h)),
   (4, decide (16 ≤ halfChannels.foldl (fun n h => n + (32 - popCount 32 (s.reg (HC_BANKS h)).toNat)) 0) ||
       halfChannels.any fun h => s.flag (HC_STATUS_short h)),
   (5, decide (3072 ≤ (s.ledger.filter fun e => e.kind == .rowRetired).length)),
   (6, (List.range 32).any fun k => decide (4 < popCount 16 (disabledWays s k))),
   (7, decide (4 ≤ brokenCount s) || (List.range 16).any fun d => [0, 1, 2, 3].all fun i => sensorBroken s (24 + 4 * d + i)),
   (9, decide (8 ≤ s.test.queueRows) || decide (8 ≤ s.test.imageRows))]

/-- The causes are evaluated: a cause seen stays, and the flag's rise raises REPLACE. -/
def replaceEval (s : State) : State :=
  let s1 := forEach (replaceCauses s) (fun c s => if c.2 then replaceSeen c.1 s else s) s
  if s1.test.seen ≠ 0 && !s1.flag TST_STATUS_replace then (s1.put TST_STATUS_replace 1).cause Cause.TST_replace else s1

/-! ### Hardware commits (R21 to R25) -/

/-- STORM is left at the boundary of its hardware commit, unless a demand stands again by then: STORM is used while any source asks for it
(R23, R300). -/
def stormExitNow (s : State) : State := if stormMayLeave s.ticks s then stormLeave s else s

/-- One change that a hardware commit makes. -/
def hwApply (c : HwChange) (s : State) : State :=
  match c with
  | .shed => shedNext s
  | .shedUndo => shedUndo s
  | .level n => applyLevel n s
  | .stormEnter => stormEnter s
  | .stormExit => stormExitNow s
  | .retireBank h b => retireBankNow h b s
  | .imageSwap => maintenanceCommit true s
  | .maintenance => maintenanceCommit false s

/-- The changes due at the boundary just passed apply, judged together with the demands they raise (R23); a host commit that targets the
same boundary is preempted (R19). -/
def hardwareCommit (s : State) : State :=
  if s.commit.hwDue.isEmpty then s
  else
    let target := s.commit.armed.any fun n => s.ahead n == 0
    let due := s.commit.hwDue
    let s1 := { s with commit := { s.commit with hwDue := [] } }
    let s2 := if target then commitWithdraw CommitCause.preempted 15 s1 else s1
    let exits := fun c : HwChange => c == .stormExit
    let s3 := stormBoundary (forEach (due.filter (fun c => !exits c) ++ due.filter exits) hwApply s2)
    let s4 := if s3.commit.hw.contains .stormEnter then
        stormEnter { s3 with commit := { s3.commit with hw := s3.commit.hw.filter fun c => c != .stormEnter } }
      else s3
    replaceEval (showMode s4)

/-- No demand stands and the dwell on STORM is over by the next boundary: leaving STORM is decided, for the hardware commit of that
boundary (R21, R300). -/
def stormExit (s : State) : State :=
  if stormMayLeave (s.ticks + 1) s && !s.commit.hw.contains .stormExit then { s with commit := { s.commit with hw := s.commit.hw ++ [.stormExit] } }
  else s

/-! ### Host commits (R16 to R20) -/

/-- The staged word differs from the live one. -/
def changed (s : State) (a : Nat) : Bool := nextWord s a != s.reg a

def anyChanged (s : State) (l : List Nat) : Bool := l.any (changed s)

/-- The registers of a pool's rotation. -/
def rotationRegs (g : Nat) : List Nat := (List.range 4).map (SVC_POOL_ROT g)

def mapRegs (m : Nat) : List Nat := (List.range 12).map fun k => if m = 0 then HC_MAP0_SEL k else HC_MAP1_SEL k

/-- A bit field of a staged register changes. -/
def fieldChanged (s : State) (f : Field) : Bool := nextField s f != s.get f

/-- The registers of a profile (R252). -/
def profileRegs (k : Nat) : List Nat := [SVC_PROF_CFG k, SVC_PROF_LIMIT k, SVC_PROF_WMHI k, SVC_PROF_WMLO k]

/-- Pools that a profile with a staged change names, before or after it. -/
def profilePools (s : State) : List Nat :=
  (List.range 32).flatMap fun k =>
    if anyChanged s (profileRegs k) then [profPool s k, (nextWord s (SVC_PROF_CFG k)).bits 19 16] else []

/-- A staged change of a pool's place, map, check mode, enable, rotation or profiles. -/
def poolChanges (s : State) (g : Nat) : Bool :=
  changed s (SVC_RGN_PLACE g) || fieldChanged s (SVC_RGN_ATTR_map g) || fieldChanged s (SVC_RGN_ATTR_ecc g) ||
    fieldChanged s (SVC_RGN_ATTR_enable g) || anyChanged s (rotationRegs g) || (profilePools s).contains g

/-- The addresses from `lo` up to `hi` lie in a live region and the staged descriptor would no longer cover them all (R549's table, unit 2). -/
def rangeRemoved (s : State) (g lo hi : Nat) : Bool :=
  let base := rgnBase s g
  let base' := nextField s (SVC_RGN_PLACE_base g) * 2 ^ 26
  let size' := nextField s (SVC_RGN_PLACE_size g) * 2 ^ 26
  let from_ := max lo base
  let to_ := min hi (base + rgnSize s g)
  rgnLive s g && decide (from_ < to_) &&
    (nextField s (SVC_RGN_ATTR_enable g) == 0 || !decide (base' ≤ from_ ∧ to_ ≤ base' + size'))

/-- The addresses a memory operation works on: those its header names, or for a queue operation the whole of its pool (log entry 10). -/
def txnRange (s : State) (t : Txn) (g : Nat) : Nat × Nat :=
  if queueOp t.hdr.opcode then (rgnBase s g, rgnBase s g + rgnSize s g) else (t.hdr.addr, t.hdr.addr + max 1 (max t.hdr.len t.hdr.rlen))

/-- A memory operation in flight works on addresses that a staged descriptor of its region removes: one that has been delivered here and has
not reached its completion point. -/
def removesInFlight (s : State) (g : Nat) : Bool :=
  (List.range 16).any fun p => (s.link p).table.any fun e =>
    !e.done && e.record.isNone && memoryOp e.txn.hdr.opcode && (targetRegion s e.txn == some g) &&
      rangeRemoved s g (txnRange s e.txn g).1 (txnRange s e.txn g).2

/-- The mode of the region under a half-channel's scrub changes (R364). -/
def scrubMeets (s : State) (g : Nat) : Bool :=
  s.flag (SVC_RGN_ATTR_enable g) && fieldChanged s (SVC_RGN_ATTR_ecc g) &&
    halfChannels.any fun h => rgnHas s g (addrOfPlace s (scrubPlace h (s.hc h).scrubAt))

/-- A swap of images is staged. -/
def swapStaged (s : State) : Bool := (nextWord s TT_CTRL).bits 0 0 == 1

/-- The power ledger would be exceeded after the switch (R451, R549). -/
def overCeiling (s : State) : Bool :=
  let price := if swapStaged s then (s.reg TT_PRICE_STANDBY).toNat else livePrice s
  decide (nextField s PWR_CEILING_mw <
    price + (s.get LANE_LEDGER_USED_mw + s.granted) + s.get PWR_BASE_ALLOW_mw) || overStaged s

/-- A half-channel is in training. -/
def trains (s : State) : Bool :=
  halfChannels.any fun h => s.get (HC_STATUS_state h) == HcState.training || s.get (HC_STATUS_state h) == HcState.retrain

/-- What each unit asks for before it is ready (R549).  Units 0 and 1 are always ready: no field table names a staged lane mode or a staged
field of a link (the model's choice, log entry 7). -/
def refusals (s : State) : List (Nat × Bool) :=
  [(2, (List.range 16).any (removesInFlight s)),
   (3, (List.range 16).any fun g => (s.pool g).rebuilding && poolChanges s g),
   (4, swapStaged s && (!slotFull s.tt.standby || (s.tt.load == some false) || s.phase != 47 || s.tt.stormAt.isSome)),
   (5, anyChanged s (mapRegs 0 ++ mapRegs 1) && trains s),
   (6, (List.range 16).any fun g => scrubMeets s g),
   (7, (anyChanged s (LDG_PIN_WAYS :: (List.range 64).map TT_FC_WAYS) || (List.range 16).any fun g => fieldChanged s (SVC_RGN_ATTR_landing g)) &&
       (List.range 32).any (sliceFlushing s)),
   (8, anyChanged s ((List.range 64).map FAB_RT) && (List.range 16).any fun p => (s.fabPort p).due),
   (10, overCeiling s),
   (12, s.snap.capture.isSome)]

/-- The units that refuse, as a mask; nothing staged, no unit refuses. -/
def refusers (s : State) : Nat :=
  if s.staged.isEmpty then 0 else (refusals s).foldl (fun m r => if r.2 then natSetBit m r.1 else m) 0

/-- PREPARE, two crossings before the target. -/
def prepare (s : State) : State :=
  match s.commit.armed with
  | some n => if s.ahead n = 2 then { s with commit := { s.commit with preparing := true } } else s
  | none => s

/-- The ready votes, in the crossing before the target.  Unit 10 counts the grants of that crossing (R127). -/
def readySample (s : State) : State :=
  match s.commit.armed with
  | some n => if s.ahead n = 1 then { s with commit := { s.commit with preparing := true, vote := some (refusers (ledgerDecide s)) } } else s
  | none => s

/-- What a region's switch asks for, judged by the words before and after it. -/
structure RegionChange where
  region : Nat
  /-- the descriptor or the rotation changed -/
  any : Bool
  /-- base, size, map or enable changed -/
  place : Bool
  /-- base, size, map, init or enable changed, or the map's masks under a VALIDBIT region -/
  fill : Bool
  /-- the pool is to be rebuilt -/
  pool : Bool
  /-- the policy goes from allocate or pinned to bypass -/
  flush : Bool
  deriving DecidableEq, Repr

/-- The changes a switch brings a region, before it is made. -/
def regionChange (s : State) (g : Nat) : RegionChange :=
  let attr := nextWord s (SVC_RGN_ATTR g)
  let place := changed s (SVC_RGN_PLACE g) || fieldChanged s (SVC_RGN_ATTR_map g) || fieldChanged s (SVC_RGN_ATTR_enable g)
  let masks := anyChanged s (mapRegs (attr.bits 4 4))
  let kept := fun l : Nat => l == 1 || l == 2
  { region := g
    any := anyChanged s (descriptorRegs g ++ rotationRegs g)
    place := place
    fill := place || fieldChanged s (SVC_RGN_ATTR_init g)
    pool := poolChanges s g || masks
    flush := kept (s.get (SVC_RGN_ATTR_landing g)) && !kept (attr.bits 9 8) }

/-- A region after the switch: judged, its lines lost or flushed, filled, and its pool rebuilt (R234, R249, R328, R365, R366, R387). -/
def regionSwitched (c : RegionChange) (maskChange : Nat → Bool) (s : State) : State :=
  let g := c.region
  let s1 := if c.any then judgeRegion g s else s
  let s2 := if c.any && !s1.svc.fills.contains g then s1.putFlag (SVC_RGN_STATUS_live g) (rgnGood s1 g) else s1
  let s3 := if c.place && s2.flag (SVC_RGN_ATTR_enable g) then regionEpoch g s2 else s2
  let s4 := if c.flush then policyFlush g s3 else s3
  let mapClear := maskChange (rgnMap s4 g) && rgnValidBit s4 g
  let s5 := if rgnGood s4 g && (c.fill || mapClear) then queueFill g s4 else s4
  if rgnGood s5 g && rgnType s5 g == 1 && c.pool then rebuildStart g s5 else s5

/-- Waiting requests go to the half-channel that the new map gives their parcel, as dynamic ones (R328). -/
def relocate (s : State) : State :=
  let here := fun h (a : Access) => (placeOfAccess s a).hc == h
  let gone := halfChannels.flatMap fun h => ((s.hc h).intake ++ (s.hc h).waiting ++ (s.hc h).queue).filter fun a => !here h a
  let s1 := forEach halfChannels (fun h s => s.modHc h fun x => { x with
    intake := x.intake.filter (here h), waiting := x.waiting.filter (here h), queue := x.queue.filter (here h) }) s
  forEach gone (fun a s => s.modHc (placeOfAccess s a).hc fun x => { x with intake := x.intake ++ [{ a with conf := false }] }) s1

/-- The live node ID after a change of FAB_NODE_CFG (R390). -/
def nodeFollows (s : State) : State :=
  let id := if s.get FAB_NODE_CFG_mode = 1 then s.get FAB_NODE_CFG_id else s.get FAB_NODE_strap
  let s1 := s.put FAB_NODE_src (s.get FAB_NODE_CFG_mode)
  if s.get FAB_NODE_id = id then s1 else nodeChanged (s1.put FAB_NODE_id id)

/-- Every staged value goes live at once, with what the units do at the switch (R13, R17). -/
def switchAll (s : State) : State :=
  let swap := swapStaged s
  let maskChange := fun m => anyChanged s (mapRegs m)
  let policy := fieldChanged s HC_ARB_CTRL_policy
  let changes := (List.range 16).map (regionChange s)
  let words := s.staged.map fun p => (p.1, nextWord s p.1)
  let s1 := (forEach words (fun p s => s.setReg p.1 p.2) { s with staged := [] }).put TT_CTRL_swap 0
  let s2 := if swap then imageSwap s1 else s1
  let s3 := forEach changes (fun c s => regionSwitched c maskChange s) s2
  let s4 := if maskChange 0 || maskChange 1 then relocate s3 else s3
  nodeFollows (if policy then policyChanged s4 else s4)

/-- The commit at its boundary: all of it, or nothing (R17, R18, R20). -/
def commitSwitch (s0 : State) : State :=
  match s0.commit.armed with
  | none => s0
  | some n =>
    if s0.ahead n ≠ 0 then s0
    else
      let s := hardwareCommit s0
      if s.commit.armed.isNone then s
      else
        let refused := s.commit.vote.getD (refusers s)
        let s1 := disarm s
        if refused ≠ 0 then
          commitAbort CommitCause.notReady (((List.range 13).find? (natBit refused)).getD 15) (s1.put GLB_COMMIT_REFUSERS_refusers refused)
        else
          let s2 := switchAll s1
          let s3 := (s2.setReg GLB_COMMIT_LAST_LO (BitVec.ofNat 32 n)).setReg GLB_COMMIT_LAST_HI (BitVec.ofNat 32 (n / 2 ^ 32 % 2 ^ 16))
          let s4 := (s3.put GLB_COMMIT_STATUS_cause CommitCause.switched).put GLB_COMMIT_STATUS_first_refuser 15
          { s4 with commit := { s4.commit with suspendLeft := 1024 } }.raiseEvent 251 0

/-! ### The boundary (R8, R10) -/

/-- What the crossing that ends has still to do at its own boundary: commands for it that did not come, and the lane ledger's decisions (R122). -/
def settle (s : State) : State :=
  let s1 := commitSwitch (hardwareCommit s)
  let s2 := match s1.commit.armed with
    | some n =>
      if s1.ahead n = 2 then prepare s1
      else if s1.ahead n = 1 && s1.commit.vote.isNone then readySample s1
      else s1
    | none => s1
  ledgerDecide s2

/-- The crossing count and the period phase advance by one (R5, R8). -/
def advance (s : State) : State :=
  (s.setCross ((s.cross + 1) % Config.crossWrap)).put GLB_PERIOD_PHASE_phase ((s.phase + 1) % Config.period)

/-- Hardware changes decided in the crossing that ended are due now; an image swap waits for a period boundary (R21, R439). -/
def hwTake (s : State) : State :=
  let waits := fun c : HwChange => c == .imageSwap && s.phase != 0
  { s with commit := { s.commit with
    hw := s.commit.hw.filter waits
    hwDue := s.commit.hwDue ++ s.commit.hw.filter fun c => !waits c } }

/-- The judgement of storm demands where no hardware change is due: STORM entered at this boundary joins the due ones. -/
def judgeDemands (s : State) : State := if s.commit.hwDue.isEmpty then hwTake (stormBoundary s) else s

/-- Outstanding counts, slice words and free lists as the registers show them until the next boundary. -/
def showCounts (s : State) : State :=
  let outs := (List.range 16).flatMap fun p =>
    let l := (s.link p).table
    if l.isEmpty then [] else classes.filterMap fun c => let n := outstanding s p c s.nextUid; if n = 0 then none else some (64 * p + c, n)
  let words := (List.range 32).filterMap fun k => let w := sliceWord s k; if w = 0 then none else some (k, w)
  showLists { s with svc := { s.svc with outShown := outs }, landing := { s.landing with shown := words } }

/-- What becomes visible at a boundary of what the crossing before raised (R10, R116, R122). -/
def settleBlocks (s : State) : State :=
  let s1 := applyClears { s with late := [], svc := { s.svc with once := [], exhausted := [] } }
  let s2 := showCounts (sendRecords s1)
  let s3 := forEach (List.range 16) (fun p s => portBoundary p (linkBoundary p s)) s2
  let s4 := forEach (List.range 128) (fun l s => towLaneBoundary l (laneBoundary l s)) s3
  let s5 := forEach s4.chargeDue recharge s4
  let s6 := reledger { s5 with chargeDue := [], granted := 0 }
  let s7 := forEach halfChannels (fun h s => fieldRetrain h (repairAdvance h (hcBoundary h s))) (readMw13All s6)
  retireRowsNow s7

/-- What a period boundary brings (R294, R304). -/
def periodBoundary (s : State) : State := if s.phase = 0 then rateBoundary { s with tt := { s.tt with paused := false } } else s

/-- Modes at a boundary: steps without an event of their own, the wake latch, and held ports after IDLE. -/
def modeBoundary (s : State) : State :=
  let s1 := latchBoundary (modesBoundary s)
  if s1.mode = Mode.idle then s1 else forEach (List.range 16) releaseHeld s1

/-- The remaining crossings of the suspended comparison (R20). -/
def suspendTick (s : State) : State := { s with commit := { s.commit with suspendLeft := s.commit.suspendLeft - 1 } }

/-- REC_PENDING, once per START (R539). -/
def recPending (s : State) : State :=
  if s.start.phase = .ended && !s.test.recRaised && !(pendingF4 s ++ pendingF5 s).isEmpty && !s.flag OTP_STATUS_vqps then
    { s with test := { s.test with recRaised := true } }.cause Cause.TST_rec_pending
  else s

/-- A crossing boundary.  While an anchor sequence runs, the count goes on and events are aggregated (R5, R76).  Without the command
clock only the model's own count of crossings advances, and what the last crossing raised is aggregated (log entry 4). -/
def boundary (s0 : State) : State :=
  let s := settle s0
  let live := match s.start.phase with | .running | .ended | .anchoring => true | _ => false
  let prev := s.cross
  let s1 := { s with ticks := s.ticks + 1 }
  if !live then s1
  else
    let s2 := snapBoundary s1
    let s3 := aggregate prev s2
    if s3.start.phase = .anchoring then advance s3
    else if !clockRuns s3 then supplyBoundary s3
    else
      let s4 := judgeDemands (supplyBoundary (hwTake (advance s3)))
      recPending (replaceEval (suspendTick (modeBoundary (periodBoundary (settleBlocks (drainFlush s4))))))

end Sys2Proof.Machine
end

