-- ==== Sys2Proof/Machine/Registers.lean ====
section
/-!
DEFINITION. Machine/Registers.lean: reads and writes of configuration space by their sources, locks, paired writes and the configuration
check (18_registers_and_otp R490 to R504, 04_lanes R92 and R124, 16_modes R435 and R451).
-/
set_option autoImplicit false

namespace Sys2Proof.Machine
open Reg Bit

/-- Sources of an access (R491). -/
def Src.mailbox (m : Nat) : Nat := 0x10 + m
def Src.jtag : Nat := 0x18
def Src.purser : Nat := 0x1F

/-! ### Reads (R492, R493, R495, R497) -/

/-- The _LO word of a pair with shadows. -/
def isLow (r : RegRow) (a : Nat) : Bool := r.sh && (a == GLB_COMMIT_LAST_LO || (a % 8 == 0 && a != GLB_COMMIT_LAST_HI))

/-- The word that a read by a source returns. -/
def readWord (src a : Nat) (s : State) : Word :=
  match rowAt a with
  | none => 0
  | some (r, _) => if r.sh && !isLow r a then (s.shadows.find (32 * a + src)).getD (resetAt a) else shown s a

/-- What a read changes: RC fields are cleared, a _LO word latches its _HI word, an index advances, a record is latched. -/
def readEffect (src a : Nat) (s : State) : State :=
  match rowAt a with
  | none => s
  | some (r, _) =>
    let s1 := if r.rc = 0 then s else s.setReg a (s.reg a &&& ~~~(BitVec.ofNat 32 r.rc))
    let s2 := if isLow r a then { s1 with shadows := s1.shadows.ins (32 * (a + 4) + src) (shown s (a + 4)) } else s1
    if a = EVT_LOG_W 0 then evtLogLatch s2
    else if a = SNAP_RD_DATA then s2.put SNAP_RD_IDX_word (s2.get SNAP_RD_IDX_word + 1)
    else s2

/-- A read of configuration space; logic in reset answers nothing. -/
def cfgRead (src a : Nat) (s : State) : Word × State := if s.up then (readWord src a s, readEffect src a s) else (0, s)

/-! ### Fields by their types (R493, R494) -/

/-- A word with the RW bits of a row taken from the value, and the W1S bits that the value sets. -/
def plainWord (r : RegRow) (old v : Word) : Word :=
  let m : Word := BitVec.ofNat 32 r.rw
  ((old &&& ~~~m) ||| (v &&& m)) ||| (v &&& BitVec.ofNat 32 r.w1s)

/-- A register that only stores. -/
def plainWrite (r : RegRow) (a : Nat) (v : Word) (s : State) : State := s.setReg a (plainWord r (s.reg a) v)

/-! ### Writes with effects of their own -/

/-- GLB_COMMIT_CTRL: cancel, then discard, then arm (log entry 48). -/
def commitCtrlWrite (v : Word) (s : State) : State :=
  let s1 := if v.bits 1 1 = 1 then commitCancel s else s
  let s2 := if v.bits 2 2 = 1 then commitDiscard s1 else s1
  if v.bits 0 0 = 1 then commitArm s2 else s2

/-- PWR_MODE_REQ: its fields, and with go a request of the host (R435). -/
def modeReqWrite (r : RegRow) (v : Word) (s : State) : State :=
  let s1 := (plainWrite r PWR_MODE_REQ v s).put PWR_MODE_REQ_go 0
  if v.bits 31 31 = 1 then (modeRequest true (modeReqOf (v.bits 19 16) v) s1).2 else s1

/-- SVC_QIND_CTRL: READ or SET_PROFILE with go (R251, R252). -/
def qindWrite (r : RegRow) (v : Word) (s : State) : State :=
  let s1 := (plainWrite r SVC_QIND_CTRL v s).put SVC_QIND_CTRL_go 0
  if v.bits 31 31 = 0 then s1
  else if v.bits 25 24 = 1 then setProfile (v.bits 17 0) (v.bits 22 18) s1
  else qindRead (v.bits 17 0) s1

/-- LDG_OP_CTRL: an operation with go (R386). -/
def ldgWrite (v : Word) (s : State) : State :=
  let go := s.get LDG_OP_CTRL_go
  let s1 := s.setReg LDG_OP_CTRL ((v &&& 0xFB).withBits 31 31 go)
  if v.bits 31 31 = 1 then ldgStart (v.bits 1 0) (v.bits 7 4) (v.bits 3 3 == 1) s1 else s1

/-- TT_LOAD_CTRL: a load with go (R297). -/
def loadWrite (v : Word) (s : State) : State :=
  let s1 := s.put TT_LOAD_CTRL_target (v.bits 1 1)
  if v.bits 0 0 = 1 then loadStart (v.bits 1 1 == 1) s1 else s1

/-- HC_MAP_CTRL: a check with go (R326). -/
def mapWrite (v : Word) (s : State) : State :=
  if v.bits 0 0 = 1 then mapCheck (v.bits 1 1 == 1) s else s.put HC_MAP_CTRL_target (v.bits 1 1)

/-- ECC_RETIRE_CTRL.go: the row or bank of ECC_RETIRE_ADDR (R371). -/
def retireGo (s : State) : State :=
  retireRequest (s.flag ECC_RETIRE_ADDR_kind)
    ⟨s.get ECC_RETIRE_ADDR_hc, s.get ECC_RETIRE_ADDR_bank, if s.flag ECC_RETIRE_ADDR_kind then 0 else s.get ECC_RETIRE_ADDR_row, 0⟩
    (s.put ECC_RETIRE_CTRL_go 1)

/-- SNAP_CTRL: its fields, and with go a trigger (R484). -/
def snapWrite (r : RegRow) (v : Word) (s : State) : State :=
  let s1 := (plainWrite r SNAP_CTRL v s).put SNAP_CTRL_go 0
  if v.bits 0 0 = 1 then snapTrigger SnapSource.go 0x1FF s1 else s1

/-- PORT_TOW_CTRL: with code_lock_en cleared, code lock is released (R172). -/
def towCtrlWrite (r : RegRow) (p : Nat) (v : Word) (s : State) : State :=
  let s1 := plainWrite r (PORT_TOW_CTRL p) v s
  if s1.flag (PORT_TOW_CTRL_code_lock_en p) then s1 else codeUnlock p s1

/-- UZ_CTRL: a new group holds from the next boundary (R232). -/
def uzCtrlWrite (r : RegRow) (p : Nat) (v : Word) (s : State) : State :=
  let old := groupOf s p
  (plainWrite r (UZ_CTRL p) v s).modLink p fun x => { x with oldGroup := some old }

/-- A register whose new word is in force from the next boundary. -/
def lateWrite (r : RegRow) (a : Nat) (v : Word) (s : State) : State :=
  let old := (s.late.find a).getD (s.reg a)
  { plainWrite r a v s with late := s.late.ins a old }

/-- The host writes the descriptor of a region that lost dirty lines: GLB_MEM_STATE.preserved is cleared at the write (R83, log entry 54). -/
def staleRewritten (a : Nat) (s : State) : State :=
  let g := (a - SVC_RGN_PLACE 0) / 0x20
  if SVC_RGN_PLACE 0 ≤ a && decide (g < 16) && decide ((a - SVC_RGN_PLACE 0) % 0x20 < 0x10) && natBit (s.get GLB_MEM_STATE_stale) g then
    s.put GLB_MEM_STATE_preserved 0
  else s

/-- A staged write out of range is discarded and marked; the next valid one clears the mark (R124, R451). -/
def rangedStage (a : Nat) (v : Word) (s : State) : State :=
  if a = LANE_LEDGER_ALLOW then
    (if allowInRange v then stageWord a v (s.put LANE_LEDGER_STATUS_bad_write 0) else s.put LANE_LEDGER_STATUS_bad_write 1)
  else if a = PWR_CEILING then
    (if 90000 ≤ v.bits 17 0 ∧ v.bits 17 0 ≤ 150000 then stageWord a v (s.put PWR_SUPPLY_bad_write 0) else s.put PWR_SUPPLY_bad_write 1)
  else stageWord a v (staleRewritten a s)

/-- ALERT_N falls with an enable bit of a pending event; it rises at a boundary only (R478). -/
def alertRise (s : State) : State := if firstPending s = 0x1FF then s else s.put EVT_STATUS_alert 1

/-- The clear registers of R116 that hold a clear bit alone. -/
def isClear (r : RegRow) (a : Nat) : Bool :=
  [PORT_STATS_CLR 0, PORT_TOW_CLR 0, UZ_CLR 0, HC_CLR 0].contains r.base ||
    [SVC_CLR, TT_CLR, HC_ARB_CLR, ECC_CLR, LDG_CLR, FAB_CLR, EVT_CLR, SNAP_CLR, MBX_CLR].contains a

/-- The live part of a write, in the half of the map below the half-channels. -/
def writeLow (r : RegRow) (i a : Nat) (v : Word) (s : State) : State :=
  if a = GLB_COMMIT_CTRL then commitCtrlWrite v s
  else if r.base = PORT_TOW_CTRL 0 then towCtrlWrite r i v s
  else if r.base = PORT_TOW_WAKE 0 then wakeWrite i v s
  else if r.base = UZ_CTRL 0 then uzCtrlWrite r i v s
  else if a = SVC_QIND_CTRL then qindWrite r v s
  else if a = TT_LOAD_CTRL then loadWrite v s
  else match (if a / 0x10000 = 1 && decide (a < 0x18000) then laneWrite i a v s else if a / 0x10000 = 4 then portWrite i a v s else none) with
    | some t => t
    | none => plainWrite r a v s

/-- The live part of a write, in the half of the map from the half-channels on. -/
def writeHigh (r : RegRow) (i a : Nat) (v : Word) (s : State) : State :=
  if r.base = HC_CTRL 0 then hcCtrlWrite i v s
  else if r.base = HC_REPAIR_CTRL 0 then hcRepairWrite i v s
  else if a = HC_ARB_PANIC then lateWrite r a v s
  else if a = HC_MAP_CTRL then mapWrite v s
  else if a = ECC_RETIRE_CTRL then (if v.bits 0 0 = 1 then retireGo s else s)
  else if a = ECC_LOG_TAIL then eccTailWrite v.toNat s
  else if a = LDG_OP_CTRL then ldgWrite v s
  else if r.base = FAB_PORT_CTRL 0 then (if v.bits 2 2 = 1 then restoreWrite i s else s)
  else if a = THM_SINK then thmSinkWrite v s
  else if a = PWR_MODE_REQ then modeReqWrite r v s
  else if r.base = EVT_ALERT_EN 0 then alertRise (plainWrite r a v s)
  else if a = EVT_LOG_TAIL then evtTailWrite v.toNat s
  else if a = SNAP_CTRL then snapWrite r v s
  else if a = SNAP_ACK then snapAck (v.bits 3 0) s
  else plainWrite r a v s

/-- The live part of a write by what its register does. -/
def liveWrite (r : RegRow) (i a : Nat) (v : Word) (s : State) : State :=
  if isClear r a then (if v.bits 0 0 = 1 then requestClear a (s.setReg a 1) else s)
  else if a < 0x80000 then writeLow r i a v s
  else writeHigh r i a v s

/-! ### Paired writes (R496) -/

/-- Reasons of GLB_PAIR_FAIL. -/
def PairFault.window : Nat := 1
def PairFault.notComplement : Nat := 2
def PairFault.otherSource : Nat := 3
def PairFault.nothing : Nat := 4
def PairFault.replaced : Nat := 5

/-- PAIR_FAIL raised and recorded. -/
def pairFail (a src reason : Nat) (s : State) : State :=
  let w := src % 32 * 2 ^ 27 + reason * 2 ^ 24 + a % 2 ^ 24
  (s.setReg GLB_PAIR_FAIL (BitVec.ofNat 32 w)).raiseEvent 341 0

/-- The first word of a pair. -/
def pairFirst (a src : Nat) (v : Word) (s : State) : State :=
  let s1 := if (s.pairs.find a).isSome then pairFail a src PairFault.replaced s else s
  { s1 with pairs := s1.pairs.ins a ⟨v, src⟩ }

/-- The access came in band: a CFG_WR, or a command of a mailbox whose owner is in-band (R81). -/
def inBandSource (s : State) (src : Nat) : Bool :=
  decide (src < 16) || (decide (Src.mailbox 0 ≤ src ∧ src < Src.jtag) && s.get (MBX_STATUS_owner (src - 16)) == 1)

/-- A port-only reset requested: one asked for in band waits to begin (R81). -/
def portResetRequest (p : Nat) (inBand : Bool) (s : State) : State :=
  if inBand then s.modStart fun x => { x with portResets := insertSorted p x.portResets } else portOnlyReset p s

/-- What GLB_RESET_CTRL does when it takes a value (R79 to R84). -/
def resetCtrl (src : Nat) (s : State) : State :=
  let kind := s.get GLB_RESET_CTRL_kind
  if kind = 1 ∨ kind = 2 then resetRequest kind ResetSource.ctrl (s.flag GLB_RESET_CTRL_flush) s
  else if kind = 3 then portResetRequest (s.get GLB_RESET_CTRL_port) (inBandSource s src) s
  else s

/-- What TST_JTAG_SEAL does: OTP_SEAL without the completion check, for a write of JTAG with VQPS in range (R547). -/
def forcedSeal (r src : Nat) (s : State) : State :=
  if src = Src.jtag && (otpSealRefusal s true r).isNone then otpSeal r s else s

/-- A paired register takes its value. -/
def pairTake (a src : Nat) (v : Word) (s : State) : State :=
  match rowAt a with
  | none => s
  | some (r, _) =>
    if a = TST_JTAG_SEAL then (if src = Src.jtag then forcedSeal (v.bits 2 0) src (plainWrite r a v s) else s)
    else resetCtrl src (plainWrite r a v s)

/-- The second word of a pair, at the address behind its register. -/
def pairSecond (a src : Nat) (v : Word) (s : State) : State :=
  match s.pairs.find a with
  | none => pairFail a src PairFault.nothing s
  | some x =>
    let s1 := { s with pairs := s.pairs.erase a }
    if x.src ≠ src then pairFail a src PairFault.otherSource s1
    else if v ≠ ~~~x.value then pairFail a src PairFault.notComplement s1
    else pairTake a src x.value s1

/-- The window of a pending value expires. -/
def pairExpire (a : Nat) (s : State) : State :=
  match s.pairs.find a with
  | none => s
  | some x => pairFail a x.src PairFault.window { s with pairs := s.pairs.erase a }

/-! ### Locks (R499 to R501) -/

/-- The register belongs to a locked group. -/
def locked (s : State) (r : RegRow) : Bool := decide (r.lock < 16) && natBit (s.reg GLB_LOCK).toNat r.lock

/-- A write to a locked register: discarded, recorded and reported. -/
def lockViol (a src : Nat) (s : State) : State :=
  let s1 := ((s.addField GLB_LOCK_VIOL_count 1).put GLB_LOCK_VIOL_source src).put GLB_LOCK_ADDR_addr a
  s1.raiseEvent 340 0

/-! ### Writes -/

/-- The register is one of the guarded set, in a bit that a write makes live (R502). -/
def guardedRow (r : RegRow) : Bool := decide (r.lock < 16) && r.lock != 8

/-- A write to a guarded field that is not staged suspends the comparison (R504). -/
def suspendCheck (r : RegRow) (s : State) : State :=
  if guardedRow r && r.rw != 0 then { s with commit := { s.commit with suspendLeft := 1024 } } else s

/-- A write to an unlocked register. -/
def writeRow (r : RegRow) (i src a : Nat) (v : Word) (s : State) : State :=
  match r.kind with
  | .paired => pairFirst a src v s
  | .complement => pairSecond (a - 4) src v s
  | .masked => s.setReg a ((s.reg a &&& ~~~(v >>> 16)) ||| (v &&& (v >>> 16) &&& 0xFFFF))
  | .plain =>
    let s1 := suspendCheck r s
    let s2 := if r.staged ≠ 0 then rangedStage a v s1 else s1
    if r.rw ≠ 0 ∨ r.w1s ≠ 0 then liveWrite r i a v s2 else s2

/-- A write of configuration space; answers whether a lock refused it. -/
def cfgWrite (src a : Nat) (v : Word) (s : State) : Bool × State :=
  if !s.up then (false, s)
  else match rowAt a with
    | none => (false, s)
    | some (r, i) => if locked s r then (true, lockViol a src s) else (false, writeRow r i src a v s)

/-- A write whose answer nobody waits for. -/
def write (src a : Nat) (v : Word) (s : State) : State := (cfgWrite src a v s).2

/-- Consecutive registers read, in ascending order (R213, R474). -/
def cfgReadMany (src a : Nat) : Nat → State → List Word × State
  | 0, s => ([], s)
  | n + 1, s =>
    let r := cfgRead src a s
    let rest := cfgReadMany src (a + 4) n r.2
    (r.1 :: rest.1, rest.2)

/-- Consecutive registers written, in ascending order; answers which words a lock refused, as a mask (R475). -/
def cfgWriteMany (src a bit : Nat) : List Word → State → Nat × State
  | [], s => (0, s)
  | v :: l, s =>
    let r := cfgWrite src a v s
    let rest := cfgWriteMany src (a + 4) (bit + 1) l r.2
    ((if r.1 then 2 ^ bit else 0) + rest.1, rest.2)

/-! ### The configuration check (R502 to R504) -/

/-- Addresses of the guarded registers, in ascending order, each with the bits that count. -/
def guardedRegs : List (Nat × Nat) :=
  let of := fun (l : List RegRow) => (l.filter guardedRow).flatMap fun r => (List.range r.count).map fun i => (r.base + i * r.stride, 0xFFFFFFFF - r.w1s)
  let block := fun l => (of l).foldl (fun (m : KMap Nat) p => m.ins p.1 p.2) []
  let low := block rowsGlobal
  (low.ins GLB_LOCK 0xFFFF) ++ block rowsLane ++ block rowsPort ++ block rowsLink ++ block rowsServices ++ block rowsTimetable ++ block rowsHc ++
    block rowsArb ++ block rowsEcc ++ block rowsLanding ++ block rowsFabric ++ block rowsThermal ++ block rowsPower ++ block rowsEvents ++
    block rowsSnapshot ++ block rowsMailbox

/-- The CRC of a pass over the live values. -/
def guardedCrc (s : State) : Nat :=
  crc32c (guardedRegs.flatMap fun p => bytesBE 3 p.1 ++ bytesBE 4 (s.reg p.1 &&& BitVec.ofNat 32 p.2).toNat)

/-- The comparison at the end of a pass. -/
def checkCompare (s : State) : State :=
  if !s.flag CFG_CTRL_check_en || !s.flag CFG_STATUS_ref_valid || s.commit.suspendLeft ≠ 0 then s
  else if s.reg CFG_CRC = s.reg CFG_CRC_REF then
    { s.put CFG_STATUS_drift 0 with commit := { s.commit with drifting := false } }
  else
    let s1 := s.put CFG_STATUS_drift 1
    if s.commit.drifting then s1
    else
      let s2 := { s1 with commit := { s1.commit with drifting := true } }.raiseEvent 342 0
      if s2.flag CFG_CTRL_safe_on_drift then safeRequest s2 else s2

/-- One whole pass of the walker: its CRC, the reference where one was asked for, and the comparison. -/
def checkPass (s : State) : State :=
  if !s.up then s
  else
    let s1 := s.setReg CFG_CRC (BitVec.ofNat 32 (guardedCrc s))
    if s.flag CFG_COMMIT_go then
      let s2 := ((s1.setReg CFG_CRC_REF (s1.reg CFG_CRC)).put CFG_STATUS_ref_valid 1).put CFG_COMMIT_go 0
      checkCompare { s2 with commit := { s2.commit with suspendLeft := 0, drifting := false } }
    else checkCompare s1

/-- The window after a switch or a guarded write ends (R20, R504). -/
def suspendEnd (s : State) : State := { s with commit := { s.commit with suspendLeft := 0 } }

end Sys2Proof.Machine
end

