-- ==== Sys2Proof/Machine/Purser.lean ====
section
/-!
DEFINITION. Machine/Purser.lean: the mailboxes and their three sources, the I3C target, the commands of the purser, its long jobs
and its watchdog (17_purser_events_snapshot R458 to R476 and R489, 06_towpath R183 and R184, 18_registers_and_otp R514 to R521,
19_test_and_repair R527, R529, R538, R542).
-/
set_option autoImplicit false

namespace Sys2Proof.Machine
open Reg Bit

/-! ### Mailboxes (R465, R466) -/

def State.box (s : State) (m : Nat) : Mailbox := KMap.get (fun _ => Mailbox.reset) s.purser.boxes m
def State.modBox (s : State) (m : Nat) (f : Mailbox → Mailbox) : State :=
  s.modPurser fun x => { x with boxes := KMap.put (fun _ => Mailbox.reset) x.boxes m (f (s.box m)) }

/-- States of a mailbox, and the owners as MBX_STATUS encodes them. -/
def BoxState.idle : Nat := 0
def BoxState.busy : Nat := 1
def BoxState.done : Nat := 2
def Owner.i3c : Nat := 0
def Owner.inBand : Nat := 1
def Owner.towpath : Nat := 2

def boxState (s : State) (m : Nat) : Nat := s.get (MBX_STATUS_state m)
def boxOwner (s : State) (m : Nat) : Nat := s.get (MBX_STATUS_owner m)

/-- The source may submit to the mailbox (R465). -/
def sourceOn (s : State) (m owner : Nat) : Bool := natBit (s.get (MBX_CFG_sources m)) owner

/-- The purser executes commands. -/
def purserRuns (s : State) : Bool := s.up && s.purser.halted.isNone

/-! ### Messages (R471 to R474) -/

def Reply.ok : Nat := 0x00
def Reply.accepted : Nat := 0x01
def Reply.busy : Nat := 0x03
def Reply.unsupported : Nat := 0x04
def Reply.badLength : Nat := 0x05
def Reply.badParam : Nat := 0x06
def Reply.locked : Nat := 0x07
def Reply.refused : Nat := 0x08
def Reply.notReady : Nat := 0x09
def Reply.flashError : Nat := 0x0A
def Reply.noJob : Nat := 0x0B
def Reply.jobRunning : Nat := 0x0C
def Reply.sourceDenied : Nat := 0x0D
def Reply.aborted : Nat := 0x0E

/-- What a command answers: status, payload and job number. -/
structure Answered where
  status : Nat
  data : List Byte
  job : Nat
  deriving DecidableEq, Repr

def Answered.plain (status : Nat) : Answered := ⟨status, [], 0⟩

/-- The command code of a request; bytes that a short message lacks count as 0. -/
def reqCode (req : List Byte) : Nat := (req.getD 0 0).toNat * 256 + (req.getD 1 0).toNat

/-- The payload length that a request's header names. -/
def reqLength (req : List Byte) : Nat := (req.getD 4 0).toNat * 256 + (req.getD 5 0).toNat

def reqPayload (req : List Byte) : List Byte := (req.drop 8).take (reqLength req)

/-- The deadline class of a command. -/
def commandClass (code : Nat) : Nat :=
  if [0x40, 0x50, 0x61, 0x71, 0x80].contains code then 1
  else if [0x41, 0x51, 0x52, 0x60, 0x63].contains code then 2
  else 0

/-- The commands that the boot ROM answers. -/
def romServes (code : Nat) : Bool := [0x01, 0x02, 0x03, 0x20, 0x41, 0x90].contains code

/-- The codes of R474. -/
def knownCommand (code : Nat) : Bool :=
  [0x01, 0x02, 0x03, 0x10, 0x11, 0x20, 0x30, 0x40, 0x41, 0x50, 0x51, 0x52, 0x60, 0x61, 0x62, 0x63, 0x70, 0x71, 0x80, 0x90].contains code

/-- The payload length agrees with the message length: exactly on the towpath, rounded up to four in band, and within the buffer over
I3C (R469, R471; log entry 50). -/
def lengthAgrees (owner : Nat) (req : List Byte) : Bool :=
  let n := 8 + reqLength req
  if owner = Owner.inBand then (n + 3) / 4 * 4 == req.length
  else if owner = Owner.towpath then n == req.length
  else decide (n ≤ 1024)

/-- A response message. -/
def responseMessage (req : List Byte) (r : Answered) : List Byte :=
  [req.getD 0 0, req.getD 1 0, BitVec.ofNat 8 r.status, req.getD 3 0] ++ bytesBE 2 r.data.length ++
    [BitVec.ofNat 8 r.job, BitVec.ofNat 8 (commandClass (reqCode req))] ++ r.data

/-! ### Submission, posting and release (R466, R469, R470) -/

/-- The request buffer holds a message that came in band or on the towpath. -/
def bufferOf (req : List Byte) : KMap Byte := (req.take 1024).zipIdx.foldl (fun m x => KMap.put (fun _ => (0 : Byte)) m x.2 x.1) []

/-- A complete request from an enabled source at an idle mailbox; each mailbox has one request buffer. -/
def boxSubmit (m owner port : Nat) (entry : Option Entry) (req : List Byte) (s : State) : State :=
  (((s.put (MBX_STATUS_state m) BoxState.busy).put (MBX_STATUS_owner m) owner).put (MBX_STATUS_cmd m) (reqCode req)).modBox m
    fun b => { b with
      request := req, response := [], port := port, entry := entry, buffer := if owner = Owner.i3c then b.buffer else bufferOf req }

/-- The mailbox is idle again. -/
def boxRelease (m : Nat) (s : State) : State :=
  (s.put (MBX_STATUS_state m) BoxState.idle).modBox m fun b => { b with entry := none }

/-- A response of a towpath owner begins to be sent, once the port sends no other. -/
def boxSend (m : Nat) (s : State) : State :=
  let b := s.box m
  if boxState s m = BoxState.done ∧ boxOwner s m = Owner.towpath ∧ (s.tow b.port).mgmtTx.isNone ∧ s.stage b.port ≠ 0 then
    mgmtSend b.port { mailbox := m, data := b.response, fragment := 0, sends := 0 } s
  else s

/-- A response posted: in band the CPL carries it, cut to rlen. -/
def boxPost (m : Nat) (r : Answered) (s : State) : State :=
  if boxState s m ≠ BoxState.busy then s
  else
    let b := s.box m
    let msg := responseMessage b.request r
    let s1 := ((s.put (MBX_STATUS_status m) r.status).put (MBX_STATUS_state m) BoxState.done).modBox m fun b => { b with response := msg }
    match b.entry with
    | some e => answer b.port e 0 0 (msg.take e.txn.hdr.rlen) s1
    | none => boxSend m s1

/-- What mailboxes in DONE do as time passes: an in-band one is idle once its CPL has left, a towpath one sends its response. -/
def boxSettle (m : Nat) (s : State) : State :=
  let b := s.box m
  match b.entry with
  | some e =>
    if boxState s m = BoxState.done && !((s.link b.port).table.any fun x => x.uid == e.uid) then boxRelease m s else s
  | none => boxSend m s
def boxesSettle (s : State) : State := forEach (List.range 8) boxSettle s

/-- No response within 2 ms (R472). -/
def boxTimeout (m : Nat) (s : State) : State :=
  if boxState s m ≠ BoxState.busy then s
  else ((boxPost m (Answered.plain Reply.aborted) s).addSat MBX_TIMEOUTS 1).cause Cause.MBX_mbx_timeout

/-- An I3C owner's response is dropped: released, or 100 ms old. -/
def i3cRelease (m : Nat) (s : State) : State :=
  if boxState s m = BoxState.done ∧ boxOwner s m = Owner.i3c then boxRelease m s else s

/-- The request buffer submitted over I3C. -/
def i3cSubmit (m : Nat) (s : State) : State :=
  let s1 := i3cRelease m s
  if boxState s1 m ≠ BoxState.idle || !sourceOn s1 m Owner.i3c then s1
  else
    let b := s1.box m
    let bytes := (List.range 1024).map fun i => KMap.get (fun _ => (0 : Byte)) b.buffer i
    boxSubmit m Owner.i3c 0 none (bytes.take (8 + reqLength bytes)) s1

/-- An in-band request message (R216, R465, R466, R469). -/
def mbxRun (p : Nat) (e : Entry) (s : State) : State :=
  let m := e.txn.hdr.addr % 8
  let req := e.txn.data.take e.txn.hdr.len
  let s1 := modEntry p e.uid (fun x => { x with begun := true }) s
  let refuse := fun status => answer p e 0 0 ((responseMessage req (Answered.plain status)).take e.txn.hdr.rlen) s1
  if !sourceOn s m Owner.inBand then refuse Reply.sourceDenied
  else if boxState s m ≠ BoxState.idle then refuse Reply.busy
  else boxSubmit m Owner.inBand p (some e) req s1

/-! ### Requests by towpath fragments (R183, R184, R187, R470) -/

/-- MGMT_ACK statuses. -/
def MgmtAck.accepted : Nat := 0
def MgmtAck.busy : Nat := 1
def MgmtAck.refused : Nat := 2
def MgmtAck.outOfOrder : Nat := 3

def mgmtReply (p : Nat) (payload : List Byte) (status : Nat) (s : State) : State :=
  towEnqueue p [0x12, payload.getD 1 0, payload.getD 2 0, BitVec.ofNat 8 status] s

/-- A MGMT fragment received: refused, accepted again, out of order, busy, or accepted. -/
def mgmtArrives (p : Nat) (payload : List Byte) (s : State) : State :=
  let head := (payload.getD 1 0).toNat
  let m := head % 8
  let index := (payload.getD 2 0).toNat
  let held := (s.tow p).mgmtRx.find m
  let got := (held.getD (0, [])).1
  let bytes := (held.getD (0, [])).2
  let data := bytes ++ payload.drop 3
  let fresh := bytes.isEmpty
  let other := boxState s m != BoxState.idle && !(boxOwner s m == Owner.towpath && (s.box m).port == p)
  if payload.length < 4 ∨ 64 < payload.length ∨ (payload.headD 0).toNat ≠ 0x11 then s
  else if !s.flag (PORT_TOW_CTRL_mgmt_en p) || natBit head 7 || !sourceOn s m Owner.towpath then mgmtReply p payload MgmtAck.refused s
  else if other then mgmtReply p payload MgmtAck.busy s
  else if index + 1 = got && !(fresh && index = 0 && boxState s m = BoxState.idle) then mgmtReply p payload MgmtAck.accepted s
  else if (if fresh then index ≠ 0 else index ≠ got) then mgmtReply p payload MgmtAck.outOfOrder s
  else if boxState s m ≠ BoxState.idle then mgmtReply p payload MgmtAck.busy s
  else if 1024 < data.length then mgmtReply p payload MgmtAck.refused (s.modTow p fun t => { t with mgmtRx := t.mgmtRx.erase m })
  else
    let s1 := mgmtReply p payload MgmtAck.accepted (s.modTow p fun t => { t with
      mgmtRx := t.mgmtRx.ins m (index + 1, if natBit head 6 then [] else data) })
    if natBit head 6 then boxSubmit m Owner.towpath p none data s1 else s1

/-- The response being sent on a port has ended. -/
def mgmtEnded (p m : Nat) (s : State) : State :=
  if boxState s m = BoxState.done ∧ boxOwner s m = Owner.towpath ∧ (s.box m).port = p then boxRelease m s else s

/-- The fragment is sent again; after eight sends the response is given up. -/
def mgmtRetry (p : Nat) (s : State) : State :=
  match (s.tow p).mgmtTx with
  | none => s
  | some x =>
    let s1 := mgmtAgain p s
    if (s1.tow p).mgmtTx.isNone then mgmtEnded p x.mailbox s1 else s1

/-- A MGMT_ACK of the response being sent. -/
def mgmtAckArrives (p : Nat) (payload : List Byte) (s : State) : State :=
  match (s.tow p).mgmtTx with
  | none => s
  | some x =>
    let head := (payload.getD 1 0).toNat
    if head % 8 ≠ x.mailbox ∨ !natBit head 7 ∨ (payload.getD 2 0).toNat ≠ x.fragment ∨ payload.length ≠ 4 ∨
        (payload.headD 0).toNat ≠ 0x12 then s
    else
      match (payload.getD 3 0).toNat with
      | 0 =>
        if x.data.length ≤ 61 * (x.fragment + 1) then mgmtEnded p x.mailbox (s.modTow p fun t => { t with mgmtTx := none })
        else mgmtSend p { x with fragment := x.fragment + 1, sends := 0 } s
      | 1 => mgmtRetry p s
      | _ => s

/-! ### The I3C target (R53, R63, R467, R468) -/

/-- The target answers from the end of FUSE. -/
def i3cAnswers (s : State) : Bool := s.up && s.flag OTP_STATUS_loaded

/-- What the model notes as returned to the sender (log entry 49). -/
def State.returned (s : State) (w : Word) (b : List Byte) : State := { s with out := { word := w, bytes := b } }

/-- One byte written at the pointer: the request window, unless the command runs on it, or the control window. -/
def i3cStore (m window offset : Nat) (b : Byte) (s : State) : State :=
  if window = 0 then
    (if boxState s m = BoxState.busy then s else s.modBox m fun x => { x with buffer := KMap.put (fun _ => (0 : Byte)) x.buffer offset b })
  else if window = 2 then (if b = 1 then i3cSubmit m s else if b = 2 then i3cRelease m s else s)
  else s

def i3cStores (m window : Nat) : Nat → List Byte → State → State
  | offset, [], s => s.modPurser fun x => { x with pointer := (m, window, offset) }
  | offset, b :: l, s => i3cStores m window ((offset + 1) % 1024) l (i3cStore m window offset b s)

/-- A private write: the pointer, then data.  Bytes past the write limit are not taken. -/
def i3cWrite (bytes : List Byte) (s0 : State) : State :=
  let s := wakeSource 17 s0
  if !i3cAnswers s then s
  else match bytes.take s.purser.mwl with
    | a :: b :: data => i3cStores (a.toNat / 32) (a.toNat / 4 % 8) (a.toNat % 4 * 256 + b.toNat) data s
    | _ => s

/-- The byte that a window shows at an offset. -/
def i3cByte (s : State) (m window offset : Nat) : Byte :=
  let b := s.box m
  match window with
  | 0 => KMap.get (fun _ => (0 : Byte)) b.buffer offset
  | 1 => b.response.getD offset 0
  | 3 => ([BitVec.ofNat 8 (boxState s m), BitVec.ofNat 8 (s.get (MBX_STATUS_status m))] ++ bytesBE 2 b.response.length).getD offset 0
  | 4 => (bytesBE 4 (evtStatus s).toNat).getD offset 0
  | _ => 0

/-- A private read of some bytes from the pointer on. -/
def i3cRead (n : Nat) (s0 : State) : State :=
  let s := wakeSource 17 s0
  if !i3cAnswers s then s
  else
    let (m, window, offset) := s.purser.pointer
    let k := min n s.purser.mrl
    (s.modPurser fun x => { x with pointer := (m, window, (offset + k) % 1024) }).returned 0
      ((List.range k).map fun i => i3cByte s m window ((offset + i) % 1024))

/-- A common command code addressed to the device, or to every device. -/
def i3cCommand (direct : Bool) (f : State → State) (s0 : State) : State :=
  let s := when direct (wakeSource 17) s0
  if i3cAnswers s then f s else s

/-- A dynamic address assigned. -/
def setDynamic (a : Nat) (s : State) : State := (s.put MBX_I3C_dyn a).put MBX_I3C_dyn_valid 1

/-- The provisional ID. -/
def provisionalId (s : State) : Nat := 0x2D5A * 2 ^ 33 + 0x6416 * 2 ^ 16 + s.pins.nodeid % 64

/-- An unknown common command code, or a protocol error. -/
def i3cError (s : State) : State :=
  if !i3cAnswers s then s
  else when (s.reg MBX_I3C_ERRS == 0) (fun s => s.cause Cause.MBX_i3c_error) (s.addSat MBX_I3C_ERRS 1)

/-! ### Commands: the frame of all of them -/

/-- A command under execution in a mailbox, by its code.  The boot ROM refuses what it does not serve, then lengths are checked, then the
command runs (log entry 50). -/
def command (m code : Nat) (fits : List Byte → Bool) (run : List Byte → State → Answered × State) (s : State) : State :=
  let req := (s.box m).request
  if boxState s m ≠ BoxState.busy || !purserRuns s || reqCode req != code then s
  else if s.purser.rom && !romServes code then boxPost m (Answered.plain Reply.unsupported) s
  else if !lengthAgrees (boxOwner s m) req || !fits (reqPayload req) then boxPost m (Answered.plain Reply.badLength) s
  else
    let r := run (reqPayload req) s
    boxPost m r.1 r.2

/-- A payload of exactly n bytes. -/
def sized (n : Nat) (l : List Byte) : Bool := l.length == n

/-- A count in bytes 2 and 3 of the fields at an offset, within 1 to a limit. -/
def countIn (at_ most : Nat) (l : List Byte) : Bool := decide (1 ≤ payloadNum l at_ 2 ∧ payloadNum l at_ 2 ≤ most)

/-- A command that is none of R474's. -/
def unknownCommand (m : Nat) (s : State) : State :=
  if boxState s m ≠ BoxState.busy || !purserRuns s || knownCommand (reqCode (s.box m).request) then s
  else boxPost m (Answered.plain Reply.unsupported) s

def reply (status : Nat) (data : List Byte) (s : State) : Answered × State := (⟨status, data, 0⟩, s)

/-- The words of a register block as payload. -/
def wordsBytes (l : List Word) : List Byte := l.flatMap fun w => bytesBE 4 w.toNat

/-- The words of a payload from an offset on. -/
def payloadWords (l : List Byte) (at_ n : Nat) : List Word := (List.range n).map fun i => BitVec.ofNat 32 (payloadNum l (at_ + 4 * i) 4)

/-! ### Commands that answer at once (R474, R475) -/

def runIdentity (_ : List Byte) (s : State) : Answered × State :=
  reply Reply.ok (wordsBytes [s.reg DEV_ID, s.reg REV_ID, s.reg MBX_FW_VER, BitVec.ofNat 32 (s.get MBX_FW_INFO_rollback)] ++
    [BitVec.ofNat 8 (s.get MBX_FW_INFO_slot), BitVec.ofNat 8 (s.get MBX_FW_INFO_rom_safe), BitVec.ofNat 8 (s.get FAB_NODE_id), 0]) s

def runStatus (_ : List Byte) (s : State) : Answered × State :=
  reply Reply.ok (wordsBytes [shown s PWR_MODE, shown s GLB_START_STATUS, shown s GLB_MEM_STATE, BitVec.ofNat 32 (s.get TST_STATUS_replace),
    shown s EVT_STATUS]) s

/-- RESET: the reset waits to begin, whatever its source (R81, R474). -/
def runReset (l : List Byte) (s : State) : Answered × State :=
  let kind := payloadNum l 0 1
  let port := payloadNum l 1 1
  let flush := payloadNum l 2 1
  if 3 < kind ∨ 15 < port ∨ 1 < flush then reply Reply.badParam [] s
  else if kind = 0 then reply Reply.ok [] s
  else if kind = 3 then reply Reply.ok [] (portResetRequest port true s)
  else reply Reply.ok [] (resetRequest kind ResetSource.mailbox (flush == 1) s)

def runCfgRead (m : Nat) (l : List Byte) (s : State) : Answered × State :=
  let a := payloadNum l 0 4
  if a % 4 ≠ 0 ∨ 2 ^ 24 ≤ a then reply Reply.badParam [] s
  else
    let r := cfgReadMany (Src.mailbox m) a (payloadNum l 4 2) s
    reply Reply.ok (wordsBytes r.1) r.2

def runCfgWrite (m : Nat) (l : List Byte) (s : State) : Answered × State :=
  let a := payloadNum l 0 4
  if a % 4 ≠ 0 ∨ 2 ^ 24 ≤ a then reply Reply.badParam [] s
  else
    let r := cfgWriteMany (Src.mailbox m) a 0 (payloadWords l 8 (payloadNum l 4 2)) s
    reply (if r.1 = 0 then Reply.ok else Reply.locked) (bytesBE 32 r.1) r.2

def runEvtLogRead (l : List Byte) (s : State) : Answered × State :=
  let index := payloadNum l 0 2
  if 4095 < index then reply Reply.badParam [] s
  else
    reply Reply.ok (bytesBE 2 (s.reg EVT_LOG_HEAD).toNat ++ bytesBE 2 (s.reg EVT_LOG_TAIL).toNat ++ bytesBE 4 (s.reg EVT_LOG_LOST).toNat ++
      (List.range (payloadNum l 2 2)).flatMap fun i => bytesBE 16 (logRecord s ((index + i) % 4096))) s

def runMode (l : List Byte) (s : State) : Answered × State :=
  let flags := payloadNum l 2 1
  if 3 < flags then reply Reply.badParam [] s
  else
    let r := modeRequest true { target := payloadNum l 0 1, tag := payloadNum l 1 1, mimg := natBit flags 1, noBist := natBit flags 0 } s
    reply r.1 [] r.2

/-- FLASH_READ: the flash, outside the device, returns the bytes or does not answer (R65, log entry 8). -/
def runFlashRead (data : Option (List Byte)) (l : List Byte) (s : State) : Answered × State :=
  match data with
  | some d => reply Reply.ok ((d ++ List.replicate (payloadNum l 4 2) 0).take (payloadNum l 4 2)) s
  | none => reply Reply.flashError [] (s.cause Cause.MBX_flash_error)

/-- OTP_READ: words as FUSE took them, with their marginal bits (R509, R513). -/
def runOtpRead (l : List Byte) (s : State) : Answered × State :=
  let r := payloadNum l 0 1
  let first := payloadNum l 2 2
  let n := payloadNum l 4 2
  if 7 < r ∨ otpSize r < first + n then reply Reply.badParam [] s
  else
    let marg := (List.range n).foldl (fun t i => if s.otp.marginal.any fun x => x.region == r && x.word == first + i then t + 2 ^ i else t) 0
    reply Reply.ok (wordsBytes ((List.range n).map fun i => (otpTaken s r (first + i)).getD 0) ++ bytesBE ((n + 7) / 8) marg) s

/-- LEDGER_READ: bytes of the newest copy in the flash. -/
def runLedgerRead (data : Option (List Byte)) (l : List Byte) (s : State) : Answered × State :=
  if 0x80000 < payloadNum l 0 4 + payloadNum l 4 2 then reply Reply.badParam [] s else runFlashRead data l s

/-- RETIRE, with the result of ECC_RETIRE_STATUS (R371). -/
def runRetire (l : List Byte) (s : State) : Answered × State :=
  let v : Word := BitVec.ofNat 32 (payloadNum l 0 4)
  let bank := v.bits 31 31 == 1
  let p : Place := ⟨v.bits 25 19, v.bits 18 14, if bank then 0 else v.bits 13 0, 0⟩
  let t := retireRequest bank p s
  match retireRefusal s bank p with
  | some c => reply Reply.refused [BitVec.ofNat 8 c, 0, 0, 0] t
  | none => reply Reply.ok [BitVec.ofNat 8 RetireResult.done, 0, 0, 0] t

/-- SNAPSHOT, with the number of the snapshot that will hold the trigger (R484, R485). -/
def runSnapshot (_ : List Byte) (s : State) : Answered × State :=
  if !natBit (s.get SNAP_CTRL_src) SnapSource.command then reply Reply.refused [] s
  else reply Reply.ok (bytesBE 2 ((s.snap.seq + 1) % 65536) ++ [0, 0]) (snapTrigger SnapSource.command 0x1FF s)

def runSnapRead (l : List Byte) (s : State) : Answered × State :=
  let slot := payloadNum l 0 1
  let first := payloadNum l 2 2
  let n := payloadNum l 4 2
  if 3 < slot ∨ 1024 < first + n then reply Reply.badParam [] s
  else reply Reply.ok (wordsBytes ((List.range n).map fun i => snapWord s slot (first + i))) s

/-- The coefficients of one node (R414, R474). -/
def nodeModel (s : State) (n : Nat) : List Byte :=
  let rom := romModel s
  let near := ((List.range 88).filter fun k => k != n && Config.conductance rom n k != 0).take 40
  bytesBE 4 (Config.nodeCapacity rom n) ++ bytesBE 4 (if n / 4 = 21 then Config.sinkConductance rom n else 0) ++
    [BitVec.ofNat 8 near.length, 0, 0, 0] ++ near.flatMap fun k => bytesBE 1 k ++ bytesBE 3 (Config.conductance rom n k)

def runModelRead (l : List Byte) (s : State) : Answered × State :=
  let n := payloadNum l 0 1
  let k := payloadNum l 1 1
  if 88 < n + k then reply Reply.badParam [] s
  else reply Reply.ok ((List.range k).flatMap fun i => nodeModel s (n + i)) s

def runJobResult (l : List Byte) (s : State) : Answered × State :=
  let n := payloadNum l 0 1
  if s.purser.jobs.any fun j => j.num == n then reply Reply.jobRunning [] s
  else match s.purser.ended.find? fun j => j.num == n with
    | none => reply Reply.noJob [] s
    | some j => reply Reply.ok ([BitVec.ofNat 8 n, 0] ++ bytesBE 2 j.command ++ [BitVec.ofNat 8 j.status, 0] ++ bytesBE 2 j.result.length ++ j.result) s

/-! ### Long jobs (R476) -/

/-- The next job number: from 1 to 255 in turn, past those in use. -/
def nextJobNumber (s : State) : Nat :=
  let last := s.get MBX_JOBS_last
  let order := (List.range 255).map fun i => (last + i) % 255 + 1
  (order.find? fun n => !s.purser.jobs.any fun j => j.num == n).getD 1

/-- A job accepted, or BUSY while eight run. -/
def startJob (code : Nat) (args : List Byte) (begin_ : Nat → State → State) (s : State) : Answered × State :=
  if 8 ≤ s.purser.jobs.length then reply Reply.busy [] s
  else
    let n := nextJobNumber s
    let s1 := s.modPurser fun x => { x with jobs := x.jobs ++ [{ num := n, command := code, args := args }] }
    (⟨Reply.accepted, [], n⟩, begin_ n ((s1.put MBX_JOBS_last n).put MBX_JOBS_running s1.purser.jobs.length))

/-- The refusal of an OTP job: result code in its first byte (R514, R519). -/
def otpJobRefusal (s : State) (j : PurserJob) : Option Nat :=
  let r := payloadNum j.args 0 1
  if j.command = Cmd.otpSeal then otpSealRefusal s false r else otpRefusal s true r (payloadNum j.args 2 2) (otpJobWords j)

/-- An OTP job begins: refused, or its pass is counted. -/
def otpJobBegin (j : PurserJob) (s : State) : State :=
  match otpJobRefusal s j with
  | some c => jobEnd j.num Reply.refused [BitVec.ofNat 8 c] s
  | none => if j.command = Cmd.otpProgram then otpPass s else s

/-- The waiting OTP jobs begin in turn until one runs (R521). -/
def otpQueueNext : Nat → State → State
  | 0, s => s
  | fuel + 1, s =>
    match s.otp.queue with
    | [] => s
    | n :: rest =>
      if (otpJob s).isSome then s
      else
        let s1 : State := { s with otp := { s.otp with queue := rest } }
        match s1.purser.jobs.find? fun j => j.num == n with
        | none => otpQueueNext fuel s1
        | some j => otpQueueNext fuel (otpJobBegin j s1)

/-- An OTP job arrives: refused at once when its region is sealed, waiting while another runs, else judged (R521). -/
def otpJobArrives (code : Nat) (args : List Byte) (n : Nat) (s : State) : State :=
  let j : PurserJob := { num := n, command := code, args := args }
  let busy := s.purser.jobs.any fun k => k.num != n && (k.command == Cmd.otpProgram || k.command == Cmd.otpSeal)
  if !busy then otpJobBegin j s
  else if otpJobRefusal s j = some OtpResult.sealed then jobEnd n Reply.refused [BitVec.ofNat 8 OtpResult.sealed] s
  else { s with otp := { s.otp with queue := s.otp.queue ++ [n] } }

def runFlashWrite (l : List Byte) (s : State) : Answered × State :=
  let flags := payloadNum l 6 1
  if 1 < flags ∨ (flags = 1 ∧ payloadNum l 0 4 % 4096 ≠ 0) then reply Reply.badParam [] s
  else startJob Cmd.flashWrite l (fun _ s => s) s

def runOtpProgram (l : List Byte) (s : State) : Answered × State :=
  if 7 < payloadNum l 0 1 then reply Reply.badParam [] s else startJob Cmd.otpProgram l (otpJobArrives Cmd.otpProgram l) s

def runOtpSeal (l : List Byte) (s : State) : Answered × State :=
  if 7 < payloadNum l 0 1 then reply Reply.badParam [] s else startJob Cmd.otpSeal l (otpJobArrives Cmd.otpSeal l) s

/-- The phases of a scope word, in their order (R542). -/
def scopePhases (scope : Nat) : List Nat :=
  [(0, Phase.sram), (1, Phase.tsv), (2, Phase.array), (3, Phase.lanes)].filterMap fun p => if natBit scope p.1 then some p.2 else none

/-- A self-test on demand begins: its ports are placed in a test hold (R537, R542). -/
def bistBegin (scope n : Nat) (s : State) : State :=
  let phases := scopePhases scope
  let ports := scope / 2 ^ 16 % 2 ^ 16
  let s1 := s.modTest fun x => { x with run := some { shutdown := false, phases := phases, ports := ports, job := n } }
  let s2 := ((s1.put TST_STATUS_busy 1).put TST_STATUS_phase (phases.headD 0)).setReg TST_RESULT 0
  if phases.contains Phase.lanes then forEach ((List.range 16).filter (natBit ports)) testHoldSet s2 else s2

def runBistRun (l : List Byte) (s : State) : Answered × State :=
  let scope := payloadNum l 0 4
  if s.test.run.isSome then reply Reply.busy [] s
  else if s.mode = Mode.maintenance ∨ (s.mode = Mode.safe ∧ scopePhases scope = [Phase.tsv]) then startJob Cmd.bistRun l (bistBegin scope) s
  else reply Reply.notReady [] s

/-- ROW_REPAIR: the repair is requested at once; a refusal ends the job (R350, R474). -/
def rowRepairBegin (p : Place) (n : Nat) (s : State) : State :=
  match repairRefusal s p with
  | some c => jobEnd n Reply.refused [BitVec.ofNat 8 c] (repairRequest p s)
  | none => repairRequest p s

def runRowRepair (l : List Byte) (s : State) : Answered × State :=
  let v : Word := BitVec.ofNat 32 (payloadNum l 2 4)
  if 127 < payloadNum l 0 1 then reply Reply.badParam [] s
  else startJob Cmd.rowRepair l (rowRepairBegin ⟨payloadNum l 0 1, v.bits 18 14, v.bits 13 0, 0⟩) s

/-- The jobs that asked for the row repair of a half-channel end with it. -/
def rowRepairEnd (h : Nat) (s : State) : State :=
  if (s.hc h).rowRepair.isSome then s
  else forEach (s.purser.jobs.filter fun j => j.command == Cmd.rowRepair && payloadNum j.args 0 1 == h) (fun j s => jobEnd j.num Reply.ok [0] s) s

/-- The running self-test ends: busy and phase clear. -/
def testOver (last : Nat) (s : State) : State :=
  (((s.modTest fun x => { x with run := none }).put TST_STATUS_busy 0).put TST_STATUS_phase 0).put TST_STATUS_last last

/-- A BIST job ends with the findings of its phases; its SRAM phase tests the landing only (R522, R542). -/
def bistEnd (n : Nat) (r : TestRun) (findings : List Finding) (s : State) : State :=
  let reached := findings.filter fun f => match f with | .queueSram _ | .imageSram _ => false | _ => true
  let s1 := forEach r.phases (fun ph s => runPhase false ph reached s) s
  let s2 := if r.phases.contains Phase.lanes then forEach ((List.range 16).filter (natBit r.ports)) testHoldClear s1 else s1
  let bad := testVerdict s2 = PhaseResult.fail
  let code := if bad then 2 else if testVerdict s2 = PhaseResult.repaired then 1 else 0
  let s3 := jobEnd n Reply.ok (BitVec.ofNat 8 code :: bytesBE 4 (s2.reg TST_RESULT).toNat) (testOver 3 s2)
  when bad (fun s => s.cause Cause.TST_bist_fail) (s3.cause Cause.TST_bist_done)

/-- The running OTP job ends by itself (R515, R518, R519), and the next begins. -/
def otpJobDone (j : PurserJob) (o : OtpOutcome) (s : State) : State :=
  let r := payloadNum j.args 0 1
  let s1 :=
    if j.command = Cmd.otpSeal then jobEnd j.num Reply.ok [BitVec.ofNat 8 OtpResult.done] (otpSeal r s)
    else
      let t := otpAppend r (otpJobWords j) o.redirect o.stuck s
      if t.1 then jobEnd j.num Reply.ok [BitVec.ofNat 8 OtpResult.done] t.2
      else jobEnd j.num Reply.refused [BitVec.ofNat 8 OtpResult.noSpare] t.2
  otpQueueNext s1.otp.queue.length (showOtp s1)

/-- A job ends (R476): a flash write by what the flash reported, an OTP job by its outcome, a self-test by its findings.  A row repair
ends with REPAIR_RELEASE. -/
def jobDoneAt (n : Nat) (flashOk : Bool) (o : OtpOutcome) (findings : List Finding) (s : State) : State :=
  if !purserRuns s then s
  else match s.purser.jobs.find? fun j => j.num == n with
    | none => s
    | some j =>
      if j.command = Cmd.flashWrite then
        (if flashOk then jobEnd n Reply.ok [] s else jobEnd n Reply.flashError [] (s.cause Cause.MBX_flash_error))
      else if j.command = Cmd.bistRun then (match s.test.run with
        | some r => if r.phases.any powered && !testMayRun s then s else bistEnd n r findings s
        | none => s)
      else if j.command = Cmd.rowRepair then rowRepairEnd (payloadNum j.args 0 1) s
      else if s.otp.queue.contains n then s
      else otpJobDone j o s

/-- VQPS leaves its range: the OTP job that runs ends with a torn tail of the words already blown (R515). -/
def vqpsLost (mv written : Nat) (s0 : State) : State :=
  let s := { s0 with pins := { s0.pins with vqps := mv } }
  if vqpsGood s then s
  else match otpJob s with
    | none => s
    | some j =>
      let s1 := if j.command = Cmd.otpProgram then otpTear (payloadNum j.args 0 1) (otpJobWords j) written s else s
      let s2 := jobEnd j.num Reply.aborted [BitVec.ofNat 8 OtpResult.noVqps] s1
      otpQueueNext s2.otp.queue.length (showOtp s2)

/-! ### Recording repairs, the ledger and the shutdown self-test (R516, R527, R529, R538, R539) -/

/-- Results of a recording pass, as TST_REC_STATUS.last encodes them. -/
def RecResult.done : Nat := 1
def RecResult.noVqps : Nat := 2
def RecResult.refused : Nat := 3
def RecResult.progFail : Nat := 4

/-- The pass ends with a result; an UPDATE copy of the ledger is due. -/
def recEnd (result : Nat) (s : State) : State :=
  (((showOtp s).put TST_REC_STATUS_last result).put TST_REC_CTRL_go 0).modTest fun x => { x with updateDue := true }

/-- One region's record programmed; its entries are recorded, and row retirements leave the list. -/
def recRegion (r : Nat) (l : List LedgerEntry) (o : OtpOutcome) (s : State) : Bool × State :=
  if l.isEmpty then (true, s)
  else
    let t := otpAppend r (l.map repairWord) o.redirect o.stuck s
    if !t.1 then t
    else (true, { t.2 with ledger :=
      (t.2.ledger.map fun e => if l.contains e then { e with st := 2 } else e).filter fun e => !(e.kind == .rowRetired && e.st == 2 && r == 5) })

/-- A recording pass: one pass, with a record for each region that has entries.  `cut` tells how many words were blown when VQPS left its
range, where it did. -/
def recordingPass (o4 o5 : OtpOutcome) (cut : Option Nat) (s : State) : State :=
  let l4 := pendingF4 s
  let l5 := pendingF5 s
  let refusal := fun (r : Nat) (l : List LedgerEntry) =>
    if l.isEmpty then none else otpRefusal s false r (otpParse s r).length (l.map repairWord)
  if !purserRuns s || (otpJob s).isSome || !(s.flag TST_REC_CTRL_go || (s.flag TST_REC_CTRL_auto && vqpsGood s)) then s
  else if l4.isEmpty && l5.isEmpty then (s.put TST_REC_STATUS_last RecResult.done).put TST_REC_CTRL_go 0
  else match (refusal 4 l4).or (refusal 5 l5) with
    | some c => (s.put TST_REC_STATUS_last (if c = OtpResult.noVqps then RecResult.noVqps else RecResult.refused)).put TST_REC_CTRL_go 0
    | none =>
      let s1 := otpPass s
      match cut with
      | some n =>
        let n4 := if l4.isEmpty then 0 else l4.length + 2
        let s2 := if l4.isEmpty then s1 else otpTear 4 (l4.map repairWord) n s1
        recEnd RecResult.noVqps (if l5.isEmpty || decide (n ≤ n4) then s2 else otpTear 5 (l5.map repairWord) (n - n4) s2)
      | none =>
        let t4 := recRegion 4 l4 o4 s1
        if !t4.1 then recEnd RecResult.progFail t4.2
        else
          let t5 := recRegion 5 l5 o5 t4.2
          recEnd (if t5.1 then RecResult.done else RecResult.progFail) t5.2

/-- A copy of the ledger written, or its flash write failed (R527). -/
def ledgerStore (kind verdict : Nat) (flashOk : Bool) (s : State) : State :=
  if flashOk then ledgerWrite kind verdict s else s.cause Cause.TST_ledger_error

/-- An UPDATE copy may be written: one is due, and ten seconds (125,000,000 crossings) have passed since the last (R527). -/
def updateReady (s : State) : Bool :=
  purserRuns s && s.test.updateDue && match s.test.updateAt with | some t => decide (t + 125000000 ≤ s.ticks) | none => true

/-- The UPDATE copy that is due. -/
def ledgerUpdate (flashOk : Bool) (s : State) : State := if updateReady s then ledgerStore 2 s.test.stored.verdict flashOk s else s

/-- The copy that ends a shutdown self-test: SHUTDOWN with its verdict, or from SAFE an UPDATE copy (R527, R529). -/
def shutdownStore (flashOk : Bool) (s : State) : State :=
  if s.modes.inflight.any fun t => t.source == Mode.safe then ledgerStore 2 s.test.stored.verdict flashOk s
  else ledgerStore 1 (testVerdict s - 1) flashOk s

/-- A phase of the shutdown self-test ends, at an abortable point of the COLD entry; one that waits for power has not ended (R530). -/
def shutdownPhase (findings : List Finding) (flashOk : Bool) (s : State) : State :=
  match s.test.run with
  | none => s
  | some r =>
    if !r.shutdown then s
    else match r.phases with
      | [] => s
      | f :: rest =>
        if powered f && !testMayRun s then s
        else
        let s1 := if f = Phase.ledger then shutdownStore flashOk s else runPhase false f findings s
        match rest with
        | [] => abortPoint 5 (testOver 2 s1)
        | next :: _ =>
          let s2 := (s1.modTest fun x => { x with run := some { r with phases := rest } }).put TST_STATUS_phase next
          abortPoint 4 (if next = Phase.lanes then forEach ((List.range 16).filter (natBit r.ports)) testHoldSet s2 else s2)

/-! ### The watchdog (R462 to R464) -/

/-- A fault halts the purser: 2 illegal instruction, 3 SRAM, 4 access. -/
def purserFault (kind : Nat) (pc : Word) (s : State) : State :=
  if !purserRuns s then s
  else
    let s1 := s.modPurser fun x => { x with halted := some (kind, pc) }
    ((s1.put MBX_WDOG_cause kind).setReg MBX_WDOG_PC pc).modAlways fun x => { x with faultVersion := s.reg MBX_FW_VER }

def watchdogRestart (s : State) : State := if purserRuns s then s.modPurser fun x => { x with watchdog := s.ticks } else s

/-- 100 ms (1,250,000 crossings) since the last restart: a warm reset.  A watchdog reset within 60 s of the release before it is
counted. -/
def watchdogExpiry (pc : Word) (s : State) : State :=
  if !s.up || startStep s == StartStep.arm || decide (s.ticks < s.purser.watchdog + 1250000) then s
  else
    let s1 := if s.purser.halted.isSome then s
      else ((s.put MBX_WDOG_cause 1).setReg MBX_WDOG_PC pc).modAlways fun x => { x with faultVersion := s.reg MBX_FW_VER }
    let s2 := s1.addField MBX_WDOG_resets 1
    let s3 := if s.ticks ≤ s.purser.releaseTick + 750000000 then s2.addField MBX_WDOG_run 1 else s2
    resetTrigger ResetKind.warm ResetSource.watchdog false s3

/-- 60 s of service without an expiry. -/
def watchdogCountClear (s : State) : State :=
  if s.inService && decide (s.purser.releaseTick + 750000000 ≤ s.ticks) then (s.put MBX_WDOG_run 0).modPurser fun x => { x with skip := none } else s

end Sys2Proof.Machine
end

