-- ==== Sys2Proof/Machine/Arrivals.lean ====
section
/-!
DEFINITION. Machine/Arrivals.lean: what a delivered transaction or frame sets going: admission, configuration accesses and mailbox
messages in band, and the pump that runs what a boundary let go (07_uzoset_link R210 to R222, 06_towpath R178, 16_modes R444).
-/
set_option autoImplicit false

namespace Sys2Proof.Machine
open Reg Bit

/-- An event of the logic outside the always-on domain: nothing happens while it is unpowered or in reset (log entry 5). -/
def whenUp (f : State → State) (s : State) : State := if s.up then f s else s

/-! ### Configuration accesses in band (R213, R222, R491) -/

def cfgRdRun (p : Nat) (e : Entry) (s : State) : State :=
  let r := cfgReadMany p e.txn.hdr.addr (e.txn.hdr.rlen / 4) s
  answer p e 0 0 (wordsBytes r.1) r.2

/-- CFG_WR: LOCKED, with a bit for each word refused, when any was. -/
def cfgWrRun (p : Nat) (e : Entry) (s : State) : State :=
  let r := cfgWriteMany p e.txn.hdr.addr 0 (payloadWords e.txn.data 0 (e.txn.hdr.len / 4)) s
  answer p e (if r.1 = 0 then 0 else 1) r.1 [] r.2

/-- A request enters execution. -/
def runRequest (p : Nat) (e : Entry) (s : State) : State :=
  if e.txn.hdr.opcode = Op.cfgRd then cfgRdRun p e s
  else if e.txn.hdr.opcode = Op.cfgWr then cfgWrRun p e s
  else if e.txn.hdr.opcode = Op.mbx then mbxRun p e s
  else if memoryOp e.txn.hdr.opcode then runMemory p e s
  else s

/-- The first request of the port that may enter execution does. -/
def runNext (p : Nat) (s : State) : State :=
  match (s.link p).table.find? (runnable s p) with
  | some e => runRequest p e s
  | none => s

/-- Admission and execution, as often as there are requests to take. -/
def pumpPort (p : Nat) : Nat → State → State
  | 0, s => s
  | n + 1, s => pumpPort p n (runNext p (admitNext p s))

/-- A pair put into a list in rising order of its first part. -/
def insertUid (a : Nat × Nat) : List (Nat × Nat) → List (Nat × Nat)
  | [] => [a]
  | b :: t => if a.1 ≤ b.1 then a :: b :: t else b :: insertUid a t

/-- The ports of the waiting requests, oldest request first. -/
def waitingPorts (s : State) : List Nat :=
  (((List.range 16).flatMap fun p => (s.link p).vc0.map fun e => (e.uid, p)).foldl (fun l a => insertUid a l) []).map fun w => w.2

/-- What waits is admitted in its order of arrival (R210), and every port runs as far as it may, ports in rising order (R251). -/
def pumpAll (s : State) : State :=
  let s1 := forEach (waitingPorts s) admitNext s
  forEach (List.range 16) (fun p s => pumpPort p ((s.link p).vc0.length + (s.link p).table.length) s) s1

/-! ### Transactions (R196, R212, R441, R551) -/

/-- A request delivered on a port: it wakes a device whose intake is closed in IDLE, waits in VC0, enters the table and runs.  `sram`
lists SRAM errors found on the lines it touches (R385). -/
def requestArrives (p : Nat) (t : Txn) (sram : List (Nat × Bool)) (s : State) : State :=
  match takeDelivered p t s with
  | none => s
  | some s1 =>
    let s2 := forEach sram (fun e s => sramError e.1 e.2 s) s1
    let s3 := deliverRequest p t s2
    let held := s3.modes.intakeClosed && natBit s3.modes.held p && memoryOp t.hdr.opcode && t.hdr.dst == liveNode s3
    runNext p (admitNext p (when held (wakeSource 18) s3))

/-- A response or notice delivered on a port: its slots are free at once. -/
def otherArrives (p : Nat) (t : Txn) (f : State → State) (s : State) : State :=
  match takeDelivered p t s with
  | none => s
  | some s1 => f (freeSlots p t.hdr s1)

/-- The opcodes of R212. -/
def listedOpcode (op : Nat) : Bool :=
  [0x01, 0x02, 0x03, 0x08, 0x09, 0x0A, 0x0B, 0x0C, 0x10, 0x11, 0x12, 0x13, 0x14, 0x18, 0x19, 0x1A, 0x20, 0x21, 0x22, 0x30, 0x31].contains op

/-- A transaction of an opcode the tables do not list: a request from 0x01 to 0x1F is answered NAK MALFORMED, anything else only consumed (R212,
R213). -/
def unknownArrives (p : Nat) (t : Txn) (s : State) : State :=
  let op := t.hdr.opcode
  if listedOpcode op then s
  else if 0x01 ≤ op ∧ op ≤ 0x1F then requestArrives p t [] s
  else otherArrives p t (fun s => s) s

/-- The header of a row with its opcode. -/
def withOpcode (h : Header) (opcode : Nat) : Header := { h with opcode := opcode }

/-! ### Towpath frames (R178) -/

/-- A payload handed on by the frame layer of a port that is not dark. -/
def frameArrives (p : Nat) (payload : List Byte) (f : State → State) (s : State) : State :=
  if !s.up || s.stage p == 0 then s else f (towTake p payload s)

/-- A wake declared on a port (R186): by the detector of its lane 0 alone in RETENTION. -/
def wakeDeclared (p : Nat) (s : State) : State :=
  if !wakeSeen s p || !(s.up || (s.mode == Mode.retention && s.start.phase == .ended)) then s
  else wakeSource p ((towContextsReset p s).cause (Cause.PORT_TOW_wake_rx p))

/-! ### Events that several blocks take part in -/

/-- An update of the thermal model, the trip it finds, and the causes of REPLACE (R414, R426, R540). -/
def modelTick (s : State) : State :=
  if !thermRuns s || !updateDue s then s
  else
    let s1 := modelUpdate s
    match tripNode s1 with
    | some n => thermalTrip n false s1
    | none => replaceEval s1

/-- The trip monitor reads every sensor; in RETENTION a reading alone trips the device (R427, R431). -/
def monitorTick (readings : List (Nat × Int)) (s : State) : State :=
  let s1 := monitorRead readings s
  if s1.mode = Mode.retention then
    match monitorTrip s1 with
    | some n => thermalTrip n false s1
    | none => s1
  else s1

/-- RETENTION ends; the purser's clock runs again, and its watchdog with it (R439, R462; log entry 51). -/
def retentionResume (outcomes : List TrainOutcome) (bad : List SentinelRead) (us : Nat) (s : State) : State :=
  let s1 := retentionExit outcomes bad us s
  if s1.up && !s.up then s1.modPurser fun x => { x with watchdog := s1.ticks } else s1

/-- The dwell of S5 ends with what each lane's checker counted (R115, R143). -/
def prbsDwellEnd (p : Nat) (lanes : List LaneCount) (s : State) : State :=
  if s.stage p ≠ 5 then s
  else
    prbsVerifyEnd p (lanes.map fun x => (x.locked, x.bitErrs))
      (forEach (lanes.take 8).zipIdx (fun x s => prbsCount (8 * p + x.2) x.1.symbols x.1.symErrs x.1.bitErrs s) s)

/-- A register read, with what it returned. -/
def readOut (src a : Nat) (s : State) : State :=
  let r := cfgRead src a s
  r.2.returned r.1 []

/-- A re-read of the listed OTP words, while no OTP job runs (R513, R521). -/
def otpRereadPass (bad : List Marginal) (s : State) : State :=
  if !s.up || !s.flag OTP_STATUS_loaded || (otpJob s).isSome then s else otpReread bad s

/-! ### The boundary -/

/-- A crossing boundary, and what it lets go. -/
def crossing (s : State) : State := boxesSettle (pumpAll (boundary s))

end Sys2Proof.Machine
end

