-- ==== Sys2Proof/Machine/CmdArchitecture.lean ====
section
/-!
DEFINITION. Machine/CmdArchitecture.lean: the commands of the crossing, the commit and the hardware commit (01_architecture).
-/
set_option autoImplicit false

namespace Sys2Proof.Machine
open Reg Bit

/-- CROSSING_BOUNDARY (R8): the boundary, then what it lets go. -/
def execCrossingBoundary (s : State) : Result :=
  .next (crossing s)

/-- COMMIT_ARM (R15): a write of arm. -/
def execCommitArm (src : Source) (s : State) : Result :=
  .next (write src GLB_COMMIT_CTRL 1 s)

/-- COMMIT_CANCEL (R19): a write of cancel. -/
def execCommitCancel (src : Source) (s : State) : Result :=
  .next (write src GLB_COMMIT_CTRL 2 s)

/-- COMMIT_DISCARD (R19): a write of discard. -/
def execCommitDiscard (src : Source) (s : State) : Result :=
  .next (write src GLB_COMMIT_CTRL 4 s)

/-- PREPARE (R16). -/
def execPrepare (s : State) : Result :=
  .next (whenUp prepare s)

/-- READY_SAMPLE (R16). -/
def execReadySample (s : State) : Result :=
  .next (whenUp readySample s)

/-- COMMIT_SWITCH (R17). -/
def execCommitSwitch (s : State) : Result :=
  .next (whenUp commitSwitch s)

/-- STAGED_FIELD_WRITE (R12). -/
def execStagedFieldWrite (src : Source) (addr : CfgAddr) (value : Word) (s : State) : Result :=
  .next (write src addr value s)

/-- HARDWARE_COMMIT (R21). -/
def execHardwareCommit (s : State) : Result :=
  .next (whenUp hardwareCommit s)

/-- CFG_COMMIT_WINDOW_EXPIRY (R20). -/
def execCfgCommitWindowExpiry (s : State) : Result :=
  .next (whenUp suspendEnd s)

end Sys2Proof.Machine
end

