-- ==== Sys2Proof/Machine/CmdFabric.lean ====
section
/-!
DEFINITION. Machine/CmdFabric.lean: the commands of the fabric (14_fabric).
-/
set_option autoImplicit false

namespace Sys2Proof.Machine
open Reg Bit

/-- RECORD_EXPIRY (R399). -/
def execRecordExpiry (port : Port) (source : Nat) (tag : Nat) (s : State) : Result :=
  .next (whenUp (recordExpiry port source tag) s)

/-- FAILOVER (R408). -/
def execFailover (port : Port) (s : State) : Result :=
  .next (whenUp (failover port) s)

/-- BEACON_MISS (R407). -/
def execBeaconMiss (port : Port) (s : State) : Result :=
  .next (whenUp (beaconMiss port) s)

/-- RESTORE (R409). -/
def execRestore (port : Port) (s : State) : Result :=
  .next (whenUp (restore port) s)

/-- FAB_RESTORE_WRITE (R409): a write with restore set. -/
def execFabRestoreWrite (src : Source) (port : Port) (value : Word) (s : State) : Result :=
  .next (write src (FAB_PORT_CTRL port) (value.withBits 2 2 1) s)

/-- FAB_CLR (R116): a write of clear. -/
def execFabClr (src : Source) (s : State) : Result :=
  .next (write src FAB_CLR 1 s)

end Sys2Proof.Machine
end

