-- ==== Sys2Proof/Machine/CmdIntegrity.lean ====
section
/-!
DEFINITION. Machine/CmdIntegrity.lean: the commands of check codes, scrub and retirement (12_integrity).
-/
set_option autoImplicit false

namespace Sys2Proof.Machine
open Reg Bit

/-- PIN_WINDOW_END (R361). -/
def execPinWindowEnd (hc : Hc) (s : State) : Result :=
  .next (whenUp (pinWindowEnd hc) s)

/-- SCRUB_LATE (R369). -/
def execScrubLate (hc : Hc) (s : State) : Result :=
  .next (whenUp (scrubLateNow hc) s)

/-- FILL_DONE (R365). -/
def execFillDone (s : State) : Result :=
  .next (whenUp fillDone s)

/-- ECC_LOG_TAIL_WRITE (R370). -/
def execEccLogTailWrite (src : Source) (value : Word) (s : State) : Result :=
  .next (write src ECC_LOG_TAIL value s)

/-- RETIRE_ROW (R371): a write of go while ECC_RETIRE_ADDR names a row. -/
def execRetireRow (src : Source) (s : State) : Result :=
  .next (if s.flag ECC_RETIRE_ADDR_kind then s else write src ECC_RETIRE_CTRL 1 s)

/-- RETIRE_BANK (R371): a write of go while ECC_RETIRE_ADDR names a bank. -/
def execRetireBank (src : Source) (s : State) : Result :=
  .next (if s.flag ECC_RETIRE_ADDR_kind then write src ECC_RETIRE_CTRL 1 s else s)

/-- ECC_CLR (R116): a write of clear. -/
def execEccClr (src : Source) (s : State) : Result :=
  .next (write src ECC_CLR 1 s)

end Sys2Proof.Machine
end

