-- ==== Sys2Proof/Machine/CmdLanding.lean ====
section
/-!
DEFINITION. Machine/CmdLanding.lean: the commands of the landing (13_landing).
-/
set_option autoImplicit false

namespace Sys2Proof.Machine
open Reg Bit

/-- FILL_ARRIVE (R381). -/
def execFillArrive (s : State) : Result :=
  .next (whenUp fillArrive s)

/-- CLEANING (R383). -/
def execCleaning (slice : Fin 32) (s : State) : Result :=
  .next (whenUp (cleanSlice slice) s)

/-- CLEAN (R386): a write with op CLEAN and go. -/
def execClean (src : Source) (value : Word) (s : State) : Result :=
  .next (write src LDG_OP_CTRL ((value.withBits 1 0 0).withBits 31 31 1) s)

/-- INVALIDATE (R386): a write with op INVALIDATE and go. -/
def execInvalidate (src : Source) (value : Word) (s : State) : Result :=
  .next (write src LDG_OP_CTRL ((value.withBits 1 0 1).withBits 31 31 1) s)

/-- PRELOAD (R386): a write with op PRELOAD and go. -/
def execPreload (src : Source) (value : Word) (s : State) : Result :=
  .next (write src LDG_OP_CTRL ((value.withBits 1 0 2).withBits 31 31 1) s)

/-- DISCARD (R386): a write with op DISCARD and go. -/
def execDiscard (src : Source) (value : Word) (s : State) : Result :=
  .next (write src LDG_OP_CTRL ((value.withBits 1 0 3).withBits 31 31 1) s)

/-- FLUSH_DONE (R386). -/
def execFlushDone (s : State) : Result :=
  .next (whenUp ldgFinish s)

/-- LDG_CLR (R116): a write of clear. -/
def execLdgClr (src : Source) (s : State) : Result :=
  .next (write src LDG_CLR 1 s)

end Sys2Proof.Machine
end

