-- ==== Sys2Proof/Machine/CmdLanes.lean ====
section
/-!
DEFINITION. Machine/CmdLanes.lean: the commands of lanes and PLLs (04_lanes).
-/
set_option autoImplicit false

namespace Sys2Proof.Machine
open Reg Bit

/-- PLL_UNLOCK (R87). -/
def execPllUnlock (pll : Fin 8) (s : State) : Result :=
  .next (whenUp (pllUnlock pll) s)

/-- PLL_LOCK (R87). -/
def execPllLock (pll : Fin 8) (s : State) : Result :=
  .next (whenUp (pllLock pll) s)

/-- TX_APPLY_GO (R91): a write of go. -/
def execTxApplyGo (src : Source) (lane : Lane) (s : State) : Result :=
  .next (write src (LANE_TX_APPLY lane) 1 s)

/-- TOW_SHAPE_WRITE (R96): a write of the coefficient that LANE_TOW_SHAPE_IDX selects. -/
def execTowShapeWrite (src : Source) (lane : Lane) (value : Word) (s : State) : Result :=
  .next (write src (LANE_TOW_SHAPE_DATA lane) value s)

/-- MASK_WINDOW_END (R99). -/
def execMaskWindowEnd (lane : Lane) (levels : List Nat) (s : State) : Result :=
  .next (whenUp (maskWindow lane levels) s)

/-- LOS_ASSERT (R107). -/
def execLosAssert (lane : Lane) (amp : Nat) (s : State) : Result :=
  .next (whenUp (losTrigger lane amp) s)

/-- LOS_DEASSERT (R107). -/
def execLosDeassert (lane : Lane) (amp : Nat) (s : State) : Result :=
  .next (whenUp (losDeasserted lane amp) s)

/-- CDR_UNLOCK (R106). -/
def execCdrUnlock (lane : Lane) (s : State) : Result :=
  .next (whenUp (cdrTrigger lane) s)

/-- ADAPT_RESTORE (R110). -/
def execAdaptRestore (lane : Lane) (snr : Nat) (s : State) : Result :=
  .next (whenUp (divergence lane snr) s)

/-- COEFFICIENT_SAVE (R112): in S7. -/
def execCoefficientSave (lane : Lane) (s : State) : Result :=
  .next (if s.up && s.stage (portOf lane) == 7 then saveCoeffs lane s else s)

/-- EQ_WRITE_GO (R113): a write with go set. -/
def execEqWriteGo (src : Source) (lane : Lane) (value : Word) (s : State) : Result :=
  .next (write src (LANE_EQ_WR lane) (value.withBits 31 31 1) s)

/-- PRBS_LOCK (R115). -/
def execPrbsLock (lane : Lane) (s : State) : Result :=
  .next (whenUp (prbsLocked lane) s)

/-- PRBS_LOCK_LOST (R115). -/
def execPrbsLockLost (lane : Lane) (count : LaneCount) (s : State) : Result :=
  .next (whenUp (prbsLost lane count.symbols count.symErrs count.bitErrs) s)

/-- PRBS_CLEAR (R116): a write with clear set. -/
def execPrbsClear (src : Source) (lane : Lane) (value : Word) (s : State) : Result :=
  .next (write src (LANE_PRBS_CTRL lane) (value.withBits 8 8 1) s)

/-- CLEAR_PREFEC (R117): a write with clear_prefec set. -/
def execClearPrefec (src : Source) (lane : Lane) (value : Word) (s : State) : Result :=
  .next (write src (LANE_CTRL lane) (value.withBits 8 8 1) s)

/-- EYE_START (R118): a write with start set. -/
def execEyeStart (src : Source) (lane : Lane) (value : Word) (s : State) : Result :=
  .next (write src (LANE_EYE_CTRL lane) (value.withBits 0 0 1) s)

/-- EYE_DONE (R118). -/
def execEyeDone (lane : Lane) (aborted : Bool) (v0 : Word) (v1 : Word) (h : Word) (s : State) : Result :=
  .next (whenUp (eyeEnd lane aborted v0 v1 h) s)

end Sys2Proof.Machine
end

