-- ==== Sys2Proof/Machine/CmdLink.lean ====
section
/-!
DEFINITION. Machine/CmdLink.lean: the commands of Uzoset links (07_uzoset_link).
-/
set_option autoImplicit false

namespace Sys2Proof.Machine
open Reg Bit

/-- FLIT_RECEIVED (R196). -/
def execFlitReceived (port : Port) (bytes : List Byte) (startOk : Bool) (s : State) : Result :=
  .next (whenUp (flitReceived port bytes startOk) s)

/-- FLIT_SEND (R195). -/
def execFlitSend (port : Port) (s : State) : Result :=
  .next (whenUp (flitSend port) s)

/-- ACK_TIMEOUT (R200). -/
def execAckTimeout (port : Port) (s : State) : Result :=
  .next (whenUp (ackTimeout port) s)

/-- RREQ_REPEAT (R198). -/
def execRreqRepeat (port : Port) (s : State) : Result :=
  .next (whenUp (rreqRepeat port) s)

/-- DELAY_TIMER (R224). -/
def execDelayTimer (port : Port) (source : Nat) (tag : Nat) (s : State) : Result :=
  .next (whenUp (delayTimer port source tag) s)

/-- TRANSACTION_SEND (R228). -/
def execTransactionSend (port : Port) (s : State) : Result :=
  .next (whenUp (fun s => boxesSettle (transactionSend port s)) s)

/-- REQUEST_TABLE_ADMIT (R210). -/
def execRequestTableAdmit (port : Port) (s : State) : Result :=
  .next (whenUp (fun s => runNext port (admitNext port s)) s)

/-- CPL (R551). -/
def execCpl (port : Port) (header : Header) (data : List Byte) (s : State) : Result :=
  .next (whenUp (otherArrives port ⟨withOpcode header 0x20, data⟩ (responseArrives port ⟨withOpcode header 0x20, data⟩)) s)

/-- NAK (R551). -/
def execNak (port : Port) (header : Header) (data : List Byte) (s : State) : Result :=
  .next (whenUp (otherArrives port ⟨withOpcode header 0x21, data⟩ (responseArrives port ⟨withOpcode header 0x21, data⟩)) s)

/-- DELAY (R551). -/
def execDelay (port : Port) (header : Header) (data : List Byte) (s : State) : Result :=
  .next (whenUp (otherArrives port ⟨withOpcode header 0x22, data⟩ (responseArrives port ⟨withOpcode header 0x22, data⟩)) s)

/-- EVT (R400). -/
def execEvt (port : Port) (header : Header) (data : List Byte) (s : State) : Result :=
  .next (whenUp (otherArrives port ⟨withOpcode header 0x30, data⟩ (unexpected port)) s)

/-- QSTATE (R400). -/
def execQstate (port : Port) (header : Header) (data : List Byte) (s : State) : Result :=
  .next (whenUp (otherArrives port ⟨withOpcode header 0x31, data⟩ (unexpected port)) s)

/-- UNKNOWN_OPCODE (R212). -/
def execUnknownOpcode (port : Port) (header : Header) (data : List Byte) (s : State) : Result :=
  .next (whenUp (unknownArrives port ⟨header, data⟩) s)

/-- UZ_CLR (R116): a write of clear. -/
def execUzClr (src : Source) (port : Port) (s : State) : Result :=
  .next (write src (UZ_CLR port) 1 s)

/-- CFG_RD (R212). -/
def execCfgRd (port : Port) (header : Header) (data : List Byte) (s : State) : Result :=
  .next (whenUp (requestArrives port ⟨withOpcode header Op.cfgRd, data⟩ []) s)

/-- CFG_WR (R222). -/
def execCfgWr (port : Port) (header : Header) (data : List Byte) (s : State) : Result :=
  .next (whenUp (requestArrives port ⟨withOpcode header Op.cfgWr, data⟩ []) s)

/-- MBX (R469). -/
def execMbx (port : Port) (header : Header) (data : List Byte) (s : State) : Result :=
  .next (whenUp (requestArrives port ⟨withOpcode header Op.mbx, data⟩ []) s)

end Sys2Proof.Machine
end

