-- ==== Sys2Proof/Machine/CmdMemory.lean ====
section
/-!
DEFINITION. Machine/CmdMemory.lean: the commands of memory services (08_memory_services).
-/
set_option autoImplicit false

namespace Sys2Proof.Machine
open Reg Bit

/-- RD (R238). -/
def execRd (port : Port) (header : Header) (data : List Byte) (sram : List (Nat × Bool)) (s : State) : Result :=
  .next (whenUp (requestArrives port ⟨withOpcode header Op.rd, data⟩ sram) s)

/-- WR (R239). -/
def execWr (port : Port) (header : Header) (data : List Byte) (sram : List (Nat × Bool)) (s : State) : Result :=
  .next (whenUp (requestArrives port ⟨withOpcode header Op.wr, data⟩ sram) s)

/-- WRM (R239). -/
def execWrm (port : Port) (header : Header) (data : List Byte) (sram : List (Nat × Bool)) (s : State) : Result :=
  .next (whenUp (requestArrives port ⟨withOpcode header Op.wrm, data⟩ sram) s)

/-- ENQ (R253). -/
def execEnq (port : Port) (header : Header) (data : List Byte) (sram : List (Nat × Bool)) (s : State) : Result :=
  .next (whenUp (requestArrives port ⟨withOpcode header Op.enq, data⟩ sram) s)

/-- DEQ (R255). -/
def execDeq (port : Port) (header : Header) (data : List Byte) (sram : List (Nat × Bool)) (s : State) : Result :=
  .next (whenUp (requestArrives port ⟨withOpcode header Op.deq, data⟩ sram) s)

/-- PEEK (R255). -/
def execPeek (port : Port) (header : Header) (data : List Byte) (sram : List (Nat × Bool)) (s : State) : Result :=
  .next (whenUp (requestArrives port ⟨withOpcode header Op.peek, data⟩ sram) s)

/-- DROP (R258). -/
def execDrop (port : Port) (header : Header) (data : List Byte) (sram : List (Nat × Bool)) (s : State) : Result :=
  .next (whenUp (requestArrives port ⟨withOpcode header Op.drop, data⟩ sram) s)

/-- MOVE (R259). -/
def execMove (port : Port) (header : Header) (data : List Byte) (sram : List (Nat × Bool)) (s : State) : Result :=
  .next (whenUp (requestArrives port ⟨withOpcode header Op.move, data⟩ sram) s)

/-- CNT_ADD (R263). -/
def execCntAdd (port : Port) (header : Header) (data : List Byte) (sram : List (Nat × Bool)) (s : State) : Result :=
  .next (whenUp (requestArrives port ⟨withOpcode header Op.cntAdd, data⟩ sram) s)

/-- CNT_RDCLR (R264). -/
def execCntRdclr (port : Port) (header : Header) (data : List Byte) (sram : List (Nat × Bool)) (s : State) : Result :=
  .next (whenUp (requestArrives port ⟨withOpcode header Op.cntRdclr, data⟩ sram) s)

/-- FADD (R265). -/
def execFadd (port : Port) (header : Header) (data : List Byte) (sram : List (Nat × Bool)) (s : State) : Result :=
  .next (whenUp (requestArrives port ⟨withOpcode header Op.fadd, data⟩ sram) s)

/-- CAS (R266). -/
def execCas (port : Port) (header : Header) (data : List Byte) (sram : List (Nat × Bool)) (s : State) : Result :=
  .next (whenUp (requestArrives port ⟨withOpcode header Op.cas, data⟩ sram) s)

/-- METER (R269). -/
def execMeter (port : Port) (header : Header) (data : List Byte) (sram : List (Nat × Bool)) (s : State) : Result :=
  .next (whenUp (requestArrives port ⟨withOpcode header Op.meter, data⟩ sram) s)

/-- POOL_REBUILT (R249). -/
def execPoolRebuilt (pool : Fin 16) (s : State) : Result :=
  .next (whenUp (rebuildEnd pool) s)

/-- QIND_READ (R251): a write with op READ and go. -/
def execQindRead (src : Source) (value : Word) (s : State) : Result :=
  .next (write src SVC_QIND_CTRL ((value.withBits 25 24 0).withBits 31 31 1) s)

/-- SET_PROFILE (R252): a write with op SET_PROFILE and go. -/
def execSetProfile (src : Source) (value : Word) (s : State) : Result :=
  .next (write src SVC_QIND_CTRL ((value.withBits 25 24 1).withBits 31 31 1) s)

/-- METER_SWEEP (R271). -/
def execMeterSweep (s : State) : Result :=
  .next (whenUp meterSweep s)

/-- METER_SWEEP_LATE (R271). -/
def execMeterSweepLate (s : State) : Result :=
  .next (whenUp meterSweepLate s)

/-- SVC_CLR (R116): a write of clear. -/
def execSvcClr (src : Source) (s : State) : Result :=
  .next (write src SVC_CLR 1 s)

end Sys2Proof.Machine
end

