-- ==== Sys2Proof/Machine/CmdModes.lean ====
section
/-!
DEFINITION. Machine/CmdModes.lean: the commands of modes and wakes (16_modes_and_supply).
-/
set_option autoImplicit false

namespace Sys2Proof.Machine
open Reg Bit

/-- REQUEST_SERVICE (R436): a write with target SERVICE and go. -/
def execRequestService (src : Source) (value : Word) (s : State) : Result :=
  .next (write src PWR_MODE_REQ ((value.withBits 19 16 Mode.service).withBits 31 31 1) s)

/-- REQUEST_IDLE (R439): a write with target IDLE and go. -/
def execRequestIdle (src : Source) (value : Word) (s : State) : Result :=
  .next (write src PWR_MODE_REQ ((value.withBits 19 16 Mode.idle).withBits 31 31 1) s)

/-- REQUEST_RETENTION (R439): a write with target RETENTION and go. -/
def execRequestRetention (src : Source) (value : Word) (s : State) : Result :=
  .next (write src PWR_MODE_REQ ((value.withBits 19 16 Mode.retention).withBits 31 31 1) s)

/-- REQUEST_MAINTENANCE (R439): a write with target MAINTENANCE and go. -/
def execRequestMaintenance (src : Source) (value : Word) (s : State) : Result :=
  .next (write src PWR_MODE_REQ ((value.withBits 19 16 Mode.maintenance).withBits 31 31 1) s)

/-- REQUEST_SAFE (R438): a write with target SAFE and go. -/
def execRequestSafe (src : Source) (value : Word) (s : State) : Result :=
  .next (write src PWR_MODE_REQ ((value.withBits 19 16 Mode.safe).withBits 31 31 1) s)

/-- REQUEST_COLD (R439): a write with target COLD and go. -/
def execRequestCold (src : Source) (value : Word) (s : State) : Result :=
  .next (write src PWR_MODE_REQ ((value.withBits 19 16 Mode.cold).withBits 31 31 1) s)

/-- DRAIN_DONE (R439). -/
def execDrainDone (s : State) : Result :=
  .next (whenUp drainEnd s)

/-- DRAIN_TIMEOUT (R440). -/
def execDrainTimeout (s : State) : Result :=
  .next (whenUp drainTimeout s)

/-- ENTRY_FLUSH_DONE (R439). -/
def execEntryFlushDone (s : State) : Result :=
  .next (whenUp flushEnd s)

/-- WAIT_INSTRUCTION (R439). -/
def execWaitInstruction (s : State) : Result :=
  .next (whenUp waitInstruction s)

/-- IDLE_EXIT (R445). -/
def execIdleExit (s : State) : Result :=
  .next (whenUp idleExit s)

/-- RETENTION_EXIT (R439): with the purser's clock its watchdog starts over. -/
def execRetentionExit (outcomes : List TrainOutcome) (bad : List SentinelRead) (us : Nat) (s : State) : Result :=
  .next (retentionResume outcomes bad us s)

/-- RETENTION_RELEASE (R447). -/
def execRetentionRelease (s : State) : Result :=
  .next (whenUp retentionRelease s)

/-- MAINTENANCE_EXIT (R439). -/
def execMaintenanceExit (s : State) : Result :=
  .next (whenUp maintenanceExit s)

/-- WAKE_N_LOW (R441). -/
def execWakeNLow (s : State) : Result :=
  .next (wakeSource 16 s)

/-- SHUTDOWN_PHASE_DONE (R529). -/
def execShutdownPhaseDone (findings : List Finding) (flashOk : Bool) (s : State) : Result :=
  .next (whenUp (shutdownPhase findings flashOk) s)

/-- CONFIGURATION_COPY_DONE (R439). -/
def execConfigurationCopyDone (s : State) : Result :=
  .next (whenUp copyDone s)

end Sys2Proof.Machine
end

