-- ==== Sys2Proof/Machine/CmdPorts.lean ====
section
/-!
DEFINITION. Machine/CmdPorts.lean: the commands of bring-up and FEC (05_bringup_and_fec).
-/
set_option autoImplicit false

namespace Sys2Proof.Machine
open Reg Bit

/-- PORT_ENABLE (R128): a write with enable set. -/
def execPortEnable (src : Source) (port : Port) (value : Word) (s : State) : Result :=
  .next (write src (PORT_CTRL port) (value.withBits 0 0 1) s)

/-- PORT_DISABLE (R160): a write with enable clear. -/
def execPortDisable (src : Source) (port : Port) (value : Word) (s : State) : Result :=
  .next (write src (PORT_CTRL port) (value.withBits 0 0 0) s)

/-- TEST_HOLD_SET (R159): a write with test_hold set. -/
def execTestHoldSet (src : Source) (port : Port) (value : Word) (s : State) : Result :=
  .next (write src (PORT_CTRL port) (value.withBits 1 1 1) s)

/-- TEST_HOLD_CLEAR (R159): a write with test_hold clear. -/
def execTestHoldClear (src : Source) (port : Port) (value : Word) (s : State) : Result :=
  .next (write src (PORT_CTRL port) (value.withBits 1 1 0) s)

/-- RETRAIN (R144): a write with retrain set. -/
def execRetrain (src : Source) (port : Port) (value : Word) (s : State) : Result :=
  .next (write src (PORT_CTRL port) (value.withBits 2 2 1) s)

/-- STEP_GO (R149): a write with step_go set. -/
def execStepGo (src : Source) (port : Port) (value : Word) (s : State) : Result :=
  .next (write src (PORT_CTRL port) (value.withBits 3 3 1) s)

/-- CAP_TIMER (R132). -/
def execCapTimer (port : Port) (s : State) : Result :=
  .next (whenUp (capTimer port) s)

/-- CAP (R132). -/
def execCap (port : Port) (payload : List Byte) (s : State) : Result :=
  .next (frameArrives port payload (capArrives port payload) s)

/-- SEL (R133). -/
def execSel (port : Port) (payload : List Byte) (s : State) : Result :=
  .next (frameArrives port payload (selArrives port payload) s)

/-- GO (R134). -/
def execGo (port : Port) (payload : List Byte) (s : State) : Result :=
  .next (frameArrives port payload (goArrives port payload) s)

/-- GO_TIMEOUT (R134). -/
def execGoTimeout (port : Port) (s : State) : Result :=
  .next (whenUp (goTimeout port) s)

/-- LEDGER_RETRY (R135). -/
def execLedgerRetry (port : Port) (s : State) : Result :=
  .next (whenUp (ledgerRetry port) s)

/-- NEGOTIATE_RESTART (R128). -/
def execNegotiateRestart (port : Port) (s : State) : Result :=
  .next (whenUp (negotiateRestart port) s)

/-- STAGE_TIMEOUT (R130). -/
def execStageTimeout (port : Port) (s : State) : Result :=
  .next (whenUp (stageTimeout port) s)

/-- DEADLINE (R129). -/
def execDeadline (port : Port) (s : State) : Result :=
  .next (whenUp (deadline port) s)

/-- TRAINING_FRAME (R138). -/
def execTrainingFrame (lane : Lane) (control : Word) (crc : Fin 65536) (inverted : Bool) (s : State) : Result :=
  .next (whenUp (trainingFrame lane control crc inverted) s)

/-- THRESHOLD_MET (R140). -/
def execThresholdMet (lane : Lane) (snr : Nat) (peak : Nat) (offset : Int) (s : State) : Result :=
  .next (whenUp (thresholdMet lane snr peak offset) s)

/-- LOCK_PAIR (R142). -/
def execLockPair (port : Port) (symbols : List Nat) (own : Bool) (skew : Nat) (s : State) : Result :=
  .next (whenUp (lockPair port symbols own skew) s)

/-- PRBS_VERIFY_END (R143). -/
def execPrbsVerifyEnd (port : Port) (lanes : List LaneCount) (s : State) : Result :=
  .next (whenUp (prbsDwellEnd port lanes) s)

/-- QR_REQ (R145). -/
def execQrReq (port : Port) (payload : List Byte) (s : State) : Result :=
  .next (frameArrives port payload (qrReqArrives port payload) s)

/-- QR_ACK (R145). -/
def execQrAck (port : Port) (payload : List Byte) (s : State) : Result :=
  .next (frameArrives port payload (qrAckArrives port payload) s)

/-- QR_TIMEOUT (R145). -/
def execQrTimeout (port : Port) (s : State) : Result :=
  .next (whenUp (qrTimeout port) s)

/-- STEP (R150). -/
def execStep (port : Port) (payload : List Byte) (s : State) : Result :=
  .next (frameArrives port payload (stepArrives port payload) s)

/-- STEP_ACK (R149). -/
def execStepAck (port : Port) (payload : List Byte) (s : State) : Result :=
  .next (frameArrives port payload (stepAckArrives port payload) s)

/-- DEGRADE_WINDOW (R158). -/
def execDegradeWindow (port : Port) (s : State) : Result :=
  .next (whenUp (degradeWindow port) s)

/-- CODEWORD_DECODE (R153). -/
def execCodewordDecode (port : Port) (received : List Nat) (s : State) : Result :=
  .next (whenUp (codewordDecode port received) s)

/-- INNER_BLOCK_DECODE (R155). -/
def execInnerBlockDecode (lane : Lane) (llr : List Int) (s : State) : Result :=
  .next (whenUp (innerBlockDecode lane llr) s)

/-- PORT_STATS_CLR (R116): a write of clear. -/
def execPortStatsClr (src : Source) (port : Port) (s : State) : Result :=
  .next (write src (PORT_STATS_CLR port) 1 s)

end Sys2Proof.Machine
end

