-- ==== Sys2Proof/Machine/CmdPurser.lean ====
section
/-!
DEFINITION. Machine/CmdPurser.lean: the commands of the purser: watchdog, I3C, mailbox commands and jobs (17_purser_events_snapshot).
-/
set_option autoImplicit false

namespace Sys2Proof.Machine
open Reg Bit

/-- WATCHDOG_RESTART (R462). -/
def execWatchdogRestart (s : State) : Result :=
  .next (watchdogRestart s)

/-- WATCHDOG_EXPIRY (R462). -/
def execWatchdogExpiry (pc : Word) (s : State) : Result :=
  .next (watchdogExpiry pc s)

/-- PURSER_FAULT (R462). -/
def execPurserFault (kind : Fin 3) (pc : Word) (s : State) : Result :=
  .next (purserFault (kind.val + 2) pc s)

/-- I3C_BUFFER_WRITE (R468). -/
def execI3cBufferWrite (bytes : List Byte) (s : State) : Result :=
  .next (i3cWrite bytes s)

/-- I3C_PRIVATE_READ (R468). -/
def execI3cPrivateRead (count : Nat) (s : State) : Result :=
  .next (i3cRead count s)

/-- SUBMIT (R466): 0x01 written to window 2. -/
def execSubmit (mailbox : Fin 8) (s : State) : Result :=
  .next (i3cWrite [BitVec.ofNat 8 (32 * mailbox.val + 8), 0, 1] s)

/-- MAILBOX_RELEASE (R466): 0x02 written to window 2. -/
def execMailboxRelease (mailbox : Fin 8) (s : State) : Result :=
  .next (i3cWrite [BitVec.ofNat 8 (32 * mailbox.val + 8), 0, 2] s)

/-- MAILBOX_DONE_TIMEOUT (R466). -/
def execMailboxDoneTimeout (mailbox : Fin 8) (s : State) : Result :=
  .next (whenUp (i3cRelease mailbox) s)

/-- MBX_TIMEOUT (R472). -/
def execMbxTimeout (mailbox : Fin 8) (s : State) : Result :=
  .next (whenUp (boxTimeout mailbox) s)

/-- ENTDAA (R467): for a target without a dynamic address. -/
def execEntdaa (addr : Fin 128) (s : State) : Result :=
  .next (i3cCommand false (fun s => if s.flag MBX_I3C_dyn_valid then s else setDynamic addr s) s)

/-- SETDASA (R467): for a target without a dynamic address. -/
def execSetdasa (addr : Fin 128) (s : State) : Result :=
  .next (i3cCommand true (fun s => if s.flag MBX_I3C_dyn_valid then s else setDynamic addr s) s)

/-- SETNEWDA (R467): for a target with a dynamic address. -/
def execSetnewda (addr : Fin 128) (s : State) : Result :=
  .next (i3cCommand true (fun s => if s.flag MBX_I3C_dyn_valid then setDynamic addr s else s) s)

/-- RSTDAA (R467). -/
def execRstdaa (s : State) : Result :=
  .next (i3cCommand false (fun s => (s.put MBX_I3C_dyn 0).put MBX_I3C_dyn_valid 0) s)

/-- GETPID (R467). -/
def execGetpid (s : State) : Result :=
  .next (i3cCommand true (fun s => s.returned 0 (bytesBE 6 (provisionalId s))) s)

/-- GETBCR (R467). -/
def execGetbcr (s : State) : Result :=
  .next (i3cCommand true (fun s => s.returned 0 [0]) s)

/-- GETDCR (R467). -/
def execGetdcr (s : State) : Result :=
  .next (i3cCommand true (fun s => s.returned 0 [0]) s)

/-- GETSTATUS (R467): two bytes whose content is not stated: a free value (log entry 2). -/
def execGetstatus (s : State) : Result :=
  .next (i3cCommand true (fun s => s.drew.returned 0 (bytesBE 2 (s.drawn 16))) s)

/-- GETMWL (R467). -/
def execGetmwl (s : State) : Result :=
  .next (i3cCommand true (fun s => s.returned 0 (bytesBE 2 s.purser.mwl)) s)

/-- GETMRL (R467). -/
def execGetmrl (s : State) : Result :=
  .next (i3cCommand true (fun s => s.returned 0 (bytesBE 2 s.purser.mrl)) s)

/-- SETMWL (R467). -/
def execSetmwl (direct : Bool) (limit : Fin 65536) (s : State) : Result :=
  .next (i3cCommand direct (fun s => s.modPurser fun x => { x with mwl := min 1026 limit.val }) s)

/-- SETMRL (R467). -/
def execSetmrl (direct : Bool) (limit : Fin 65536) (s : State) : Result :=
  .next (i3cCommand direct (fun s => s.modPurser fun x => { x with mrl := min 1026 limit.val }) s)

/-- ENEC (R467): acknowledged, without effect. -/
def execEnec (direct : Bool) (s : State) : Result :=
  .next (i3cCommand direct (fun s => s) s)

/-- DISEC (R467): acknowledged, without effect. -/
def execDisec (direct : Bool) (s : State) : Result :=
  .next (i3cCommand direct (fun s => s) s)

/-- I3C_ERROR (R467). -/
def execI3cError (s : State) : Result :=
  .next (i3cError s)

/-- IDENTITY (R474). -/
def execIdentity (mailbox : Fin 8) (s : State) : Result :=
  .next (command mailbox 0x01 (sized 0) runIdentity s)

/-- STATUS (R474). -/
def execStatus (mailbox : Fin 8) (s : State) : Result :=
  .next (command mailbox 0x02 (sized 0) runStatus s)

/-- RESET (R474). -/
def execReset (mailbox : Fin 8) (s : State) : Result :=
  .next (command mailbox 0x03 (sized 4) runReset s)

/-- CFG_READ (R475). -/
def execCfgRead (mailbox : Fin 8) (s : State) : Result :=
  .next (command mailbox 0x10 (fun l => sized 8 l && countIn 4 250 l) (runCfgRead mailbox) s)

/-- CFG_WRITE (R475). -/
def execCfgWrite (mailbox : Fin 8) (s : State) : Result :=
  .next (command mailbox 0x11 (fun l => countIn 4 250 l && sized (8 + 4 * payloadNum l 4 2) l) (runCfgWrite mailbox) s)

/-- EVT_LOG_READ (R474). -/
def execEvtLogRead (mailbox : Fin 8) (s : State) : Result :=
  .next (command mailbox 0x20 (fun l => sized 4 l && countIn 2 63 l) runEvtLogRead s)

/-- MODE (R474). -/
def execMode (mailbox : Fin 8) (s : State) : Result :=
  .next (command mailbox 0x30 (sized 4) runMode s)

/-- FLASH_READ (R474). -/
def execFlashRead (mailbox : Fin 8) (data : Option (List Byte)) (s : State) : Result :=
  .next (command mailbox 0x40 (fun l => sized 8 l && countIn 4 1008 l) (runFlashRead data) s)

/-- FLASH_WRITE (R474). -/
def execFlashWrite (mailbox : Fin 8) (s : State) : Result :=
  .next (command mailbox 0x41 (fun l => countIn 4 512 l && sized (8 + payloadNum l 4 2) l) runFlashWrite s)

/-- OTP_READ (R509). -/
def execOtpRead (mailbox : Fin 8) (s : State) : Result :=
  .next (command mailbox 0x50 (fun l => sized 8 l && countIn 4 200 l) runOtpRead s)

/-- OTP_PROGRAM (R515). -/
def execOtpProgram (mailbox : Fin 8) (s : State) : Result :=
  .next (command mailbox 0x51 (fun l => countIn 4 200 l && sized (8 + 4 * payloadNum l 4 2) l) runOtpProgram s)

/-- OTP_SEAL (R519). -/
def execOtpSeal (mailbox : Fin 8) (s : State) : Result :=
  .next (command mailbox 0x52 (sized 4) runOtpSeal s)

/-- BIST_RUN (R542). -/
def execBistRun (mailbox : Fin 8) (s : State) : Result :=
  .next (command mailbox 0x60 (sized 4) runBistRun s)

/-- LEDGER_READ (R474). -/
def execLedgerRead (mailbox : Fin 8) (data : Option (List Byte)) (s : State) : Result :=
  .next (command mailbox 0x61 (fun l => sized 8 l && countIn 4 1008 l) (runLedgerRead data) s)

/-- RETIRE (R474). -/
def execRetire (mailbox : Fin 8) (s : State) : Result :=
  .next (command mailbox 0x62 (sized 4) runRetire s)

/-- ROW_REPAIR (R474). -/
def execRowRepair (mailbox : Fin 8) (s : State) : Result :=
  .next (command mailbox 0x63 (sized 8) runRowRepair s)

/-- SNAPSHOT (R484). -/
def execSnapshot (mailbox : Fin 8) (s : State) : Result :=
  .next (command mailbox 0x70 (sized 0) runSnapshot s)

/-- SNAP_READ (R474). -/
def execSnapRead (mailbox : Fin 8) (s : State) : Result :=
  .next (command mailbox 0x71 (fun l => sized 8 l && countIn 4 250 l) runSnapRead s)

/-- MODEL_READ (R474). -/
def execModelRead (mailbox : Fin 8) (s : State) : Result :=
  .next (command mailbox 0x80 (fun l => sized 4 l && decide (1 ≤ payloadNum l 1 1 ∧ payloadNum l 1 1 ≤ 5)) runModelRead s)

/-- JOB_RESULT (R476). -/
def execJobResult (mailbox : Fin 8) (s : State) : Result :=
  .next (command mailbox 0x90 (sized 4) runJobResult s)

/-- UNKNOWN_COMMAND (R473). -/
def execUnknownCommand (mailbox : Fin 8) (s : State) : Result :=
  .next (unknownCommand mailbox s)

/-- JOB_DONE (R476). -/
def execJobDone (job : Fin 256) (flashOk : Bool) (outcome : OtpOutcome) (findings : List Finding) (s : State) : Result :=
  .next (jobDoneAt job flashOk outcome findings s)

/-- WATCHDOG_COUNT_CLEAR (R464). -/
def execWatchdogCountClear (s : State) : Result :=
  .next (whenUp watchdogCountClear s)

end Sys2Proof.Machine
end

