-- ==== Sys2Proof/Machine/CmdRegisters.lean ====
section
/-!
DEFINITION. Machine/CmdRegisters.lean: the commands of events, snapshots, register accesses and OTP (17_purser_events_snapshot, 18_registers_and_otp).
-/
set_option autoImplicit false

namespace Sys2Proof.Machine
open Reg Bit

/-- EVT_PEND_READ (R478). -/
def execEvtPendRead (src : Source) (index : Fin 12) (s : State) : Result :=
  .next (readOut src (EVT_PEND index) s)

/-- CAUSE_READ (R493). -/
def execCauseRead (src : Source) (addr : CfgAddr) (s : State) : Result :=
  .next (readOut src addr s)

/-- EVT_LOG_TAIL_WRITE (R481). -/
def execEvtLogTailWrite (src : Source) (value : Word) (s : State) : Result :=
  .next (write src EVT_LOG_TAIL value s)

/-- EVT_LOG_W0_READ (R481). -/
def execEvtLogW0Read (src : Source) (s : State) : Result :=
  .next (readOut src (EVT_LOG_W 0) s)

/-- EVT_CLR (R116): a write of clear. -/
def execEvtClr (src : Source) (s : State) : Result :=
  .next (write src EVT_CLR 1 s)

/-- SH_LO_READ (R497). -/
def execShLoRead (src : Source) (addr : CfgAddr) (s : State) : Result :=
  .next (readOut src addr s)

/-- SNAP_N_LOW (R484). -/
def execSnapNLow (s : State) : Result :=
  .next (whenUp snapPin s)

/-- SNAP_GO (R484): a write with go set. -/
def execSnapGo (src : Source) (value : Word) (s : State) : Result :=
  .next (write src SNAP_CTRL (value.withBits 0 0 1) s)

/-- SNAP_LATCH (R485). -/
def execSnapLatch (rails : List Nat) (s : State) : Result :=
  .next (whenUp (snapLatch rails) s)

/-- SNAP_DONE (R487). -/
def execSnapDone (s : State) : Result :=
  .next (whenUp snapDone s)

/-- SNAP_ACK (R487). -/
def execSnapAck (src : Source) (value : Word) (s : State) : Result :=
  .next (write src SNAP_ACK value s)

/-- SNAP_RD_DATA_READ (R488). -/
def execSnapRdDataRead (src : Source) (s : State) : Result :=
  .next (readOut src SNAP_RD_DATA s)

/-- SNAP_CLR (R116): a write of clear. -/
def execSnapClr (src : Source) (s : State) : Result :=
  .next (write src SNAP_CLR 1 s)

/-- MBX_CLR (R116): a write of clear. -/
def execMbxClr (src : Source) (s : State) : Result :=
  .next (write src MBX_CLR 1 s)

/-- GLB_LOCK_WRITE (R500). -/
def execGlbLockWrite (src : Source) (value : Word) (s : State) : Result :=
  .next (write src GLB_LOCK value s)

/-- SW_FLAGS_WRITE (R495). -/
def execSwFlagsWrite (src : Source) (value : Word) (s : State) : Result :=
  .next (write src GLB_SW_FLAGS value s)

/-- CFG_COMMIT (R503): a write of go. -/
def execCfgCommit (src : Source) (s : State) : Result :=
  .next (write src CFG_COMMIT 1 s)

/-- CFG_CHECK_PASS (R502). -/
def execCfgCheckPass (s : State) : Result :=
  .next (checkPass s)

/-- REGISTER_WRITE (R498). -/
def execRegisterWrite (src : Source) (addr : CfgAddr) (value : Word) (s : State) : Result :=
  .next (write src addr value s)

/-- OTP_REREAD (R513): it waits for a running OTP job. -/
def execOtpReread (bad : List OtpRead) (s : State) : Result :=
  .next (otpRereadPass (bad.map fun x => ⟨x.region, x.word, x.goodA, x.goodB⟩) s)

/-- SNAP_N_PULSE_END (R486). -/
def execSnapNPulseEnd (s : State) : Result :=
  .next (whenUp snapPulseEnd s)

/-- VQPS_OUT_OF_RANGE (R515). -/
def execVqpsOutOfRange (mv : Nat) (written : Nat) (s : State) : Result :=
  .next (vqpsLost mv written s)

end Sys2Proof.Machine
end

