-- ==== Sys2Proof/Machine/CmdStack.lean ====
section
/-!
DEFINITION. Machine/CmdStack.lean: the commands of the core dies and their controllers (11_dram_stack).
-/
set_option autoImplicit false

namespace Sys2Proof.Machine
open Reg Bit

/-- CA_PARITY (R335). -/
def execCaParity (hc : Hc) (s : State) : Result :=
  .next (whenUp (caParity hc) s)

/-- FIELD_RETRAIN (R346). -/
def execFieldRetrain (hc : Hc) (s : State) : Result :=
  .next (whenUp (fieldRetrain hc) s)

/-- FIELD_RETRAIN_END (R346). -/
def execFieldRetrainEnd (outcome : TrainOutcome) (s : State) : Result :=
  .next (whenUp (fieldRetrainEnd outcome) s)

/-- TRACKING_PASS (R345). -/
def execTrackingPass (hc : Hc) (errors : Bool) (wckMove : Int) (dqMoves : List (Nat × Int)) (s : State) : Result :=
  .next (whenUp (trackingPass hc errors wckMove dqMoves) s)

/-- HC_CTRL_RETRAIN (R346): a write with retrain set. -/
def execHcCtrlRetrain (src : Source) (hc : Hc) (value : Word) (s : State) : Result :=
  .next (write src (HC_CTRL hc) (value.withBits 0 0 1) s)

/-- HC_REPAIR_GO (R350): a write of go. -/
def execHcRepairGo (src : Source) (hc : Hc) (s : State) : Result :=
  .next (write src (HC_REPAIR_CTRL hc) 1 s)

/-- REPAIR_RELEASE (R351). -/
def execRepairRelease (hc : Hc) (s : State) : Result :=
  .next (whenUp (fun s => rowRepairEnd hc (repairRelease hc s)) s)

/-- SELF_REFRESH_CONFIRM (R340). -/
def execSelfRefreshConfirm (die : Die) (s : State) : Result :=
  .next (srfConfirm die s)

/-- DIE_HOT (R341). -/
def execDieHot (die : Die) (hot85 : Bool) (hot95 : Bool) (s : State) : Result :=
  .next (whenUp (dieHot die hot85 hot95) s)

/-- MW_COPY_REFRESH (R355). -/
def execMwCopyRefresh (die : Die) (s : State) : Result :=
  .next (whenUp (copyRefresh die) s)

/-- HC_CLR (R116): a write of clear. -/
def execHcClr (src : Source) (hc : Hc) (s : State) : Result :=
  .next (write src (HC_CLR hc) 1 s)

/-- SRF_UNCONFIRMED (R440). -/
def execSrfUnconfirmed (die : Die) (s : State) : Result :=
  .next (srfUnconfirmed die s)

end Sys2Proof.Machine
end

