-- ==== Sys2Proof/Machine/CmdStart.lean ====
section
/-!
DEFINITION. Machine/CmdStart.lean: the commands of pins, rails, resets and START (02_package, 03_start_and_reset).
-/
set_option autoImplicit false

namespace Sys2Proof.Machine
open Reg Bit

/-- VAON_POR_RISE (R72). -/
def execVaonPorRise (s : State) : Result :=
  .next (vaonRise s)

/-- VAON_POR_FALL (R82). -/
def execVaonPorFall (s : State) : Result :=
  .next (vaonFall s)

/-- SEQUENCE_VIOLATION (R45): recorded for the next START. -/
def execSequenceViolation (s : State) : Result :=
  .next (s.modAlways fun x => { x with seqViolation := true })

/-- PWRGOOD_RISE (R55): START proceeds by START_BEGIN. -/
def execPwrgoodRise (s : State) : Result :=
  .next ({ s with pins := { s.pins with pwrgood := true } })

/-- PWRGOOD_FALL (R55). -/
def execPwrgoodFall (s : State) : Result :=
  .next (pwrgoodFall s)

/-- RESET_N_RISE (R54). -/
def execResetNRise (nodeid : Fin 64) (s : State) : Result :=
  .next (resetRise nodeid s)

/-- RESET_N_LOW (R72). -/
def execResetNLow (s : State) : Result :=
  .next (resetLow s)

/-- VQPS_PRESENT (R46). -/
def execVqpsPresent (mv : Nat) (s : State) : Result :=
  .next (vqpsPresent mv s)

/-- RAIL_BELOW_WARNING (R452). -/
def execRailBelowWarning (rail : Rail) (mv : Nat) (s : State) : Result :=
  .next (railBelow rail mv s)

/-- RESTORATION_START (R454). -/
def execRestorationStart (s : State) : Result :=
  .next (whenUp restorationStart s)

/-- SHED_UNDO (R454). -/
def execShedUndo (s : State) : Result :=
  .next (whenUp undoNext s)

/-- RAIL_RESET_LEVEL (R456). -/
def execRailResetLevel (rail : Rail) (mv : Nat) (s : State) : Result :=
  .next (railReset rail mv s)

/-- ANCHOR_END (R77). -/
def execAnchorEnd (confirmed : Fin 65536) (s : State) : Result :=
  .next (anchorEnd confirmed s)

/-- WARM_START_DELAY (R73). -/
def execWarmStartDelay (s : State) : Result :=
  .next (startDelay s)

/-- START_BEGIN (R61). -/
def execStartBegin (s : State) : Result :=
  .next (startPins s)

/-- ARM (R61). -/
def execArm (plls : Fin 256) (s : State) : Result :=
  .next (startArm plls s)

/-- FUSE (R509). -/
def execFuse (bad : List OtpRead) (incomplete : List Nat) (s : State) : Result :=
  .next (startFuse (bad.map fun x => ⟨x.region, x.word, x.goodA, x.goodB⟩) incomplete s)

/-- BOOT (R65). -/
def execBoot (slot0 : BootSlot) (slot1 : BootSlot) (s : State) : Result :=
  .next (startBoot slot0 slot1 s)

/-- SELFTEST (R523): the causes of REPLACE are evaluated with it. -/
def execSelftest (ledger : Fin 3) (findings : List Finding) (s : State) : Result :=
  .next (replaceEval (startSelftest ledger findings s))

/-- TRAIN (R343). -/
def execTrain (outcomes : List TrainOutcome) (dies : List DieOutcome) (s : State) : Result :=
  .next (startTrain outcomes dies s)

/-- INIT (R67). -/
def execInit (bad : List SentinelRead) (us : Nat) (s : State) : Result :=
  .next (startInit bad us s)

/-- WARMUP (R61). -/
def execWarmup (reached : Bool) (s : State) : Result :=
  .next (startWarmup reached s)

/-- RELEASE (R71). -/
def execRelease (us : Nat) (s : State) : Result :=
  .next (startRelease us s)

/-- RESET_CTRL_WARM (R72): the value and its complement. -/
def execResetCtrlWarm (src : Source) (flush : Bool) (s : State) : Result :=
  .next (write src GLB_RESET_CTRL_CPL (~~~(BitVec.ofNat 32 (1 + 4 * boolNat flush)))
    (write src GLB_RESET_CTRL (BitVec.ofNat 32 (1 + 4 * boolNat flush)) s))

/-- RESET_CTRL_BASE_DIE_ONLY (R72): the value and its complement. -/
def execResetCtrlBaseDieOnly (src : Source) (flush : Bool) (s : State) : Result :=
  .next (write src GLB_RESET_CTRL_CPL (~~~(BitVec.ofNat 32 (2 + 4 * boolNat flush)))
    (write src GLB_RESET_CTRL (BitVec.ofNat 32 (2 + 4 * boolNat flush)) s))

/-- RESET_CTRL_PORT_ONLY (R79): the value and its complement. -/
def execResetCtrlPortOnly (src : Source) (port : Port) (s : State) : Result :=
  .next (write src GLB_RESET_CTRL_CPL (~~~(BitVec.ofNat 32 (3 + 16 * port.val)))
    (write src GLB_RESET_CTRL (BitVec.ofNat 32 (3 + 16 * port.val)) s))

/-- RESET_DRAIN_DONE (R80). -/
def execResetDrainDone (s : State) : Result :=
  .next (resetDrained s)

/-- RESET_REQUEST_BEGIN (R81). -/
def execResetRequestBegin (s : State) : Result :=
  .next (requestBegin s)

/-- PAIR_WINDOW_EXPIRY (R496). -/
def execPairWindowExpiry (addr : CfgAddr) (s : State) : Result :=
  .next (whenUp (pairExpire addr) s)

/-- RAIL_ABOVE_WARNING (R452). -/
def execRailAboveWarning (rail : Rail) (s : State) : Result :=
  .next (railAbove rail s)

/-- RAIL_RECOVERY_CROSSING (R454). -/
def execRailRecoveryCrossing (rail : Rail) (above : Bool) (s : State) : Result :=
  .next (railRecovery rail above s)

end Sys2Proof.Machine
end

