-- ==== Sys2Proof/Machine/TestAccess.lean ====
section
/-!
DEFINITION. Machine/TestAccess.lean: the TAP, configuration access over JTAG and the core-die wrappers (19_test_and_repair R543 to R547).
-/
set_option autoImplicit false

namespace Sys2Proof.Machine
open Reg Bit

/-- Instruction codes of R543. -/
def Tap.idcode : Nat := 0x01
def Tap.sample : Nat := 0x02
def Tap.extest : Nat := 0x03
def Tap.extestPulse : Nat := 0x04
def Tap.extestTrain : Nat := 0x05
def Tap.clamp : Nat := 0x06
def Tap.highz : Nat := 0x07
def Tap.cfgAccess : Nat := 0x10
def Tap.wrapSel : Nat := 0x20
def Tap.wirAccess : Nat := 0x21
def Tap.wdrAccess : Nat := 0x22
def Tap.bypass : Nat := 0xFF

/-- Wrapper instructions of R546, numbered by the model (log entry 52). -/
def Wrapper.bypass : Nat := 0
def Wrapper.extest : Nat := 1
def Wrapper.intest : Nat := 2

/-- The condition of an instruction's row. -/
def tapAllowed (s : State) (code : Nat) : Bool :=
  if code = Tap.idcode ∨ code = Tap.sample ∨ code = Tap.bypass then true
  else if code = Tap.cfgAccess then s.pins.pwrgood && clockRuns s
  else !s.pins.resetN

def State.modTap (s : State) (f : TapSt → TapSt) : State := s.modTest fun x => { x with tap := f x.tap }

/-- An instruction loaded: outside its condition it acts as BYPASS and raises JTAG_ACTIVE. -/
def tapLoad (code : Nat) (s : State) : State :=
  if tapAllowed s code then s.modTap fun x => { x with ir := code }
  else when s.up (fun s => s.cause Cause.TST_jtag_active) (s.modTap fun x => { x with ir := Tap.bypass })

/-- TRST_N low, or five TCK cycles with TMS high: IDCODE is selected. -/
def tapReset (s : State) : State := s.modTap fun x => { x with ir := Tap.idcode }

/-- An instruction that selects the boundary register, with the cells shifted in. -/
def tapBoundary (code cells : Nat) (s : State) : State :=
  let s1 := tapLoad code s
  if tapAllowed s code then s1.modTap fun x => { x with boundary := cells } else s1

/-- CFG_ACCESS: Update-DR starts one access; the register then holds the word read or written, and ok when it has completed (R544). -/
def tapAccess (isWrite : Bool) (a : Nat) (v : Word) (s : State) : State :=
  let s1 := tapLoad Tap.cfgAccess s
  if !tapAllowed s Tap.cfgAccess then s1
  else
    let r := if isWrite then (v, write Src.jtag a v s1) else cfgRead Src.jtag a s1
    (r.2.modTap fun x => { x with data := r.1, ok := true }).returned r.1 []

/-- WRAP_SEL: the core die whose wrapper the next instructions reach. -/
def tapSelect (die : Nat) (s : State) : State :=
  let s1 := tapLoad Tap.wrapSel s
  if tapAllowed s Tap.wrapSel then s1.modTap fun x => { x with die := die } else s1

/-- WIR_ACCESS: a wrapper instruction for the selected die. -/
def tapWir (v : Nat) (s : State) : State :=
  let s1 := tapLoad Tap.wirAccess s
  if tapAllowed s Tap.wirAccess then s1.modTap fun x => { x with wir := KMap.put (fun _ => 0) x.wir x.die v } else s1

/-- WDR_ACCESS: data for the selected register of the selected die. -/
def tapWdr (v : Nat) (s : State) : State :=
  let s1 := tapLoad Tap.wdrAccess s
  if tapAllowed s Tap.wdrAccess then s1.modTap fun x => { x with wdr := KMap.put (fun _ => 0) x.wdr x.die v } else s1

/-- The paired write of JTAG to TST_JTAG_SEAL (R496, R547). -/
def forceSeal (r : Nat) (s : State) : State :=
  if !tapAllowed s Tap.cfgAccess then tapLoad Tap.cfgAccess s
  else
    let v : Word := BitVec.ofNat 32 r
    tapAccess true TST_JTAG_SEAL_CPL (~~~v) (tapAccess true TST_JTAG_SEAL v s)

end Sys2Proof.Machine
end

