-- ==== Sys2Proof/Machine/CmdTest.lean ====
section
/-!
DEFINITION. Machine/CmdTest.lean: the commands of recording, the ledger and test access (19_test_and_repair).
-/
set_option autoImplicit false

namespace Sys2Proof.Machine
open Reg Bit

/-- RECORDING_PASS (R538). -/
def execRecordingPass (lanes : OtpOutcome) (rows : OtpOutcome) (cut : Option Nat) (s : State) : Result :=
  .next (recordingPass lanes rows cut s)

/-- LEDGER_UPDATE (R527). -/
def execLedgerUpdate (flashOk : Bool) (s : State) : Result :=
  .next (ledgerUpdate flashOk s)

/-- LOOPBACK_ENABLE (R536): a write with enable set. -/
def execLoopbackEnable (src : Source) (value : Word) (s : State) : Result :=
  .next (write src TST_LOOP_CTRL (value.withBits 7 7 1) s)

/-- FORCED_SEAL (R547). -/
def execForcedSeal (region : Fin 8) (s : State) : Result :=
  .next (forceSeal region s)

/-- TAP_RESET (R543). -/
def execTapReset (s : State) : Result :=
  .next (tapReset s)

/-- IDCODE (R543). -/
def execIdcode (s : State) : Result :=
  .next ((tapLoad Tap.idcode s).returned 0xB64166B5 [])

/-- SAMPLE_PRELOAD (R543). -/
def execSamplePreload (cells : Nat) (s : State) : Result :=
  .next (tapBoundary Tap.sample cells s)

/-- EXTEST (R543). -/
def execExtest (cells : Nat) (s : State) : Result :=
  .next (tapBoundary Tap.extest cells s)

/-- EXTEST_PULSE (R545). -/
def execExtestPulse (cells : Nat) (s : State) : Result :=
  .next (tapBoundary Tap.extestPulse cells s)

/-- EXTEST_TRAIN (R545). -/
def execExtestTrain (cells : Nat) (s : State) : Result :=
  .next (tapBoundary Tap.extestTrain cells s)

/-- CLAMP (R543). -/
def execClamp (s : State) : Result :=
  .next (tapLoad Tap.clamp s)

/-- HIGHZ (R543). -/
def execHighz (s : State) : Result :=
  .next (tapLoad Tap.highz s)

/-- CFG_ACCESS (R544). -/
def execCfgAccess (isWrite : Bool) (addr : CfgAddr) (value : Word) (s : State) : Result :=
  .next (tapAccess isWrite addr value s)

/-- WRAP_SEL (R543). -/
def execWrapSel (die : Die) (s : State) : Result :=
  .next (tapSelect die s)

/-- WIR_ACCESS (R546). -/
def execWirAccess (value : Nat) (s : State) : Result :=
  .next (tapWir value s)

/-- WDR_ACCESS (R546). -/
def execWdrAccess (value : Nat) (s : State) : Result :=
  .next (tapWdr value s)

/-- WS_BYPASS (R546). -/
def execWsBypass (s : State) : Result :=
  .next (tapWir Wrapper.bypass s)

/-- WS_EXTEST (R546). -/
def execWsExtest (s : State) : Result :=
  .next (tapWir Wrapper.extest s)

/-- WS_INTEST (R546). -/
def execWsIntest (s : State) : Result :=
  .next (tapWir Wrapper.intest s)

/-- BYPASS (R543). -/
def execBypass (s : State) : Result :=
  .next (tapLoad Tap.bypass s)

end Sys2Proof.Machine
end

