-- ==== Sys2Proof/Machine/CmdThermal.lean ====
section
/-!
DEFINITION. Machine/CmdThermal.lean: the commands of the thermal block (15_thermal).
-/
set_option autoImplicit false

namespace Sys2Proof.Machine
open Reg Bit

/-- SENSOR_CONVERSION (R413). -/
def execSensorConversion (sensor : Sensor) (reading : Int) (faulty : Bool) (s : State) : Result :=
  .next (sensorConversion sensor reading faulty s)

/-- MODEL_UPDATE (R414): the update, the trip it finds and the causes of REPLACE. -/
def execModelUpdate (s : State) : Result :=
  .next (modelTick s)

/-- LEVEL_FALL (R423). -/
def execLevelFall (s : State) : Result :=
  .next (whenUp levelFall s)

/-- RATE_FALL (R425). -/
def execRateFall (s : State) : Result :=
  .next (whenUp rateFall s)

/-- BOUNDARY_TRACK (R416). -/
def execBoundaryTrack (s : State) : Result :=
  .next (whenUp boundaryTrack s)

/-- SINK_STALE (R416). -/
def execSinkStale (s : State) : Result :=
  .next (whenUp sinkStale s)

/-- THM_SINK_WRITE (R416). -/
def execThmSinkWrite (src : Source) (value : Word) (s : State) : Result :=
  .next (write src THM_SINK value s)

/-- BACKSTOP_TRIP (R426). -/
def execBackstopTrip (sensor : Sensor) (s : State) : Result :=
  .next (thermalTrip sensor true s)

/-- TRIP_MONITOR_READ (R427): every sensor read, and the trip of a device in RETENTION. -/
def execTripMonitorRead (readings : List (Nat × Int)) (s : State) : Result :=
  .next (monitorTick readings s)

/-- RE_ARM (R428). -/
def execReArm (s : State) : Result :=
  .next (reArm s)

/-- LIFE_COUNT (R429). -/
def execLifeCount (s : State) : Result :=
  .next (lifeCount s)

/-- OSC_CORRECT (R430). -/
def execOscCorrect (ppm : Int) (s : State) : Result :=
  .next (oscCorrect ppm s)

end Sys2Proof.Machine
end

