-- ==== Sys2Proof/Machine/CmdTimetable.lean ====
section
/-!
DEFINITION. Machine/CmdTimetable.lean: the commands of the timetable and of arbitration (09_timetable, 10_dynamic_traffic).
-/
set_option autoImplicit false

namespace Sys2Proof.Machine
open Reg Bit

/-- BERTH (R277). -/
def execBerth (hc : Hc) (dropped : Bool) (errs : List (Nat × Nat)) (s : State) : Result :=
  .next (whenUp (berth hc dropped errs) s)

/-- SCHEDULER_INTAKE (R287). -/
def execSchedulerIntake (hc : Hc) (s : State) : Result :=
  .next (whenUp (schedulerIntake hc) s)

/-- DYNAMIC_ADMIT (R308). -/
def execDynamicAdmit (hc : Hc) (s : State) : Result :=
  .next (whenUp (dynamicAdmit hc) s)

/-- TT_LOAD (R297): a write of target and go. -/
def execTtLoad (src : Source) (target : Bool) (s : State) : Result :=
  .next (write src TT_LOAD_CTRL (BitVec.ofNat 32 (1 + 2 * boolNat target)) s)

/-- TT_LOAD_DONE (R297). -/
def execTtLoadDone (bad : Bool) (s : State) : Result :=
  .next (whenUp (loadDone bad) s)

/-- STORM_EXIT (R300). -/
def execStormExit (s : State) : Result :=
  .next (whenUp stormExit s)

/-- CLASS_RESUME (R302). -/
def execClassResume (s : State) : Result :=
  .next (whenUp classResume s)

/-- FORCE_STORM (R300): a write of TT_CTRL, whose force_storm sets or withdraws the demand. -/
def execForceStorm (src : Source) (value : Word) (s : State) : Result :=
  .next (write src TT_CTRL value s)

/-- TT_CLR (R116): a write of clear. -/
def execTtClr (src : Source) (s : State) : Result :=
  .next (write src TT_CLR 1 s)

/-- MAP_CHECK (R327): a write of target and go. -/
def execMapCheck (src : Source) (target : Bool) (s : State) : Result :=
  .next (write src HC_MAP_CTRL (BitVec.ofNat 32 (1 + 2 * boolNat target)) s)

/-- HC_ARB_CLR (R116): a write of clear. -/
def execHcArbClr (src : Source) (s : State) : Result :=
  .next (write src HC_ARB_CLR 1 s)

end Sys2Proof.Machine
end

