-- ==== Sys2Proof/Machine/CmdTowpath.lean ====
section
/-!
DEFINITION. Machine/CmdTowpath.lean: the commands of the towpath (06_towpath).
-/
set_option autoImplicit false

namespace Sys2Proof.Machine
open Reg Bit

/-- FRAME_START (R169). -/
def execFrameStart (port : Port) (s : State) : Result :=
  .next (whenUp (frameStart port) s)

/-- FRAME_SENT (R169). -/
def execFrameSent (port : Port) (s : State) : Result :=
  .next (whenUp (frameSent port) s)

/-- CODE_FOUND (R170). -/
def execCodeFound (port : Port) (code : Fin 16) (s : State) : Result :=
  .next (whenUp (codeFound port code) s)

/-- CODE_SEARCH_RESUME (R170). -/
def execCodeSearchResume (port : Port) (s : State) : Result :=
  .next (whenUp (codeSearchResume port) s)

/-- HAIL (R176). -/
def execHail (port : Port) (code : Fin 16) (soft : List Int) (s : State) : Result :=
  .next (whenUp (hail port code soft) s)

/-- HEADER_CHECK (R177). -/
def execHeaderCheck (port : Port) (soft : List Int) (s : State) : Result :=
  .next (whenUp (headerCheck port soft) s)

/-- FRAME_END (R178). -/
def execFrameEnd (port : Port) (soft : List Int) (signals : List (Int × Int)) (s : State) : Result :=
  .next (whenUp (frameEnd port soft signals) s)

/-- CODE_LOST (R172). -/
def execCodeLost (port : Port) (s : State) : Result :=
  .next (whenUp (codeUnlock port) s)

/-- BEACON_TIMER (R182). -/
def execBeaconTimer (port : Port) (s : State) : Result :=
  .next (whenUp (beaconTimer port) s)

/-- BEACON (R392). -/
def execBeacon (port : Port) (payload : List Byte) (s : State) : Result :=
  .next (frameArrives port payload (beaconArrives port payload) s)

/-- MGMT (R184). -/
def execMgmt (port : Port) (payload : List Byte) (s : State) : Result :=
  .next (frameArrives port payload (mgmtArrives port payload) s)

/-- MGMT_ACK (R184). -/
def execMgmtAck (port : Port) (payload : List Byte) (s : State) : Result :=
  .next (frameArrives port payload (mgmtAckArrives port payload) s)

/-- MGMT_RESEND (R184). -/
def execMgmtResend (port : Port) (s : State) : Result :=
  .next (whenUp (mgmtRetry port) s)

/-- WAKE_GO (R185): a write with go set. -/
def execWakeGo (src : Source) (port : Port) (value : Word) (s : State) : Result :=
  .next (write src (PORT_TOW_WAKE port) (value.withBits 0 0 1) s)

/-- WAKE_PATTERN_END (R185). -/
def execWakePatternEnd (port : Port) (s : State) : Result :=
  .next (whenUp (wakeEnd port) s)

/-- WAKE_DECLARED (R186). -/
def execWakeDeclared (port : Port) (s : State) : Result :=
  .next (wakeDeclared port s)

/-- NOISE_WINDOW (R181). -/
def execNoiseWindow (lane : Lane) (measured : Int) (s : State) : Result :=
  .next (whenUp (noiseWindow lane measured) s)

/-- PORT_TOW_CLR (R116): a write of clear. -/
def execPortTowClr (src : Source) (port : Port) (s : State) : Result :=
  .next (write src (PORT_TOW_CLR port) 1 s)

/-- LANE_JOIN (R171). -/
def execLaneJoin (lane : Lane) (snr : Int) (quarters : Nat) (s : State) : Result :=
  .next (whenUp (laneJoin lane snr quarters) s)

end Sys2Proof.Machine
end

