-- ==== Sys2Proof/Machine/Dispatch.lean ====
section
/-!
DEFINITION. Machine/Dispatch.lean: the meaning of each command, one arm per constructor of Instr.
-/
namespace Sys2Proof.Machine

/-- The effect of a command on everything but the queue of waiting commands. -/
def exec (i : Instr) (s : State) : Host.Outcome State Fault Refusal :=
  match i with
  | .crossingBoundary => Sys2Proof.Machine.execCrossingBoundary s
  | .commitArm src => Sys2Proof.Machine.execCommitArm src s
  | .commitCancel src => Sys2Proof.Machine.execCommitCancel src s
  | .commitDiscard src => Sys2Proof.Machine.execCommitDiscard src s
  | .prepare => Sys2Proof.Machine.execPrepare s
  | .readySample => Sys2Proof.Machine.execReadySample s
  | .commitSwitch => Sys2Proof.Machine.execCommitSwitch s
  | .stagedFieldWrite src addr value => Sys2Proof.Machine.execStagedFieldWrite src addr value s
  | .hardwareCommit => Sys2Proof.Machine.execHardwareCommit s
  | .cfgCommitWindowExpiry => Sys2Proof.Machine.execCfgCommitWindowExpiry s
  | .vaonPorRise => Sys2Proof.Machine.execVaonPorRise s
  | .vaonPorFall => Sys2Proof.Machine.execVaonPorFall s
  | .sequenceViolation => Sys2Proof.Machine.execSequenceViolation s
  | .pwrgoodRise => Sys2Proof.Machine.execPwrgoodRise s
  | .pwrgoodFall => Sys2Proof.Machine.execPwrgoodFall s
  | .resetNRise nodeid => Sys2Proof.Machine.execResetNRise nodeid s
  | .resetNLow => Sys2Proof.Machine.execResetNLow s
  | .vqpsPresent mv => Sys2Proof.Machine.execVqpsPresent mv s
  | .railBelowWarning rail mv => Sys2Proof.Machine.execRailBelowWarning rail mv s
  | .restorationStart => Sys2Proof.Machine.execRestorationStart s
  | .shedUndo => Sys2Proof.Machine.execShedUndo s
  | .railResetLevel rail mv => Sys2Proof.Machine.execRailResetLevel rail mv s
  | .anchorEnd confirmed => Sys2Proof.Machine.execAnchorEnd confirmed s
  | .warmStartDelay => Sys2Proof.Machine.execWarmStartDelay s
  | .startBegin => Sys2Proof.Machine.execStartBegin s
  | .arm plls => Sys2Proof.Machine.execArm plls s
  | .fuse bad incomplete => Sys2Proof.Machine.execFuse bad incomplete s
  | .boot slot0 slot1 => Sys2Proof.Machine.execBoot slot0 slot1 s
  | .selftest ledger findings => Sys2Proof.Machine.execSelftest ledger findings s
  | .train outcomes dies => Sys2Proof.Machine.execTrain outcomes dies s
  | .init bad us => Sys2Proof.Machine.execInit bad us s
  | .warmup reached => Sys2Proof.Machine.execWarmup reached s
  | .release us => Sys2Proof.Machine.execRelease us s
  | .resetCtrlWarm src flush => Sys2Proof.Machine.execResetCtrlWarm src flush s
  | .resetCtrlBaseDieOnly src flush => Sys2Proof.Machine.execResetCtrlBaseDieOnly src flush s
  | .resetCtrlPortOnly src port => Sys2Proof.Machine.execResetCtrlPortOnly src port s
  | .resetDrainDone => Sys2Proof.Machine.execResetDrainDone s
  | .resetRequestBegin => Sys2Proof.Machine.execResetRequestBegin s
  | .pairWindowExpiry addr => Sys2Proof.Machine.execPairWindowExpiry addr s
  | .pllUnlock pll => Sys2Proof.Machine.execPllUnlock pll s
  | .pllLock pll => Sys2Proof.Machine.execPllLock pll s
  | .txApplyGo src lane => Sys2Proof.Machine.execTxApplyGo src lane s
  | .towShapeWrite src lane value => Sys2Proof.Machine.execTowShapeWrite src lane value s
  | .maskWindowEnd lane levels => Sys2Proof.Machine.execMaskWindowEnd lane levels s
  | .losAssert lane amp => Sys2Proof.Machine.execLosAssert lane amp s
  | .losDeassert lane amp => Sys2Proof.Machine.execLosDeassert lane amp s
  | .cdrUnlock lane => Sys2Proof.Machine.execCdrUnlock lane s
  | .adaptRestore lane snr => Sys2Proof.Machine.execAdaptRestore lane snr s
  | .coefficientSave lane => Sys2Proof.Machine.execCoefficientSave lane s
  | .eqWriteGo src lane value => Sys2Proof.Machine.execEqWriteGo src lane value s
  | .prbsLock lane => Sys2Proof.Machine.execPrbsLock lane s
  | .prbsLockLost lane count => Sys2Proof.Machine.execPrbsLockLost lane count s
  | .prbsClear src lane value => Sys2Proof.Machine.execPrbsClear src lane value s
  | .clearPrefec src lane value => Sys2Proof.Machine.execClearPrefec src lane value s
  | .eyeStart src lane value => Sys2Proof.Machine.execEyeStart src lane value s
  | .eyeDone lane aborted v0 v1 h => Sys2Proof.Machine.execEyeDone lane aborted v0 v1 h s
  | .portEnable src port value => Sys2Proof.Machine.execPortEnable src port value s
  | .portDisable src port value => Sys2Proof.Machine.execPortDisable src port value s
  | .testHoldSet src port value => Sys2Proof.Machine.execTestHoldSet src port value s
  | .testHoldClear src port value => Sys2Proof.Machine.execTestHoldClear src port value s
  | .retrain src port value => Sys2Proof.Machine.execRetrain src port value s
  | .stepGo src port value => Sys2Proof.Machine.execStepGo src port value s
  | .capTimer port => Sys2Proof.Machine.execCapTimer port s
  | .cap port payload => Sys2Proof.Machine.execCap port payload s
  | .sel port payload => Sys2Proof.Machine.execSel port payload s
  | .go port payload => Sys2Proof.Machine.execGo port payload s
  | .goTimeout port => Sys2Proof.Machine.execGoTimeout port s
  | .ledgerRetry port => Sys2Proof.Machine.execLedgerRetry port s
  | .negotiateRestart port => Sys2Proof.Machine.execNegotiateRestart port s
  | .stageTimeout port => Sys2Proof.Machine.execStageTimeout port s
  | .deadline port => Sys2Proof.Machine.execDeadline port s
  | .trainingFrame lane control crc inverted => Sys2Proof.Machine.execTrainingFrame lane control crc inverted s
  | .thresholdMet lane snr peak offset => Sys2Proof.Machine.execThresholdMet lane snr peak offset s
  | .lockPair port symbols own skew => Sys2Proof.Machine.execLockPair port symbols own skew s
  | .prbsVerifyEnd port lanes => Sys2Proof.Machine.execPrbsVerifyEnd port lanes s
  | .qrReq port payload => Sys2Proof.Machine.execQrReq port payload s
  | .qrAck port payload => Sys2Proof.Machine.execQrAck port payload s
  | .qrTimeout port => Sys2Proof.Machine.execQrTimeout port s
  | .step port payload => Sys2Proof.Machine.execStep port payload s
  | .stepAck port payload => Sys2Proof.Machine.execStepAck port payload s
  | .degradeWindow port => Sys2Proof.Machine.execDegradeWindow port s
  | .codewordDecode port received => Sys2Proof.Machine.execCodewordDecode port received s
  | .innerBlockDecode lane llr => Sys2Proof.Machine.execInnerBlockDecode lane llr s
  | .portStatsClr src port => Sys2Proof.Machine.execPortStatsClr src port s
  | .frameStart port => Sys2Proof.Machine.execFrameStart port s
  | .frameSent port => Sys2Proof.Machine.execFrameSent port s
  | .codeFound port code => Sys2Proof.Machine.execCodeFound port code s
  | .codeSearchResume port => Sys2Proof.Machine.execCodeSearchResume port s
  | .hail port code soft => Sys2Proof.Machine.execHail port code soft s
  | .headerCheck port soft => Sys2Proof.Machine.execHeaderCheck port soft s
  | .frameEnd port soft signals => Sys2Proof.Machine.execFrameEnd port soft signals s
  | .codeLost port => Sys2Proof.Machine.execCodeLost port s
  | .beaconTimer port => Sys2Proof.Machine.execBeaconTimer port s
  | .beacon port payload => Sys2Proof.Machine.execBeacon port payload s
  | .mgmt port payload => Sys2Proof.Machine.execMgmt port payload s
  | .mgmtAck port payload => Sys2Proof.Machine.execMgmtAck port payload s
  | .mgmtResend port => Sys2Proof.Machine.execMgmtResend port s
  | .wakeGo src port value => Sys2Proof.Machine.execWakeGo src port value s
  | .wakePatternEnd port => Sys2Proof.Machine.execWakePatternEnd port s
  | .wakeDeclared port => Sys2Proof.Machine.execWakeDeclared port s
  | .noiseWindow lane measured => Sys2Proof.Machine.execNoiseWindow lane measured s
  | .portTowClr src port => Sys2Proof.Machine.execPortTowClr src port s
  | .flitReceived port bytes startOk => Sys2Proof.Machine.execFlitReceived port bytes startOk s
  | .flitSend port => Sys2Proof.Machine.execFlitSend port s
  | .ackTimeout port => Sys2Proof.Machine.execAckTimeout port s
  | .rreqRepeat port => Sys2Proof.Machine.execRreqRepeat port s
  | .delayTimer port source tag => Sys2Proof.Machine.execDelayTimer port source tag s
  | .transactionSend port => Sys2Proof.Machine.execTransactionSend port s
  | .requestTableAdmit port => Sys2Proof.Machine.execRequestTableAdmit port s
  | .cpl port header data => Sys2Proof.Machine.execCpl port header data s
  | .nak port header data => Sys2Proof.Machine.execNak port header data s
  | .delay port header data => Sys2Proof.Machine.execDelay port header data s
  | .evt port header data => Sys2Proof.Machine.execEvt port header data s
  | .qstate port header data => Sys2Proof.Machine.execQstate port header data s
  | .unknownOpcode port header data => Sys2Proof.Machine.execUnknownOpcode port header data s
  | .uzClr src port => Sys2Proof.Machine.execUzClr src port s
  | .rd port header data sram => Sys2Proof.Machine.execRd port header data sram s
  | .wr port header data sram => Sys2Proof.Machine.execWr port header data sram s
  | .wrm port header data sram => Sys2Proof.Machine.execWrm port header data sram s
  | .enq port header data sram => Sys2Proof.Machine.execEnq port header data sram s
  | .deq port header data sram => Sys2Proof.Machine.execDeq port header data sram s
  | .peek port header data sram => Sys2Proof.Machine.execPeek port header data sram s
  | .drop port header data sram => Sys2Proof.Machine.execDrop port header data sram s
  | .move port header data sram => Sys2Proof.Machine.execMove port header data sram s
  | .cntAdd port header data sram => Sys2Proof.Machine.execCntAdd port header data sram s
  | .cntRdclr port header data sram => Sys2Proof.Machine.execCntRdclr port header data sram s
  | .fadd port header data sram => Sys2Proof.Machine.execFadd port header data sram s
  | .cas port header data sram => Sys2Proof.Machine.execCas port header data sram s
  | .meter port header data sram => Sys2Proof.Machine.execMeter port header data sram s
  | .cfgRd port header data => Sys2Proof.Machine.execCfgRd port header data s
  | .cfgWr port header data => Sys2Proof.Machine.execCfgWr port header data s
  | .mbx port header data => Sys2Proof.Machine.execMbx port header data s
  | .poolRebuilt pool => Sys2Proof.Machine.execPoolRebuilt pool s
  | .qindRead src value => Sys2Proof.Machine.execQindRead src value s
  | .setProfile src value => Sys2Proof.Machine.execSetProfile src value s
  | .meterSweep => Sys2Proof.Machine.execMeterSweep s
  | .meterSweepLate => Sys2Proof.Machine.execMeterSweepLate s
  | .svcClr src => Sys2Proof.Machine.execSvcClr src s
  | .berth hc dropped errs => Sys2Proof.Machine.execBerth hc dropped errs s
  | .schedulerIntake hc => Sys2Proof.Machine.execSchedulerIntake hc s
  | .dynamicAdmit hc => Sys2Proof.Machine.execDynamicAdmit hc s
  | .ttLoad src target => Sys2Proof.Machine.execTtLoad src target s
  | .ttLoadDone bad => Sys2Proof.Machine.execTtLoadDone bad s
  | .stormExit => Sys2Proof.Machine.execStormExit s
  | .classResume => Sys2Proof.Machine.execClassResume s
  | .forceStorm src value => Sys2Proof.Machine.execForceStorm src value s
  | .ttClr src => Sys2Proof.Machine.execTtClr src s
  | .mapCheck src target => Sys2Proof.Machine.execMapCheck src target s
  | .hcArbClr src => Sys2Proof.Machine.execHcArbClr src s
  | .caParity hc => Sys2Proof.Machine.execCaParity hc s
  | .fieldRetrain hc => Sys2Proof.Machine.execFieldRetrain hc s
  | .fieldRetrainEnd outcome => Sys2Proof.Machine.execFieldRetrainEnd outcome s
  | .trackingPass hc errors wckMove dqMoves => Sys2Proof.Machine.execTrackingPass hc errors wckMove dqMoves s
  | .hcCtrlRetrain src hc value => Sys2Proof.Machine.execHcCtrlRetrain src hc value s
  | .hcRepairGo src hc => Sys2Proof.Machine.execHcRepairGo src hc s
  | .repairRelease hc => Sys2Proof.Machine.execRepairRelease hc s
  | .selfRefreshConfirm die => Sys2Proof.Machine.execSelfRefreshConfirm die s
  | .dieHot die hot85 hot95 => Sys2Proof.Machine.execDieHot die hot85 hot95 s
  | .mwCopyRefresh die => Sys2Proof.Machine.execMwCopyRefresh die s
  | .hcClr src hc => Sys2Proof.Machine.execHcClr src hc s
  | .pinWindowEnd hc => Sys2Proof.Machine.execPinWindowEnd hc s
  | .scrubLate hc => Sys2Proof.Machine.execScrubLate hc s
  | .fillDone => Sys2Proof.Machine.execFillDone s
  | .eccLogTailWrite src value => Sys2Proof.Machine.execEccLogTailWrite src value s
  | .retireRow src => Sys2Proof.Machine.execRetireRow src s
  | .retireBank src => Sys2Proof.Machine.execRetireBank src s
  | .eccClr src => Sys2Proof.Machine.execEccClr src s
  | .fillArrive => Sys2Proof.Machine.execFillArrive s
  | .cleaning slice => Sys2Proof.Machine.execCleaning slice s
  | .clean src value => Sys2Proof.Machine.execClean src value s
  | .invalidate src value => Sys2Proof.Machine.execInvalidate src value s
  | .preload src value => Sys2Proof.Machine.execPreload src value s
  | .discard src value => Sys2Proof.Machine.execDiscard src value s
  | .flushDone => Sys2Proof.Machine.execFlushDone s
  | .ldgClr src => Sys2Proof.Machine.execLdgClr src s
  | .recordExpiry port source tag => Sys2Proof.Machine.execRecordExpiry port source tag s
  | .failover port => Sys2Proof.Machine.execFailover port s
  | .beaconMiss port => Sys2Proof.Machine.execBeaconMiss port s
  | .restore port => Sys2Proof.Machine.execRestore port s
  | .fabRestoreWrite src port value => Sys2Proof.Machine.execFabRestoreWrite src port value s
  | .fabClr src => Sys2Proof.Machine.execFabClr src s
  | .sensorConversion sensor reading faulty => Sys2Proof.Machine.execSensorConversion sensor reading faulty s
  | .modelUpdate => Sys2Proof.Machine.execModelUpdate s
  | .levelFall => Sys2Proof.Machine.execLevelFall s
  | .rateFall => Sys2Proof.Machine.execRateFall s
  | .boundaryTrack => Sys2Proof.Machine.execBoundaryTrack s
  | .sinkStale => Sys2Proof.Machine.execSinkStale s
  | .thmSinkWrite src value => Sys2Proof.Machine.execThmSinkWrite src value s
  | .backstopTrip sensor => Sys2Proof.Machine.execBackstopTrip sensor s
  | .tripMonitorRead readings => Sys2Proof.Machine.execTripMonitorRead readings s
  | .reArm => Sys2Proof.Machine.execReArm s
  | .lifeCount => Sys2Proof.Machine.execLifeCount s
  | .oscCorrect ppm => Sys2Proof.Machine.execOscCorrect ppm s
  | .requestService src value => Sys2Proof.Machine.execRequestService src value s
  | .requestIdle src value => Sys2Proof.Machine.execRequestIdle src value s
  | .requestRetention src value => Sys2Proof.Machine.execRequestRetention src value s
  | .requestMaintenance src value => Sys2Proof.Machine.execRequestMaintenance src value s
  | .requestSafe src value => Sys2Proof.Machine.execRequestSafe src value s
  | .requestCold src value => Sys2Proof.Machine.execRequestCold src value s
  | .drainDone => Sys2Proof.Machine.execDrainDone s
  | .drainTimeout => Sys2Proof.Machine.execDrainTimeout s
  | .entryFlushDone => Sys2Proof.Machine.execEntryFlushDone s
  | .waitInstruction => Sys2Proof.Machine.execWaitInstruction s
  | .idleExit => Sys2Proof.Machine.execIdleExit s
  | .retentionExit outcomes bad us => Sys2Proof.Machine.execRetentionExit outcomes bad us s
  | .retentionRelease => Sys2Proof.Machine.execRetentionRelease s
  | .maintenanceExit => Sys2Proof.Machine.execMaintenanceExit s
  | .wakeNLow => Sys2Proof.Machine.execWakeNLow s
  | .shutdownPhaseDone findings flashOk => Sys2Proof.Machine.execShutdownPhaseDone findings flashOk s
  | .watchdogRestart => Sys2Proof.Machine.execWatchdogRestart s
  | .watchdogExpiry pc => Sys2Proof.Machine.execWatchdogExpiry pc s
  | .purserFault kind pc => Sys2Proof.Machine.execPurserFault kind pc s
  | .i3cBufferWrite bytes => Sys2Proof.Machine.execI3cBufferWrite bytes s
  | .i3cPrivateRead count => Sys2Proof.Machine.execI3cPrivateRead count s
  | .submit mailbox => Sys2Proof.Machine.execSubmit mailbox s
  | .mailboxRelease mailbox => Sys2Proof.Machine.execMailboxRelease mailbox s
  | .mailboxDoneTimeout mailbox => Sys2Proof.Machine.execMailboxDoneTimeout mailbox s
  | .mbxTimeout mailbox => Sys2Proof.Machine.execMbxTimeout mailbox s
  | .entdaa addr => Sys2Proof.Machine.execEntdaa addr s
  | .setdasa addr => Sys2Proof.Machine.execSetdasa addr s
  | .setnewda addr => Sys2Proof.Machine.execSetnewda addr s
  | .rstdaa => Sys2Proof.Machine.execRstdaa s
  | .getpid => Sys2Proof.Machine.execGetpid s
  | .getbcr => Sys2Proof.Machine.execGetbcr s
  | .getdcr => Sys2Proof.Machine.execGetdcr s
  | .getstatus => Sys2Proof.Machine.execGetstatus s
  | .getmwl => Sys2Proof.Machine.execGetmwl s
  | .getmrl => Sys2Proof.Machine.execGetmrl s
  | .setmwl direct limit => Sys2Proof.Machine.execSetmwl direct limit s
  | .setmrl direct limit => Sys2Proof.Machine.execSetmrl direct limit s
  | .enec direct => Sys2Proof.Machine.execEnec direct s
  | .disec direct => Sys2Proof.Machine.execDisec direct s
  | .i3cError => Sys2Proof.Machine.execI3cError s
  | .identity mailbox => Sys2Proof.Machine.execIdentity mailbox s
  | .status mailbox => Sys2Proof.Machine.execStatus mailbox s
  | .reset mailbox => Sys2Proof.Machine.execReset mailbox s
  | .cfgRead mailbox => Sys2Proof.Machine.execCfgRead mailbox s
  | .cfgWrite mailbox => Sys2Proof.Machine.execCfgWrite mailbox s
  | .evtLogRead mailbox => Sys2Proof.Machine.execEvtLogRead mailbox s
  | .mode mailbox => Sys2Proof.Machine.execMode mailbox s
  | .flashRead mailbox data => Sys2Proof.Machine.execFlashRead mailbox data s
  | .flashWrite mailbox => Sys2Proof.Machine.execFlashWrite mailbox s
  | .otpRead mailbox => Sys2Proof.Machine.execOtpRead mailbox s
  | .otpProgram mailbox => Sys2Proof.Machine.execOtpProgram mailbox s
  | .otpSeal mailbox => Sys2Proof.Machine.execOtpSeal mailbox s
  | .bistRun mailbox => Sys2Proof.Machine.execBistRun mailbox s
  | .ledgerRead mailbox data => Sys2Proof.Machine.execLedgerRead mailbox data s
  | .retire mailbox => Sys2Proof.Machine.execRetire mailbox s
  | .rowRepair mailbox => Sys2Proof.Machine.execRowRepair mailbox s
  | .snapshot mailbox => Sys2Proof.Machine.execSnapshot mailbox s
  | .snapRead mailbox => Sys2Proof.Machine.execSnapRead mailbox s
  | .modelRead mailbox => Sys2Proof.Machine.execModelRead mailbox s
  | .jobResult mailbox => Sys2Proof.Machine.execJobResult mailbox s
  | .unknownCommand mailbox => Sys2Proof.Machine.execUnknownCommand mailbox s
  | .jobDone job flashOk outcome findings => Sys2Proof.Machine.execJobDone job flashOk outcome findings s
  | .evtPendRead src index => Sys2Proof.Machine.execEvtPendRead src index s
  | .causeRead src addr => Sys2Proof.Machine.execCauseRead src addr s
  | .evtLogTailWrite src value => Sys2Proof.Machine.execEvtLogTailWrite src value s
  | .evtLogW0Read src => Sys2Proof.Machine.execEvtLogW0Read src s
  | .evtClr src => Sys2Proof.Machine.execEvtClr src s
  | .shLoRead src addr => Sys2Proof.Machine.execShLoRead src addr s
  | .snapNLow => Sys2Proof.Machine.execSnapNLow s
  | .snapGo src value => Sys2Proof.Machine.execSnapGo src value s
  | .snapLatch rails => Sys2Proof.Machine.execSnapLatch rails s
  | .snapDone => Sys2Proof.Machine.execSnapDone s
  | .snapAck src value => Sys2Proof.Machine.execSnapAck src value s
  | .snapRdDataRead src => Sys2Proof.Machine.execSnapRdDataRead src s
  | .snapClr src => Sys2Proof.Machine.execSnapClr src s
  | .mbxClr src => Sys2Proof.Machine.execMbxClr src s
  | .glbLockWrite src value => Sys2Proof.Machine.execGlbLockWrite src value s
  | .swFlagsWrite src value => Sys2Proof.Machine.execSwFlagsWrite src value s
  | .cfgCommit src => Sys2Proof.Machine.execCfgCommit src s
  | .cfgCheckPass => Sys2Proof.Machine.execCfgCheckPass s
  | .registerWrite src addr value => Sys2Proof.Machine.execRegisterWrite src addr value s
  | .otpReread bad => Sys2Proof.Machine.execOtpReread bad s
  | .recordingPass lanes rows cut => Sys2Proof.Machine.execRecordingPass lanes rows cut s
  | .ledgerUpdate flashOk => Sys2Proof.Machine.execLedgerUpdate flashOk s
  | .loopbackEnable src value => Sys2Proof.Machine.execLoopbackEnable src value s
  | .forcedSeal region => Sys2Proof.Machine.execForcedSeal region s
  | .tapReset => Sys2Proof.Machine.execTapReset s
  | .idcode => Sys2Proof.Machine.execIdcode s
  | .samplePreload cells => Sys2Proof.Machine.execSamplePreload cells s
  | .extest cells => Sys2Proof.Machine.execExtest cells s
  | .extestPulse cells => Sys2Proof.Machine.execExtestPulse cells s
  | .extestTrain cells => Sys2Proof.Machine.execExtestTrain cells s
  | .clamp => Sys2Proof.Machine.execClamp s
  | .highz => Sys2Proof.Machine.execHighz s
  | .cfgAccess isWrite addr value => Sys2Proof.Machine.execCfgAccess isWrite addr value s
  | .wrapSel die => Sys2Proof.Machine.execWrapSel die s
  | .wirAccess value => Sys2Proof.Machine.execWirAccess value s
  | .wdrAccess value => Sys2Proof.Machine.execWdrAccess value s
  | .wsBypass => Sys2Proof.Machine.execWsBypass s
  | .wsExtest => Sys2Proof.Machine.execWsExtest s
  | .wsIntest => Sys2Proof.Machine.execWsIntest s
  | .bypass => Sys2Proof.Machine.execBypass s
  | .railAboveWarning rail => Sys2Proof.Machine.execRailAboveWarning rail s
  | .railRecoveryCrossing rail above => Sys2Proof.Machine.execRailRecoveryCrossing rail above s
  | .laneJoin lane snr quarters => Sys2Proof.Machine.execLaneJoin lane snr quarters s
  | .configurationCopyDone => Sys2Proof.Machine.execConfigurationCopyDone s
  | .srfUnconfirmed die => Sys2Proof.Machine.execSrfUnconfirmed die s
  | .snapNPulseEnd => Sys2Proof.Machine.execSnapNPulseEnd s
  | .watchdogCountClear => Sys2Proof.Machine.execWatchdogCountClear s
  | .vqpsOutOfRange mv written => Sys2Proof.Machine.execVqpsOutOfRange mv written s

end Sys2Proof.Machine
end

