-- ==== Sys2Proof/Machine/Step.lean ====
section
/-!
DEFINITION. Machine/Step.lean: one step of the block, which takes the command at the front of its queue, and how a word of the host's
opcode table would be put there.
-/
set_option autoImplicit false

namespace Sys2Proof.Machine

/-- One step: the command that waits longest is run on the state with the queue's rest.  On an empty queue the block idles: crossing
boundaries are commands of their own (R8; log entry 1). -/
def step (s : State) : Host.Outcome State Fault Refusal :=
  match s.pending with
  | [] => .next s
  | c :: rest => exec c { s with pending := rest }

/-- The state with the command that a word spells at the front of its queue; no row of the opcode table gives bits, so no word spells
one. -/
def State.withFetchWord (s : State) (nbits w : Nat) : State :=
  match decodeTableWord nbits w with
  | some c => { s with pending := c :: s.pending }
  | none => s

end Sys2Proof.Machine
end

