-- ==== Sys2Proof/Safety.lean ====
section
/-!
DEFINITION. Safety.lean: what counts as a sound run, in the terms the statements use: which reads two states share, that the tables of
State are in canonical form, that the antifuse array only grows, and when a write of a register has its effect.
-/
set_option autoImplicit false

namespace Sys2Proof.Machine
open Reg Bit

/-- Every register outside the list reads the same. -/
def SameRegs (l : List Nat) (s t : State) : Prop := ∀ a, a ∉ l → t.reg a = s.reg a

/-- Every byte of the core dies reads the same, no codeword of them is newly lost or mended, and the lines of the landing are the same. -/
def SameMemory (s t : State) : Prop :=
  (∀ loc, Dram.byte t.dram.mem loc = Dram.byte s.dram.mem loc) ∧ t.dram.lost = s.dram.lost ∧ t.landing.lines = s.landing.lines

/-- A write of a register has its effect: the logic is powered and out of reset, the register exists and its lock group is open
(R492, R500). -/
def writable (s : State) (a : Nat) : Bool :=
  s.up && match rowAt a with | some (r, _) => !locked s r | none => false

/-- A request keeps the header rules at its delivery on the port: it is one of the port's version, of the form the tables give, aligned, and its
tag is not outstanding unless it is posted (R212 to R219, R231, R232, R267). -/
def headerKept (s : State) (p : Nat) (h : Header) : Bool :=
  (isV2 s p || !v2Only h.opcode) && requestOk h (if isV2 s p then 1024 else 512) (s.flag (Bit.UZ_CTRL_posted_en p)) && aluAligned h &&
    (h.posted || !tagBusy s p h.src h.tag)

/-- The port takes a request at once and it keeps the header rules (R210 to R219): the port is in S7 with nothing waiting on it, no drain has
closed the ingress (R80), and the request is for this node. -/
def admitted (s : State) (p : Nat) (t : Txn) : Bool :=
  s.up && s.stage p == 7 && !(s.start.request.any fun r => r.draining) && (s.link p).inbox.isEmpty && (s.link p).vc0.isEmpty &&
    (s.link p).table.isEmpty && headerKept s p t.hdr && t.hdr.dst == liveNode s

/-- A memory request is taken at once and passes every check (R63, R221, R235 to R237, R322, R444): the intake is open, and the request
targets region g. -/
def takenAtOnce (s : State) (p : Nat) (t : Txn) (g : Nat) : Bool :=
  let h := t.hdr
  admitted s p t && !s.modes.intakeClosed && memoryOp h.opcode && memoryServed s && targetRegion s t == some g &&
    typeServes (rgnType s g) h.opcode h.fc && rgnAllows s g h.fc && !mapDenied s g h && !capFull s p h.fc s.nextUid

/-- The landing holds the line ready for an operation: not poisoned, no line of link words, none waits for it, and its slice may take another
dirty line (R242, R378, R381, R383). -/
def lineReady (s : State) (n : Nat) (l : Line) : Bool :=
  lineAt s n == some l && !l.poisoned && !linkLine s n && !(s.landing.stalled.any fun q => q.1 == n) &&
    !(s.landing.queued.any fun q => q.1 == n) && !atLimit s n

/-- What a transaction that waits to be sent says: opcode, tag, destination, status and result, and data. -/
def gist (o : Outgoing) : Nat × Nat × Nat × Nat × List Byte :=
  (o.txn.hdr.opcode, o.txn.hdr.tag, o.txn.hdr.dst, o.txn.hdr.aux, o.txn.data)

/-- A mailbox executes a command of this code with n bytes of payload: a request over I3C, complete, with the purser running its firmware
(R465, R471 to R474). -/
def boxServes (s : State) (m code n : Nat) : Bool :=
  let req := (s.box m).request
  boxState s m == BoxState.busy && boxOwner s m == Owner.i3c && (s.box m).entry.isNone && purserRuns s && !s.purser.rom &&
    reqCode req == code && reqLength req == n && (reqPayload req).length == n && decide (n ≤ 1016)

/-- The mailbox holds the answer to a request: its status is shown and its response message is posted (R466, R471). -/
def posted (t : State) (m : Nat) (req : List Byte) (status : Nat) (data : List Byte) (job : Nat) : Prop :=
  boxState t m = BoxState.done ∧ t.get (MBX_STATUS_status m) = status ∧ (t.box m).response = responseMessage req ⟨status, data, job⟩

/-- The tables of State are in their canonical forms: keys strictly rising, and no entry equal to what an unlisted key reads as, so that
states which read the same hold the same tables. -/
structure Canonical (s : State) : Prop where
  regs : KMap.wf resetAt s.regs = true
  mem : Dram.wf s.dram.mem = true
  lanes : KMap.wf (fun _ => LaneSt.reset) s.lanes = true
  ports : KMap.wf (fun _ => PortSt.reset) s.ports = true
  tows : KMap.wf (fun _ => TowSt.reset) s.tows = true
  links : KMap.wf (fun _ => LinkSt.reset) s.links = true
  fab : KMap.wf (fun _ => FabPort.reset) s.fab = true
  hcs : KMap.wf (fun _ => HcSt.reset) s.hcs = true
  activity : KMap.wf (fun _ => 0) s.activity = true

/-- The antifuse array only grows: no seal is lifted, no spare row comes back, and the passes are only counted up (R505, R515, R517,
R519). -/
structure OtpGrows (a b : OtpSt) : Prop where
  seals : ∀ r, natBit a.seals r = true → natBit b.seals r = true
  spent : ∀ k, natBit a.spent k = true → natBit b.spent k = true
  passes : a.passes ≤ b.passes

end Sys2Proof.Machine
end

