-- ==== Sys2Proof/WellFormed.lean ====
section
/-!
DEFINITION. WellFormed.lean: which operands a command may bring from outside: sources of configuration accesses that exist, headers whose
fields fit, payloads of the length their carrier has, and measured values within their ranges.  Operands that are a Fin, a Word or a Bool
are within range by their type.
-/
set_option autoImplicit false

namespace Sys2Proof

/-- A source code that an access can have (R491). -/
def Source.ok (src : Source) : Bool := decide (src.val ≤ 0x18) || src.val == 0x1F

/-- Every field of a header fits in its bits (R211). -/
def Header.fits (h : Header) : Bool :=
  decide (h.opcode < 64) && decide (h.fc < 64) && decide (h.tag < 4096) && decide (h.src < 64) && decide (h.dst < 64) &&
    decide (h.addr < 2 ^ 36) && decide (h.len ≤ 1024) && decide (h.rlen ≤ 1024) && decide (h.aux < 2 ^ 24)

/-- A header with the payload it announces. -/
def txnOk (h : Header) (data : List Byte) : Bool := h.fits && data.length == h.len

/-- A memory request and the SRAM errors found on 64 B lines of the 64 GiB it may touch. -/
def memTxnOk (h : Header) (data : List Byte) (sram : List (Nat × Bool)) : Bool :=
  txnOk h data && sram.all fun x => decide (x.1 < 2 ^ 30)

/-- A towpath payload: 1 B to 64 B (R165). -/
def towPayload (l : List Byte) : Bool := decide (1 ≤ l.length ∧ l.length ≤ 64)

/-- A word of a region, or of the control rows (R505, R506). -/
def OtpRead.ok (x : OtpRead) : Bool := decide (x.region ≤ 8) && decide (x.word < 1536)

/-- Outcomes by place and copy of a record's words. -/
def OtpOutcome.ok (x : OtpOutcome) : Bool := (x.redirect ++ x.stuck).all fun k => decide (k < 2 * 1536)

def BootSlot.ok (x : BootSlot) : Bool :=
  decide (x.keyIndex < 256) && decide (x.revId < 256) && decide (x.rollback < 64) && decide (x.fwVersion < 2 ^ 32) &&
    match x.config with | none => true | some l => decide (l.length ≤ 81)

/-- Errors in the burst of a parcel: a data or check pin, and 64 beats. -/
def pinErrOk (e : Nat × Nat) : Bool := decide (e.1 < 36) && decide (e.2 < 2 ^ 64)

/-- A finding names a part that exists. -/
def Finding.ok (x : Finding) : Bool :=
  match x with
  | .logic => true
  | .queueSram n | .imageSram n => decide (1 ≤ n)
  | .landing slice way => decide (slice < 32) && decide (way < 16)
  | .tsv index _ _ => decide (index < 6016)
  | .row hc bank r => decide (hc < 128) && decide (bank < 32) && decide (r < 16384)
  | .save hc bank r pos errs => decide (hc < 128) && decide (bank < 32) && decide (r < 16384) && decide (pos < 4) && errs.all pinErrOk
  | .lane l => decide (l < 128)

def TrainOutcome.ok (x : TrainOutcome) : Bool :=
  decide (x.hc < 128) && decide (x.failStep < 16) && x.dq.all (fun p => decide (p.1 < 38)) && x.newDq.all (fun i => decide (i < 36)) &&
    x.newCa.all (fun i => decide (i < 12))

def DieOutcome.ok (x : DieOutcome) : Bool := decide (x.die < 16)

def SentinelRead.ok (x : SentinelRead) : Bool :=
  decide (x.bank < 4096) && x.found.all fun p => decide (p.1 < 16384) && p.2.2.all pinErrOk

/-- No more symbols in error than symbols compared, and at most two bits of each. -/
def LaneCount.ok (x : LaneCount) : Bool := decide (x.symErrs ≤ x.symbols) && decide (x.bitErrs ≤ 2 * x.symErrs)

/-- A reading of a sensor that exists. -/
def readingsOk (l : List (Nat × Int)) : Bool := l.all fun p => decide (p.1 < 88)

/-- Symbols of ten bits. -/
def symbolsOk (n : Nat) (l : List Nat) : Bool := l.length == n && l.all fun v => decide (v < 1024)

/-- Flash data that a command returns: at most what a response carries. -/
def flashOkData (d : Option (List Byte)) : Bool := match d with | none => true | some l => decide (l.length ≤ 1016)

/-- A command with operands that the outside can bring. -/
def Instr.wf (c : Instr) : Bool :=
  match c with
  | .crossingBoundary | .prepare | .readySample | .commitSwitch | .hardwareCommit | .cfgCommitWindowExpiry | .vaonPorRise | .vaonPorFall
  | .sequenceViolation | .pwrgoodRise | .pwrgoodFall | .resetNLow | .restorationStart | .shedUndo | .warmStartDelay | .startBegin
  | .resetDrainDone | .resetRequestBegin | .meterSweep | .meterSweepLate | .stormExit | .classResume | .fillDone | .fillArrive | .flushDone
  | .modelUpdate | .levelFall | .rateFall | .boundaryTrack | .sinkStale | .reArm | .lifeCount | .drainDone | .drainTimeout | .entryFlushDone
  | .waitInstruction | .idleExit | .retentionRelease | .maintenanceExit | .wakeNLow | .watchdogRestart | .rstdaa | .getpid | .getbcr | .getdcr
  | .getstatus | .getmwl | .getmrl | .i3cError | .snapNLow | .snapDone | .cfgCheckPass | .tapReset | .idcode | .clamp | .highz | .wsBypass
  | .wsExtest | .wsIntest | .bypass | .configurationCopyDone | .snapNPulseEnd | .watchdogCountClear => true
  | .commitArm src | .commitCancel src | .commitDiscard src | .stagedFieldWrite src _ _ | .resetCtrlWarm src _ | .resetCtrlBaseDieOnly src _
  | .resetCtrlPortOnly src _ | .txApplyGo src _ | .towShapeWrite src _ _ | .eqWriteGo src _ _ | .prbsClear src _ _ | .clearPrefec src _ _
  | .eyeStart src _ _ | .portEnable src _ _ | .portDisable src _ _ | .testHoldSet src _ _ | .testHoldClear src _ _ | .retrain src _ _
  | .stepGo src _ _ | .portStatsClr src _ | .wakeGo src _ _ | .portTowClr src _ | .uzClr src _ | .qindRead src _ | .setProfile src _
  | .svcClr src | .ttLoad src _ | .forceStorm src _ | .ttClr src | .mapCheck src _ | .hcArbClr src | .hcCtrlRetrain src _ _ | .hcRepairGo src _
  | .hcClr src _ | .eccLogTailWrite src _ | .retireRow src | .retireBank src | .eccClr src | .clean src _ | .invalidate src _ | .preload src _
  | .discard src _ | .ldgClr src | .fabRestoreWrite src _ _ | .fabClr src | .thmSinkWrite src _ | .requestService src _ | .requestIdle src _
  | .requestRetention src _ | .requestMaintenance src _ | .requestSafe src _ | .requestCold src _ | .evtPendRead src _ | .causeRead src _
  | .evtLogTailWrite src _ | .evtLogW0Read src | .evtClr src | .shLoRead src _ | .snapGo src _ | .snapAck src _ | .snapRdDataRead src
  | .snapClr src | .mbxClr src | .glbLockWrite src _ | .swFlagsWrite src _ | .cfgCommit src | .registerWrite src _ _ | .loopbackEnable src _ =>
    src.ok
  | .resetNRise _ | .anchorEnd _ | .arm _ | .pllUnlock _ | .pllLock _ | .pairWindowExpiry _ | .cdrUnlock _ | .adaptRestore _ _ | .coefficientSave _
  | .prbsLock _ | .capTimer _ | .goTimeout _ | .ledgerRetry _ | .negotiateRestart _ | .stageTimeout _ | .deadline _ | .qrTimeout _
  | .degradeWindow _ | .frameStart _ | .frameSent _ | .codeFound _ _ | .codeSearchResume _
  | .codeLost _ | .beaconTimer _ | .mgmtResend _ | .wakePatternEnd _ | .wakeDeclared _ | .flitSend _ | .ackTimeout _ | .rreqRepeat _
  | .transactionSend _ | .requestTableAdmit _ | .poolRebuilt _ | .schedulerIntake _ | .dynamicAdmit _ | .ttLoadDone _ | .caParity _
  | .fieldRetrain _ | .repairRelease _ | .selfRefreshConfirm _ | .dieHot _ _ _ | .mwCopyRefresh _ | .pinWindowEnd _ | .scrubLate _ | .cleaning _
  | .failover _ | .beaconMiss _ | .restore _ | .backstopTrip _ | .oscCorrect _ | .watchdogExpiry _ | .purserFault _ _ | .submit _
  | .mailboxRelease _ | .mailboxDoneTimeout _ | .mbxTimeout _ | .entdaa _ | .setdasa _ | .setnewda _ | .setmwl _ _ | .setmrl _ _ | .enec _
  | .disec _ | .identity _ | .status _ | .reset _ | .cfgRead _ | .cfgWrite _ | .evtLogRead _ | .mode _ | .flashWrite _ | .otpRead _
  | .otpProgram _ | .otpSeal _ | .bistRun _ | .retire _ | .rowRepair _ | .snapshot _ | .snapRead _ | .modelRead _ | .jobResult _
  | .unknownCommand _ | .ledgerUpdate _ | .forcedSeal _ | .cfgAccess _ _ _ | .wrapSel _ | .railAboveWarning _ | .railRecoveryCrossing _ _
  | .srfUnconfirmed _ | .warmup _ | .sensorConversion _ _ _ | .trainingFrame _ _ _ _ | .noiseWindow _ _ | .eyeDone _ _ _ _ _ => true
  | .vqpsPresent mv | .vqpsOutOfRange mv _ | .railBelowWarning _ mv | .railResetLevel _ mv => decide (mv ≤ 4095)
  | .losAssert _ amp | .losDeassert _ amp => decide (amp ≤ 4095)
  | .fuse bad incomplete => bad.all OtpRead.ok && incomplete.all fun r => decide (r < 4)
  | .boot a b => a.ok && b.ok
  | .selftest _ findings => findings.all Finding.ok
  | .train outcomes dies => outcomes.all TrainOutcome.ok && dies.all DieOutcome.ok
  | .init bad us => bad.all SentinelRead.ok && decide (us < 2 ^ 32)
  | .release us => decide (us < 2 ^ 32)
  | .maskWindowEnd _ levels => levels.length == 128
  | .prbsLockLost _ count => count.ok
  | .cap _ l | .sel _ l | .go _ l | .qrReq _ l | .qrAck _ l | .step _ l | .stepAck _ l | .beacon _ l | .mgmt _ l | .mgmtAck _ l => towPayload l
  | .thresholdMet _ _ peak _ => decide (peak < 32)
  | .lockPair _ symbols _ skew => symbolsOk 8 symbols && decide (skew < 256)
  | .prbsVerifyEnd _ lanes => decide (lanes.length ≤ 8) && lanes.all LaneCount.ok
  | .codewordDecode _ received => symbolsOk 544 received
  | .innerBlockDecode _ llr => llr.length == 2176
  | .hail _ _ soft => soft.length == 32
  | .headerCheck _ soft => decide (soft.length ≤ 4096)
  | .frameEnd _ soft signals => decide (soft.length ≤ 4096) && decide (signals.length ≤ 8)
  | .flitReceived _ bytes _ => bytes.length == 512 || bytes.length == 256
  | .delayTimer _ source tag | .recordExpiry _ source tag => decide (source < 64) && decide (tag < 4096)
  | .cpl _ h d | .nak _ h d | .delay _ h d | .evt _ h d | .qstate _ h d | .unknownOpcode _ h d | .cfgRd _ h d | .cfgWr _ h d | .mbx _ h d =>
    txnOk h d
  | .rd _ h d x | .wr _ h d x | .wrm _ h d x | .enq _ h d x | .deq _ h d x | .peek _ h d x | .drop _ h d x | .move _ h d x | .cntAdd _ h d x
  | .cntRdclr _ h d x | .fadd _ h d x | .cas _ h d x | .meter _ h d x => memTxnOk h d x
  | .berth _ _ errs => errs.all pinErrOk
  | .fieldRetrainEnd outcome => outcome.ok
  | .trackingPass _ _ _ moves => moves.all fun m => decide (m.1 < 38)
  | .tripMonitorRead readings => readingsOk readings
  | .retentionExit outcomes bad us => outcomes.all TrainOutcome.ok && bad.all SentinelRead.ok && decide (us < 2 ^ 32)
  | .shutdownPhaseDone findings _ => findings.all Finding.ok
  | .i3cBufferWrite bytes => decide (bytes.length ≤ 1026)
  | .i3cPrivateRead count => decide (count ≤ 1026)
  | .flashRead _ d | .ledgerRead _ d => flashOkData d
  | .jobDone _ _ outcome findings => outcome.ok && findings.all Finding.ok
  | .snapLatch rails => decide (rails.length ≤ 6)
  | .otpReread bad => bad.all OtpRead.ok
  | .recordingPass a b cut => a.ok && b.ok && match cut with | none => true | some n => decide (n < 2 * 1536)
  | .samplePreload cells | .extest cells | .extestPulse cells | .extestTrain cells => decide (cells < 2 ^ 4096)
  | .wirAccess v => decide (v < 256)
  | .wdrAccess v => decide (v < 2 ^ 376)
  | .laneJoin _ _ quarters => decide (quarters < 4092)

end Sys2Proof
end

