-- ==== Sys2Proof/Certificates/Slice0/Obligations.lean ====
section
/-!
DEFINITION. Certificates/Slice0/Obligations.lean: the statements about the block for the provers, each from the rules its docstring
names.
-/
set_option autoImplicit false

open Sys2Proof Sys2Proof.Machine Reg Bit

/-- With the logic up and GLB_COMMIT_CTRL unlocked: an arm with a target at least 4 crossings ahead, outside START and not after PREPARE, is
accepted and the target is armed; PREPARE two crossings before the target begins the preparation; the ready sample one crossing before it
records the mask of the units that refuse once the lane ledger has decided the crossing's requests; a cancel before the sample withdraws the
arm with cause CANCELLED and first_refuser 15; a discard with nothing armed drops every shadow; the end of the window clears the suspension.
Apart from the commit controller, the shadows and the registers GLB_COMMIT_CTRL and GLB_COMMIT_STATUS, nothing changes. (01_architecture.md
Sequence; 01_architecture.md Collisions; 18_registers_and_otp.md) -/
def Obligations.CommitCommandsActOnTheArm : Prop :=
  ∀ (s : State) (src : Source),
    (writable s GLB_COMMIT_CTRL = true → s.commit.preparing = false → s.mode ≠ Mode.start →
      ∀ n, n = s.get GLB_COMMIT_TGT_HI_tgt_hi * 2 ^ 32 + (s.reg GLB_COMMIT_TGT_LO).toNat → s.future n = true → 4 ≤ s.ahead n →
        ∃ t, exec (.commitArm src) s = .next t ∧ t.commit.armed = some n ∧ t.get GLB_COMMIT_CTRL_arm = 1 ∧
          SameRegs [GLB_COMMIT_CTRL] s t ∧ { t with commit := s.commit, regs := s.regs } = s) ∧
    (s.up = true → ∀ n, s.commit.armed = some n → s.ahead n = 2 →
        exec .prepare s = .next { s with commit := { s.commit with preparing := true } }) ∧
    (s.up = true → ∀ n, s.commit.armed = some n → s.ahead n = 1 →
        exec .readySample s = .next { s with commit := { s.commit with preparing := true, vote := some (refusers (ledgerDecide s)) } }) ∧
    (writable s GLB_COMMIT_CTRL = true → s.commit.armed.isSome = true → s.commit.vote = none →
        ∃ t, exec (.commitCancel src) s = .next t ∧ t.commit.armed = none ∧ t.get GLB_COMMIT_STATUS_cause = CommitCause.cancelled ∧
          t.get GLB_COMMIT_STATUS_first_refuser = 15 ∧ SameRegs [GLB_COMMIT_CTRL, GLB_COMMIT_STATUS] s t ∧
          { t with commit := s.commit, regs := s.regs } = s) ∧
    (writable s GLB_COMMIT_CTRL = true → s.commit.armed = none → exec (.commitDiscard src) s = .next { s with staged := [] }) ∧
    (s.up = true → exec .cfgCommitWindowExpiry s = .next { s with commit := { s.commit with suspendLeft := 0 } })

/-- For every register that holds only staged fields, apart from the two whose range is checked: a write while it is writable leaves every
live register as it is unless an arm stands, and the word that would be live after a switch holds the written value in the staged bits and
the live value in the others. An arm that stood is withdrawn with cause REWRITTEN, counted and reported. A write to the descriptor of a
region that lost dirty lines may clear GLB_MEM_STATE.preserved; where no region is stale that register stands too. (01_architecture.md Staged
fields and the commit; 01_architecture.md Collisions; 03_start_and_reset.md) -/
def Obligations.StagedWritesWaitForTheSwitch : Prop :=
  ∀ (s : State) (src : Source) (a : CfgAddr) (r : RegRow) (i : Nat) (v : Word),
    rowAt a = some (r, i) → r.kind = .plain → r.rw = 0 → r.w1s = 0 → r.staged ≠ 0 → isClear r a = false →
    a.val ≠ LANE_LEDGER_ALLOW → a.val ≠ PWR_CEILING → writable s a = true →
    ∃ t, exec (.stagedFieldWrite src a v) s = .next t ∧
      (∀ k : Fin 32, (nextWord t a).getLsbD k = if natBit (stagedMask a) k then v.getLsbD k else (s.reg a).getLsbD k) ∧
      (∀ b, b ≠ a.val → t.staged.find b = s.staged.find b) ∧
      (s.commit.armed = none → t.commit = s.commit ∧ SameRegs [GLB_MEM_STATE] s t ∧ (s.get GLB_MEM_STATE_stale = 0 → t.regs = s.regs)) ∧
      (s.commit.armed ≠ none → t.commit.armed = none ∧ t.get GLB_COMMIT_STATUS_cause = CommitCause.rewritten ∧
        SameRegs [GLB_COMMIT_CTRL, GLB_COMMIT_STATUS, GLB_COMMIT_ABORTS, GLB_MEM_STATE] s t) ∧
      (∀ k : Fin 32, k.val ≠ GLB_MEM_STATE_preserved.lo → (t.reg GLB_MEM_STATE).getLsbD k = (s.reg GLB_MEM_STATE).getLsbD k) ∧
      { t with staged := s.staged, commit := s.commit, regs := s.regs, events := s.events } = s

/-- With the logic up, no hardware change due and the armed target reached. If no unit refused at the ready sample, the switch records the
target in GLB_COMMIT_LAST, sets cause SWITCHED and first_refuser 15, suspends the comparison for 1024 crossings and leaves no shadow; where
the supply ceiling alone was staged, its live value is the staged one and every other register but the commit controller's stands. If some
unit refused, the arm is gone, every shadow stays, no register but the commit controller's changes, the cause is NOT_READY, the refusers are
recorded and the lowest of them is first_refuser. With no change due, a hardware commit changes nothing; the throttle level that is due
becomes the live one. (01_architecture.md Staged fields and the commit; 01_architecture.md Collisions; 15_thermal.md;
16_modes_and_supply.md) -/
def Obligations.CommitSwitchesOrRefuses : Prop :=
  ∀ s : State, s.up = true →
    (s.commit.hwDue = [] → ∀ n, s.commit.armed = some n → s.ahead n = 0 →
      (s.commit.vote = some 0 → ∃ t, exec .commitSwitch s = .next t ∧ t.reg GLB_COMMIT_LAST_LO = BitVec.ofNat 32 n ∧
          t.reg GLB_COMMIT_LAST_HI = BitVec.ofNat 32 (n / 2 ^ 32 % 2 ^ 16) ∧ t.get GLB_COMMIT_STATUS_cause = CommitCause.switched ∧
          t.get GLB_COMMIT_STATUS_first_refuser = 15 ∧ t.commit.suspendLeft = 1024 ∧ t.staged = [] ∧ t.commit.armed = none) ∧
      (s.commit.vote = some 0 → ∀ w, s.staged = [(PWR_CEILING, w)] → swapStaged s = false → ∃ t, exec .commitSwitch s = .next t ∧
          t.reg PWR_CEILING = nextWord s PWR_CEILING ∧ t.staged = []) ∧
      (∀ m, s.commit.vote = some m → 0 < m → m < 2 ^ 13 → ∃ t, exec .commitSwitch s = .next t ∧ t.commit.armed = none ∧ t.staged = s.staged ∧
          t.get GLB_COMMIT_STATUS_cause = CommitCause.notReady ∧ t.get GLB_COMMIT_REFUSERS_refusers = m ∧
          natBit m (t.get GLB_COMMIT_STATUS_first_refuser) = true ∧ (∀ k : Fin 13, k.val < t.get GLB_COMMIT_STATUS_first_refuser → natBit m k = false) ∧
          SameRegs [GLB_COMMIT_CTRL, GLB_COMMIT_STATUS, GLB_COMMIT_REFUSERS, GLB_COMMIT_ABORTS] s t ∧
          { t with commit := s.commit, regs := s.regs, events := s.events } = s)) ∧
    (s.commit.hwDue = [] → exec .hardwareCommit s = .next s) ∧
    (∀ n, n < 8 → s.commit.hwDue = [.level n] → s.commit.armed = none → ∃ t, exec .hardwareCommit s = .next t ∧
        t.commit.hwDue = [] ∧ liveLevel t = n)

/-- VAON rising puts the mode to COLD and changes nothing else but the pin; VAON falling loses every register, the memory and the always-on
record, holds the logic in reset and keeps the antifuse array; a sequence violation is recorded for the next START; PWRGOOD rising sets the
pin alone. RESET_N rising samples NODEID and, while the logic is in reset, shows it as the strap, the node ID and the low three bits of the
I3C address, where PWRGOOD is high and the start is cold or RESET_N was the trigger of the reset; with PWRGOOD low it sets the pin alone.
Once START has ended, RESET_N falling and PWRGOOD falling each start an anchor sequence of a warm reset, with the pin as its recorded source,
that withdraws every mode transition and takes the logic down. A VQPS reading is recorded with the range flag, and above 300 mV VQPS_PRESENT
is recorded once per power-up. (02_package_pins_electrical.md; 03_start_and_reset.md Resets; 03_start_and_reset.md Anchor sequence;
15_thermal.md; 18_registers_and_otp.md) -/
def Obligations.PinEventsActOnTheSideband : Prop :=
  ∀ s : State,
    (s.pins.vaon = false → ∃ t, exec .vaonPorRise s = .next t ∧ t.pins = { s.pins with vaon := true } ∧ SameRegs [PWR_MODE] s t ∧
        t.mode = Mode.cold ∧ { t with pins := s.pins, regs := s.regs } = s) ∧
    (∃ t, exec .vaonPorFall s = .next t ∧ t.pins.vaon = false ∧ t.regs = [] ∧ t.dram.mem = [] ∧ t.up = false ∧ t.start.phase = .held ∧
        t.always.anchor = none ∧ t.otp.words = s.otp.words ∧ t.otp.seals = s.otp.seals ∧ t.otp.passes = s.otp.passes) ∧
    (exec .sequenceViolation s = .next { s with always := { s.always with seqViolation := true } }) ∧
    (exec .pwrgoodRise s = .next { s with pins := { s.pins with pwrgood := true } }) ∧
    (s.pins.resetN = false → s.pins.pwrgood = false → ∀ n,
        exec (.resetNRise n) s = .next { s with pins := { s.pins with resetN := true } }) ∧
    (s.pins.resetN = false → s.pins.pwrgood = true →
        s.start.kind = ResetKind.cold ∨ s.always.anchor.map (·.source) = some ResetSource.resetN →
        ∀ n, ∃ t, exec (.resetNRise n) s = .next t ∧ t.pins = { s.pins with resetN := true, nodeid := n.val } ∧
        (s.up = false → t.get FAB_NODE_strap = n.val ∧ t.get FAB_NODE_id = n.val ∧ t.get MBX_I3C_static = 0x48 + n.val % 8) ∧
        SameRegs [FAB_NODE, MBX_I3C] s t ∧ { t with pins := s.pins, regs := s.regs } = s) ∧
    (s.pins.resetN = true → s.pins.pwrgood = true → s.start.phase = .ended → ∃ t, exec .resetNLow s = .next t ∧
        t.start.phase = .anchoring ∧ t.start.kind = ResetKind.warm ∧ t.pins.resetN = false ∧
        t.always.anchor.map (·.source) = some ResetSource.resetN ∧ t.start.request = none ∧ t.modes.inflight = none ∧ t.modes.pending = none ∧
        t.up = false) ∧
    (s.pins.resetN = true → s.pins.pwrgood = true → s.start.phase = .ended → ∃ t, exec .pwrgoodFall s = .next t ∧
        t.start.phase = .anchoring ∧ t.start.kind = ResetKind.warm ∧ t.pins.pwrgood = false ∧
        t.always.anchor.map (·.source) = some ResetSource.pwrgood ∧ t.start.request = none ∧ t.modes.inflight = none ∧ t.modes.pending = none ∧
        t.up = false) ∧
    (∀ mv, (otpJob s).isSome = false → ∃ t, exec (.vqpsPresent mv) s = .next t ∧ t.pins = { s.pins with vqps := mv } ∧
        (t.flag OTP_STATUS_vqps ↔ 1746 ≤ mv ∧ mv ≤ 1854) ∧ SameRegs [OTP_STATUS, PWR_EVT_CAUSE] s t ∧
        t.always = { s.always with vqpsReported := s.always.vqpsReported || decide (300 < mv) } ∧
        { t with pins := s.pins, regs := s.regs, events := s.events, always := s.always } = s)

/-- With START waiting for its pins or in its 10 µs delay and no rail at its reset level, START_BEGIN, or the end of the delay, begins it at
ARM in mode START. ARM leads to FUSE and starts the watchdog; FUSE leads to BOOT with the antifuse array loaded; BOOT with a slot 0 that
passes leads to SELFTEST with that image's number and version shown and the boot ROM left; a SELFTEST without a failure leads to TRAIN and
stores the pass; TRAIN without a failed half-channel leads to INIT; INIT ends in WARMUP or ready for release, with the rails held; WARMUP
reached makes it ready. RELEASE, at a multiple of 16 crossings, restarts the count and the phase at 0, ends START in SERVICE or THROTTLED
with step 8, released, the time and reset_seen shown. (03_start_and_reset.md The START sequence; 03_start_and_reset.md;
19_test_and_repair.md; 18_registers_and_otp.md) -/
def Obligations.StartRunsItsSteps : Prop :=
  ∀ s : State,
    (s.start.phase = .held → s.pins.vaon = true → s.pins.resetN = true → s.pins.pwrgood = true → s.always.tripped = false → s.pins.atReset = 0 →
        ∃ t, exec .startBegin s = .next t ∧ t.start.phase = .running ∧ t.get GLB_START_STATUS_step = StartStep.arm ∧ t.mode = Mode.start ∧
          t.start.request = none ∧ t.always.seqViolation = false) ∧
    (s.start.phase = .delay → s.pins.atReset = 0 → ∃ t, exec .warmStartDelay s = .next t ∧ t.start.phase = .running ∧
          t.get GLB_START_STATUS_step = StartStep.arm ∧ t.mode = Mode.start ∧ t.start.request = none) ∧
    (startAt s StartStep.arm = true → ∀ plls, ∃ t, exec (.arm plls) s = .next t ∧ t.get GLB_START_STATUS_step = StartStep.fuse ∧
          t.purser.watchdog = s.ticks ∧ t.cross = 0 ∧ t.get LANE_PLL_STATUS_lock = plls.val) ∧
    (startAt s StartStep.fuse = true → ∀ bad incomplete, ∃ t, exec (.fuse bad incomplete) s = .next t ∧
          t.get GLB_START_STATUS_step = StartStep.boot ∧ t.get OTP_STATUS_loaded = 1) ∧
    (startAt s StartStep.boot = true → s.get MBX_WDOG_run < 3 → s.purser.skip ≠ some 0 → ∀ b c, slotVerdict s b = none →
        ∃ t, exec (.boot b c) s = .next t ∧ t.get GLB_START_STATUS_step = StartStep.selftest ∧ t.purser.slot = 0 ∧ t.purser.rom = false ∧
          t.purser.config = b.config ∧ t.reg MBX_FW_VER = BitVec.ofNat 32 b.fwVersion ∧ t.get GLB_START_STATUS_fw_slot = 0) ∧
    (startAt s StartStep.selftest = true → ∀ ledger found, testVerdict (selftestRun ledger.val found s) ≠ PhaseResult.fail →
        ∃ t, exec (.selftest ledger found) s = .next t ∧ t.get GLB_START_STATUS_step = StartStep.train ∧
          t.always.passRecord = some ((selftestRun ledger.val found s).reg THM_ON_S).toNat) ∧
    (startAt s StartStep.train = true → ∀ out dies, trainFails out dies s = false →
        ∃ t, exec (.train out dies) s = .next t ∧ t.get GLB_START_STATUS_step = StartStep.init) ∧
    (startAt s StartStep.init = true → s.start.ready = false → ∀ bad us, ∃ t, exec (.init bad us) s = .next t ∧
          (t.get GLB_START_STATUS_step = StartStep.warmup ∨ t.start.ready = true) ∧ t.always.railsHeld = true) ∧
    (startAt s StartStep.warmup = true → s.start.ready = false →
        exec (.warmup true) s = .next { s with start := { s.start with ready := true } }) ∧
    (s.start.phase = .running → s.start.ready = true → s.cross % 16 = 0 → ∀ us, ∃ t, exec (.release us) s = .next t ∧
          t.start.phase = .ended ∧ (t.mode = Mode.service ∨ t.mode = Mode.throttled) ∧ t.get GLB_START_STATUS_step = StartStep.released ∧
          t.get GLB_START_STATUS_released = 1 ∧ (t.reg GLB_START_TIME).toNat = min 0xFFFFFFFF us ∧ t.get GLB_SW_FLAGS_reset_seen = 1 ∧
          t.cross = 0 ∧ t.phase = 0 ∧ t.purser.releaseTick = s.ticks)

/-- A paired write of GLB_RESET_CTRL with kind 1 or 2 requests that reset from the control register, and one with kind 3 written in band
queues the port for a port-only reset; nothing else is requested. With no flush asked, the requested reset begins as an anchor sequence of
its kind once START has ended; so it does once its drain is done, with everything delivered completed and no write waiting for a core die.
With a flush asked for in a device whose logic is up outside RETENTION, the drain begins and no transition is left. The anchor sequence of a
warm reset ends with the logic in its reset state: held while a pin, power or a trip holds it, or in the 10 µs delay; the landing is empty,
no arm stands, every shadow is dropped. A pair whose window expires is dropped and reported with its source, reason 1 and address.
(03_start_and_reset.md Resets; 03_start_and_reset.md Anchor sequence; 18_registers_and_otp.md) -/
def Obligations.ResetsAreTakenAsRequested : Prop :=
  ∀ (s : State) (src : Source),
    (writable s GLB_RESET_CTRL = true → writable s GLB_RESET_CTRL_CPL = true → s.pairs.find GLB_RESET_CTRL = none → s.start.request = none →
      (∀ flush, ∃ t, exec (.resetCtrlWarm src flush) s = .next t ∧
          t.start = { s.start with request := some { kind := 1, source := ResetSource.ctrl, flush := flush, draining := false } } ∧
          SameRegs [GLB_RESET_CTRL] s t ∧ { t with start := s.start, regs := s.regs, pairs := s.pairs } = s ∧ t.pairs = s.pairs.erase GLB_RESET_CTRL) ∧
      (∀ flush, ∃ t, exec (.resetCtrlBaseDieOnly src flush) s = .next t ∧
          t.start = { s.start with request := some { kind := 2, source := ResetSource.ctrl, flush := flush, draining := false } } ∧
          SameRegs [GLB_RESET_CTRL] s t ∧ { t with start := s.start, regs := s.regs, pairs := s.pairs } = s) ∧
      (src.val < 16 → ∀ p, ∃ t, exec (.resetCtrlPortOnly src p) s = .next t ∧
          t.start = { s.start with portResets := insertSorted p.val s.start.portResets } ∧
          SameRegs [GLB_RESET_CTRL] s t ∧ { t with start := s.start, regs := s.regs, pairs := s.pairs } = s)) ∧
    (s.start.phase = .ended → s.up = true → ∀ r, s.start.request = some r → r.source ≠ ResetSource.trip →
      (r.draining = true → allDrained s = true → ∃ t, exec .resetDrainDone s = .next t ∧
          t.start.phase = .anchoring ∧ t.start.kind = r.kind ∧ t.start.request = none ∧ t.modes.inflight = none) ∧
      (r.draining = false → r.flush = false → s.start.portResets = [] → ∃ t, exec .resetRequestBegin s = .next t ∧
          t.start.phase = .anchoring ∧ t.start.kind = r.kind ∧ t.start.request = none ∧ t.modes.inflight = none) ∧
      (r.draining = false → r.flush = true → s.start.portResets = [] → s.mode ≠ Mode.retention → ∃ t, exec .resetRequestBegin s = .next t ∧
          t.start.phase = .ended ∧ t.start.request = some { r with draining := true } ∧ t.modes.inflight = none ∧ t.modes.pending = none)) ∧
    (s.start.phase = .anchoring → s.start.kind = ResetKind.warm → ∀ confirmed, ∃ t, exec (.anchorEnd confirmed) s = .next t ∧
          (t.start.phase = .held ∨ t.start.phase = .delay) ∧ t.up = false ∧ t.commit.armed = none ∧ t.staged = [] ∧ t.landing.lines = [] ∧
          t.purser.boxes = [] ∧ t.pins.nodeid = s.pins.nodeid) ∧
    (s.up = true → ∀ (a : CfgAddr) x, s.pairs.find a = some x →
        exec (.pairWindowExpiry a) s = .next (({ s with pairs := s.pairs.erase a }.setReg GLB_PAIR_FAIL
          (BitVec.ofNat 32 (x.src % 32 * 2 ^ 27 + PairFault.window * 2 ^ 24 + a % 2 ^ 24))).raiseEvent 341 0))

/-- A rail below its warning level sets its bit of PWR_SUPPLY.below, stops a restoration, clears its recovery and opens an excursion record
unless one runs, with the lowest reading kept; above it again its bit is clear. A rail above its recovery level is marked so; one below it is
not, and stops a restoration. With every rail recovered and a step of shedding standing, the restoration begins and its first undo is due as
a hardware commit; sixteen crossings after the last undo the next is due. A rail at its reset level in a released device triggers an anchor
sequence of a warm reset. (16_modes_and_supply.md Supply supervision; 16_modes_and_supply.md; 03_start_and_reset.md Resets) -/
def Obligations.RailsAndSheddingActAsStated : Prop :=
  ∀ s : State,
    (∀ (r : Rail) mv, ∃ t, exec (.railBelowWarning r mv) s = .next t ∧ natBit (t.get PWR_SUPPLY_below) r = true ∧ t.get PWR_SUPPLY_restoring = 0 ∧
        natBit t.pins.recovered r = false ∧ (s.always.excursion = none → t.always.excursion =
          some { first := r, minMv := mv, deepest := s.get PWR_SUPPLY_step, below := 0, start := s.ticks }) ∧
        SameRegs [PWR_SUPPLY] s t ∧ { t with pins := s.pins, always := s.always, regs := s.regs } = s) ∧
    (∀ r : Rail, ∃ t, exec (.railAboveWarning r) s = .next t ∧ natBit (t.get PWR_SUPPLY_below) r = false ∧ natBit t.pins.atReset r = false ∧
        SameRegs [PWR_SUPPLY] s t ∧ { t with pins := s.pins, regs := s.regs } = s) ∧
    (∀ r : Rail, ∃ t, exec (.railRecoveryCrossing r true) s = .next t ∧ natBit t.pins.recovered r = true ∧
        natBit (t.get PWR_SUPPLY_below) r = false ∧ SameRegs [PWR_SUPPLY] s t ∧ { t with pins := s.pins, regs := s.regs } = s) ∧
    (∀ r : Rail, ∃ t, exec (.railRecoveryCrossing r false) s = .next t ∧ natBit t.pins.recovered r = false ∧ t.get PWR_SUPPLY_restoring = 0 ∧
        SameRegs [PWR_SUPPLY] s t ∧ { t with pins := s.pins, regs := s.regs } = s) ∧
    (s.up = true → s.pins.recovered = 63 → s.get PWR_SUPPLY_below = 0 → s.get PWR_SUPPLY_restoring = 0 → 1 ≤ s.get PWR_SUPPLY_step →
        ∃ t, exec .restorationStart s = .next t ∧ t.get PWR_SUPPLY_restoring = 1 ∧ t.commit.hwDue = s.commit.hwDue ++ [.shedUndo] ∧
          t.modes.undoTick = s.ticks ∧ SameRegs [PWR_SUPPLY] s t ∧ { t with commit := s.commit, modes := s.modes, regs := s.regs } = s) ∧
    (s.up = true → s.get PWR_SUPPLY_restoring = 1 → 1 ≤ s.get PWR_SUPPLY_step → s.modes.undoTick + 16 ≤ s.ticks →
        s.commit.hwDue.contains .shedUndo = false →
        exec .shedUndo s = .next { s with commit := { s.commit with hwDue := s.commit.hwDue ++ [.shedUndo] }, modes := { s.modes with undoTick := s.ticks } }) ∧
    (s.start.phase = .ended → s.up = true → ∀ (r : Rail) mv, ∃ t, exec (.railResetLevel r mv) s = .next t ∧ t.start.phase = .anchoring ∧
        t.start.kind = ResetKind.warm ∧ t.always.anchor.map (·.source) = some ResetSource.rail ∧ natBit t.pins.atReset r = true ∧
        t.modes.inflight = none ∧ t.up = false)

/-- With the logic up. A PLL that locks, or unlocks, sets or clears its bit of LANE_PLL_STATUS.lock. In S2 to S7 an amplitude below the
threshold is recorded and sets los with the lane's cause, one 20 mV above it clears los; in S0 and S1, and for any other amplitude, nothing
changes. A CDR in lock that unlocks clears its lock with cause cdr_unlock. In S7 either loss takes the port to S5 with its cause. A checker
that runs takes lock; one that loses it counts the loss and raises its cause. A measurement under way ends with DONE or ABORTED, clears busy
and start and raises eye_done. A mask window of a lane without the monitor changes nothing; with it, the window's verdict is recorded for the
set of the stage. A divergence of a continuously adapting target with restore enabled raises adapt_restore and takes back the taps of the
lane's record. A save in S7 writes the lane's record to the always-on store. Registers outside the lane's and the events keep their values.
(04_lanes.md Clocks; 04_lanes.md Transmit path; 04_lanes.md Receive path; 04_lanes.md Test features; 04_lanes.md) -/
def Obligations.LaneEventsActOnTheLane : Prop :=
  ∀ (s : State) (l : Lane), s.up = true →
    (∀ pll, ∃ t, exec (.pllLock pll) s = .next t ∧ natBit (t.get LANE_PLL_STATUS_lock) pll = true) ∧
    (∀ pll, ∃ t, exec (.pllUnlock pll) s = .next t ∧ natBit (t.get LANE_PLL_STATUS_lock) pll = false) ∧
    (∀ amp, (2 ≤ s.stage (portOf l) → amp < losThreshold s l → s.stage (portOf l) < 6 ∨ s.get (LANE_RX_LEVEL_los l) = 1 →
        ∃ t, exec (.losAssert l amp) s = .next t ∧ t.get (LANE_RX_LEVEL_los l) = 1 ∧
        t.get (LANE_RX_LEVEL_amp l) = min 4095 amp ∧ t.reg (LANE_EVT_CAUSE l) = (s.put ⟨(Cause.LANE_los l).cause, (Cause.LANE_los l).bit, (Cause.LANE_los l).bit⟩ 1).reg (LANE_EVT_CAUSE l) ∧
        SameRegs [LANE_RX_LEVEL l, LANE_EVT_CAUSE l] s t ∧ { t with regs := s.regs, events := s.events } = s) ∧
      (s.stage (portOf l) = 7 → amp < losThreshold s l → s.get (LANE_RX_LEVEL_los l) = 0 → ∃ t, exec (.losAssert l amp) s = .next t ∧
        t.get (LANE_RX_LEVEL_los l) = 1 ∧ t.stage (portOf l) = 5 ∧ (t.port (portOf l)).qrCause = Fall.los ∧
        t.get (PORT_FALL_last_cause (portOf l)) = Fall.los) ∧
      (s.stage (portOf l) < 2 ∨ losThreshold s l ≤ amp → exec (.losAssert l amp) s = .next s)) ∧
    (∀ amp, 2 ≤ s.stage (portOf l) → losThreshold s l + 20 ≤ amp → ∃ t, exec (.losDeassert l amp) s = .next t ∧ t.get (LANE_RX_LEVEL_los l) = 0 ∧
        t.get (LANE_RX_LEVEL_amp l) = min 4095 amp ∧ SameRegs [LANE_RX_LEVEL l] s t ∧ { t with regs := s.regs } = s) ∧
    (s.get (LANE_CDR_STATUS_lock l) = 1 → s.stage (portOf l) = 7 → ∃ t, exec (.cdrUnlock l) s = .next t ∧ t.get (LANE_CDR_STATUS_lock l) = 0 ∧
        t.stage (portOf l) = 5 ∧ (t.port (portOf l)).qrCause = Fall.cdrUnlock ∧ t.get (PORT_FALL_last_cause (portOf l)) = Fall.cdrUnlock) ∧
    (s.get (LANE_CDR_STATUS_lock l) = 1 → s.stage (portOf l) < 6 → ∃ t, exec (.cdrUnlock l) s = .next t ∧ t.get (LANE_CDR_STATUS_lock l) = 0 ∧
        SameRegs [LANE_CDR_STATUS l, LANE_EVT_CAUSE l] s t ∧ { t with regs := s.regs, events := s.events } = s) ∧
    (s.get (LANE_PRBS_CTRL_chk_en l) = 1 → ∃ t, exec (.prbsLock l) s = .next t ∧ t.get (LANE_PRBS_STATUS_lock l) = 1 ∧
        SameRegs [LANE_PRBS_STATUS l] s t ∧ { t with regs := s.regs } = s) ∧
    (s.get (LANE_PRBS_CTRL_chk_en l) = 1 → s.get (LANE_PRBS_STATUS_lock l) = 1 → ∀ n, ∃ t, exec (.prbsLockLost l n) s = .next t ∧
        t.get (LANE_PRBS_STATUS_lock l) = 0 ∧ { t with regs := s.regs, events := s.events } = s ∧
        (t.reg (LANE_PRBS_SYMERR l)).toNat = satAdd 0xFFFFFFFF (s.reg (LANE_PRBS_SYMERR l)).toNat n.symErrs) ∧
    (s.get (LANE_EYE_STATUS_busy l) = 1 → ∀ aborted v0 v1 h, ∃ t, exec (.eyeDone l aborted v0 v1 h) s = .next t ∧
        t.get (LANE_EYE_STATUS_busy l) = 0 ∧ t.get (LANE_EYE_CTRL_start l) = 0 ∧ t.get (LANE_EYE_STATUS_result l) = (if aborted then 2 else 1) ∧
        SameRegs [LANE_EYE_STATUS l, LANE_EYE_CTRL l, LANE_EVT_CAUSE l, LANE_EYE_V0 l, LANE_EYE_V1 l, LANE_EYE_H l] s t ∧
        { t with regs := s.regs, events := s.events } = s) ∧
    (∀ levels, (s.get (LANE_MASK_CTRL_enable l) = 0 → exec (.maskWindowEnd l levels) s = .next s) ∧
      (s.get (LANE_MASK_CTRL_enable l) = 1 → ∃ t, exec (.maskWindowEnd l levels) s = .next t ∧
        t.get (LANE_MASK_STATUS_set l) = (if 2 ≤ s.stage (portOf l) then 0 else 1) ∧
        SameRegs [LANE_MASK_STATUS l, LANE_EVT_CAUSE l] s t ∧ { t with regs := s.regs, events := s.events, lanes := s.lanes } = s)) ∧
    (∀ snr, s.get (LANE_ADAPT_CTRL_restore_en l) = 1 → adaptsOn s l = true → diverged s l snr = true → ∃ t,
        exec (.adaptRestore l snr) s = .next t ∧ natBit (t.reg (LANE_EVT_CAUSE l)).toNat (Cause.LANE_adapt_restore l).bit = true ∧
        (∀ r, s.always.coeffs.find l = some r → (t.lane l).taps = r.taps) ∧ (∀ k : Lane, k ≠ l → t.lane k = s.lane k) ∧
        SameRegs [LANE_CDR_STATUS l, LANE_CTLE l, LANE_ADC l, LANE_STATUS l, LANE_EVT_CAUSE l] s t ∧ { t with regs := s.regs, events := s.events, lanes := s.lanes } = s) ∧
    (s.stage (portOf l) = 7 → ∃ t, exec (.coefficientSave l) s = .next t ∧
        (∃ r, t.always.coeffs.find l = some r ∧ r.gen = s.get (PORT_STATUS_gen (portOf l)) ∧ r.taps = (s.lane l).taps) ∧
        t.regs = s.regs ∧ { t with always := s.always } = s)

/-- On a lane whose registers are writable: a write of go to LANE_TX_APPLY shows go and marks the apply pending, busy if the port is in S2 to
S6, and changes neither output nor coefficients; a write of the shaping data records the coefficient that the index selects for the boundary;
a write of LANE_EQ_WR with go holds the word for the boundary and changes no tap; the clear bits of the checker and of the pre-FEC count are
shown and recorded for the boundary. A start of a measurement in S5 to S7 sets busy and start; in the other stages the measurement ends at
once with ABORTED. (04_lanes.md Transmit path; 04_lanes.md Receive path; 04_lanes.md Test features; 01_architecture.md) -/
def Obligations.LaneWritesAreHeldOrTaken : Prop :=
  ∀ (s : State) (src : Source) (l : Lane),
    (writable s (LANE_TX_APPLY l) = true → ∃ t, exec (.txApplyGo src l) s = .next t ∧ t.get (LANE_TX_APPLY_go l) = 1 ∧
        t.lane l = { s.lane l with applyPending := true, applyBusy := (s.lane l).applyBusy || decide (2 ≤ s.stage (portOf l) ∧ s.stage (portOf l) ≤ 6) } ∧
        (∀ k : Lane, k ≠ l → t.lane k = s.lane k) ∧ SameRegs [LANE_TX_APPLY l] s t) ∧
    (writable s (LANE_TOW_SHAPE_DATA l) = true → ∀ v, ∃ t, exec (.towShapeWrite src l v) s = .next t ∧
        t.lane l = { s.lane l with shapePending := (s.lane l).shapePending.ins (s.get (LANE_TOW_SHAPE_IDX_k l)) (v.bits 9 0) } ∧ t.regs = s.regs ∧
        (∀ k : Lane, k ≠ l → t.lane k = s.lane k)) ∧
    (writable s (LANE_EQ_WR l) = true → ∀ v, ∃ t, exec (.eqWriteGo src l v) s = .next t ∧ t.get (LANE_EQ_WR_go l) = 1 ∧
        t.lane l = { s.lane l with eqPending := some (v.withBits 31 31 1 &&& 0xE0FF0FFF) } ∧ SameRegs [LANE_EQ_WR l] s t) ∧
    (writable s (LANE_PRBS_CTRL l) = true → ∀ v, ∃ t, exec (.prbsClear src l v) s = .next t ∧ t.get (LANE_PRBS_CTRL_clear l) = 1 ∧
        t.clears = insertSorted (LANE_PRBS_CTRL l) s.clears ∧ SameRegs [LANE_PRBS_CTRL l, LANE_PRBS_STATUS l] s t) ∧
    (writable s (LANE_CTRL l) = true → ∀ v, ∃ t, exec (.clearPrefec src l v) s = .next t ∧ t.get (LANE_CTRL_clear_prefec l) = 1 ∧
        t.clears = insertSorted (LANE_CTRL l) s.clears ∧ SameRegs [LANE_CTRL l] s t) ∧
    (writable s (LANE_EYE_CTRL l) = true → s.get (LANE_EYE_STATUS_busy l) = 0 → 5 ≤ s.stage (portOf l) → ∀ v, ∃ t,
        exec (.eyeStart src l v) s = .next t ∧ t.get (LANE_EYE_STATUS_busy l) = 1 ∧ t.get (LANE_EYE_CTRL_start l) = 1 ∧
        SameRegs [LANE_EYE_STATUS l, LANE_EYE_CTRL l] s t) ∧
    (writable s (LANE_EYE_CTRL l) = true → s.get (LANE_EYE_STATUS_busy l) = 0 → s.stage (portOf l) < 5 → ∀ v, ∃ t,
        exec (.eyeStart src l v) s = .next t ∧ t.get (LANE_EYE_STATUS_busy l) = 0 ∧ t.get (LANE_EYE_STATUS_result l) = 2 ∧
        t.get (LANE_EYE_CTRL_start l) = 0 ∧ SameRegs [LANE_EYE_STATUS l, LANE_EYE_CTRL l, LANE_EVT_CAUSE l] s t)

/-- With PORT_CTRL of the port writable. Enabling a dark port whose PLL is locked, once ports may leave S0, takes it to S1; clearing enable
on a port that is not dark records that it goes dark at the boundary and moves no stage at once. In S7, setting the test hold stops the port
in S5 with the hold shown, and a retrain takes it to S5 with the cause of a host request while it waits for the peer; both leave the
generation. Clearing the hold of a held port asks the peer for a quick retrain in S5. A step outside S7 is refused: outcome 2 and go clear. A
clear of the port's statistics is shown and recorded for the boundary. (05_bringup_and_fec.md Stages; 05_bringup_and_fec.md Quick retrain;
05_bringup_and_fec.md Speed steps; 05_bringup_and_fec.md; 01_architecture.md) -/
def Obligations.PortControlWritesActAsStated : Prop :=
  ∀ (s : State) (src : Source) (p : Port) (v : Word), writable s (PORT_CTRL p) = true →
    (s.stage p = 0 → startLit s = true → anyPll s p = true → s.get (PORT_CTRL_test_hold p) = 0 → v.bits 3 1 = 0 →
        ∃ t, exec (.portEnable src p v) s = .next t ∧ t.stage p = 1 ∧ t.get (PORT_CTRL_enable p) = 1 ∧ t.get (PORT_NEG_attempts p) = 0 ∧
          (t.port p).attempt = none ∧ (t.port p).granted = false) ∧
    (s.stage p ≠ 0 → s.get (PORT_CTRL_test_hold p) = 0 → v.bits 3 1 = 0 →
        ∃ t, exec (.portDisable src p v) s = .next t ∧ t.get (PORT_CTRL_enable p) = 0 ∧ t.stage p = s.stage p ∧
          t.port p = { s.port p with disabling := true } ∧ SameRegs [PORT_CTRL p] s t) ∧
    (s.stage p = 7 → s.get (PORT_CTRL_test_hold p) = 0 → v.bits 3 2 = 0 →
        ∃ t, exec (.testHoldSet src p v) s = .next t ∧ t.stage p = 5 ∧ t.get (PORT_STATUS_hold p) = 1 ∧ t.get (PORT_CTRL_test_hold p) = 1 ∧
          (t.port p).qrWaiting = true ∧ t.get (PORT_STATUS_gen p) = s.get (PORT_STATUS_gen p)) ∧
    (s.stage p = 5 → s.get (PORT_STATUS_hold p) = 1 → s.get (PORT_CTRL_test_hold p) = 1 → v.bits 3 2 = 0 →
        ∃ t, exec (.testHoldClear src p v) s = .next t ∧ t.stage p = 5 ∧ t.get (PORT_STATUS_hold p) = 0 ∧ t.get (PORT_CTRL_test_hold p) = 0 ∧
          (t.port p).qrWaiting = true ∧ (t.tow p).queue = (s.tow p).queue ++ [[0x04, 0x07]]) ∧
    (s.stage p = 7 → v.bits 1 1 = s.get (PORT_CTRL_test_hold p) → v.bits 3 3 = 0 →
        ∃ t, exec (.retrain src p v) s = .next t ∧ t.stage p = 5 ∧ (t.port p).qrWaiting = true ∧ (t.port p).qrCause = Fall.hostRequest ∧
          (t.port p).keepLink = true ∧ t.get (PORT_FALL_last_cause p) = Fall.hostRequest ∧ t.get (PORT_STATUS_gen p) = s.get (PORT_STATUS_gen p)) ∧
    (1 ≤ s.stage p → s.stage p ≤ 6 → v.bits 1 1 = s.get (PORT_CTRL_test_hold p) → v.bits 2 2 = 0 →
        ∃ t, exec (.stepGo src p v) s = .next t ∧ t.get (PORT_NEG_step_outcome p) = 2 ∧ t.get (PORT_CTRL_step_go p) = 0 ∧ t.stage p = s.stage p ∧
          SameRegs [PORT_CTRL p, PORT_NEG p, PORT_EVT_CAUSE p] s t) ∧
    (writable s (PORT_STATS_CLR p) = true → ∃ t, exec (.portStatsClr src p) s = .next t ∧ t.clears = insertSorted (PORT_STATS_CLR p) s.clears ∧
        SameRegs [PORT_STATS_CLR p] s t)

/-- With the logic up. A millisecond of S1 before a peer CAP was received queues the port's own CAP, one after it and before the peer's SEL
the own SEL, and changes no register. A CAP of 18 bytes records the peer's device and revision. A SEL equal to the own one is answered by the
own SEL and asks the lane ledger for the target; a retry of a refused request asks again and changes nothing else. The ledger's grant of the
crossing's one request takes the target and queues GO; nothing is granted on the SEL alone. A GO from a peer whose CAP is held is recorded.
Ten milliseconds in S1 without the peer's GO start the exchange anew, and the maxima of S2 and S3 fall the port to S1 with a timeout. After a
failed exchange the restart clears it. The deadline of an attempt outside S0 and S7 raises its cause, falls the port to S1 and caps the next
attempt one generation below this one's aim, not below the reach's lowest. (05_bringup_and_fec.md Stages; 05_bringup_and_fec.md Negotiation;
04_lanes.md; 05_bringup_and_fec.md) -/
def Obligations.NegotiationActsAsStated : Prop :=
  ∀ (s : State) (p : Port), s.up = true →
    (negotiates s p = true → (s.port p).granted = false → (s.port p).capHeld = false → ∃ t, exec (.capTimer p) s = .next t ∧
        t.tow p = { s.tow p with queue := (s.tow p).queue ++ [capPayload s p] } ∧ t.regs = s.regs ∧
        { t with tows := s.tows, ports := s.ports } = s) ∧
    (∀ x, negotiates s p = true → (s.port p).granted = false → (s.port p).capHeld = true → (s.port p).capAgain = false →
        (s.port p).ownSel = some x → (s.port p).peerSel = none → ∃ t, exec (.capTimer p) s = .next t ∧
        t.tow p = { s.tow p with queue := (s.tow p).queue ++ [selPayload x] } ∧ { t with tows := s.tows } = s) ∧
    (∀ m : List Byte, m.length = 18 → m.headD 0 = 1 → s.stage p ≠ 0 → ∃ t, exec (.cap p m) s = .next t ∧
        t.reg (PORT_PEER_DEV p) = BitVec.ofNat 32 (ofBytesBE ((m.drop 10).take 4)) ∧
        t.reg (PORT_PEER_REV p) = BitVec.ofNat 32 (ofBytesBE ((m.drop 14).take 4)) ∧ t.get (PORT_PEER_CAP_valid p) = 1) ∧
    (∀ g r v w : Fin 4, negotiates s p = true → (s.port p).granted = false → (s.port p).capHeld = true →
        (s.port p).ownSel = some ⟨g.val, r.val, v.val, w.val⟩ → s.get (PORT_STATUS_ledger_wait p) = 0 →
        ∃ t, exec (.sel p [2, BitVec.ofNat 8 g, BitVec.ofNat 8 r, BitVec.ofNat 8 v, BitVec.ofNat 8 w]) s = .next t ∧
          (t.tow p).queue = (s.tow p).queue ++ [selPayload ⟨g.val, r.val, v.val, w.val⟩] ∧ t.asks = s.asks.ins p ⟨g.val, r.val, .entry⟩ ∧
          (t.port p).peerSel = some ⟨g.val, r.val, v.val, w.val⟩ ∧ (t.port p).granted = false ∧
          { t with tows := s.tows, ports := s.ports, asks := s.asks } = s) ∧
    (∀ g r : Fin 4, s.asks = [(p.val, ⟨g.val, r.val, .entry⟩)] → ledgerJudge { s with asks := [] } p g r = none →
        ((ledgerDecide s).port p).granted = true ∧ (ledgerDecide s).get (PORT_STATUS_target_gen p) = g ∧
        (ledgerDecide s).get (PORT_STATUS_target_reach p) = r ∧ (ledgerDecide s).get (PORT_STATUS_ledger_wait p) = 0 ∧
        (ledgerDecide s).asks = [] ∧ ((ledgerDecide s).tow p).queue = (s.tow p).queue ++ [goPayload 0 0]) ∧
    (∀ c : Byte, negotiates s p = true → (s.port p).capHeld = true → ∃ t, exec (.go p [3, 0, c]) s = .next t ∧
        t.port p = { s.port p with peerGo := true } ∧ t.regs = s.regs ∧ (∀ q : Port, q ≠ p → t.port q = s.port q)) ∧
    ((s.port p).granted = true → (s.port p).peerGo = false → s.stage p = 1 → ∃ t, exec (.goTimeout p) s = .next t ∧
        t.stage p = 1 ∧ (t.port p).granted = false ∧ (t.port p).capHeld = false ∧ (t.port p).ownSel = none ∧ SameRegs [PORT_STATUS p] s t) ∧
    (∀ sel, negotiates s p = true → (s.port p).granted = false → s.get (PORT_STATUS_ledger_wait p) = 1 → (s.port p).ownSel = some sel →
        exec (.ledgerRetry p) s = .next { s with asks := s.asks.ins p ⟨sel.gen, sel.reach, .entry⟩ }) ∧
    ((s.port p).negWait = true → ∃ t, exec (.negotiateRestart p) s = .next t ∧ (t.port p).negWait = false ∧ (t.port p).capHeld = false ∧
        (t.port p).ownSel = none ∧ SameRegs [PORT_STATUS p] s t ∧ (∀ q : Port, q ≠ p → t.port q = s.port q)) ∧
    ((s.stage p = 2 ∨ s.stage p = 3) → s.get (PORT_STATUS_hold p) = 0 → ∃ t, exec (.stageTimeout p) s = .next t ∧ t.stage p = 1 ∧
        t.get (PORT_FALL_last_cause p) = Fall.timeout ∧ t.get (PORT_STATUS_gen p) = 0) ∧
    ((s.port p).attempt ≠ none → s.stage p ≠ 0 → s.stage p ≠ 7 → ∃ t, exec (.deadline p) s = .next t ∧ t.stage p = 1 ∧
        t.get (PORT_FALL_last_cause p) = Fall.timeout ∧ (t.port p).attempt = none ∧
        (∀ g r, (s.port p).aim = some (g, r) → (s.port p).capAttempt = 0 →
          (t.port p).capAttempt = max (if r = 2 then 2 else 1) (g - 1)))

/-- With the logic up. A training frame whose CRC fails restarts the run of ready frames of its lane alone, in S2 and S4. An SNR below the
threshold, with an offset the CDR tracks, is recorded and moves no stage. Outside S3 and S6 a lock pair changes nothing; in S3 before any
switch a pair without own lock clears the lock, ends the run and moves no stage, and one with own lock, every lane in its place and within
the skew, shows lock and alignment and counts the run, whose sixteenth starts the own countdown of 32 pairs. A dwell in which a lane fails
sends a quick retrain to its failure, one in which all pass takes S5 to S6. A QR_REQ in S7 is a trigger that takes the port to S5 with the
peer's request as cause, and holds it there when the peer's cause is its host's request; a QR_ACK ends the wait, and a QR timeout fails the
retrain: S1, fresh and retrain_failed. A STEP outside S7 is answered by a refusal; a STEP_ACK that accepts takes the port to S4 at the step's
target. (05_bringup_and_fec.md Training; 05_bringup_and_fec.md Quick retrain; 05_bringup_and_fec.md Speed steps; 05_bringup_and_fec.md) -/
def Obligations.TrainingRetrainAndStepsActAsStated : Prop :=
  ∀ (s : State) (p : Port), s.up = true →
    (∀ l : Lane, (s.stage (portOf l) = 2 ∨ s.stage (portOf l) = 4) → ∀ (w : Word) (crc : Fin 65536), crc16 (numBits 32 w.toNat) ≠ crc.val →
        ∃ t, exec (.trainingFrame l w crc false) s = .next t ∧
        t.lane l = { s.lane l with readyRun := 0 } ∧ (∀ k : Lane, k ≠ l → t.lane k = s.lane k) ∧ { t with lanes := s.lanes } = s) ∧
    (∀ l : Lane, (s.stage (portOf l) = 2 ∨ s.stage (portOf l) = 4) → ∀ snr peak offset, -2000 ≤ offset → offset ≤ 2000 →
        snr < snrThreshold s (portOf l) → ∃ t, exec (.thresholdMet l snr peak offset) s = .next t ∧
          t.get (LANE_EYE_V1_snr l) = min 1023 snr ∧ t.get (LANE_CDR_STATUS_offset l) = ofSigned 16 offset ∧
          t.stage (portOf l) = s.stage (portOf l) ∧ SameRegs [LANE_EYE_V1 l, LANE_CDR_STATUS l, LANE_CTLE l] s t ∧
          { t with regs := s.regs } = s) ∧
    (∀ symbols own skew, s.stage p ≠ 3 → s.stage p ≠ 6 → exec (.lockPair p symbols own skew) s = .next s) ∧
    (∀ symbols skew, s.stage p = 3 → (s.port p).txSwitched = false → ∃ t,
        exec (.lockPair p symbols false skew) s = .next t ∧ t.stage p = 3 ∧ t.get (PORT_FEC_STATUS_rs_lock p) = 0 ∧
          t.get (PORT_FEC_STATUS_lane_aligned p) = 0 ∧ t.port p = { s.port p with lockPairs := 0 } ∧ SameRegs [PORT_FEC_STATUS p] s t) ∧
    (∀ skew, s.stage p = 3 → (s.port p).countdown = none → (s.port p).txSwitched = false → skew ≤ 64 → ∃ t,
        exec (.lockPair p [8, 9, 10, 11, 12, 13, 14, 15] true skew) s = .next t ∧ t.stage p = 3 ∧ t.get (PORT_FEC_STATUS_rs_lock p) = 1 ∧
          t.get (PORT_FEC_STATUS_lane_aligned p) = 1 ∧ t.get (PORT_FEC_STATUS_skew p) = skew ∧ (t.port p).lockPairs = (s.port p).lockPairs + 1 ∧
          (t.port p).laneOrder = [0, 1, 2, 3, 4, 5, 6, 7] ∧ (t.port p).countdown = (if 16 ≤ (s.port p).lockPairs + 1 then some 256 else none)) ∧
    (s.stage p = 5 → s.get (PORT_STATUS_hold p) = 0 → (s.port p).qrWaiting = false → ∃ t,
        exec (.prbsVerifyEnd p (List.replicate 8 ⟨true, 0, 0, 0⟩)) s = .next t ∧ t.stage p = 6 ∧ (t.port p).lockPairs = 0 ∧
          t.get (PORT_FEC_STATUS_rs_lock p) = 0) ∧
    (s.stage p = 5 → s.get (PORT_STATUS_hold p) = 0 → (s.port p).qrWaiting = false → (s.port p).path = .quick → (s.port p).stepping = none →
        ∃ t, exec (.prbsVerifyEnd p (List.replicate 8 ⟨false, 0, 0, 0⟩)) s = .next t ∧ (t.port p).fresh = true ∧ t.stage p = 1) ∧
    (∀ c : Byte, s.stage p = 7 → ∃ t, exec (.qrReq p [4, c]) s = .next t ∧ t.stage p = 5 ∧
        (t.port p).qrCause = Fall.peerRequest ∧ (t.port p).qrWaiting = false ∧ (t.port p).keepLink = true ∧
        t.get (PORT_FALL_last_cause p) = Fall.peerRequest ∧ (t.tow p).queue = (s.tow p).queue ++ [[0x05]] ∧
        (t.get (PORT_STATUS_hold p) = 1 ↔ c = 7 ∨ s.get (PORT_CTRL_test_hold p) = 1)) ∧
    (s.stage p ≠ 0 → (s.port p).qrWaiting = true → ∃ t, exec (.qrAck p [5]) s = .next t ∧ t.port p = { s.port p with qrWaiting := false } ∧
        t.stage p = s.stage p) ∧
    ((s.port p).qrWaiting = true → s.stage p ≠ 0 → ∃ t, exec (.qrTimeout p) s = .next t ∧ t.stage p = 1 ∧ (t.port p).fresh = true ∧
        (t.port p).qrWaiting = false) ∧
    (∀ g u : Byte, s.stage p ≠ 0 → s.stage p ≠ 7 → ∃ t, exec (.step p [6, g, u]) s = .next t ∧
        (t.tow p).queue = (s.tow p).queue ++ [[0x07, 1]] ∧ t.stage p = s.stage p ∧ t.regs = s.regs) ∧
    (∀ x, s.stage p = 7 → (s.port p).stepping = some x → x.running = false → x.target < 4 → (s.port p).stepDue = none →
        pllLocked s p (s.get (PORT_STATUS_reach p)) = true → ∃ t, exec (.stepAck p [7, 0]) s = .next t ∧
        t.stage p = 4 ∧ t.get (PORT_STATUS_gen p) = x.target ∧ t.get (PORT_STATUS_target_gen p) = x.target ∧
        (t.port p).stepping = some { x with running := true })

/-- With the logic up. In S7 a codeword that the outer decoder corrects in k symbols, 1 to 15, whose pair is not yet open counts one codeword
and one in the histogram bin of k, and opens the pair; one it cannot correct counts as uncorrectable; outside S7 an uncorrectable one counts
nowhere. An inner block is counted only in optical reach from S6 on; in S7 it counts one block, and one failure unless every check of its
hard decisions holds. A degrade window outside S7 changes nothing; in S7 with the rule disabled it shows whether the window was degraded and
starts the next window at zero, in the same stage. (05_bringup_and_fec.md Forward error correction; 05_bringup_and_fec.md) -/
def Obligations.FecCountsActAsStated : Prop :=
  ∀ (s : State) (p : Port), s.up = true →
    (∀ received word fixed, rsDecode ((List.range 544).map fun i => received.getD i 0 % 1024) = some (word, fixed) → 1 ≤ fixed.length →
        fixed.length ≤ 15 → (s.port p).pairHalf = none → (s.port p).laneOrder.length = 8 → s.stage p = 7 →
        ∃ t, exec (.codewordDecode p received) s = .next t ∧
        (t.reg (PORT_HIST p fixed.length)).toNat = satAdd 0xFFFFFFFF (s.reg (PORT_HIST p fixed.length)).toNat 1 ∧
        t.reg (PORT_CW_LO p) = s.reg (PORT_CW_LO p) + 1 ∧ (t.port p).pairHalf = some false ∧ t.stage p = 7 ∧
        { t with regs := s.regs, ports := s.ports } = s) ∧
    (∀ received, rsDecode ((List.range 544).map fun i => received.getD i 0 % 1024) = none → (s.port p).pairHalf = none → s.stage p = 7 →
        ∃ t, exec (.codewordDecode p received) s = .next t ∧
        t.reg (PORT_CW_LO p) = s.reg (PORT_CW_LO p) + 1 ∧ t.reg (PORT_CW_UNCORR_LO p) = s.reg (PORT_CW_UNCORR_LO p) + 1 ∧
        (t.port p).pairHalf = some true ∧ (t.port p).badCw = (s.port p).badCw ++ [(s.port p).cwSeen] ∧
        SameRegs [PORT_CW_LO p, PORT_CW_LO p + 4, PORT_CW_UNCORR_LO p, PORT_CW_UNCORR_LO p + 4] s t) ∧
    (∀ received, rsDecode ((List.range 544).map fun i => received.getD i 0 % 1024) = none → s.stage p ≠ 7 → (s.port p).pairHalf = none →
        ∃ t, exec (.codewordDecode p received) s = .next t ∧ t.regs = s.regs) ∧
    (∀ (l : Lane) llr, s.get (PORT_STATUS_reach (portOf l)) ≠ 2 ∨ s.stage (portOf l) < 6 → exec (.innerBlockDecode l llr) s = .next s) ∧
    (∀ (l : Lane) llr q, q = portOf l → s.get (PORT_STATUS_reach q) = 2 → s.stage q = 7 → s.get (PORT_FEC_STATUS_inner_lock q) = 0 → ∃ t,
        exec (.innerBlockDecode l llr) s = .next t ∧ t.reg (PORT_INNER_BLK_LO q) = s.reg (PORT_INNER_BLK_LO q) + 1 ∧
          (∀ n bits, innerDecode (s.flag (PORT_FEC_CTRL_early_stop q)) (innerLimit s q) llr = (n, bits) →
            t.reg (PORT_INNER_FAIL_LO q) = s.reg (PORT_INNER_FAIL_LO q) + (if innerZeroSyndrome bits then 0 else 1) ∧
            (t.port q).winInner = (s.port q).winInner + (if innerZeroSyndrome bits then 0 else 1) ∧ (t.lane l).innerBits = bits.take 2048) ∧
          (t.port q).winBlocks = (s.port q).winBlocks + 1) ∧
    (s.stage p ≠ 7 → exec (.degradeWindow p) s = .next s) ∧
    (s.stage p = 7 → s.get (PORT_DEGRADE_enable p) = 0 → ∃ t, exec (.degradeWindow p) s = .next t ∧
        (t.get (PORT_STATUS_degraded p) = 1 ↔ windowDegraded s p = true) ∧ (t.port p).winHist = 0 ∧ (t.port p).winUncorr = 0 ∧
        (t.port p).degradedRun = 0 ∧ t.stage p = 7 ∧ SameRegs [PORT_STATUS p, PORT_FEC_STATUS p, PORT_EVT_CAUSE p] s t)

/-- With the logic up. Where a frame may start, the waiting payload of the highest precedence leaves the queue and is sent with the next
sequence number on the code that PORT_TOW_CTRL names; its end counts it. The search keeps an enabled code found with nothing kept or locked,
a resumed search drops it, and a code lock that is lost is shown as gone with its cause. A beacon interval in S1 with beacons enabled and
none waiting queues the port's beacon; nothing else changes. An unacknowledged management fragment is sent again up to eight times. A wake
asked for in S1 with no frame under way starts the pattern, which its end clears. A lane's SNR and its phase modulo 4092 are recorded, and
every lane of the port then counts as joined as the two conditions of the combined stream say; the first noise measurement of an idle lane is
taken whole. A clear of the towpath's counters is shown and recorded. (06_towpath.md Sending; 06_towpath.md Receiving; 06_towpath.md Wake;
06_towpath.md; 01_architecture.md) -/
def Obligations.TowpathSendsAndFindsCodes : Prop :=
  ∀ (s : State) (p : Port), s.up = true →
    (∀ m, towMayStart s p = true → (s.tow p).sending = none → (s.tow p).waking = false → (s.tow p).wakeWaiting = false →
        towPick (s.tow p).queue = some m → ∃ t, exec (.frameStart p) s = .next t ∧ (t.tow p).sending = some m ∧
          (t.tow p).queue = (s.tow p).queue.erase m ∧ (t.tow p).code = s.get (PORT_TOW_CTRL_tx_code p) ∧ (t.tow p).txSeq = ((s.tow p).txSeq + 1) % 16 ∧
          (t.tow p).channel = frameChannel (frameHeader m.length (s.tow p).txSeq (s.get (PORT_TOW_TAG_tag p))) m ∧ { t with tows := s.tows } = s) ∧
    (∀ m, (s.tow p).sending = some m → (s.tow p).wakeWaiting = false → ∃ t, exec (.frameSent p) s = .next t ∧ (t.tow p).sending = none ∧
        (t.reg (PORT_TOW_TX_FRAMES p)).toNat = satAdd 0xFFFFFFFF (s.reg (PORT_TOW_TX_FRAMES p)).toNat 1 ∧
        SameRegs [PORT_TOW_TX_FRAMES p] s t ∧ { t with tows := s.tows, regs := s.regs } = s) ∧
    (∀ c : Fin 16, s.stage p ≠ 0 → (s.tow p).found = none → (s.tow p).locked = none → codeEnabled s p c = true →
        exec (.codeFound p c) s = .next (s.setTow p { s.tow p with found := some c.val })) ∧
    (exec (.codeSearchResume p) s = .next (s.setTow p { s.tow p with found := none })) ∧
    ((s.tow p).locked ≠ none → ∃ t, exec (.codeLost p) s = .next t ∧ t.tow p = { s.tow p with locked := none } ∧
        t.get (PORT_TOW_STATUS_code_locked p) = 0 ∧ SameRegs [PORT_TOW_STATUS p, PORT_TOW_EVT_CAUSE p] s t ∧
        { t with tows := s.tows, regs := s.regs, events := s.events } = s) ∧
    (s.get (PORT_TOW_CTRL_beacon_en p) = 1 → s.stage p = 1 → ((s.tow p).queue.all fun m => towClass m != 4) = true →
        exec (.beaconTimer p) s = .next (s.setTow p { s.tow p with queue := (s.tow p).queue ++ [beaconPayload s p] })) ∧
    (∀ x, (s.tow p).mgmtTx = some x → x.sends < 8 → exec (.mgmtResend p) s = .next (s.setTow p { s.tow p with
        mgmtTx := some { x with sends := x.sends + 1 }, queue := (s.tow p).queue ++ [mgmtPayload x] })) ∧
    (∀ src v, writable s (PORT_TOW_WAKE p) = true → s.stage p = 1 → (s.tow p).sending = none → ∃ t, exec (.wakeGo src p v) s = .next t ∧
        (t.tow p).waking = true ∧ t.get (PORT_TOW_WAKE_sending p) = 1 ∧ t.get (PORT_TOW_WAKE_go p) = 1 ∧
        t.get (PORT_TOW_WAKE_dur p) = v.bits 7 4 ∧ SameRegs [PORT_TOW_WAKE p] s t) ∧
    ((s.tow p).waking = true → ∃ t, exec (.wakePatternEnd p) s = .next t ∧ (t.tow p).waking = false ∧ t.get (PORT_TOW_WAKE_sending p) = 0 ∧
        t.get (PORT_TOW_WAKE_go p) = 0 ∧ SameRegs [PORT_TOW_WAKE p] s t ∧ { t with tows := s.tows, regs := s.regs } = s) ∧
    (∀ (l : Lane) snr q, s.stage (portOf l) ≠ 0 → ∃ t, exec (.laneJoin l snr q) s = .next t ∧ (t.lane l).towSnr = snr ∧
        t.get (LANE_TOW_PHASE_phase l) = q % 4092 ∧ (∀ k : Lane, portOf k = portOf l → (t.lane k).joined = mayJoin t k) ∧
        (∀ k : Lane, portOf k ≠ portOf l → t.lane k = s.lane k) ∧ SameRegs ((lanesOf (portOf l)).map LANE_TOW_PHASE) s t ∧
        { t with lanes := s.lanes, regs := s.regs } = s) ∧
    (∀ (l : Lane) x, s.stage (portOf l) ≠ 0 → (s.tow (portOf l)).ctx0 = .search → (s.tow (portOf l)).ctx1 = .search →
        s.get (LANE_TOW_NOISE_valid l) = 0 → ∃ t, exec (.noiseWindow l x) s = .next t ∧ t.get (LANE_TOW_NOISE_valid l) = 1 ∧
          t.get (LANE_TOW_NOISE_level l) = ofSigned 12 x ∧ SameRegs [LANE_TOW_NOISE l] s t ∧ { t with regs := s.regs } = s) ∧
    (∀ src, writable s (PORT_TOW_CLR p) = true → ∃ t, exec (.portTowClr src p) s = .next t ∧
        t.clears = insertSorted (PORT_TOW_CLR p) s.clears ∧ SameRegs [PORT_TOW_CLR p] s t)

/-- With the logic up. A hail of the code found, of 32 soft values within the errors allowed and with both contexts searching, opens the
first context with its metric. A decoded header that checks moves the context to its payload, one that fails returns it to the search and is
counted. A frame whose CRC is wrong resets both contexts and counts one CRC error; a good frame of a foreign tag counts one good frame,
stores the tag and hands a payload of a type and length that is handled on. A beacon of eight bytes is shown with its sequence number and
epoch. To a mailbox that is idle a first management fragment is accepted and kept; one out of its order is answered so, with nothing taken;
the acknowledgement of the last fragment of a response ends it. A wake seen on a port in service resets its contexts and raises wake_rx.
(06_towpath.md Receiving; 06_towpath.md Frame types; 06_towpath.md Wake; 06_towpath.md; 14_fabric.md) -/
def Obligations.TowpathFramesAreTakenByTheirChecks : Prop :=
  ∀ (s : State) (p : Port), s.up = true →
    (∀ (c : Fin 16) soft, s.stage p ≠ 0 → (s.tow p).found = some c.val → (s.tow p).ctx0 = .search → (s.tow p).ctx1 = .search →
        soft.length = 32 → hailErrors soft ≤ hailErr s p →
        ∃ t, exec (.hail p c soft) s = .next t ∧ t.tow p = { s.tow p with ctx0 := .header c (hailMetric soft), found := none } ∧
          t.get (PORT_TOW_HAIL_errors p) = hailErrors soft ∧ t.get (PORT_TOW_HAIL_metric p) = hailMetric soft ∧ SameRegs [PORT_TOW_HAIL p] s t ∧
          { t with tows := s.tows, regs := s.regs } = s) ∧
    (∀ c m soft w, decodedHeader soft = w → (s.tow p).ctx0 = .header c m → (headerOk w = true → exec (.headerCheck p soft) s = .next (s.setTow p { s.tow p with ctx0 := .payload c w })) ∧
      (headerOk w = false → ∃ t, exec (.headerCheck p soft) s = .next t ∧ (t.tow p).ctx0 = .search ∧
        (t.reg (PORT_TOW_HDR_ERR p)).toNat = satAdd 0xFFFFFFFF (s.reg (PORT_TOW_HDR_ERR p)).toNat 1 ∧
        SameRegs [PORT_TOW_HDR_ERR p, PORT_TOW_EVT_CAUSE p] s t ∧ { t with tows := s.tows, regs := s.regs, events := s.events } = s)) ∧
    (∀ c w m soft, (s.tow p).ctx0 = .payload c w → decodedPayload (w.bits 31 25) soft = m →
      (decodedCrc (w.bits 31 25) soft ≠ frameCrc w m → ∃ t, exec (.frameEnd p soft []) s = .next t ∧
        (t.tow p).ctx0 = .search ∧ (t.tow p).ctx1 = .search ∧ (t.tow p).inbox = (s.tow p).inbox ∧
        (t.reg (PORT_TOW_CRC_ERR p)).toNat = satAdd 0xFFFFFFFF (s.reg (PORT_TOW_CRC_ERR p)).toNat 1 ∧
        SameRegs [PORT_TOW_CRC_ERR p, PORT_TOW_EVT_CAUSE p] s t) ∧
      (decodedCrc (w.bits 31 25) soft = frameCrc w m → w.bits 20 9 ≠ s.get (PORT_TOW_TAG_tag p) → ∃ t, exec (.frameEnd p soft []) s = .next t ∧
        (t.reg (PORT_TOW_FRAMES_OK p)).toNat = satAdd 0xFFFFFFFF (s.reg (PORT_TOW_FRAMES_OK p)).toNat 1 ∧
        t.get (PORT_TOW_STATUS_peer_tag p) = w.bits 20 9 ∧ (t.tow p).lastFrame = some s.ticks ∧
        (t.tow p).inbox = (s.tow p).inbox ++ (if towHandled m then [m] else []))) ∧
    (∀ m, m.length = 8 → m.headD 0 = 0x10 → s.stage p ≠ 0 → ∃ t, exec (.beacon p m) s = .next t ∧ t.get (PORT_TOW_BCN0_valid p) = 1 ∧
        t.get (PORT_TOW_BCN1_seq p) = (m.getD 4 0).toNat * 256 + (m.getD 5 0).toNat ∧
        t.get (PORT_TOW_BCN1_epoch p) = (m.getD 6 0).toNat * 256 + (m.getD 7 0).toNat ∧ t.get (FAB_NBR_valid p) = 1 ∧
        (t.fabPort p).beaconTick = some s.ticks ∧ (t.fabPort p).missed = false) ∧
    (∀ (b : Fin 8) x, s.stage p ≠ 0 → s.get (PORT_TOW_CTRL_mgmt_en p) = 1 → sourceOn s b Owner.towpath = true → (s.tow p).mgmtRx.find b = none →
        boxState s b = BoxState.idle →
        (∃ t, exec (.mgmt p [0x11, BitVec.ofNat 8 b, 0, x]) s = .next t ∧
          (t.tow p).queue = (s.tow p).queue ++ [[0x12, BitVec.ofNat 8 b, 0, BitVec.ofNat 8 MgmtAck.accepted]] ∧
          (t.tow p).mgmtRx.find b = some (1, [x]) ∧ t.regs = s.regs ∧ t.purser = s.purser) ∧
        ∃ t, exec (.mgmt p [0x11, BitVec.ofNat 8 b, 5, x]) s = .next t ∧
          (t.tow p).queue = (s.tow p).queue ++ [[0x12, BitVec.ofNat 8 b, 5, BitVec.ofNat 8 MgmtAck.outOfOrder]] ∧
          (t.tow p).mgmtRx = (s.tow p).mgmtRx ∧ t.regs = s.regs ∧ t.purser = s.purser) ∧
    (∀ (b : Fin 8) d, s.stage p ≠ 0 → (s.tow p).mgmtTx = some ⟨b, d, 0, 1⟩ → d.length ≤ 61 →
        ∃ t, exec (.mgmtAck p [0x12, BitVec.ofNat 8 (128 + b), 0, 0]) s = .next t ∧ (t.tow p).mgmtTx = none ∧ (t.tow p).queue = (s.tow p).queue) ∧
    (wakeSeen s p = true → s.mode = Mode.service → s.start.phase = .ended → natBit (s.reg PWR_WAKE_EN).toNat p = false →
        ∃ t, exec (.wakeDeclared p) s = .next t ∧ (t.tow p).ctx0 = .search ∧ (t.tow p).ctx1 = .search ∧
          natBit (t.reg (PORT_TOW_EVT_CAUSE p)).toNat (Cause.PORT_TOW_wake_rx p).bit = true ∧ SameRegs [PORT_TOW_EVT_CAUSE p] s t ∧
          { t with tows := s.tows, regs := s.regs, events := s.events } = s)

/-- With the logic up and the port in S7. A flit that an uncorrectable codeword overlaps or whose CRC is wrong is counted, raises bad_flit
and asks for a replay unless one is outstanding; a good idle flit with the expected number takes over the granted credits alone. With nothing
to send an IDLE flit goes out and its bytes to the FEC sublayer. A timeout with unacknowledged flits and fewer than three replays in a row
starts a replay of them all and counts it; a replay request outstanding is repeated. In version 1 the time of a request under way counts one
more DELAY and sends nothing; in version 2, with credits, the DELAY is queued. The only waiting completion whose credits are held is placed
in slots and its credits are consumed. A fenced request behind an unfinished one takes its place in the table and waits. A clear of the
link's counters is shown and recorded. (07_uzoset_link.md Flits; 07_uzoset_link.md Replay; 07_uzoset_link.md Credits; 07_uzoset_link.md
Requests; 07_uzoset_link.md; 05_bringup_and_fec.md) -/
def Obligations.LinkFlitsActAsStated : Prop :=
  ∀ (s : State) (p : Port), s.up = true → s.stage p = 7 →
    let blocks := if isV2 s p then 16 else 8
    (∀ b so, (flitMarked (s.port p) blocks = true ∨ flitCrcOk (isV2 s p) b = false) → ∃ t, exec (.flitReceived p b so) s = .next t ∧
        t.link p = { s.link p with rreqNext := (s.link p).rreqNext || !(s.link p).rreqOut } ∧ t.ports = (flitTaken p blocks s).ports ∧
        (t.reg (UZ_BAD_FLITS p)).toNat = satAdd 0xFFFFFFFF (s.reg (UZ_BAD_FLITS p)).toNat 1 ∧
        SameRegs [UZ_BAD_FLITS p, UZ_EVT_CAUSE p] s t ∧ { t with links := s.links, ports := s.ports, regs := s.regs, events := s.events } = s) ∧
    (∀ b so h, flitMarked (s.port p) blocks = false → flitCrcOk (isV2 s p) b = true → unpackHead (ofBytesBE (b.take 16)) = h → h.ftype = 2 →
        h.start = 0 → h.rreq = false → h.ackValid = false → h.seq = (s.link p).expected →
        exec (.flitReceived p b so) s = .next ((flitTaken p blocks s).setLink p { s.link p with granted := h.credits })) ∧
    ((s.link p).replaying = [] → (s.link p).txSlots = [] → ∃ t, exec (.flitSend p) s = .next t ∧
        t.link p = { s.link p with
          lastFlit := buildFlit (isV2 s p) (currentHead (s.link p) 2 (s.link p).txSeq 0) [] (wseqReached (s.link p))
          rreqOut := (s.link p).rreqOut || (s.link p).rreqNext, rreqNext := false } ∧
        { t with links := s.links } = { fecSend p (t.link p).lastFlit s with links := s.links }) ∧
    ((s.link p).replaying = [] → (s.link p).replay ≠ [] → (s.link p).replayRun < 3 → (s.link p).replayTick ≠ some (s.ticks, false) →
        ∃ t, exec (.ackTimeout p) s = .next t ∧ t.link p = { s.link p with
          replaying := (s.link p).replay.map (·.1), replayRun := (s.link p).replayRun + 1, replayTick := some (s.ticks, true) } ∧
        (t.reg (UZ_REPLAYS p)).toNat = satAdd 0xFFFFFFFF (s.reg (UZ_REPLAYS p)).toNat 1 ∧ SameRegs [UZ_REPLAYS p, UZ_EVT_CAUSE p] s t) ∧
    ((s.link p).rreqOut = true → exec (.rreqRepeat p) s = .next (s.setLink p { s.link p with rreqNext := true })) ∧
    (∀ e, (s.link p).vc0 = [] → (s.link p).table = [e] → e.record = none → e.begun = true → e.delays < 1024 → (s.link p).responses = [] →
      (isV2 s p = false → exec (.delayTimer p e.txn.hdr.src e.txn.hdr.tag) s = .next (s.setLink p { s.link p with
          table := [{ e with delays := e.delays + 1 }] })) ∧
      (isV2 s p = true → e.dead = false → 0 < creditsHeld (s.link p) 1 → ∃ t, exec (.delayTimer p e.txn.hdr.src e.txn.hdr.tag) s = .next t ∧
          (t.link p).responses.map gist = [(0x22, e.txn.hdr.tag, e.txn.hdr.src, e.delays + 1, [])] ∧
          (t.link p).table = [{ e with delays := e.delays + 1 }])) ∧
    (∀ o, (s.link p).responses = [o] → (s.link p).notices = [] → o.own = true → o.frees = none → o.txn.hdr.opcode = 0x20 → maySend s p o.txn = true →
        (∀ b : Fin 8, (s.box b).entry = none ∧ boxState s b = BoxState.idle) → ∃ t, exec (.transactionSend p) s = .next t ∧
          (t.link p).responses = [] ∧ (t.link p).txSlots = (s.link p).txSlots ++ txnSlots (asVersion s p o.txn) ∧
          (t.link p).consumed = vcAdd (s.link p).consumed 1 (slotCount o.txn.hdr.len) ∧ t.regs = s.regs) ∧
    (∀ x e, (s.link p).table = [x] → (s.link p).vc0 = [e] → x.begun = true → x.done = false → x.uid < e.uid → e.txn.hdr.fence = true →
        e.begun = false → e.record = none → s.modes.intakeClosed = false → sharedUsed s < 8192 →
        e.epoch = (s.link p).wseqEpoch → headerNak e = none → e.txn.hdr.dst = liveNode s → e.txn.hdr.opcode = Op.cfgRd →
        exec (.requestTableAdmit p) s = .next (s.setLink p { s.link p with
          vc0 := [], table := [x, e], freed := vcAdd (s.link p).freed 0 (slotCount e.txn.hdr.len) })) ∧
    (∀ src, writable s (UZ_CLR p) = true → ∃ t, exec (.uzClr src p) s = .next t ∧ t.clears = insertSorted (UZ_CLR p) s.clears ∧
        SameRegs [UZ_CLR p] s t)

/-- On a port in S7 with no framed transaction waiting, while no reset drains the device. A CPL, NAK or DELAY with forwarding off frees its
slots and counts as unexpected; so do EVT and QSTATE always. An unlisted opcode that is no request only frees its slots; an unlisted request
for this node that the port takes at once is answered NAK MALFORMED with its own header. With forwarding on, a CPL or NAK whose record is
held for its arrival port leaves on the port where the request came in and its record is freed; a DELAY leaves there too, where that port
runs version 2, and keeps the record. No register changes but the count. (14_fabric.md; 07_uzoset_link.md Requests; 07_uzoset_link.md) -/
def Obligations.ResponsesAndNoticesAreForwardedOrDropped : Prop :=
  ∀ (s : State) (p : Port) (h : Header) (d : List Byte), s.up = true → s.stage p = 7 → (s.link p).inbox = [] →
    s.start.request.any (fun r => r.draining) = false →
    let freed (vc : Nat) : LinkSt := { s.link p with freed := vcAdd (s.link p).freed vc (slotCount h.len) }
    let counted (t : State) : Prop := (t.reg (UZ_UNEXPECTED p)).toNat = satAdd 0xFFFFFFFF (s.reg (UZ_UNEXPECTED p)).toNat 1 ∧
      SameRegs [UZ_UNEXPECTED p] s t
    (s.get FAB_CTRL_fwd_en = 0 →
      (∃ t, exec (.cpl p h d) s = .next t ∧ t.link p = freed 1 ∧ counted t) ∧
      (∃ t, exec (.nak p h d) s = .next t ∧ t.link p = freed 1 ∧ counted t) ∧
      (∃ t, exec (.delay p h d) s = .next t ∧ t.link p = freed 1 ∧ counted t)) ∧
    (∃ t, exec (.evt p h d) s = .next t ∧ t.link p = freed 2 ∧ counted t) ∧
    (∃ t, exec (.qstate p h d) s = .next t ∧ t.link p = freed 2 ∧ counted t) ∧
    (listedOpcode h.opcode = false → (h.opcode = 0 ∨ 0x20 ≤ h.opcode) → ∃ t, exec (.unknownOpcode p h d) s = .next t ∧
      t.link p = freed (vcOf h.opcode) ∧ t.regs = s.regs ∧ { t with links := s.links, activity := s.activity } = s) ∧
    (listedOpcode h.opcode = false → 1 ≤ h.opcode → h.opcode < 0x20 → (s.link p).vc0 = [] → (s.link p).table = [] → h.dst = liveNode s →
      s.modes.intakeClosed = false → ∃ t, exec (.unknownOpcode p h d) s = .next t ∧ t.regs = s.regs ∧ SameMemory s t ∧
      (t.link p).responses.map gist = (s.link p).responses.map gist ++
        [(0x21, h.tag, h.src, Nak.malformed * 65536, headerBytes (asVersion s p ⟨h, d⟩).hdr)]) ∧
    (s.get FAB_CTRL_fwd_en = 1 → s.get (FAB_PORT_CTRL_fwd p) = 1 → h.dst ≠ liveNode s →
      ∀ (q : Port) e, q ≠ p → recordOf s p h.dst h.tag = some (q.val, e) → s.stage q = 7 →
      (∃ t, exec (.cpl p h d) s = .next t ∧ t.regs = s.regs ∧ (t.link q).table = (s.link q).table.filter (fun x => x.uid != e.uid) ∧
        (t.link q).responses.map gist = (s.link q).responses.map gist ++ [(0x20, h.tag, h.dst, h.aux, d)]) ∧
      (∃ t, exec (.nak p h d) s = .next t ∧ t.regs = s.regs ∧ (t.link q).table = (s.link q).table.filter (fun x => x.uid != e.uid) ∧
        (t.link q).responses.map gist = (s.link q).responses.map gist ++ [(0x21, h.tag, h.dst, h.aux, d)]) ∧
      (isV2 s q = true → ∃ t, exec (.delay p h d) s = .next t ∧ t.regs = s.regs ∧ (t.link q).table = (s.link q).table ∧
        (t.link q).responses.map gist = (s.link q).responses.map gist ++ [(0x22, h.tag, h.dst, h.aux, d)]))

/-- For a request that its port takes at once, that passes every check and that touches one line. An RD of a line the landing holds is
answered by a completion of status 0 that carries the bytes at its address, and nothing in memory changes. A WR or WRM to a line the landing
holds ready, in a region with a landing policy, whose parcel is valid, leaves that line with the written bytes over the old ones and every
other line and every byte of the core dies as it was. In a bypass region that is not being flushed a WR or WRM within one parcel hands one
access of that parcel, with the lines it touches and the bytes it writes, to the half-channel that the address maps to, and changes no byte
yet: a read first where the parcel was written before and is not written whole, else a write. (08_memory_services.md; 13_landing.md;
07_uzoset_link.md Requests) -/
def Obligations.ReadsAndWritesActOnTheirLine : Prop :=
  ∀ (s : State) (p : Port) (h : Header) (d : List Byte) (g : Nat) (l : Line),
    let n := h.addr / 64
    let rd : Txn := ⟨withOpcode h Op.rd, d⟩
    let wr : Txn := ⟨withOpcode h Op.wr, d⟩
    let wrm : Txn := ⟨withOpcode h Op.wrm, d⟩
    let handed (x : Txn) (len : Nat) (c : Instr) : Prop :=
      let places := placesAt h.addr (writeBytes x) (256 * (n / 4)) 256
      let reads := !places.all Option.isSome && parcelValid s (n / 4)
      rgnPolicy s g = 0 → s.landing.flushes.find g = none → ∃ t, exec c s = .next t ∧ SameMemory s t ∧
        (t.hc (placeOf s h.addr).hc).intake.take (s.hc (placeOf s h.addr).hc).intake.length = (s.hc (placeOf s h.addr).hc).intake ∧
        ((t.hc (placeOf s h.addr).hc).intake.drop (s.hc (placeOf s h.addr).hc).intake.length).map
          (fun a => (a.reads, a.write, a.parcel, a.lines, a.purpose)) =
          [(reads, !reads, n / 4, lineMask (n / 4) (linesFrom h.addr len), .write s.svc.nextJob places)]
    (takenAtOnce s p rd g = true → lineReady s n l = true → (h.addr + h.rlen - 1) / 64 = n → inLinkArea s g h.addr = false →
      ∃ t, exec (.rd p h d []) s = .next t ∧
        (t.link p).responses.map gist = (s.link p).responses.map gist ++
          [(0x20, h.tag, h.src, 0, (List.range h.rlen).map fun i => l.data.getD ((h.addr + i) % 64) 0)] ∧
        SameMemory s t ∧ t.hcs = s.hcs ∧ (t.link p).table.length = 1) ∧
    (takenAtOnce s p wr g = true → lineReady s n l = true → (h.addr + h.len - 1) / 64 = n → rgnPolicy s g ≠ 0 → parcelValid s (n / 4) = true →
      ∃ t, exec (.wr p h d []) s = .next t ∧
        (lineAt t n).map (·.data) = some (overlay l.data (placesAt h.addr (writeBytes wr) (64 * n) 64)) ∧
        (∀ m, m ≠ n → lineAt t m = lineAt s m) ∧ t.dram.mem = s.dram.mem ∧ t.dram.lost = s.dram.lost ∧ t.hcs = s.hcs) ∧
    (takenAtOnce s p wrm g = true → lineReady s n l = true → (h.addr + (h.len - 32) - 1) / 64 = n → rgnPolicy s g ≠ 0 →
      parcelValid s (n / 4) = true → ∃ t, exec (.wrm p h d []) s = .next t ∧
        (lineAt t n).map (·.data) = some (overlay l.data (placesAt h.addr (writeBytes wrm) (64 * n) 64)) ∧
        (∀ m, m ≠ n → lineAt t m = lineAt s m) ∧ t.dram.mem = s.dram.mem ∧ t.dram.lost = s.dram.lost ∧ t.hcs = s.hcs) ∧
    (takenAtOnce s p wr g = true → (h.addr + h.len - 1) / 256 = n / 4 → handed wr h.len (.wr p h d [])) ∧
    (takenAtOnce s p wrm g = true → (h.addr + (h.len - 32) - 1) / 256 = n / 4 → handed wrm (h.len - 32) (.wrm p h d []))

/-- For each of the five operations, for a request that its port takes at once, that passes every check, on a line that the landing holds
ready and whose parcel is valid. The line then holds what the operation makes of its bytes, every other line and every byte of the core dies
is as it was, and a request that is not posted is answered by a completion with the operation's status, result and data.
(08_memory_services.md; 13_landing.md) -/
def Obligations.AtomicsActOnTheirLine : Prop :=
  ∀ (s : State) (p : Port) (h : Header) (d : List Byte) (g : Nat) (l : Line),
    let n := h.addr / 64
    let acts (op : Nat) (c : Instr) : Prop :=
      takenAtOnce s p ⟨withOpcode h op, d⟩ g = true → lineReady s n l = true → parcelValid s (n / 4) = true →
        let r := aluRun (withOpcode h op) d l.data (meterNow s)
        ∃ t, exec c s = .next t ∧ (lineAt t n).map (·.data) = some r.line ∧ (∀ m, m ≠ n → lineAt t m = lineAt s m) ∧
          t.dram.mem = s.dram.mem ∧ t.dram.lost = s.dram.lost ∧ t.hcs = s.hcs ∧
          (h.posted = false → (t.link p).responses.map gist = (s.link p).responses.map gist ++
            [(0x20, h.tag, h.src, r.status * 65536 + r.result % 65536, r.data)])
    acts Op.cntAdd (.cntAdd p h d []) ∧ acts Op.cntRdclr (.cntRdclr p h d []) ∧ acts Op.fadd (.fadd p h d []) ∧
      acts Op.cas (.cas p h d []) ∧ acts Op.meter (.meter p h d [])

/-- For a request that its port takes at once, that passes every check, on a queue of a pool that is not rebuilding. An ENQ that starts a
packet on a queue with no packet open and below its limit, for which a parcel was found, links that parcel at the tail with its length, flags
and info, counts one more parcel and its bytes, and leaves the packet open unless it carries eop. In a bypass pool a DEQ of a queue that
holds parcels takes the head off the queue and a PEEK leaves the queue as it is; both hand a read of the head's parcel to its half-channel. A
DROP of mode 2 empties the queue and answers how many parcels it freed. A MOVE of mode 0 to another queue of the pool that is not open and
below its limit takes one parcel from the head to the tail of the other. (08_memory_services.md) -/
def Obligations.QueueOperationsActOnTheirQueue : Prop :=
  ∀ (s : State) (p : Port) (h : Header) (d : List Byte) (g : Nat),
    let q := h.addr
    let x := s.queue q
    let n := poolAddr s g x.head / 256
    let y := s.queue (moveDest ⟨h, d⟩)
    (s.pool g).rebuilding = false →
    (takenAtOnce s p ⟨withOpcode h Op.enq, d⟩ g = true → natBit h.aux 0 = true → x.opened = false → x.count ≠ profLimit s x.profile →
      ∀ i hc disp, (allocParcel q g (profStrict s x.profile) s).1 = .got i hc disp → ∃ t, exec (.enq p h d []) s = .next t ∧
        (t.queue q).count = x.count + 1 ∧ (t.queue q).tail = i ∧ (t.queue q).head = (if x.count = 0 then i else x.head) ∧
        (t.queue q).bytes = min 0xFFFFFFFF (x.bytes + h.len) ∧ (t.queue q).opened = !natBit h.aux 1 ∧
        linkOf t g i = ⟨noParcel, h.len, true, natBit h.aux 1, false, disp, h.aux / 256 % 256⟩ ∧ (∀ k, k ≠ q → t.queue k = s.queue k)) ∧
    (takenAtOnce s p ⟨withOpcode h Op.deq, d⟩ g = true → rgnPolicy s g = 0 → x.count ≠ 0 → natBit h.aux 0 = false →
      ∃ t, exec (.deq p h d []) s = .next t ∧ (t.queue q).count = x.count - 1 ∧ (t.queue q).head = (linkOf s g x.head).next ∧
        (t.queue q).bytes = x.bytes - (linkOf s g x.head).len ∧ (t.queue q).tail = x.tail ∧ (∀ k, k ≠ q → t.queue k = s.queue k) ∧
        ((t.hc (placeOf s (256 * n)).hc).intake.drop (s.hc (placeOf s (256 * n)).hc).intake.length).map (fun a => (a.write, a.parcel, a.purpose)) =
          [(false, n, .read s.svc.nextJob)]) ∧
    (takenAtOnce s p ⟨withOpcode h Op.peek, d⟩ g = true → rgnPolicy s g = 0 → x.count ≠ 0 → ∃ t, exec (.peek p h d []) s = .next t ∧
        t.svc.queues = s.svc.queues ∧
        ((t.hc (placeOf s (256 * n)).hc).intake.drop (s.hc (placeOf s (256 * n)).hc).intake.length).map (fun a => (a.write, a.parcel, a.purpose)) =
          [(false, n, .read s.svc.nextJob)]) ∧
    (takenAtOnce s p ⟨withOpcode h Op.drop, d⟩ g = true → h.aux % 4 = 2 → x.count ≠ 0 → ∃ t, exec (.drop p h d []) s = .next t ∧
        (t.queue q).count = 0 ∧ (t.queue q).opened = false ∧ (∀ k, k ≠ q → t.queue k = s.queue k) ∧
        (h.posted = false → (t.link p).responses.map gist = (s.link p).responses.map gist ++ [(0x20, h.tag, h.src, min 0xFFFF x.count, [])])) ∧
    (takenAtOnce s p ⟨withOpcode h Op.move, d⟩ g = true → queuePool s (moveDest ⟨h, d⟩) = some g → moveDest ⟨h, d⟩ ≠ q → (d.getD 4 0).toNat = 0 →
      x.count ≠ 0 → y.opened = false → y.count < profLimit s y.profile → ∃ t, exec (.move p h d []) s = .next t ∧
        (t.queue q).count = x.count - 1 ∧ (t.queue q).head = (linkOf s g x.head).next ∧ (t.queue (moveDest ⟨h, d⟩)).count = y.count + 1 ∧
        (t.queue (moveDest ⟨h, d⟩)).tail = x.head ∧ (linkOf t g x.head).next = noParcel ∧ (linkOf t g x.head).displaced = true ∧
        (∀ k, k ≠ q → k ≠ moveDest ⟨h, d⟩ → t.queue k = s.queue k))

/-- A CFG_RD of DEV_ID that its port takes at once is answered by its four bytes. A CFG_WR of one pool's configuration stores its writable
bits and is answered by status 0. An MBX to an idle mailbox open to in-band requests makes the mailbox busy with the request, owned in band.
The end of a pool's rebuild ends the refusal of its queues and is shown. A read of a queue entry through the registers shows its words; a
profile is set where the queue is empty, and otherwise refused where the pool differs. The sweep refreshes both meters of a line the landing
holds ready, and counts a finished pass; a pass that has lasted longer than 2^28 crossings is shown once. A clear of the service counters is
shown and recorded. (07_uzoset_link.md; 08_memory_services.md; 17_purser_events_snapshot.md; 18_registers_and_otp.md; 01_architecture.md) -/
def Obligations.ServiceRegistersAndSweepsActAsStated : Prop :=
  ∀ (s : State) (p : Port) (h : Header) (d : List Byte),
    (admitted s p ⟨withOpcode h Op.cfgRd, d⟩ = true → h.addr = DEV_ID → h.rlen = 4 → ∃ t, exec (.cfgRd p h d) s = .next t ∧
      (t.link p).responses.map gist = (s.link p).responses.map gist ++ [(0x20, h.tag, h.src, 0, bytesBE 4 (shown s DEV_ID).toNat)] ∧ t.regs = s.regs) ∧
    (∀ (g : Fin 16) r i, admitted s p ⟨withOpcode h Op.cfgWr, d⟩ = true → h.addr = SVC_POOL_CFG g → h.len = 4 → rowAt (SVC_POOL_CFG g) = some (r, i) →
      locked s r = false → ∃ t, exec (.cfgWr p h d) s = .next t ∧
      t.reg (SVC_POOL_CFG g) = plainWord r (s.reg (SVC_POOL_CFG g)) (BitVec.ofNat 32 (ofBytesBE (d.take 4))) ∧
      (t.link p).responses.map gist = (s.link p).responses.map gist ++ [(0x20, h.tag, h.src, 0, [])] ∧ SameRegs [SVC_POOL_CFG g] s t) ∧
    (admitted s p ⟨withOpcode h Op.mbx, d⟩ = true → sourceOn s h.addr Owner.inBand = true → boxState s h.addr = BoxState.idle →
      ∃ t, exec (.mbx p h d) s = .next t ∧ boxState t h.addr = BoxState.busy ∧ t.get (MBX_STATUS_owner h.addr) = Owner.inBand ∧
        (t.box h.addr).request = d.take h.len ∧ (t.box h.addr).response = [] ∧ SameRegs [MBX_STATUS h.addr] s t) ∧
    (∀ g : Fin 16, s.up = true → (s.pool g).rebuilding = true → ∃ t, exec (.poolRebuilt g) s = .next t ∧ (t.pool g).rebuilding = false ∧
      t.get (SVC_RGN_STATUS_rebuilding g) = 0 ∧ SameRegs [SVC_RGN_STATUS g, SVC_EVT_CAUSE] s t ∧ (∀ k, k ≠ g.val → t.pool k = s.pool k)) ∧
    (∀ src v, writable s SVC_QIND_CTRL = true →
      (∃ t, exec (.qindRead src v) s = .next t ∧ (∀ k : Fin 4, t.reg (SVC_QIND_D k) = BitVec.ofNat 32 (queueBits s (v.bits 17 0) / 2 ^ (32 * (3 - k.val)))) ∧
        t.get SVC_QIND_STATUS_result = 0 ∧ t.svc = s.svc) ∧
      ((s.queue (v.bits 17 0)).count = 0 → ∃ t, exec (.setProfile src v) s = .next t ∧ (t.queue (v.bits 17 0)).profile = v.bits 22 18 ∧
        t.get SVC_QIND_STATUS_result = 0 ∧ SameRegs [SVC_QIND_CTRL, SVC_QIND_STATUS] s t ∧ (∀ k, k ≠ v.bits 17 0 → t.queue k = s.queue k)) ∧
      ((s.queue (v.bits 17 0)).count ≠ 0 → profPool s (v.bits 22 18) ≠ profPool s (s.queue (v.bits 17 0)).profile → ∃ t,
        exec (.setProfile src v) s = .next t ∧ t.svc = s.svc ∧ t.get SVC_QIND_STATUS_result = 1)) ∧
    (∀ n l, s.up = true → s.get SVC_METER_CTRL_sweep_en = 1 → nextMeterLine s s.svc.sweep.line = some n → lineReady s n l = true →
      parcelValid s (n / 4) = true → ∃ t, exec .meterSweep s = .next t ∧ t.svc.sweep.line = n + 1 ∧
        (lineAt t n).map (·.data) = some (opEffect s (.refresh 32) (opEffect s (.refresh 0) l.data).1).1 ∧ (∀ m, m ≠ n → lineAt t m = lineAt s m)) ∧
    (s.up = true → s.get SVC_METER_CTRL_sweep_en = 1 → nextMeterLine s s.svc.sweep.line = none → s.svc.sweep.line ≠ 0 →
      ∃ t, exec .meterSweep s = .next t ∧ t.svc.sweep.line = 0 ∧ t.svc.sweep.start = s.ticks ∧
        t.get SVC_METER_STATUS_passes = (s.get SVC_METER_STATUS_passes + 1) % 2 ^ (SVC_METER_STATUS_passes.hi + 1 - SVC_METER_STATUS_passes.lo)) ∧
    (s.up = true → s.get SVC_METER_CTRL_sweep_en = 1 → s.svc.sweep.late = false → 2 ^ 28 < s.ticks - s.svc.sweep.start → ∃ t, exec .meterSweepLate s = .next t ∧
      t.get SVC_METER_STATUS_late = 1 ∧ t.svc.sweep.late = true ∧ SameRegs [SVC_METER_STATUS, SVC_EVT_CAUSE] s t) ∧
    (∀ src, writable s SVC_CLR = true → ∃ t, exec (.svcClr src) s = .next t ∧ t.clears = insertSorted SVC_CLR s.clears ∧ SameRegs [SVC_CLR] s t)

/-- With the logic up, and no write of several lines whose reads are done waiting to go on. A TURN or IDLE berth only takes its place in the
crossing. An active refresh entry refreshes the first bank of the due order that qualifies: the counter of the half-channel and of the bank
go up by one. A booked berth of a class that is not suspended, where not the duties alone are executed, serves the request it picks: a write
reaches exactly the bytes of its parcel that it gives; a command dropped on its parity goes to the dropped list, to be retried, and changes
no byte. A request at the head of the intake that may not book is dynamic, one within its class's bucket is queued as conforming and takes 48
from it, one beyond it counts an envelope excess and is dynamic; a dynamic one waits, but for the write of a read-modify-write, which is
queued. The only waiting dynamic request, with room and nothing that goes before it, joins the queue. (09_timetable.md;
10_dynamic_traffic.md; 11_dram_stack.md) -/
def Obligations.BerthsAndAdmissionActAsStated : Prop :=
  ∀ (s : State) (h : Hc), s.up = true →
    let x := s.hc h
    let e := entryNumber s x.berth
    let now := berthTime s h
    let dynamic (y : HcSt) (a : Access) : HcSt := if a.locked then { y with queue := y.queue ++ [a] } else { y with waiting := y.waiting ++ [a] }
    (∀ j ∈ s.svc.jobs, j.2.reads ≠ 0 ∨ j.2.plan = []) →
    (∀ dropped errs, x.berth < 12 → slotFull (liveSlot s) = true → hcServes s h = true →
        (dutyAt (liveSlot s) h e = .turn ∨ dutyAt (liveSlot s) h e = .idle) → exec (.berth h dropped errs) s = .next (s.setHc h { x with berth := x.berth + 1 })) ∧
    (∀ k b : Fin 32, x.berth < 12 → slotFull (liveSlot s) = true → hcServes s h = true → dutyAt (liveSlot s) h e = .refresh k → refreshActive s k = true →
        x.refRetry = none → ((dueOrder x).find? fun b => refreshable s x now b) = some b.val → ∃ t, exec (.berth h false []) s = .next t ∧
        t.reg (HC_REF_CNT h) = s.reg (HC_REF_CNT h) + 1 ∧ refreshes (t.hc h) b = refreshes x b + 1 ∧ passedOver (t.hc h) b = 0 ∧
        (t.hc h).berth = x.berth + 1 ∧ t.dram.mem = s.dram.mem) ∧
    (∀ (c : Nat) (w : Bool) (a : Access), x.berth < 12 → slotFull (liveSlot s) = true → hcServes s h = true → dutyAt (liveSlot s) h e = .booked c w →
        suspendedClass s c = false → dutiesOnly s = false → bookedPick s h now c w = some a →
        (∃ t, exec (.berth h true []) s = .next t ∧ (t.hc h).queue = x.queue.filter (fun b => b.seq != a.seq) ∧
          (t.hc h).dropped = x.dropped.filter (fun b => b.seq != a.seq) ++ [{ a with retry := true, conf := false }] ∧
          (t.hc h).berth = x.berth + 1 ∧ t.dram.mem = s.dram.mem ∧ t.landing = s.landing) ∧
        (∀ j b, w = true → a.purpose = .write j b → a.reads = false → parcelValid s a.parcel = true → ∃ t, exec (.berth h false []) s = .next t ∧
          t.dram.mem = Dram.store s.dram.mem (parcelKey s a.parcel * 256) b ∧ (t.hc h).lastWrite = some now ∧ (t.hc h).berth = x.berth + 1)) ∧
    (∀ a rest, x.intake = a :: rest →
        (mayBook s h a = false → ∃ t, exec (.schedulerIntake h) s = .next t ∧ t.hc h = dynamic { x with intake := rest } a ∧
          (∀ k, k ≠ h.val → t.hc k = s.hc k) ∧ { t with hcs := s.hcs } = s) ∧
        (mayBook s h a = true → spentOf x a.fc a.write + 48 ≤ 48 * ((liveSlot s).manifest a.fc).burst a.write → ∃ t,
          exec (.schedulerIntake h) s = .next t ∧ (t.hc h).intake = rest ∧ (t.hc h).waiting = x.waiting ∧
          (t.hc h).queue.map (fun b => (b.seq, b.conf)) = x.queue.map (fun b => (b.seq, b.conf)) ++ [(a.seq, true)] ∧
          spentOf (t.hc h) a.fc a.write = spentOf x a.fc a.write + 48 ∧ t.regs = s.regs) ∧
        (mayBook s h a = true → 48 * ((liveSlot s).manifest a.fc).burst a.write < spentOf x a.fc a.write + 48 → ∃ t,
          exec (.schedulerIntake h) s = .next t ∧ t.hc h = dynamic { x with intake := rest } a ∧
          (t.reg TT_ENV_EXCESS).toNat = satAdd 0xFFFFFFFF (s.reg TT_ENV_EXCESS).toNat 1)) ∧
    (∀ a, x.waiting = [a] → a.port < 17 → dynUsed x a.write none < 64 → dynUsed x a.write (some a.port) < portShare s →
        awaitsReads s a = false → x.intake.any (fun b => goesBefore s b a) = false → ∃ t,
        exec (.dynamicAdmit h) s = .next t ∧ (t.hc h).queue = x.queue ++ [a] ∧ (t.hc h).waiting = [] ∧ (t.hc h).lastPort = a.port ∧ t.regs = s.regs)

/-- With the register writable. A load into STANDBY while no load runs and no swap is armed empties STANDBY and runs; a second load is
refused while one runs. A load whose source was lost ends with a source error and leaves no image. With no demand, and 3072 crossings since
the entry over by the next boundary, leaving STORM is decided for that boundary's hardware commit; at it, the live image is ACTIVE again.
With no demand the last class suspended resumes, and the next can resume only 16 crossings later. A write of TT_CTRL sets or withdraws the
demand of the host. A map check refuses a selector that no address bit or more than eight feed, with its number. A clear of the timetable's
or the scheduler's counters is shown and recorded. (09_timetable.md; 10_dynamic_traffic.md; 01_architecture.md) -/
def Obligations.TimetableCommandsActAsStated : Prop :=
  ∀ (s : State) (src : Source),
    (writable s TT_LOAD_CTRL = true →
      (s.tt.load = none → swapArmed s = false → ∃ t, exec (.ttLoad src false) s = .next t ∧ t.tt.load = some false ∧ t.tt.standby = .empty ∧
        t.tt.active = s.tt.active ∧ t.get TT_LOAD_CTRL_go = 1 ∧ t.get TT_VAL_STATUS_state = 1 ∧ t.get TT_STATUS_standby_valid = 0) ∧
      (s.tt.load = none → s.tt.stormAt = none → ∃ t, exec (.ttLoad src true) s = .next t ∧ t.tt.load = some true ∧ t.tt.stormSlot = .empty ∧
        t.tt.standby = s.tt.standby ∧ t.get TT_STATUS_storm_valid = 0) ∧
      (∀ b, s.tt.load ≠ none → ∃ t, exec (.ttLoad src b) s = .next t ∧ t.tt = s.tt ∧ SameRegs [TT_LOAD_CTRL] s t)) ∧
    (∀ b, s.up = true → s.tt.load = some b → ∃ t, exec (.ttLoadDone true) s = .next t ∧ t.tt = { s.tt with load := none } ∧
        t.get TT_VAL_STATUS_result = TtResult.srcErr ∧ t.get TT_VAL_STATUS_state = 0 ∧ t.get TT_LOAD_CTRL_go = 0 ∧
        SameRegs [TT_LOAD_CTRL, TT_VAL_STATUS, TT_EVT_CAUSE] s t) ∧
    (∀ k, s.up = true → stormDemands s = 0 → s.tt.stormAt = some k →
      (k + 3072 ≤ s.ticks + 1 → HwChange.stormExit ∉ s.commit.hw →
        exec .stormExit s = .next { s with commit := { s.commit with hw := s.commit.hw ++ [.stormExit] } }) ∧
      (k + 3072 ≤ s.ticks → s.commit.hwDue = [.stormExit] → HwChange.stormEnter ∉ s.commit.hw → ∃ t, exec .hardwareCommit s = .next t ∧
        t.tt.stormAt = none ∧ liveSlot t = s.tt.active ∧ t.get TT_STATUS_live = 0 ∧ t.tt.suspended = [])) ∧
    (∀ c rest k, s.up = true → stormDemands s = 0 → s.tt.suspended = c :: rest → s.tt.calmAt = some k → s.tt.nextResume ≤ s.ticks → ∃ t,
        exec .classResume s = .next t ∧ t.tt.suspended = rest ∧ t.tt.nextResume = s.ticks + 16 ∧
        t.reg TT_SUSPEND_LO = BitVec.ofNat 32 (rest.foldl natSetBit 0) ∧ SameRegs [TT_SUSPEND_LO, TT_SUSPEND_HI, TT_STATUS] s t) ∧
    (∀ v : Word, writable s TT_CTRL = true → ∃ t, exec (.forceStorm src v) s = .next t ∧
        t.get TT_CTRL_force_storm = v.bits TT_CTRL_force_storm.hi TT_CTRL_force_storm.lo ∧ t.tt = s.tt) ∧
    (∀ b k, writable s HC_MAP_CTRL = true → ((List.range 12).find? fun k => popCount 26 (s.get (HC_MAP_EDIT_mask k)) == 0 ||
        decide (8 < popCount 26 (s.get (HC_MAP_EDIT_mask k)))) = some k → ∃ t, exec (.mapCheck src b) s = .next t ∧
        t.get HC_MAP_STATUS_result = 2 ∧ t.get HC_MAP_STATUS_sel = k % 16 ∧ t.get HC_MAP_CTRL_go = 0 ∧ SameRegs [HC_MAP_CTRL, HC_MAP_STATUS] s t) ∧
    (∀ b, writable s HC_MAP_CTRL = true → ((List.range 12).find? fun k => popCount 26 (s.get (HC_MAP_EDIT_mask k)) == 0 ||
        decide (8 < popCount 26 (s.get (HC_MAP_EDIT_mask k)))) = none → nonsingular ((List.range 12).map fun k => s.get (HC_MAP_EDIT_mask k)) = true →
        ∃ t, exec (.mapCheck src b) s = .next t ∧ t.get HC_MAP_STATUS_result = 1 ∧
          (∀ k : Fin 12, nextWord t (if b then HC_MAP1_SEL k else HC_MAP0_SEL k) =
            (nextWord s (if b then HC_MAP1_SEL k else HC_MAP0_SEL k) &&& ~~~(BitVec.ofNat 32 (stagedMask (if b then HC_MAP1_SEL k else HC_MAP0_SEL k)))) |||
              (BitVec.ofNat 32 (s.get (HC_MAP_EDIT_mask k)) &&& BitVec.ofNat 32 (stagedMask (if b then HC_MAP1_SEL k else HC_MAP0_SEL k))))) ∧
    (writable s TT_CLR = true → ∃ t, exec (.ttClr src) s = .next t ∧ t.clears = insertSorted TT_CLR s.clears ∧ SameRegs [TT_CLR] s t) ∧
    (writable s HC_ARB_CLR = true → ∃ t, exec (.hcArbClr src) s = .next t ∧ t.clears = insertSorted HC_ARB_CLR s.clears ∧ SameRegs [HC_ARB_CLR] s t)

/-- With the logic up. Reading MW13 after dropped commands puts them back in the queue and counts the retries; with fewer than sixteen in a
millisecond nothing is retrained. A retrain that is due takes a half-channel in service to RETRAIN with its cause; its end takes it back to
service, counts it and clears the bit, or takes it out of service with its banks. A tracking pass moves the trim by at most one step, never
past its ends, and counts eight activations; one that does not move the trim to an end makes no retrain due. A write of the retrain bit of a
half-channel in service makes a retrain due, for the cause of the host. A clear of its counters is shown and recorded. (11_dram_stack.md;
01_architecture.md) -/
def Obligations.HalfChannelsRetrainAndTrackAsStated : Prop :=
  ∀ (s : State) (h : Hc),
    (s.up = true → (s.hc h).caNew ≠ 0 → channelDrops s h < 16 → ∃ t, exec (.caParity h) s = .next t ∧
        (t.hc h).queue = (s.hc h).queue ++ (s.hc h).dropped ∧ (t.hc h).dropped = [] ∧ (t.hc h).caNew = 0 ∧
        (t.reg (HC_CA_RETRIES h)).toNat = satAdd 0xFFFFFFFF (s.reg (HC_CA_RETRIES h)).toNat (s.hc h).caNew ∧
        (t.hc h).retrainDue = (s.hc h).retrainDue ∧ SameRegs [HC_CA_RETRIES h, HC_EVT_CAUSE h] s t) ∧
    (∀ c : Fin 16, s.up = true → (s.hc h).retrainDue = some c.val → s.get (HC_STATUS_state h) = HcState.service → ∃ t, exec (.fieldRetrain h) s = .next t ∧
        t.get (HC_STATUS_state h) = HcState.retrain ∧ (t.hc h).retrain = some c.val ∧ (t.hc h).retrainDue = none ∧ t.get (HC_TRAIN_STATUS_step h) = 4 ∧
        SameRegs [HC_STATUS h, HC_TRAIN_STATUS h] s t) ∧
    (∀ o : TrainOutcome, s.up = true → o.hc = h → o.newDq = [] → o.newCa = [] → (s.hc h).retrain ≠ none →
        s.get (HC_STATUS_state h) ≠ HcState.failed →
        (o.failStep = 0 → ∃ t, exec (.fieldRetrainEnd o) s = .next t ∧ t.get (HC_STATUS_state h) = HcState.service ∧ (t.hc h).retrain = none ∧
          t.get (HC_CTRL_retrain h) = 0 ∧ t.get (HC_WCK_TRIM_trim h) = min 63 o.wck ∧ (t.die (h / 8)).valid = true ∧
          SameRegs [HC_STATUS h, HC_TRAIN_STATUS h, HC_WCK_TRIM h, HC_CTRL h, HC_EVT_CAUSE h] s t) ∧
        (o.failStep ≠ 0 → ∃ t, exec (.fieldRetrainEnd o) s = .next t ∧ t.get (HC_STATUS_state h) = HcState.failed ∧ (t.hc h).retrain = none ∧
          t.reg (HC_BANKS h) = 0 ∧ t.get (HC_STATUS_banks h) = 0 ∧ t.get (HC_STATUS_short h) = 1)) ∧
    (∀ m, s.up = true → s.get (HC_CTRL_track_en h) = 1 → s.get (HC_STATUS_state h) = HcState.service → ∃ t, exec (.trackingPass h false m []) s = .next t ∧
        t.get (HC_WCK_TRIM_trim h) = moved (s.get (HC_WCK_TRIM_trim h)) m 63 ∧ (t.hc h).trackBank = ((s.hc h).trackBank + 1) % 32 ∧
        (t.hc h).trackAt = s.ticks ∧ (t.hc h).dq = (s.hc h).dq ∧
        ((m = 0 ∨ 0 < moved (s.get (HC_WCK_TRIM_trim h)) m 63 ∧ moved (s.get (HC_WCK_TRIM_trim h)) m 63 < 63) →
          (t.hc h).retrainDue = (s.hc h).retrainDue ∧ SameRegs [HC_WCK_TRIM h, HC_ACT_CNT_LO h, HC_ACT_CNT_LO h + 4] s t)) ∧
    (∀ src v, writable s (HC_CTRL h) = true → s.get (HC_STATUS_state h) = HcState.service → (s.hc h).retrainDue = none → ∃ t,
        exec (.hcCtrlRetrain src h v) s = .next t ∧ (t.hc h).retrainDue = some 0 ∧ t.get (HC_CTRL_retrain h) = 1 ∧
        t.get (HC_CTRL_track_en h) = v.bits 4 4 ∧ SameRegs [HC_CTRL h] s t) ∧
    (∀ src, writable s (HC_CLR h) = true → ∃ t, exec (.hcClr src h) s = .next t ∧ t.clears = insertSorted (HC_CLR h) s.clears ∧ SameRegs [HC_CLR h] s t)

/-- A row repair that the half-channel can take begins at its ledger step and shows so; one it refuses shows why and clears go; while one
runs a second is busy. The release of a repair ends it as done, with the row on its spare and no longer suspect. A die that confirms
self-refresh while power is anchored is shown in self-refresh with its half-channels; a die unconfirmed for the first time is asked again,
and the second time, unless START asks, it is shown unconfirmed and stays out of self-refresh. The flags of a hot die are bits 2 and 3 of its
MW13. A refresh of the copies makes them the die's mode words. (11_dram_stack.md; 16_modes_and_supply.md; 15_thermal.md) -/
def Obligations.RepairsAndSelfRefreshActAsStated : Prop :=
  ∀ (s : State),
    (∀ src (h : Hc), writable s (HC_REPAIR_CTRL h) = true →
      let p : Place := ⟨h, s.get (HC_REPAIR_ADDR_bank h), s.get (HC_REPAIR_ADDR_row h), 0⟩
      ((s.hc h).rowRepair ≠ none → ∃ t, exec (.hcRepairGo src h) s = .next t ∧ t.get (HC_REPAIR_STATUS_result h) = RepairResult.busy ∧
        t.hc h = s.hc h ∧ SameRegs [HC_REPAIR_STATUS h, HC_EVT_CAUSE h] s t) ∧
      ((s.hc h).rowRepair = none → repairRefusal s p = none → ∃ t, exec (.hcRepairGo src h) s = .next t ∧
        (t.hc h).rowRepair = some ⟨p.bank, p.row, RepairStep.ledger, 0, []⟩ ∧ t.get (HC_REPAIR_STATUS_state h) = RepairStep.ledger ∧
        t.get (HC_REPAIR_CTRL_go h) = 1 ∧ t.dram.mem = s.dram.mem) ∧
      (∀ r : Fin 8, (s.hc h).rowRepair = none → repairRefusal s p = some r.val → ∃ t, exec (.hcRepairGo src h) s = .next t ∧
        (t.hc h).rowRepair = none ∧ t.get (HC_REPAIR_STATUS_result h) = r.val ∧ t.get (HC_REPAIR_CTRL_go h) = 0 ∧ t.dram = s.dram)) ∧
    (∀ (h : Hc) r, s.up = true → (s.hc h).rowRepair = some r → ∃ t, exec (.repairRelease h) s = .next t ∧ (t.hc h).rowRepair = none ∧
        t.get (HC_REPAIR_STATUS_result h) = RepairResult.done ∧ t.get (HC_REPAIR_CTRL_go h) = 0 ∧
        (Place.mk h r.bank r.row 0).rowKey ∈ t.dram.spares ∧ (r.bank * 2 ^ 14 + r.row) ∉ (t.hc h).suspects) ∧
    (∀ d : Die, s.start.phase = .anchoring → ∃ t, exec (.selfRefreshConfirm d) s = .next t ∧ natBit t.always.selfRefresh d = true ∧
        t.get (HC_DIE_STATUS_in_sr d) = 1 ∧ t.get (HC_DIE_STATUS_sr_confirmed d) = 1 ∧ t.get (HC_DIE_STATUS_state d) = DieState.selfRefresh ∧
        SameRegs (HC_DIE_STATUS d :: (hcsOfDie d).map HC_STATUS) s t ∧ t.dram.mem = s.dram.mem) ∧
    (∀ (d : Die) m, s.modes.inflight = some m → sleepIssued s = true → natBit s.always.selfRefresh d = false →
        (natBit m.srfRetry d = false → exec (.srfUnconfirmed d) s = .next { s with modes := { s.modes with
          inflight := some { m with srfRetry := natSetBit m.srfRetry d } } }) ∧
        (natBit m.srfRetry d = true → m.source ≠ Mode.start → ∃ t, exec (.srfUnconfirmed d) s = .next t ∧
          t.get (HC_DIE_STATUS_state d) = DieState.unconfirmed ∧ natBit t.always.selfRefresh d = false)) ∧
    (∀ (d : Die) a b, s.up = true → ∃ t, exec (.dieHot d a b) s = .next t ∧ mwHeld t d 13 = mwHeld s d 13 % 4 + 4 * boolNat a + 8 * boolNat b ∧
        t.regs = s.regs ∧ (∀ k, k ≠ d.val → t.die k = s.die k)) ∧
    (∀ d : Die, s.up = true → ∃ t, exec (.mwCopyRefresh d) s = .next t ∧ (t.die d).valid = true ∧
        (∀ w : Fin 16, KMap.get (fun _ => 0) (t.die d).copy w = mwNow s d w) ∧ t.regs = s.regs)

/-- With the logic up. The end of a window clears the pin counts of its half-channel alone. A scrub pass over its limit is marked late once.
A fill that ends makes the region live if its descriptor is good, shows nothing filling when none follows, and leaves zero in every byte of
the region's places; every other byte is as it was. A write of the log's tail moves it forward by at most the entries in use. A row that may
be retired waits for the next boundary, a bank for its hardware commit; a refused one shows why and clears go. A clear of the ECC counters is
shown and recorded. (12_integrity.md; 01_architecture.md) -/
def Obligations.IntegrityCommandsActAsStated : Prop :=
  ∀ (s : State) (src : Source),
    (∀ h : Hc, s.up = true → exec (.pinWindowEnd h) s = .next (s.setHc h { s.hc h with pins := [] })) ∧
    (∀ h : Hc, s.up = true → (s.hc h).scrubLate = false → max 1 (s.get ECC_SCRUB_CTRL_pass_limit) * 12500000 < s.ticks - (s.hc h).scrubStart → ∃ t,
        exec (.scrubLate h) s = .next t ∧ t.hc h = { s.hc h with scrubLate := true } ∧ SameRegs [ECC_EVT_CAUSE] s t ∧
        (t.reg ECC_EVT_CAUSE) = s.reg ECC_EVT_CAUSE ||| BitVec.ofNat 32 (2 ^ Cause.ECC_scrub_late.bit)) ∧
    (∀ g : Fin 16, s.up = true → s.svc.fills = [g.val] → rgnValidBit s g = false → ∃ t, exec .fillDone s = .next t ∧ t.svc.fills = [] ∧
        t.get (SVC_RGN_STATUS_live g) = boolNat (rgnGood s g) ∧ t.get ECC_STATUS_filling = 0 ∧ t.get ECC_STATUS_clearing = 0 ∧
        (∀ loc, let a := addrOfPlace s ⟨loc / 256 / 2 ^ 21, loc / 256 / 2 ^ 16 % 32, loc / 256 / 4 % 2 ^ 14, loc / 256 % 4⟩
          Dram.byte t.dram.mem loc = (if rgnBase s g ≤ a ∧ a < rgnBase s g + rgnSize s g then 0 else Dram.byte s.dram.mem loc)) ∧
        SameRegs [SVC_RGN_STATUS g, ECC_STATUS, ECC_EVT_CAUSE] s t) ∧
    (∀ v : Word, writable s ECC_LOG_TAIL = true → s.get ECC_STATUS_log_used ≤ 512 → ∃ t, exec (.eccLogTailWrite src v) s = .next t ∧
        let d := min ((v.toNat % 512 + 512 - s.get ECC_LOG_TAIL_index) % 512) (s.get ECC_STATUS_log_used)
        t.get ECC_LOG_TAIL_index = (s.get ECC_LOG_TAIL_index + d) % 512 ∧ t.get ECC_STATUS_log_used = s.get ECC_STATUS_log_used - d ∧
        SameRegs [ECC_LOG_TAIL, ECC_STATUS] s t) ∧
    (writable s ECC_RETIRE_CTRL = true →
      let row : Place := ⟨s.get ECC_RETIRE_ADDR_hc, s.get ECC_RETIRE_ADDR_bank, s.get ECC_RETIRE_ADDR_row, 0⟩
      let bank : Place := { row with row := 0 }
      (s.flag ECC_RETIRE_ADDR_kind = false → retireRefusal s false row = none → ∃ t, exec (.retireRow src) s = .next t ∧
        t.dram = { s.dram with retireDue := s.dram.retireDue ++ [row.rowKey] } ∧ t.get ECC_RETIRE_CTRL_go = 1 ∧ SameRegs [ECC_RETIRE_CTRL] s t) ∧
      (∀ r : Fin 4, s.flag ECC_RETIRE_ADDR_kind = false → retireRefusal s false row = some r.val → r.val ≠ RetireResult.full → ∃ t,
        exec (.retireRow src) s = .next t ∧ t.dram = s.dram ∧ t.get ECC_RETIRE_STATUS_result = r.val ∧ t.get ECC_RETIRE_CTRL_go = 0) ∧
      (s.flag ECC_RETIRE_ADDR_kind = true → retireRefusal s true bank = none → ∃ t, exec (.retireBank src) s = .next t ∧
        t.dram = { s.dram with bankDue := some (bank.hc, bank.bank) } ∧ t.get ECC_RETIRE_CTRL_go = 1 ∧ SameRegs [ECC_RETIRE_CTRL] s t)) ∧
    (writable s ECC_CLR = true → ∃ t, exec (.eccClr src) s = .next t ∧ t.clears = insertSorted ECC_CLR s.clears ∧ SameRegs [ECC_CLR] s t)

/-- With the logic up. A fill that returned, with nothing else waiting on the landing, allocates its line with the bytes and gives them to
the read that waits; an uncorrectable one allocates nothing. Cleaning above the threshold sends one write-back of the oldest dirty line and
changes no byte. With no operation running, CLEAN and INVALIDATE start one over the lines of their region and queue the write-back of every
dirty one, changing no line's bytes; PRELOAD runs only for a pinned region that is live; DISCARD drops the region's lines at once, no other
line, and writes nothing to a core die. An operation whose write-backs have all arrived ends with its result; an INVALIDATE then leaves none
of the region's lines. A clear of the counters is shown and recorded. (13_landing.md; 01_architecture.md) -/
def Obligations.LandingOperationsActAsStated : Prop :=
  ∀ (s : State) (src : Source),
    (∀ m data j w, s.up = true → s.landing.misses = [m] → s.landing.queued = [] → s.landing.stalled = [] →
        (∀ j ∈ s.svc.jobs, j.2.reads ≠ 0 ∨ j.2.plan = []) → (∀ x, s.job j = some x → x.frees = none) →
        m.back = some (some data) → m.alloc = true → m.ops = [.read j] → chooseWay s m.region m.fc m.line = some (w, none, false) → ∃ t, exec .fillArrive s = .next t ∧ t.landing.misses = [] ∧
        (lineAt t m.line).map (fun l => (l.way, l.data, l.st)) = some (w, data, .clean) ∧ (∀ n, n ≠ m.line → lineAt t n = lineAt s n) ∧
        t.dram.mem = s.dram.mem ∧ (∀ x, s.job j = some x → 1 < x.left → linkLine s m.line = false →
          t.job j = some { x with got := x.got.ins m.line data, left := x.left - 1 })) ∧
    (∀ m, s.up = true → s.landing.misses = [m] → s.landing.queued = [] → (∀ j ∈ s.svc.jobs, j.2.reads ≠ 0 ∨ j.2.plan = []) → m.back = some none → m.ops = [] → ∃ t, exec .fillArrive s = .next t ∧
        t.landing.misses = [] ∧ t.landing.lines = s.landing.lines ∧ SameRegs [LDG_EVT_CAUSE] s t) ∧
    (∀ (c : Fin 32) n, s.up = true → s.landing.stalled = [] → min dirtyLimit (s.get LDG_CTRL_wb_thr) < dirtyIn s c → oldestDirty s c = some n →
        (lineAt s n).map (·.st) = some .dirty → ∃ t, exec (.cleaning c) s = .next t ∧ (lineAt t n).map (·.st) = some .gathered ∧
        (∀ k, (lineAt t k).map (·.data) = (lineAt s k).map (·.data)) ∧ t.dram.mem = s.dram.mem ∧
        (t.hc (placeOf s (256 * (n / 4))).hc).intake.length = (s.hc (placeOf s (256 * (n / 4))).hc).intake.length + 1) ∧
    (∀ v : Word, writable s LDG_OP_CTRL = true → s.landing.op = none →
      let g := v.bits 7 4
      let all := v.bits 3 3 == 1
      let left := ((linesOf s all g).filter fun p => p.2.st != .clean).map (·.1)
      (∃ t, exec (.clean src v) s = .next t ∧ t.landing.op = some ⟨LdgKind.clean, g, all, left⟩ ∧ t.get LDG_OP_STATUS_busy = 1 ∧
        (∀ k, (lineAt t k).map (·.data) = (lineAt s k).map (·.data)) ∧ t.dram.mem = s.dram.mem) ∧
      (∃ t, exec (.invalidate src v) s = .next t ∧ t.landing.op = some ⟨LdgKind.invalidate, g, all, left⟩ ∧ t.get LDG_OP_STATUS_busy = 1 ∧
        (∀ k, (lineAt t k).map (·.data) = (lineAt s k).map (·.data)) ∧ t.dram.mem = s.dram.mem) ∧
      (rgnPolicy s g = 2 → rgnLive s g = true → ∃ t, exec (.preload src v) s = .next t ∧ t.landing.op = some ⟨LdgKind.preload, g, false, []⟩ ∧
        t.get LDG_OP_STATUS_busy = 1 ∧ t.landing.lines = s.landing.lines) ∧
      (rgnPolicy s g ≠ 2 → ∃ t, exec (.preload src v) s = .next t ∧ t.landing = s.landing ∧ t.get LDG_OP_STATUS_result = LdgResult.notPinned ∧
        t.get LDG_OP_STATUS_busy = 0) ∧
      (∃ t, exec (.discard src v) s = .next t ∧ t.landing.op = none ∧ t.get LDG_OP_STATUS_result = LdgResult.done ∧ t.get LDG_OP_STATUS_busy = 0 ∧
        (∀ n, ((linesOf s all g).any fun q => q.1 == n) = true → lineAt t n = none) ∧
        (∀ n, ((linesOf s all g).any fun q => q.1 == n) = false → lineAt t n = lineAt s n) ∧ t.dram.mem = s.dram.mem)) ∧
    (∀ o, s.up = true → s.landing.op = some o → o.left = [] →
      (o.op = LdgKind.clean → ∃ t, exec .flushDone s = .next t ∧ t.landing = { s.landing with op := none } ∧
        t.get LDG_OP_STATUS_result = LdgResult.done ∧ t.get LDG_OP_STATUS_busy = 0 ∧ SameRegs [LDG_OP_CTRL, LDG_OP_STATUS, LDG_STATUS, LDG_EVT_CAUSE] s t) ∧
      (o.op = LdgKind.invalidate → ∃ t, exec .flushDone s = .next t ∧ t.landing.op = none ∧ t.get LDG_OP_STATUS_result = LdgResult.done ∧
        (∀ n, ((linesOf s o.all o.region).any fun q => q.1 == n) = true → lineAt t n = none))) ∧
    (writable s LDG_CLR = true → ∃ t, exec (.ldgClr src) s = .next t ∧ t.clears = insertSorted LDG_CLR s.clears ∧ SameRegs [LDG_CLR] s t)

/-- With the logic up. A record whose output port, in S7, has spent the record's lifetime in S7 since the request was sent leaves the request
table and is counted. A port due for failover is marked unusable, its trigger ends and the failover is counted. A beacon missed in S7 makes a
port due unless it is marked already, with the reason. A marked port that may be restored is usable again, and its request bit clears; a
write of restore sets the bit of a marked port. A clear of the fabric's counters is shown and recorded. (14_fabric.md; 01_architecture.md) -/
def Obligations.FabricCommandsActAsStated : Prop :=
  ∀ (s : State) (p : Port), s.up = true →
    (∀ src tag e (out : Port) k, ((s.link p).table.find? fun e => e.key == (src, tag) && e.record.isSome) = some e → e.record = some ⟨out, some k⟩ →
        s.stage out = 7 → k + 27500 ≤ s7Time s out → ∃ t, exec (.recordExpiry p src tag) s = .next t ∧
        (t.link p).table = (s.link p).table.filter (fun x => x.uid != e.uid) ∧
        (t.reg FAB_REC_EXPIRED).toNat = satAdd 0xFFFFFFFF (s.reg FAB_REC_EXPIRED).toNat 1 ∧ SameRegs [FAB_REC_EXPIRED, FAB_EVT_CAUSE] s t) ∧
    ((s.fabPort p).due = true → (s.link p).forwards = [] → ∃ t, exec (.failover p) s = .next t ∧
        t.fabPort p = { s.fabPort p with due := false, marked := true } ∧ (∀ q : Port, q ≠ p → t.fabPort q = s.fabPort q) ∧
        (t.reg FAB_FAILOVERS).toNat = satAdd 0xFFFFFFFF (s.reg FAB_FAILOVERS).toNat 1 ∧ SameRegs [FAB_FAILOVERS, FAB_EVT_CAUSE] s t) ∧
    (s.stage p = 7 → (s.fabPort p).beaconSeen = true → exec (.beaconMiss p) s = .next (s.setFab p { s.fabPort p with
        due := (s.fabPort p).due || !(s.fabPort p).marked, missed := true, reason := 2 })) ∧
    (mayRestore s p = true → ∃ t, exec (.restore p) s = .next t ∧ t.fabPort p = { s.fabPort p with marked := false } ∧
        t.get (FAB_PORT_CTRL_restore p) = 0 ∧ SameRegs [FAB_PORT_CTRL p, FAB_EVT_CAUSE] s t) ∧
    (∀ src v, writable s (FAB_PORT_CTRL p) = true → (s.fabPort p).marked = true → ∃ t, exec (.fabRestoreWrite src p v) s = .next t ∧
        t.get (FAB_PORT_CTRL_restore p) = 1 ∧ t.fab = s.fab ∧ SameRegs [FAB_PORT_CTRL p] s t) ∧
    (∀ src, writable s FAB_CLR = true → ∃ t, exec (.fabClr src) s = .next t ∧ t.clears = insertSorted FAB_CLR s.clears ∧ SameRegs [FAB_CLR] s t)

/-- A conversion is kept as the sensor's reading and marks it bad when faulty or out of range; nothing outside the thermal block changes. A
model update that is due, of a running device that is not tripping anew, steps every node by the model and starts the activity over. With the
logic up, a level that has been lower for long enough is due to fall by one at the next boundary, and the refresh rate falls by one step; the
boundary moves by a quarter degree toward the readings; a sink value that is stale falls back once. A write of the sink is kept, ends the
fallback and moves the boundary where it follows the sink. A backstop trip of a device not tripped latches it, asserts THERMTRIP_N and names
the sensor. The monitor outside RETENTION only takes the readings. A device cool long enough re-arms. A second with VAON counts the life, and
the hot life once a full second above the throttle start has added up. The oscillator's error is kept. (15_thermal.md) -/
def Obligations.ThermalCommandsActAsStated : Prop :=
  ∀ (s : State),
    (∀ (n : Sensor) r f, ∃ t, exec (.sensorConversion n r f) s = .next t ∧ readingOf t n = r ∧
        (t.therm.badReads.contains n.val = true ↔ (f = true ∨ inRange r = false)) ∧ { t with therm := s.therm } = s) ∧
    (thermRuns s = true → updateDue s = true → s.always.tripped = true → ∃ t, exec .modelUpdate s = .next t ∧ t.activity = [] ∧
        (∀ n : Fin 88, modelOf t n = nodeStep (if sinkFollows s then setBoundary (sinkTemp s) s else s) n) ∧ t.dram.mem = s.dram.mem) ∧
    (s.up = true → levelDue s = none → max 1 (s.get THM_CTRL_down_hold) ≤ s.therm.below → 0 < liveLevel s → ∃ t, exec .levelFall s = .next t ∧
        levelDue t = some (liveLevel s - 1) ∧ liveLevel t = liveLevel s ∧ t.therm.below = 0 ∧ t.regs = s.regs) ∧
    (s.up = true → 8192 ≤ s.therm.cool → 1 < s.get THM_STATUS_rate → ∃ t, exec .rateFall s = .next t ∧ t.get THM_STATUS_rate = s.get THM_STATUS_rate - 1 ∧
        t.tt = { s.tt with rateDue := some (s.get THM_STATUS_rate - 1) } ∧ t.therm.cool = 0 ∧ SameRegs [THM_STATUS, THM_EVT_CAUSE] s t) ∧
    (s.up = true → s.get THM_CTRL_sink_src = 0 → topSensors s ≠ [] →
      let read := (topSensors s).foldl (fun (t : Rat) n => t + (readingOf s n : Rat) / 4) 0
      let mod := (topSensors s).foldl (fun (t : Rat) n => t + modelOf s n) 0
      (mod < read → ∃ t, exec .boundaryTrack s = .next t ∧ t.therm.boundary = max 0 (min 400 (s.therm.boundary + 1)) ∧
        SameRegs [THM_BOUNDARY, THM_STATUS, THM_EVT_CAUSE] s t) ∧
      (read < mod → ∃ t, exec .boundaryTrack s = .next t ∧ t.therm.boundary = max 0 (min 400 (s.therm.boundary - 1)) ∧
        SameRegs [THM_BOUNDARY, THM_STATUS, THM_EVT_CAUSE] s t)) ∧
    (s.up = true → s.get THM_CTRL_sink_src = 1 → s.get THM_STATUS_sink_fallback = 0 → sinkOld s = true → ∃ t, exec .sinkStale s = .next t ∧
        t.get THM_STATUS_sink_fallback = 1 ∧ t.therm = s.therm ∧ SameRegs [THM_STATUS, THM_EVT_CAUSE] s t) ∧
    (∀ src v, writable s THM_SINK = true → ∃ t, exec (.thmSinkWrite src v) s = .next t ∧ t.get THM_SINK_temp = v.bits 10 0 ∧
        t.get THM_STATUS_sink_fallback = 0 ∧ t.therm.sinkTick = some s.ticks ∧
        t.therm.boundary = (if s.get THM_CTRL_sink_src = 1 then max 0 (min 400 (toSigned 11 (v.bits 10 0))) else s.therm.boundary)) ∧
    (∀ n : Sensor, s.always.tripped = false → ∃ t, exec (.backstopTrip n) s = .next t ∧ t.always.tripped = true ∧ t.pins.thermtrip = true ∧
        t.get THM_TRIP_node = n ∧ t.get THM_TRIP_backstop = 1 ∧ t.therm.tripTick = s.ticks) ∧
    (∀ (n : Sensor) r, s.mode ≠ Mode.retention → ∃ t, exec (.tripMonitorRead [(n.val, r)]) s = .next t ∧ readingOf t n = r ∧
        { t with therm := s.therm } = s) ∧
    (∀ k, s.always.tripped = true → s.start.phase = .held → s.therm.coolSince = some k → k + 125000000 ≤ s.ticks → s.therm.tripTick + 750000000 ≤ s.ticks →
        ∃ t, exec .reArm s = .next t ∧ t.always.tripped = false ∧ t.pins.thermtrip = false) ∧
    (s.pins.vaon = true → ∃ t, exec .lifeCount s = .next t ∧ (t.reg THM_ON_S).toNat = satAdd 0xFFFFFFFF (s.reg THM_ON_S).toNat 1 ∧
        (t.reg THM_HOT_S).toNat = (if 12500000 ≤ s.therm.hotTime then satAdd 0xFFFFFFFF (s.reg THM_HOT_S).toNat 1 else (s.reg THM_HOT_S).toNat) ∧
        t.therm.hotTime = (if 12500000 ≤ s.therm.hotTime then s.therm.hotTime - 12500000 else s.therm.hotTime) ∧
        SameRegs [THM_ON_S, THM_HOT_S, THM_EVT_CAUSE] s t) ∧
    (∀ ppm, ∃ t, exec (.oscCorrect ppm) s = .next t ∧ t.get THM_OSC_valid = 1 ∧ t.get THM_OSC_ppm = ofSigned 16 ppm ∧ SameRegs [THM_OSC] s t ∧
        { t with regs := s.regs } = s)

/-- With PWR_MODE_REQ writable. A request with tag 0 is refused for its tag, whatever its target. In SERVICE with nothing in flight, a
request with a tag for IDLE, RETENTION, SAFE or COLD closes the intake and is in flight in step 1 with SERVICE as its source, once no commit
stays armed; one for MAINTENANCE without an image is in flight and its commit waits for the boundary; one for SERVICE ends DONE. In IDLE a
request for SERVICE starts the exit. While a transition is in flight that is past its abortable points, a request waits as the pending one.
(16_modes_and_supply.md) -/
def Obligations.ModeRequestsAreTakenAsStated : Prop :=
  ∀ (s : State) (src : Source) (v : Word), writable s PWR_MODE_REQ = true →
    let q (m : Nat) : ModeReq := modeReqOf m v
    let ended (m status cause : Nat) : Word := BitVec.ofNat 32 (v.bits 15 8 + m * 2 ^ 8 + status * 2 ^ 12 + cause * 2 ^ 16)
    let started (t : State) (m step : Nat) : Prop :=
      t.modes.inflight = some { req := q m, source := tableMode s, step := step, committed := false, preempt := none, waiting := false, srfRetry := 0 } ∧
        t.modes.exitStart = s.ticks ∧ t.mode = s.mode
    (v.bits 15 8 = 0 →
      (∃ t, exec (.requestIdle src v) s = .next t ∧ t.reg PWR_MODE_LAST = ended Mode.idle ModeStatus.refused ModeCause.badTag ∧ t.modes = s.modes) ∧
      (∃ t, exec (.requestService src v) s = .next t ∧ t.reg PWR_MODE_LAST = ended Mode.service ModeStatus.refused ModeCause.badTag ∧ t.modes = s.modes) ∧
      (∃ t, exec (.requestCold src v) s = .next t ∧ t.reg PWR_MODE_LAST = ended Mode.cold ModeStatus.refused ModeCause.badTag ∧ t.modes = s.modes)) ∧
    (v.bits 15 8 ≠ 0 → s.modes.inflight = none → tableMode s = Mode.service → s.commit.armed = none →
      (∃ t, exec (.requestIdle src v) s = .next t ∧ started t Mode.idle 1 ∧ t.modes.intakeClosed = true) ∧
      (∃ t, exec (.requestRetention src v) s = .next t ∧ started t Mode.retention 1 ∧ t.modes.intakeClosed = true) ∧
      (∃ t, exec (.requestSafe src v) s = .next t ∧ started t Mode.safe 1 ∧ t.modes.intakeClosed = true) ∧
      (∃ t, exec (.requestCold src v) s = .next t ∧ started t Mode.cold 1 ∧ t.modes.intakeClosed = true) ∧
      (v.bits 20 20 = 0 → ∃ t, exec (.requestMaintenance src v) s = .next t ∧ started t Mode.maintenance 1 ∧
        t.commit.hw = s.commit.hw ++ [.maintenance]) ∧
      (∃ t, exec (.requestService src v) s = .next t ∧ t.modes = s.modes ∧ t.reg PWR_MODE_LAST = ended Mode.service ModeStatus.done 0)) ∧
    (v.bits 15 8 ≠ 0 → s.modes.inflight = none → s.mode = Mode.idle → ∃ t, exec (.requestService src v) s = .next t ∧ started t Mode.service 1) ∧
    (∀ x, v.bits 15 8 ≠ 0 → s.modes.inflight = some x → abortable x = false → s.modes.pending = none →
      (∃ t, exec (.requestSafe src v) s = .next t ∧ t.modes = { s.modes with pending := some (q Mode.safe) }) ∧
      (∃ t, exec (.requestIdle src v) s = .next t ∧ t.modes = { s.modes with pending := some (q Mode.idle) }))

/-- For a transition in flight that nothing preempts, with no wake latched and nothing pending. A drain done, a flush done, the copies
complete and the wait instruction each take the entry to the next step, the last past its commit point; a flush leaves no line and the SRAM
powered down. A drain timeout of an IDLE or RETENTION entry from SERVICE ends it as FAILED and opens the intake again. The ends of an IDLE
exit, of a RETENTION release and of MAINTENANCE without a swapped image end in service with nothing in flight; the checks of a RETENTION exit
take it to step 4. WAKE_N low, enabled, is latched. A phase of the shutdown test that its power ledger allows is followed by the next; one
that it does not allow waits. (16_modes_and_supply.md; 19_test_and_repair.md) -/
def Obligations.TransitionStepsActAsStated : Prop :=
  ∀ (s : State) (m : Transition), s.modes.inflight = some m → m.preempt = none → s.get PWR_WAKE_latched = 0 → s.modes.pending = none →
    let last (status cause : Nat) : Word := BitVec.ofNat 32 (m.req.tag % 256 + m.req.target % 16 * 2 ^ 8 + status * 2 ^ 12 + cause * 2 ^ 16)
    let step (t : State) (n : Nat) : Prop := t.modes.inflight = some { m with step := n }
    (s.up = true → m.step = 2 → drained s = true → (m.req.target = Mode.idle ∨ m.req.target = Mode.retention ∨ m.req.target = Mode.cold) →
        ∃ t, exec .drainDone s = .next t ∧ step t 3 ∧ t.dram.mem = s.dram.mem) ∧
    (s.up = true → m.step = 2 → (m.req.target = Mode.idle ∨ m.req.target = Mode.retention) → m.source = Mode.service → ∃ t,
        exec .drainTimeout s = .next t ∧ t.modes.inflight = none ∧ t.modes.intakeClosed = false ∧ t.mode = s.mode ∧
        t.reg PWR_MODE_LAST = last ModeStatus.failed ModeCause.drainTimeout) ∧
    (s.up = true → m.step = 3 → m.req.target = Mode.retention → s.landing.entryFlush = some [] → ∃ t, exec .entryFlushDone s = .next t ∧ step t 4 ∧
        t.landing.lines = [] ∧ t.get LDG_STATUS_powered_down = 1 ∧ t.dram.mem = s.dram.mem) ∧
    (s.up = true → m.step = 4 → m.req.target = Mode.retention → repairRuns s = false → ∃ t, exec .configurationCopyDone s = .next t ∧ step t 5 ∧
        t.always.sentinelWrites = s.always.sentinelWrites + 1 ∧ t.dram.mem = s.dram.mem) ∧
    (s.up = true → m.step = 3 → m.req.target = Mode.idle → ∃ t, exec .waitInstruction s = .next t ∧
        (t.modes.inflight).map (fun x => (x.step, x.committed)) = some (4, true)) ∧
    (s.up = true → m.step = 7 → m.req.target = Mode.retention → ∃ t, exec .waitInstruction s = .next t ∧
        (t.modes.inflight).map (fun x => (x.step, x.committed)) = some (8, true)) ∧
    (s.up = true → m.step = 1 → m.req.target = Mode.service → m.source = Mode.idle → s.modes.held = 0 → ∃ t, exec .idleExit s = .next t ∧
        t.modes.inflight = none ∧ t.inService = true ∧ t.modes.intakeClosed = false ∧ t.reg PWR_MODE_LAST = last ModeStatus.done 0) ∧
    (m.step = 1 → m.req.target = Mode.service → m.source = Mode.retention → ∀ us, ∃ t, exec (.retentionExit [] [] us) s = .next t ∧ step t 4 ∧
        t.get PWR_SENT_STATUS_checked = 1 ∧ t.get PWR_SENT_STATUS_failed = 0 ∧ t.get PWR_SENT_STATUS_us = min 0xFFFF us ∧ t.dram.mem = s.dram.mem) ∧
    (s.up = true → m.step = 4 → m.req.target = Mode.service → m.source = Mode.retention → ∃ t, exec .retentionRelease s = .next t ∧
        t.modes.inflight = none ∧ t.inService = true ∧ t.phase = 0 ∧ t.modes.intakeClosed = false ∧ t.reg PWR_MODE_LAST = last ModeStatus.done 0) ∧
    (s.up = true → m.req.target = Mode.service → m.source = Mode.maintenance → s.test.run = none →
      (s.modes.swapped = false → ∃ t, exec .maintenanceExit s = .next t ∧ t.modes.inflight = none ∧ t.inService = true ∧
        t.reg PWR_MODE_LAST = last ModeStatus.done 0) ∧
      (s.modes.swapped = true → s.commit.hw.contains .imageSwap = false → exec .maintenanceExit s = .next { s with
        commit := { s.commit with hw := s.commit.hw ++ [.imageSwap] } })) ∧
    (natBit (s.reg PWR_WAKE_EN).toNat 16 = true → s.start.phase = .ended → s.mode ≠ Mode.start → ∃ t, exec .wakeNLow s = .next t ∧
        t.reg PWR_WAKE = BitVec.ofNat 32 (natSetBit (natSetBit (s.reg PWR_WAKE).toNat 16) 31) ∧ t.modes = s.modes ∧
        SameRegs [PWR_WAKE, PWR_EVT_CAUSE] s t) ∧
    (∀ r f g rest, s.up = true → s.test.run = some r → r.shutdown = true → r.phases = f :: g :: rest → f ≠ Phase.ledger → g ≠ Phase.lanes →
        (powered f = true → testMayRun s = true) → m.req.target = Mode.cold → ∃ t, exec (.shutdownPhaseDone [] true) s = .next t ∧ (t.test.run).map (·.phases) = some (g :: rest) ∧
        t.get TST_STATUS_phase = g % 8 ∧ step t 4) ∧
    (∀ r f g rest, s.up = true → s.test.run = some r → r.shutdown = true → r.phases = f :: g :: rest → powered f = true → testMayRun s = false →
        exec (.shutdownPhaseDone [] true) s = .next s)

/-- For a mailbox that executes a command of the code with a payload of its size, submitted over I3C, with the purser running its firmware.
IDENTITY, STATUS, CFG_READ, EVT_LOG_READ, FLASH_READ, OTP_READ, LEDGER_READ, SNAP_READ and MODEL_READ of valid operands and JOB_RESULT of an
ended job post OK with the bytes that the rules name; JOB_RESULT of an unknown job posts NO_JOB. CFG_WRITE of one plain register stores it.
RESET of kind 0 does nothing, of kind 1 or 2 waits as the requested reset. MODE to IDLE from SERVICE starts the entry. RETIRE of a row that
may be retired makes it due. SNAPSHOT answers the number of the snapshot that will hold the trigger, and starts it where none is pending. A
command code that is none of these posts UNSUPPORTED. (17_purser_events_snapshot.md; 18_registers_and_otp.md) -/
def Obligations.MailboxCommandsAnswerAsStated : Prop :=
  ∀ (s : State) (m : Fin 8),
    let req := (s.box m).request
    let l := reqPayload req
    (boxServes s m 0x01 0 = true → ∃ t, exec (.identity m) s = .next t ∧ posted t m req Reply.ok
      (wordsBytes [s.reg DEV_ID, s.reg REV_ID, s.reg MBX_FW_VER, BitVec.ofNat 32 (s.get MBX_FW_INFO_rollback)] ++
        [BitVec.ofNat 8 (s.get MBX_FW_INFO_slot), BitVec.ofNat 8 (s.get MBX_FW_INFO_rom_safe), BitVec.ofNat 8 (s.get FAB_NODE_id), 0]) 0 ∧
      SameRegs [MBX_STATUS m] s t) ∧
    (boxServes s m 0x02 0 = true → ∃ t, exec (.status m) s = .next t ∧ posted t m req Reply.ok
      (wordsBytes [shown s PWR_MODE, shown s GLB_START_STATUS, shown s GLB_MEM_STATE, BitVec.ofNat 32 (s.get TST_STATUS_replace), shown s EVT_STATUS]) 0 ∧
      SameRegs [MBX_STATUS m] s t) ∧
    (boxServes s m 0x03 4 = true → payloadNum l 1 1 ≤ 15 → payloadNum l 2 1 ≤ 1 →
      (payloadNum l 0 1 = 0 → ∃ t, exec (.reset m) s = .next t ∧ posted t m req Reply.ok [] 0 ∧ t.start = s.start ∧ SameRegs [MBX_STATUS m] s t) ∧
      (1 ≤ payloadNum l 0 1 → payloadNum l 0 1 ≤ 2 → s.start.request = none → ∃ t, exec (.reset m) s = .next t ∧ posted t m req Reply.ok [] 0 ∧
        t.start = { s.start with request := some ⟨payloadNum l 0 1, ResetSource.mailbox, payloadNum l 2 1 == 1, false⟩ } ∧ SameRegs [MBX_STATUS m] s t)) ∧
    (boxServes s m 0x10 8 = true → payloadNum l 0 4 = DEV_ID → payloadNum l 4 2 = 1 → ∃ t, exec (.cfgRead m) s = .next t ∧
      posted t m req Reply.ok (bytesBE 4 (shown s DEV_ID).toNat) 0 ∧ SameRegs [MBX_STATUS m] s t) ∧
    (∀ (g : Fin 16) r i, boxServes s m 0x11 12 = true → payloadNum l 0 4 = SVC_POOL_CFG g → payloadNum l 4 2 = 1 → rowAt (SVC_POOL_CFG g) = some (r, i) →
      locked s r = false → ∃ t, exec (.cfgWrite m) s = .next t ∧ posted t m req Reply.ok (List.replicate 32 0) 0 ∧
      t.reg (SVC_POOL_CFG g) = plainWord r (s.reg (SVC_POOL_CFG g)) (BitVec.ofNat 32 (payloadNum l 8 4)) ∧ SameRegs [SVC_POOL_CFG g, MBX_STATUS m] s t) ∧
    (boxServes s m 0x20 4 = true → payloadNum l 0 2 ≤ 4095 → 1 ≤ payloadNum l 2 2 → payloadNum l 2 2 ≤ 63 → ∃ t, exec (.evtLogRead m) s = .next t ∧
      posted t m req Reply.ok (bytesBE 2 (s.reg EVT_LOG_HEAD).toNat ++ bytesBE 2 (s.reg EVT_LOG_TAIL).toNat ++ bytesBE 4 (s.reg EVT_LOG_LOST).toNat ++
        (List.range (payloadNum l 2 2)).flatMap fun i => bytesBE 16 (logRecord s ((payloadNum l 0 2 + i) % 4096))) 0 ∧ SameRegs [MBX_STATUS m] s t) ∧
    (boxServes s m 0x30 4 = true → payloadNum l 0 1 = Mode.idle → payloadNum l 1 1 ≠ 0 → payloadNum l 2 1 = 0 → s.modes.inflight = none →
      tableMode s = Mode.service → s.commit.armed = none → ∃ t, exec (.mode m) s = .next t ∧ posted t m req Reply.ok [] 0 ∧
      (t.modes.inflight).map (fun x => (x.req.target, x.req.tag, x.step)) = some (Mode.idle, payloadNum l 1 1, 1) ∧ t.modes.intakeClosed = true) ∧
    (∀ d : List Byte, boxServes s m 0x40 8 = true → 1 ≤ payloadNum l 4 2 → payloadNum l 4 2 ≤ 1008 → d.length = payloadNum l 4 2 → ∃ t,
      exec (.flashRead m (some d)) s = .next t ∧ posted t m req Reply.ok d 0 ∧ SameRegs [MBX_STATUS m] s t) ∧
    (boxServes s m 0x50 8 = true → payloadNum l 0 1 ≤ 7 → payloadNum l 4 2 = 1 → payloadNum l 2 2 + 1 ≤ otpSize (payloadNum l 0 1) → ∃ t,
      exec (.otpRead m) s = .next t ∧ posted t m req Reply.ok (wordsBytes [(otpTaken s (payloadNum l 0 1) (payloadNum l 2 2)).getD 0] ++
        [BitVec.ofNat 8 (boolNat (s.otp.marginal.any fun x => x.region == payloadNum l 0 1 && x.word == payloadNum l 2 2))]) 0 ∧
      SameRegs [MBX_STATUS m] s t) ∧
    (∀ d : List Byte, boxServes s m 0x61 8 = true → 1 ≤ payloadNum l 4 2 → payloadNum l 4 2 ≤ 1008 → d.length = payloadNum l 4 2 →
      payloadNum l 0 4 + payloadNum l 4 2 ≤ 0x80000 → ∃ t, exec (.ledgerRead m (some d)) s = .next t ∧ posted t m req Reply.ok d 0 ∧
      SameRegs [MBX_STATUS m] s t) ∧
    (let v : Word := BitVec.ofNat 32 (payloadNum l 0 4)
     let p : Place := ⟨v.bits 25 19, v.bits 18 14, v.bits 13 0, 0⟩
     boxServes s m 0x62 4 = true → v.bits 31 31 = 0 → retireRefusal s false p = none → ∃ t, exec (.retire m) s = .next t ∧
      posted t m req Reply.ok [BitVec.ofNat 8 RetireResult.done, 0, 0, 0] 0 ∧ t.dram = { s.dram with retireDue := s.dram.retireDue ++ [p.rowKey] }) ∧
    (boxServes s m 0x70 0 = true → natBit (s.get SNAP_CTRL_src) SnapSource.command = true → s.snap.capture = none → ∃ t, exec (.snapshot m) s = .next t ∧
      posted t m req Reply.ok (bytesBE 2 ((s.snap.seq + 1) % 65536) ++ [0, 0]) 0 ∧ t.snap.capture = some (newCapture SnapSource.command 0x1FF)) ∧
    (boxServes s m 0x71 8 = true → payloadNum l 0 1 ≤ 3 → 1 ≤ payloadNum l 4 2 → payloadNum l 4 2 ≤ 250 → payloadNum l 2 2 + payloadNum l 4 2 ≤ 1024 →
      ∃ t, exec (.snapRead m) s = .next t ∧ posted t m req Reply.ok
        (wordsBytes ((List.range (payloadNum l 4 2)).map fun i => snapWord s (payloadNum l 0 1) (payloadNum l 2 2 + i))) 0 ∧ SameRegs [MBX_STATUS m] s t) ∧
    (boxServes s m 0x80 4 = true → payloadNum l 1 1 = 1 → payloadNum l 0 1 < 88 → ∃ t, exec (.modelRead m) s = .next t ∧
      posted t m req Reply.ok (nodeModel s (payloadNum l 0 1)) 0 ∧ SameRegs [MBX_STATUS m] s t) ∧
    (boxServes s m 0x90 4 = true → (s.purser.jobs.any fun j => j.num == payloadNum l 0 1) = false →
      (∀ j, (s.purser.ended.find? fun j => j.num == payloadNum l 0 1) = some j → ∃ t, exec (.jobResult m) s = .next t ∧ posted t m req Reply.ok
        ([BitVec.ofNat 8 (payloadNum l 0 1), 0] ++ bytesBE 2 j.command ++ [BitVec.ofNat 8 j.status, 0] ++ bytesBE 2 j.result.length ++ j.result) 0) ∧
      ((s.purser.ended.find? fun j => j.num == payloadNum l 0 1) = none → ∃ t, exec (.jobResult m) s = .next t ∧ posted t m req Reply.noJob [] 0)) ∧
    (∀ c n, boxServes s m c n = true → knownCommand c = false → ∃ t, exec (.unknownCommand m) s = .next t ∧ posted t m req Reply.unsupported [] 0 ∧
      SameRegs [MBX_STATUS m] s t)

/-- For a mailbox that executes a long command, submitted over I3C, with fewer than eight jobs running. FLASH_WRITE, OTP_PROGRAM and OTP_SEAL
that no other OTP job delays and nothing refuses, BIST_RUN in MAINTENANCE of phases without lanes, and ROW_REPAIR that the half-channel can
take are accepted with the next job number, which is shown; an OTP program counts its pass, a self-test runs its phases, a row repair begins.
A flash write that ends is taken from the jobs and kept with its status. A seal that ends seals its region for good. With the purser running,
a mailbox that gives no answer in time posts ABORTED and is counted; a response kept for an I3C owner is dropped when its time ends.
(17_purser_events_snapshot.md; 18_registers_and_otp.md; 19_test_and_repair.md) -/
def Obligations.LongJobsStartAndEndAsStated : Prop :=
  ∀ (s : State) (m : Fin 8),
    let req := (s.box m).request
    let l := reqPayload req
    let n := nextJobNumber s
    let free := s.purser.jobs.length < 8 ∧ n < 256
    let joined (t : State) (code : Nat) : Prop := posted t m req Reply.accepted [] n ∧ t.get MBX_JOBS_last = n ∧
      t.purser.jobs = s.purser.jobs ++ [⟨n, code, l⟩]
    (free → boxServes s m 0x41 (8 + payloadNum l 4 2) = true → 1 ≤ payloadNum l 4 2 → payloadNum l 4 2 ≤ 512 → payloadNum l 6 1 = 0 → ∃ t,
      exec (.flashWrite m) s = .next t ∧ joined t 0x41 ∧ SameRegs [MBX_STATUS m, MBX_JOBS] s t) ∧
    (free → boxServes s m 0x51 (8 + 4 * payloadNum l 4 2) = true → 1 ≤ payloadNum l 4 2 → payloadNum l 4 2 ≤ 200 → payloadNum l 0 1 ≤ 7 →
      (s.purser.jobs.any fun k => k.command == Cmd.otpProgram || k.command == Cmd.otpSeal) = false → otpJobRefusal s ⟨n, Cmd.otpProgram, l⟩ = none → ∃ t,
      exec (.otpProgram m) s = .next t ∧ joined t 0x51 ∧ t.otp.passes = s.otp.passes + 1) ∧
    (free → boxServes s m 0x52 4 = true → payloadNum l 0 1 ≤ 7 →
      (s.purser.jobs.any fun k => k.command == Cmd.otpProgram || k.command == Cmd.otpSeal) = false → otpJobRefusal s ⟨n, Cmd.otpSeal, l⟩ = none → ∃ t,
      exec (.otpSeal m) s = .next t ∧ joined t 0x52 ∧ t.otp = s.otp) ∧
    (free → boxServes s m 0x60 4 = true → s.test.run = none → s.mode = Mode.maintenance → (scopePhases (payloadNum l 0 4)).contains Phase.lanes = false → ∃ t,
      exec (.bistRun m) s = .next t ∧ joined t 0x60 ∧
      t.test.run = some ⟨false, scopePhases (payloadNum l 0 4), payloadNum l 0 4 / 2 ^ 16 % 2 ^ 16, n⟩ ∧ t.get TST_STATUS_busy = 1) ∧
    (let v : Word := BitVec.ofNat 32 (payloadNum l 2 4)
     let p : Place := ⟨payloadNum l 0 1, v.bits 18 14, v.bits 13 0, 0⟩
     free → boxServes s m 0x63 8 = true → payloadNum l 0 1 ≤ 127 → repairRefusal s p = none → ∃ t, exec (.rowRepair m) s = .next t ∧ joined t 0x63 ∧
      (t.hc p.hc).rowRepair = some ⟨p.bank, p.row, RepairStep.ledger, 0, []⟩) ∧
    (∀ (k : Fin 256) j o f, purserRuns s = true → (s.purser.jobs.find? fun j => j.num == k.val) = some j →
      (j.command = Cmd.flashWrite → ∃ t, exec (.jobDone k true o f) s = .next t ∧ t.purser.jobs = s.purser.jobs.filter (fun j => j.num != k.val) ∧
        t.purser.ended.head? = some ⟨k.val, Cmd.flashWrite, Reply.ok, []⟩ ∧ SameRegs [MBX_JOBS, MBX_EVT_CAUSE] s t) ∧
      (j.command = Cmd.otpSeal → s.otp.queue = [] → ∃ t, exec (.jobDone k true o f) s = .next t ∧
        t.purser.jobs = s.purser.jobs.filter (fun j => j.num != k.val) ∧ t.otp.seals = natSetBit s.otp.seals (payloadNum j.args 0 1) ∧
        t.purser.ended.head? = some ⟨k.val, Cmd.otpSeal, Reply.ok, [BitVec.ofNat 8 OtpResult.done]⟩)) ∧
    (s.up = true → boxState s m = BoxState.busy → (s.box m).entry = none → boxOwner s m = Owner.i3c → ∃ t, exec (.mbxTimeout m) s = .next t ∧
      posted t m req Reply.aborted [] 0 ∧ (t.reg MBX_TIMEOUTS).toNat = satAdd 0xFFFFFFFF (s.reg MBX_TIMEOUTS).toNat 1 ∧
      SameRegs [MBX_STATUS m, MBX_TIMEOUTS, MBX_EVT_CAUSE] s t) ∧
    (s.up = true → boxState s m = BoxState.done → boxOwner s m = Owner.i3c → ∃ t, exec (.mailboxDoneTimeout m) s = .next t ∧
      boxState t m = BoxState.idle ∧ (t.box m).buffer = (s.box m).buffer ∧ SameRegs [MBX_STATUS m] s t)

/-- For a target that answers, where a wake by I3C is not enabled. A private write of a pointer and one byte into the request window of a
mailbox that is not busy stores that byte there and moves the pointer past it; a private read returns the bytes of the window from the
pointer on, up to the read limit. A submission to an idle mailbox open to I3C makes it busy with the request its buffer holds; a release of a
posted response makes it idle. An address is assigned, changed and reset as its code says; the identity codes and limits are returned; the
limits are set within 1026 bytes; ENEC and DISEC change nothing; an error is counted. Which bytes GETSTATUS returns is free (log entry 2).
(17_purser_events_snapshot.md) -/
def Obligations.I3cTargetActsAsStated : Prop :=
  ∀ (s : State), i3cAnswers s = true → natBit (s.reg PWR_WAKE_EN).toNat 17 = false →
    (∀ (m : Fin 8) (o : Fin 1024) (b : Byte), 3 ≤ s.purser.mwl → boxState s m ≠ BoxState.busy → ∃ t,
        exec (.i3cBufferWrite [BitVec.ofNat 8 (32 * m.val + o.val / 256), BitVec.ofNat 8 o.val, b]) s = .next t ∧
        KMap.get (fun _ => (0 : Byte)) (t.box m).buffer o = b ∧ t.purser.pointer = (m.val, 0, (o.val + 1) % 1024) ∧ t.regs = s.regs ∧
        (∀ k : Fin 8, k ≠ m → t.box k = s.box k)) ∧
    (∀ n, ∃ t, exec (.i3cPrivateRead n) s = .next t ∧
        t.out.bytes = (List.range (min n s.purser.mrl)).map (fun i => i3cByte s s.purser.pointer.1 s.purser.pointer.2.1 ((s.purser.pointer.2.2 + i) % 1024)) ∧
        t.purser.pointer = (s.purser.pointer.1, s.purser.pointer.2.1, (s.purser.pointer.2.2 + min n s.purser.mrl) % 1024) ∧ t.regs = s.regs) ∧
    (∀ m : Fin 8, 3 ≤ s.purser.mwl → boxState s m = BoxState.idle → sourceOn s m Owner.i3c = true →
      let b := (List.range 1024).map fun i => KMap.get (fun _ => (0 : Byte)) (s.box m).buffer i
      ∃ t, exec (.submit m) s = .next t ∧ boxState t m = BoxState.busy ∧ boxOwner t m = Owner.i3c ∧ (t.box m).request = b.take (8 + reqLength b) ∧
        t.get (MBX_STATUS_cmd m) = reqCode b ∧ SameRegs [MBX_STATUS m] s t) ∧
    (∀ m : Fin 8, 3 ≤ s.purser.mwl → boxState s m = BoxState.done → boxOwner s m = Owner.i3c → ∃ t, exec (.mailboxRelease m) s = .next t ∧
        boxState t m = BoxState.idle ∧ (t.box m).buffer = (s.box m).buffer ∧ SameRegs [MBX_STATUS m] s t) ∧
    (∀ a : Fin 128, s.get MBX_I3C_dyn_valid = 0 →
      (∃ t, exec (.entdaa a) s = .next t ∧ t.get MBX_I3C_dyn = a ∧ t.get MBX_I3C_dyn_valid = 1 ∧ SameRegs [MBX_I3C] s t) ∧
      (∃ t, exec (.setdasa a) s = .next t ∧ t.get MBX_I3C_dyn = a ∧ t.get MBX_I3C_dyn_valid = 1 ∧ SameRegs [MBX_I3C] s t)) ∧
    (∀ a : Fin 128, s.get MBX_I3C_dyn_valid = 1 → (∃ t, exec (.setnewda a) s = .next t ∧ t.get MBX_I3C_dyn = a ∧ t.get MBX_I3C_dyn_valid = 1 ∧
        SameRegs [MBX_I3C] s t) ∧ exec (.entdaa a) s = .next s ∧ exec (.setdasa a) s = .next s) ∧
    (∃ t, exec .rstdaa s = .next t ∧ t.get MBX_I3C_dyn_valid = 0 ∧ SameRegs [MBX_I3C] s t) ∧
    (exec .getpid s = .next { s with out := ⟨0, bytesBE 6 (0x2D5A * 2 ^ 33 + 0x6416 * 2 ^ 16 + s.pins.nodeid % 64)⟩ }) ∧
    (exec .getbcr s = .next { s with out := ⟨0, [0]⟩ }) ∧ (exec .getdcr s = .next { s with out := ⟨0, [0]⟩ }) ∧
    (∃ t, exec .getstatus s = .next t ∧ t.out.bytes.length = 2 ∧ t.regs = s.regs ∧ t.purser = s.purser) ∧
    (exec .getmwl s = .next { s with out := ⟨0, bytesBE 2 s.purser.mwl⟩ }) ∧ (exec .getmrl s = .next { s with out := ⟨0, bytesBE 2 s.purser.mrl⟩ }) ∧
    (∀ (n : Fin 65536), exec (.setmwl false n) s = .next { s with purser := { s.purser with mwl := min 1026 n.val } } ∧
        exec (.setmrl false n) s = .next { s with purser := { s.purser with mrl := min 1026 n.val } }) ∧
    (∀ d, exec (.enec d) s = .next s ∧ exec (.disec d) s = .next s) ∧
    (∃ t, exec .i3cError s = .next t ∧ (t.reg MBX_I3C_ERRS).toNat = satAdd 0xFFFFFFFF (s.reg MBX_I3C_ERRS).toNat 1 ∧
        SameRegs [MBX_I3C_ERRS, MBX_EVT_CAUSE] s t)

/-- A restart of a running purser takes the time and nothing else. A fault of a running purser halts it and shows its kind and pc. An expiry
of a watchdog not restarted for 100 ms, with the logic past ARM and the purser not halted, shows cause 1 and the pc. Sixty seconds after
release in service the count of resets in a row is clear again. (17_purser_events_snapshot.md) -/
def Obligations.WatchdogActsAsStated : Prop :=
  ∀ (s : State),
    (purserRuns s = true → exec .watchdogRestart s = .next { s with purser := { s.purser with watchdog := s.ticks } }) ∧
    (∀ (k : Fin 3) pc, purserRuns s = true → ∃ t, exec (.purserFault k pc) s = .next t ∧ t.purser = { s.purser with halted := some (k.val + 2, pc) } ∧
        t.get MBX_WDOG_cause = k.val + 2 ∧ t.reg MBX_WDOG_PC = pc ∧ SameRegs [MBX_WDOG, MBX_WDOG_PC] s t) ∧
    (∀ pc, s.up = true → startStep s ≠ StartStep.arm → s.purser.watchdog + 1250000 ≤ s.ticks → s.purser.halted = none → ∃ t,
        exec (.watchdogExpiry pc) s = .next t ∧ t.get MBX_WDOG_cause = 1 ∧ t.reg MBX_WDOG_PC = pc) ∧
    (s.up = true → s.inService = true → s.purser.releaseTick + 750000000 ≤ s.ticks → ∃ t, exec .watchdogCountClear s = .next t ∧
        t.get MBX_WDOG_run = 0 ∧ t.purser = { s.purser with skip := none } ∧ SameRegs [MBX_WDOG] s t)

/-- With the logic up. A read of pending events or of a cause register returns its word and clears the fields that clear on read, and nothing
else. A write of EVT_LOG_TAIL moves the tail forward by the distance written, at most by the records held. A read of EVT_LOG_W0 returns word
0 of the selected record and latches its other words. A read of the low word of a pair with shadows returns it and latches the high word for
the source that read, whose later read of the high word returns that word; no other shadow moves. EVT_CLR, SNAP_CLR and MBX_CLR read 1 and
wait for the boundary. (17_purser_events_snapshot.md; 18_registers_and_otp.md; 04_lanes.md) -/
def Obligations.EventReadsAndClearsActAsStated : Prop :=
  ∀ (s : State) (src : Source), s.up = true →
    (∀ i : Fin 12, ∃ t, exec (.evtPendRead src i) s = .next t ∧ t.out = ⟨s.reg (EVT_PEND i), []⟩ ∧ t.reg (EVT_PEND i) = 0 ∧
      SameRegs [EVT_PEND i] s t ∧ { t with out := s.out, regs := s.regs } = s) ∧
    (∀ (a : CfgAddr) r i, rowAt a = some (r, i) → r.rc ≠ 0 → ∃ t, exec (.causeRead src a) s = .next t ∧ t.out = ⟨s.reg a, []⟩ ∧
      (∀ k : Fin 32, (t.reg a).getLsbD k = ((s.reg a).getLsbD k && !natBit r.rc k)) ∧ SameRegs [a.val] s t ∧
      { t with out := s.out, regs := s.regs } = s) ∧
    (∀ v, let d := min ((v.toNat % 4096 + 4096 - s.get EVT_LOG_TAIL_index) % 4096) s.events.held
      ∃ t, exec (.evtLogTailWrite src v) s = .next t ∧ t.events = { s.events with held := s.events.held - d } ∧
        t.get EVT_LOG_TAIL_index = (s.get EVT_LOG_TAIL_index + d) % 4096 ∧ SameRegs [EVT_LOG_TAIL] s t ∧
        { t with events := s.events, regs := s.regs } = s) ∧
    (exec (.evtLogW0Read src) s = .next { s with
        out := ⟨BitVec.ofNat 32 (logRecord s (s.get EVT_LOG_IDX_index) / 2 ^ 96), []⟩,
        events := { s.events with latched := logRecord s (s.get EVT_LOG_IDX_index) % 2 ^ 96 } }) ∧
    (∀ (a : CfgAddr) r i, rowAt a = some (r, i) → isLow r a = true → ∃ t, exec (.shLoRead src a) s = .next t ∧ t.out = ⟨shown s a, []⟩ ∧
      t.shadows.find (32 * (a.val + 4) + src.val) = some (shown s (a.val + 4)) ∧ readWord src (a.val + 4) t = shown s (a.val + 4) ∧
      (∀ k, k ≠ 32 * (a.val + 4) + src.val → t.shadows.find k = s.shadows.find k) ∧ { t with out := s.out, shadows := s.shadows } = s) ∧
    (exec (.evtClr src) s = .next { s.setReg EVT_CLR 1 with clears := insertSorted EVT_CLR s.clears }) ∧
    (exec (.snapClr src) s = .next { s.setReg SNAP_CLR 1 with clears := insertSorted SNAP_CLR s.clears }) ∧
    (exec (.mbxClr src) s = .next { s.setReg MBX_CLR 1 with clears := insertSorted MBX_CLR s.clears })

/-- With the logic up. A trigger of an enabled source starts a capture where none is pending; before the latch it joins the pending one and
is counted; during a drain it makes one held snapshot. A trigger other than SNAP_N drives SNAP_N where driving is on, and SNAP_N is ignored
until the pulse ends. At the latch boundary a capture takes the oldest free slot and the next sequence number; with no slot free it is lost,
or takes the oldest slot, as SNAP_CTRL.hold says, and the loss is counted either way. At the end of the drain the slot is valid and the
newest, and a held snapshot is pending. An acknowledgement frees the slots it names. A read of SNAP_RD_DATA returns the selected word and
advances the word index. (17_purser_events_snapshot.md) -/
def Obligations.SnapshotCommandsActAsStated : Prop :=
  ∀ (s : State) (src : Source), s.up = true →
    (natBit (s.get SNAP_CTRL_src) SnapSource.pin = true → s.pins.snapIgnore = false →
      (s.snap.capture = none → exec .snapNLow s = .next { s with snap := { s.snap with capture := some (newCapture SnapSource.pin 0x1FF) } }) ∧
      (∀ c, s.snap.capture = some c → c.words = none → ∃ t, exec .snapNLow s = .next t ∧
        t.snap = { s.snap with capture := some { c with sources := natSetBit c.sources SnapSource.pin } } ∧
        (t.reg SNAP_MERGED).toNat = satAdd 0xFFFFFFFF (s.reg SNAP_MERGED).toNat 1 ∧ SameRegs [SNAP_MERGED] s t ∧
        { t with snap := s.snap, regs := s.regs } = s) ∧
      (∀ c, s.snap.capture = some c → c.words.isSome = true → s.snap.heldNext = none →
        exec .snapNLow s = .next { s with snap := { s.snap with heldNext := some (newCapture SnapSource.pin 0x1FF) } })) ∧
    (∀ v : Word, writable s SNAP_CTRL = true → natBit (v.bits 11 8) SnapSource.go = true → s.snap.capture = none → ∃ t,
      exec (.snapGo src v) s = .next t ∧ t.snap = { s.snap with capture := some (newCapture SnapSource.go 0x1FF) } ∧
      t.reg SNAP_CTRL = (s.reg SNAP_CTRL &&& ~~~0xF31) ||| (v &&& 0xF30) ∧ t.pins.snapDrive = (s.pins.snapDrive || v.getLsbD 4) ∧ t.pins.snapIgnore = (s.pins.snapIgnore || v.getLsbD 4) ∧
      t.commit = { s.commit with suspendLeft := 1024 } ∧ SameRegs [SNAP_CTRL] s t ∧
      { t with snap := s.snap, regs := s.regs, commit := s.commit, pins := s.pins } = s) ∧
    (∀ rails c, s.snap.capture = some c → c.due = true → c.words = none →
      (∀ k, (s.snap.order.find? fun k => (s.snap.slots.find k).isNone) = some k → ∃ t, exec (.snapLatch rails) s = .next t ∧
        t.snap = { s.snap with seq := (s.snap.seq + 1) % 65536, slots := s.snap.slots.erase k, capture := some { c with slot := k, words := some (snapWords s c ((s.snap.seq + 1) % 65536) rails) } } ∧
        { t with snap := s.snap } = s) ∧
      ((s.snap.order.find? fun k => (s.snap.slots.find k).isNone) = none → ∃ t, exec (.snapLatch rails) s = .next t ∧
        (t.reg SNAP_LOST).toNat = satAdd 0xFFFFFFFF (s.reg SNAP_LOST).toNat 1 ∧
        (s.get SNAP_CTRL_hold = 1 → t.snap = { s.snap with capture := none }) ∧
        (s.get SNAP_CTRL_hold = 0 → ∀ k, s.snap.order.head? = some k → t.snap.slots.find k = none ∧ t.snap.seq = (s.snap.seq + 1) % 65536 ∧
          (t.snap.capture).map (·.slot) = some k) ∧ SameRegs [SNAP_LOST, SNAP_EVT_CAUSE] s t)) ∧
    (∀ c w, s.snap.capture = some c → c.words = some w → c.slot < 4 → ∃ t, exec .snapDone s = .next t ∧ t.snap.slots.find c.slot = some w ∧
      (∀ k, k ≠ c.slot → t.snap.slots.find k = s.snap.slots.find k) ∧ t.snap.capture = s.snap.heldNext ∧ t.snap.heldNext = none ∧
      t.get SNAP_STATUS_newest = c.slot ∧ t.get SNAP_STATUS_seq = s.snap.seq % 65536 ∧ SameRegs [SNAP_STATUS, SNAP_EVT_CAUSE] s t ∧
      { t with snap := s.snap, regs := s.regs, events := s.events } = s) ∧
    (∀ v : Word, ∃ t, exec (.snapAck src v) s = .next t ∧ (∀ k : Fin 4, t.snap.slots.find k = if v.getLsbD k then none else s.snap.slots.find k) ∧
      { t with snap := { t.snap with slots := s.snap.slots } } = s) ∧
    (∃ t, exec (.snapRdDataRead src) s = .next t ∧ t.out = ⟨snapWord s (s.get SNAP_RD_IDX_slot) (s.get SNAP_RD_IDX_word), []⟩ ∧
      t.get SNAP_RD_IDX_word = (s.get SNAP_RD_IDX_word + 1) % 1024 ∧ t.get SNAP_RD_IDX_slot = s.get SNAP_RD_IDX_slot ∧ SameRegs [SNAP_RD_IDX] s t ∧
      { t with out := s.out, regs := s.regs } = s) ∧
    (exec .snapNPulseEnd s = .next { s with pins := { s.pins with snapDrive := false, snapIgnore := false } })

/-- With the logic up. A write where no register is defined, or to a register without writable fields, changes nothing. A write to a locked
register changes no register but the record of the violation, with its address and source, and no shadow. A register that only stores takes
its RW bits from the value, and other bits keep theirs. GLB_LOCK takes the bits that are set and is never locked. GLB_SW_FLAGS takes the bits
its mask selects. The first word of a pair waits and changes no register; the second, the complement from the same source, gives a PW
register of the reset control that asks for nothing its value; any other ending of the pair is recorded with its reason. A write of
CFG_COMMIT.go waits for a pass. A register that acts on its write acts as its own command does. (18_registers_and_otp.md) -/
def Obligations.RegisterWritesActByTheirTypes : Prop :=
  ∀ (s : State) (src : Source) (v : Word), s.up = true →
    (∀ a : CfgAddr, rowAt a = none → exec (.registerWrite src a v) s = .next s) ∧
    (∀ (a : CfgAddr) r i, rowAt a = some (r, i) → r.kind = .plain → r.rw = 0 → r.w1s = 0 → r.staged = 0 → r.lock = 16 →
      exec (.registerWrite src a v) s = .next s) ∧
    (∀ (a : CfgAddr) r i, rowAt a = some (r, i) → locked s r = true → ∃ t, exec (.registerWrite src a v) s = .next t ∧
      t.get GLB_LOCK_VIOL_count = min 65535 (s.get GLB_LOCK_VIOL_count + 1) ∧ t.get GLB_LOCK_VIOL_source = src ∧ t.get GLB_LOCK_ADDR_addr = a ∧
      SameRegs [GLB_LOCK_VIOL, GLB_LOCK_ADDR] s t ∧ t.events = (s.raiseEvent 340 0).events ∧ { t with regs := s.regs, events := s.events } = s) ∧
    (∀ (a : CfgAddr) r i, rowAt a = some (r, i) → r.kind = .plain → r.w1s = 0 → r.staged = 0 → r.rw ≠ 0 → locked s r = false →
      (a.val < 0x10000 ∨ 0x60000 ≤ a.val) → r.base ∉ [SVC_QIND_CTRL, TT_LOAD_CTRL, HC_CTRL 0, HC_REPAIR_CTRL 0, HC_ARB_PANIC, HC_MAP_CTRL, ECC_LOG_TAIL,
        LDG_OP_CTRL, FAB_PORT_CTRL 0, THM_SINK, PWR_MODE_REQ, EVT_ALERT_EN 0, EVT_LOG_TAIL, SNAP_CTRL] → ∃ t, exec (.registerWrite src a v) s = .next t ∧
      (∀ k : Fin 32, (t.reg a).getLsbD k = if natBit r.rw k then v.getLsbD k else (s.reg a).getLsbD k) ∧ SameRegs [a.val] s t ∧
      { t with regs := s.regs, commit := s.commit } = s) ∧
    (∃ t, exec (.glbLockWrite src v) s = .next t ∧ t.reg GLB_LOCK = s.reg GLB_LOCK ||| (v &&& 0xFFFF) ∧ SameRegs [GLB_LOCK] s t ∧
      { t with regs := s.regs } = s) ∧
    (∃ t, exec (.swFlagsWrite src v) s = .next t ∧
      (∀ k : Fin 16, (t.reg GLB_SW_FLAGS).getLsbD k = if v.getLsbD (16 + k) then v.getLsbD k else (s.reg GLB_SW_FLAGS).getLsbD k) ∧
      (∀ k : Fin 16, (shown t GLB_SW_FLAGS).getLsbD (16 + k) = false) ∧ SameRegs [GLB_SW_FLAGS] s t ∧ { t with regs := s.regs } = s) ∧
    (∀ (a : CfgAddr) r i, rowAt a = some (r, i) → r.kind = .paired → locked s r = false → s.pairs.find a = none →
      exec (.registerWrite src a v) s = .next { s with pairs := s.pairs.ins a ⟨v, src⟩ }) ∧
    (∀ (a : CfgAddr) r i x, rowAt a = some (r, i) → r.kind = .complement → locked s r = false → s.pairs.find (a.val - 4) = some x →
      (x.src = src.val → v = ~~~x.value → a.val = GLB_RESET_CTRL_CPL → x.value.bits 1 0 = 0 → ∃ t, exec (.registerWrite src a v) s = .next t ∧
        t.reg GLB_RESET_CTRL = (s.reg GLB_RESET_CTRL &&& ~~~0xF7) ||| (x.value &&& 0xF7) ∧ t.pairs = s.pairs.erase GLB_RESET_CTRL ∧
        SameRegs [GLB_RESET_CTRL] s t ∧ { t with regs := s.regs, pairs := s.pairs } = s) ∧
      (x.src ≠ src.val → ∃ t, exec (.registerWrite src a v) s = .next t ∧ t.get GLB_PAIR_FAIL_reason = PairFault.otherSource ∧
        t.get GLB_PAIR_FAIL_source = src ∧ t.get GLB_PAIR_FAIL_addr = a.val - 4 ∧ t.pairs = s.pairs.erase (a.val - 4) ∧ SameRegs [GLB_PAIR_FAIL] s t) ∧
      (x.src = src.val → v ≠ ~~~x.value → ∃ t, exec (.registerWrite src a v) s = .next t ∧ t.get GLB_PAIR_FAIL_reason = PairFault.notComplement ∧
        t.get GLB_PAIR_FAIL_source = src ∧ t.get GLB_PAIR_FAIL_addr = a.val - 4 ∧ t.pairs = s.pairs.erase (a.val - 4) ∧ SameRegs [GLB_PAIR_FAIL] s t)) ∧
    (∀ (a : CfgAddr) r i, rowAt a = some (r, i) → r.kind = .complement → locked s r = false → s.pairs.find (a.val - 4) = none → ∃ t,
      exec (.registerWrite src a v) s = .next t ∧ t.get GLB_PAIR_FAIL_reason = PairFault.nothing ∧ t.get GLB_PAIR_FAIL_addr = a.val - 4 ∧
      SameRegs [GLB_PAIR_FAIL] s t ∧ t.pairs = s.pairs) ∧
    (exec (.cfgCommit src) s = .next (s.setReg CFG_COMMIT (s.reg CFG_COMMIT ||| 1))) ∧
    (exec (.registerWrite src (Fin.ofNat _ SNAP_ACK) v) s = exec (.snapAck src v) s ∧
      exec (.registerWrite src (Fin.ofNat _ EVT_LOG_TAIL) v) s = exec (.evtLogTailWrite src v) s ∧
      exec (.registerWrite src (Fin.ofNat _ GLB_LOCK) v) s = exec (.glbLockWrite src v) s)

/-- With the logic up, a pass sets CFG_CRC to the CRC of the guarded set. With a reference asked for, it becomes the reference, which is then
valid, and go is clear. With the check enabled, a valid reference and no suspension, an equal CRC clears drift; a different one sets it, and
raises CFG_DRIFT in the first pass of an episode. While the check is off, or no reference is valid, or the comparison is suspended, nothing
else changes. (18_registers_and_otp.md) -/
def Obligations.ConfigurationCheckActsAsStated : Prop :=
  ∀ s : State, s.up = true →
    let c : Word := BitVec.ofNat 32 (guardedCrc s)
    let compares := s.get CFG_CTRL_check_en = 1 ∧ s.get CFG_STATUS_ref_valid = 1 ∧ s.commit.suspendLeft = 0
    (s.get CFG_COMMIT_go = 1 → ∃ t, exec .cfgCheckPass s = .next t ∧ t.reg CFG_CRC = c ∧ t.reg CFG_CRC_REF = c ∧ t.get CFG_STATUS_ref_valid = 1 ∧
      t.get CFG_COMMIT_go = 0 ∧ t.commit = { s.commit with suspendLeft := 0, drifting := false } ∧
      SameRegs [CFG_CRC, CFG_CRC_REF, CFG_STATUS, CFG_COMMIT] s t ∧ { t with regs := s.regs, commit := s.commit } = s) ∧
    (s.get CFG_COMMIT_go = 0 → ¬compares → exec .cfgCheckPass s = .next (s.setReg CFG_CRC c)) ∧
    (s.get CFG_COMMIT_go = 0 → compares → c = s.reg CFG_CRC_REF → ∃ t, exec .cfgCheckPass s = .next t ∧ t.reg CFG_CRC = c ∧
      t.get CFG_STATUS_drift = 0 ∧ t.commit = { s.commit with drifting := false } ∧ SameRegs [CFG_CRC, CFG_STATUS] s t ∧
      { t with regs := s.regs, commit := s.commit } = s) ∧
    (s.get CFG_COMMIT_go = 0 → compares → c ≠ s.reg CFG_CRC_REF → s.get CFG_CTRL_safe_on_drift = 0 → ∃ t, exec .cfgCheckPass s = .next t ∧
      t.reg CFG_CRC = c ∧ t.get CFG_STATUS_drift = 1 ∧ t.commit = { s.commit with drifting := true } ∧
      t.events = (if s.commit.drifting then s else s.raiseEvent 342 0).events ∧ SameRegs [CFG_CRC, CFG_STATUS] s t ∧
      { t with regs := s.regs, commit := s.commit, events := s.events } = s)

/-- A re-read with nothing bad, after FUSE and with no OTP job, takes the temperature, clears the list and the go bit. With VQPS still in
range, or no OTP job running, a VQPS event records the voltage and nothing else; out of range with a seal running and nothing waiting, the
job ends ABORTED with NO_VQPS. A recording pass with nothing to record shows DONE and clears go. An UPDATE copy of the ledger that is due,
ten seconds after the last, is written, and is no longer due. A loopback's fields are stored as written with enable set. A forced seal from
JTAG, with PWRGOOD, the command clock, VQPS and temperature in range, seals an unsealed field region for good. (18_registers_and_otp.md;
19_test_and_repair.md) -/
def Obligations.OtpAndRecordingActAsStated : Prop :=
  ∀ s : State,
    (s.up = true → s.get OTP_STATUS_loaded = 1 → otpJob s = none → s.otp.failed = [] → ∃ t, exec (.otpReread []) s = .next t ∧
      t.otp = { s.otp with marginal := [] } ∧ t.get OTP_CTRL_reread = 0 ∧ t.get OTP_STATUS_marginal = 0 ∧
      t.get OTP_TEMP_LAST_temp = ofSigned 11 (readingOf s 23) % 2048 ∧ SameRegs [OTP_STATUS, OTP_TEMP_LAST, OTP_CTRL] s t ∧ { t with regs := s.regs, otp := s.otp } = s) ∧
    (∀ mv n, (1746 ≤ mv ∧ mv ≤ 1854 ∨ otpJob s = none) → exec (.vqpsOutOfRange mv n) s = .next { s with pins := { s.pins with vqps := mv } }) ∧
    (∀ mv n j, ¬(1746 ≤ mv ∧ mv ≤ 1854) → otpJob s = some j → j.command = Cmd.otpSeal → s.otp.queue = [] → ∃ t, exec (.vqpsOutOfRange mv n) s = .next t ∧
      t.pins.vqps = mv ∧ t.otp = s.otp ∧ t.purser.jobs = s.purser.jobs.filter (fun k => k.num != j.num) ∧
      t.purser.ended.head? = some ⟨j.num, Cmd.otpSeal, Reply.aborted, [BitVec.ofNat 8 OtpResult.noVqps]⟩) ∧
    (∀ a b c, purserRuns s = true → otpJob s = none → s.get TST_REC_CTRL_go = 1 → pendingF4 s = [] → pendingF5 s = [] → ∃ t,
      exec (.recordingPass a b c) s = .next t ∧ t.get TST_REC_STATUS_last = RecResult.done ∧ t.get TST_REC_CTRL_go = 0 ∧
      SameRegs [TST_REC_STATUS, TST_REC_CTRL] s t ∧ { t with regs := s.regs } = s) ∧
    (purserRuns s = true → s.test.updateDue = true → (∀ k, s.test.updateAt = some k → k + 125000000 ≤ s.ticks) → ∃ t, exec (.ledgerUpdate true) s = .next t ∧
      t.test = { s.test with updateDue := false, updateAt := some s.ticks, stored := ledgerCopy 2 s.test.stored.verdict s } ∧ { t with test := s.test } = s) ∧
    (∀ (src : Source) (v : Word), s.up = true → ∃ t, exec (.loopbackEnable src v) s = .next t ∧ t.reg TST_LOOP_CTRL = (s.reg TST_LOOP_CTRL &&& ~~~0xBF) ||| (v &&& 0x3F) ||| 0x80 ∧
      SameRegs [TST_LOOP_CTRL] s t ∧ { t with regs := s.regs } = s) ∧
    (∀ r : Fin 8, s.up = true → s.pins.pwrgood = true → clockRuns s = true → s.pairs.find TST_JTAG_SEAL = none → 4 ≤ r.val →
      otpState s r < OtpState.sealed → vqpsGood s = true → otpTempGood s = true → ∃ t, exec (.forcedSeal r) s = .next t ∧
      t.otp = { s.otp with seals := natSetBit s.otp.seals r } ∧ t.pairs.find TST_JTAG_SEAL = none ∧ SameRegs [TST_JTAG_SEAL, OTP_EVT_CAUSE] s t)

/-- A reset of the TAP selects IDCODE. IDCODE, SAMPLE/PRELOAD and BYPASS always act; IDCODE returns 0xB64166B5. With RESET_N low the boundary
instructions take the cells, CLAMP and HIGHZ are selected, WRAP_SEL selects a die, and WIR and WDR accesses and the wrapper instructions
reach the selected die only. With RESET_N high and the logic up each of these selects BYPASS and raises JTAG_ACTIVE, and changes nothing
else. CFG_ACCESS, with PWRGOOD high and the command clock running, reads and writes configuration space as source 0x18 and holds the word
with ok set. The numbers of the wrapper instructions are the model's (log entry 52). (19_test_and_repair.md Test access) -/
def Obligations.TestAccessActsAsStated : Prop :=
  ∀ s : State,
    let tap (x : TapSt) : State := { s with test := { s.test with tap := x } }
    let refused (c : Instr) : Prop := ∃ t, exec c s = .next t ∧ t.test.tap = { s.test.tap with ir := Tap.bypass } ∧
      (t.reg TST_EVT_CAUSE).getLsbD (Cause.TST_jtag_active).bit = true ∧ SameRegs [TST_EVT_CAUSE] s t ∧
      { t with test := s.test, regs := s.regs, events := s.events } = s
    (exec .tapReset s = .next (tap { s.test.tap with ir := Tap.idcode })) ∧
    (exec .idcode s = .next { tap { s.test.tap with ir := Tap.idcode } with out := ⟨0xB64166B5, []⟩ }) ∧
    (exec .bypass s = .next (tap { s.test.tap with ir := Tap.bypass })) ∧
    (∀ n, exec (.samplePreload n) s = .next (tap { s.test.tap with ir := Tap.sample, boundary := n })) ∧
    (s.pins.resetN = false →
      (∀ n, exec (.extest n) s = .next (tap { s.test.tap with ir := Tap.extest, boundary := n }) ∧
        exec (.extestPulse n) s = .next (tap { s.test.tap with ir := Tap.extestPulse, boundary := n }) ∧
        exec (.extestTrain n) s = .next (tap { s.test.tap with ir := Tap.extestTrain, boundary := n })) ∧
      exec .clamp s = .next (tap { s.test.tap with ir := Tap.clamp }) ∧ exec .highz s = .next (tap { s.test.tap with ir := Tap.highz }) ∧
      (∀ d : Die, exec (.wrapSel d) s = .next (tap { s.test.tap with ir := Tap.wrapSel, die := d })) ∧
      (∀ n, ∃ t, exec (.wirAccess n) s = .next t ∧ KMap.get (fun _ => 0) t.test.tap.wir s.test.tap.die = n ∧
        (∀ d, d ≠ s.test.tap.die → t.test.tap.wir.find d = s.test.tap.wir.find d) ∧
        t.test.tap = { s.test.tap with ir := Tap.wirAccess, wir := t.test.tap.wir } ∧ { t with test := { t.test with tap := s.test.tap } } = s) ∧
      (∀ n, ∃ t, exec (.wdrAccess n) s = .next t ∧ KMap.get (fun _ => 0) t.test.tap.wdr s.test.tap.die = n ∧
        (∀ d, d ≠ s.test.tap.die → t.test.tap.wdr.find d = s.test.tap.wdr.find d) ∧
        t.test.tap = { s.test.tap with ir := Tap.wdrAccess, wdr := t.test.tap.wdr } ∧ { t with test := { t.test with tap := s.test.tap } } = s) ∧
      (exec .wsBypass s = exec (.wirAccess Wrapper.bypass) s ∧ exec .wsExtest s = exec (.wirAccess Wrapper.extest) s ∧
        exec .wsIntest s = exec (.wirAccess Wrapper.intest) s)) ∧
    (s.pins.resetN = true → s.up = true → (∀ n, refused (.extest n) ∧ refused (.extestPulse n) ∧ refused (.extestTrain n) ∧ refused (.wirAccess n) ∧
      refused (.wdrAccess n)) ∧ refused .clamp ∧ refused .highz ∧ (∀ d, refused (.wrapSel d)) ∧ refused .wsBypass ∧ refused .wsExtest ∧ refused .wsIntest) ∧
    (s.pins.pwrgood = true → clockRuns s = true → s.up = true →
      (∀ (a : CfgAddr) v r i, rowAt a = some (r, i) → r.rc = 0 → r.sh = false → a.val ≠ EVT_LOG_W 0 → a.val ≠ SNAP_RD_DATA →
        exec (.cfgAccess false a v) s = .next { tap { s.test.tap with ir := Tap.cfgAccess, data := shown s a, ok := true } with out := ⟨shown s a, []⟩ }) ∧
      (∀ v, ∃ t, exec (.cfgAccess true (Fin.ofNat _ GLB_LOCK) v) s = .next t ∧ t.reg GLB_LOCK = s.reg GLB_LOCK ||| (v &&& 0xFFFF) ∧
        t.test.tap = { s.test.tap with ir := Tap.cfgAccess, data := v, ok := true } ∧ SameRegs [GLB_LOCK] s t))

/-- From every state a crossing boundary answers a next state, in which the model's own count of crossings is one higher, the waiting
commands are the same and the antifuse array has only grown. While the device is off or held, with nothing armed, due or asked for and
nothing on any link or in any mailbox, nothing but that count changes. The count is the model's (log entry 4). (01_architecture.md Crossings,
command clock and period phase; 01_architecture.md) -/
def Obligations.CrossingBoundaryAdvancesTheModel : Prop :=
  (∀ s : State, ∃ t, exec .crossingBoundary s = .next t ∧ t.ticks = s.ticks + 1 ∧ t.pending = s.pending ∧ OtpGrows s.otp t.otp) ∧
  (∀ s : State, s.start.phase ≠ .running → s.start.phase ≠ .ended → s.start.phase ≠ .anchoring → s.asks = [] → s.commit.hwDue = [] → s.commit.armed = none → s.links = [] →
    s.purser.boxes = [] → (∀ m : Fin 8, boxState s m = BoxState.idle) → exec .crossingBoundary s = .next { s with ticks := s.ticks + 1 })

/-- The advance made at every crossing boundary while the command clock runs adds one to CROSS_CNT modulo 2^48 and one to the period phase,
which returns to 0 after 47. Each new value depends on its own old value alone, and no other register moves. (01_architecture.md Crossings,
command clock and period phase; 00_scope.md) -/
def Obligations.CrossingAndPhaseAdvanceByOne : Prop :=
  ∀ s : State, s.phase < 48 → (advance s).cross = (s.cross + 1) % 2 ^ 48 ∧ (advance s).phase = (if s.phase = 47 then 0 else s.phase + 1) ∧
    SameRegs [CROSS_CNT_LO, CROSS_CNT_HI, GLB_PERIOD_PHASE] s (advance s) ∧ { advance s with regs := s.regs } = s

/-- With one event raised in the crossing that ended, the log not full and no snapshot trigger enabled, aggregation sets the event's bit in
EVT_PEND and no other, adds its occurrences to its count, saturating, writes its record at the head of the log and advances the head, holds
one record more, and leaves nothing raised. With nothing raised it only shows the state of ALERT_N. (17_purser_events_snapshot.md Events and
aggregation; 17_purser_events_snapshot.md) -/
def Obligations.EventsAreAggregatedAtTheBoundary : Prop :=
  ∀ (s : State) (cross : Nat), (∀ k : Fin 4, s.get (SNAP_TRIG_enable k) = 0) →
    (∀ (e : Fin 384) (r : Raised), s.events.raised = [(e.val, r)] → 0 < r.count → s.events.held < 4096 → s.reg EVT_CTRL = 0 →
      let t := aggregate cross s
      (∀ k : Fin 384, natBit (t.reg (EVT_PEND (k / 32))).toNat (k % 32) = (natBit (s.reg (EVT_PEND (k / 32))).toNat (k % 32) || k == e)) ∧
      KMap.get (fun _ => 0) t.events.counts e = satAdd 0xFFFFFFFF (KMap.get (fun _ => 0) s.events.counts e) r.count ∧
      (∀ k, k ≠ e.val → KMap.get (fun _ => 0) t.events.counts k = KMap.get (fun _ => 0) s.events.counts k) ∧
      logRecord t (s.get EVT_LOG_HEAD_index) = eventRecord e r.count cross r.info ∧ t.get EVT_LOG_HEAD_index = (s.get EVT_LOG_HEAD_index + 1) % 4096 ∧
      t.events.held = s.events.held + 1 ∧ t.events.raised = [] ∧ SameRegs [EVT_PEND (e / 32), EVT_LOG_HEAD, EVT_STATUS] s t) ∧
    (s.events.raised = [] → aggregate cross s = s.putFlag EVT_STATUS_alert (firstPending s != 0x1FF))

/-- For every command and every state there is a next state. What each command does in its own conditions is said by the statements about its
family; outside them the spec gives an effect too, which may be none. (00_scope.md; 95_what_each_step_holds.md) -/
def Obligations.EveryCommandIsTaken : Prop :=
  ∀ (c : Instr) (s : State), ∃ t, exec c s = .next t

/-- For every command and state, a step of the state with that command at the front of its queue is that command's effect on the state with
the rest of the queue. A step of a state whose queue is empty answers that state: the model's choice (log entry 1). (00_scope.md;
95_what_each_step_holds.md) -/
def Obligations.StepRunsTheFrontCommand : Prop :=
  ∀ (c : Instr) (rest : List Instr) (s : State), step { s with pending := c :: rest } = exec c { s with pending := rest } ∧
    step { s with pending := [] } = .next { s with pending := [] }

/-- From every state whose tables of registers, core-die bytes, lanes, ports, towpaths, links, fabric ports, half-channels and activity have
rising keys and list nothing equal to what an unlisted key reads as, whatever command waits, a step leads to a state of the same form.
(00_scope.md; 11_dram_stack.md; 18_registers_and_otp.md Configuration space; 18_registers_and_otp.md) -/
def Obligations.EveryStepKeepsTheTablesCanonical : Prop :=
  ∀ s t : State, Canonical s → step s = .next t → Canonical t

/-- Across every step, whatever the command and whatever reset it brings, a region that was sealed stays sealed, a spare row that was taken
stays taken, and the passes counted are at least as many as before. Blown bits read 1 for good. (18_registers_and_otp.md The OTP array;
18_registers_and_otp.md) -/
def Obligations.FusesOnlyGrow : Prop :=
  ∀ s t : State, step s = .next t → OtpGrows s.otp t.otp

/-- Across every step the queue loses its front command and nothing else, no command adds or drops a waiting one, and the model's count of
crossings moves by one at a crossing boundary and by nothing at any other command (log entry 4). On an empty queue neither changes.
(01_architecture.md Crossings, command clock and period phase; 01_architecture.md) -/
def Obligations.StepsTakeOneCommandAndOnlyBoundariesTakeTime : Prop :=
  ∀ s t : State, step s = .next t → t.pending = s.pending.tail ∧
    t.ticks = s.ticks + (if s.pending.head? = some .crossingBoundary then 1 else 0)

/-- At power-on every table has its canonical form, no byte of the core dies is listed, no register differs from its reset value, no command
waits, PWR_MODE shows START as its reset value says, and the count of crossings is 0. (03_start_and_reset.md; 18_registers_and_otp.md) -/
def Obligations.ResetStateIsCanonical : Prop :=
  Canonical State.reset ∧ State.reset.dram.mem = [] ∧ State.reset.regs = [] ∧ State.reset.pending = [] ∧ State.reset.mode = Mode.start ∧ State.reset.ticks = 0

/-- For every default, two tables in canonical form that read alike at every key are equal, so that equal readings are equal data; and a
write keeps the canonical form, reads back at its key and leaves every other key as it reads. (00_scope.md) -/
def Obligations.CanonicalTablesThatReadAlikeAreEqual : Prop :=
  ∀ (d : Nat → Word) (m n : KMap Word), KMap.wf d m = true →
    (KMap.wf d n = true → (∀ k, KMap.get d m k = KMap.get d n k) → m = n) ∧
    (∀ k v, KMap.wf d (KMap.put d m k v) = true ∧ KMap.get d (KMap.put d m k v) k = v ∧
      ∀ j, j ≠ k → KMap.get d (KMap.put d m k v) j = KMap.get d m j)

/-- For every header whose fields fit: it takes 16 bytes, each field lies at the bits its row of the table gives, reserved bits are 0, and
reading the bytes back gives the header. (07_uzoset_link.md Transactions; 07_uzoset_link.md) -/
def Obligations.TransactionHeadersAreLaidOut : Prop :=
  ∀ h : Header, h.fits = true →
    let n := packHeader h
    (headerBytes h).length = 16 ∧ ofBytesBE (headerBytes h) = n ∧ unpackHeader n = h ∧ n < 2 ^ 128 ∧
    n / 2 ^ 122 = h.opcode ∧ n / 2 ^ 116 % 2 ^ 6 = h.fc ∧ natBit n 115 = h.panic ∧ n / 2 ^ 103 % 2 ^ 12 = h.tag ∧ n / 2 ^ 97 % 2 ^ 6 = h.src ∧
    n / 2 ^ 91 % 2 ^ 6 = h.dst ∧ natBit n 90 = h.vn ∧ natBit n 89 = h.posted ∧ natBit n 88 = h.fence ∧ n / 2 ^ 52 % 2 ^ 36 = h.addr ∧
    n / 2 ^ 41 % 2 ^ 11 = h.len ∧ n / 2 ^ 30 % 2 ^ 11 = h.rlen ∧ n / 2 ^ 24 % 2 ^ 6 = 0 ∧ n % 2 ^ 24 = h.aux

/-- For every transaction whose header fields fit and whose payload has the length its header says, framing its slots, with the start bit at
the first, from a receiver that holds no part of a transaction and has met no filler gives the transactions framed before with this one at
the end, and nothing left open. (07_uzoset_link.md Transactions; 07_uzoset_link.md) -/
def Obligations.FramedTransactionsComeBackWhole : Prop :=
  ∀ (t : Txn) (done : List Txn), txnOk t.hdr t.data = true →
    (txnSlots t).foldl (fun f x => frameSlot f x.1 x.2) ⟨[], done, false, true⟩ = ⟨[], done ++ [t], false, true⟩ ∧
    (txnSlots t).length = slotCount t.hdr.len ∧ (∀ x ∈ txnSlots t, x.2.length = 16)

/-- For every payload length of 1 to 64 bytes, sequence number and tag, the frame header the device builds passes the header check and holds
each of them at its bits; no header of length 0 or above 64 passes. (06_towpath.md Frames; 06_towpath.md) -/
def Obligations.TowpathHeadersCheckAndReadBack : Prop :=
  (∀ length seq tag : Nat, 1 ≤ length → length ≤ 64 → seq < 16 → tag < 4096 →
    let w := frameHeader length seq tag
    headerOk w = true ∧ w.bits 31 25 = length ∧ w.bits 24 21 = seq ∧ w.bits 20 9 = tag) ∧
  (∀ w : Word, headerOk w = true → 1 ≤ w.bits 31 25 ∧ w.bits 31 25 ≤ 64 ∧ w.bits 7 0 = crc8 (numBits 24 (w.bits 31 8)))

/-- For words of a region that parse without a torn tail and end where the parse says, followed by the words of a new record of 1 to 1,534
data words and by blank words: the parse finds the records it found before and then the new one, with its first word and length, no torn
tail, and the append point behind its marker. (18_registers_and_otp.md Records and completion words; 18_registers_and_otp.md) -/
def Obligations.AppendedRecordsParseBack : Prop :=
  ∀ (r pass : Nat) (old data : List Word) (blank : Nat), (parseWords r old).torn = 0 → (parseWords r old).length = old.length →
    1 ≤ data.length → data.length ≤ 1534 →
    parseWords r (old ++ recordWords r pass data ++ List.replicate blank 0) =
      ⟨(parseWords r old).records ++ [(old.length, data.length)], 0, old.length + data.length + 2⟩

/-- For every event, count of occurrences, crossing and info that fit, the record is below 2^128 with the event in bits 127:119, the
saturation flag in bit 118, zeros in bits 117:112, the count in bits 111:96, the crossing in bits 95:48 and the info in bits 47:0; EVT
notices carry the same 16 bytes. (R479) -/
def Obligations.LogRecordsAreLaidOut : Prop :=
  (∀ e count cross info : Nat, e < 384 → cross < 2 ^ 48 → info < 2 ^ 48 →
    let w := eventRecord e count cross info
    w < 2 ^ 128 ∧ w / 2 ^ 119 = e ∧ natBit w 118 = decide (0xFFFF ≤ count) ∧ w / 2 ^ 112 % 2 ^ 6 = 0 ∧ w / 2 ^ 96 % 2 ^ 16 = min 0xFFFF count ∧
    w / 2 ^ 48 % 2 ^ 48 = cross ∧ w % 2 ^ 48 = info) ∧
  (∀ (s : State) (cross p : Nat) (e : Nat) (r : Raised), natBit (s.reg (EVT_NTF_EN (e / 32))).toNat (e % 32) = true → s.get EVT_CTRL_ntf_ports = 2 ^ p → p < 16 →
    sendEvents cross [(e, r)] s = pushNotice p 0x30 (bytesBE 16 (eventRecord e r.count cross r.info)) s)

/-- For every source, at an address where no register is defined: a read returns 0 and changes nothing, a write changes nothing and no lock
refuses it, so that it completes with OK; neither raises an event. Accesses in band, by mailbox and by JTAG all go through these two
operations; an access in band to such an address is answered with status OK. (R492) -/
def Obligations.UndefinedAddressesReadZeroAndIgnoreWrites : Prop :=
  ∀ (s : State) (src a : Nat) (v : Word), rowAt a = none → cfgRead src a s = (0, s) ∧ cfgWrite src a v s = (false, s) ∧
    (∀ (p : Nat) (e : Entry), e.txn.hdr.addr = a →
      (e.txn.hdr.rlen = 4 → cfgRdRun p e s = answer p e 0 0 [0, 0, 0, 0] s) ∧ (e.txn.hdr.len = 4 → cfgWrRun p e s = answer p e 0 0 [] s))

/-- For every MW register and every written value, with the logic up: bit i of bits 15:0 takes the written bit where bit 16 + i of the value
is 1 and stays where it is 0, and bits 31:16 of the register read 0 to every source, before and after. (R495) -/
def Obligations.MaskedWritesChangeSelectedBits : Prop :=
  ∀ (s : State) (src : Source) (a : CfgAddr) (r : RegRow) (i : Nat) (v : Word), rowAt a = some (r, i) → r.kind = .masked → s.up = true →
    (∃ t, exec (.registerWrite src a v) s = .next t ∧ exec (.swFlagsWrite src v) s = .next t ∧
      (∀ k : Fin 16, ((cfgRead src a t).1).getLsbD k = if v.getLsbD (16 + k) then v.getLsbD k else ((cfgRead src a s).1).getLsbD k) ∧
      SameRegs [a.val] s t ∧ { t with regs := s.regs } = s) ∧
    (∀ k : Fin 16, ((cfgRead src a s).1).getLsbD (16 + k) = false)

/-- For every register with staged fields, while it is writable and the value lies in the register's range: a write stores the written bits
of the staged fields in their shadows, leaves the live bits as they are, and a read returns the live bits. (R12) -/
def Obligations.StagedFieldsGoToTheirShadows : Prop :=
  ∀ (s : State) (src : Source) (a : CfgAddr) (r : RegRow) (i : Nat) (v : Word),
    rowAt a = some (r, i) → r.kind = .plain → r.staged ≠ 0 → writable s a = true → (a.val = LANE_LEDGER_ALLOW → allowInRange v = true) →
    (a.val = PWR_CEILING → 90000 ≤ v.bits 17 0 ∧ v.bits 17 0 ≤ 150000) →
    ∃ t, exec (.stagedFieldWrite src a v) s = .next t ∧ ∀ k : Fin 32, natBit r.staged k = true →
      (nextWord t a).getLsbD k = v.getLsbD k ∧ (t.reg a).getLsbD k = (s.reg a).getLsbD k ∧
      ((cfgRead src a t).1).getLsbD k = (s.reg a).getLsbD k
end

