-- ==== Sys2Proof/Laws/KMap.lean ====
section
/-!
SUPPORT. Laws/KMap.lean: what reading a sparse table after writing it gives, and that writing keeps its canonical form.
-/
set_option autoImplicit false

namespace Sys2Proof.Machine.KMap
variable {α : Type}

@[simp] theorem find_nil (k : Nat) : find ([] : KMap α) k = none := rfl

theorem find_ins_same (m : KMap α) (k : Nat) (v : α) : (ins m k v).find k = some v := by
  induction m with
  | nil => simp [ins, find]
  | cons p t ih =>
    unfold ins
    split
    · simp [find]
    · split
      · simp [find]
      · rename_i h1 h2
        have : p.1 ≠ k := fun h => h2 h.symm
        simp [find, this, ih]

theorem find_ins_ne (m : KMap α) (k j : Nat) (v : α) (h : j ≠ k) : (ins m k v).find j = m.find j := by
  induction m with
  | nil => simp [ins, find, Ne.symm h]
  | cons p t ih =>
    unfold ins
    split
    · simp [find, Ne.symm h]
    · split
      · rename_i h2
        have : p.1 ≠ j := by rw [← h2]; exact Ne.symm h
        simp [find, Ne.symm h, this]
      · simp only [find, ih]

theorem find_erase_same (m : KMap α) (k : Nat) : (erase m k).find k = none := by
  induction m with
  | nil => rfl
  | cons p t ih =>
    unfold erase
    split
    · exact ih
    · rename_i h
      simp [find, h, ih]

theorem find_erase_ne (m : KMap α) (k j : Nat) (h : j ≠ k) : (erase m k).find j = m.find j := by
  induction m with
  | nil => rfl
  | cons p t ih =>
    unfold erase
    split
    · rename_i h2
      have : p.1 ≠ j := by rw [h2]; exact Ne.symm h
      simp [find, this, ih]
    · simp only [find, ih]

@[simp] theorem get_put_same [DecidableEq α] (d : Nat → α) (m : KMap α) (k : Nat) (v : α) :
    get d (put d m k v) k = v := by
  unfold put get
  by_cases hv : v = d k
  · rw [if_pos hv, find_erase_same]; exact hv.symm
  · rw [if_neg hv, find_ins_same]

theorem get_put_ne [DecidableEq α] (d : Nat → α) (m : KMap α) (k j : Nat) (v : α) (h : j ≠ k) :
    get d (put d m k v) j = get d m j := by
  unfold put get
  by_cases hv : v = d k
  · rw [if_pos hv, find_erase_ne m k j h]
  · rw [if_neg hv, find_ins_ne m k j v h]

/-- Reading after writing, at any key. -/
theorem get_put [DecidableEq α] (d : Nat → α) (m : KMap α) (k j : Nat) (v : α) :
    get d (put d m k v) j = if j = k then v else get d m j := by
  split
  · rename_i h; subst h; exact get_put_same d m j v
  · rename_i h; exact get_put_ne d m k j v h

theorem sorted_cons (p : Nat × α) (t : KMap α) :
    sorted (p :: t) = true ↔ (∀ q ∈ t.head?, p.1 < q.1) ∧ sorted t = true := by
  cases t <;> simp [sorted]

theorem lt_of_sorted (p : Nat × α) (t : KMap α) (h : sorted (p :: t) = true) : ∀ q ∈ t, p.1 < q.1 := by
  induction t generalizing p with
  | nil => simp
  | cons a t ih =>
    intro q hq
    rw [sorted_cons] at h
    have h1 : p.1 < a.1 := h.1 a (by simp)
    rcases List.mem_cons.1 hq with rfl | hq
    · exact h1
    · exact Nat.lt_trans h1 (ih a h.2 q hq)

theorem sorted_of_lt (p : Nat × α) (t : KMap α) (h : ∀ q ∈ t, p.1 < q.1) (ht : sorted t = true) :
    sorted (p :: t) = true := by
  rw [sorted_cons]
  refine ⟨?_, ht⟩
  intro q hq
  exact h q (List.mem_of_head? hq)

theorem sorted_tail (p : Nat × α) (t : KMap α) (h : sorted (p :: t) = true) : sorted t = true := ((sorted_cons p t).1 h).2

theorem mem_erase (m : KMap α) (k : Nat) (q : Nat × α) (h : q ∈ erase m k) : q ∈ m := by
  induction m with
  | nil => simp [erase] at h
  | cons p t ih =>
    unfold erase at h
    split at h
    · exact List.mem_cons_of_mem _ (ih h)
    · rcases List.mem_cons.1 h with rfl | h
      · simp
      · exact List.mem_cons_of_mem _ (ih h)

theorem mem_ins (m : KMap α) (k : Nat) (v : α) (q : Nat × α) (h : q ∈ ins m k v) : q = (k, v) ∨ q ∈ m := by
  induction m with
  | nil => simp [ins] at h; exact Or.inl h
  | cons p t ih =>
    unfold ins at h
    split at h
    · rcases List.mem_cons.1 h with rfl | h
      · simp
      · exact Or.inr h
    · split at h
      · rcases List.mem_cons.1 h with rfl | h
        · simp
        · exact Or.inr (List.mem_cons_of_mem _ h)
      · rcases List.mem_cons.1 h with rfl | h
        · simp
        · rcases ih h with h | h
          · exact Or.inl h
          · exact Or.inr (List.mem_cons_of_mem _ h)

theorem sorted_erase (m : KMap α) (k : Nat) (h : sorted m = true) : sorted (erase m k) = true := by
  induction m with
  | nil => rfl
  | cons p t ih =>
    have ht := sorted_tail p t h
    unfold erase
    split
    · exact ih ht
    · exact sorted_of_lt _ _ (fun q hq => lt_of_sorted p t h q (mem_erase t k q hq)) (ih ht)

theorem sorted_ins (m : KMap α) (k : Nat) (v : α) (h : sorted m = true) : sorted (ins m k v) = true := by
  induction m with
  | nil => rfl
  | cons p t ih =>
    have ht := sorted_tail p t h
    unfold ins
    split
    · rename_i hk
      refine sorted_of_lt _ _ ?_ h
      intro q hq
      rcases List.mem_cons.1 hq with rfl | hq
      · exact hk
      · exact Nat.lt_trans hk (lt_of_sorted p t h q hq)
    · split
      · rename_i hk
        refine sorted_of_lt _ _ ?_ ht
        intro q hq
        have := lt_of_sorted p t h q hq
        simp only; omega
      · refine sorted_of_lt _ _ ?_ (ih ht)
        intro q hq
        rcases mem_ins t k v q hq with rfl | hq
        · simp only; omega
        · exact lt_of_sorted p t h q hq

/-- Writing a table with a default keeps the canonical form. -/
theorem wf_put [DecidableEq α] (d : Nat → α) (m : KMap α) (k : Nat) (v : α) (h : wf d m = true) :
    wf d (put d m k v) = true := by
  unfold wf at *
  rw [Bool.and_eq_true] at h ⊢
  unfold put
  split
  · refine ⟨sorted_erase m k h.1, ?_⟩
    rw [List.all_eq_true] at *
    exact fun q hq => h.2 q (mem_erase m k q hq)
  · rename_i hv
    refine ⟨sorted_ins m k v h.1, ?_⟩
    have h2 := h.2
    rw [List.all_eq_true] at *
    intro q hq
    rcases mem_ins m k v q hq with rfl | hq
    · simpa using hv
    · exact h2 q hq

@[simp] theorem wf_nil [DecidableEq α] (d : Nat → α) : wf d ([] : KMap α) = true := rfl

end Sys2Proof.Machine.KMap
end

