-- ==== Sys2Proof/Laws/State.lean ====
section
/-!
SUPPORT. Laws/State.lean: what each named update of State leaves alone, one lemma for each field.
-/
set_option autoImplicit false

namespace Sys2Proof.Machine.State
variable (s : State)

@[simp] theorem setReg_pending (a : Nat) (v : Word) : (s.setReg a v).pending = s.pending := rfl
@[simp] theorem setReg_free (a : Nat) (v : Word) : (s.setReg a v).free = s.free := rfl
@[simp] theorem setReg_out (a : Nat) (v : Word) : (s.setReg a v).out = s.out := rfl
@[simp] theorem setReg_ticks (a : Nat) (v : Word) : (s.setReg a v).ticks = s.ticks := rfl
@[simp] theorem setReg_staged (a : Nat) (v : Word) : (s.setReg a v).staged = s.staged := rfl
@[simp] theorem setReg_shadows (a : Nat) (v : Word) : (s.setReg a v).shadows = s.shadows := rfl
@[simp] theorem setReg_pairs (a : Nat) (v : Word) : (s.setReg a v).pairs = s.pairs := rfl
@[simp] theorem setReg_clears (a : Nat) (v : Word) : (s.setReg a v).clears = s.clears := rfl
@[simp] theorem setReg_late (a : Nat) (v : Word) : (s.setReg a v).late = s.late := rfl
@[simp] theorem setReg_commit (a : Nat) (v : Word) : (s.setReg a v).commit = s.commit := rfl
@[simp] theorem setReg_pins (a : Nat) (v : Word) : (s.setReg a v).pins = s.pins := rfl
@[simp] theorem setReg_always (a : Nat) (v : Word) : (s.setReg a v).always = s.always := rfl
@[simp] theorem setReg_start (a : Nat) (v : Word) : (s.setReg a v).start = s.start := rfl
@[simp] theorem setReg_modes (a : Nat) (v : Word) : (s.setReg a v).modes = s.modes := rfl
@[simp] theorem setReg_events (a : Nat) (v : Word) : (s.setReg a v).events = s.events := rfl
@[simp] theorem setReg_snap (a : Nat) (v : Word) : (s.setReg a v).snap = s.snap := rfl
@[simp] theorem setReg_lanes (a : Nat) (v : Word) : (s.setReg a v).lanes = s.lanes := rfl
@[simp] theorem setReg_asks (a : Nat) (v : Word) : (s.setReg a v).asks = s.asks := rfl
@[simp] theorem setReg_granted (a : Nat) (v : Word) : (s.setReg a v).granted = s.granted := rfl
@[simp] theorem setReg_chargeDue (a : Nat) (v : Word) : (s.setReg a v).chargeDue = s.chargeDue := rfl
@[simp] theorem setReg_ports (a : Nat) (v : Word) : (s.setReg a v).ports = s.ports := rfl
@[simp] theorem setReg_tows (a : Nat) (v : Word) : (s.setReg a v).tows = s.tows := rfl
@[simp] theorem setReg_links (a : Nat) (v : Word) : (s.setReg a v).links = s.links := rfl
@[simp] theorem setReg_fab (a : Nat) (v : Word) : (s.setReg a v).fab = s.fab := rfl
@[simp] theorem setReg_nextUid (a : Nat) (v : Word) : (s.setReg a v).nextUid = s.nextUid := rfl
@[simp] theorem setReg_svc (a : Nat) (v : Word) : (s.setReg a v).svc = s.svc := rfl
@[simp] theorem setReg_landing (a : Nat) (v : Word) : (s.setReg a v).landing = s.landing := rfl
@[simp] theorem setReg_hcs (a : Nat) (v : Word) : (s.setReg a v).hcs = s.hcs := rfl
@[simp] theorem setReg_dram (a : Nat) (v : Word) : (s.setReg a v).dram = s.dram := rfl
@[simp] theorem setReg_tt (a : Nat) (v : Word) : (s.setReg a v).tt = s.tt := rfl
@[simp] theorem setReg_ledger (a : Nat) (v : Word) : (s.setReg a v).ledger = s.ledger := rfl
@[simp] theorem setReg_therm (a : Nat) (v : Word) : (s.setReg a v).therm = s.therm := rfl
@[simp] theorem setReg_activity (a : Nat) (v : Word) : (s.setReg a v).activity = s.activity := rfl
@[simp] theorem setReg_otp (a : Nat) (v : Word) : (s.setReg a v).otp = s.otp := rfl
@[simp] theorem setReg_purser (a : Nat) (v : Word) : (s.setReg a v).purser = s.purser := rfl
@[simp] theorem setReg_test (a : Nat) (v : Word) : (s.setReg a v).test = s.test := rfl

@[simp] theorem put_pending (f : Field) (v : Nat) : (s.put f v).pending = s.pending := rfl
@[simp] theorem put_free (f : Field) (v : Nat) : (s.put f v).free = s.free := rfl
@[simp] theorem put_out (f : Field) (v : Nat) : (s.put f v).out = s.out := rfl
@[simp] theorem put_ticks (f : Field) (v : Nat) : (s.put f v).ticks = s.ticks := rfl
@[simp] theorem put_staged (f : Field) (v : Nat) : (s.put f v).staged = s.staged := rfl
@[simp] theorem put_shadows (f : Field) (v : Nat) : (s.put f v).shadows = s.shadows := rfl
@[simp] theorem put_pairs (f : Field) (v : Nat) : (s.put f v).pairs = s.pairs := rfl
@[simp] theorem put_clears (f : Field) (v : Nat) : (s.put f v).clears = s.clears := rfl
@[simp] theorem put_late (f : Field) (v : Nat) : (s.put f v).late = s.late := rfl
@[simp] theorem put_commit (f : Field) (v : Nat) : (s.put f v).commit = s.commit := rfl
@[simp] theorem put_pins (f : Field) (v : Nat) : (s.put f v).pins = s.pins := rfl
@[simp] theorem put_always (f : Field) (v : Nat) : (s.put f v).always = s.always := rfl
@[simp] theorem put_start (f : Field) (v : Nat) : (s.put f v).start = s.start := rfl
@[simp] theorem put_modes (f : Field) (v : Nat) : (s.put f v).modes = s.modes := rfl
@[simp] theorem put_events (f : Field) (v : Nat) : (s.put f v).events = s.events := rfl
@[simp] theorem put_snap (f : Field) (v : Nat) : (s.put f v).snap = s.snap := rfl
@[simp] theorem put_lanes (f : Field) (v : Nat) : (s.put f v).lanes = s.lanes := rfl
@[simp] theorem put_asks (f : Field) (v : Nat) : (s.put f v).asks = s.asks := rfl
@[simp] theorem put_granted (f : Field) (v : Nat) : (s.put f v).granted = s.granted := rfl
@[simp] theorem put_chargeDue (f : Field) (v : Nat) : (s.put f v).chargeDue = s.chargeDue := rfl
@[simp] theorem put_ports (f : Field) (v : Nat) : (s.put f v).ports = s.ports := rfl
@[simp] theorem put_tows (f : Field) (v : Nat) : (s.put f v).tows = s.tows := rfl
@[simp] theorem put_links (f : Field) (v : Nat) : (s.put f v).links = s.links := rfl
@[simp] theorem put_fab (f : Field) (v : Nat) : (s.put f v).fab = s.fab := rfl
@[simp] theorem put_nextUid (f : Field) (v : Nat) : (s.put f v).nextUid = s.nextUid := rfl
@[simp] theorem put_svc (f : Field) (v : Nat) : (s.put f v).svc = s.svc := rfl
@[simp] theorem put_landing (f : Field) (v : Nat) : (s.put f v).landing = s.landing := rfl
@[simp] theorem put_hcs (f : Field) (v : Nat) : (s.put f v).hcs = s.hcs := rfl
@[simp] theorem put_dram (f : Field) (v : Nat) : (s.put f v).dram = s.dram := rfl
@[simp] theorem put_tt (f : Field) (v : Nat) : (s.put f v).tt = s.tt := rfl
@[simp] theorem put_ledger (f : Field) (v : Nat) : (s.put f v).ledger = s.ledger := rfl
@[simp] theorem put_therm (f : Field) (v : Nat) : (s.put f v).therm = s.therm := rfl
@[simp] theorem put_activity (f : Field) (v : Nat) : (s.put f v).activity = s.activity := rfl
@[simp] theorem put_otp (f : Field) (v : Nat) : (s.put f v).otp = s.otp := rfl
@[simp] theorem put_purser (f : Field) (v : Nat) : (s.put f v).purser = s.purser := rfl
@[simp] theorem put_test (f : Field) (v : Nat) : (s.put f v).test = s.test := rfl

@[simp] theorem putFlag_pending (f : Field) (b : Bool) : (s.putFlag f b).pending = s.pending := rfl
@[simp] theorem putFlag_free (f : Field) (b : Bool) : (s.putFlag f b).free = s.free := rfl
@[simp] theorem putFlag_out (f : Field) (b : Bool) : (s.putFlag f b).out = s.out := rfl
@[simp] theorem putFlag_ticks (f : Field) (b : Bool) : (s.putFlag f b).ticks = s.ticks := rfl
@[simp] theorem putFlag_staged (f : Field) (b : Bool) : (s.putFlag f b).staged = s.staged := rfl
@[simp] theorem putFlag_shadows (f : Field) (b : Bool) : (s.putFlag f b).shadows = s.shadows := rfl
@[simp] theorem putFlag_pairs (f : Field) (b : Bool) : (s.putFlag f b).pairs = s.pairs := rfl
@[simp] theorem putFlag_clears (f : Field) (b : Bool) : (s.putFlag f b).clears = s.clears := rfl
@[simp] theorem putFlag_late (f : Field) (b : Bool) : (s.putFlag f b).late = s.late := rfl
@[simp] theorem putFlag_commit (f : Field) (b : Bool) : (s.putFlag f b).commit = s.commit := rfl
@[simp] theorem putFlag_pins (f : Field) (b : Bool) : (s.putFlag f b).pins = s.pins := rfl
@[simp] theorem putFlag_always (f : Field) (b : Bool) : (s.putFlag f b).always = s.always := rfl
@[simp] theorem putFlag_start (f : Field) (b : Bool) : (s.putFlag f b).start = s.start := rfl
@[simp] theorem putFlag_modes (f : Field) (b : Bool) : (s.putFlag f b).modes = s.modes := rfl
@[simp] theorem putFlag_events (f : Field) (b : Bool) : (s.putFlag f b).events = s.events := rfl
@[simp] theorem putFlag_snap (f : Field) (b : Bool) : (s.putFlag f b).snap = s.snap := rfl
@[simp] theorem putFlag_lanes (f : Field) (b : Bool) : (s.putFlag f b).lanes = s.lanes := rfl
@[simp] theorem putFlag_asks (f : Field) (b : Bool) : (s.putFlag f b).asks = s.asks := rfl
@[simp] theorem putFlag_granted (f : Field) (b : Bool) : (s.putFlag f b).granted = s.granted := rfl
@[simp] theorem putFlag_chargeDue (f : Field) (b : Bool) : (s.putFlag f b).chargeDue = s.chargeDue := rfl
@[simp] theorem putFlag_ports (f : Field) (b : Bool) : (s.putFlag f b).ports = s.ports := rfl
@[simp] theorem putFlag_tows (f : Field) (b : Bool) : (s.putFlag f b).tows = s.tows := rfl
@[simp] theorem putFlag_links (f : Field) (b : Bool) : (s.putFlag f b).links = s.links := rfl
@[simp] theorem putFlag_fab (f : Field) (b : Bool) : (s.putFlag f b).fab = s.fab := rfl
@[simp] theorem putFlag_nextUid (f : Field) (b : Bool) : (s.putFlag f b).nextUid = s.nextUid := rfl
@[simp] theorem putFlag_svc (f : Field) (b : Bool) : (s.putFlag f b).svc = s.svc := rfl
@[simp] theorem putFlag_landing (f : Field) (b : Bool) : (s.putFlag f b).landing = s.landing := rfl
@[simp] theorem putFlag_hcs (f : Field) (b : Bool) : (s.putFlag f b).hcs = s.hcs := rfl
@[simp] theorem putFlag_dram (f : Field) (b : Bool) : (s.putFlag f b).dram = s.dram := rfl
@[simp] theorem putFlag_tt (f : Field) (b : Bool) : (s.putFlag f b).tt = s.tt := rfl
@[simp] theorem putFlag_ledger (f : Field) (b : Bool) : (s.putFlag f b).ledger = s.ledger := rfl
@[simp] theorem putFlag_therm (f : Field) (b : Bool) : (s.putFlag f b).therm = s.therm := rfl
@[simp] theorem putFlag_activity (f : Field) (b : Bool) : (s.putFlag f b).activity = s.activity := rfl
@[simp] theorem putFlag_otp (f : Field) (b : Bool) : (s.putFlag f b).otp = s.otp := rfl
@[simp] theorem putFlag_purser (f : Field) (b : Bool) : (s.putFlag f b).purser = s.purser := rfl
@[simp] theorem putFlag_test (f : Field) (b : Bool) : (s.putFlag f b).test = s.test := rfl

@[simp] theorem resetReg_pending (a : Nat) : (s.resetReg a).pending = s.pending := rfl
@[simp] theorem resetReg_free (a : Nat) : (s.resetReg a).free = s.free := rfl
@[simp] theorem resetReg_out (a : Nat) : (s.resetReg a).out = s.out := rfl
@[simp] theorem resetReg_ticks (a : Nat) : (s.resetReg a).ticks = s.ticks := rfl
@[simp] theorem resetReg_staged (a : Nat) : (s.resetReg a).staged = s.staged := rfl
@[simp] theorem resetReg_shadows (a : Nat) : (s.resetReg a).shadows = s.shadows := rfl
@[simp] theorem resetReg_pairs (a : Nat) : (s.resetReg a).pairs = s.pairs := rfl
@[simp] theorem resetReg_clears (a : Nat) : (s.resetReg a).clears = s.clears := rfl
@[simp] theorem resetReg_late (a : Nat) : (s.resetReg a).late = s.late := rfl
@[simp] theorem resetReg_commit (a : Nat) : (s.resetReg a).commit = s.commit := rfl
@[simp] theorem resetReg_pins (a : Nat) : (s.resetReg a).pins = s.pins := rfl
@[simp] theorem resetReg_always (a : Nat) : (s.resetReg a).always = s.always := rfl
@[simp] theorem resetReg_start (a : Nat) : (s.resetReg a).start = s.start := rfl
@[simp] theorem resetReg_modes (a : Nat) : (s.resetReg a).modes = s.modes := rfl
@[simp] theorem resetReg_events (a : Nat) : (s.resetReg a).events = s.events := rfl
@[simp] theorem resetReg_snap (a : Nat) : (s.resetReg a).snap = s.snap := rfl
@[simp] theorem resetReg_lanes (a : Nat) : (s.resetReg a).lanes = s.lanes := rfl
@[simp] theorem resetReg_asks (a : Nat) : (s.resetReg a).asks = s.asks := rfl
@[simp] theorem resetReg_granted (a : Nat) : (s.resetReg a).granted = s.granted := rfl
@[simp] theorem resetReg_chargeDue (a : Nat) : (s.resetReg a).chargeDue = s.chargeDue := rfl
@[simp] theorem resetReg_ports (a : Nat) : (s.resetReg a).ports = s.ports := rfl
@[simp] theorem resetReg_tows (a : Nat) : (s.resetReg a).tows = s.tows := rfl
@[simp] theorem resetReg_links (a : Nat) : (s.resetReg a).links = s.links := rfl
@[simp] theorem resetReg_fab (a : Nat) : (s.resetReg a).fab = s.fab := rfl
@[simp] theorem resetReg_nextUid (a : Nat) : (s.resetReg a).nextUid = s.nextUid := rfl
@[simp] theorem resetReg_svc (a : Nat) : (s.resetReg a).svc = s.svc := rfl
@[simp] theorem resetReg_landing (a : Nat) : (s.resetReg a).landing = s.landing := rfl
@[simp] theorem resetReg_hcs (a : Nat) : (s.resetReg a).hcs = s.hcs := rfl
@[simp] theorem resetReg_dram (a : Nat) : (s.resetReg a).dram = s.dram := rfl
@[simp] theorem resetReg_tt (a : Nat) : (s.resetReg a).tt = s.tt := rfl
@[simp] theorem resetReg_ledger (a : Nat) : (s.resetReg a).ledger = s.ledger := rfl
@[simp] theorem resetReg_therm (a : Nat) : (s.resetReg a).therm = s.therm := rfl
@[simp] theorem resetReg_activity (a : Nat) : (s.resetReg a).activity = s.activity := rfl
@[simp] theorem resetReg_otp (a : Nat) : (s.resetReg a).otp = s.otp := rfl
@[simp] theorem resetReg_purser (a : Nat) : (s.resetReg a).purser = s.purser := rfl
@[simp] theorem resetReg_test (a : Nat) : (s.resetReg a).test = s.test := rfl

@[simp] theorem drew_pending : (s.drew).pending = s.pending := rfl
@[simp] theorem drew_out : (s.drew).out = s.out := rfl
@[simp] theorem drew_ticks : (s.drew).ticks = s.ticks := rfl
@[simp] theorem drew_regs : (s.drew).regs = s.regs := rfl
@[simp] theorem drew_staged : (s.drew).staged = s.staged := rfl
@[simp] theorem drew_shadows : (s.drew).shadows = s.shadows := rfl
@[simp] theorem drew_pairs : (s.drew).pairs = s.pairs := rfl
@[simp] theorem drew_clears : (s.drew).clears = s.clears := rfl
@[simp] theorem drew_late : (s.drew).late = s.late := rfl
@[simp] theorem drew_commit : (s.drew).commit = s.commit := rfl
@[simp] theorem drew_pins : (s.drew).pins = s.pins := rfl
@[simp] theorem drew_always : (s.drew).always = s.always := rfl
@[simp] theorem drew_start : (s.drew).start = s.start := rfl
@[simp] theorem drew_modes : (s.drew).modes = s.modes := rfl
@[simp] theorem drew_events : (s.drew).events = s.events := rfl
@[simp] theorem drew_snap : (s.drew).snap = s.snap := rfl
@[simp] theorem drew_lanes : (s.drew).lanes = s.lanes := rfl
@[simp] theorem drew_asks : (s.drew).asks = s.asks := rfl
@[simp] theorem drew_granted : (s.drew).granted = s.granted := rfl
@[simp] theorem drew_chargeDue : (s.drew).chargeDue = s.chargeDue := rfl
@[simp] theorem drew_ports : (s.drew).ports = s.ports := rfl
@[simp] theorem drew_tows : (s.drew).tows = s.tows := rfl
@[simp] theorem drew_links : (s.drew).links = s.links := rfl
@[simp] theorem drew_fab : (s.drew).fab = s.fab := rfl
@[simp] theorem drew_nextUid : (s.drew).nextUid = s.nextUid := rfl
@[simp] theorem drew_svc : (s.drew).svc = s.svc := rfl
@[simp] theorem drew_landing : (s.drew).landing = s.landing := rfl
@[simp] theorem drew_hcs : (s.drew).hcs = s.hcs := rfl
@[simp] theorem drew_dram : (s.drew).dram = s.dram := rfl
@[simp] theorem drew_tt : (s.drew).tt = s.tt := rfl
@[simp] theorem drew_ledger : (s.drew).ledger = s.ledger := rfl
@[simp] theorem drew_therm : (s.drew).therm = s.therm := rfl
@[simp] theorem drew_activity : (s.drew).activity = s.activity := rfl
@[simp] theorem drew_otp : (s.drew).otp = s.otp := rfl
@[simp] theorem drew_purser : (s.drew).purser = s.purser := rfl
@[simp] theorem drew_test : (s.drew).test = s.test := rfl

@[simp] theorem setCross_pending (n : Nat) : (s.setCross n).pending = s.pending := rfl
@[simp] theorem setCross_free (n : Nat) : (s.setCross n).free = s.free := rfl
@[simp] theorem setCross_out (n : Nat) : (s.setCross n).out = s.out := rfl
@[simp] theorem setCross_ticks (n : Nat) : (s.setCross n).ticks = s.ticks := rfl
@[simp] theorem setCross_staged (n : Nat) : (s.setCross n).staged = s.staged := rfl
@[simp] theorem setCross_shadows (n : Nat) : (s.setCross n).shadows = s.shadows := rfl
@[simp] theorem setCross_pairs (n : Nat) : (s.setCross n).pairs = s.pairs := rfl
@[simp] theorem setCross_clears (n : Nat) : (s.setCross n).clears = s.clears := rfl
@[simp] theorem setCross_late (n : Nat) : (s.setCross n).late = s.late := rfl
@[simp] theorem setCross_commit (n : Nat) : (s.setCross n).commit = s.commit := rfl
@[simp] theorem setCross_pins (n : Nat) : (s.setCross n).pins = s.pins := rfl
@[simp] theorem setCross_always (n : Nat) : (s.setCross n).always = s.always := rfl
@[simp] theorem setCross_start (n : Nat) : (s.setCross n).start = s.start := rfl
@[simp] theorem setCross_modes (n : Nat) : (s.setCross n).modes = s.modes := rfl
@[simp] theorem setCross_events (n : Nat) : (s.setCross n).events = s.events := rfl
@[simp] theorem setCross_snap (n : Nat) : (s.setCross n).snap = s.snap := rfl
@[simp] theorem setCross_lanes (n : Nat) : (s.setCross n).lanes = s.lanes := rfl
@[simp] theorem setCross_asks (n : Nat) : (s.setCross n).asks = s.asks := rfl
@[simp] theorem setCross_granted (n : Nat) : (s.setCross n).granted = s.granted := rfl
@[simp] theorem setCross_chargeDue (n : Nat) : (s.setCross n).chargeDue = s.chargeDue := rfl
@[simp] theorem setCross_ports (n : Nat) : (s.setCross n).ports = s.ports := rfl
@[simp] theorem setCross_tows (n : Nat) : (s.setCross n).tows = s.tows := rfl
@[simp] theorem setCross_links (n : Nat) : (s.setCross n).links = s.links := rfl
@[simp] theorem setCross_fab (n : Nat) : (s.setCross n).fab = s.fab := rfl
@[simp] theorem setCross_nextUid (n : Nat) : (s.setCross n).nextUid = s.nextUid := rfl
@[simp] theorem setCross_svc (n : Nat) : (s.setCross n).svc = s.svc := rfl
@[simp] theorem setCross_landing (n : Nat) : (s.setCross n).landing = s.landing := rfl
@[simp] theorem setCross_hcs (n : Nat) : (s.setCross n).hcs = s.hcs := rfl
@[simp] theorem setCross_dram (n : Nat) : (s.setCross n).dram = s.dram := rfl
@[simp] theorem setCross_tt (n : Nat) : (s.setCross n).tt = s.tt := rfl
@[simp] theorem setCross_ledger (n : Nat) : (s.setCross n).ledger = s.ledger := rfl
@[simp] theorem setCross_therm (n : Nat) : (s.setCross n).therm = s.therm := rfl
@[simp] theorem setCross_activity (n : Nat) : (s.setCross n).activity = s.activity := rfl
@[simp] theorem setCross_otp (n : Nat) : (s.setCross n).otp = s.otp := rfl
@[simp] theorem setCross_purser (n : Nat) : (s.setCross n).purser = s.purser := rfl
@[simp] theorem setCross_test (n : Nat) : (s.setCross n).test = s.test := rfl

@[simp] theorem raiseEvent_pending (e i : Nat) : (s.raiseEvent e i).pending = s.pending := rfl
@[simp] theorem raiseEvent_free (e i : Nat) : (s.raiseEvent e i).free = s.free := rfl
@[simp] theorem raiseEvent_out (e i : Nat) : (s.raiseEvent e i).out = s.out := rfl
@[simp] theorem raiseEvent_ticks (e i : Nat) : (s.raiseEvent e i).ticks = s.ticks := rfl
@[simp] theorem raiseEvent_regs (e i : Nat) : (s.raiseEvent e i).regs = s.regs := rfl
@[simp] theorem raiseEvent_staged (e i : Nat) : (s.raiseEvent e i).staged = s.staged := rfl
@[simp] theorem raiseEvent_shadows (e i : Nat) : (s.raiseEvent e i).shadows = s.shadows := rfl
@[simp] theorem raiseEvent_pairs (e i : Nat) : (s.raiseEvent e i).pairs = s.pairs := rfl
@[simp] theorem raiseEvent_clears (e i : Nat) : (s.raiseEvent e i).clears = s.clears := rfl
@[simp] theorem raiseEvent_late (e i : Nat) : (s.raiseEvent e i).late = s.late := rfl
@[simp] theorem raiseEvent_commit (e i : Nat) : (s.raiseEvent e i).commit = s.commit := rfl
@[simp] theorem raiseEvent_pins (e i : Nat) : (s.raiseEvent e i).pins = s.pins := rfl
@[simp] theorem raiseEvent_always (e i : Nat) : (s.raiseEvent e i).always = s.always := rfl
@[simp] theorem raiseEvent_start (e i : Nat) : (s.raiseEvent e i).start = s.start := rfl
@[simp] theorem raiseEvent_modes (e i : Nat) : (s.raiseEvent e i).modes = s.modes := rfl
@[simp] theorem raiseEvent_snap (e i : Nat) : (s.raiseEvent e i).snap = s.snap := rfl
@[simp] theorem raiseEvent_lanes (e i : Nat) : (s.raiseEvent e i).lanes = s.lanes := rfl
@[simp] theorem raiseEvent_asks (e i : Nat) : (s.raiseEvent e i).asks = s.asks := rfl
@[simp] theorem raiseEvent_granted (e i : Nat) : (s.raiseEvent e i).granted = s.granted := rfl
@[simp] theorem raiseEvent_chargeDue (e i : Nat) : (s.raiseEvent e i).chargeDue = s.chargeDue := rfl
@[simp] theorem raiseEvent_ports (e i : Nat) : (s.raiseEvent e i).ports = s.ports := rfl
@[simp] theorem raiseEvent_tows (e i : Nat) : (s.raiseEvent e i).tows = s.tows := rfl
@[simp] theorem raiseEvent_links (e i : Nat) : (s.raiseEvent e i).links = s.links := rfl
@[simp] theorem raiseEvent_fab (e i : Nat) : (s.raiseEvent e i).fab = s.fab := rfl
@[simp] theorem raiseEvent_nextUid (e i : Nat) : (s.raiseEvent e i).nextUid = s.nextUid := rfl
@[simp] theorem raiseEvent_svc (e i : Nat) : (s.raiseEvent e i).svc = s.svc := rfl
@[simp] theorem raiseEvent_landing (e i : Nat) : (s.raiseEvent e i).landing = s.landing := rfl
@[simp] theorem raiseEvent_hcs (e i : Nat) : (s.raiseEvent e i).hcs = s.hcs := rfl
@[simp] theorem raiseEvent_dram (e i : Nat) : (s.raiseEvent e i).dram = s.dram := rfl
@[simp] theorem raiseEvent_tt (e i : Nat) : (s.raiseEvent e i).tt = s.tt := rfl
@[simp] theorem raiseEvent_ledger (e i : Nat) : (s.raiseEvent e i).ledger = s.ledger := rfl
@[simp] theorem raiseEvent_therm (e i : Nat) : (s.raiseEvent e i).therm = s.therm := rfl
@[simp] theorem raiseEvent_activity (e i : Nat) : (s.raiseEvent e i).activity = s.activity := rfl
@[simp] theorem raiseEvent_otp (e i : Nat) : (s.raiseEvent e i).otp = s.otp := rfl
@[simp] theorem raiseEvent_purser (e i : Nat) : (s.raiseEvent e i).purser = s.purser := rfl
@[simp] theorem raiseEvent_test (e i : Nat) : (s.raiseEvent e i).test = s.test := rfl

@[simp] theorem causeWith_pending (c : CauseBit) (i : Nat) : (s.causeWith c i).pending = s.pending := by
  simp only [causeWith]; split <;> rfl
@[simp] theorem causeWith_free (c : CauseBit) (i : Nat) : (s.causeWith c i).free = s.free := by
  simp only [causeWith]; split <;> rfl
@[simp] theorem causeWith_out (c : CauseBit) (i : Nat) : (s.causeWith c i).out = s.out := by
  simp only [causeWith]; split <;> rfl
@[simp] theorem causeWith_ticks (c : CauseBit) (i : Nat) : (s.causeWith c i).ticks = s.ticks := by
  simp only [causeWith]; split <;> rfl
@[simp] theorem causeWith_staged (c : CauseBit) (i : Nat) : (s.causeWith c i).staged = s.staged := by
  simp only [causeWith]; split <;> rfl
@[simp] theorem causeWith_shadows (c : CauseBit) (i : Nat) : (s.causeWith c i).shadows = s.shadows := by
  simp only [causeWith]; split <;> rfl
@[simp] theorem causeWith_pairs (c : CauseBit) (i : Nat) : (s.causeWith c i).pairs = s.pairs := by
  simp only [causeWith]; split <;> rfl
@[simp] theorem causeWith_clears (c : CauseBit) (i : Nat) : (s.causeWith c i).clears = s.clears := by
  simp only [causeWith]; split <;> rfl
@[simp] theorem causeWith_late (c : CauseBit) (i : Nat) : (s.causeWith c i).late = s.late := by
  simp only [causeWith]; split <;> rfl
@[simp] theorem causeWith_commit (c : CauseBit) (i : Nat) : (s.causeWith c i).commit = s.commit := by
  simp only [causeWith]; split <;> rfl
@[simp] theorem causeWith_pins (c : CauseBit) (i : Nat) : (s.causeWith c i).pins = s.pins := by
  simp only [causeWith]; split <;> rfl
@[simp] theorem causeWith_always (c : CauseBit) (i : Nat) : (s.causeWith c i).always = s.always := by
  simp only [causeWith]; split <;> rfl
@[simp] theorem causeWith_start (c : CauseBit) (i : Nat) : (s.causeWith c i).start = s.start := by
  simp only [causeWith]; split <;> rfl
@[simp] theorem causeWith_modes (c : CauseBit) (i : Nat) : (s.causeWith c i).modes = s.modes := by
  simp only [causeWith]; split <;> rfl
@[simp] theorem causeWith_snap (c : CauseBit) (i : Nat) : (s.causeWith c i).snap = s.snap := by
  simp only [causeWith]; split <;> rfl
@[simp] theorem causeWith_lanes (c : CauseBit) (i : Nat) : (s.causeWith c i).lanes = s.lanes := by
  simp only [causeWith]; split <;> rfl
@[simp] theorem causeWith_asks (c : CauseBit) (i : Nat) : (s.causeWith c i).asks = s.asks := by
  simp only [causeWith]; split <;> rfl
@[simp] theorem causeWith_granted (c : CauseBit) (i : Nat) : (s.causeWith c i).granted = s.granted := by
  simp only [causeWith]; split <;> rfl
@[simp] theorem causeWith_chargeDue (c : CauseBit) (i : Nat) : (s.causeWith c i).chargeDue = s.chargeDue := by
  simp only [causeWith]; split <;> rfl
@[simp] theorem causeWith_ports (c : CauseBit) (i : Nat) : (s.causeWith c i).ports = s.ports := by
  simp only [causeWith]; split <;> rfl
@[simp] theorem causeWith_tows (c : CauseBit) (i : Nat) : (s.causeWith c i).tows = s.tows := by
  simp only [causeWith]; split <;> rfl
@[simp] theorem causeWith_links (c : CauseBit) (i : Nat) : (s.causeWith c i).links = s.links := by
  simp only [causeWith]; split <;> rfl
@[simp] theorem causeWith_fab (c : CauseBit) (i : Nat) : (s.causeWith c i).fab = s.fab := by
  simp only [causeWith]; split <;> rfl
@[simp] theorem causeWith_nextUid (c : CauseBit) (i : Nat) : (s.causeWith c i).nextUid = s.nextUid := by
  simp only [causeWith]; split <;> rfl
@[simp] theorem causeWith_svc (c : CauseBit) (i : Nat) : (s.causeWith c i).svc = s.svc := by
  simp only [causeWith]; split <;> rfl
@[simp] theorem causeWith_landing (c : CauseBit) (i : Nat) : (s.causeWith c i).landing = s.landing := by
  simp only [causeWith]; split <;> rfl
@[simp] theorem causeWith_hcs (c : CauseBit) (i : Nat) : (s.causeWith c i).hcs = s.hcs := by
  simp only [causeWith]; split <;> rfl
@[simp] theorem causeWith_dram (c : CauseBit) (i : Nat) : (s.causeWith c i).dram = s.dram := by
  simp only [causeWith]; split <;> rfl
@[simp] theorem causeWith_tt (c : CauseBit) (i : Nat) : (s.causeWith c i).tt = s.tt := by
  simp only [causeWith]; split <;> rfl
@[simp] theorem causeWith_ledger (c : CauseBit) (i : Nat) : (s.causeWith c i).ledger = s.ledger := by
  simp only [causeWith]; split <;> rfl
@[simp] theorem causeWith_therm (c : CauseBit) (i : Nat) : (s.causeWith c i).therm = s.therm := by
  simp only [causeWith]; split <;> rfl
@[simp] theorem causeWith_activity (c : CauseBit) (i : Nat) : (s.causeWith c i).activity = s.activity := by
  simp only [causeWith]; split <;> rfl
@[simp] theorem causeWith_otp (c : CauseBit) (i : Nat) : (s.causeWith c i).otp = s.otp := by
  simp only [causeWith]; split <;> rfl
@[simp] theorem causeWith_purser (c : CauseBit) (i : Nat) : (s.causeWith c i).purser = s.purser := by
  simp only [causeWith]; split <;> rfl
@[simp] theorem causeWith_test (c : CauseBit) (i : Nat) : (s.causeWith c i).test = s.test := by
  simp only [causeWith]; split <;> rfl

@[simp] theorem cause_pending (c : CauseBit) : (s.cause c).pending = s.pending := causeWith_pending s c 0
@[simp] theorem cause_free (c : CauseBit) : (s.cause c).free = s.free := causeWith_free s c 0
@[simp] theorem cause_out (c : CauseBit) : (s.cause c).out = s.out := causeWith_out s c 0
@[simp] theorem cause_ticks (c : CauseBit) : (s.cause c).ticks = s.ticks := causeWith_ticks s c 0
@[simp] theorem cause_staged (c : CauseBit) : (s.cause c).staged = s.staged := causeWith_staged s c 0
@[simp] theorem cause_shadows (c : CauseBit) : (s.cause c).shadows = s.shadows := causeWith_shadows s c 0
@[simp] theorem cause_pairs (c : CauseBit) : (s.cause c).pairs = s.pairs := causeWith_pairs s c 0
@[simp] theorem cause_clears (c : CauseBit) : (s.cause c).clears = s.clears := causeWith_clears s c 0
@[simp] theorem cause_late (c : CauseBit) : (s.cause c).late = s.late := causeWith_late s c 0
@[simp] theorem cause_commit (c : CauseBit) : (s.cause c).commit = s.commit := causeWith_commit s c 0
@[simp] theorem cause_pins (c : CauseBit) : (s.cause c).pins = s.pins := causeWith_pins s c 0
@[simp] theorem cause_always (c : CauseBit) : (s.cause c).always = s.always := causeWith_always s c 0
@[simp] theorem cause_start (c : CauseBit) : (s.cause c).start = s.start := causeWith_start s c 0
@[simp] theorem cause_modes (c : CauseBit) : (s.cause c).modes = s.modes := causeWith_modes s c 0
@[simp] theorem cause_snap (c : CauseBit) : (s.cause c).snap = s.snap := causeWith_snap s c 0
@[simp] theorem cause_lanes (c : CauseBit) : (s.cause c).lanes = s.lanes := causeWith_lanes s c 0
@[simp] theorem cause_asks (c : CauseBit) : (s.cause c).asks = s.asks := causeWith_asks s c 0
@[simp] theorem cause_granted (c : CauseBit) : (s.cause c).granted = s.granted := causeWith_granted s c 0
@[simp] theorem cause_chargeDue (c : CauseBit) : (s.cause c).chargeDue = s.chargeDue := causeWith_chargeDue s c 0
@[simp] theorem cause_ports (c : CauseBit) : (s.cause c).ports = s.ports := causeWith_ports s c 0
@[simp] theorem cause_tows (c : CauseBit) : (s.cause c).tows = s.tows := causeWith_tows s c 0
@[simp] theorem cause_links (c : CauseBit) : (s.cause c).links = s.links := causeWith_links s c 0
@[simp] theorem cause_fab (c : CauseBit) : (s.cause c).fab = s.fab := causeWith_fab s c 0
@[simp] theorem cause_nextUid (c : CauseBit) : (s.cause c).nextUid = s.nextUid := causeWith_nextUid s c 0
@[simp] theorem cause_svc (c : CauseBit) : (s.cause c).svc = s.svc := causeWith_svc s c 0
@[simp] theorem cause_landing (c : CauseBit) : (s.cause c).landing = s.landing := causeWith_landing s c 0
@[simp] theorem cause_hcs (c : CauseBit) : (s.cause c).hcs = s.hcs := causeWith_hcs s c 0
@[simp] theorem cause_dram (c : CauseBit) : (s.cause c).dram = s.dram := causeWith_dram s c 0
@[simp] theorem cause_tt (c : CauseBit) : (s.cause c).tt = s.tt := causeWith_tt s c 0
@[simp] theorem cause_ledger (c : CauseBit) : (s.cause c).ledger = s.ledger := causeWith_ledger s c 0
@[simp] theorem cause_therm (c : CauseBit) : (s.cause c).therm = s.therm := causeWith_therm s c 0
@[simp] theorem cause_activity (c : CauseBit) : (s.cause c).activity = s.activity := causeWith_activity s c 0
@[simp] theorem cause_otp (c : CauseBit) : (s.cause c).otp = s.otp := causeWith_otp s c 0
@[simp] theorem cause_purser (c : CauseBit) : (s.cause c).purser = s.purser := causeWith_purser s c 0
@[simp] theorem cause_test (c : CauseBit) : (s.cause c).test = s.test := causeWith_test s c 0

@[simp] theorem addSat_pending (a n : Nat) : (s.addSat a n).pending = s.pending := setReg_pending s a _
@[simp] theorem addSat_free (a n : Nat) : (s.addSat a n).free = s.free := setReg_free s a _
@[simp] theorem addSat_out (a n : Nat) : (s.addSat a n).out = s.out := setReg_out s a _
@[simp] theorem addSat_ticks (a n : Nat) : (s.addSat a n).ticks = s.ticks := setReg_ticks s a _
@[simp] theorem addSat_staged (a n : Nat) : (s.addSat a n).staged = s.staged := setReg_staged s a _
@[simp] theorem addSat_shadows (a n : Nat) : (s.addSat a n).shadows = s.shadows := setReg_shadows s a _
@[simp] theorem addSat_pairs (a n : Nat) : (s.addSat a n).pairs = s.pairs := setReg_pairs s a _
@[simp] theorem addSat_clears (a n : Nat) : (s.addSat a n).clears = s.clears := setReg_clears s a _
@[simp] theorem addSat_late (a n : Nat) : (s.addSat a n).late = s.late := setReg_late s a _
@[simp] theorem addSat_commit (a n : Nat) : (s.addSat a n).commit = s.commit := setReg_commit s a _
@[simp] theorem addSat_pins (a n : Nat) : (s.addSat a n).pins = s.pins := setReg_pins s a _
@[simp] theorem addSat_always (a n : Nat) : (s.addSat a n).always = s.always := setReg_always s a _
@[simp] theorem addSat_start (a n : Nat) : (s.addSat a n).start = s.start := setReg_start s a _
@[simp] theorem addSat_modes (a n : Nat) : (s.addSat a n).modes = s.modes := setReg_modes s a _
@[simp] theorem addSat_events (a n : Nat) : (s.addSat a n).events = s.events := setReg_events s a _
@[simp] theorem addSat_snap (a n : Nat) : (s.addSat a n).snap = s.snap := setReg_snap s a _
@[simp] theorem addSat_lanes (a n : Nat) : (s.addSat a n).lanes = s.lanes := setReg_lanes s a _
@[simp] theorem addSat_asks (a n : Nat) : (s.addSat a n).asks = s.asks := setReg_asks s a _
@[simp] theorem addSat_granted (a n : Nat) : (s.addSat a n).granted = s.granted := setReg_granted s a _
@[simp] theorem addSat_chargeDue (a n : Nat) : (s.addSat a n).chargeDue = s.chargeDue := setReg_chargeDue s a _
@[simp] theorem addSat_ports (a n : Nat) : (s.addSat a n).ports = s.ports := setReg_ports s a _
@[simp] theorem addSat_tows (a n : Nat) : (s.addSat a n).tows = s.tows := setReg_tows s a _
@[simp] theorem addSat_links (a n : Nat) : (s.addSat a n).links = s.links := setReg_links s a _
@[simp] theorem addSat_fab (a n : Nat) : (s.addSat a n).fab = s.fab := setReg_fab s a _
@[simp] theorem addSat_nextUid (a n : Nat) : (s.addSat a n).nextUid = s.nextUid := setReg_nextUid s a _
@[simp] theorem addSat_svc (a n : Nat) : (s.addSat a n).svc = s.svc := setReg_svc s a _
@[simp] theorem addSat_landing (a n : Nat) : (s.addSat a n).landing = s.landing := setReg_landing s a _
@[simp] theorem addSat_hcs (a n : Nat) : (s.addSat a n).hcs = s.hcs := setReg_hcs s a _
@[simp] theorem addSat_dram (a n : Nat) : (s.addSat a n).dram = s.dram := setReg_dram s a _
@[simp] theorem addSat_tt (a n : Nat) : (s.addSat a n).tt = s.tt := setReg_tt s a _
@[simp] theorem addSat_ledger (a n : Nat) : (s.addSat a n).ledger = s.ledger := setReg_ledger s a _
@[simp] theorem addSat_therm (a n : Nat) : (s.addSat a n).therm = s.therm := setReg_therm s a _
@[simp] theorem addSat_activity (a n : Nat) : (s.addSat a n).activity = s.activity := setReg_activity s a _
@[simp] theorem addSat_otp (a n : Nat) : (s.addSat a n).otp = s.otp := setReg_otp s a _
@[simp] theorem addSat_purser (a n : Nat) : (s.addSat a n).purser = s.purser := setReg_purser s a _
@[simp] theorem addSat_test (a n : Nat) : (s.addSat a n).test = s.test := setReg_test s a _

@[simp] theorem add48_pending (a n : Nat) : (s.add48 a n).pending = s.pending := (setReg_pending (s.setReg a _) (a + 4) _).trans (setReg_pending s a _)
@[simp] theorem add48_free (a n : Nat) : (s.add48 a n).free = s.free := (setReg_free (s.setReg a _) (a + 4) _).trans (setReg_free s a _)
@[simp] theorem add48_out (a n : Nat) : (s.add48 a n).out = s.out := (setReg_out (s.setReg a _) (a + 4) _).trans (setReg_out s a _)
@[simp] theorem add48_ticks (a n : Nat) : (s.add48 a n).ticks = s.ticks := (setReg_ticks (s.setReg a _) (a + 4) _).trans (setReg_ticks s a _)
@[simp] theorem add48_staged (a n : Nat) : (s.add48 a n).staged = s.staged := (setReg_staged (s.setReg a _) (a + 4) _).trans (setReg_staged s a _)
@[simp] theorem add48_shadows (a n : Nat) : (s.add48 a n).shadows = s.shadows := (setReg_shadows (s.setReg a _) (a + 4) _).trans (setReg_shadows s a _)
@[simp] theorem add48_pairs (a n : Nat) : (s.add48 a n).pairs = s.pairs := (setReg_pairs (s.setReg a _) (a + 4) _).trans (setReg_pairs s a _)
@[simp] theorem add48_clears (a n : Nat) : (s.add48 a n).clears = s.clears := (setReg_clears (s.setReg a _) (a + 4) _).trans (setReg_clears s a _)
@[simp] theorem add48_late (a n : Nat) : (s.add48 a n).late = s.late := (setReg_late (s.setReg a _) (a + 4) _).trans (setReg_late s a _)
@[simp] theorem add48_commit (a n : Nat) : (s.add48 a n).commit = s.commit := (setReg_commit (s.setReg a _) (a + 4) _).trans (setReg_commit s a _)
@[simp] theorem add48_pins (a n : Nat) : (s.add48 a n).pins = s.pins := (setReg_pins (s.setReg a _) (a + 4) _).trans (setReg_pins s a _)
@[simp] theorem add48_always (a n : Nat) : (s.add48 a n).always = s.always := (setReg_always (s.setReg a _) (a + 4) _).trans (setReg_always s a _)
@[simp] theorem add48_start (a n : Nat) : (s.add48 a n).start = s.start := (setReg_start (s.setReg a _) (a + 4) _).trans (setReg_start s a _)
@[simp] theorem add48_modes (a n : Nat) : (s.add48 a n).modes = s.modes := (setReg_modes (s.setReg a _) (a + 4) _).trans (setReg_modes s a _)
@[simp] theorem add48_events (a n : Nat) : (s.add48 a n).events = s.events := (setReg_events (s.setReg a _) (a + 4) _).trans (setReg_events s a _)
@[simp] theorem add48_snap (a n : Nat) : (s.add48 a n).snap = s.snap := (setReg_snap (s.setReg a _) (a + 4) _).trans (setReg_snap s a _)
@[simp] theorem add48_lanes (a n : Nat) : (s.add48 a n).lanes = s.lanes := (setReg_lanes (s.setReg a _) (a + 4) _).trans (setReg_lanes s a _)
@[simp] theorem add48_asks (a n : Nat) : (s.add48 a n).asks = s.asks := (setReg_asks (s.setReg a _) (a + 4) _).trans (setReg_asks s a _)
@[simp] theorem add48_granted (a n : Nat) : (s.add48 a n).granted = s.granted := (setReg_granted (s.setReg a _) (a + 4) _).trans (setReg_granted s a _)
@[simp] theorem add48_chargeDue (a n : Nat) : (s.add48 a n).chargeDue = s.chargeDue := (setReg_chargeDue (s.setReg a _) (a + 4) _).trans (setReg_chargeDue s a _)
@[simp] theorem add48_ports (a n : Nat) : (s.add48 a n).ports = s.ports := (setReg_ports (s.setReg a _) (a + 4) _).trans (setReg_ports s a _)
@[simp] theorem add48_tows (a n : Nat) : (s.add48 a n).tows = s.tows := (setReg_tows (s.setReg a _) (a + 4) _).trans (setReg_tows s a _)
@[simp] theorem add48_links (a n : Nat) : (s.add48 a n).links = s.links := (setReg_links (s.setReg a _) (a + 4) _).trans (setReg_links s a _)
@[simp] theorem add48_fab (a n : Nat) : (s.add48 a n).fab = s.fab := (setReg_fab (s.setReg a _) (a + 4) _).trans (setReg_fab s a _)
@[simp] theorem add48_nextUid (a n : Nat) : (s.add48 a n).nextUid = s.nextUid := (setReg_nextUid (s.setReg a _) (a + 4) _).trans (setReg_nextUid s a _)
@[simp] theorem add48_svc (a n : Nat) : (s.add48 a n).svc = s.svc := (setReg_svc (s.setReg a _) (a + 4) _).trans (setReg_svc s a _)
@[simp] theorem add48_landing (a n : Nat) : (s.add48 a n).landing = s.landing := (setReg_landing (s.setReg a _) (a + 4) _).trans (setReg_landing s a _)
@[simp] theorem add48_hcs (a n : Nat) : (s.add48 a n).hcs = s.hcs := (setReg_hcs (s.setReg a _) (a + 4) _).trans (setReg_hcs s a _)
@[simp] theorem add48_dram (a n : Nat) : (s.add48 a n).dram = s.dram := (setReg_dram (s.setReg a _) (a + 4) _).trans (setReg_dram s a _)
@[simp] theorem add48_tt (a n : Nat) : (s.add48 a n).tt = s.tt := (setReg_tt (s.setReg a _) (a + 4) _).trans (setReg_tt s a _)
@[simp] theorem add48_ledger (a n : Nat) : (s.add48 a n).ledger = s.ledger := (setReg_ledger (s.setReg a _) (a + 4) _).trans (setReg_ledger s a _)
@[simp] theorem add48_therm (a n : Nat) : (s.add48 a n).therm = s.therm := (setReg_therm (s.setReg a _) (a + 4) _).trans (setReg_therm s a _)
@[simp] theorem add48_activity (a n : Nat) : (s.add48 a n).activity = s.activity := (setReg_activity (s.setReg a _) (a + 4) _).trans (setReg_activity s a _)
@[simp] theorem add48_otp (a n : Nat) : (s.add48 a n).otp = s.otp := (setReg_otp (s.setReg a _) (a + 4) _).trans (setReg_otp s a _)
@[simp] theorem add48_purser (a n : Nat) : (s.add48 a n).purser = s.purser := (setReg_purser (s.setReg a _) (a + 4) _).trans (setReg_purser s a _)
@[simp] theorem add48_test (a n : Nat) : (s.add48 a n).test = s.test := (setReg_test (s.setReg a _) (a + 4) _).trans (setReg_test s a _)

@[simp] theorem addField_pending (f : Field) (n : Nat) : (s.addField f n).pending = s.pending := put_pending s f _
@[simp] theorem addField_free (f : Field) (n : Nat) : (s.addField f n).free = s.free := put_free s f _
@[simp] theorem addField_out (f : Field) (n : Nat) : (s.addField f n).out = s.out := put_out s f _
@[simp] theorem addField_ticks (f : Field) (n : Nat) : (s.addField f n).ticks = s.ticks := put_ticks s f _
@[simp] theorem addField_staged (f : Field) (n : Nat) : (s.addField f n).staged = s.staged := put_staged s f _
@[simp] theorem addField_shadows (f : Field) (n : Nat) : (s.addField f n).shadows = s.shadows := put_shadows s f _
@[simp] theorem addField_pairs (f : Field) (n : Nat) : (s.addField f n).pairs = s.pairs := put_pairs s f _
@[simp] theorem addField_clears (f : Field) (n : Nat) : (s.addField f n).clears = s.clears := put_clears s f _
@[simp] theorem addField_late (f : Field) (n : Nat) : (s.addField f n).late = s.late := put_late s f _
@[simp] theorem addField_commit (f : Field) (n : Nat) : (s.addField f n).commit = s.commit := put_commit s f _
@[simp] theorem addField_pins (f : Field) (n : Nat) : (s.addField f n).pins = s.pins := put_pins s f _
@[simp] theorem addField_always (f : Field) (n : Nat) : (s.addField f n).always = s.always := put_always s f _
@[simp] theorem addField_start (f : Field) (n : Nat) : (s.addField f n).start = s.start := put_start s f _
@[simp] theorem addField_modes (f : Field) (n : Nat) : (s.addField f n).modes = s.modes := put_modes s f _
@[simp] theorem addField_events (f : Field) (n : Nat) : (s.addField f n).events = s.events := put_events s f _
@[simp] theorem addField_snap (f : Field) (n : Nat) : (s.addField f n).snap = s.snap := put_snap s f _
@[simp] theorem addField_lanes (f : Field) (n : Nat) : (s.addField f n).lanes = s.lanes := put_lanes s f _
@[simp] theorem addField_asks (f : Field) (n : Nat) : (s.addField f n).asks = s.asks := put_asks s f _
@[simp] theorem addField_granted (f : Field) (n : Nat) : (s.addField f n).granted = s.granted := put_granted s f _
@[simp] theorem addField_chargeDue (f : Field) (n : Nat) : (s.addField f n).chargeDue = s.chargeDue := put_chargeDue s f _
@[simp] theorem addField_ports (f : Field) (n : Nat) : (s.addField f n).ports = s.ports := put_ports s f _
@[simp] theorem addField_tows (f : Field) (n : Nat) : (s.addField f n).tows = s.tows := put_tows s f _
@[simp] theorem addField_links (f : Field) (n : Nat) : (s.addField f n).links = s.links := put_links s f _
@[simp] theorem addField_fab (f : Field) (n : Nat) : (s.addField f n).fab = s.fab := put_fab s f _
@[simp] theorem addField_nextUid (f : Field) (n : Nat) : (s.addField f n).nextUid = s.nextUid := put_nextUid s f _
@[simp] theorem addField_svc (f : Field) (n : Nat) : (s.addField f n).svc = s.svc := put_svc s f _
@[simp] theorem addField_landing (f : Field) (n : Nat) : (s.addField f n).landing = s.landing := put_landing s f _
@[simp] theorem addField_hcs (f : Field) (n : Nat) : (s.addField f n).hcs = s.hcs := put_hcs s f _
@[simp] theorem addField_dram (f : Field) (n : Nat) : (s.addField f n).dram = s.dram := put_dram s f _
@[simp] theorem addField_tt (f : Field) (n : Nat) : (s.addField f n).tt = s.tt := put_tt s f _
@[simp] theorem addField_ledger (f : Field) (n : Nat) : (s.addField f n).ledger = s.ledger := put_ledger s f _
@[simp] theorem addField_therm (f : Field) (n : Nat) : (s.addField f n).therm = s.therm := put_therm s f _
@[simp] theorem addField_activity (f : Field) (n : Nat) : (s.addField f n).activity = s.activity := put_activity s f _
@[simp] theorem addField_otp (f : Field) (n : Nat) : (s.addField f n).otp = s.otp := put_otp s f _
@[simp] theorem addField_purser (f : Field) (n : Nat) : (s.addField f n).purser = s.purser := put_purser s f _
@[simp] theorem addField_test (f : Field) (n : Nat) : (s.addField f n).test = s.test := put_test s f _

@[simp] theorem acted_pending (k n : Nat) : (s.acted k n).pending = s.pending := rfl
@[simp] theorem acted_free (k n : Nat) : (s.acted k n).free = s.free := rfl
@[simp] theorem acted_out (k n : Nat) : (s.acted k n).out = s.out := rfl
@[simp] theorem acted_ticks (k n : Nat) : (s.acted k n).ticks = s.ticks := rfl
@[simp] theorem acted_regs (k n : Nat) : (s.acted k n).regs = s.regs := rfl
@[simp] theorem acted_staged (k n : Nat) : (s.acted k n).staged = s.staged := rfl
@[simp] theorem acted_shadows (k n : Nat) : (s.acted k n).shadows = s.shadows := rfl
@[simp] theorem acted_pairs (k n : Nat) : (s.acted k n).pairs = s.pairs := rfl
@[simp] theorem acted_clears (k n : Nat) : (s.acted k n).clears = s.clears := rfl
@[simp] theorem acted_late (k n : Nat) : (s.acted k n).late = s.late := rfl
@[simp] theorem acted_commit (k n : Nat) : (s.acted k n).commit = s.commit := rfl
@[simp] theorem acted_pins (k n : Nat) : (s.acted k n).pins = s.pins := rfl
@[simp] theorem acted_always (k n : Nat) : (s.acted k n).always = s.always := rfl
@[simp] theorem acted_start (k n : Nat) : (s.acted k n).start = s.start := rfl
@[simp] theorem acted_modes (k n : Nat) : (s.acted k n).modes = s.modes := rfl
@[simp] theorem acted_events (k n : Nat) : (s.acted k n).events = s.events := rfl
@[simp] theorem acted_snap (k n : Nat) : (s.acted k n).snap = s.snap := rfl
@[simp] theorem acted_lanes (k n : Nat) : (s.acted k n).lanes = s.lanes := rfl
@[simp] theorem acted_asks (k n : Nat) : (s.acted k n).asks = s.asks := rfl
@[simp] theorem acted_granted (k n : Nat) : (s.acted k n).granted = s.granted := rfl
@[simp] theorem acted_chargeDue (k n : Nat) : (s.acted k n).chargeDue = s.chargeDue := rfl
@[simp] theorem acted_ports (k n : Nat) : (s.acted k n).ports = s.ports := rfl
@[simp] theorem acted_tows (k n : Nat) : (s.acted k n).tows = s.tows := rfl
@[simp] theorem acted_links (k n : Nat) : (s.acted k n).links = s.links := rfl
@[simp] theorem acted_fab (k n : Nat) : (s.acted k n).fab = s.fab := rfl
@[simp] theorem acted_nextUid (k n : Nat) : (s.acted k n).nextUid = s.nextUid := rfl
@[simp] theorem acted_svc (k n : Nat) : (s.acted k n).svc = s.svc := rfl
@[simp] theorem acted_landing (k n : Nat) : (s.acted k n).landing = s.landing := rfl
@[simp] theorem acted_hcs (k n : Nat) : (s.acted k n).hcs = s.hcs := rfl
@[simp] theorem acted_dram (k n : Nat) : (s.acted k n).dram = s.dram := rfl
@[simp] theorem acted_tt (k n : Nat) : (s.acted k n).tt = s.tt := rfl
@[simp] theorem acted_ledger (k n : Nat) : (s.acted k n).ledger = s.ledger := rfl
@[simp] theorem acted_therm (k n : Nat) : (s.acted k n).therm = s.therm := rfl
@[simp] theorem acted_otp (k n : Nat) : (s.acted k n).otp = s.otp := rfl
@[simp] theorem acted_purser (k n : Nat) : (s.acted k n).purser = s.purser := rfl
@[simp] theorem acted_test (k n : Nat) : (s.acted k n).test = s.test := rfl

@[simp] theorem setLane_pending (l : Nat) (v : LaneSt) : (s.setLane l v).pending = s.pending := rfl
@[simp] theorem setLane_free (l : Nat) (v : LaneSt) : (s.setLane l v).free = s.free := rfl
@[simp] theorem setLane_out (l : Nat) (v : LaneSt) : (s.setLane l v).out = s.out := rfl
@[simp] theorem setLane_ticks (l : Nat) (v : LaneSt) : (s.setLane l v).ticks = s.ticks := rfl
@[simp] theorem setLane_regs (l : Nat) (v : LaneSt) : (s.setLane l v).regs = s.regs := rfl
@[simp] theorem setLane_staged (l : Nat) (v : LaneSt) : (s.setLane l v).staged = s.staged := rfl
@[simp] theorem setLane_shadows (l : Nat) (v : LaneSt) : (s.setLane l v).shadows = s.shadows := rfl
@[simp] theorem setLane_pairs (l : Nat) (v : LaneSt) : (s.setLane l v).pairs = s.pairs := rfl
@[simp] theorem setLane_clears (l : Nat) (v : LaneSt) : (s.setLane l v).clears = s.clears := rfl
@[simp] theorem setLane_late (l : Nat) (v : LaneSt) : (s.setLane l v).late = s.late := rfl
@[simp] theorem setLane_commit (l : Nat) (v : LaneSt) : (s.setLane l v).commit = s.commit := rfl
@[simp] theorem setLane_pins (l : Nat) (v : LaneSt) : (s.setLane l v).pins = s.pins := rfl
@[simp] theorem setLane_always (l : Nat) (v : LaneSt) : (s.setLane l v).always = s.always := rfl
@[simp] theorem setLane_start (l : Nat) (v : LaneSt) : (s.setLane l v).start = s.start := rfl
@[simp] theorem setLane_modes (l : Nat) (v : LaneSt) : (s.setLane l v).modes = s.modes := rfl
@[simp] theorem setLane_events (l : Nat) (v : LaneSt) : (s.setLane l v).events = s.events := rfl
@[simp] theorem setLane_snap (l : Nat) (v : LaneSt) : (s.setLane l v).snap = s.snap := rfl
@[simp] theorem setLane_asks (l : Nat) (v : LaneSt) : (s.setLane l v).asks = s.asks := rfl
@[simp] theorem setLane_granted (l : Nat) (v : LaneSt) : (s.setLane l v).granted = s.granted := rfl
@[simp] theorem setLane_chargeDue (l : Nat) (v : LaneSt) : (s.setLane l v).chargeDue = s.chargeDue := rfl
@[simp] theorem setLane_ports (l : Nat) (v : LaneSt) : (s.setLane l v).ports = s.ports := rfl
@[simp] theorem setLane_tows (l : Nat) (v : LaneSt) : (s.setLane l v).tows = s.tows := rfl
@[simp] theorem setLane_links (l : Nat) (v : LaneSt) : (s.setLane l v).links = s.links := rfl
@[simp] theorem setLane_fab (l : Nat) (v : LaneSt) : (s.setLane l v).fab = s.fab := rfl
@[simp] theorem setLane_nextUid (l : Nat) (v : LaneSt) : (s.setLane l v).nextUid = s.nextUid := rfl
@[simp] theorem setLane_svc (l : Nat) (v : LaneSt) : (s.setLane l v).svc = s.svc := rfl
@[simp] theorem setLane_landing (l : Nat) (v : LaneSt) : (s.setLane l v).landing = s.landing := rfl
@[simp] theorem setLane_hcs (l : Nat) (v : LaneSt) : (s.setLane l v).hcs = s.hcs := rfl
@[simp] theorem setLane_dram (l : Nat) (v : LaneSt) : (s.setLane l v).dram = s.dram := rfl
@[simp] theorem setLane_tt (l : Nat) (v : LaneSt) : (s.setLane l v).tt = s.tt := rfl
@[simp] theorem setLane_ledger (l : Nat) (v : LaneSt) : (s.setLane l v).ledger = s.ledger := rfl
@[simp] theorem setLane_therm (l : Nat) (v : LaneSt) : (s.setLane l v).therm = s.therm := rfl
@[simp] theorem setLane_activity (l : Nat) (v : LaneSt) : (s.setLane l v).activity = s.activity := rfl
@[simp] theorem setLane_otp (l : Nat) (v : LaneSt) : (s.setLane l v).otp = s.otp := rfl
@[simp] theorem setLane_purser (l : Nat) (v : LaneSt) : (s.setLane l v).purser = s.purser := rfl
@[simp] theorem setLane_test (l : Nat) (v : LaneSt) : (s.setLane l v).test = s.test := rfl

@[simp] theorem modLane_pending (l : Nat) (f : LaneSt → LaneSt) : (s.modLane l f).pending = s.pending := rfl
@[simp] theorem modLane_free (l : Nat) (f : LaneSt → LaneSt) : (s.modLane l f).free = s.free := rfl
@[simp] theorem modLane_out (l : Nat) (f : LaneSt → LaneSt) : (s.modLane l f).out = s.out := rfl
@[simp] theorem modLane_ticks (l : Nat) (f : LaneSt → LaneSt) : (s.modLane l f).ticks = s.ticks := rfl
@[simp] theorem modLane_regs (l : Nat) (f : LaneSt → LaneSt) : (s.modLane l f).regs = s.regs := rfl
@[simp] theorem modLane_staged (l : Nat) (f : LaneSt → LaneSt) : (s.modLane l f).staged = s.staged := rfl
@[simp] theorem modLane_shadows (l : Nat) (f : LaneSt → LaneSt) : (s.modLane l f).shadows = s.shadows := rfl
@[simp] theorem modLane_pairs (l : Nat) (f : LaneSt → LaneSt) : (s.modLane l f).pairs = s.pairs := rfl
@[simp] theorem modLane_clears (l : Nat) (f : LaneSt → LaneSt) : (s.modLane l f).clears = s.clears := rfl
@[simp] theorem modLane_late (l : Nat) (f : LaneSt → LaneSt) : (s.modLane l f).late = s.late := rfl
@[simp] theorem modLane_commit (l : Nat) (f : LaneSt → LaneSt) : (s.modLane l f).commit = s.commit := rfl
@[simp] theorem modLane_pins (l : Nat) (f : LaneSt → LaneSt) : (s.modLane l f).pins = s.pins := rfl
@[simp] theorem modLane_always (l : Nat) (f : LaneSt → LaneSt) : (s.modLane l f).always = s.always := rfl
@[simp] theorem modLane_start (l : Nat) (f : LaneSt → LaneSt) : (s.modLane l f).start = s.start := rfl
@[simp] theorem modLane_modes (l : Nat) (f : LaneSt → LaneSt) : (s.modLane l f).modes = s.modes := rfl
@[simp] theorem modLane_events (l : Nat) (f : LaneSt → LaneSt) : (s.modLane l f).events = s.events := rfl
@[simp] theorem modLane_snap (l : Nat) (f : LaneSt → LaneSt) : (s.modLane l f).snap = s.snap := rfl
@[simp] theorem modLane_asks (l : Nat) (f : LaneSt → LaneSt) : (s.modLane l f).asks = s.asks := rfl
@[simp] theorem modLane_granted (l : Nat) (f : LaneSt → LaneSt) : (s.modLane l f).granted = s.granted := rfl
@[simp] theorem modLane_chargeDue (l : Nat) (f : LaneSt → LaneSt) : (s.modLane l f).chargeDue = s.chargeDue := rfl
@[simp] theorem modLane_ports (l : Nat) (f : LaneSt → LaneSt) : (s.modLane l f).ports = s.ports := rfl
@[simp] theorem modLane_tows (l : Nat) (f : LaneSt → LaneSt) : (s.modLane l f).tows = s.tows := rfl
@[simp] theorem modLane_links (l : Nat) (f : LaneSt → LaneSt) : (s.modLane l f).links = s.links := rfl
@[simp] theorem modLane_fab (l : Nat) (f : LaneSt → LaneSt) : (s.modLane l f).fab = s.fab := rfl
@[simp] theorem modLane_nextUid (l : Nat) (f : LaneSt → LaneSt) : (s.modLane l f).nextUid = s.nextUid := rfl
@[simp] theorem modLane_svc (l : Nat) (f : LaneSt → LaneSt) : (s.modLane l f).svc = s.svc := rfl
@[simp] theorem modLane_landing (l : Nat) (f : LaneSt → LaneSt) : (s.modLane l f).landing = s.landing := rfl
@[simp] theorem modLane_hcs (l : Nat) (f : LaneSt → LaneSt) : (s.modLane l f).hcs = s.hcs := rfl
@[simp] theorem modLane_dram (l : Nat) (f : LaneSt → LaneSt) : (s.modLane l f).dram = s.dram := rfl
@[simp] theorem modLane_tt (l : Nat) (f : LaneSt → LaneSt) : (s.modLane l f).tt = s.tt := rfl
@[simp] theorem modLane_ledger (l : Nat) (f : LaneSt → LaneSt) : (s.modLane l f).ledger = s.ledger := rfl
@[simp] theorem modLane_therm (l : Nat) (f : LaneSt → LaneSt) : (s.modLane l f).therm = s.therm := rfl
@[simp] theorem modLane_activity (l : Nat) (f : LaneSt → LaneSt) : (s.modLane l f).activity = s.activity := rfl
@[simp] theorem modLane_otp (l : Nat) (f : LaneSt → LaneSt) : (s.modLane l f).otp = s.otp := rfl
@[simp] theorem modLane_purser (l : Nat) (f : LaneSt → LaneSt) : (s.modLane l f).purser = s.purser := rfl
@[simp] theorem modLane_test (l : Nat) (f : LaneSt → LaneSt) : (s.modLane l f).test = s.test := rfl

@[simp] theorem setPort_pending (p : Nat) (v : PortSt) : (s.setPort p v).pending = s.pending := rfl
@[simp] theorem setPort_free (p : Nat) (v : PortSt) : (s.setPort p v).free = s.free := rfl
@[simp] theorem setPort_out (p : Nat) (v : PortSt) : (s.setPort p v).out = s.out := rfl
@[simp] theorem setPort_ticks (p : Nat) (v : PortSt) : (s.setPort p v).ticks = s.ticks := rfl
@[simp] theorem setPort_regs (p : Nat) (v : PortSt) : (s.setPort p v).regs = s.regs := rfl
@[simp] theorem setPort_staged (p : Nat) (v : PortSt) : (s.setPort p v).staged = s.staged := rfl
@[simp] theorem setPort_shadows (p : Nat) (v : PortSt) : (s.setPort p v).shadows = s.shadows := rfl
@[simp] theorem setPort_pairs (p : Nat) (v : PortSt) : (s.setPort p v).pairs = s.pairs := rfl
@[simp] theorem setPort_clears (p : Nat) (v : PortSt) : (s.setPort p v).clears = s.clears := rfl
@[simp] theorem setPort_late (p : Nat) (v : PortSt) : (s.setPort p v).late = s.late := rfl
@[simp] theorem setPort_commit (p : Nat) (v : PortSt) : (s.setPort p v).commit = s.commit := rfl
@[simp] theorem setPort_pins (p : Nat) (v : PortSt) : (s.setPort p v).pins = s.pins := rfl
@[simp] theorem setPort_always (p : Nat) (v : PortSt) : (s.setPort p v).always = s.always := rfl
@[simp] theorem setPort_start (p : Nat) (v : PortSt) : (s.setPort p v).start = s.start := rfl
@[simp] theorem setPort_modes (p : Nat) (v : PortSt) : (s.setPort p v).modes = s.modes := rfl
@[simp] theorem setPort_events (p : Nat) (v : PortSt) : (s.setPort p v).events = s.events := rfl
@[simp] theorem setPort_snap (p : Nat) (v : PortSt) : (s.setPort p v).snap = s.snap := rfl
@[simp] theorem setPort_lanes (p : Nat) (v : PortSt) : (s.setPort p v).lanes = s.lanes := rfl
@[simp] theorem setPort_asks (p : Nat) (v : PortSt) : (s.setPort p v).asks = s.asks := rfl
@[simp] theorem setPort_granted (p : Nat) (v : PortSt) : (s.setPort p v).granted = s.granted := rfl
@[simp] theorem setPort_chargeDue (p : Nat) (v : PortSt) : (s.setPort p v).chargeDue = s.chargeDue := rfl
@[simp] theorem setPort_tows (p : Nat) (v : PortSt) : (s.setPort p v).tows = s.tows := rfl
@[simp] theorem setPort_links (p : Nat) (v : PortSt) : (s.setPort p v).links = s.links := rfl
@[simp] theorem setPort_fab (p : Nat) (v : PortSt) : (s.setPort p v).fab = s.fab := rfl
@[simp] theorem setPort_nextUid (p : Nat) (v : PortSt) : (s.setPort p v).nextUid = s.nextUid := rfl
@[simp] theorem setPort_svc (p : Nat) (v : PortSt) : (s.setPort p v).svc = s.svc := rfl
@[simp] theorem setPort_landing (p : Nat) (v : PortSt) : (s.setPort p v).landing = s.landing := rfl
@[simp] theorem setPort_hcs (p : Nat) (v : PortSt) : (s.setPort p v).hcs = s.hcs := rfl
@[simp] theorem setPort_dram (p : Nat) (v : PortSt) : (s.setPort p v).dram = s.dram := rfl
@[simp] theorem setPort_tt (p : Nat) (v : PortSt) : (s.setPort p v).tt = s.tt := rfl
@[simp] theorem setPort_ledger (p : Nat) (v : PortSt) : (s.setPort p v).ledger = s.ledger := rfl
@[simp] theorem setPort_therm (p : Nat) (v : PortSt) : (s.setPort p v).therm = s.therm := rfl
@[simp] theorem setPort_activity (p : Nat) (v : PortSt) : (s.setPort p v).activity = s.activity := rfl
@[simp] theorem setPort_otp (p : Nat) (v : PortSt) : (s.setPort p v).otp = s.otp := rfl
@[simp] theorem setPort_purser (p : Nat) (v : PortSt) : (s.setPort p v).purser = s.purser := rfl
@[simp] theorem setPort_test (p : Nat) (v : PortSt) : (s.setPort p v).test = s.test := rfl

@[simp] theorem modPort_pending (p : Nat) (f : PortSt → PortSt) : (s.modPort p f).pending = s.pending := rfl
@[simp] theorem modPort_free (p : Nat) (f : PortSt → PortSt) : (s.modPort p f).free = s.free := rfl
@[simp] theorem modPort_out (p : Nat) (f : PortSt → PortSt) : (s.modPort p f).out = s.out := rfl
@[simp] theorem modPort_ticks (p : Nat) (f : PortSt → PortSt) : (s.modPort p f).ticks = s.ticks := rfl
@[simp] theorem modPort_regs (p : Nat) (f : PortSt → PortSt) : (s.modPort p f).regs = s.regs := rfl
@[simp] theorem modPort_staged (p : Nat) (f : PortSt → PortSt) : (s.modPort p f).staged = s.staged := rfl
@[simp] theorem modPort_shadows (p : Nat) (f : PortSt → PortSt) : (s.modPort p f).shadows = s.shadows := rfl
@[simp] theorem modPort_pairs (p : Nat) (f : PortSt → PortSt) : (s.modPort p f).pairs = s.pairs := rfl
@[simp] theorem modPort_clears (p : Nat) (f : PortSt → PortSt) : (s.modPort p f).clears = s.clears := rfl
@[simp] theorem modPort_late (p : Nat) (f : PortSt → PortSt) : (s.modPort p f).late = s.late := rfl
@[simp] theorem modPort_commit (p : Nat) (f : PortSt → PortSt) : (s.modPort p f).commit = s.commit := rfl
@[simp] theorem modPort_pins (p : Nat) (f : PortSt → PortSt) : (s.modPort p f).pins = s.pins := rfl
@[simp] theorem modPort_always (p : Nat) (f : PortSt → PortSt) : (s.modPort p f).always = s.always := rfl
@[simp] theorem modPort_start (p : Nat) (f : PortSt → PortSt) : (s.modPort p f).start = s.start := rfl
@[simp] theorem modPort_modes (p : Nat) (f : PortSt → PortSt) : (s.modPort p f).modes = s.modes := rfl
@[simp] theorem modPort_events (p : Nat) (f : PortSt → PortSt) : (s.modPort p f).events = s.events := rfl
@[simp] theorem modPort_snap (p : Nat) (f : PortSt → PortSt) : (s.modPort p f).snap = s.snap := rfl
@[simp] theorem modPort_lanes (p : Nat) (f : PortSt → PortSt) : (s.modPort p f).lanes = s.lanes := rfl
@[simp] theorem modPort_asks (p : Nat) (f : PortSt → PortSt) : (s.modPort p f).asks = s.asks := rfl
@[simp] theorem modPort_granted (p : Nat) (f : PortSt → PortSt) : (s.modPort p f).granted = s.granted := rfl
@[simp] theorem modPort_chargeDue (p : Nat) (f : PortSt → PortSt) : (s.modPort p f).chargeDue = s.chargeDue := rfl
@[simp] theorem modPort_tows (p : Nat) (f : PortSt → PortSt) : (s.modPort p f).tows = s.tows := rfl
@[simp] theorem modPort_links (p : Nat) (f : PortSt → PortSt) : (s.modPort p f).links = s.links := rfl
@[simp] theorem modPort_fab (p : Nat) (f : PortSt → PortSt) : (s.modPort p f).fab = s.fab := rfl
@[simp] theorem modPort_nextUid (p : Nat) (f : PortSt → PortSt) : (s.modPort p f).nextUid = s.nextUid := rfl
@[simp] theorem modPort_svc (p : Nat) (f : PortSt → PortSt) : (s.modPort p f).svc = s.svc := rfl
@[simp] theorem modPort_landing (p : Nat) (f : PortSt → PortSt) : (s.modPort p f).landing = s.landing := rfl
@[simp] theorem modPort_hcs (p : Nat) (f : PortSt → PortSt) : (s.modPort p f).hcs = s.hcs := rfl
@[simp] theorem modPort_dram (p : Nat) (f : PortSt → PortSt) : (s.modPort p f).dram = s.dram := rfl
@[simp] theorem modPort_tt (p : Nat) (f : PortSt → PortSt) : (s.modPort p f).tt = s.tt := rfl
@[simp] theorem modPort_ledger (p : Nat) (f : PortSt → PortSt) : (s.modPort p f).ledger = s.ledger := rfl
@[simp] theorem modPort_therm (p : Nat) (f : PortSt → PortSt) : (s.modPort p f).therm = s.therm := rfl
@[simp] theorem modPort_activity (p : Nat) (f : PortSt → PortSt) : (s.modPort p f).activity = s.activity := rfl
@[simp] theorem modPort_otp (p : Nat) (f : PortSt → PortSt) : (s.modPort p f).otp = s.otp := rfl
@[simp] theorem modPort_purser (p : Nat) (f : PortSt → PortSt) : (s.modPort p f).purser = s.purser := rfl
@[simp] theorem modPort_test (p : Nat) (f : PortSt → PortSt) : (s.modPort p f).test = s.test := rfl

@[simp] theorem setTow_pending (p : Nat) (v : TowSt) : (s.setTow p v).pending = s.pending := rfl
@[simp] theorem setTow_free (p : Nat) (v : TowSt) : (s.setTow p v).free = s.free := rfl
@[simp] theorem setTow_out (p : Nat) (v : TowSt) : (s.setTow p v).out = s.out := rfl
@[simp] theorem setTow_ticks (p : Nat) (v : TowSt) : (s.setTow p v).ticks = s.ticks := rfl
@[simp] theorem setTow_regs (p : Nat) (v : TowSt) : (s.setTow p v).regs = s.regs := rfl
@[simp] theorem setTow_staged (p : Nat) (v : TowSt) : (s.setTow p v).staged = s.staged := rfl
@[simp] theorem setTow_shadows (p : Nat) (v : TowSt) : (s.setTow p v).shadows = s.shadows := rfl
@[simp] theorem setTow_pairs (p : Nat) (v : TowSt) : (s.setTow p v).pairs = s.pairs := rfl
@[simp] theorem setTow_clears (p : Nat) (v : TowSt) : (s.setTow p v).clears = s.clears := rfl
@[simp] theorem setTow_late (p : Nat) (v : TowSt) : (s.setTow p v).late = s.late := rfl
@[simp] theorem setTow_commit (p : Nat) (v : TowSt) : (s.setTow p v).commit = s.commit := rfl
@[simp] theorem setTow_pins (p : Nat) (v : TowSt) : (s.setTow p v).pins = s.pins := rfl
@[simp] theorem setTow_always (p : Nat) (v : TowSt) : (s.setTow p v).always = s.always := rfl
@[simp] theorem setTow_start (p : Nat) (v : TowSt) : (s.setTow p v).start = s.start := rfl
@[simp] theorem setTow_modes (p : Nat) (v : TowSt) : (s.setTow p v).modes = s.modes := rfl
@[simp] theorem setTow_events (p : Nat) (v : TowSt) : (s.setTow p v).events = s.events := rfl
@[simp] theorem setTow_snap (p : Nat) (v : TowSt) : (s.setTow p v).snap = s.snap := rfl
@[simp] theorem setTow_lanes (p : Nat) (v : TowSt) : (s.setTow p v).lanes = s.lanes := rfl
@[simp] theorem setTow_asks (p : Nat) (v : TowSt) : (s.setTow p v).asks = s.asks := rfl
@[simp] theorem setTow_granted (p : Nat) (v : TowSt) : (s.setTow p v).granted = s.granted := rfl
@[simp] theorem setTow_chargeDue (p : Nat) (v : TowSt) : (s.setTow p v).chargeDue = s.chargeDue := rfl
@[simp] theorem setTow_ports (p : Nat) (v : TowSt) : (s.setTow p v).ports = s.ports := rfl
@[simp] theorem setTow_links (p : Nat) (v : TowSt) : (s.setTow p v).links = s.links := rfl
@[simp] theorem setTow_fab (p : Nat) (v : TowSt) : (s.setTow p v).fab = s.fab := rfl
@[simp] theorem setTow_nextUid (p : Nat) (v : TowSt) : (s.setTow p v).nextUid = s.nextUid := rfl
@[simp] theorem setTow_svc (p : Nat) (v : TowSt) : (s.setTow p v).svc = s.svc := rfl
@[simp] theorem setTow_landing (p : Nat) (v : TowSt) : (s.setTow p v).landing = s.landing := rfl
@[simp] theorem setTow_hcs (p : Nat) (v : TowSt) : (s.setTow p v).hcs = s.hcs := rfl
@[simp] theorem setTow_dram (p : Nat) (v : TowSt) : (s.setTow p v).dram = s.dram := rfl
@[simp] theorem setTow_tt (p : Nat) (v : TowSt) : (s.setTow p v).tt = s.tt := rfl
@[simp] theorem setTow_ledger (p : Nat) (v : TowSt) : (s.setTow p v).ledger = s.ledger := rfl
@[simp] theorem setTow_therm (p : Nat) (v : TowSt) : (s.setTow p v).therm = s.therm := rfl
@[simp] theorem setTow_activity (p : Nat) (v : TowSt) : (s.setTow p v).activity = s.activity := rfl
@[simp] theorem setTow_otp (p : Nat) (v : TowSt) : (s.setTow p v).otp = s.otp := rfl
@[simp] theorem setTow_purser (p : Nat) (v : TowSt) : (s.setTow p v).purser = s.purser := rfl
@[simp] theorem setTow_test (p : Nat) (v : TowSt) : (s.setTow p v).test = s.test := rfl

@[simp] theorem modTow_pending (p : Nat) (f : TowSt → TowSt) : (s.modTow p f).pending = s.pending := rfl
@[simp] theorem modTow_free (p : Nat) (f : TowSt → TowSt) : (s.modTow p f).free = s.free := rfl
@[simp] theorem modTow_out (p : Nat) (f : TowSt → TowSt) : (s.modTow p f).out = s.out := rfl
@[simp] theorem modTow_ticks (p : Nat) (f : TowSt → TowSt) : (s.modTow p f).ticks = s.ticks := rfl
@[simp] theorem modTow_regs (p : Nat) (f : TowSt → TowSt) : (s.modTow p f).regs = s.regs := rfl
@[simp] theorem modTow_staged (p : Nat) (f : TowSt → TowSt) : (s.modTow p f).staged = s.staged := rfl
@[simp] theorem modTow_shadows (p : Nat) (f : TowSt → TowSt) : (s.modTow p f).shadows = s.shadows := rfl
@[simp] theorem modTow_pairs (p : Nat) (f : TowSt → TowSt) : (s.modTow p f).pairs = s.pairs := rfl
@[simp] theorem modTow_clears (p : Nat) (f : TowSt → TowSt) : (s.modTow p f).clears = s.clears := rfl
@[simp] theorem modTow_late (p : Nat) (f : TowSt → TowSt) : (s.modTow p f).late = s.late := rfl
@[simp] theorem modTow_commit (p : Nat) (f : TowSt → TowSt) : (s.modTow p f).commit = s.commit := rfl
@[simp] theorem modTow_pins (p : Nat) (f : TowSt → TowSt) : (s.modTow p f).pins = s.pins := rfl
@[simp] theorem modTow_always (p : Nat) (f : TowSt → TowSt) : (s.modTow p f).always = s.always := rfl
@[simp] theorem modTow_start (p : Nat) (f : TowSt → TowSt) : (s.modTow p f).start = s.start := rfl
@[simp] theorem modTow_modes (p : Nat) (f : TowSt → TowSt) : (s.modTow p f).modes = s.modes := rfl
@[simp] theorem modTow_events (p : Nat) (f : TowSt → TowSt) : (s.modTow p f).events = s.events := rfl
@[simp] theorem modTow_snap (p : Nat) (f : TowSt → TowSt) : (s.modTow p f).snap = s.snap := rfl
@[simp] theorem modTow_lanes (p : Nat) (f : TowSt → TowSt) : (s.modTow p f).lanes = s.lanes := rfl
@[simp] theorem modTow_asks (p : Nat) (f : TowSt → TowSt) : (s.modTow p f).asks = s.asks := rfl
@[simp] theorem modTow_granted (p : Nat) (f : TowSt → TowSt) : (s.modTow p f).granted = s.granted := rfl
@[simp] theorem modTow_chargeDue (p : Nat) (f : TowSt → TowSt) : (s.modTow p f).chargeDue = s.chargeDue := rfl
@[simp] theorem modTow_ports (p : Nat) (f : TowSt → TowSt) : (s.modTow p f).ports = s.ports := rfl
@[simp] theorem modTow_links (p : Nat) (f : TowSt → TowSt) : (s.modTow p f).links = s.links := rfl
@[simp] theorem modTow_fab (p : Nat) (f : TowSt → TowSt) : (s.modTow p f).fab = s.fab := rfl
@[simp] theorem modTow_nextUid (p : Nat) (f : TowSt → TowSt) : (s.modTow p f).nextUid = s.nextUid := rfl
@[simp] theorem modTow_svc (p : Nat) (f : TowSt → TowSt) : (s.modTow p f).svc = s.svc := rfl
@[simp] theorem modTow_landing (p : Nat) (f : TowSt → TowSt) : (s.modTow p f).landing = s.landing := rfl
@[simp] theorem modTow_hcs (p : Nat) (f : TowSt → TowSt) : (s.modTow p f).hcs = s.hcs := rfl
@[simp] theorem modTow_dram (p : Nat) (f : TowSt → TowSt) : (s.modTow p f).dram = s.dram := rfl
@[simp] theorem modTow_tt (p : Nat) (f : TowSt → TowSt) : (s.modTow p f).tt = s.tt := rfl
@[simp] theorem modTow_ledger (p : Nat) (f : TowSt → TowSt) : (s.modTow p f).ledger = s.ledger := rfl
@[simp] theorem modTow_therm (p : Nat) (f : TowSt → TowSt) : (s.modTow p f).therm = s.therm := rfl
@[simp] theorem modTow_activity (p : Nat) (f : TowSt → TowSt) : (s.modTow p f).activity = s.activity := rfl
@[simp] theorem modTow_otp (p : Nat) (f : TowSt → TowSt) : (s.modTow p f).otp = s.otp := rfl
@[simp] theorem modTow_purser (p : Nat) (f : TowSt → TowSt) : (s.modTow p f).purser = s.purser := rfl
@[simp] theorem modTow_test (p : Nat) (f : TowSt → TowSt) : (s.modTow p f).test = s.test := rfl

@[simp] theorem setLink_pending (p : Nat) (v : LinkSt) : (s.setLink p v).pending = s.pending := rfl
@[simp] theorem setLink_free (p : Nat) (v : LinkSt) : (s.setLink p v).free = s.free := rfl
@[simp] theorem setLink_out (p : Nat) (v : LinkSt) : (s.setLink p v).out = s.out := rfl
@[simp] theorem setLink_ticks (p : Nat) (v : LinkSt) : (s.setLink p v).ticks = s.ticks := rfl
@[simp] theorem setLink_regs (p : Nat) (v : LinkSt) : (s.setLink p v).regs = s.regs := rfl
@[simp] theorem setLink_staged (p : Nat) (v : LinkSt) : (s.setLink p v).staged = s.staged := rfl
@[simp] theorem setLink_shadows (p : Nat) (v : LinkSt) : (s.setLink p v).shadows = s.shadows := rfl
@[simp] theorem setLink_pairs (p : Nat) (v : LinkSt) : (s.setLink p v).pairs = s.pairs := rfl
@[simp] theorem setLink_clears (p : Nat) (v : LinkSt) : (s.setLink p v).clears = s.clears := rfl
@[simp] theorem setLink_late (p : Nat) (v : LinkSt) : (s.setLink p v).late = s.late := rfl
@[simp] theorem setLink_commit (p : Nat) (v : LinkSt) : (s.setLink p v).commit = s.commit := rfl
@[simp] theorem setLink_pins (p : Nat) (v : LinkSt) : (s.setLink p v).pins = s.pins := rfl
@[simp] theorem setLink_always (p : Nat) (v : LinkSt) : (s.setLink p v).always = s.always := rfl
@[simp] theorem setLink_start (p : Nat) (v : LinkSt) : (s.setLink p v).start = s.start := rfl
@[simp] theorem setLink_modes (p : Nat) (v : LinkSt) : (s.setLink p v).modes = s.modes := rfl
@[simp] theorem setLink_events (p : Nat) (v : LinkSt) : (s.setLink p v).events = s.events := rfl
@[simp] theorem setLink_snap (p : Nat) (v : LinkSt) : (s.setLink p v).snap = s.snap := rfl
@[simp] theorem setLink_lanes (p : Nat) (v : LinkSt) : (s.setLink p v).lanes = s.lanes := rfl
@[simp] theorem setLink_asks (p : Nat) (v : LinkSt) : (s.setLink p v).asks = s.asks := rfl
@[simp] theorem setLink_granted (p : Nat) (v : LinkSt) : (s.setLink p v).granted = s.granted := rfl
@[simp] theorem setLink_chargeDue (p : Nat) (v : LinkSt) : (s.setLink p v).chargeDue = s.chargeDue := rfl
@[simp] theorem setLink_ports (p : Nat) (v : LinkSt) : (s.setLink p v).ports = s.ports := rfl
@[simp] theorem setLink_tows (p : Nat) (v : LinkSt) : (s.setLink p v).tows = s.tows := rfl
@[simp] theorem setLink_fab (p : Nat) (v : LinkSt) : (s.setLink p v).fab = s.fab := rfl
@[simp] theorem setLink_nextUid (p : Nat) (v : LinkSt) : (s.setLink p v).nextUid = s.nextUid := rfl
@[simp] theorem setLink_svc (p : Nat) (v : LinkSt) : (s.setLink p v).svc = s.svc := rfl
@[simp] theorem setLink_landing (p : Nat) (v : LinkSt) : (s.setLink p v).landing = s.landing := rfl
@[simp] theorem setLink_hcs (p : Nat) (v : LinkSt) : (s.setLink p v).hcs = s.hcs := rfl
@[simp] theorem setLink_dram (p : Nat) (v : LinkSt) : (s.setLink p v).dram = s.dram := rfl
@[simp] theorem setLink_tt (p : Nat) (v : LinkSt) : (s.setLink p v).tt = s.tt := rfl
@[simp] theorem setLink_ledger (p : Nat) (v : LinkSt) : (s.setLink p v).ledger = s.ledger := rfl
@[simp] theorem setLink_therm (p : Nat) (v : LinkSt) : (s.setLink p v).therm = s.therm := rfl
@[simp] theorem setLink_activity (p : Nat) (v : LinkSt) : (s.setLink p v).activity = s.activity := rfl
@[simp] theorem setLink_otp (p : Nat) (v : LinkSt) : (s.setLink p v).otp = s.otp := rfl
@[simp] theorem setLink_purser (p : Nat) (v : LinkSt) : (s.setLink p v).purser = s.purser := rfl
@[simp] theorem setLink_test (p : Nat) (v : LinkSt) : (s.setLink p v).test = s.test := rfl

@[simp] theorem modLink_pending (p : Nat) (f : LinkSt → LinkSt) : (s.modLink p f).pending = s.pending := rfl
@[simp] theorem modLink_free (p : Nat) (f : LinkSt → LinkSt) : (s.modLink p f).free = s.free := rfl
@[simp] theorem modLink_out (p : Nat) (f : LinkSt → LinkSt) : (s.modLink p f).out = s.out := rfl
@[simp] theorem modLink_ticks (p : Nat) (f : LinkSt → LinkSt) : (s.modLink p f).ticks = s.ticks := rfl
@[simp] theorem modLink_regs (p : Nat) (f : LinkSt → LinkSt) : (s.modLink p f).regs = s.regs := rfl
@[simp] theorem modLink_staged (p : Nat) (f : LinkSt → LinkSt) : (s.modLink p f).staged = s.staged := rfl
@[simp] theorem modLink_shadows (p : Nat) (f : LinkSt → LinkSt) : (s.modLink p f).shadows = s.shadows := rfl
@[simp] theorem modLink_pairs (p : Nat) (f : LinkSt → LinkSt) : (s.modLink p f).pairs = s.pairs := rfl
@[simp] theorem modLink_clears (p : Nat) (f : LinkSt → LinkSt) : (s.modLink p f).clears = s.clears := rfl
@[simp] theorem modLink_late (p : Nat) (f : LinkSt → LinkSt) : (s.modLink p f).late = s.late := rfl
@[simp] theorem modLink_commit (p : Nat) (f : LinkSt → LinkSt) : (s.modLink p f).commit = s.commit := rfl
@[simp] theorem modLink_pins (p : Nat) (f : LinkSt → LinkSt) : (s.modLink p f).pins = s.pins := rfl
@[simp] theorem modLink_always (p : Nat) (f : LinkSt → LinkSt) : (s.modLink p f).always = s.always := rfl
@[simp] theorem modLink_start (p : Nat) (f : LinkSt → LinkSt) : (s.modLink p f).start = s.start := rfl
@[simp] theorem modLink_modes (p : Nat) (f : LinkSt → LinkSt) : (s.modLink p f).modes = s.modes := rfl
@[simp] theorem modLink_events (p : Nat) (f : LinkSt → LinkSt) : (s.modLink p f).events = s.events := rfl
@[simp] theorem modLink_snap (p : Nat) (f : LinkSt → LinkSt) : (s.modLink p f).snap = s.snap := rfl
@[simp] theorem modLink_lanes (p : Nat) (f : LinkSt → LinkSt) : (s.modLink p f).lanes = s.lanes := rfl
@[simp] theorem modLink_asks (p : Nat) (f : LinkSt → LinkSt) : (s.modLink p f).asks = s.asks := rfl
@[simp] theorem modLink_granted (p : Nat) (f : LinkSt → LinkSt) : (s.modLink p f).granted = s.granted := rfl
@[simp] theorem modLink_chargeDue (p : Nat) (f : LinkSt → LinkSt) : (s.modLink p f).chargeDue = s.chargeDue := rfl
@[simp] theorem modLink_ports (p : Nat) (f : LinkSt → LinkSt) : (s.modLink p f).ports = s.ports := rfl
@[simp] theorem modLink_tows (p : Nat) (f : LinkSt → LinkSt) : (s.modLink p f).tows = s.tows := rfl
@[simp] theorem modLink_fab (p : Nat) (f : LinkSt → LinkSt) : (s.modLink p f).fab = s.fab := rfl
@[simp] theorem modLink_nextUid (p : Nat) (f : LinkSt → LinkSt) : (s.modLink p f).nextUid = s.nextUid := rfl
@[simp] theorem modLink_svc (p : Nat) (f : LinkSt → LinkSt) : (s.modLink p f).svc = s.svc := rfl
@[simp] theorem modLink_landing (p : Nat) (f : LinkSt → LinkSt) : (s.modLink p f).landing = s.landing := rfl
@[simp] theorem modLink_hcs (p : Nat) (f : LinkSt → LinkSt) : (s.modLink p f).hcs = s.hcs := rfl
@[simp] theorem modLink_dram (p : Nat) (f : LinkSt → LinkSt) : (s.modLink p f).dram = s.dram := rfl
@[simp] theorem modLink_tt (p : Nat) (f : LinkSt → LinkSt) : (s.modLink p f).tt = s.tt := rfl
@[simp] theorem modLink_ledger (p : Nat) (f : LinkSt → LinkSt) : (s.modLink p f).ledger = s.ledger := rfl
@[simp] theorem modLink_therm (p : Nat) (f : LinkSt → LinkSt) : (s.modLink p f).therm = s.therm := rfl
@[simp] theorem modLink_activity (p : Nat) (f : LinkSt → LinkSt) : (s.modLink p f).activity = s.activity := rfl
@[simp] theorem modLink_otp (p : Nat) (f : LinkSt → LinkSt) : (s.modLink p f).otp = s.otp := rfl
@[simp] theorem modLink_purser (p : Nat) (f : LinkSt → LinkSt) : (s.modLink p f).purser = s.purser := rfl
@[simp] theorem modLink_test (p : Nat) (f : LinkSt → LinkSt) : (s.modLink p f).test = s.test := rfl

@[simp] theorem setFab_pending (p : Nat) (v : FabPort) : (s.setFab p v).pending = s.pending := rfl
@[simp] theorem setFab_free (p : Nat) (v : FabPort) : (s.setFab p v).free = s.free := rfl
@[simp] theorem setFab_out (p : Nat) (v : FabPort) : (s.setFab p v).out = s.out := rfl
@[simp] theorem setFab_ticks (p : Nat) (v : FabPort) : (s.setFab p v).ticks = s.ticks := rfl
@[simp] theorem setFab_regs (p : Nat) (v : FabPort) : (s.setFab p v).regs = s.regs := rfl
@[simp] theorem setFab_staged (p : Nat) (v : FabPort) : (s.setFab p v).staged = s.staged := rfl
@[simp] theorem setFab_shadows (p : Nat) (v : FabPort) : (s.setFab p v).shadows = s.shadows := rfl
@[simp] theorem setFab_pairs (p : Nat) (v : FabPort) : (s.setFab p v).pairs = s.pairs := rfl
@[simp] theorem setFab_clears (p : Nat) (v : FabPort) : (s.setFab p v).clears = s.clears := rfl
@[simp] theorem setFab_late (p : Nat) (v : FabPort) : (s.setFab p v).late = s.late := rfl
@[simp] theorem setFab_commit (p : Nat) (v : FabPort) : (s.setFab p v).commit = s.commit := rfl
@[simp] theorem setFab_pins (p : Nat) (v : FabPort) : (s.setFab p v).pins = s.pins := rfl
@[simp] theorem setFab_always (p : Nat) (v : FabPort) : (s.setFab p v).always = s.always := rfl
@[simp] theorem setFab_start (p : Nat) (v : FabPort) : (s.setFab p v).start = s.start := rfl
@[simp] theorem setFab_modes (p : Nat) (v : FabPort) : (s.setFab p v).modes = s.modes := rfl
@[simp] theorem setFab_events (p : Nat) (v : FabPort) : (s.setFab p v).events = s.events := rfl
@[simp] theorem setFab_snap (p : Nat) (v : FabPort) : (s.setFab p v).snap = s.snap := rfl
@[simp] theorem setFab_lanes (p : Nat) (v : FabPort) : (s.setFab p v).lanes = s.lanes := rfl
@[simp] theorem setFab_asks (p : Nat) (v : FabPort) : (s.setFab p v).asks = s.asks := rfl
@[simp] theorem setFab_granted (p : Nat) (v : FabPort) : (s.setFab p v).granted = s.granted := rfl
@[simp] theorem setFab_chargeDue (p : Nat) (v : FabPort) : (s.setFab p v).chargeDue = s.chargeDue := rfl
@[simp] theorem setFab_ports (p : Nat) (v : FabPort) : (s.setFab p v).ports = s.ports := rfl
@[simp] theorem setFab_tows (p : Nat) (v : FabPort) : (s.setFab p v).tows = s.tows := rfl
@[simp] theorem setFab_links (p : Nat) (v : FabPort) : (s.setFab p v).links = s.links := rfl
@[simp] theorem setFab_nextUid (p : Nat) (v : FabPort) : (s.setFab p v).nextUid = s.nextUid := rfl
@[simp] theorem setFab_svc (p : Nat) (v : FabPort) : (s.setFab p v).svc = s.svc := rfl
@[simp] theorem setFab_landing (p : Nat) (v : FabPort) : (s.setFab p v).landing = s.landing := rfl
@[simp] theorem setFab_hcs (p : Nat) (v : FabPort) : (s.setFab p v).hcs = s.hcs := rfl
@[simp] theorem setFab_dram (p : Nat) (v : FabPort) : (s.setFab p v).dram = s.dram := rfl
@[simp] theorem setFab_tt (p : Nat) (v : FabPort) : (s.setFab p v).tt = s.tt := rfl
@[simp] theorem setFab_ledger (p : Nat) (v : FabPort) : (s.setFab p v).ledger = s.ledger := rfl
@[simp] theorem setFab_therm (p : Nat) (v : FabPort) : (s.setFab p v).therm = s.therm := rfl
@[simp] theorem setFab_activity (p : Nat) (v : FabPort) : (s.setFab p v).activity = s.activity := rfl
@[simp] theorem setFab_otp (p : Nat) (v : FabPort) : (s.setFab p v).otp = s.otp := rfl
@[simp] theorem setFab_purser (p : Nat) (v : FabPort) : (s.setFab p v).purser = s.purser := rfl
@[simp] theorem setFab_test (p : Nat) (v : FabPort) : (s.setFab p v).test = s.test := rfl

@[simp] theorem modFab_pending (p : Nat) (f : FabPort → FabPort) : (s.modFab p f).pending = s.pending := rfl
@[simp] theorem modFab_free (p : Nat) (f : FabPort → FabPort) : (s.modFab p f).free = s.free := rfl
@[simp] theorem modFab_out (p : Nat) (f : FabPort → FabPort) : (s.modFab p f).out = s.out := rfl
@[simp] theorem modFab_ticks (p : Nat) (f : FabPort → FabPort) : (s.modFab p f).ticks = s.ticks := rfl
@[simp] theorem modFab_regs (p : Nat) (f : FabPort → FabPort) : (s.modFab p f).regs = s.regs := rfl
@[simp] theorem modFab_staged (p : Nat) (f : FabPort → FabPort) : (s.modFab p f).staged = s.staged := rfl
@[simp] theorem modFab_shadows (p : Nat) (f : FabPort → FabPort) : (s.modFab p f).shadows = s.shadows := rfl
@[simp] theorem modFab_pairs (p : Nat) (f : FabPort → FabPort) : (s.modFab p f).pairs = s.pairs := rfl
@[simp] theorem modFab_clears (p : Nat) (f : FabPort → FabPort) : (s.modFab p f).clears = s.clears := rfl
@[simp] theorem modFab_late (p : Nat) (f : FabPort → FabPort) : (s.modFab p f).late = s.late := rfl
@[simp] theorem modFab_commit (p : Nat) (f : FabPort → FabPort) : (s.modFab p f).commit = s.commit := rfl
@[simp] theorem modFab_pins (p : Nat) (f : FabPort → FabPort) : (s.modFab p f).pins = s.pins := rfl
@[simp] theorem modFab_always (p : Nat) (f : FabPort → FabPort) : (s.modFab p f).always = s.always := rfl
@[simp] theorem modFab_start (p : Nat) (f : FabPort → FabPort) : (s.modFab p f).start = s.start := rfl
@[simp] theorem modFab_modes (p : Nat) (f : FabPort → FabPort) : (s.modFab p f).modes = s.modes := rfl
@[simp] theorem modFab_events (p : Nat) (f : FabPort → FabPort) : (s.modFab p f).events = s.events := rfl
@[simp] theorem modFab_snap (p : Nat) (f : FabPort → FabPort) : (s.modFab p f).snap = s.snap := rfl
@[simp] theorem modFab_lanes (p : Nat) (f : FabPort → FabPort) : (s.modFab p f).lanes = s.lanes := rfl
@[simp] theorem modFab_asks (p : Nat) (f : FabPort → FabPort) : (s.modFab p f).asks = s.asks := rfl
@[simp] theorem modFab_granted (p : Nat) (f : FabPort → FabPort) : (s.modFab p f).granted = s.granted := rfl
@[simp] theorem modFab_chargeDue (p : Nat) (f : FabPort → FabPort) : (s.modFab p f).chargeDue = s.chargeDue := rfl
@[simp] theorem modFab_ports (p : Nat) (f : FabPort → FabPort) : (s.modFab p f).ports = s.ports := rfl
@[simp] theorem modFab_tows (p : Nat) (f : FabPort → FabPort) : (s.modFab p f).tows = s.tows := rfl
@[simp] theorem modFab_links (p : Nat) (f : FabPort → FabPort) : (s.modFab p f).links = s.links := rfl
@[simp] theorem modFab_nextUid (p : Nat) (f : FabPort → FabPort) : (s.modFab p f).nextUid = s.nextUid := rfl
@[simp] theorem modFab_svc (p : Nat) (f : FabPort → FabPort) : (s.modFab p f).svc = s.svc := rfl
@[simp] theorem modFab_landing (p : Nat) (f : FabPort → FabPort) : (s.modFab p f).landing = s.landing := rfl
@[simp] theorem modFab_hcs (p : Nat) (f : FabPort → FabPort) : (s.modFab p f).hcs = s.hcs := rfl
@[simp] theorem modFab_dram (p : Nat) (f : FabPort → FabPort) : (s.modFab p f).dram = s.dram := rfl
@[simp] theorem modFab_tt (p : Nat) (f : FabPort → FabPort) : (s.modFab p f).tt = s.tt := rfl
@[simp] theorem modFab_ledger (p : Nat) (f : FabPort → FabPort) : (s.modFab p f).ledger = s.ledger := rfl
@[simp] theorem modFab_therm (p : Nat) (f : FabPort → FabPort) : (s.modFab p f).therm = s.therm := rfl
@[simp] theorem modFab_activity (p : Nat) (f : FabPort → FabPort) : (s.modFab p f).activity = s.activity := rfl
@[simp] theorem modFab_otp (p : Nat) (f : FabPort → FabPort) : (s.modFab p f).otp = s.otp := rfl
@[simp] theorem modFab_purser (p : Nat) (f : FabPort → FabPort) : (s.modFab p f).purser = s.purser := rfl
@[simp] theorem modFab_test (p : Nat) (f : FabPort → FabPort) : (s.modFab p f).test = s.test := rfl

end Sys2Proof.Machine.State
end

