-- ==== Sys2Proof/Laws/Word.lean ====
section
/-!
SUPPORT. Laws/Word.lean: what replacing a bit field of a word does to that field and to the others.
-/
set_option autoImplicit false

namespace Sys2Proof

/-- The number of a word with a field replaced. -/
theorem Word.toNat_withBits (w : Word) (hi lo v : Nat) (h : lo ≤ hi) (h2 : hi < 32) :
    (w.withBits hi lo v).toNat =
      w.toNat / 2 ^ (hi + 1) * 2 ^ (hi + 1) + v % 2 ^ (hi + 1 - lo) * 2 ^ lo + w.toNat % 2 ^ lo := by
  unfold Word.withBits
  rw [BitVec.toNat_ofNat]
  apply Nat.mod_eq_of_lt
  have hw : w.toNat < 2 ^ 32 := w.isLt
  obtain ⟨k, hk⟩ : ∃ k, hi + 1 = lo + k := ⟨hi + 1 - lo, by omega⟩
  obtain ⟨m, hm⟩ : ∃ m, 32 = hi + 1 + m := ⟨32 - (hi + 1), by omega⟩
  have e32 : 2 ^ 32 = 2 ^ (hi + 1 + m) := by rw [← hm]
  rw [show hi + 1 - lo = k by omega, e32]
  rw [e32] at hw
  have hx : v % 2 ^ k < 2 ^ k := Nat.mod_lt _ (Nat.two_pow_pos k)
  have hy : w.toNat % 2 ^ lo < 2 ^ lo := Nat.mod_lt _ (Nat.two_pow_pos lo)
  have hA : w.toNat / 2 ^ (hi + 1) < 2 ^ m := Nat.div_lt_of_lt_mul (by rw [← Nat.pow_add]; exact hw)
  have h1 : v % 2 ^ k * 2 ^ lo + w.toNat % 2 ^ lo < 2 ^ (hi + 1) := by
    rw [hk, Nat.pow_add]
    calc v % 2 ^ k * 2 ^ lo + w.toNat % 2 ^ lo < v % 2 ^ k * 2 ^ lo + 2 ^ lo := Nat.add_lt_add_left hy _
      _ = (v % 2 ^ k + 1) * 2 ^ lo := by ring
      _ ≤ 2 ^ k * 2 ^ lo := Nat.mul_le_mul_right _ hx
      _ = 2 ^ lo * 2 ^ k := by ring
  calc w.toNat / 2 ^ (hi + 1) * 2 ^ (hi + 1) + v % 2 ^ k * 2 ^ lo + w.toNat % 2 ^ lo
      < w.toNat / 2 ^ (hi + 1) * 2 ^ (hi + 1) + 2 ^ (hi + 1) := by omega
    _ = (w.toNat / 2 ^ (hi + 1) + 1) * 2 ^ (hi + 1) := by ring
    _ ≤ 2 ^ m * 2 ^ (hi + 1) := Nat.mul_le_mul_right _ hA
    _ = 2 ^ (hi + 1 + m) := by rw [Nat.pow_add]; ring

/-- A replaced field reads as the low bits of the value. -/
theorem Word.bits_withBits_same (w : Word) (hi lo v : Nat) (h : lo ≤ hi) (h2 : hi < 32) :
    (w.withBits hi lo v).bits hi lo = v % 2 ^ (hi + 1 - lo) := by
  unfold Word.bits
  rw [Word.toNat_withBits w hi lo v h h2]
  obtain ⟨k, hk⟩ : ∃ k, hi + 1 = lo + k := ⟨hi + 1 - lo, by omega⟩
  rw [show hi + 1 - lo = k by omega, hk, Nat.pow_add]
  have hy : w.toNat % 2 ^ lo < 2 ^ lo := Nat.mod_lt _ (Nat.two_pow_pos lo)
  rw [show w.toNat / (2 ^ lo * 2 ^ k) * (2 ^ lo * 2 ^ k) + v % 2 ^ k * 2 ^ lo + w.toNat % 2 ^ lo =
      w.toNat % 2 ^ lo + 2 ^ lo * (w.toNat / (2 ^ lo * 2 ^ k) * 2 ^ k + v % 2 ^ k) by ring,
    Nat.add_mul_div_left _ _ (Nat.two_pow_pos lo), Nat.div_eq_of_lt hy, Nat.zero_add, Nat.mul_comm, Nat.mul_add_mod]
  exact Nat.mod_mod _ _

/-- A field above a replaced one keeps its value. -/
theorem Word.bits_withBits_above (w : Word) (hi lo v hi' lo' : Nat) (h : lo ≤ hi) (h2 : hi < 32) (h3 : hi < lo') :
    (w.withBits hi lo v).bits hi' lo' = w.bits hi' lo' := by
  unfold Word.bits
  rw [Word.toNat_withBits w hi lo v h h2]
  obtain ⟨m, rfl⟩ : ∃ m, lo' = hi + 1 + m := ⟨lo' - (hi + 1), by omega⟩
  rw [Nat.pow_add 2 (hi + 1) m, ← Nat.div_div_eq_div_mul, ← Nat.div_div_eq_div_mul]
  congr 2
  obtain ⟨k, hk⟩ : ∃ k, hi + 1 = lo + k := ⟨hi + 1 - lo, by omega⟩
  have hx : v % 2 ^ (hi + 1 - lo) < 2 ^ k := by rw [show hi + 1 - lo = k by omega]; exact Nat.mod_lt _ (Nat.two_pow_pos k)
  have hy : w.toNat % 2 ^ lo < 2 ^ lo := Nat.mod_lt _ (Nat.two_pow_pos lo)
  have h1 : v % 2 ^ (hi + 1 - lo) * 2 ^ lo + w.toNat % 2 ^ lo < 2 ^ (hi + 1) := by
    rw [hk, Nat.pow_add]
    calc v % 2 ^ (lo + k - lo) * 2 ^ lo + w.toNat % 2 ^ lo < v % 2 ^ (lo + k - lo) * 2 ^ lo + 2 ^ lo := Nat.add_lt_add_left hy _
      _ = (v % 2 ^ (lo + k - lo) + 1) * 2 ^ lo := by ring
      _ ≤ 2 ^ k * 2 ^ lo := Nat.mul_le_mul_right _ (by rw [hk] at hx; exact hx)
      _ = 2 ^ lo * 2 ^ k := by ring
  rw [show ∀ a b c d : Nat, a * b + c + d = (c + d) + b * a from fun a b c d => by ring,
    Nat.add_mul_div_left _ _ (Nat.two_pow_pos _), Nat.div_eq_of_lt h1, Nat.zero_add]

/-- A field below a replaced one keeps its value. -/
theorem Word.bits_withBits_below (w : Word) (hi lo v hi' lo' : Nat) (h : lo ≤ hi) (h2 : hi < 32) (h3 : hi' < lo) :
    (w.withBits hi lo v).bits hi' lo' = w.bits hi' lo' := by
  unfold Word.bits
  rw [Word.toNat_withBits w hi lo v h h2]
  by_cases hl : lo' ≤ hi'
  · obtain ⟨k, hk⟩ : ∃ k, hi' + 1 = lo' + k := ⟨hi' + 1 - lo', by omega⟩
    obtain ⟨m, hm⟩ : ∃ m, lo = lo' + k + m := ⟨lo - (lo' + k), by omega⟩
    rw [show hi' + 1 - lo' = k by omega, ← Nat.mod_mul_right_div_self, ← Nat.mod_mul_right_div_self, ← Nat.pow_add]
    congr 1
    obtain ⟨q, hq⟩ : ∃ q, hi + 1 = lo + q := ⟨hi + 1 - lo, by omega⟩
    have e : 2 ^ (lo' + k) ∣ w.toNat / 2 ^ (hi + 1) * 2 ^ (hi + 1) + v % 2 ^ (hi + 1 - lo) * 2 ^ lo := by
      rw [hq, hm]
      exact Nat.dvd_add (Dvd.dvd.mul_left (Nat.pow_dvd_pow 2 (by omega)) _) (Dvd.dvd.mul_left (Nat.pow_dvd_pow 2 (by omega)) _)
    obtain ⟨d, hd⟩ := e
    rw [hd, Nat.mul_add_mod, hm, Nat.pow_add 2 (lo' + k) m, Nat.mod_mul_right_mod]
  · have : hi' + 1 - lo' = 0 := by omega
    rw [this]; simp [Nat.mod_one]

end Sys2Proof
end

