-- ==== Sys2Proof/Laws/Ops.lean ====
section
/-!
SUPPORT. Laws/Ops.lean: what a register, a field or a part of State reads as after a named operation.
-/
set_option autoImplicit false

namespace Sys2Proof.Machine.State
variable (s : State)

/-! ### Registers -/

theorem reg_setReg (a b : Nat) (v : Word) : (s.setReg a v).reg b = if b = a then v else s.reg b := KMap.get_put resetAt s.regs a b v

@[simp] theorem reg_setReg_same (a : Nat) (v : Word) : (s.setReg a v).reg a = v := by simp [reg_setReg]

theorem reg_setReg_ne {a b : Nat} (v : Word) (h : b ≠ a) : (s.setReg a v).reg b = s.reg b := by simp [reg_setReg, h]

theorem reg_put (f : Field) (v b : Nat) :
    (s.put f v).reg b = if b = f.addr then (s.reg f.addr).withBits f.hi f.lo v else s.reg b := reg_setReg s _ b _

theorem reg_put_ne {f : Field} {b : Nat} (v : Nat) (h : b ≠ f.addr) : (s.put f v).reg b = s.reg b := reg_setReg_ne s _ h

theorem reg_putFlag_ne {f : Field} {a : Nat} (b : Bool) (h : a ≠ f.addr) : (s.putFlag f b).reg a = s.reg a := reg_setReg_ne s _ h

theorem reg_of_regs {s t : State} (h : t.regs = s.regs) (a : Nat) : t.reg a = s.reg a := by unfold reg; rw [h]

@[simp] theorem reg_raiseEvent (e i a : Nat) : (s.raiseEvent e i).reg a = s.reg a := rfl
@[simp] theorem reg_acted (k n a : Nat) : (s.acted k n).reg a = s.reg a := rfl
@[simp] theorem reg_drew (a : Nat) : s.drew.reg a = s.reg a := rfl
@[simp] theorem reg_modLane (l a : Nat) (f : LaneSt → LaneSt) : (s.modLane l f).reg a = s.reg a := rfl
@[simp] theorem reg_modPort (p a : Nat) (f : PortSt → PortSt) : (s.modPort p f).reg a = s.reg a := rfl
@[simp] theorem reg_modTow (p a : Nat) (f : TowSt → TowSt) : (s.modTow p f).reg a = s.reg a := rfl
@[simp] theorem reg_modLink (p a : Nat) (f : LinkSt → LinkSt) : (s.modLink p f).reg a = s.reg a := rfl
@[simp] theorem reg_modFab (p a : Nat) (f : FabPort → FabPort) : (s.modFab p f).reg a = s.reg a := rfl

/-- A cause bit sets its bit of its cause register and touches no other register. -/
theorem reg_causeWith (c : CauseBit) (i a : Nat) : (s.causeWith c i).reg a = (s.put ⟨c.cause, c.bit, c.bit⟩ 1).reg a := by
  simp only [causeWith]; split <;> rfl

@[simp] theorem reg_cause (c : CauseBit) (a : Nat) : (s.cause c).reg a = (s.put ⟨c.cause, c.bit, c.bit⟩ 1).reg a := reg_causeWith s c 0 a

theorem reg_addField (f : Field) (n a : Nat) (h : a ≠ f.addr) : (s.addField f n).reg a = s.reg a := reg_put_ne s _ h

theorem reg_addSat (a n b : Nat) (h : b ≠ a) : (s.addSat a n).reg b = s.reg b := reg_setReg_ne s _ h

/-! ### Fields -/

/-- A field just written reads as the value's low bits. -/
theorem get_put_same (f : Field) (v : Nat) (h : f.lo ≤ f.hi) (h2 : f.hi < 32) : (s.put f v).get f = v % 2 ^ (f.hi + 1 - f.lo) := by
  unfold get
  rw [reg_put, if_pos rfl]
  exact Word.bits_withBits_same _ _ _ _ h h2

/-- A field of another register keeps its value. -/
theorem get_put_ne (f g : Field) (v : Nat) (h : g.addr ≠ f.addr) : (s.put f v).get g = s.get g := by
  unfold get
  rw [reg_put_ne s v h]

/-- A field above a written one keeps its value. -/
theorem get_put_above (f g : Field) (v : Nat) (h : f.lo ≤ f.hi) (h2 : f.hi < 32) (h3 : f.hi < g.lo) : (s.put f v).get g = s.get g := by
  unfold get
  rw [reg_put]
  split
  · rename_i e
    rw [Word.bits_withBits_above _ _ _ _ _ _ h h2 h3, e]
  · rfl

/-- A field below a written one keeps its value. -/
theorem get_put_below (f g : Field) (v : Nat) (h : f.lo ≤ f.hi) (h2 : f.hi < 32) (h3 : g.hi < f.lo) : (s.put f v).get g = s.get g := by
  unfold get
  rw [reg_put]
  split
  · rename_i e
    rw [Word.bits_withBits_below _ _ _ _ _ _ h h2 h3, e]
  · rfl

theorem get_of_reg {s t : State} {f : Field} (h : t.reg f.addr = s.reg f.addr) : t.get f = s.get f := by unfold get; rw [h]

/-! ### Parts by number -/

theorem lane_setLane (l k : Nat) (v : LaneSt) : (s.setLane l v).lane k = if k = l then v else s.lane k := KMap.get_put _ s.lanes l k v
theorem port_setPort (p k : Nat) (v : PortSt) : (s.setPort p v).port k = if k = p then v else s.port k := KMap.get_put _ s.ports p k v
theorem tow_setTow (p k : Nat) (v : TowSt) : (s.setTow p v).tow k = if k = p then v else s.tow k := KMap.get_put _ s.tows p k v
theorem link_setLink (p k : Nat) (v : LinkSt) : (s.setLink p v).link k = if k = p then v else s.link k := KMap.get_put _ s.links p k v
theorem fabPort_setFab (p k : Nat) (v : FabPort) : (s.setFab p v).fabPort k = if k = p then v else s.fabPort k := KMap.get_put _ s.fab p k v

@[simp] theorem lane_modLane (l : Nat) (f : LaneSt → LaneSt) : (s.modLane l f).lane l = f (s.lane l) := by simp [modLane, lane_setLane]
@[simp] theorem port_modPort (p : Nat) (f : PortSt → PortSt) : (s.modPort p f).port p = f (s.port p) := by simp [modPort, port_setPort]
@[simp] theorem tow_modTow (p : Nat) (f : TowSt → TowSt) : (s.modTow p f).tow p = f (s.tow p) := by simp [modTow, tow_setTow]
@[simp] theorem link_modLink (p : Nat) (f : LinkSt → LinkSt) : (s.modLink p f).link p = f (s.link p) := by simp [modLink, link_setLink]
@[simp] theorem fabPort_modFab (p : Nat) (f : FabPort → FabPort) : (s.modFab p f).fabPort p = f (s.fabPort p) := by
  simp [modFab, fabPort_setFab]

end Sys2Proof.Machine.State
end

