-- ==== Sys2Proof/Laws/Codes.lean ====
section
/-!
SUPPORT. Laws/Codes.lean: what the codes can do: a CRC fits its width, a flit that is built passes its own check, the field of the outer code
at zero and along the powers of its generator, and the configuration check against a change outside the registers it guards.
-/
set_option autoImplicit false

namespace Sys2Proof.Machine

open Reg

/-! ### The CRCs -/

theorem crcStep_lt (w poly crc : Nat) (b : Bool) (h : poly < 2 ^ w) : crcStep w poly crc b < 2 ^ w := by
  have h1 : crc * 2 % 2 ^ w < 2 ^ w := Nat.mod_lt _ (Nat.two_pow_pos w)
  unfold crcStep
  simp only
  split
  · exact Nat.xor_lt_two_pow h1 h
  · exact h1

theorem crcBits_lt (w poly start : Nat) (bits : List Bool) (h : poly < 2 ^ w) (hs : start < 2 ^ w) : crcBits w poly start bits < 2 ^ w := by
  unfold crcBits
  induction bits generalizing start with
  | nil => exact hs
  | cons b t ih => exact ih _ (crcStep_lt w poly start b h)

theorem crc64_lt (l : List Byte) : crc64 l < 2 ^ 64 :=
  Nat.xor_lt_two_pow (crcBits_lt 64 _ _ _ (by decide) (by decide)) (by decide)

/-! ### Bytes and flits -/

theorem ofBytesBE_bytesBE (v : Nat) (h : v < 2 ^ 64) : ofBytesBE (bytesBE 8 v) = v := by
  simp only [ofBytesBE, bytesBE, List.range, List.range.loop, List.map, List.foldl, BitVec.toNat_ofNat]
  omega

@[simp] theorem length_bytesBE (n v : Nat) : (bytesBE n v).length = n := by simp [bytesBE]

/-- A body of the right length followed by its CRC-64 passes the check (R192). -/
theorem flitCrcOk_append (v2 : Bool) (body : List Byte) (h : body.length = flitBytes v2 - 8) (h8 : 8 ≤ flitBytes v2) :
    flitCrcOk v2 (body ++ bytesBE 8 (crc64 body)) = true := by
  unfold flitCrcOk
  rw [← h, List.drop_left, List.take_left, ofBytesBE_bytesBE _ (crc64_lt body)]
  simp only [List.length_append, length_bytesBE, beq_self_eq_true, Bool.and_true, beq_iff_eq]
  omega

/-- The flit the device builds without a transaction passes its own check. -/
theorem flitCrcOk_buildFlit_nil (v2 : Bool) (h : FlitHead) (n : Nat) : flitCrcOk v2 (buildFlit v2 h [] n) = true := by
  unfold buildFlit
  apply flitCrcOk_append
  · have hs : ∀ k : Nat, (List.replicate k (List.replicate 16 (0 : Byte))).flatten.length = k * 16 := by
      intro k; rw [List.length_flatten, List.map_replicate, List.length_replicate, List.sum_replicate, smul_eq_mul]
    simp only [List.nil_append, List.take_replicate, List.length_append, length_bytesBE, hs, List.length_nil]
    cases v2 <;> simp only [if_true, if_false, Bool.false_eq_true, List.length_append, length_bytesBE, List.length_replicate] <;> decide
  · cases v2 <;> decide

/-! ### The field of the outer code -/

theorem gfExp_succ (n : Nat) (h : n + 1 < 1023) : gfExp (n + 1) = gfTwice (gfExp n) := by
  unfold gfExp
  rw [Nat.mod_eq_of_lt h, Nat.mod_eq_of_lt (by omega : n < 1023), List.range_succ, List.foldl_append]
  rfl

@[simp] theorem gfMul_zero_left (b : Nat) : gfMul 0 b = 0 := by
  unfold gfMul
  generalize List.range 10 = l
  induction l with
  | nil => rfl
  | cons i t ih => simpa [List.foldl, gfTwice] using ih

/-- Zero symbols at the front of a word leave its syndrome sums as they are. -/
theorem horner_zeros (n e : Nat) (l : List Nat) :
    (List.replicate n 0 ++ l).foldl (fun r c => Nat.xor (gfMul r e) c) 0 = l.foldl (fun r c => Nat.xor (gfMul r e) c) 0 := by
  induction n with
  | zero => rfl
  | succ n ih => simpa [List.replicate_succ] using ih

theorem rsSyndromes_zeros (n : Nat) (l : List Nat) : rsSyndromes (List.replicate n 0 ++ l) = rsSyndromes l := by
  simp only [rsSyndromes, horner_zeros]

/-- No root of a polynomial among n powers of the generator in a row. -/
def rootless (loc : List Nat) : Nat → Nat → Bool
  | 0, _ => true
  | n + 1, x => gfEval loc x != 0 && rootless loc n (gfTwice x)

theorem rootless_powers (loc : List Nat) (n k : Nat) (h : rootless loc n (gfExp k) = true) (hk : k + n ≤ 1023) :
    ∀ i < n, gfEval loc (gfExp (k + i)) ≠ 0 := by
  induction n generalizing k with
  | zero => omega
  | succ n ih =>
    simp only [rootless, Bool.and_eq_true, bne_iff_ne] at h
    intro i hi
    cases i with
    | zero => exact h.1
    | succ i =>
      have h2 := ih (k + 1) (by rw [gfExp_succ k (by omega)]; exact h.2) (by omega) i (by omega)
      rwa [Nat.add_assoc, Nat.add_comm 1 i] at h2

/-- A search that has reached length 16 before its last steps stays there. -/
theorem rsStep_length_kept (syn : List Nat) (l : List Nat) (x : RsSearch) (h : x.len = 16) (hl : ∀ n ∈ l, n < 32) :
    (l.foldl (rsStep syn) x).len = 16 := by
  induction l generalizing x with
  | nil => exact h
  | cons n t ih =>
    refine ih (rsStep syn x n) ?_ (fun m hm => hl m (List.mem_cons_of_mem n hm))
    have hn : n < 32 := hl n List.mem_cons_self
    unfold rsStep
    simp only
    split
    · exact h
    · rw [if_neg (by omega)]; exact h

/-! ### The configuration check -/

theorem mem_foldl_ins (l : List (Nat × Nat)) (m : KMap Nat) (q : Nat × Nat) (h : q ∈ l.foldl (fun (m : KMap Nat) p => m.ins p.1 p.2) m) :
    q ∈ m ∨ q ∈ l := by
  induction l generalizing m with
  | nil => exact Or.inl h
  | cons p t ih =>
    rcases ih (m.ins p.1 p.2) h with h | h
    · rcases KMap.mem_ins m p.1 p.2 q h with h | h
      · exact Or.inr (by rw [h]; exact List.mem_cons_self)
      · exact Or.inl h
    · exact Or.inr (List.mem_cons_of_mem p h)

/-- The addresses of a block's guarded registers avoid another address. -/
def guardedAvoid (a : Nat) (l : List RegRow) : Bool :=
  (l.filter guardedRow).all fun r => (List.range r.count).all fun i => r.base + i * r.stride != a

theorem guardedRegs_avoid (a : Nat) (hl : GLB_LOCK ≠ a)
    (h : [rowsGlobal, rowsLane, rowsPort, rowsLink, rowsServices, rowsTimetable, rowsHc, rowsArb, rowsEcc, rowsLanding, rowsFabric, rowsThermal,
      rowsPower, rowsEvents, rowsSnapshot, rowsMailbox].all (guardedAvoid a) = true) : ∀ p ∈ guardedRegs, p.1 ≠ a := by
  have key : ∀ l : List RegRow, guardedAvoid a l = true → ∀ (q : Nat × Nat), q ∈ List.foldl (fun (m : KMap Nat) p => m.ins p.1 p.2) []
      ((l.filter guardedRow).flatMap fun r => (List.range r.count).map fun i => (r.base + i * r.stride, 0xFFFFFFFF - r.w1s)) → q.1 ≠ a := by
    intro l hl q hq
    rcases mem_foldl_ins _ _ q hq with hq | hq
    · cases hq
    · simp only [List.mem_flatMap, List.mem_map] at hq
      obtain ⟨r, hr, i, hi, rfl⟩ := hq
      have h1 := List.all_eq_true.1 hl r hr
      simpa using List.all_eq_true.1 h1 i hi
  rw [List.all_eq_true] at h
  simp only [List.mem_cons, List.not_mem_nil, or_false, forall_eq_or_imp, forall_eq] at h
  intro p hp
  unfold guardedRegs at hp
  simp only [List.mem_append] at hp
  obtain ⟨h1, h2, h3, h4, h5, h6, h7, h8, h9, h10, h11, h12, h13, h14, h15, h16⟩ := h
  rcases hp with ((((((((((((((hp | hp) | hp) | hp) | hp) | hp) | hp) | hp) | hp) | hp) | hp) | hp) | hp) | hp) | hp) | hp
  · rcases KMap.mem_ins _ _ _ _ hp with hp | hp
    · rw [hp]; exact hl
    · exact key _ h1 p hp
  all_goals exact key _ (by assumption) p hp

/-- The CRC of a pass does not see a register outside the guarded ones (R502). -/
theorem guardedCrc_setReg (s : State) (a : Nat) (v : Word) (h : ∀ p ∈ guardedRegs, p.1 ≠ a) : guardedCrc (s.setReg a v) = guardedCrc s := by
  unfold guardedCrc
  rw [List.flatMap_congr fun p hp => by rw [State.reg_setReg_ne s v (h p hp)]]

end Sys2Proof.Machine
end

