-- ==== Sys2Proof/Laws/Registers.lean ====
section
/-!
SUPPORT. Laws/Registers.lean: what a write of a writable register comes to, and the rows of registers that commands write.
-/
set_option autoImplicit false

namespace Sys2Proof.Machine
open Reg Bit

/-- A write of a writable register is the write its row makes. -/
theorem write_of_writable {s : State} {a : Nat} (h : writable s a = true) {r : RegRow} {i : Nat} (hr : rowAt a = some (r, i)) (src : Nat)
    (v : Word) : write src a v s = writeRow r i src a v s := by
  unfold writable at h
  rw [hr, Bool.and_eq_true, Bool.not_eq_true'] at h
  simp [write, cfgWrite, h.1, h.2, hr]

/-- A write of a register that no row holds, or while the logic is in reset, changes nothing (R492). -/
theorem write_nothing {s : State} {a : Nat} (h : s.up = false ∨ rowAt a = none) (src : Nat) (v : Word) : write src a v s = s := by
  unfold write cfgWrite
  rcases h with h | h
  · simp [h]
  · by_cases hu : s.up = true <;> simp [h, hu]

end Sys2Proof.Machine
end

