-- ==== Sys2Proof/Tests/Slice0.lean ====
section
/-!
SUPPORT. Tests/Slice0.lean: the model's own tests: operands that are refused as ill-formed, constants and worked examples of the spec, and
for each obligation a state and operands that meet its hypotheses.
-/
set_option autoImplicit false

namespace Sys2Proof.Tests

set_option Elab.async false

open Sys2Proof.Machine Reg Bit

/-! ### A small running machine -/

/-- The logic is released and in SERVICE; everything else is as after reset. -/
def up0 : State := { State.reset with
  pins := { State.reset.pins with pwrgood := true, resetN := true }
  start := { State.reset.start with phase := .ended, waitPins := false, diesOut := true }
  regs := [(PWR_MODE, 2)] }

/-! ### Operands that no outside brings are refused, one for each check of WellFormed.lean -/

/-- A header that fits, and an outcome of training without a finding. -/
def plainHeader : Header := ⟨Op.rd, 0, true, 5, 6, 0, false, false, false, 0x100, 0, 64, 0⟩
def trained (h : Nat) : TrainOutcome := { hc := h, failStep := 0, us := 0, wck := 0, dq := [], newDq := [], newCa := [] }
def bootSlot (key : Nat) : BootSlot :=
  { readOk := true, headerOk := true, keyIndex := key, hashOk := true, sigOk := true, revId := 0, rollback := 0, fwVersion := 0, config := none }

theorem test_wf_accepts : [Instr.crossingBoundary, .ttClr 0x10, .rd 3 plainHeader [] [], .train [trained 127] [], .boot (bootSlot 1) (bootSlot 2),
    .i3cPrivateRead 1026, .laneJoin 5 12 4091].all Instr.wf = true := by decide +kernel
theorem test_wf_source : [(Instr.ttClr 0x19), .glbLockWrite 0x1E 0, .causeRead 0x1A ⟨0, by decide⟩].all (fun c => !c.wf) = true := by decide +kernel
theorem test_wf_header : [Instr.rd 3 { plainHeader with opcode := 64 } [] [], .rd 3 { plainHeader with addr := 2 ^ 36 } [] [],
    .cpl 3 { plainHeader with tag := 4096 } [], .nak 3 { plainHeader with len := 16 } [], .wr 3 { plainHeader with len := 1 } [] [],
    .rd 3 plainHeader [] [(2 ^ 30, true)]].all (fun c => !c.wf) = true := by decide +kernel
theorem test_wf_measured : [Instr.vqpsPresent 4096, .losAssert 5 4096, .init [] (2 ^ 32), .release (2 ^ 32), .thresholdMet 5 0 32 0,
    .laneJoin 5 0 4092, .trackingPass 5 false 0 [(38, 0)], .tripMonitorRead [(88, 0)], .snapLatch (List.replicate 7 0),
    .prbsLockLost 5 ⟨true, 1, 2, 0⟩, .prbsVerifyEnd 3 [⟨true, 9, 1, 3⟩]].all (fun c => !c.wf) = true := by decide +kernel
theorem test_wf_findings : [Instr.fuse [⟨9, 0, true, true⟩] [], .fuse [] [4], .boot (bootSlot 256) (bootSlot 0), .selftest 0 [.queueSram 0],
    .selftest 0 [.landing 32 0], .selftest 0 [.tsv 6016 0 false], .selftest 0 [.row 0 32 0], .selftest 0 [.save 0 0 0 4 []],
    .shutdownPhaseDone [.lane 128] true, .train [trained 128] [], .train [] [⟨16, 0, true, 0, 0⟩], .fieldRetrainEnd { trained 0 with failStep := 16 },
    .init [⟨4096, 0, false, false, []⟩] 0, .berth 5 false [(36, 1)], .otpReread [⟨0, 1536, true, true⟩],
    .recordingPass ⟨[3072], []⟩ ⟨[], []⟩ none, .recordingPass ⟨[], []⟩ ⟨[], []⟩ (some 3072)].all (fun c => !c.wf) = true := by decide +kernel
theorem test_wf_lengths : [Instr.maskWindowEnd 5 [0], .cap 3 [], .mgmt 3 (List.replicate 65 0), .lockPair 3 [1, 2] true 0,
    .lockPair 3 (List.replicate 8 1024) true 0, .codewordDecode 3 [0], .innerBlockDecode 5 [0], .hail 3 0 [0], .flitReceived 3 [0] true,
    .frameEnd 3 [] (List.replicate 9 (0, 0)), .delayTimer 3 64 0, .recordExpiry 3 0 4096, .i3cBufferWrite (List.replicate 1027 0),
    .i3cPrivateRead 1027, .flashRead 0 (some (List.replicate 1017 0)), .wirAccess 256, .wdrAccess (2 ^ 376),
    .extest (2 ^ 4096)].all (fun c => !c.wf) = true := by decide +kernel
theorem test_wf_soft : (Instr.headerCheck 3 (List.replicate 4097 0)).wf = false := by decide +kernel

/-! ### No word spells a command -/

theorem test_no_word_decodes : decodeTableWord 32 0 = none ∧ decodeTableWord 16 0xFFFF = none := by decide
theorem test_withFetchWord : (State.reset.withFetchWord 32 5).pending = [] := by decide +kernel

/-! ### Worked examples and constants of the spec -/

/-- 09_timetable, image layout: the check value of CRC-32C. -/
theorem test_crc32c : crc32c [0x31, 0x32, 0x33, 0x34, 0x35, 0x36, 0x37, 0x38, 0x39] = 0xE3069283 := by decide +kernel

/-- 12_integrity R358: g(x) = (x + 1)(x + 2)(x + 4)(x + 8) over x^8 + x^4 + x^3 + x^2 + 1, worked by hand. -/
theorem test_parcel_code : parcelGenerator = [15, 54, 120, 64] ∧ checkSymbols (List.replicate 31 0 ++ [1]) = [0x0F, 0x36, 0x78, 0x40] := by
  decide +kernel

/-- 10_dynamic_traffic, the example of MAP0: 0x3_2000_0400 lies on H001, bank 7, row 3,200, parcel 0. -/
theorem test_map0 : placeOf State.reset 0x320000400 = ⟨1, 7, 3200, 0⟩ := by decide +kernel

/-- 14_fabric, the example of the hash: a request of N40 to N02 for 0x3_2000_0400 hashes to 22. -/
theorem test_hash : hashOf Op.rd 0x320000400 40 2 = 22 := by decide +kernel

/-- 06_towpath R165, R167: a header passes its own check, and one with a bit changed does not. -/
theorem test_header : headerOk (frameHeader 8 3 0x123) = true ∧ headerOk (frameHeader 8 3 0x123 ^^^ 0x200) = false := by decide +kernel

/-- 00_scope: lane L077 lies in port P09, and its registers start at 0x01_4D00. -/
theorem test_lane_place : (rowAt 0x14D00).map (fun r => r.2) = some 77 ∧ portOf 77 = 9 := by decide +kernel

/-- 12_integrity R332: the first of a codeword's eight beats carries symbol bit 7. -/
theorem test_beats : beatSymbol 1 0 = 0x80 ∧ beatSymbol (2 ^ 15) 1 = 0x01 := by decide +kernel

/-! ### A state and operands that meet the hypotheses of each obligation

`theorem witness_<obligation>` lists, clause by clause, the hypotheses of the obligation at one state and operands that meet them. -/

/-- EveryStepKeepsTheTablesCanonical, FusesOnlyGrow: a step from a state with canonical tables. -/
theorem witness_EveryStepKeepsTheTablesCanonical : ∃ t, Canonical up0 ∧ step up0 = .next t :=
  ⟨up0, ⟨by decide +kernel, rfl, rfl, rfl, rfl, rfl, rfl, rfl, rfl⟩, rfl⟩
theorem witness_FusesOnlyGrow : ∃ t, step { up0 with pending := [.wakeNLow] } = .next t := ⟨_, rfl⟩

/-- StepsTakeOneCommandAndOnlyBoundariesTakeTime: a boundary in front, and another command. -/
theorem witness_StepsTakeOneCommandAndOnlyBoundariesTakeTime :
    (∃ t, step { up0 with pending := [.crossingBoundary, .pwrgoodRise] } = .next t) ∧ ∃ t, step { up0 with pending := [.pwrgoodRise] } = .next t :=
  ⟨⟨_, rfl⟩, ⟨_, rfl⟩⟩

/-- CanonicalTablesThatReadAlikeAreEqual: two tables in canonical form that read alike. -/
theorem witness_CanonicalTablesThatReadAlikeAreEqual :
    KMap.wf (fun _ => (0 : Word)) [(3, 7), (9, 1)] = true ∧ KMap.wf (fun _ => (0 : Word)) (KMap.put (fun _ => 0) [(9, 1)] 3 7) = true ∧
      ∀ k, KMap.get (fun _ => (0 : Word)) [(3, 7), (9, 1)] k = KMap.get (fun _ => 0) (KMap.put (fun _ => 0) [(9, 1)] 3 7) k :=
  ⟨by decide, by decide, fun _ => rfl⟩

/-- UndefinedAddressesReadZeroAndIgnoreWrites: an address without a register, and requests of its clauses. -/
theorem witness_UndefinedAddressesReadZeroAndIgnoreWrites :
    rowAt 0xFFFFC = none ∧ ∃ h : Header, h.addr = 0xFFFFC ∧ h.rlen = 4 ∧ h.len = 4 :=
  ⟨by decide +kernel, { plainHeader with addr := 0xFFFFC, rlen := 4, len := 4 }, rfl, rfl, rfl⟩

/-- StagedFieldsGoToTheirShadows: LANE_LEDGER_ALLOW and PWR_CEILING at the ends of their ranges, and a register with no range. -/
def stagedAt (a : Nat) : Option (Bool × Bool) := (rowAt a).map fun r => (decide (r.1.kind = .plain ∧ r.1.staged ≠ 0), writable up0 a)
theorem witness_StagedFieldsGoToTheirShadows :
    stagedAt LANE_LEDGER_ALLOW = some (true, true) ∧ stagedAt PWR_CEILING = some (true, true) ∧ stagedAt (SVC_RGN_PLACE 3) = some (true, true) ∧
      allowInRange 16000 = true ∧ allowInRange 100000 = true ∧ allowInRange 15999 = false ∧ (90000 ≤ (90000 : Word).bits 17 0 ∧ (150000 : Word).bits 17 0 ≤ 150000) := by decide +kernel

namespace O1

def w0 : State := ((up0.setReg GLB_COMMIT_TGT_HI 3).setReg GLB_COMMIT_TGT_LO 9).setCross (3 * 2^32 + 4)
def w1 : State := { up0.setCross 98 with commit := { up0.commit with armed := some 100 } }
def w2 : State := { up0.setCross 99 with commit := { up0.commit with armed := some 100 } }
def w3 : State := { up0 with commit := { up0.commit with armed := some 100 } }
def w4 : State := { up0 with staged := [(PWR_CEILING, 90001)] }
def w5 : State := { up0 with commit := { up0.commit with suspendLeft := 7 } }

theorem witness_CommitCommandsActOnTheArm :
    ((writable w0 GLB_COMMIT_CTRL = true) ∧ (w0.commit.preparing = false) ∧ (w0.mode ≠ Mode.start) ∧ (3 * 2 ^ 32 + 9 = w0.get
      GLB_COMMIT_TGT_HI_tgt_hi * 2 ^ 32 + BitVec.toNat (w0.reg GLB_COMMIT_TGT_LO)) ∧ (w0.future (3 * 2 ^ 32 + 9) = true) ∧ (4 ≤ w0.ahead (3
      * 2 ^ 32 + 9))) ∧
    ((w1.up = true) ∧ (w1.commit.armed = some 100) ∧ (w1.ahead 100 = 2)) ∧
    ((w2.up = true) ∧ (w2.commit.armed = some 100) ∧ (w2.ahead 100 = 1)) ∧
    ((writable w3 GLB_COMMIT_CTRL = true) ∧ (w3.commit.armed.isSome = true) ∧ (w3.commit.vote = none)) ∧
    ((writable w4 GLB_COMMIT_CTRL = true) ∧ (w4.commit.armed = none)) ∧
    ((w5.up = true)) := by
  and_intros <;> decide +kernel

end O1

namespace O2

def srow (a : Nat) : RegRow := match rowAt a with | some (r, _) => r | none => ⟨0,0,0,0,0,.plain,0,0,0,0,false,16⟩
def sidx (a : Nat) : Nat := match rowAt a with | some (_, r) => r | none => 0
def w0 : State := { up0 with commit := { up0.commit with armed := some 100 } }

theorem witness_StagedWritesWaitForTheSwitch :
    ((rowAt (SVC_RGN_PLACE 3) = some (srow (SVC_RGN_PLACE 3), sidx (SVC_RGN_PLACE 3))) ∧ ((srow (SVC_RGN_PLACE 3)).kind = RegKind.plain) ∧
      ((srow (SVC_RGN_PLACE 3)).rw = 0) ∧ ((srow (SVC_RGN_PLACE 3)).w1s = 0) ∧ ((srow (SVC_RGN_PLACE 3)).staged ≠ 0) ∧ (isClear (srow
      (SVC_RGN_PLACE 3)) (SVC_RGN_PLACE 3) = false) ∧ ((SVC_RGN_PLACE 3) ≠ LANE_LEDGER_ALLOW) ∧ ((SVC_RGN_PLACE 3) ≠ PWR_CEILING) ∧
      (writable up0 (SVC_RGN_PLACE 3) = true)) ∧
    ((rowAt (SVC_RGN_PLACE 3) = some (srow (SVC_RGN_PLACE 3), sidx (SVC_RGN_PLACE 3))) ∧ ((srow (SVC_RGN_PLACE 3)).kind = RegKind.plain) ∧
      ((srow (SVC_RGN_PLACE 3)).rw = 0) ∧ ((srow (SVC_RGN_PLACE 3)).w1s = 0) ∧ ((srow (SVC_RGN_PLACE 3)).staged ≠ 0) ∧ (isClear (srow
      (SVC_RGN_PLACE 3)) (SVC_RGN_PLACE 3) = false) ∧ ((SVC_RGN_PLACE 3) ≠ LANE_LEDGER_ALLOW) ∧ ((SVC_RGN_PLACE 3) ≠ PWR_CEILING) ∧
      (writable w0 (SVC_RGN_PLACE 3) = true)) := by
  and_intros <;> decide +kernel

end O2

namespace O3

def w0 : State := { up0.setCross 100 with staged := [(PWR_CEILING, 100000)], commit := { up0.commit with armed := some 100, vote := some 0 } }
def w1 : State := { up0.setCross 100 with staged := [(PWR_CEILING, 100000)], commit := { up0.commit with armed := some 100, vote := some 0x18 } }
def w2 : State := { up0 with commit := { up0.commit with hwDue := [.level 3] } }

theorem witness_CommitSwitchesOrRefuses :
    ((w0.up = true) ∧ (w0.commit.hwDue = []) ∧ (w0.commit.armed = some 100) ∧ (w0.ahead 100 = 0) ∧ (w0.commit.vote = some 0)) ∧
    ((w0.up = true) ∧ (w0.commit.hwDue = []) ∧ (w0.commit.armed = some 100) ∧ (w0.ahead 100 = 0) ∧ (w0.commit.vote = some 0) ∧ (w0.staged =
      [(PWR_CEILING, 100000)]) ∧ (swapStaged w0 = false)) ∧
    ((w1.up = true) ∧ (w1.commit.hwDue = []) ∧ (w1.commit.armed = some 100) ∧ (w1.ahead 100 = 0) ∧ (w1.commit.vote = some 24) ∧ (0 < 24) ∧
      (24 < 2 ^ 13)) ∧
    ((up0.up = true) ∧ (up0.commit.hwDue = [])) ∧
    ((w2.up = true) ∧ (3 < 8) ∧ (w2.commit.hwDue = [HwChange.level 3]) ∧ (w2.commit.armed = none)) := by
  and_intros <;> decide +kernel

end O3

namespace O4

def w0 : State := { up0 with pins := { up0.pins with vaon := false } }
def w1 : State := { up0 with pins := { up0.pins with resetN := false, pwrgood := false } }
def w2 : State := { up0 with pins := { up0.pins with resetN := false, pwrgood := true } }
def w3 : State := { up0 with start := { up0.start with phase := .held }, pins := { up0.pins with resetN := false, pwrgood := true } }

theorem witness_PinEventsActOnTheSideband :
    ((w0.pins.vaon = false)) ∧
    ((w1.pins.resetN = false) ∧ (w1.pins.pwrgood = false)) ∧
    ((w2.pins.resetN = false) ∧ (w2.pins.pwrgood = true) ∧ (w2.start.kind = ResetKind.cold ∨ Option.map (fun x => x.source) w2.always.anchor
      = some ResetSource.resetN)) ∧
    ((w3.pins.resetN = false) ∧ (w3.pins.pwrgood = true) ∧ (w3.start.kind = ResetKind.cold ∨ Option.map (fun x => x.source) w3.always.anchor
      = some ResetSource.resetN)) ∧
    ((up0.pins.resetN = true) ∧ (up0.pins.pwrgood = true) ∧ (up0.start.phase = StartPhase.ended)) ∧
    (((otpJob up0).isSome = false)) := by
  and_intros <;> decide +kernel

end O4

namespace O5

def slotOk (s : State) : BootSlot := { readOk := true, headerOk := true, keyIndex := 0, hashOk := true, sigOk := true, revId := (s.reg REV_ID).toNat, rollback := 63, fwVersion := 0x10203, config := none }
def w0 : State := { up0 with start := { up0.start with phase := .held } }
def w1 : State := { up0 with start := { up0.start with phase := .delay } }
def w2 : State := { up0.put GLB_START_STATUS_step StartStep.arm with start := { up0.start with phase := .running } }
def w3 : State := { up0.put GLB_START_STATUS_step StartStep.fuse with start := { up0.start with phase := .running } }
def w4 : State := { (up0.put GLB_START_STATUS_step StartStep.boot).put MBX_WDOG_run 0 with otp := { up0.otp with words := [] }, start := { up0.start with phase := .running } }
def w5 : State := { up0.put GLB_START_STATUS_step StartStep.selftest with start := { up0.start with phase := .running } }
def w6 : State := { up0.put GLB_START_STATUS_step StartStep.train with start := { up0.start with phase := .running } }
def w7 : State := { up0.put GLB_START_STATUS_step StartStep.init with start := { up0.start with phase := .running } }
def w8 : State := { up0.put GLB_START_STATUS_step StartStep.warmup with start := { up0.start with phase := .running } }
def w9 : State := { (up0.put GLB_START_STATUS_step StartStep.init).setCross 32 with start := { up0.start with phase := .running, ready := true } }

theorem witness_StartRunsItsSteps :
    ((w0.start.phase = StartPhase.held) ∧ (w0.pins.vaon = true) ∧ (w0.pins.resetN = true) ∧ (w0.pins.pwrgood = true) ∧ (w0.always.tripped =
      false) ∧ (w0.pins.atReset = 0)) ∧
    ((w1.start.phase = StartPhase.delay) ∧ (w1.pins.atReset = 0)) ∧
    ((startAt w2 StartStep.arm = true)) ∧
    ((startAt w3 StartStep.fuse = true)) ∧
    ((startAt w4 StartStep.boot = true) ∧ (w4.get MBX_WDOG_run < 3) ∧ (w4.purser.skip ≠ some 0) ∧ (slotVerdict w4 (slotOk up0) = none)) ∧
    ((startAt w5 StartStep.selftest = true) ∧ (testVerdict (selftestRun 0 [] w5) ≠ PhaseResult.fail)) ∧
    ((startAt w6 StartStep.train = true) ∧ (trainFails [] [] w6 = false)) ∧
    ((startAt w7 StartStep.init = true) ∧ (w7.start.ready = false)) ∧
    ((startAt w8 StartStep.warmup = true) ∧ (w8.start.ready = false)) ∧
    ((w9.start.phase = StartPhase.running) ∧ (w9.start.ready = true) ∧ (w9.cross % 16 = 0)) := by
  and_intros <;> decide +kernel

end O5

namespace O6

def w0 : State := { up0 with start := { up0.start with request := some ⟨1, 3, false, true⟩ } }
def w1 : State := { up0 with start := { up0.start with request := some ⟨2, 3, false, false⟩ } }
def w2 : State := { up0 with start := { up0.start with request := some ⟨2, 3, true, false⟩ } }
def w3 : State := { up0 with start := { up0.start with phase := .anchoring, kind := 1 } }
def w4 : State := { up0 with pairs := [(GLB_RESET_CTRL, ⟨5, 3⟩)] }

theorem witness_ResetsAreTakenAsRequested :
    ((writable up0 GLB_RESET_CTRL = true) ∧ (writable up0 GLB_RESET_CTRL_CPL = true) ∧ (up0.pairs.find GLB_RESET_CTRL = none) ∧
      (up0.start.request = none)) ∧
    ((writable up0 GLB_RESET_CTRL = true) ∧ (writable up0 GLB_RESET_CTRL_CPL = true) ∧ (up0.pairs.find GLB_RESET_CTRL = none) ∧
      (up0.start.request = none) ∧ (3 < 16)) ∧
    ((w0.start.phase = StartPhase.ended) ∧ (w0.up = true) ∧ (w0.start.request = some (ResetRequest.mk 1 3 false true)) ∧ ((ResetRequest.mk 1
      3 false true).source ≠ ResetSource.trip) ∧ ((ResetRequest.mk 1 3 false true).draining = true) ∧ (allDrained w0 = true)) ∧
    ((w1.start.phase = StartPhase.ended) ∧ (w1.up = true) ∧ (w1.start.request = some (ResetRequest.mk 2 3 false false)) ∧ ((ResetRequest.mk
      2 3 false false).source ≠ ResetSource.trip) ∧ ((ResetRequest.mk 2 3 false false).draining = false) ∧ ((ResetRequest.mk 2 3 false
      false).flush = false) ∧ (w1.start.portResets = [])) ∧
    ((w2.start.phase = StartPhase.ended) ∧ (w2.up = true) ∧ (w2.start.request = some (ResetRequest.mk 2 3 true false)) ∧ ((ResetRequest.mk 2
      3 true false).source ≠ ResetSource.trip) ∧ ((ResetRequest.mk 2 3 true false).draining = false) ∧ ((ResetRequest.mk 2 3 true
      false).flush = true) ∧ (w2.start.portResets = []) ∧ (w2.mode ≠ Mode.retention)) ∧
    ((w3.start.phase = StartPhase.anchoring) ∧ (w3.start.kind = ResetKind.warm)) ∧
    ((w4.up = true) ∧ (w4.pairs.find GLB_RESET_CTRL = some (PairPending.mk 5 3))) := by
  and_intros <;> decide +kernel

end O6

namespace O7

def w0 : State := up0.setReg PWR_SUPPLY 0 |>.put PWR_SUPPLY_step 2
def w1 : State := { (up0.setReg PWR_SUPPLY 0 |>.put PWR_SUPPLY_step 2).put PWR_SUPPLY_restoring 1 with ticks := 100 }

theorem witness_RailsAndSheddingActAsStated :
    ((w0.up = true) ∧ (w0.pins.recovered = 63) ∧ (w0.get PWR_SUPPLY_below = 0) ∧ (w0.get PWR_SUPPLY_restoring = 0) ∧ (1 ≤ w0.get
      PWR_SUPPLY_step)) ∧
    ((w1.up = true) ∧ (w1.get PWR_SUPPLY_restoring = 1) ∧ (1 ≤ w1.get PWR_SUPPLY_step) ∧ (w1.modes.undoTick + 16 ≤ w1.ticks) ∧
      (w1.commit.hwDue.contains HwChange.shedUndo = false)) ∧
    ((up0.start.phase = StartPhase.ended) ∧ (up0.up = true)) := by
  and_intros <;> decide +kernel

end O7

namespace O8

def S (n : Nat) (s : State) : State := s.put (PORT_STATUS_stage 3) n
def F (f : Field) (n : Nat) (s : State) : State := s.put f n
def coeff : CoeffRecord := ⟨2, 1, [], [(256, 9)]⟩
def w0 : State := S 4 up0
def w1 : State := F (LANE_RX_LEVEL_los 26) 0 (S 7 up0)
def w2 : State := S 1 up0
def w3 : State := S 7 up0
def w4 : State := F (LANE_CDR_STATUS_lock 26) 1 (S 7 up0)
def w5 : State := F (LANE_CDR_STATUS_lock 26) 1 (S 4 up0)
def w6 : State := F (LANE_PRBS_CTRL_chk_en 26) 1 up0
def w7 : State := F (LANE_PRBS_CTRL_chk_en 26) 1 (F (LANE_PRBS_STATUS_lock 26) 1 up0)
def w8 : State := F (LANE_EYE_STATUS_busy 26) 1 (S 7 up0)
def w9 : State := F (LANE_MASK_CTRL_enable 26) 0 (S 7 up0)
def w10 : State := F (LANE_MASK_CTRL_enable 26) 1 (S 7 up0)
def w11 : State := {F (LANE_STATUS_adapt_frozen 26) 0 (F (LANE_ADAPT_CTRL_restore_en 26) 1 (S 7 up0)) with ticks := 50000, lanes := [(26, { LaneSt.reset with modes := 0xA, snrAtS7 := 300 })], always := { up0.always with coeffs := [(26, coeff)] } }

theorem witness_LaneEventsActOnTheLane :
    ((up0.up = true)) ∧
    ((w0.up = true) ∧ (2 ≤ w0.stage (portOf 26)) ∧ (39 < losThreshold w0 26) ∧ (w0.stage (portOf 26) < 6 ∨ w0.get (LANE_RX_LEVEL_los 26) =
      1)) ∧
    ((w1.up = true) ∧ (w1.stage (portOf 26) = 7) ∧ (39 < losThreshold w1 26) ∧ (w1.get (LANE_RX_LEVEL_los 26) = 0)) ∧
    ((w2.up = true) ∧ (w2.stage (portOf 26) < 2 ∨ losThreshold w2 26 ≤ 39)) ∧
    ((w3.up = true) ∧ (2 ≤ w3.stage (portOf 26)) ∧ (losThreshold w3 26 + 20 ≤ 5000)) ∧
    ((w4.up = true) ∧ (w4.get (LANE_CDR_STATUS_lock 26) = 1) ∧ (w4.stage (portOf 26) = 7)) ∧
    ((w5.up = true) ∧ (w5.get (LANE_CDR_STATUS_lock 26) = 1) ∧ (w5.stage (portOf 26) < 6)) ∧
    ((w6.up = true) ∧ (w6.get (LANE_PRBS_CTRL_chk_en 26) = 1)) ∧
    ((w7.up = true) ∧ (w7.get (LANE_PRBS_CTRL_chk_en 26) = 1) ∧ (w7.get (LANE_PRBS_STATUS_lock 26) = 1)) ∧
    ((w8.up = true) ∧ (w8.get (LANE_EYE_STATUS_busy 26) = 1)) ∧
    ((w9.up = true) ∧ (w9.get (LANE_MASK_CTRL_enable 26) = 0)) ∧
    ((w10.up = true) ∧ (w10.get (LANE_MASK_CTRL_enable 26) = 1)) ∧
    ((w11.up = true) ∧ (w11.get (LANE_ADAPT_CTRL_restore_en 26) = 1) ∧ (adaptsOn w11 26 = true) ∧ (diverged w11 26 200 = true)) ∧
    ((w3.up = true) ∧ (w3.stage (portOf 26) = 7)) := by
  and_intros <;> decide +kernel

end O8

namespace O9

def S (n : Nat) (s : State) : State := s.put (PORT_STATUS_stage 3) n
def F (f : Field) (n : Nat) (s : State) : State := s.put f n
def w0 : State := S 4 up0
def w1 : State := F (LANE_EYE_STATUS_busy 26) 0 (S 6 up0)
def w2 : State := F (LANE_EYE_STATUS_busy 26) 0 (S 4 up0)

theorem witness_LaneWritesAreHeldOrTaken :
    ((writable w0 (LANE_TX_APPLY 26) = true)) ∧
    ((writable w0 (LANE_TOW_SHAPE_DATA 26) = true)) ∧
    ((writable w0 (LANE_EQ_WR 26) = true)) ∧
    ((writable w0 (LANE_PRBS_CTRL 26) = true)) ∧
    ((writable w0 (LANE_CTRL 26) = true)) ∧
    ((writable w1 (LANE_EYE_CTRL 26) = true) ∧ (w1.get (LANE_EYE_STATUS_busy 26) = 0) ∧ (5 ≤ w1.stage (portOf 26))) ∧
    ((writable w2 (LANE_EYE_CTRL 26) = true) ∧ (w2.get (LANE_EYE_STATUS_busy 26) = 0) ∧ (w2.stage (portOf 26) < 5)) := by
  and_intros <;> decide +kernel

end O9

namespace O10

def S (n : Nat) (s : State) : State := s.put (PORT_STATUS_stage 3) n
def F (f : Field) (n : Nat) (s : State) : State := s.put f n
def T0 (s : State) : State := F (PORT_CTRL_test_hold 3) 0 s
def w0 : State := T0 (S 0 (F LANE_PLL_STATUS_lock 255 up0))
def w1 : State := T0 (S 4 up0)
def w2 : State := T0 (S 7 up0)
def w3 : State := F (PORT_STATUS_hold 3) 1 (F (PORT_CTRL_test_hold 3) 1 (S 5 up0))
def w4 : State := T0 (S 5 up0)

theorem witness_PortControlWritesActAsStated :
    ((writable w0 (PORT_CTRL 3) = true) ∧ (w0.stage 3 = 0) ∧ (startLit w0 = true) ∧ (anyPll w0 3 = true) ∧ (w0.get (PORT_CTRL_test_hold 3) =
      0) ∧ (Word.bits 64 3 1 = 0)) ∧
    ((writable w1 (PORT_CTRL 3) = true) ∧ (w1.stage 3 ≠ 0) ∧ (w1.get (PORT_CTRL_test_hold 3) = 0) ∧ (Word.bits 64 3 1 = 0)) ∧
    ((writable w2 (PORT_CTRL 3) = true) ∧ (w2.stage 3 = 7) ∧ (w2.get (PORT_CTRL_test_hold 3) = 0) ∧ (Word.bits 65 3 2 = 0)) ∧
    ((writable w3 (PORT_CTRL 3) = true) ∧ (w3.stage 3 = 5) ∧ (w3.get (PORT_STATUS_hold 3) = 1) ∧ (w3.get (PORT_CTRL_test_hold 3) = 1) ∧
      (Word.bits 65 3 2 = 0)) ∧
    ((writable w2 (PORT_CTRL 3) = true) ∧ (w2.stage 3 = 7) ∧ (Word.bits 65 1 1 = w2.get (PORT_CTRL_test_hold 3)) ∧ (Word.bits 65 3 3 = 0)) ∧
    ((writable w4 (PORT_CTRL 3) = true) ∧ (1 ≤ w4.stage 3) ∧ (w4.stage 3 ≤ 6) ∧ (Word.bits 81 1 1 = w4.get (PORT_CTRL_test_hold 3)) ∧
      (Word.bits 81 2 2 = 0)) ∧
    ((writable w4 (PORT_CTRL 3) = true) ∧ (writable w4 (PORT_STATS_CLR 3) = true)) := by
  and_intros <;> decide +kernel

end O10

namespace O11

def S (n : Nat) (s : State) : State := s.put (PORT_STATUS_stage 3) n
def F (f : Field) (n : Nat) (s : State) : State := s.put f n
def P (f : PortSt → PortSt) (s : State) : State := s.modPort 3 fun x => f { x with shed := false, parked := false, negWait := false }
def w0 : State := P (fun x => { x with capHeld := false }) (S 1 up0)
def w1 : State := P (fun x => { x with capHeld := true, ownSel := some ⟨2, 1, 2, 0⟩ }) (S 1 up0)
def w2 : State := S 1 up0
def w3 : State := F (PORT_STATUS_ledger_wait 3) 0 (P (fun x => { x with capHeld := true, ownSel := some ⟨2, 1, 2, 0⟩ }) (S 1 up0))
def w4 : State := { F LANE_PLL_STATUS_lock 255 (F LANE_LEDGER_USED_mw 100 (F PWR_CEILING_mw 150000 (P (fun x => { x with capHeld := true, ownSel := some ⟨2, 1, 2, 0⟩ }) (S 1 up0)))) with asks := [(3, ⟨2, 1, .entry⟩)] }
def w5 : State := P (fun x => { x with granted := true, ownSel := some ⟨2, 1, 2, 0⟩ }) (S 1 up0)
def w6 : State := F (PORT_STATUS_ledger_wait 3) 1 (P (fun x => { x with ownSel := some ⟨2, 1, 2, 0⟩ }) (S 1 up0))
def w7 : State := (S 1 up0).modPort 3 fun x => { x with negWait := true }
def w8 : State := F (PORT_STATUS_hold 3) 0 (S 3 up0)
def w9 : State := P (fun x => { x with attempt := some 5, aim := some (3, 2) }) (S 4 up0)

theorem witness_NegotiationActsAsStated :
    ((w0.up = true) ∧ (negotiates w0 3 = true) ∧ ((w0.port 3).granted = false) ∧ ((w0.port 3).capHeld = false)) ∧
    ((w1.up = true) ∧ (negotiates w1 3 = true) ∧ ((w1.port 3).granted = false) ∧ ((w1.port 3).capHeld = true) ∧ ((w1.port 3).capAgain =
      false) ∧ ((w1.port 3).ownSel = some (SelMsg.mk 2 1 2 0)) ∧ ((w1.port 3).peerSel = none)) ∧
    ((w2.up = true) ∧ ([1, 1, 7, 0, 3, 133, 0, 0, 2, 0, 170, 187, 204, 221, 1, 2, 3, 4].length = 18) ∧ ([1, 1, 7, 0, 3, 133, 0, 0, 2, 0,
      170, 187, 204, 221, 1, 2, 3, 4].headD 0 = 1) ∧ (w2.stage 3 ≠ 0)) ∧
    ((w3.up = true) ∧ (negotiates w3 3 = true) ∧ ((w3.port 3).granted = false) ∧ ((w3.port 3).capHeld = true) ∧ ((w3.port 3).ownSel = some
      (SelMsg.mk 2 1 2 0)) ∧ (w3.get (PORT_STATUS_ledger_wait 3) = 0)) ∧
    ((w4.up = true) ∧ (w4.asks = [(3, LedgerAsk.mk 2 1 AskKind.entry)]) ∧ (ledgerJudge (State.mk w4.pending w4.free w4.out w4.ticks w4.regs
      w4.staged w4.shadows w4.pairs w4.clears w4.late w4.commit w4.pins w4.always w4.start w4.modes w4.events w4.snap w4.lanes [] w4.granted
      w4.chargeDue w4.ports w4.tows w4.links w4.fab w4.nextUid w4.svc w4.landing w4.hcs w4.dram w4.tt w4.ledger w4.therm w4.activity w4.otp
      w4.purser w4.test) 3 2 1 = none)) ∧
    ((w1.up = true) ∧ (negotiates w1 3 = true) ∧ ((w1.port 3).capHeld = true)) ∧
    ((w5.up = true) ∧ ((w5.port 3).granted = true) ∧ ((w5.port 3).peerGo = false) ∧ (w5.stage 3 = 1)) ∧
    ((w6.up = true) ∧ (negotiates w6 3 = true) ∧ ((w6.port 3).granted = false) ∧ (w6.get (PORT_STATUS_ledger_wait 3) = 1) ∧ ((w6.port
      3).ownSel = some (SelMsg.mk 2 1 2 0))) ∧
    ((w7.up = true) ∧ ((w7.port 3).negWait = true)) ∧
    ((w8.up = true) ∧ (w8.stage 3 = 2 ∨ w8.stage 3 = 3) ∧ (w8.get (PORT_STATUS_hold 3) = 0)) ∧
    ((w9.up = true) ∧ ((w9.port 3).attempt ≠ none) ∧ (w9.stage 3 ≠ 0) ∧ (w9.stage 3 ≠ 7)) := by
  and_intros <;> decide +kernel

end O11

namespace O12

def S (n : Nat) (s : State) : State := s.put (PORT_STATUS_stage 3) n
def F (f : Field) (n : Nat) (s : State) : State := s.put f n
def T0 (s : State) : State := F (PORT_CTRL_test_hold 3) 0 s
def P (f : PortSt → PortSt) (s : State) : State := s.modPort 3 fun x => f { x with shed := false, parked := false, negWait := false }
def w0 : State := S 4 up0
def w1 : State := S 3 up0
def w2 : State := P (fun x => { x with lockPairs := 15 }) (S 3 up0)
def w3 : State := F (PORT_STATUS_hold 3) 0 (S 5 up0)
def w4 : State := P (fun x => { x with path := .quick }) (F (PORT_STATUS_hold 3) 0 (S 5 up0))
def w5 : State := S 7 up0
def w6 : State := T0 (S 7 up0)
def w7 : State := P (fun x => { x with qrWaiting := true }) (S 5 up0)
def w8 : State := S 5 up0
def w9 : State := P (fun x => { x with stepping := some ⟨1, 2, false, true, false⟩ }) (F LANE_PLL_STATUS_lock 255 (S 7 up0))

theorem witness_TrainingRetrainAndStepsActAsStated :
    ((w0.up = true) ∧ (w0.stage (portOf 26) = 2 ∨ w0.stage (portOf 26) = 4) ∧ (crc16 (numBits 32 (BitVec.toNat (74565 : Word))) ≠ 5)) ∧
    ((w0.up = true) ∧ (w0.stage (portOf 26) = 2 ∨ w0.stage (portOf 26) = 4) ∧ (-2000 ≤ -2000) ∧ (-2000 ≤ 2000) ∧ (100 < snrThreshold w0
      (portOf 26))) ∧
    ((w0.up = true) ∧ (w0.stage 3 ≠ 3) ∧ (w0.stage 3 ≠ 6)) ∧
    ((w1.up = true) ∧ (w1.stage 3 = 3) ∧ ((w1.port 3).txSwitched = false)) ∧
    ((w1.up = true) ∧ (w1.stage 3 = 3) ∧ ((w1.port 3).countdown = none) ∧ ((w1.port 3).txSwitched = false) ∧ (64 ≤ 64)) ∧
    ((w2.up = true) ∧ (w2.stage 3 = 3) ∧ ((w2.port 3).countdown = none) ∧ ((w2.port 3).txSwitched = false) ∧ (64 ≤ 64)) ∧
    ((w3.up = true) ∧ (w3.stage 3 = 5) ∧ (w3.get (PORT_STATUS_hold 3) = 0) ∧ ((w3.port 3).qrWaiting = false)) ∧
    ((w4.up = true) ∧ (w4.stage 3 = 5) ∧ (w4.get (PORT_STATUS_hold 3) = 0) ∧ ((w4.port 3).qrWaiting = false) ∧ ((w4.port 3).path =
      Path.quick) ∧ ((w4.port 3).stepping = none)) ∧
    ((w5.up = true) ∧ (w5.stage 3 = 7)) ∧
    ((w6.up = true) ∧ (w6.stage 3 = 7)) ∧
    ((w7.up = true) ∧ (w7.stage 3 ≠ 0) ∧ ((w7.port 3).qrWaiting = true)) ∧
    ((w7.up = true) ∧ ((w7.port 3).qrWaiting = true) ∧ (w7.stage 3 ≠ 0)) ∧
    ((w8.up = true) ∧ (w8.stage 3 ≠ 0) ∧ (w8.stage 3 ≠ 7)) ∧
    ((w9.up = true) ∧ (w9.stage 3 = 7) ∧ ((w9.port 3).stepping = some (StepSt.mk 1 2 false true false)) ∧ ((StepSt.mk 1 2 false true
      false).running = false) ∧ ((StepSt.mk 1 2 false true false).target < 4) ∧ ((w9.port 3).stepDue = none) ∧ (pllLocked w9 3 (w9.get
      (PORT_STATUS_reach 3)) = true)) := by
  and_intros <;> decide +kernel

end O12

namespace O13

def S (n : Nat) (s : State) : State := s.put (PORT_STATUS_stage 3) n
def F (f : Field) (n : Nat) (s : State) : State := s.put f n
def w0 : State := S 7 up0
def w1 : State := S 6 up0
def w2 : State := F (PORT_STATUS_reach 3) 1 (S 6 up0)
def w3 : State := S 5 up0
def w4 : State := F (PORT_DEGRADE_enable 3) 0 (S 7 up0)
def w5 : State := F (PORT_STATUS_reach 3) 2 (S 7 up0)

/-- A word with one wrong symbol, the last. -/
def oneError : List Nat := List.replicate 543 0 ++ [5]

/-- A word of the code whose generator has only the first 15 roots: its first nonzero syndrome is the sixteenth. -/
def tooMany : List Nat := List.replicate 528 0 ++ [1, 792, 769, 477, 965, 180, 5, 833, 936, 650, 38, 594, 684, 266, 944, 688]

theorem cut (l : List Nat) (n : Nat) (hl : l.length = 544) (hn : l.all (fun x => decide (x < 1024)) = true) (h : n = 544) :
    ((List.range n).map fun i => l.getD i 0 % 1024) = l := by
  subst h
  apply List.ext_getElem
  · simp [hl]
  · intro i h1 h2
    rw [List.all_eq_true] at hn
    have := of_decide_eq_true (hn l[i] (List.getElem_mem h2))
    simp [h2, Nat.mod_eq_of_lt this]

theorem syndromes_one : rsSyndromes oneError = List.replicate 30 5 := by
  rw [oneError, rsSyndromes_zeros]; decide +kernel

theorem locator_one : (rsLocator (List.replicate 30 5)).loc = [1, 1] := by decide +kernel
theorem locator_one_len : (rsLocator (List.replicate 30 5)).len = 1 := by decide +kernel

theorem roots_one : ((List.range 544).filter fun i => gfEval [1, 1] (gfExp (1023 - (543 - i))) == 0) = [543] := by
  have h1 : gfExp 480 = 78 := by decide +kernel
  have h := rootless_powers [1, 1] 543 480 (by rw [h1]; decide +kernel) (by decide)
  rw [show List.range 544 = List.range 543 ++ [543] from List.range_succ, List.filter_append, List.filter_eq_nil_iff.2]
  · decide +kernel
  · intro i hi
    have hi := List.mem_range.1 hi
    rw [show 1023 - (543 - i) = 480 + i by omega]
    simpa using h i hi

theorem fixed_last (n c : Nat) (g : Nat → Nat) :
    ((List.range (n + 1)).map fun i => if [n].contains i then Nat.xor ((List.replicate n 0 ++ [c]).getD i 0) (g i)
      else (List.replicate n 0 ++ [c]).getD i 0) = List.replicate n 0 ++ [Nat.xor c (g n)] := by
  rw [List.range_succ, List.map_append]
  refine congrArg₂ (· ++ ·) ?_ ?_
  · apply List.ext_getElem (by simp)
    intro i h1 h2
    have h3 : i < n := by simpa using h2
    have h4 : i ≠ n := by omega
    have h5 : i < n + 1 := by omega
    simp [h3, h4, h5]
  · simp

theorem decode_one : rsDecode oneError = some (List.replicate 544 0, [543]) := by
  have hf : ((List.range oneError.length).map fun i => if [543].contains i then Nat.xor (oneError.getD i 0)
      (rsError (List.replicate 30 5) [1, 1] (543 - i)) else oneError.getD i 0) = List.replicate 544 0 := by
    rw [show oneError.length = 543 + 1 by decide +kernel]
    refine (fixed_last 543 5 fun i => rsError (List.replicate 30 5) [1, 1] (543 - i)).trans ?_
    decide +kernel
  unfold rsDecode
  simp only [syndromes_one, locator_one, locator_one_len, roots_one, hf]
  rw [if_neg (by decide +kernel), if_pos (by decide), if_pos]
  have hz := rsSyndromes_zeros 544 []
  rw [List.append_nil] at hz
  rw [hz]; decide +kernel

theorem decode_many : rsDecode tooMany = none := by
  have h0 : rsSyndromes tooMany = rsSyndromes [1, 792, 769, 477, 965, 180, 5, 833, 936, 650, 38, 594, 684, 266, 944, 688] := rsSyndromes_zeros 528 _
  have h1 : ((List.range 16).foldl (rsStep (rsSyndromes [1, 792, 769, 477, 965, 180, 5, 833, 936, 650, 38, 594, 684, 266, 944, 688])) ⟨[1], [1], 1, 1, 0⟩).len = 16 := by decide +kernel
  have h2 : (rsLocator (rsSyndromes [1, 792, 769, 477, 965, 180, 5, 833, 936, 650, 38, 594, 684, 266, 944, 688])).len = 16 := by
    unfold rsLocator
    rw [show List.range 30 = List.range 16 ++ (List.range 14).map (· + 16) by decide, List.foldl_append]
    exact rsStep_length_kept _ _ _ h1 (by decide)
  unfold rsDecode
  simp only [h0, h2]
  rw [if_neg (by decide +kernel)]
  rfl

theorem one : rsDecode (List.map (fun i => oneError.getD i 0 % 1024) (List.range 544)) = some (List.replicate 544 0, [543]) := by
  rw [cut oneError 544 (by decide +kernel) (by decide +kernel) rfl]; exact decode_one
theorem many : rsDecode (List.map (fun i => tooMany.getD i 0 % 1024) (List.range 544)) = none := by
  rw [cut tooMany 544 (by decide +kernel) (by decide +kernel) rfl]; exact decode_many

theorem witness_FecCountsActAsStated :
    ((w0.up = true) ∧ (rsDecode (List.map (fun i => oneError.getD i 0 % 1024) (List.range 544)) = some (List.replicate 544 0, [543])) ∧ (1 ≤
      [543].length) ∧ ([543].length ≤ 15) ∧ ((w0.port 3).pairHalf = none) ∧ ((w0.port 3).laneOrder.length = 8) ∧ (w0.stage 3 = 7)) ∧
    ((w0.up = true) ∧ (rsDecode (List.map (fun i => tooMany.getD i 0 % 1024) (List.range 544)) = none) ∧ ((w0.port 3).pairHalf =
      none) ∧ (w0.stage 3 = 7)) ∧
    ((w1.up = true) ∧ (rsDecode (List.map (fun i => tooMany.getD i 0 % 1024) (List.range 544)) = none) ∧ (w1.stage 3 ≠ 7) ∧
      ((w1.port 3).pairHalf = none)) ∧
    ((w2.up = true) ∧ (w2.get (PORT_STATUS_reach (portOf 26)) ≠ 2 ∨ w2.stage (portOf 26) < 6)) ∧
    ((w5.up = true) ∧ (w5.get (PORT_STATUS_reach (portOf 26)) = 2) ∧ (w5.stage (portOf 26) = 7) ∧
      (w5.get (PORT_FEC_STATUS_inner_lock (portOf 26)) = 0)) ∧
    ((w3.up = true) ∧ (w3.stage 3 ≠ 7)) ∧
    ((w4.up = true) ∧ (w4.stage 3 = 7) ∧ (w4.get (PORT_DEGRADE_enable 3) = 0)) := by
  and_intros <;> first | with_reducible exact one | with_reducible exact many | decide +kernel

end O13

namespace O14

def S (n : Nat) (s : State) : State := s.put (PORT_STATUS_stage 3) n
def F (f : Field) (n : Nat) (s : State) : State := s.put f n
def T (f : TowSt → TowSt) (s : State) : State := s.modTow 3 f
def w0 : State := T (fun x => { x with queue := [[0x11, 1], [3, 4]] }) (S 7 up0)
def w1 : State := T (fun x => { x with sending := some [3, 4] }) (S 7 up0)
def w2 : State := F (PORT_TOW_RX_CODES_codes 3) 0 (S 7 up0)
def w3 : State := T (fun x => { x with found := some 3 }) (S 7 up0)
def w4 : State := T (fun x => { x with locked := some 3 }) (S 7 up0)
def w5 : State := F (PORT_TOW_CTRL_beacon_en 3) 1 (S 1 up0)
def w6 : State := T (fun x => { x with mgmtTx := some ⟨2, [1,2,3], 0, 7⟩ }) (S 7 up0)
def w7 : State := S 1 up0
def w8 : State := T (fun x => { x with waking := true }) (S 1 up0)
def w9 : State := F (LANE_TOW_NOISE_valid 26) 0 (S 1 up0)

theorem witness_TowpathSendsAndFindsCodes :
    ((w0.up = true) ∧ (towMayStart w0 3 = true) ∧ ((w0.tow 3).sending = none) ∧ ((w0.tow 3).waking = false) ∧ ((w0.tow 3).wakeWaiting =
      false) ∧ (towPick (w0.tow 3).queue = some [3, 4])) ∧
    ((w1.up = true) ∧ ((w1.tow 3).sending = some [3, 4]) ∧ ((w1.tow 3).wakeWaiting = false)) ∧
    ((w2.up = true) ∧ (w2.stage 3 ≠ 0) ∧ ((w2.tow 3).found = none) ∧ ((w2.tow 3).locked = none) ∧ (codeEnabled w2 3 9 = true)) ∧
    ((w3.up = true)) ∧
    ((w4.up = true) ∧ ((w4.tow 3).locked ≠ none)) ∧
    ((w5.up = true) ∧ (w5.get (PORT_TOW_CTRL_beacon_en 3) = 1) ∧ (w5.stage 3 = 1) ∧ (((w5.tow 3).queue.all fun m => towClass m != 4) =
      true)) ∧
    ((w6.up = true) ∧ ((w6.tow 3).mgmtTx = some (MgmtTx.mk 2 [1, 2, 3] 0 7)) ∧ ((MgmtTx.mk 2 [1, 2, 3] 0 7).sends < 8)) ∧
    ((w7.up = true) ∧ (writable w7 (PORT_TOW_WAKE 3) = true) ∧ (w7.stage 3 = 1) ∧ ((w7.tow 3).sending = none)) ∧
    ((w8.up = true) ∧ ((w8.tow 3).waking = true)) ∧
    ((w7.up = true) ∧ (w7.stage (portOf 26) ≠ 0)) ∧
    ((w9.up = true) ∧ (w9.stage (portOf 26) ≠ 0) ∧ ((w9.tow (portOf 26)).ctx0 = TowCtx.search) ∧ ((w9.tow (portOf 26)).ctx1 = TowCtx.search)
      ∧ (w9.get (LANE_TOW_NOISE_valid 26) = 0)) ∧
    ((w7.up = true) ∧ (writable w7 (PORT_TOW_CLR 3) = true)) := by
  and_intros <;> decide +kernel

end O14

namespace O15

def S (n : Nat) (s : State) : State := s.put (PORT_STATUS_stage 3) n
def F (f : Field) (n : Nat) (s : State) : State := s.put f n
def T (f : TowSt → TowSt) (s : State) : State := s.modTow 3 f
def soft32 : List Int := hailBits.map fun b => if b then -100 else 100
def w0 : State := T (fun x => { x with found := some 5 }) (S 1 up0)
def w1 : State := T (fun x => { x with ctx0 := .header 5 100 }) (S 1 up0)
def w2 : State := T (fun x => { x with ctx0 := .payload 5 (frameHeader 3 3 0x123) }) (S 1 up0)
def w3 : State := T (fun x => { x with ctx0 := .payload 5 0x2007b6d }) (F (PORT_TOW_TAG_tag 3) 0x77 (S 1 up0))
def w4 : State := S 7 up0
def w5 : State := (F (MBX_CFG_sources 2) 7 (F (PORT_TOW_CTRL_mgmt_en 3) 1 (S 7 up0))).setReg (MBX_STATUS 2) 0
def w6 : State := T (fun x => { x with mgmtTx := some ⟨2, [1,2,3], 0, 1⟩ }) (S 7 up0)
def w7 : State := F PWR_WAKE_EN_ports 0 (S 7 (up0.setReg PWR_WAKE_EN 0))

/-- The soft values of the last 26 bits of a header; its six leading zeros leave the code in its first state. -/
def header26 : List Int := (convolve 0 (numBits 26 (frameHeader 1 3 0x123).toNat)).map fun b => if b then -30 else 30

/-- A header word with which a payload of one zero byte has CRC 0. -/
def plain : Word := 0x2007b6d

theorem witness_TowpathFramesAreTakenByTheirChecks :
    ((w0.up = true) ∧ (w0.stage 3 ≠ 0) ∧ ((w0.tow 3).found = some 5) ∧ ((w0.tow 3).ctx0 = TowCtx.search) ∧ ((w0.tow 3).ctx1 = TowCtx.search)
      ∧ (soft32.length = 32) ∧ (hailErrors soft32 ≤ hailErr w0 3)) ∧
    ((w1.up = true) ∧ (decodedHeader header26 = frameHeader 1 3 291) ∧ ((w1.tow 3).ctx0 = TowCtx.header 5 100) ∧ (headerOk (frameHeader 1 3
      291) = true)) ∧
    ((w1.up = true) ∧ (decodedHeader [] = 0) ∧ ((w1.tow 3).ctx0 = TowCtx.header 5 100) ∧ (headerOk 0 = false)) ∧
    ((w2.up = true) ∧ ((w2.tow 3).ctx0 = TowCtx.payload 5 (frameHeader 3 3 291)) ∧ (decodedPayload ((frameHeader 3 3 291).bits 31 25) [] =
      [0, 0, 0]) ∧ (decodedCrc ((frameHeader 3 3 291).bits 31 25) [] ≠ frameCrc (frameHeader 3 3 291) [0, 0, 0])) ∧
    ((w3.up = true) ∧ ((w3.tow 3).ctx0 = TowCtx.payload 5 plain) ∧ (decodedPayload (plain.bits 31 25) [] = [0]) ∧ (decodedCrc (plain.bits
      31 25) [] = frameCrc plain [0]) ∧ (plain.bits 20 9 ≠ w3.get (PORT_TOW_TAG_tag 3))) ∧
    ((w4.up = true) ∧ ([16, 133, 2, 15, 1, 2, 3, 4].length = 8) ∧ ([16, 133, 2, 15, 1, 2, 3, 4].headD 0 = 16) ∧ (w4.stage 3 ≠ 0)) ∧
    ((w5.up = true) ∧ (w5.stage 3 ≠ 0) ∧ (w5.get (PORT_TOW_CTRL_mgmt_en 3) = 1) ∧ (sourceOn w5 2 Owner.towpath = true) ∧ ((w5.tow
      3).mgmtRx.find 2 = none) ∧ (boxState w5 2 = BoxState.idle)) ∧
    ((w6.up = true) ∧ (w6.stage 3 ≠ 0) ∧ ((w6.tow 3).mgmtTx = some (MgmtTx.mk 2 [1, 2, 3] 0 1)) ∧ ([1, 2, 3].length ≤ 61)) ∧
    ((w7.up = true) ∧ (wakeSeen w7 3 = true) ∧ (w7.mode = Mode.service) ∧ (w7.start.phase = StartPhase.ended) ∧ (natBit (BitVec.toNat
      (w7.reg PWR_WAKE_EN)) 3 = false)) := by
  and_intros <;> decide +kernel

end O15

namespace O16

def S (n : Nat) (s : State) : State := s.put (PORT_STATUS_stage 3) n
def F (f : Field) (n : Nat) (s : State) : State := s.put f n
def P (f : PortSt → PortSt) (s : State) : State := s.modPort 3 f
def L (f : LinkSt → LinkSt) (s : State) : State := s.modLink 3 f
def hd (op : Nat) (dst : Nat) : Header := ⟨op, 0, true, 5, 6, dst, false, false, true, 0x44, 0, 4, 0⟩
def en (u : Nat) (op dst : Nat) : Entry := ⟨u, ⟨hd op dst, []⟩, 3, false, false, false, false, true, false, true, 0, none, none⟩
def en1 : Entry := { en 4 0x18 0 with begun := true }
def hdv : Header := { hd 0x20 2 with vn := true }
def V (n : Nat) (s : State) : State := F (PORT_STATUS_version 3) n (S 7 s)
def idleOf (s : State) : List Byte := buildFlit (isV2 s 3) ⟨2, (s.link 3).expected, 0, false, false, (9, 8, 7), 0⟩ [] 0
def box0 (s : State) : State := (List.range 8).foldl (fun s b => s.setReg (MBX_STATUS b) 0) s
def w0 : State := P (fun x => { x with blkSeen := 40, badCw := [2] }) (V 2 up0)
def w1 : State := V 1 up0
def w2 : State := V 2 up0
def w3 : State := P (fun x => { x with txBlocks := flitBlocks (idleOf (V 2 up0)) ++ flitBlocks (idleOf (V 2 up0)) }) (F (PORT_STATUS_reach 3) 2 (V 2 up0))
def w4 : State := L (fun x => { x with replay := [(5, [1]), (6, [2])] }) (V 2 up0)
def w5 : State := L (fun x => { x with rreqOut := true }) (V 2 up0)
def w6 : State := L (fun x => { x with table := [en1] }) (V 1 up0)
def w7 : State := L (fun x => { x with table := [en1], granted := (9, 8, 7), consumed := (0, 0, 0) }) (V 2 up0)
def w8 : State := box0 (L (fun x => { x with responses := [⟨⟨hd 0x20 2, []⟩, none, none, true⟩], granted := (200, 300, 7), consumed := (0, 0, 0) }) (V 2 up0))
def w9 : State := box0 (L (fun x => { x with responses := [⟨⟨hdv, []⟩, none, none, true⟩], granted := (200, 300, 7), consumed := (0, 0, 0) }) (V 1 up0))
def w10 : State := L (fun x => { x with table := [en1], vc0 := [en 5 0x18 (liveNode up0)] }) (V 2 up0)

theorem crc_w2 : flitCrcOk (isV2 w2 3) (idleOf (V 2 up0)) = true := flitCrcOk_buildFlit_nil (isV2 w2 3) _ 0
theorem crc_w1 : flitCrcOk (isV2 w1 3) (idleOf (V 1 up0)) = true := flitCrcOk_buildFlit_nil (isV2 w1 3) _ 0

theorem witness_LinkFlitsActAsStated :
    ((w0.up = true) ∧ (w0.stage 3 = 7) ∧ (flitMarked (w0.port 3) (if isV2 w0 3 = true then 16 else 8) = true ∨ flitCrcOk (isV2 w0 3) (idleOf
      (V 2 up0)) = false)) ∧
    ((w1.up = true) ∧ (w1.stage 3 = 7) ∧ (flitMarked (w1.port 3) (if isV2 w1 3 = true then 16 else 8) = true ∨ flitCrcOk (isV2 w1 3) [1, 2]
      = false)) ∧
    ((w2.up = true) ∧ (w2.stage 3 = 7) ∧ (flitMarked (w2.port 3) (if isV2 w2 3 = true then 16 else 8) = false) ∧ (flitCrcOk (isV2 w2 3)
      (idleOf (V 2 up0)) = true) ∧ (unpackHead (ofBytesBE (List.take 16 (idleOf (V 2 up0)))) = unpackHead (ofBytesBE (List.take 16 (idleOf
      (V 2 up0))))) ∧ ((unpackHead (ofBytesBE (List.take 16 (idleOf (V 2 up0))))).ftype = 2) ∧ ((unpackHead (ofBytesBE (List.take 16 (idleOf
      (V 2 up0))))).start = 0) ∧ ((unpackHead (ofBytesBE (List.take 16 (idleOf (V 2 up0))))).rreq = false) ∧ ((unpackHead (ofBytesBE
      (List.take 16 (idleOf (V 2 up0))))).ackValid = false) ∧ ((unpackHead (ofBytesBE (List.take 16 (idleOf (V 2 up0))))).seq = (w2.link
      3).expected)) ∧
    ((w1.up = true) ∧ (w1.stage 3 = 7) ∧ (flitMarked (w1.port 3) (if isV2 w1 3 = true then 16 else 8) = false) ∧ (flitCrcOk (isV2 w1 3)
      (idleOf (V 1 up0)) = true) ∧ (unpackHead (ofBytesBE (List.take 16 (idleOf (V 1 up0)))) = unpackHead (ofBytesBE (List.take 16 (idleOf
      (V 1 up0))))) ∧ ((unpackHead (ofBytesBE (List.take 16 (idleOf (V 1 up0))))).ftype = 2) ∧ ((unpackHead (ofBytesBE (List.take 16 (idleOf
      (V 1 up0))))).start = 0) ∧ ((unpackHead (ofBytesBE (List.take 16 (idleOf (V 1 up0))))).rreq = false) ∧ ((unpackHead (ofBytesBE
      (List.take 16 (idleOf (V 1 up0))))).ackValid = false) ∧ ((unpackHead (ofBytesBE (List.take 16 (idleOf (V 1 up0))))).seq = (w1.link
      3).expected)) ∧
    ((w2.up = true) ∧ (w2.stage 3 = 7) ∧ ((w2.link 3).replaying = []) ∧ ((w2.link 3).txSlots = [])) ∧
    ((w3.up = true) ∧ (w3.stage 3 = 7) ∧ ((w3.link 3).replaying = []) ∧ ((w3.link 3).txSlots = [])) ∧
    ((w4.up = true) ∧ (w4.stage 3 = 7) ∧ ((w4.link 3).replaying = []) ∧ ((w4.link 3).replay ≠ []) ∧ ((w4.link 3).replayRun < 3) ∧ ((w4.link
      3).replayTick ≠ some (w4.ticks, false))) ∧
    ((w5.up = true) ∧ (w5.stage 3 = 7) ∧ ((w5.link 3).rreqOut = true)) ∧
    ((w6.up = true) ∧ (w6.stage 3 = 7) ∧ ((w6.link 3).vc0 = []) ∧ ((w6.link 3).table = [en1]) ∧ (en1.record = none) ∧ (en1.begun = true) ∧
      (en1.delays < 1024) ∧ ((w6.link 3).responses = []) ∧ (isV2 w6 3 = false)) ∧
    ((w7.up = true) ∧ (w7.stage 3 = 7) ∧ ((w7.link 3).vc0 = []) ∧ ((w7.link 3).table = [en1]) ∧ (en1.record = none) ∧ (en1.begun = true) ∧
      (en1.delays < 1024) ∧ ((w7.link 3).responses = []) ∧ (isV2 w7 3 = true) ∧ (en1.dead = false) ∧ (0 < creditsHeld (w7.link 3) 1)) ∧
    ((w8.up = true) ∧ (w8.stage 3 = 7) ∧ ((w8.link 3).responses = [Outgoing.mk (Txn.mk (hd 32 2) []) none none true]) ∧ ((w8.link 3).notices
      = []) ∧ ((Outgoing.mk (Txn.mk (hd 32 2) []) none none true).own = true) ∧ ((Outgoing.mk (Txn.mk (hd 32 2) []) none none true).frees =
      none) ∧ ((Outgoing.mk (Txn.mk (hd 32 2) []) none none true).txn.hdr.opcode = 32) ∧ (maySend w8 3 (Outgoing.mk (Txn.mk (hd 32 2) [])
      none none true).txn = true) ∧ (∀ (b : Fin 8), (w8.box b).entry = none ∧ boxState w8 b = BoxState.idle)) ∧
    ((w9.up = true) ∧ (w9.stage 3 = 7) ∧ ((w9.link 3).responses = [Outgoing.mk (Txn.mk hdv []) none none true]) ∧ ((w9.link 3).notices = [])
      ∧ ((Outgoing.mk (Txn.mk hdv []) none none true).own = true) ∧ ((Outgoing.mk (Txn.mk hdv []) none none true).frees = none) ∧
      ((Outgoing.mk (Txn.mk hdv []) none none true).txn.hdr.opcode = 32) ∧ (maySend w9 3 (Outgoing.mk (Txn.mk hdv []) none none true).txn =
      true) ∧ (∀ (b : Fin 8), (w9.box b).entry = none ∧ boxState w9 b = BoxState.idle)) ∧
    ((w10.up = true) ∧ (w10.stage 3 = 7) ∧ ((w10.link 3).table = [en1]) ∧ ((w10.link 3).vc0 = [en 5 24 (liveNode up0)]) ∧ (en1.begun = true)
      ∧ (en1.done = false) ∧ (en1.uid < (en 5 24 (liveNode up0)).uid) ∧ ((en 5 24 (liveNode up0)).txn.hdr.fence = true) ∧ ((en 5 24
      (liveNode up0)).begun = false) ∧ ((en 5 24 (liveNode up0)).record = none) ∧ (w10.modes.intakeClosed = false) ∧ (sharedUsed w10 < 8192)
      ∧ ((en 5 24 (liveNode up0)).epoch = (w10.link 3).wseqEpoch) ∧ (headerNak (en 5 24 (liveNode up0)) = none) ∧ ((en 5 24 (liveNode
      up0)).txn.hdr.dst = liveNode w10) ∧ ((en 5 24 (liveNode up0)).txn.hdr.opcode = Op.cfgRd)) ∧
    ((w2.up = true) ∧ (w2.stage 3 = 7) ∧ (writable w2 (UZ_CLR 3) = true)) := by
  and_intros <;> first | with_reducible exact crc_w2 | with_reducible exact crc_w1 | decide +kernel

end O16

namespace O17

def S (n : Nat) (s : State) : State := s.put (PORT_STATUS_stage 3) n
def F (f : Field) (n : Nat) (s : State) : State := s.put f n
def hd (op : Nat) (dst : Nat) : Header := ⟨op, 0, true, 5, 6, dst, false, false, true, 0x44, 0, 4, 0⟩
def hd5 (op : Nat) (dst : Nat) : Header := ⟨op, 0, true, 5, 6, dst, false, false, true, 0x44, 2, 4, 0⟩
def fen (u : Nat) (s : State) : Entry := ⟨u, ⟨⟨1, 0, true, 5, (liveNode s + 1) % 64, 9, false, false, true, 0x44, 0, 4, 0⟩, []⟩, 3, false, false, false, false, true, false, true, 0, some ⟨3, some 7⟩, none⟩
def R (s : State) : State := ((F (PORT_STATUS_stage 4) 7 (S 7 s)).put FAB_CTRL_fwd_en 1).put (FAB_PORT_CTRL_fwd 3) 1
def RV (n : Nat) (s : State) : State := let s := (R s).put (PORT_STATUS_version 4) n; s.modLink 4 fun x => { x with table := [fen 9 s] }
def w0 : State := F FAB_CTRL_fwd_en 0 (S 7 up0)
def w1 : State := S 7 up0
def w2 : State := RV 2 up0
def w3 : State := F (PORT_STATUS_version 3) 1 (S 7 up0)

theorem witness_ResponsesAndNoticesAreForwardedOrDropped :
    ((w0.up = true) ∧ (w0.stage 3 = 7) ∧ ((w0.link 3).inbox = []) ∧ (Option.any (fun r => r.draining) w0.start.request = false) ∧ (w0.get
      FAB_CTRL_fwd_en = 0)) ∧
    ((w1.up = true) ∧ (w1.stage 3 = 7) ∧ ((w1.link 3).inbox = []) ∧ (Option.any (fun r => r.draining) w1.start.request = false)) ∧
    ((w1.up = true) ∧ (w1.stage 3 = 7) ∧ ((w1.link 3).inbox = []) ∧ (Option.any (fun r => r.draining) w1.start.request = false) ∧
      (listedOpcode (hd 63 1).opcode = false) ∧ ((hd 63 1).opcode = 0 ∨ 32 ≤ (hd 63 1).opcode)) ∧
    ((w2.up = true) ∧ (w2.stage 3 = 7) ∧ ((w2.link 3).inbox = []) ∧ (Option.any (fun r => r.draining) w2.start.request = false) ∧ (w2.get
      FAB_CTRL_fwd_en = 1) ∧ (w2.get (FAB_PORT_CTRL_fwd 3) = 1) ∧ ((hd5 63 ((liveNode up0 + 1) % 64)).dst ≠ liveNode w2) ∧ (4 ≠ 3) ∧
      (recordOf w2 3 (hd5 63 ((liveNode up0 + 1) % 64)).dst (hd5 63 ((liveNode up0 + 1) % 64)).tag = some (4, fen 9 up0)) ∧ (w2.stage 4 =
      7)) ∧
    ((w2.up = true) ∧ (w2.stage 3 = 7) ∧ ((w2.link 3).inbox = []) ∧ (Option.any (fun r => r.draining) w2.start.request = false) ∧ (w2.get
      FAB_CTRL_fwd_en = 1) ∧ (w2.get (FAB_PORT_CTRL_fwd 3) = 1) ∧ ((hd5 63 ((liveNode up0 + 1) % 64)).dst ≠ liveNode w2) ∧ (4 ≠ 3) ∧
      (recordOf w2 3 (hd5 63 ((liveNode up0 + 1) % 64)).dst (hd5 63 ((liveNode up0 + 1) % 64)).tag = some (4, fen 9 up0)) ∧ (w2.stage 4 = 7)
      ∧ (isV2 w2 4 = true)) ∧
    ((w1.up = true) ∧ (w1.stage 3 = 7) ∧ ((w1.link 3).inbox = []) ∧ (Option.any (fun r => r.draining) w1.start.request = false) ∧
      (listedOpcode (hd 21 (liveNode up0)).opcode = false) ∧ (1 ≤ (hd 21 (liveNode up0)).opcode) ∧ ((hd 21 (liveNode up0)).opcode < 32) ∧
      ((w1.link 3).vc0 = []) ∧ ((w1.link 3).table = []) ∧ ((hd 21 (liveNode up0)).dst = liveNode w1) ∧ (w1.modes.intakeClosed = false)) ∧
    ((w1.up = true) ∧ (w1.stage 3 = 7) ∧ ((w1.link 3).inbox = []) ∧ (Option.any (fun r => r.draining) w1.start.request = false) ∧
      (listedOpcode (hd 0 1).opcode = false) ∧ ((hd 0 1).opcode = 0 ∨ 32 ≤ (hd 0 1).opcode)) ∧
    ((w1.up = true) ∧ (w1.stage 3 = 7) ∧ ((w1.link 3).inbox = []) ∧ (Option.any (fun r => r.draining) w1.start.request = false) ∧
      (listedOpcode (hd 37 1).opcode = false) ∧ ((hd 37 1).opcode = 0 ∨ 32 ≤ (hd 37 1).opcode)) ∧
    ((w3.up = true) ∧ (w3.stage 3 = 7) ∧ ((w3.link 3).inbox = []) ∧ (Option.any (fun r => r.draining) w3.start.request = false) ∧
      (listedOpcode (hd 13 (liveNode up0)).opcode = false) ∧ (1 ≤ (hd 13 (liveNode up0)).opcode) ∧ ((hd 13 (liveNode up0)).opcode < 32) ∧
      ((w3.link 3).vc0 = []) ∧ ((w3.link 3).table = []) ∧ ((hd 13 (liveNode up0)).dst = liveNode w3) ∧ (w3.modes.intakeClosed = false)) := by
  and_intros <;> decide +kernel

end O17

namespace O18

def P3 (s : State) : State := ((s.put (PORT_STATUS_stage 3) 7).put (PORT_STATUS_version 3) 2).put (UZ_CTRL_posted_en 3) 1
def rg (ty pol ini : Nat) (s : State) : State := ((((((((s.put (SVC_RGN_PLACE_base 0) 2).put (SVC_RGN_PLACE_size 0) 4).put (SVC_RGN_ATTR_enable 0) 1).put (SVC_RGN_ATTR_type 0) ty).put (SVC_RGN_ATTR_landing 0) pol).put (SVC_RGN_ATTR_init 0) ini).put (SVC_RGN_STATUS_live 0) 1).put (SVC_RGN_STATUS_cause 0) 0).put (SVC_RGN_ATTR_map 0) 0
def mp (s : State) : State := if s.regs.length < 10 then s else (List.range 12).foldl (fun s k => s.put (HC_MAP0_SEL_mask k) (2 ^ k)) s
def A : Nat := 2 * 2 ^ 26 + 256 * 40 + 64
def N : Nat := A / 64
def ln : Line := ⟨3, (List.range 64).map (BitVec.ofNat 8 ·), .clean, false, 0, 0, 0, []⟩
def hold (s : State) : State := setLine N ln s
def dt : List Byte := (List.range 64).map fun i => BitVec.ofNat 8 (200 + i)
def dm : List Byte := List.replicate 32 0xA5 ++ dt
def hh (s : State) (a len rlen aux : Nat) (po : Bool) : Header := ⟨0x3F, 0, true, if po then 0xFFF else 5, 6, liveNode s, false, po, true, a, len, rlen, aux⟩
def d256 : List Byte := (List.range 256).map fun i => BitVec.ofNat 8 i
def w0 : State := hold (P3 (rg 0 1 0 (mp up0)))
def w1 : State := hold (P3 (rg 0 0 0 (mp up0)))
def w2 : State := hold (P3 (rg 2 1 0 (mp up0)))
def w3 : State := hold (P3 (rg 2 2 0 (mp up0)))
def w4 : State := P3 (rg 2 0 0 (mp up0))
def w5 : State := hold (P3 (rg 2 0 0 (mp up0)))
def w6 : State := P3 (rg 2 0 1 (mp up0))

theorem witness_ReadsAndWritesActOnTheirLine :
    ((takenAtOnce w0 3 (Txn.mk (withOpcode (hh up0 (A + 5) 0 20 0 false) Op.rd) []) 0 = true) ∧ (lineReady w0 ((hh up0 (A + 5) 0 20 0
      false).addr / 64) ln = true) ∧ (((hh up0 (A + 5) 0 20 0 false).addr + (hh up0 (A + 5) 0 20 0 false).rlen - 1) / 64 = (hh up0 (A + 5) 0
      20 0 false).addr / 64) ∧ (inLinkArea w0 0 (hh up0 (A + 5) 0 20 0 false).addr = false)) ∧
    ((takenAtOnce w1 3 (Txn.mk (withOpcode (hh up0 (A + 5) 0 20 0 false) Op.rd) []) 0 = true) ∧ (lineReady w1 ((hh up0 (A + 5) 0 20 0
      false).addr / 64) ln = true) ∧ (((hh up0 (A + 5) 0 20 0 false).addr + (hh up0 (A + 5) 0 20 0 false).rlen - 1) / 64 = (hh up0 (A + 5) 0
      20 0 false).addr / 64) ∧ (inLinkArea w1 0 (hh up0 (A + 5) 0 20 0 false).addr = false)) ∧
    ((takenAtOnce w2 3 (Txn.mk (withOpcode (hh up0 (A + 5) 20 0 0 false) Op.wr) dt) 0 = true) ∧ (lineReady w2 ((hh up0 (A + 5) 20 0 0
      false).addr / 64) ln = true) ∧ (((hh up0 (A + 5) 20 0 0 false).addr + (hh up0 (A + 5) 20 0 0 false).len - 1) / 64 = (hh up0 (A + 5) 20
      0 0 false).addr / 64) ∧ (rgnPolicy w2 0 ≠ 0) ∧ (parcelValid w2 ((hh up0 (A + 5) 20 0 0 false).addr / 64 / 4) = true)) ∧
    ((takenAtOnce w3 3 (Txn.mk (withOpcode (hh up0 A 64 0 0 true) Op.wr) dt) 0 = true) ∧ (lineReady w3 ((hh up0 A 64 0 0 true).addr / 64) ln
      = true) ∧ (((hh up0 A 64 0 0 true).addr + (hh up0 A 64 0 0 true).len - 1) / 64 = (hh up0 A 64 0 0 true).addr / 64) ∧ (rgnPolicy w3 0 ≠
      0) ∧ (parcelValid w3 ((hh up0 A 64 0 0 true).addr / 64 / 4) = true)) ∧
    ((takenAtOnce w2 3 (Txn.mk (withOpcode (hh up0 (A + 16) 64 0 0 false) Op.wrm) dm) 0 = true) ∧ (lineReady w2 ((hh up0 (A + 16) 64 0 0
      false).addr / 64) ln = true) ∧ (((hh up0 (A + 16) 64 0 0 false).addr + ((hh up0 (A + 16) 64 0 0 false).len - 32) - 1) / 64 = (hh up0
      (A + 16) 64 0 0 false).addr / 64) ∧ (rgnPolicy w2 0 ≠ 0) ∧ (parcelValid w2 ((hh up0 (A + 16) 64 0 0 false).addr / 64 / 4) = true)) ∧
    ((takenAtOnce w4 3 (Txn.mk (withOpcode (hh up0 (A + 5) 20 0 0 false) Op.wr) dt) 0 = true) ∧ (((hh up0 (A + 5) 20 0 0 false).addr + (hh
      up0 (A + 5) 20 0 0 false).len - 1) / 256 = (hh up0 (A + 5) 20 0 0 false).addr / 64 / 4) ∧ (rgnPolicy w4 0 = 0) ∧
      (w4.landing.flushes.find 0 = none)) ∧
    ((takenAtOnce w5 3 (Txn.mk (withOpcode (hh up0 (A + 50) 60 0 0 true) Op.wr) dt) 0 = true) ∧ (((hh up0 (A + 50) 60 0 0 true).addr + (hh
      up0 (A + 50) 60 0 0 true).len - 1) / 256 = (hh up0 (A + 50) 60 0 0 true).addr / 64 / 4) ∧ (rgnPolicy w5 0 = 0) ∧
      (w5.landing.flushes.find 0 = none)) ∧
    ((takenAtOnce w5 3 (Txn.mk (withOpcode (hh up0 (A + 50) 60 0 0 false) Op.wr) dt) 0 = true) ∧ (((hh up0 (A + 50) 60 0 0 false).addr + (hh
      up0 (A + 50) 60 0 0 false).len - 1) / 256 = (hh up0 (A + 50) 60 0 0 false).addr / 64 / 4) ∧ (rgnPolicy w5 0 = 0) ∧
      (w5.landing.flushes.find 0 = none)) ∧
    ((takenAtOnce w4 3 (Txn.mk (withOpcode (hh up0 (A + 16) 80 0 0 false) Op.wrm) dm) 0 = true) ∧ (((hh up0 (A + 16) 80 0 0 false).addr +
      ((hh up0 (A + 16) 80 0 0 false).len - 32) - 1) / 256 = (hh up0 (A + 16) 80 0 0 false).addr / 64 / 4) ∧ (rgnPolicy w4 0 = 0) ∧
      (w4.landing.flushes.find 0 = none)) ∧
    ((takenAtOnce w4 3 (Txn.mk (withOpcode (hh up0 (A - 64) 256 0 0 false) Op.wr) d256) 0 = true) ∧ (((hh up0 (A - 64) 256 0 0 false).addr +
      (hh up0 (A - 64) 256 0 0 false).len - 1) / 256 = (hh up0 (A - 64) 256 0 0 false).addr / 64 / 4) ∧ (rgnPolicy w4 0 = 0) ∧
      (w4.landing.flushes.find 0 = none)) ∧
    ((takenAtOnce w6 3 (Txn.mk (withOpcode (hh up0 (A - 64) 25 0 0 false) Op.wr) d256) 0 = true) ∧ (((hh up0 (A - 64) 25 0 0 false).addr +
      (hh up0 (A - 64) 25 0 0 false).len - 1) / 256 = (hh up0 (A - 64) 25 0 0 false).addr / 64 / 4) ∧ (rgnPolicy w6 0 = 0) ∧
      (w6.landing.flushes.find 0 = none)) := by
  and_intros <;> decide +kernel

end O18

namespace O19

def P3 (s : State) : State := ((s.put (PORT_STATUS_stage 3) 7).put (PORT_STATUS_version 3) 2).put (UZ_CTRL_posted_en 3) 1
def rg (ty pol ini : Nat) (s : State) : State := ((((((((s.put (SVC_RGN_PLACE_base 0) 2).put (SVC_RGN_PLACE_size 0) 4).put (SVC_RGN_ATTR_enable 0) 1).put (SVC_RGN_ATTR_type 0) ty).put (SVC_RGN_ATTR_landing 0) pol).put (SVC_RGN_ATTR_init 0) ini).put (SVC_RGN_STATUS_live 0) 1).put (SVC_RGN_STATUS_cause 0) 0).put (SVC_RGN_ATTR_map 0) 0
def mp (s : State) : State := if s.regs.length < 10 then s else (List.range 12).foldl (fun s k => s.put (HC_MAP0_SEL_mask k) (2 ^ k)) s
def A : Nat := 2 * 2 ^ 26 + 256 * 40 + 64
def N : Nat := A / 64
def ln : Line := ⟨3, (List.range 64).map (BitVec.ofNat 8 ·), .clean, false, 0, 0, 0, []⟩
def hold (s : State) : State := setLine N ln s
def dt : List Byte := (List.range 64).map fun i => BitVec.ofNat 8 (200 + i)
def hh (s : State) (a len rlen aux : Nat) (po : Bool) : Header := ⟨0x3F, 0, true, if po then 0xFFF else 5, 6, liveNode s, false, po, true, a, len, rlen, aux⟩
def w0 : State := hold (P3 (rg 2 1 0 (mp up0)))
def w1 : State := hold (P3 (rg 2 0 0 (mp up0)))
def w2 : State := hold (P3 (rg 3 1 0 (mp up0)))

theorem witness_AtomicsActOnTheirLine :
    ((takenAtOnce w0 3 (Txn.mk (withOpcode (hh up0 (A + 16) 16 0 0 false) Op.cntAdd) dt) 0 = true) ∧ (lineReady w0 ((hh up0 (A + 16) 16 0 0
      false).addr / 64) ln = true) ∧ (parcelValid w0 ((hh up0 (A + 16) 16 0 0 false).addr / 64 / 4) = true)) ∧
    ((takenAtOnce w1 3 (Txn.mk (withOpcode (hh up0 (A + 16) 16 0 0 true) Op.cntAdd) dt) 0 = true) ∧ (lineReady w1 ((hh up0 (A + 16) 16 0 0
      true).addr / 64) ln = true) ∧ (parcelValid w1 ((hh up0 (A + 16) 16 0 0 true).addr / 64 / 4) = true)) ∧
    ((takenAtOnce w0 3 (Txn.mk (withOpcode (hh up0 (A + 32) 0 16 0 false) Op.cntRdclr) []) 0 = true) ∧ (lineReady w0 ((hh up0 (A + 32) 0 16
      0 false).addr / 64) ln = true) ∧ (parcelValid w0 ((hh up0 (A + 32) 0 16 0 false).addr / 64 / 4) = true)) ∧
    ((takenAtOnce w0 3 (Txn.mk (withOpcode (hh up0 (A + 16) 16 16 0 false) Op.fadd) dt) 0 = true) ∧ (lineReady w0 ((hh up0 (A + 16) 16 16 0
      false).addr / 64) ln = true) ∧ (parcelValid w0 ((hh up0 (A + 16) 16 16 0 false).addr / 64 / 4) = true)) ∧
    ((takenAtOnce w0 3 (Txn.mk (withOpcode (hh up0 (A + 16) 16 16 0 false) Op.cas) dt) 0 = true) ∧ (lineReady w0 ((hh up0 (A + 16) 16 16 0
      false).addr / 64) ln = true) ∧ (parcelValid w0 ((hh up0 (A + 16) 16 16 0 false).addr / 64 / 4) = true)) ∧
    ((takenAtOnce w2 3 (Txn.mk (withOpcode (hh up0 (A + 32) 0 0 32 false) Op.meter) []) 0 = true) ∧ (lineReady w2 ((hh up0 (A + 32) 0 0 32
      false).addr / 64) ln = true) ∧ (parcelValid w2 ((hh up0 (A + 32) 0 0 32 false).addr / 64 / 4) = true)) := by
  and_intros <;> decide +kernel

end O19

namespace O20

def P3 (s : State) : State := ((s.put (PORT_STATUS_stage 3) 7).put (PORT_STATUS_version 3) 2).put (UZ_CTRL_posted_en 3) 1
def rg (ty pol ini : Nat) (s : State) : State := ((((((((s.put (SVC_RGN_PLACE_base 0) 2).put (SVC_RGN_PLACE_size 0) 4).put (SVC_RGN_ATTR_enable 0) 1).put (SVC_RGN_ATTR_type 0) ty).put (SVC_RGN_ATTR_landing 0) pol).put (SVC_RGN_ATTR_init 0) ini).put (SVC_RGN_STATUS_live 0) 1).put (SVC_RGN_STATUS_cause 0) 0).put (SVC_RGN_ATTR_map 0) 0
def mp (s : State) : State := if s.regs.length < 10 then s else (List.range 12).foldl (fun s k => s.put (HC_MAP0_SEL_mask k) (2 ^ k)) s
def pl (pol : Nat) (s : State) : State := (((((((P3 (rg 1 pol 0 (mp s))).setReg (SVC_POOL_ROT 0 0) 6).setReg (SVC_POOL_ROT 0 1) 0).setReg (SVC_POOL_ROT 0 2) 0).setReg (SVC_POOL_ROT 0 3) 0).put (SVC_PROF_CFG_enable 0) 1).put (SVC_PROF_CFG_pool 0) 0).setPool 0 { PoolSt.reset with lists := [(1, { FreeList.reset with count := 9 }), (2, { FreeList.reset with pushed := [8], count := 9, next := 9 })], links := [(4, packLink ⟨5, 100, true, false, false, false, 3⟩), (5, packLink ⟨noParcel, 90, false, true, false, false, 3⟩)] }
def qu (s : State) : State := s.setQueue 7 { Queue.reset with head := 4, tail := 5, count := 2, bytes := 190 }
def hh (s : State) (a len rlen aux : Nat) (po : Bool) : Header := ⟨0x3F, 0, true, if po then 0xFFF else 5, 6, liveNode s, false, po, true, a, len, rlen, aux⟩
def dt : List Byte := (List.range 64).map fun i => BitVec.ofNat 8 (200 + i)
def mv : List Byte := [0,0,0,9,0,0,0,0,0,0,0,0,0,0,0,0]
def w0 : State := pl 0 up0
def w1 : State := qu (pl 1 up0)
def w2 : State := qu (pl 0 up0)

theorem witness_QueueOperationsActOnTheirQueue :
    (((w0.pool 0).rebuilding = false) ∧ (takenAtOnce w0 3 (Txn.mk (withOpcode (hh up0 7 20 0 1 false) Op.enq) dt) 0 = true) ∧ (natBit (hh
      up0 7 20 0 1 false).aux 0 = true) ∧ ((w0.queue (hh up0 7 20 0 1 false).addr).opened = false) ∧ ((w0.queue (hh up0 7 20 0 1
      false).addr).count ≠ profLimit w0 (w0.queue (hh up0 7 20 0 1 false).addr).profile) ∧ ((allocParcel (hh up0 7 20 0 1 false).addr 0
      (profStrict w0 (w0.queue (hh up0 7 20 0 1 false).addr).profile) w0).fst = Alloc.got 8 2 false)) ∧
    (((w1.pool 0).rebuilding = false) ∧ (takenAtOnce w1 3 (Txn.mk (withOpcode (hh up0 7 20 0 3 true) Op.enq) dt) 0 = true) ∧ (natBit (hh up0
      7 20 0 3 true).aux 0 = true) ∧ ((w1.queue (hh up0 7 20 0 3 true).addr).opened = false) ∧ ((w1.queue (hh up0 7 20 0 3 true).addr).count
      ≠ profLimit w1 (w1.queue (hh up0 7 20 0 3 true).addr).profile) ∧ ((allocParcel (hh up0 7 20 0 3 true).addr 0 (profStrict w1 (w1.queue
      (hh up0 7 20 0 3 true).addr).profile) w1).fst = Alloc.got 8 2 false)) ∧
    (((w2.pool 0).rebuilding = false) ∧ (takenAtOnce w2 3 (Txn.mk (withOpcode (hh up0 7 0 256 0 false) Op.deq) dt) 0 = true) ∧ (rgnPolicy w2
      0 = 0) ∧ ((w2.queue (hh up0 7 0 256 0 false).addr).count ≠ 0) ∧ (natBit (hh up0 7 0 256 0 false).aux 0 = false)) ∧
    (((w2.pool 0).rebuilding = false) ∧ (takenAtOnce w2 3 (Txn.mk (withOpcode (hh up0 7 0 256 0 false) Op.peek) dt) 0 = true) ∧ (rgnPolicy
      w2 0 = 0) ∧ ((w2.queue (hh up0 7 0 256 0 false).addr).count ≠ 0)) ∧
    (((w2.pool 0).rebuilding = false) ∧ (takenAtOnce w2 3 (Txn.mk (withOpcode (hh up0 7 0 0 2 false) Op.drop) dt) 0 = true) ∧ ((hh up0 7 0 0
      2 false).aux % 4 = 2) ∧ ((w2.queue (hh up0 7 0 0 2 false).addr).count ≠ 0)) ∧
    (((w2.pool 0).rebuilding = false) ∧ (takenAtOnce w2 3 (Txn.mk (withOpcode (hh up0 7 16 0 0 false) Op.move) mv) 0 = true) ∧ (queuePool w2
      (moveDest (Txn.mk (hh up0 7 16 0 0 false) mv)) = some 0) ∧ (moveDest (Txn.mk (hh up0 7 16 0 0 false) mv) ≠ (hh up0 7 16 0 0
      false).addr) ∧ (BitVec.toNat (mv.getD 4 0) = 0) ∧ ((w2.queue (hh up0 7 16 0 0 false).addr).count ≠ 0) ∧ ((w2.queue (moveDest (Txn.mk
      (hh up0 7 16 0 0 false) mv))).opened = false) ∧ ((w2.queue (moveDest (Txn.mk (hh up0 7 16 0 0 false) mv))).count < profLimit w2
      (w2.queue (moveDest (Txn.mk (hh up0 7 16 0 0 false) mv))).profile)) ∧
    (((w1.pool 0).rebuilding = false) ∧ (takenAtOnce w1 3 (Txn.mk (withOpcode (hh up0 7 16 0 0 true) Op.move) mv) 0 = true) ∧ (queuePool w1
      (moveDest (Txn.mk (hh up0 7 16 0 0 true) mv)) = some 0) ∧ (moveDest (Txn.mk (hh up0 7 16 0 0 true) mv) ≠ (hh up0 7 16 0 0 true).addr)
      ∧ (BitVec.toNat (mv.getD 4 0) = 0) ∧ ((w1.queue (hh up0 7 16 0 0 true).addr).count ≠ 0) ∧ ((w1.queue (moveDest (Txn.mk (hh up0 7 16 0
      0 true) mv))).opened = false) ∧ ((w1.queue (moveDest (Txn.mk (hh up0 7 16 0 0 true) mv))).count < profLimit w1 (w1.queue (moveDest
      (Txn.mk (hh up0 7 16 0 0 true) mv))).profile)) := by
  and_intros <;> decide +kernel

end O20

namespace O21

def F (f : Field) (n : Nat) (s : State) : State := s.put f n
def P3 (s : State) : State := ((s.put (PORT_STATUS_stage 3) 7).put (PORT_STATUS_version 3) 2).put (UZ_CTRL_posted_en 3) 1
def rg (ty pol ini : Nat) (s : State) : State := ((((((((s.put (SVC_RGN_PLACE_base 0) 2).put (SVC_RGN_PLACE_size 0) 4).put (SVC_RGN_ATTR_enable 0) 1).put (SVC_RGN_ATTR_type 0) ty).put (SVC_RGN_ATTR_landing 0) pol).put (SVC_RGN_ATTR_init 0) ini).put (SVC_RGN_STATUS_live 0) 1).put (SVC_RGN_STATUS_cause 0) 0).put (SVC_RGN_ATTR_map 0) 0
def nl (s : State) : State := (List.range 15).foldl (fun s g => s.put (SVC_RGN_STATUS_live (g + 1)) 0) s
def A : Nat := 2 * 2 ^ 26 + 256 * 40 + 64
def N : Nat := A / 64
def ln : Line := ⟨3, (List.range 64).map (BitVec.ofNat 8 ·), .clean, false, 0, 0, 0, []⟩
def hold (s : State) : State := setLine N ln s
def hh (s : State) (a len rlen aux : Nat) : Header := ⟨0x3F, 0, true, 5, 6, liveNode s, false, false, true, a, len, rlen, aux⟩
def dt : List Byte := (List.range 64).map fun i => BitVec.ofNat 8 (200 + i)
def mb (s : State) : State := (s.setReg (MBX_STATUS 2) 0).put (MBX_CFG_sources 2) 7
def sw (n : Nat) (s : State) : State := { s with svc := { s.svc with sweep := { start := 0, late := false, line := n } } }
def w0 : State := P3 up0
def w1 : State := mb (P3 up0)
def w2 : State := (up0).modPool 5 fun x => { x with rebuilding := true }
def w3 : State := (((up0).setReg (SVC_PROF_CFG 0) 0).setReg (SVC_PROF_CFG 3) 0xFFFFFFFF).setQueue 7 { Queue.reset with count := 3 }
def w4 : State := sw N (hold (nl (rg 3 1 0 (F SVC_METER_CTRL_sweep_en 1 up0))))
def w5 : State := sw 5 (nl (rg 1 0 0 (F SVC_METER_CTRL_sweep_en 1 up0)))
def w6 : State := { sw 5 (F SVC_METER_CTRL_sweep_en 1 up0) with ticks := 2 ^ 28 + 1 }

theorem witness_ServiceRegistersAndSweepsActAsStated :
    ((admitted w0 3 (Txn.mk (withOpcode (hh up0 (SVC_POOL_CFG 5) 4 0 0) Op.cfgWr) dt) = true) ∧ ((hh up0 (SVC_POOL_CFG 5) 4 0 0).addr =
      SVC_POOL_CFG 5) ∧ ((hh up0 (SVC_POOL_CFG 5) 4 0 0).len = 4) ∧ (rowAt (SVC_POOL_CFG 5) = some (((rowAt (SVC_POOL_CFG 5)).get rfl).fst,
      ((rowAt (SVC_POOL_CFG 5)).get rfl).snd)) ∧ (locked w0 ((rowAt (SVC_POOL_CFG 5)).get rfl).fst = false)) ∧
    ((admitted w0 3 (Txn.mk (withOpcode (hh up0 DEV_ID 0 4 0) Op.cfgRd) []) = true) ∧ ((hh up0 DEV_ID 0 4 0).addr = DEV_ID) ∧ ((hh up0
      DEV_ID 0 4 0).rlen = 4)) ∧
    ((admitted w1 3 (Txn.mk (withOpcode (hh up0 2 8 4 0) Op.mbx) dt) = true) ∧ (sourceOn w1 (hh up0 2 8 4 0).addr Owner.inBand = true) ∧
      (boxState w1 (hh up0 2 8 4 0).addr = BoxState.idle)) ∧
    ((w2.up = true) ∧ ((w2.pool 5).rebuilding = true)) ∧
    ((writable up0 SVC_QIND_CTRL = true)) ∧
    ((writable up0 SVC_QIND_CTRL = true) ∧ ((up0.queue (Word.bits 6029603 17 0)).count = 0)) ∧
    ((writable w3 SVC_QIND_CTRL = true) ∧ ((w3.queue (Word.bits 786439 17 0)).count ≠ 0) ∧ (profPool w3 (Word.bits 786439 22 18) ≠ profPool
      w3 (w3.queue (Word.bits 786439 17 0)).profile)) ∧
    ((w4.up = true) ∧ (w4.get SVC_METER_CTRL_sweep_en = 1) ∧ (nextMeterLine w4 w4.svc.sweep.line = some N) ∧ (lineReady w4 N ln = true) ∧
      (parcelValid w4 (N / 4) = true)) ∧
    ((w5.up = true) ∧ (w5.get SVC_METER_CTRL_sweep_en = 1) ∧ (nextMeterLine w5 w5.svc.sweep.line = none) ∧ (w5.svc.sweep.line ≠ 0)) ∧
    ((w6.up = true) ∧ (w6.get SVC_METER_CTRL_sweep_en = 1) ∧ (w6.svc.sweep.late = false) ∧ (2 ^ 28 < w6.ticks - w6.svc.sweep.start)) ∧
    ((writable up0 SVC_CLR = true)) := by
  and_intros <;> decide +kernel

end O21

namespace O22

def F (f : Field) (n : Nat) (s : State) : State := s.put f n
def H (f : HcSt → HcSt) (s : State) : State := s.modHc 5 f
def st (ph : Nat) (s : State) : State := ({ s with tt := { s.tt with active := .standard, stormAt := none } }.put (HC_STATUS_state 5) 2).setReg GLB_PERIOD_PHASE (BitVec.ofNat 32 ph)
def im (s : State) : State := { st 0 s with tt := { s.tt with active := .image (List.replicate (0xC00 + 1152 * 5) 0 ++ [0x82, 0]), stormAt := none } }
def ac (w : Bool) (seq : Nat) (_ : State) : Access := ⟨seq, 0, 3, 0, false, w, 5, 15, true, false, false, false, false, 0, false, .write 7 ((List.range 256).map fun i => if i < 20 then some 7 else none)⟩
def ad (w l : Bool) (seq : Nat) : Access := ⟨seq, 0, 3, 0, false, w, 5, 15, false, true, false, l, false, 0, false, .read 7⟩
def an (w : Bool) (seq : Nat) : Access := ⟨seq, 0, 3, 0, false, w, 5, 15, false, false, false, false, false, 0, false, .read 7⟩
def nv (s : State) : State := (List.range 16).foldl (fun s g => s.setReg (SVC_RGN_ATTR g) 0) s
def bk (n : Nat) (s : State) : Access := (bookedPick s 5 (berthTime s 5) 0 (n == 1)).getD (an false 3)
def W (s : State) : State := H (fun x => { x with queue := [ac true 9 s, ac true 8 s] }) (nv (st 24 (F HC_ARB_CTRL_port_share 9 s)))
def I (a : Access) (s : State) : State := H (fun x => { x with intake := [a, an true 40] }) (((st 24 s).setReg (HC_BANKS 5) 0xFFFFFFFF))
def w0 : State := im up0
def w1 : State := H (fun x => { x with berth := 8 }) (st 0 up0)
def w2 : State := W up0
def w3 : State := I (ad true false 3) up0
def w4 : State := I (ad true true 3) up0
def w5 : State := I (an true 3) up0
def w6 : State := H (fun x => { x with spent := [(1, 48)] }) (I (an true 3) up0)
def w7 : State := H (fun x => { x with waiting := [an true 3] }) (F HC_ARB_CTRL_port_share 9 up0)

theorem witness_BerthsAndAdmissionActAsStated :
    ((w0.up = true) ∧ (∀ (j : Nat × Job), j ∈ w0.svc.jobs → j.snd.reads ≠ 0 ∨ j.snd.plan = []) ∧ ((w0.hc 5).berth < 12) ∧ (slotFull
      (liveSlot w0) = true) ∧ (hcServes w0 5 = true) ∧ (dutyAt (liveSlot w0) 5 (entryNumber w0 (w0.hc 5).berth) = Duty.turn ∨ dutyAt
      (liveSlot w0) 5 (entryNumber w0 (w0.hc 5).berth) = Duty.idle)) ∧
    ((w1.up = true) ∧ (∀ (j : Nat × Job), j ∈ w1.svc.jobs → j.snd.reads ≠ 0 ∨ j.snd.plan = []) ∧ ((w1.hc 5).berth < 12) ∧ (slotFull
      (liveSlot w1) = true) ∧ (hcServes w1 5 = true) ∧ (dutyAt (liveSlot w1) 5 (entryNumber w1 (w1.hc 5).berth) = Duty.refresh 1) ∧
      (refreshActive w1 1 = true) ∧ ((w1.hc 5).refRetry = none) ∧ (List.find? (fun b => refreshable w1 (w1.hc 5) (berthTime w1 5) b)
      (dueOrder (w1.hc 5)) = some 0)) ∧
    ((w2.up = true) ∧ (∀ (j : Nat × Job), j ∈ w2.svc.jobs → j.snd.reads ≠ 0 ∨ j.snd.plan = []) ∧ ((w2.hc 5).berth < 12) ∧ (slotFull
      (liveSlot w2) = true) ∧ (hcServes w2 5 = true) ∧ (dutyAt (liveSlot w2) 5 (entryNumber w2 (w2.hc 5).berth) = Duty.booked 0 true) ∧
      (suspendedClass w2 0 = false) ∧ (dutiesOnly w2 = false) ∧ (bookedPick w2 5 (berthTime w2 5) 0 true = some (bk 1 (W up0)))) ∧
    ((w2.up = true) ∧ (∀ (j : Nat × Job), j ∈ w2.svc.jobs → j.snd.reads ≠ 0 ∨ j.snd.plan = []) ∧ ((w2.hc 5).berth < 12) ∧ (slotFull
      (liveSlot w2) = true) ∧ (hcServes w2 5 = true) ∧ (dutyAt (liveSlot w2) 5 (entryNumber w2 (w2.hc 5).berth) = Duty.booked 0 true) ∧
      (suspendedClass w2 0 = false) ∧ (dutiesOnly w2 = false) ∧ (bookedPick w2 5 (berthTime w2 5) 0 true = some (bk 1 (W up0))) ∧ (true =
      true) ∧ ((bk 1 (W up0)).purpose = Purpose.write 7 (List.map (fun i => if i < 20 then some 7 else none) (List.range 256))) ∧ ((bk 1 (W
      up0)).reads = false) ∧ (parcelValid w2 (bk 1 (W up0)).parcel = true)) ∧
    ((w3.up = true) ∧ (∀ (j : Nat × Job), j ∈ w3.svc.jobs → j.snd.reads ≠ 0 ∨ j.snd.plan = []) ∧ ((w3.hc 5).intake = [ad true false 3, an
      true 40]) ∧ (mayBook w3 5 (ad true false 3) = false)) ∧
    ((w4.up = true) ∧ (∀ (j : Nat × Job), j ∈ w4.svc.jobs → j.snd.reads ≠ 0 ∨ j.snd.plan = []) ∧ ((w4.hc 5).intake = [ad true true 3, an
      true 40]) ∧ (mayBook w4 5 (ad true true 3) = false)) ∧
    ((w5.up = true) ∧ (∀ (j : Nat × Job), j ∈ w5.svc.jobs → j.snd.reads ≠ 0 ∨ j.snd.plan = []) ∧ ((w5.hc 5).intake = [an true 3, an true
      40]) ∧ (mayBook w5 5 (an true 3) = true) ∧ (spentOf (w5.hc 5) (an true 3).fc (an true 3).write + 48 ≤ 48 * ((liveSlot w5).manifest (an
      true 3).fc).burst (an true 3).write)) ∧
    ((w6.up = true) ∧ (∀ (j : Nat × Job), j ∈ w6.svc.jobs → j.snd.reads ≠ 0 ∨ j.snd.plan = []) ∧ ((w6.hc 5).intake = [an true 3, an true
      40]) ∧ (mayBook w6 5 (an true 3) = true) ∧ (48 * ((liveSlot w6).manifest (an true 3).fc).burst (an true 3).write < spentOf (w6.hc 5)
      (an true 3).fc (an true 3).write + 48)) ∧
    ((w7.up = true) ∧ (∀ (j : Nat × Job), j ∈ w7.svc.jobs → j.snd.reads ≠ 0 ∨ j.snd.plan = []) ∧ ((w7.hc 5).waiting = [an true 3]) ∧ ((an
      true 3).port < 17) ∧ (dynUsed (w7.hc 5) (an true 3).write none < 64) ∧ (dynUsed (w7.hc 5) (an true 3).write (some (an true 3).port) <
      portShare w7) ∧ (awaitsReads w7 (an true 3) = false) ∧ (((w7.hc 5).intake.any fun b => goesBefore w7 b (an true 3)) = false)) := by
  and_intros <;> decide +kernel

end O22

namespace O23

def F (f : Field) (n : Nat) (s : State) : State := s.put f n
def TT (f : TtSt → TtSt) (s : State) : State := { s with tt := f s.tt }
def calm (s : State) : State := ((((((((s.setReg HC_ARB_PAUSE 0).put PWR_SUPPLY_step 0).put TT_CTRL_force_storm 0).setReg (TT_HC_SHORT 0) 0).setReg (TT_HC_SHORT 1) 0).setReg (TT_HC_SHORT 2) 0).setReg (TT_HC_SHORT 3) 0))
def sm (s : State) : State := { calm s with ticks := 9000, tt := { s.tt with stormAt := some 5928, active := .standard, stormSlot := .standard, suspended := [3] } }
def ed (k : Nat) (s : State) : State := (List.range 12).foldl (fun s i => s.put (HC_MAP_EDIT_mask i) (2 ^ (i + k))) s
def w0 : State := TT (fun x => { x with load := none, standby := .standard }) up0
def w1 : State := TT (fun x => { x with load := none, stormAt := none, stormSlot := .standard }) up0
def w2 : State := TT (fun x => { x with load := some true }) up0
def w3 : State := sm up0
def w4 : State := { sm up0 with commit := { (up0).commit with hwDue := [.stormExit] } }
def w5 : State := TT (fun x => { x with suspended := [40, 3], calmAt := some 5 }) (calm up0)
def w6 : State := F (HC_MAP_EDIT_mask 7) 0 (ed 2 up0)
def w7 : State := ed 0 up0

theorem witness_TimetableCommandsActAsStated :
    ((writable w0 TT_LOAD_CTRL = true) ∧ (w0.tt.load = none) ∧ (swapArmed w0 = false)) ∧
    ((writable w1 TT_LOAD_CTRL = true) ∧ (w1.tt.load = none) ∧ (w1.tt.stormAt = none)) ∧
    ((writable w2 TT_LOAD_CTRL = true) ∧ (w2.tt.load ≠ none)) ∧
    ((w2.up = true) ∧ (w2.tt.load = some true)) ∧
    ((w3.up = true) ∧ (stormDemands w3 = 0) ∧ (w3.tt.stormAt = some 5928) ∧ (5928 + 3072 ≤ w3.ticks + 1) ∧ (¬HwChange.stormExit ∈
      w3.commit.hw)) ∧
    ((w4.up = true) ∧ (stormDemands w4 = 0) ∧ (w4.tt.stormAt = some 5928) ∧ (5928 + 3072 ≤ w4.ticks) ∧ (w4.commit.hwDue =
      [HwChange.stormExit]) ∧ (¬HwChange.stormEnter ∈ w4.commit.hw)) ∧
    ((w5.up = true) ∧ (stormDemands w5 = 0) ∧ (w5.tt.suspended = [40, 3]) ∧ (w5.tt.calmAt = some 5) ∧ (w5.tt.nextResume ≤ w5.ticks)) ∧
    ((writable up0 TT_CTRL = true)) ∧
    ((writable w6 HC_MAP_CTRL = true) ∧ (List.find? (fun k => popCount 26 (w6.get (HC_MAP_EDIT_mask k)) == 0 || decide (8 < popCount 26
      (w6.get (HC_MAP_EDIT_mask k)))) (List.range 12) = some 7)) ∧
    ((writable w7 HC_MAP_CTRL = true) ∧ (List.find? (fun k => popCount 26 (w7.get (HC_MAP_EDIT_mask k)) == 0 || decide (8 < popCount 26
      (w7.get (HC_MAP_EDIT_mask k)))) (List.range 12) = none) ∧ (nonsingular (List.map (fun k => w7.get (HC_MAP_EDIT_mask k)) (List.range
      12)) = true)) ∧
    ((writable up0 TT_CLR = true)) ∧
    ((writable up0 HC_ARB_CLR = true)) := by
  and_intros <;> decide +kernel

end O23

namespace O24

def F (f : Field) (n : Nat) (s : State) : State := s.put f n
def H (f : HcSt → HcSt) (s : State) : State := s.modHc 5 f
def an (w : Bool) (seq : Nat) : Access := ⟨seq, 0, 3, 0, false, w, 5, 15, false, false, false, false, false, 0, false, .read 7⟩
def oc (n : Nat) : TrainOutcome := { hc := 5, failStep := n, newDq := [], newCa := [], wck := 80, us := 5, dq := [(3, 0xFFFFFFFF)] }
def up5 (s : State) : State := F (HC_CTRL_track_en 5) 1 (F (HC_STATUS_state 5) 2 s)
def w0 : State := H (fun x => { x with caNew := 2, dropped := [an true 3], queue := [an false 2], caTicks := [] }) up0
def w1 : State := H (fun x => { x with retrainDue := some 2 }) (up5 up0)
def w2 : State := H (fun x => { x with retrain := some 2 }) (F (HC_STATUS_state 5) 4 up0)
def w3 : State := F (HC_WCK_TRIM_trim 5) 30 (up5 up0)
def w4 : State := F (HC_WCK_TRIM_trim 5) 63 (up5 up0)
def w5 : State := F (HC_WCK_TRIM_trim 5) 62 (up5 up0)
def w6 : State := up5 up0

theorem witness_HalfChannelsRetrainAndTrackAsStated :
    ((w0.up = true) ∧ ((w0.hc 5).caNew ≠ 0) ∧ (channelDrops w0 5 < 16)) ∧
    ((w1.up = true) ∧ ((w1.hc 5).retrainDue = some 2) ∧ (w1.get (HC_STATUS_state 5) = HcState.service)) ∧
    ((w2.up = true) ∧ ((oc 0).hc = 5) ∧ ((oc 0).newDq = []) ∧ ((oc 0).newCa = []) ∧ ((w2.hc 5).retrain ≠ none) ∧ (w2.get (HC_STATUS_state 5)
      ≠ HcState.failed) ∧ ((oc 0).failStep = 0)) ∧
    ((w2.up = true) ∧ ((oc 6).hc = 5) ∧ ((oc 6).newDq = []) ∧ ((oc 6).newCa = []) ∧ ((w2.hc 5).retrain ≠ none) ∧ (w2.get (HC_STATUS_state 5)
      ≠ HcState.failed) ∧ ((oc 6).failStep ≠ 0)) ∧
    ((w2.up = true) ∧ ((oc 4).hc = 5) ∧ ((oc 4).newDq = []) ∧ ((oc 4).newCa = []) ∧ ((w2.hc 5).retrain ≠ none) ∧ (w2.get (HC_STATUS_state 5)
      ≠ HcState.failed) ∧ ((oc 4).failStep ≠ 0)) ∧
    ((w3.up = true) ∧ (w3.get (HC_CTRL_track_en 5) = 1) ∧ (w3.get (HC_STATUS_state 5) = HcState.service)) ∧
    ((w4.up = true) ∧ (w4.get (HC_CTRL_track_en 5) = 1) ∧ (w4.get (HC_STATUS_state 5) = HcState.service)) ∧
    ((w5.up = true) ∧ (w5.get (HC_CTRL_track_en 5) = 1) ∧ (w5.get (HC_STATUS_state 5) = HcState.service)) ∧
    ((writable w6 (HC_CTRL 5) = true) ∧ (w6.get (HC_STATUS_state 5) = HcState.service) ∧ ((w6.hc 5).retrainDue = none)) ∧
    ((writable w6 (HC_CLR 5) = true)) := by
  and_intros <;> decide +kernel

end O24

namespace O25

def F (f : Field) (n : Nat) (s : State) : State := s.put f n
def H (f : HcSt → HcSt) (s : State) : State := s.modHc 5 f
def rr (st b : Nat) : RowRepair := { bank := 9, row := 77, step := st, berths := b, lost := [] }
def bkall (s : State) : State := (F (HC_STATUS_state 5) 2 s).setReg (HC_BANKS 5) 0xFFFFFFFF
def pl (s : State) : Nat := (repairRefusal s ⟨5, s.get (HC_REPAIR_ADDR_bank 5), s.get (HC_REPAIR_ADDR_row 5), 0⟩).getD 9
def fl (tg stp rty src : Nat) (s : State) : State := { s with modes := { s.modes with inflight := some ⟨⟨tg, 3, false, false⟩, src, stp, false, none, false, rty⟩ }, always := { s.always with selfRefresh := 0x0F } }
def fl' (tg stp rty src : Nat) : Transition := ⟨⟨tg, 3, false, false⟩, src, stp, false, none, false, rty⟩
def w0 : State := H (fun x => { x with rowRepair := some (rr 3 2) }) up0
def w1 : State := bkall up0
def w2 : State := F (HC_STATUS_state 5) 0 up0
def w3 : State := H (fun x => { x with rowRepair := some (rr 3 2), suspects := [9 * 2 ^ 14 + 77] }) up0
def w4 : State := H (fun x => { x with rowRepair := some (rr 1 0), suspects := [9 * 2 ^ 14 + 77] }) up0
def w5 : State := H (fun x => { x with rowRepair := some (rr 5 8), suspects := [9 * 2 ^ 14 + 77] }) up0
def w6 : State := (up0).modStart (fun x => { x with phase := .anchoring })
def w7 : State := fl 5 6 0 2 up0
def w8 : State := fl 5 6 0x80 2 up0
def w9 : State := fl 5 6 0x80 5 up0

theorem witness_RepairsAndSelfRefreshActAsStated :
    ((writable w0 (HC_REPAIR_CTRL 5) = true) ∧ ((w0.hc 5).rowRepair ≠ none)) ∧
    ((writable w1 (HC_REPAIR_CTRL 5) = true) ∧ ((w1.hc 5).rowRepair = none) ∧ (repairRefusal w1 (Place.mk 5 (w1.get (HC_REPAIR_ADDR_bank 5))
      (w1.get (HC_REPAIR_ADDR_row 5)) 0) = none)) ∧
    ((writable w2 (HC_REPAIR_CTRL 5) = true) ∧ ((w2.hc 5).rowRepair = none) ∧ (repairRefusal w2 (Place.mk 5 (w2.get (HC_REPAIR_ADDR_bank 5))
      (w2.get (HC_REPAIR_ADDR_row 5)) 0) = some (pl (F (HC_STATUS_state 5) 0 up0)))) ∧
    ((w3.up = true) ∧ ((w3.hc 5).rowRepair = some (rr 3 2))) ∧
    ((w4.up = true) ∧ ((w4.hc 5).rowRepair = some (rr 1 0))) ∧
    ((w5.up = true) ∧ ((w5.hc 5).rowRepair = some (rr 5 8))) ∧
    ((w6.start.phase = StartPhase.anchoring)) ∧
    ((w7.modes.inflight = some (fl' 5 6 0 2)) ∧ (sleepIssued w7 = true) ∧ (natBit w7.always.selfRefresh 7 = false) ∧ (natBit (fl' 5 6 0
      2).srfRetry 7 = false)) ∧
    ((w8.modes.inflight = some (fl' 5 6 128 2)) ∧ (sleepIssued w8 = true) ∧ (natBit w8.always.selfRefresh 7 = false) ∧ (natBit (fl' 5 6 128
      2).srfRetry 7 = true) ∧ ((fl' 5 6 128 2).source ≠ Mode.start)) ∧
    ((w9.modes.inflight = some (fl' 5 6 128 5)) ∧ (sleepIssued w9 = true) ∧ (natBit w9.always.selfRefresh 7 = false) ∧ (natBit (fl' 5 6 128
      5).srfRetry 7 = true) ∧ ((fl' 5 6 128 5).source ≠ Mode.start)) ∧
    ((up0.up = true)) := by
  and_intros <;> decide +kernel

end O25

namespace O26

def F (f : Field) (n : Nat) (s : State) : State := s.put f n
def H (f : HcSt → HcSt) (s : State) : State := s.modHc 5 f
def rg (ty pol ini : Nat) (s : State) : State := ((((((((s.put (SVC_RGN_PLACE_base 0) 0).put (SVC_RGN_PLACE_size 0) 4).put (SVC_RGN_ATTR_enable 0) 1).put (SVC_RGN_ATTR_type 0) ty).put (SVC_RGN_ATTR_landing 0) pol).put (SVC_RGN_ATTR_init 0) ini).put (SVC_RGN_STATUS_live 0) 0).put (SVC_RGN_STATUS_cause 0) 0).put (SVC_RGN_ATTR_map 0) 0
def fi (s : State) : State := { rg 2 0 0 s with svc := { s.svc with fills := [0] }, dram := { s.dram with mem := [(3, 7), (100, 9), (0x3FFFFFFF, 4)] } }
def rt (k : Nat) (s : State) : State := F (HC_STATUS_state 5) 2 (F ECC_RETIRE_ADDR_hc 5 (F ECC_RETIRE_ADDR_kind k s))
def rf (s : State) : Nat := (retireRefusal s false ⟨s.get ECC_RETIRE_ADDR_hc, s.get ECC_RETIRE_ADDR_bank, s.get ECC_RETIRE_ADDR_row, 0⟩).getD 0
def w0 : State := H (fun x => { x with pins := [(3, 4)] }) up0
def w1 : State := { F ECC_SCRUB_CTRL_pass_limit 0 up0 with ticks := 12500001 }
def w2 : State := fi up0
def w3 : State := F ECC_LOG_TAIL_index 500 (F ECC_STATUS_log_used 20 up0)
def w4 : State := rt 0 up0
def w5 : State := F (HC_STATUS_state 5) 0 (rt 0 up0)
def w6 : State := rt 1 up0

theorem witness_IntegrityCommandsActAsStated :
    ((w0.up = true)) ∧
    ((w1.up = true) ∧ ((w1.hc 5).scrubLate = false) ∧ (max 1 (w1.get ECC_SCRUB_CTRL_pass_limit) * 12500000 < w1.ticks - (w1.hc
      5).scrubStart)) ∧
    ((w2.up = true) ∧ (w2.svc.fills = [0]) ∧ (rgnValidBit w2 0 = false)) ∧
    ((writable w3 ECC_LOG_TAIL = true) ∧ (w3.get ECC_STATUS_log_used ≤ 512)) ∧
    ((writable w4 ECC_RETIRE_CTRL = true) ∧ (w4.flag ECC_RETIRE_ADDR_kind = false) ∧ (retireRefusal w4 false (Place.mk (w4.get
      ECC_RETIRE_ADDR_hc) (w4.get ECC_RETIRE_ADDR_bank) (w4.get ECC_RETIRE_ADDR_row) 0) = none)) ∧
    ((writable w5 ECC_RETIRE_CTRL = true) ∧ (w5.flag ECC_RETIRE_ADDR_kind = false) ∧ (retireRefusal w5 false (Place.mk (w5.get
      ECC_RETIRE_ADDR_hc) (w5.get ECC_RETIRE_ADDR_bank) (w5.get ECC_RETIRE_ADDR_row) 0) = some (rf (F (HC_STATUS_state 5) 0 (rt 0 up0)))) ∧ (rf (F (HC_STATUS_state 5) 0 (rt 0 up0)) ≠ RetireResult.full)) ∧
    ((writable w6 ECC_RETIRE_CTRL = true) ∧ (w6.flag ECC_RETIRE_ADDR_kind = true) ∧ (retireRefusal w6 true (Place.mk (Place.mk (w6.get
      ECC_RETIRE_ADDR_hc) (w6.get ECC_RETIRE_ADDR_bank) (w6.get ECC_RETIRE_ADDR_row) 0).hc (Place.mk (w6.get ECC_RETIRE_ADDR_hc) (w6.get
      ECC_RETIRE_ADDR_bank) (w6.get ECC_RETIRE_ADDR_row) 0).bank 0 (Place.mk (w6.get ECC_RETIRE_ADDR_hc) (w6.get ECC_RETIRE_ADDR_bank)
      (w6.get ECC_RETIRE_ADDR_row) 0).pos) = none)) ∧
    ((writable w6 ECC_CLR = true)) := by
  and_intros <;> decide +kernel

end O26

namespace O27

def F (f : Field) (n : Nat) (s : State) : State := s.put f n
def rg (ty pol ini : Nat) (s : State) : State := ((((((((s.put (SVC_RGN_PLACE_base 0) 2).put (SVC_RGN_PLACE_size 0) 4).put (SVC_RGN_ATTR_enable 0) 1).put (SVC_RGN_ATTR_type 0) ty).put (SVC_RGN_ATTR_landing 0) pol).put (SVC_RGN_ATTR_init 0) ini).put (SVC_RGN_STATUS_live 0) 1).put (SVC_RGN_STATUS_cause 0) 0).put (SVC_RGN_ATTR_map 0) 0
def A : Nat := 2 * 2 ^ 26 + 256 * 40 + 64
def N : Nat := A / 64
def ln (w : Nat) (st : LineState) : Line := ⟨w, (List.range 64).map (BitVec.ofNat 8 ·), st, false, 0, 0, w, []⟩
def Ld (f : LdgSt → LdgSt) (s : State) : State := { s with landing := f s.landing }
def en (s : State) : Entry := ⟨4, ⟨⟨1, 0, false, 5, 9, liveNode s, false, false, true, A, 0, 70, 0⟩, []⟩, 0, false, true, false, false, true, false, true, 0, none, none⟩
def jb (n : Nat) (s : State) : Job := { port := 3, entry := en s, kind := .rd, left := n, reads := 0, plan := [], got := [], bad := false, status := 0, result := 0, len := 0, frees := none, wseq := none }
def ms (b : Option (List Byte)) (o : List LineOp) : Miss := ⟨N, 0, 0, true, 7, some b, o⟩
def dt : List Byte := List.replicate 64 9
def W (s : State) : State := F (TT_FC_WAYS_ways 0) 0xFFFF (F LDG_PIN_WAYS_ways 0 (rg 2 1 0 s))
def mi (b : Option (List Byte)) (o : List LineOp) (s : State) : State := Ld (fun x => { x with misses := [ms b o] }) ((W s).setJob 3 (jb 2 s))
def d3 (s : State) : State := Ld (fun x => { x with lines := [(N - 1, ln 3 .dirty), (N, ln 2 .dirty), (N + 1, ln 5 .clean), (N + 9, ln 4 .gathered)] }) (W s)
def w0 : State := mi (some dt) [.read 3] up0
def w1 : State := mi none [] up0
def w2 : State := F LDG_CTRL_wb_thr 0 (d3 up0)
def w3 : State := d3 up0
def w4 : State := F (SVC_RGN_ATTR_landing 0) 2 (d3 up0)
def w5 : State := Ld (fun x => { x with op := some ⟨0, 0, false, []⟩ }) (d3 up0)
def w6 : State := Ld (fun x => { x with op := some ⟨1, 0, false, []⟩ }) (d3 up0)

theorem witness_LandingOperationsActAsStated :
    ((w0.up = true) ∧ (w0.landing.misses = [ms (some dt) [LineOp.read 3]]) ∧ (w0.landing.queued = []) ∧ (w0.landing.stalled = []) ∧ (∀ (j :
      Nat × Job), j ∈ w0.svc.jobs → j.snd.reads ≠ 0 ∨ j.snd.plan = []) ∧ (∀ (x : Job), w0.job 3 = some x → x.frees = none) ∧ ((ms (some dt)
      [LineOp.read 3]).back = some (some dt)) ∧ ((ms (some dt) [LineOp.read 3]).alloc = true) ∧ ((ms (some dt) [LineOp.read 3]).ops =
      [LineOp.read 3]) ∧ (chooseWay w0 (ms (some dt) [LineOp.read 3]).region (ms (some dt) [LineOp.read 3]).fc (ms (some dt) [LineOp.read
      3]).line = some (((chooseWay (mi (some dt) [LineOp.read 3] up0) 0 0 N).getD (0, none, false)).fst, none, false))) ∧
    ((w1.up = true) ∧ (w1.landing.misses = [ms none []]) ∧ (w1.landing.queued = []) ∧ (∀ (j : Nat × Job), j ∈ w1.svc.jobs → j.snd.reads ≠ 0
      ∨ j.snd.plan = []) ∧ ((ms none []).back = some none) ∧ ((ms none []).ops = [])) ∧
    ((w2.up = true) ∧ (w2.landing.stalled = []) ∧ (min dirtyLimit (w2.get LDG_CTRL_wb_thr) < dirtyIn w2 (sliceOf N)) ∧ (oldestDirty w2
      (sliceOf N) = some N) ∧ (Option.map (fun x => x.st) (lineAt w2 N) = some LineState.dirty)) ∧
    ((writable w3 LDG_OP_CTRL = true) ∧ (w3.landing.op = none)) ∧
    ((writable w4 LDG_OP_CTRL = true) ∧ (w4.landing.op = none) ∧ (rgnPolicy w4 (Word.bits 8 7 4) = 2) ∧ (rgnLive w4 (Word.bits 8 7 4) =
      true)) ∧
    ((writable w3 LDG_OP_CTRL = true) ∧ (w3.landing.op = none) ∧ (rgnPolicy w3 (Word.bits 0 7 4) ≠ 2)) ∧
    ((w5.up = true) ∧ (w5.landing.op = some (LdgOp.mk 0 0 false [])) ∧ ((LdgOp.mk 0 0 false []).left = []) ∧ ((LdgOp.mk 0 0 false []).op =
      LdgKind.clean)) ∧
    ((w6.up = true) ∧ (w6.landing.op = some (LdgOp.mk 1 0 false [])) ∧ ((LdgOp.mk 1 0 false []).left = []) ∧ ((LdgOp.mk 1 0 false []).op =
      LdgKind.invalidate)) ∧
    ((writable w3 LDG_CLR = true)) := by
  and_intros <;> decide +kernel

end O27

namespace O28

def ent (sent : Option Nat) (_s : State) : Entry := ⟨4, ⟨⟨1, 0, false, 5, 1, 33, false, false, false, 64, 0, 70, 0⟩, []⟩, 0, false, true, true, false, true, false, true, 0, some ⟨5, sent⟩, none⟩
def S7 (s : State) : State := { ((s.put (PORT_STATUS_stage 5) 7).setFab 5 { s.fabPort 5 with s7In := 0, s7Sum := 0 }) with ticks := s.ticks + 30000 }
def rec28 (s : State) : State := (S7 s).setLink 3 { s.link 3 with table := [ent (some 1) s, { ent none s with uid := 7, txn := { (ent none s).txn with hdr := { (ent none s).txn.hdr with tag := 11 } } }] }
def fo (s : State) : State := (s.setFab 3 { s.fabPort 3 with due := true }).setLink 3 { s.link 3 with forwards := [] }
def bm (m : Bool) (s : State) : State := (s.put (PORT_STATUS_stage 3) 7).setFab 3 { s.fabPort 3 with beaconSeen := true, marked := m }
def rs (s : State) : State := { ((((s.put (PORT_STATUS_stage 3) 7).put FAB_CTRL_holddown 1).put (FAB_PORT_CTRL_restore 3) 1).setFab 3 { FabPort.reset with marked := true, beaconSeen := true, s7Tick := 0 }) with ticks := s.ticks + 20000 }
def w0 : State := rec28 up0
def w1 : State := fo up0
def w2 : State := bm true up0
def w3 : State := bm false up0
def w4 : State := rs up0

theorem witness_FabricCommandsActAsStated :
    ((w0.up = true) ∧ (List.find? (fun e => e.key == (1, 5) && e.record.isSome) (w0.link 3).table = some (ent (some 1) up0)) ∧ ((ent (some
      1) up0).record = some (FabRecord.mk 5 (some 1))) ∧ (w0.stage 5 = 7) ∧ (1 + 27500 ≤ s7Time w0 5)) ∧
    ((w1.up = true) ∧ ((w1.fabPort 3).due = true) ∧ ((w1.link 3).forwards = [])) ∧
    ((w2.up = true) ∧ (w2.stage 3 = 7) ∧ ((w2.fabPort 3).beaconSeen = true)) ∧
    ((w3.up = true) ∧ (w3.stage 3 = 7) ∧ ((w3.fabPort 3).beaconSeen = true)) ∧
    ((w4.up = true) ∧ (mayRestore w4 3 = true)) ∧
    ((w4.up = true) ∧ (writable w4 (FAB_PORT_CTRL 3) = true) ∧ ((w4.fabPort 3).marked = true)) ∧
    ((up0.up = true) ∧ (writable up0 FAB_CLR = true)) := by
  and_intros <;> decide +kernel

end O28

namespace O29

def F (f : Field) (n : Nat) (s : State) : State := s.put f n
def Th (f : ThermSt → ThermSt) (s : State) : State := { s with therm := f s.therm }
def mu (s : State) : State := Th (fun x => { x with model := (List.range 88).map (fun n => (n, (50 + n : Rat)/2)), reading := (List.range 88).map (fun n => (n, (200 : Int))), boundary := 100 }) { ((s.setCross 32).put (THM_CTRL_down_hold) 2) with always := { s.always with tripped := true }, activity := [(97, 4), (512, 9)] }
def mk' (s : State) : State := F THM_CTRL_sink_src 1 (F THM_STATUS_sink_fallback 0 (F THM_SINK_temp 130 (Th (fun x => { x with sinkTick := some 3 }) (mu s))))
def lf (s : State) : State := Th (fun x => { x with below := 9000 }) (F THM_STATUS_level 3 s)
def rf (s : State) : State := Th (fun x => { x with cool := 9000 }) (F THM_STATUS_rate 3 s)
def bt (b : Int) (r : Int) (s : State) : State := F THM_CTRL_sink_src 0 (Th (fun x => { x with boundary := b, model := (List.range 88).map (fun n => (n, (50 : Rat))), reading := (List.range 88).map (fun n => (n, r)) }) s)
def ss (s : State) : State := F THM_CTRL_sink_src 1 (F THM_STATUS_sink_fallback 0 (Th (fun x => { x with sinkTick := some 3 }) { s with ticks := 12600000 }))
def tr (b : Bool) (s : State) : State := { s with always := { s.always with tripped := b } }
def cl (s : State) : State := Th (fun x => { x with coolSince := some 5, tripTick := 9 }) { (tr true s) with start := { s.start with phase := .held }, ticks := 900000000 }
def lc (n : Nat) (s : State) : State := Th (fun x => { x with hotTime := n }) { s with pins := { s.pins with vaon := true } }
def sx (n : Nat) (s : State) : State := Th (fun x => { x with boundary := 77 }) (F THM_CTRL_sink_src n s)
def w0 : State := mu up0
def w1 : State := mk' up0
def w2 : State := lf up0
def w3 : State := rf up0
def w4 : State := bt 0 204 up0
def w5 : State := bt 400 204 up0
def w6 : State := bt 0 180 up0
def w7 : State := bt 200 180 up0
def w8 : State := ss up0
def w9 : State := sx 1 up0
def w10 : State := sx 0 up0
def w11 : State := tr false up0
def w12 : State := cl up0
def w13 : State := lc 12500000 up0
def w14 : State := lc 12499999 up0

theorem witness_ThermalCommandsActAsStated :
    ((thermRuns w0 = true) ∧ (updateDue w0 = true) ∧ (w0.always.tripped = true)) ∧
    ((thermRuns w1 = true) ∧ (updateDue w1 = true) ∧ (w1.always.tripped = true)) ∧
    ((w2.up = true) ∧ (levelDue w2 = none) ∧ (max 1 (w2.get THM_CTRL_down_hold) ≤ w2.therm.below) ∧ (0 < liveLevel w2)) ∧
    ((w3.up = true) ∧ (8192 ≤ w3.therm.cool) ∧ (1 < w3.get THM_STATUS_rate)) ∧
    ((w4.up = true) ∧ (w4.get THM_CTRL_sink_src = 0) ∧ (topSensors w4 ≠ []) ∧ (List.foldl (fun t n => t + modelOf w4 n) 0 (topSensors w4) <
      List.foldl (fun t n => t + (↑(readingOf w4 n) : Rat) / 4) 0 (topSensors w4))) ∧
    ((w5.up = true) ∧ (w5.get THM_CTRL_sink_src = 0) ∧ (topSensors w5 ≠ []) ∧ (List.foldl (fun t n => t + modelOf w5 n) 0 (topSensors w5) <
      List.foldl (fun t n => t + (↑(readingOf w5 n) : Rat) / 4) 0 (topSensors w5))) ∧
    ((w6.up = true) ∧ (w6.get THM_CTRL_sink_src = 0) ∧ (topSensors w6 ≠ []) ∧ (List.foldl (fun t n => t + (↑(readingOf w6 n) : Rat) / 4) 0
      (topSensors w6) < List.foldl (fun t n => t + modelOf w6 n) 0 (topSensors w6))) ∧
    ((w7.up = true) ∧ (w7.get THM_CTRL_sink_src = 0) ∧ (topSensors w7 ≠ []) ∧ (List.foldl (fun t n => t + (↑(readingOf w7 n) : Rat) / 4) 0
      (topSensors w7) < List.foldl (fun t n => t + modelOf w7 n) 0 (topSensors w7))) ∧
    ((w8.up = true) ∧ (w8.get THM_CTRL_sink_src = 1) ∧ (w8.get THM_STATUS_sink_fallback = 0) ∧ (sinkOld w8 = true)) ∧
    ((writable w9 THM_SINK = true)) ∧
    ((writable w10 THM_SINK = true)) ∧
    ((w11.always.tripped = false)) ∧
    ((up0.mode ≠ Mode.retention)) ∧
    ((w12.always.tripped = true) ∧ (w12.start.phase = StartPhase.held) ∧ (w12.therm.coolSince = some 5) ∧ (5 + 125000000 ≤ w12.ticks) ∧
      (w12.therm.tripTick + 750000000 ≤ w12.ticks)) ∧
    ((w13.pins.vaon = true)) ∧
    ((w14.pins.vaon = true)) := by
  and_intros <;> decide +kernel

end O29

namespace O30

def F (f : Field) (n : Nat) (s : State) : State := s.put f n
def Md (f : Modes → Modes) (s : State) : State := { s with modes := f s.modes }
def noc (s : State) : State := { (F PWR_MODE_mode 2 s) with commit := { s.commit with armed := none } }
def idl (s : State) : State := F PWR_MODE_mode 4 s
def tr (tg src st : Nat) (w : Nat) : Transition := ⟨⟨tg, 7, false, false⟩, src, st, true, none, false, w⟩
def inf (s : State) : State := Md (fun x => { x with inflight := some (tr 4 2 4 0) }) s
def w0 : State := noc up0
def w1 : State := noc (F PWR_MODE_mode 3 up0)
def w2 : State := Md (fun x => { x with inflight := none }) (idl up0)
def w3 : State := inf up0

theorem witness_ModeRequestsAreTakenAsStated :
    ((writable up0 PWR_MODE_REQ = true) ∧ (Word.bits 15728691 15 8 = 0)) ∧
    ((writable w0 PWR_MODE_REQ = true) ∧ (Word.bits 2098483 15 8 ≠ 0) ∧ (w0.modes.inflight = none) ∧ (tableMode w0 = Mode.service) ∧
      (w0.commit.armed = none)) ∧
    ((writable w1 PWR_MODE_REQ = true) ∧ (Word.bits 2098483 15 8 ≠ 0) ∧ (w1.modes.inflight = none) ∧ (tableMode w1 = Mode.service) ∧
      (w1.commit.armed = none)) ∧
    ((writable w2 PWR_MODE_REQ = true) ∧ (Word.bits 3147059 15 8 ≠ 0) ∧ (w2.modes.inflight = none) ∧ (w2.mode = Mode.idle)) ∧
    ((writable w3 PWR_MODE_REQ = true) ∧ (Word.bits 3147059 15 8 ≠ 0) ∧ (w3.modes.inflight = some (tr 4 2 4 0)) ∧ (abortable (tr 4 2 4 0) =
      false) ∧ (w3.modes.pending = none)) := by
  and_intros <;> decide +kernel

end O30

namespace O31

def F (f : Field) (n : Nat) (s : State) : State := s.put f n
def Md (f : Modes → Modes) (s : State) : State := { s with modes := f s.modes }
def tr (tg src st : Nat) (w : Nat) : Transition := ⟨⟨tg, 7, false, false⟩, src, st, false, none, false, w⟩
def inf (tg src st : Nat) (md : Nat) (s : State) : State := Md (fun x => { x with inflight := some (tr tg src st 0), pending := none, held := 0, intakeClosed := true }) (F PWR_WAKE_latched 0 (F PWR_MODE_mode md s))
def fl (s : State) : State := { s with landing := { s.landing with entryFlush := some [], lines := [(5, ⟨3, [], .clean, false, 0, 0, 5, []⟩)] } }
def rs (a : Bool) (s : State) : State := { s with test := { s.test with run := if a then some ⟨true, [2, 3, 6], 0, 0⟩ else none } }
def sw (b : Bool) (s : State) : State := { Md (fun x => { x with swapped := b }) s with commit := { s.commit with hw := [] } }
def wk (s : State) : State := ((inf 4 2 2 2 s).setReg PWR_WAKE 0x00000003).setReg PWR_WAKE_EN 0x00010000
def w0 : State := inf 4 2 2 2 up0
def w1 : State := inf 0 2 2 2 up0
def w2 : State := inf 4 2 2 2 { up0 with always := { (up0).always with selfRefresh := 3 } }
def w3 : State := fl (inf 5 2 3 2 up0)
def w4 : State := inf 5 2 4 2 up0
def w5 : State := inf 4 2 3 2 up0
def w6 : State := inf 5 2 7 2 up0
def w7 : State := inf 2 4 1 4 up0
def w8 : State := inf 2 5 1 5 { up0 with always := { (up0).always with selfRefresh := 3 } }
def w9 : State := inf 2 5 4 5 up0
def w10 : State := sw false (rs false (inf 2 6 1 6 up0))
def w11 : State := sw true (rs false (inf 2 6 1 6 up0))
def w12 : State := wk up0
def w13 : State := rs true (inf 0 2 4 2 up0)
def w14 : State := F PWR_SUPPLY_step 3 (rs true (inf 0 2 4 2 up0))

theorem witness_TransitionStepsActAsStated :
    ((w0.modes.inflight = some (tr 4 2 2 0)) ∧ ((tr 4 2 2 0).preempt = none) ∧ (w0.get PWR_WAKE_latched = 0) ∧ (w0.modes.pending = none) ∧
      (w0.up = true) ∧ ((tr 4 2 2 0).step = 2) ∧ (drained w0 = true) ∧ ((tr 4 2 2 0).req.target = Mode.idle ∨ (tr 4 2 2 0).req.target =
      Mode.retention ∨ (tr 4 2 2 0).req.target = Mode.cold)) ∧
    ((w1.modes.inflight = some (tr 0 2 2 0)) ∧ ((tr 0 2 2 0).preempt = none) ∧ (w1.get PWR_WAKE_latched = 0) ∧ (w1.modes.pending = none) ∧
      (w1.up = true) ∧ ((tr 0 2 2 0).step = 2) ∧ (drained w1 = true) ∧ ((tr 0 2 2 0).req.target = Mode.idle ∨ (tr 0 2 2 0).req.target =
      Mode.retention ∨ (tr 0 2 2 0).req.target = Mode.cold)) ∧
    ((w2.modes.inflight = some (tr 4 2 2 0)) ∧ ((tr 4 2 2 0).preempt = none) ∧ (w2.get PWR_WAKE_latched = 0) ∧ (w2.modes.pending = none) ∧
      (w2.up = true) ∧ ((tr 4 2 2 0).step = 2) ∧ ((tr 4 2 2 0).req.target = Mode.idle ∨ (tr 4 2 2 0).req.target = Mode.retention) ∧ ((tr 4 2
      2 0).source = Mode.service)) ∧
    ((w3.modes.inflight = some (tr 5 2 3 0)) ∧ ((tr 5 2 3 0).preempt = none) ∧ (w3.get PWR_WAKE_latched = 0) ∧ (w3.modes.pending = none) ∧
      (w3.up = true) ∧ ((tr 5 2 3 0).step = 3) ∧ ((tr 5 2 3 0).req.target = Mode.retention) ∧ (w3.landing.entryFlush = some [])) ∧
    ((w4.modes.inflight = some (tr 5 2 4 0)) ∧ ((tr 5 2 4 0).preempt = none) ∧ (w4.get PWR_WAKE_latched = 0) ∧ (w4.modes.pending = none) ∧
      (w4.up = true) ∧ ((tr 5 2 4 0).step = 4) ∧ ((tr 5 2 4 0).req.target = Mode.retention) ∧ (repairRuns w4 = false)) ∧
    ((w5.modes.inflight = some (tr 4 2 3 0)) ∧ ((tr 4 2 3 0).preempt = none) ∧ (w5.get PWR_WAKE_latched = 0) ∧ (w5.modes.pending = none) ∧
      (w5.up = true) ∧ ((tr 4 2 3 0).step = 3) ∧ ((tr 4 2 3 0).req.target = Mode.idle)) ∧
    ((w6.modes.inflight = some (tr 5 2 7 0)) ∧ ((tr 5 2 7 0).preempt = none) ∧ (w6.get PWR_WAKE_latched = 0) ∧ (w6.modes.pending = none) ∧
      (w6.up = true) ∧ ((tr 5 2 7 0).step = 7) ∧ ((tr 5 2 7 0).req.target = Mode.retention)) ∧
    ((w7.modes.inflight = some (tr 2 4 1 0)) ∧ ((tr 2 4 1 0).preempt = none) ∧ (w7.get PWR_WAKE_latched = 0) ∧ (w7.modes.pending = none) ∧
      (w7.up = true) ∧ ((tr 2 4 1 0).step = 1) ∧ ((tr 2 4 1 0).req.target = Mode.service) ∧ ((tr 2 4 1 0).source = Mode.idle) ∧
      (w7.modes.held = 0)) ∧
    ((w8.modes.inflight = some (tr 2 5 1 0)) ∧ ((tr 2 5 1 0).preempt = none) ∧ (w8.get PWR_WAKE_latched = 0) ∧ (w8.modes.pending = none) ∧
      ((tr 2 5 1 0).step = 1) ∧ ((tr 2 5 1 0).req.target = Mode.service) ∧ ((tr 2 5 1 0).source = Mode.retention)) ∧
    ((w9.modes.inflight = some (tr 2 5 4 0)) ∧ ((tr 2 5 4 0).preempt = none) ∧ (w9.get PWR_WAKE_latched = 0) ∧ (w9.modes.pending = none) ∧
      (w9.up = true) ∧ ((tr 2 5 4 0).step = 4) ∧ ((tr 2 5 4 0).req.target = Mode.service) ∧ ((tr 2 5 4 0).source = Mode.retention)) ∧
    ((w10.modes.inflight = some (tr 2 6 1 0)) ∧ ((tr 2 6 1 0).preempt = none) ∧ (w10.get PWR_WAKE_latched = 0) ∧ (w10.modes.pending = none)
      ∧ (w10.up = true) ∧ ((tr 2 6 1 0).req.target = Mode.service) ∧ ((tr 2 6 1 0).source = Mode.maintenance) ∧ (w10.test.run = none) ∧
      (w10.modes.swapped = false)) ∧
    ((w11.modes.inflight = some (tr 2 6 1 0)) ∧ ((tr 2 6 1 0).preempt = none) ∧ (w11.get PWR_WAKE_latched = 0) ∧ (w11.modes.pending = none)
      ∧ (w11.up = true) ∧ ((tr 2 6 1 0).req.target = Mode.service) ∧ ((tr 2 6 1 0).source = Mode.maintenance) ∧ (w11.test.run = none) ∧
      (w11.modes.swapped = true) ∧ (w11.commit.hw.contains HwChange.imageSwap = false)) ∧
    ((w12.modes.inflight = some (tr 4 2 2 0)) ∧ ((tr 4 2 2 0).preempt = none) ∧ (w12.get PWR_WAKE_latched = 0) ∧ (w12.modes.pending = none)
      ∧ (natBit (BitVec.toNat (w12.reg PWR_WAKE_EN)) 16 = true) ∧ (w12.start.phase = StartPhase.ended) ∧ (w12.mode ≠ Mode.start)) ∧
    ((w13.modes.inflight = some (tr 0 2 4 0)) ∧ ((tr 0 2 4 0).preempt = none) ∧ (w13.get PWR_WAKE_latched = 0) ∧ (w13.modes.pending = none)
      ∧ (w13.up = true) ∧ (w13.test.run = some (TestRun.mk true [2, 3, 6] 0 0)) ∧ ((TestRun.mk true [2, 3, 6] 0 0).shutdown = true) ∧
      ((TestRun.mk true [2, 3, 6] 0 0).phases = [2, 3, 6]) ∧ (2 ≠ Phase.ledger) ∧ (3 ≠ Phase.lanes) ∧ (powered 2 = true → testMayRun w13 =
      true) ∧ ((tr 0 2 4 0).req.target = Mode.cold)) ∧
    ((w14.modes.inflight = some (tr 0 2 4 0)) ∧ ((tr 0 2 4 0).preempt = none) ∧ (w14.get PWR_WAKE_latched = 0) ∧ (w14.modes.pending = none)
      ∧ (w14.up = true) ∧ (w14.test.run = some (TestRun.mk true [2, 3, 6] 0 0)) ∧ ((TestRun.mk true [2, 3, 6] 0 0).shutdown = true) ∧
      ((TestRun.mk true [2, 3, 6] 0 0).phases = [2, 3, 6]) ∧ (powered 2 = true) ∧ (testMayRun w14 = false)) := by
  and_intros <;> decide +kernel

end O31

namespace O32

def F (f : Field) (n : Nat) (s : State) : State := s.put f n
def bx (code : Nat) (pl : List Nat) (s : State) : State :=
  ({ (F PWR_MODE_mode 2 s) with purser := { s.purser with halted := none, rom := false, jobs := [], ended := [⟨7, 0x41, 0, [1, 2]⟩] } }.modBox 3 fun b => { b with entry := none, response := [], request := ([code / 256, code % 256, 0, 9, pl.length / 256, pl.length % 256, 0, 0] ++ pl).map (BitVec.ofNat 8) }).put (MBX_STATUS_state 3) 1 |>.put (MBX_STATUS_owner 3) 0
def ns (s : State) : State := { s with start := { s.start with request := none }, modes := { s.modes with inflight := none, pending := none }, commit := { s.commit with armed := none }, snap := { s.snap with capture := none } }
def B4 (n : Nat) : List Nat := [n / 2 ^ 24 % 256, n / 2 ^ 16 % 256, n / 2 ^ 8 % 256, n % 256]
def bs (n : Nat) : List Byte := (List.range n).map fun i => BitVec.ofNat 8 (i * 3)
def rtr (h : Nat) (s : State) : State := F (HC_STATUS_state h) 2 ({ s with dram := { s.dram with retired := [], retireDue := [], bankDue := none } }.setReg (HC_BANKS h) 0xFFFFFFFF)
def unk (s : State) : State := bx 0x77 [1, 2, 3] s
def w0 : State := bx 0x01 [] up0
def w1 : State := bx 0x02 [] up0
def w2 : State := ns (bx 0x03 [0, 1, 0, 0] up0)
def w3 : State := ns (bx 0x03 [1, 1, 1, 0] up0)
def w4 : State := ns (bx 0x03 [2, 15, 0, 0] up0)
def w5 : State := bx 0x10 (B4 DEV_ID ++ [0, 1, 0, 0]) up0
def w6 : State := bx 0x11 (B4 (SVC_POOL_CFG 3) ++ [0, 1, 0, 0] ++ [255, 255, 255, 255]) up0
def w7 : State := bx 0x20 [15, 254, 0, 5] up0
def w8 : State := ns (bx 0x30 [4, 9, 0, 0] up0)
def w9 : State := bx 0x40 (B4 70000 ++ [0, 5, 0, 0]) up0
def w10 : State := bx 0x50 ([6, 0, 0, 5, 0, 1, 0, 0]) up0
def w11 : State := bx 0x61 (B4 0x7FFF8 ++ [0, 8, 0, 0]) up0
def w12 : State := rtr 20 (bx 0x62 (B4 (20 * 2 ^ 19 + 3 * 2 ^ 14 + 77)) up0)
def w13 : State := ns (F SNAP_CTRL_src 63 (bx 0x70 [] up0))
def w14 : State := bx 0x71 [1, 0, 3, 250, 0, 6, 0, 0] up0
def w15 : State := bx 0x80 [87, 1, 0, 0] up0
def w16 : State := bx 0x90 [7, 0, 0, 0] up0
def w17 : State := bx 0x90 [8, 0, 0, 0] up0
def w18 : State := unk up0

theorem witness_MailboxCommandsAnswerAsStated :
    ((boxServes w0 3 1 0 = true)) ∧
    ((boxServes w1 3 2 0 = true)) ∧
    ((boxServes w2 3 3 4 = true) ∧ (payloadNum (reqPayload (w2.box 3).request) 1 1 ≤ 15) ∧ (payloadNum (reqPayload (w2.box 3).request) 2 1 ≤
      1) ∧ (payloadNum (reqPayload (w2.box 3).request) 0 1 = 0)) ∧
    ((boxServes w3 3 3 4 = true) ∧ (payloadNum (reqPayload (w3.box 3).request) 1 1 ≤ 15) ∧ (payloadNum (reqPayload (w3.box 3).request) 2 1 ≤
      1) ∧ (1 ≤ payloadNum (reqPayload (w3.box 3).request) 0 1) ∧ (payloadNum (reqPayload (w3.box 3).request) 0 1 ≤ 2) ∧ (w3.start.request =
      none)) ∧
    ((boxServes w4 3 3 4 = true) ∧ (payloadNum (reqPayload (w4.box 3).request) 1 1 ≤ 15) ∧ (payloadNum (reqPayload (w4.box 3).request) 2 1 ≤
      1) ∧ (1 ≤ payloadNum (reqPayload (w4.box 3).request) 0 1) ∧ (payloadNum (reqPayload (w4.box 3).request) 0 1 ≤ 2) ∧ (w4.start.request =
      none)) ∧
    ((boxServes w5 3 16 8 = true) ∧ (payloadNum (reqPayload (w5.box 3).request) 0 4 = DEV_ID) ∧ (payloadNum (reqPayload (w5.box 3).request)
      4 2 = 1)) ∧
    ((boxServes w6 3 17 12 = true) ∧ (payloadNum (reqPayload (w6.box 3).request) 0 4 = SVC_POOL_CFG 3) ∧ (payloadNum (reqPayload (w6.box
      3).request) 4 2 = 1) ∧ (rowAt (SVC_POOL_CFG 3) = some (((rowAt (SVC_POOL_CFG 3)).get rfl).fst, ((rowAt (SVC_POOL_CFG 3)).get
      rfl).snd)) ∧ (locked w6 ((rowAt (SVC_POOL_CFG 3)).get rfl).fst = false)) ∧
    ((boxServes w7 3 32 4 = true) ∧ (payloadNum (reqPayload (w7.box 3).request) 0 2 ≤ 4095) ∧ (1 ≤ payloadNum (reqPayload (w7.box
      3).request) 2 2) ∧ (payloadNum (reqPayload (w7.box 3).request) 2 2 ≤ 63)) ∧
    ((boxServes w8 3 48 4 = true) ∧ (payloadNum (reqPayload (w8.box 3).request) 0 1 = Mode.idle) ∧ (payloadNum (reqPayload (w8.box
      3).request) 1 1 ≠ 0) ∧ (payloadNum (reqPayload (w8.box 3).request) 2 1 = 0) ∧ (w8.modes.inflight = none) ∧ (tableMode w8 =
      Mode.service) ∧ (w8.commit.armed = none)) ∧
    ((boxServes w9 3 64 8 = true) ∧ (1 ≤ payloadNum (reqPayload (w9.box 3).request) 4 2) ∧ (payloadNum (reqPayload (w9.box 3).request) 4 2 ≤
      1008) ∧ ((bs 5).length = payloadNum (reqPayload (w9.box 3).request) 4 2)) ∧
    ((boxServes w10 3 80 8 = true) ∧ (payloadNum (reqPayload (w10.box 3).request) 0 1 ≤ 7) ∧ (payloadNum (reqPayload (w10.box 3).request) 4
      2 = 1) ∧ (payloadNum (reqPayload (w10.box 3).request) 2 2 + 1 ≤ otpSize (payloadNum (reqPayload (w10.box 3).request) 0 1))) ∧
    ((boxServes w11 3 97 8 = true) ∧ (1 ≤ payloadNum (reqPayload (w11.box 3).request) 4 2) ∧ (payloadNum (reqPayload (w11.box 3).request) 4
      2 ≤ 1008) ∧ ((bs 8).length = payloadNum (reqPayload (w11.box 3).request) 4 2) ∧ (payloadNum (reqPayload (w11.box 3).request) 0 4 +
      payloadNum (reqPayload (w11.box 3).request) 4 2 ≤ 524288)) ∧
    ((boxServes w12 3 98 4 = true) ∧ (Word.bits (BitVec.ofNat 32 (payloadNum (reqPayload (w12.box 3).request) 0 4)) 31 31 = 0) ∧
      (retireRefusal w12 false (Place.mk (Word.bits (BitVec.ofNat 32 (payloadNum (reqPayload (w12.box 3).request) 0 4)) 25 19) (Word.bits
      (BitVec.ofNat 32 (payloadNum (reqPayload (w12.box 3).request) 0 4)) 18 14) (Word.bits (BitVec.ofNat 32 (payloadNum (reqPayload
      (w12.box 3).request) 0 4)) 13 0) 0) = none)) ∧
    ((boxServes w13 3 112 0 = true) ∧ (natBit (w13.get SNAP_CTRL_src) SnapSource.command = true) ∧ (w13.snap.capture = none)) ∧
    ((boxServes w14 3 113 8 = true) ∧ (payloadNum (reqPayload (w14.box 3).request) 0 1 ≤ 3) ∧ (1 ≤ payloadNum (reqPayload (w14.box
      3).request) 4 2) ∧ (payloadNum (reqPayload (w14.box 3).request) 4 2 ≤ 250) ∧ (payloadNum (reqPayload (w14.box 3).request) 2 2 +
      payloadNum (reqPayload (w14.box 3).request) 4 2 ≤ 1024)) ∧
    ((boxServes w15 3 128 4 = true) ∧ (payloadNum (reqPayload (w15.box 3).request) 1 1 = 1) ∧ (payloadNum (reqPayload (w15.box 3).request) 0
      1 < 88)) ∧
    ((boxServes w16 3 144 4 = true) ∧ ((w16.purser.jobs.any fun j => j.num == payloadNum (reqPayload (w16.box 3).request) 0 1) = false) ∧
      (List.find? (fun j => j.num == payloadNum (reqPayload (w16.box 3).request) 0 1) w16.purser.ended = some (JobEnd.mk 7 65 0 [1, 2]))) ∧
    ((boxServes w17 3 144 4 = true) ∧ ((w17.purser.jobs.any fun j => j.num == payloadNum (reqPayload (w17.box 3).request) 0 1) = false) ∧
      (List.find? (fun j => j.num == payloadNum (reqPayload (w17.box 3).request) 0 1) w17.purser.ended = none)) ∧
    ((boxServes w18 3 119 3 = true) ∧ (knownCommand 119 = false)) := by
  and_intros <;> decide +kernel

end O32

namespace O33

def F (f : Field) (n : Nat) (s : State) : State := s.put f n
def bx (md code : Nat) (pl : List Nat) (s : State) : State :=
  ({ (F PWR_MODE_mode md s) with purser := { s.purser with halted := none, rom := false, jobs := [⟨9, 0x63, []⟩], ended := [⟨7, 0x41, 0, [1, 2]⟩] } }.modBox 3 fun b => { b with entry := none, response := [], request := ([code / 256, code % 256, 0, 9, pl.length / 256, pl.length % 256, 0, 0] ++ pl).map (BitVec.ofNat 8) }).put (MBX_STATUS_state 3) 1 |>.put (MBX_STATUS_owner 3) 0
def B4 (n : Nat) : List Nat := [n / 2 ^ 24 % 256, n / 2 ^ 16 % 256, n / 2 ^ 8 % 256, n % 256]
def ot (s : State) : State := { s with pins := { s.pins with vqps := 1800 }, therm := { s.therm with reading := (List.range 88).map fun n => (n, 160), model := (List.range 88).map fun n => (n, 40) }, otp := { s.otp with passes := 3, queue := [], seals := 0 } }
def bis (s : State) : State := { s with test := { s.test with run := none } }
def rtr (h : Nat) (s : State) : State := F (HC_STATUS_state h) 2 ((({ s with dram := { s.dram with retired := [], spares := [], retireDue := [], bankDue := none } }.modHc h fun x => { x with rowRepair := none })).setReg (HC_BANKS h) 0xFFFFFFFF)
def jo (c : Nat) (a : List Byte) (s : State) : State := { s with purser := { s.purser with halted := none, jobs := [⟨9, 0x63, []⟩, ⟨8, c, a⟩, ⟨10, 0x60, []⟩] }, otp := { s.otp with queue := [] } }
def sl (s : State) : State := (otpAppend 6 [5, 7] [] [] (ot { s with otp := { s.otp with queue := [] } })).2
def w0 : State := bx 2 0x41 (B4 4096 ++ [0, 3, 0, 0, 1, 2, 3]) up0
def w1 : State := ot (bx 2 0x51 ([6, 0, 0, 0, 0, 1, 0, 0] ++ B4 0x12345678) up0)
def w2 : State := sl (bx 2 0x52 [6, 0, 0, 0] up0)
def w3 : State := bis (bx 6 0x60 (B4 0x70003) up0)
def w4 : State := rtr 20 (bx 2 0x63 ([20, 0] ++ B4 (3 * 2 ^ 14 + 9) ++ [0, 0]) up0)
def w5 : State := jo 0x41 [] up0
def w6 : State := jo 0x52 [6, 0, 0, 0] up0
def w7 : State := bx 2 0x52 [6, 0, 0, 0] up0
def w8 : State := F (MBX_STATUS_state 3) 2 (bx 2 0x52 [6, 0, 0, 0] up0)

theorem witness_LongJobsStartAndEndAsStated :
    ((w0.purser.jobs.length < 8 ∧ nextJobNumber w0 < 256) ∧ (boxServes w0 3 65 (8 + payloadNum (reqPayload (w0.box 3).request) 4 2) = true)
      ∧ (1 ≤ payloadNum (reqPayload (w0.box 3).request) 4 2) ∧ (payloadNum (reqPayload (w0.box 3).request) 4 2 ≤ 512) ∧ (payloadNum
      (reqPayload (w0.box 3).request) 6 1 = 0)) ∧
    ((w1.purser.jobs.length < 8 ∧ nextJobNumber w1 < 256) ∧ (boxServes w1 3 81 (8 + 4 * payloadNum (reqPayload (w1.box 3).request) 4 2) =
      true) ∧ (1 ≤ payloadNum (reqPayload (w1.box 3).request) 4 2) ∧ (payloadNum (reqPayload (w1.box 3).request) 4 2 ≤ 200) ∧ (payloadNum
      (reqPayload (w1.box 3).request) 0 1 ≤ 7) ∧ ((w1.purser.jobs.any fun k => k.command == Cmd.otpProgram || k.command == Cmd.otpSeal) =
      false) ∧ (otpJobRefusal w1 (PurserJob.mk (nextJobNumber w1) Cmd.otpProgram (reqPayload (w1.box 3).request)) = none)) ∧
    ((w2.purser.jobs.length < 8 ∧ nextJobNumber w2 < 256) ∧ (boxServes w2 3 82 4 = true) ∧ (payloadNum (reqPayload (w2.box 3).request) 0 1 ≤
      7) ∧ ((w2.purser.jobs.any fun k => k.command == Cmd.otpProgram || k.command == Cmd.otpSeal) = false) ∧ (otpJobRefusal w2 (PurserJob.mk
      (nextJobNumber w2) Cmd.otpSeal (reqPayload (w2.box 3).request)) = none)) ∧
    ((w3.purser.jobs.length < 8 ∧ nextJobNumber w3 < 256) ∧ (boxServes w3 3 96 4 = true) ∧ (w3.test.run = none) ∧ (w3.mode =
      Mode.maintenance) ∧ ((scopePhases (payloadNum (reqPayload (w3.box 3).request) 0 4)).contains Phase.lanes = false)) ∧
    ((w4.purser.jobs.length < 8 ∧ nextJobNumber w4 < 256) ∧ (boxServes w4 3 99 8 = true) ∧ (payloadNum (reqPayload (w4.box 3).request) 0 1 ≤
      127) ∧ (repairRefusal w4 (Place.mk (payloadNum (reqPayload (w4.box 3).request) 0 1) (Word.bits (BitVec.ofNat 32 (payloadNum
      (reqPayload (w4.box 3).request) 2 4)) 18 14) (Word.bits (BitVec.ofNat 32 (payloadNum (reqPayload (w4.box 3).request) 2 4)) 13 0) 0) =
      none)) ∧
    ((purserRuns w5 = true) ∧ (List.find? (fun j => j.num == 8) w5.purser.jobs = some (PurserJob.mk 8 65 [])) ∧ ((PurserJob.mk 8 65
      []).command = Cmd.flashWrite)) ∧
    ((purserRuns w6 = true) ∧ (List.find? (fun j => j.num == 8) w6.purser.jobs = some (PurserJob.mk 8 82 [6, 0, 0, 0])) ∧ ((PurserJob.mk 8
      82 [6, 0, 0, 0]).command = Cmd.otpSeal) ∧ (w6.otp.queue = [])) ∧
    ((w7.up = true) ∧ (boxState w7 3 = BoxState.busy) ∧ ((w7.box 3).entry = none) ∧ (boxOwner w7 3 = Owner.i3c)) ∧
    ((w8.up = true) ∧ (boxState w8 3 = BoxState.done) ∧ (boxOwner w8 3 = Owner.i3c)) := by
  and_intros <;> decide +kernel

end O33

namespace O34

def F (f : Field) (n : Nat) (s : State) : State := s.put f n
def an (s : State) : State := F OTP_STATUS_loaded 1 ({ s with purser := { s.purser with halted := none, mwl := 900, mrl := 5, pointer := (3, 0, 1022) }, otp := s.otp }.setReg PWR_WAKE_EN 0)
def md (st : Nat) (s : State) : State := F (MBX_CFG_sources 3) 7 (F (MBX_STATUS_owner 3) 0 (F (MBX_STATUS_state 3) st ((an s).modBox 3 fun b => { b with buffer := [(1, 1), (4, 0), (5, 2), (8, 9), (9, 10), (10, 11), (1022, 3)], response := [1, 2] })))
def w0 : State := md 0 up0
def w1 : State := md 2 up0
def w2 : State := F MBX_I3C_dyn_valid 0 (an up0)
def w3 : State := F MBX_I3C_dyn_valid 1 (an up0)
def w4 : State := an up0

theorem witness_I3cTargetActsAsStated :
    ((i3cAnswers w0 = true) ∧ (natBit (BitVec.toNat (w0.reg PWR_WAKE_EN)) 17 = false) ∧ (3 ≤ w0.purser.mwl) ∧ (boxState w0 3 ≠
      BoxState.busy)) ∧
    ((i3cAnswers w1 = true) ∧ (natBit (BitVec.toNat (w1.reg PWR_WAKE_EN)) 17 = false) ∧ (3 ≤ w1.purser.mwl) ∧ (boxState w1 3 ≠
      BoxState.busy)) ∧
    ((i3cAnswers w0 = true) ∧ (natBit (BitVec.toNat (w0.reg PWR_WAKE_EN)) 17 = false)) ∧
    ((i3cAnswers w0 = true) ∧ (natBit (BitVec.toNat (w0.reg PWR_WAKE_EN)) 17 = false) ∧ (3 ≤ w0.purser.mwl) ∧ (boxState w0 3 =
      BoxState.idle) ∧ (sourceOn w0 3 Owner.i3c = true)) ∧
    ((i3cAnswers w1 = true) ∧ (natBit (BitVec.toNat (w1.reg PWR_WAKE_EN)) 17 = false) ∧ (3 ≤ w1.purser.mwl) ∧ (boxState w1 3 =
      BoxState.done) ∧ (boxOwner w1 3 = Owner.i3c)) ∧
    ((i3cAnswers w2 = true) ∧ (natBit (BitVec.toNat (w2.reg PWR_WAKE_EN)) 17 = false) ∧ (w2.get MBX_I3C_dyn_valid = 0)) ∧
    ((i3cAnswers w3 = true) ∧ (natBit (BitVec.toNat (w3.reg PWR_WAKE_EN)) 17 = false) ∧ (w3.get MBX_I3C_dyn_valid = 1)) ∧
    ((i3cAnswers w4 = true) ∧ (natBit (BitVec.toNat (w4.reg PWR_WAKE_EN)) 17 = false)) := by
  and_intros <;> decide +kernel

end O34

namespace O35

def F (f : Field) (n : Nat) (s : State) : State := s.put f n
def pr (s : State) : State := { s with purser := { s.purser with halted := none, watchdog := 5 }, ticks := 800000000 }
def sv (s : State) : State := F PWR_MODE_mode 3 { pr s with purser := { (pr s).purser with releaseTick := 4, skip := some 0 } }
def w0 : State := pr up0
def w1 : State := F GLB_START_STATUS_step 9 (pr up0)
def w2 : State := sv up0

theorem witness_WatchdogActsAsStated :
    ((purserRuns w0 = true)) ∧
    ((w1.up = true) ∧ (startStep w1 ≠ StartStep.arm) ∧ (w1.purser.watchdog + 1250000 ≤ w1.ticks) ∧ (w1.purser.halted = none)) ∧
    ((w2.up = true) ∧ (w2.inService = true) ∧ (w2.purser.releaseTick + 750000000 ≤ w2.ticks)) := by
  and_intros <;> decide +kernel

end O35

namespace O36

def F (f : Field) (n : Nat) (s : State) : State := s.put f n
def hl (n : Nat) (s : State) : State := F EVT_LOG_TAIL_index 4090 { s with events := { s.events with held := n } }
def w0 : State := up0.setReg (EVT_PEND 3) 0x500
def w1 : State := up0.setReg (PORT_EVT_CAUSE 3) 0xFFFFFFFF
def w2 : State := hl 5 up0
def w3 : State := hl 15 up0

theorem witness_EventReadsAndClearsActAsStated :
    ((up0.up = true)) ∧
    ((w0.up = true)) ∧
    ((w1.up = true) ∧ (rowAt (PORT_EVT_CAUSE 3) = some (((rowAt (PORT_EVT_CAUSE 3)).get rfl).fst, ((rowAt (PORT_EVT_CAUSE 3)).get rfl).snd))
      ∧ (((rowAt (PORT_EVT_CAUSE 3)).get rfl).fst.rc ≠ 0)) ∧
    ((w2.up = true)) ∧
    ((w3.up = true)) ∧
    ((up0.up = true) ∧ (rowAt CROSS_CNT_LO = some (((rowAt CROSS_CNT_LO).get rfl).fst, ((rowAt CROSS_CNT_LO).get rfl).snd)) ∧ (isLow ((rowAt
      CROSS_CNT_LO).get rfl).fst CROSS_CNT_LO = true)) := by
  and_intros <;> decide +kernel

end O36

namespace O37

def F (f : Field) (n : Nat) (s : State) : State := s.put f n
def S (f : Snap → Snap) (s : State) : State := { s with snap := f s.snap }
def P (b : Bool) (s : State) : State := { (F SNAP_CTRL_src 31 s) with pins := { s.pins with snapIgnore := b } }
def c0 (w : Bool) (d : Bool) : Capture := ⟨3, 5, d, 2, if w then some [(1, 5)] else none⟩
def sl (l : List Nat) (s : State) : State := S (fun x => { x with order := [2, 0, 3, 1], slots := l.map fun k => (k, [(3, 4)]) , seq := 65535 }) s
def w0 : State := S (fun x => { x with capture := none }) (P false up0)
def w1 : State := S (fun x => { x with capture := some (c0 false true) }) (P false up0)
def w2 : State := S (fun x => { x with capture := some (c0 true true), heldNext := none }) (P false up0)
def w3 : State := S (fun x => { x with capture := none }) (P true up0)
def w4 : State := S (fun x => { x with capture := some (c0 false true) }) (sl [0, 2] up0)
def w5 : State := F SNAP_CTRL_hold 1 (S (fun x => { x with capture := some (c0 false true) }) (sl [0, 1, 2, 3] up0))
def w6 : State := F SNAP_CTRL_hold 0 (S (fun x => { x with capture := some (c0 false true) }) (sl [0, 1, 2, 3] up0))
def w7 : State := (S (fun x => { x with capture := some (c0 true true), heldNext := some (c0 false false) }) (sl [0, 1, 3] up0))
def w8 : State := sl [0, 1, 3] up0
def w9 : State := F SNAP_RD_IDX_word 1023 (sl [0, 1, 3] up0)

theorem witness_SnapshotCommandsActAsStated :
    ((w0.up = true) ∧ (natBit (w0.get SNAP_CTRL_src) SnapSource.pin = true) ∧ (w0.pins.snapIgnore = false) ∧ (w0.snap.capture = none)) ∧
    ((w1.up = true) ∧ (natBit (w1.get SNAP_CTRL_src) SnapSource.pin = true) ∧ (w1.pins.snapIgnore = false) ∧ (w1.snap.capture = some (c0
      false true)) ∧ ((c0 false true).words = none)) ∧
    ((w2.up = true) ∧ (natBit (w2.get SNAP_CTRL_src) SnapSource.pin = true) ∧ (w2.pins.snapIgnore = false) ∧ (w2.snap.capture = some (c0
      true true)) ∧ ((c0 true true).words.isSome = true) ∧ (w2.snap.heldNext = none)) ∧
    ((w3.up = true) ∧ (writable w3 SNAP_CTRL = true) ∧ (natBit (Word.bits 4294967295 11 8) SnapSource.go = true) ∧ (w3.snap.capture = none)) ∧
    ((w4.up = true) ∧ (w4.snap.capture = some (c0 false true)) ∧ ((c0 false true).due = true) ∧ ((c0 false true).words = none) ∧ (List.find?
      (fun k => (w4.snap.slots.find k).isNone) w4.snap.order = some 3)) ∧
    ((w5.up = true) ∧ (w5.snap.capture = some (c0 false true)) ∧ ((c0 false true).due = true) ∧ ((c0 false true).words = none) ∧ (List.find?
      (fun k => (w5.snap.slots.find k).isNone) w5.snap.order = none)) ∧
    ((w6.up = true) ∧ (w6.snap.capture = some (c0 false true)) ∧ ((c0 false true).due = true) ∧ ((c0 false true).words = none) ∧ (List.find?
      (fun k => (w6.snap.slots.find k).isNone) w6.snap.order = none)) ∧
    ((w7.up = true) ∧ (w7.snap.capture = some (c0 true true)) ∧ ((c0 true true).words = some [(1, 5)]) ∧ ((c0 true true).slot < 4)) ∧
    ((w8.up = true)) ∧
    ((w9.up = true)) ∧
    ((up0.up = true)) := by
  and_intros <;> decide +kernel

end O37

namespace O38

def G (a : Nat) : CfgAddr := Fin.ofNat _ a
def pw (a : Nat) (x : Word) (src : Nat) (s : State) : State := { s with pairs := [(a, ⟨x, src⟩), (a + 64, ⟨1, 2⟩)] }
def w0 : State := up0.setReg GLB_LOCK 0xFFFF
def w1 : State := { up0 with pairs := [] }
def w2 : State := pw GLB_RESET_CTRL 0xFFFFFFF4 3 up0
def w3 : State := pw GLB_RESET_CTRL 0xFFFFFFF4 4 up0

theorem witness_RegisterWritesActByTheirTypes :
    ((up0.up = true) ∧ (rowAt (↑(G 16777212) : Nat) = none)) ∧
    ((w0.up = true) ∧ (rowAt (↑(G (SVC_POOL_CFG 3)) : Nat) = some (((rowAt (SVC_POOL_CFG 3)).get rfl).fst, ((rowAt (SVC_POOL_CFG 3)).get
      rfl).snd)) ∧ (locked w0 ((rowAt (SVC_POOL_CFG 3)).get rfl).fst = true)) ∧
    ((up0.up = true)) ∧
    ((w1.up = true) ∧ (rowAt (↑(G GLB_RESET_CTRL) : Nat) = some (((rowAt GLB_RESET_CTRL).get rfl).fst, ((rowAt GLB_RESET_CTRL).get
      rfl).snd)) ∧ (((rowAt GLB_RESET_CTRL).get rfl).fst.kind = RegKind.paired) ∧ (locked w1 ((rowAt GLB_RESET_CTRL).get rfl).fst = false) ∧
      (w1.pairs.find (↑(G GLB_RESET_CTRL) : Nat) = none)) ∧
    ((w2.up = true) ∧ (rowAt (↑(G GLB_RESET_CTRL_CPL) : Nat) = some (((rowAt GLB_RESET_CTRL_CPL).get rfl).fst, ((rowAt
      GLB_RESET_CTRL_CPL).get rfl).snd)) ∧ (((rowAt GLB_RESET_CTRL_CPL).get rfl).fst.kind = RegKind.complement) ∧ (locked w2 ((rowAt
      GLB_RESET_CTRL_CPL).get rfl).fst = false) ∧ (w2.pairs.find ((↑(G GLB_RESET_CTRL_CPL) : Nat) - 4) = some (PairPending.mk 4294967284 3))
      ∧ ((PairPending.mk 4294967284 3).src = 3) ∧ (11 = ~~~(PairPending.mk 4294967284 3).value) ∧ ((↑(G GLB_RESET_CTRL_CPL) : Nat) =
      GLB_RESET_CTRL_CPL) ∧ ((PairPending.mk 4294967284 3).value.bits 1 0 = 0)) ∧
    ((w3.up = true) ∧ (rowAt (↑(G GLB_RESET_CTRL_CPL) : Nat) = some (((rowAt GLB_RESET_CTRL_CPL).get rfl).fst, ((rowAt
      GLB_RESET_CTRL_CPL).get rfl).snd)) ∧ (((rowAt GLB_RESET_CTRL_CPL).get rfl).fst.kind = RegKind.complement) ∧ (locked w3 ((rowAt
      GLB_RESET_CTRL_CPL).get rfl).fst = false) ∧ (w3.pairs.find ((↑(G GLB_RESET_CTRL_CPL) : Nat) - 4) = some (PairPending.mk 4294967284 4))
      ∧ ((PairPending.mk 4294967284 4).src ≠ 3)) ∧
    ((w2.up = true) ∧ (rowAt (↑(G GLB_RESET_CTRL_CPL) : Nat) = some (((rowAt GLB_RESET_CTRL_CPL).get rfl).fst, ((rowAt
      GLB_RESET_CTRL_CPL).get rfl).snd)) ∧ (((rowAt GLB_RESET_CTRL_CPL).get rfl).fst.kind = RegKind.complement) ∧ (locked w2 ((rowAt
      GLB_RESET_CTRL_CPL).get rfl).fst = false) ∧ (w2.pairs.find ((↑(G GLB_RESET_CTRL_CPL) : Nat) - 4) = some (PairPending.mk 4294967284 3))
      ∧ ((PairPending.mk 4294967284 3).src = 3) ∧ (12 ≠ ~~~(PairPending.mk 4294967284 3).value)) ∧
    ((w1.up = true) ∧ (rowAt (↑(G GLB_RESET_CTRL_CPL) : Nat) = some (((rowAt GLB_RESET_CTRL_CPL).get rfl).fst, ((rowAt
      GLB_RESET_CTRL_CPL).get rfl).snd)) ∧ (((rowAt GLB_RESET_CTRL_CPL).get rfl).fst.kind = RegKind.complement) ∧ (locked w1 ((rowAt
      GLB_RESET_CTRL_CPL).get rfl).fst = false) ∧ (w1.pairs.find ((↑(G GLB_RESET_CTRL_CPL) : Nat) - 4) = none)) ∧
    ((up0.up = true) ∧ (rowAt (↑(G DEV_ID) : Nat) = some (((rowAt DEV_ID).get rfl).fst, ((rowAt DEV_ID).get rfl).snd)) ∧ (((rowAt
      DEV_ID).get rfl).fst.kind = RegKind.plain) ∧ (((rowAt DEV_ID).get rfl).fst.rw = 0) ∧ (((rowAt DEV_ID).get rfl).fst.w1s = 0) ∧ (((rowAt
      DEV_ID).get rfl).fst.staged = 0) ∧ (((rowAt DEV_ID).get rfl).fst.lock = 16)) ∧
    ((up0.up = true) ∧ (rowAt (↑(G (SVC_POOL_CFG 3)) : Nat) = some (((rowAt (SVC_POOL_CFG 3)).get rfl).fst, ((rowAt (SVC_POOL_CFG 3)).get
      rfl).snd)) ∧ (((rowAt (SVC_POOL_CFG 3)).get rfl).fst.kind = RegKind.plain) ∧ (((rowAt (SVC_POOL_CFG 3)).get rfl).fst.w1s = 0) ∧
      (((rowAt (SVC_POOL_CFG 3)).get rfl).fst.staged = 0) ∧ (((rowAt (SVC_POOL_CFG 3)).get rfl).fst.rw ≠ 0) ∧ (locked up0 ((rowAt
      (SVC_POOL_CFG 3)).get rfl).fst = false) ∧ ((↑(G (SVC_POOL_CFG 3)) : Nat) < 65536 ∨ 393216 ≤ (↑(G (SVC_POOL_CFG 3)) : Nat)) ∧ (¬((rowAt
      (SVC_POOL_CFG 3)).get rfl).fst.base ∈ [SVC_QIND_CTRL, TT_LOAD_CTRL, HC_CTRL 0, HC_REPAIR_CTRL 0, HC_ARB_PANIC, HC_MAP_CTRL,
      ECC_LOG_TAIL, LDG_OP_CTRL, FAB_PORT_CTRL 0, THM_SINK, PWR_MODE_REQ, EVT_ALERT_EN 0, EVT_LOG_TAIL, SNAP_CTRL])) := by
  and_intros <;> decide +kernel

end O38

namespace O39

def F (f : Field) (n : Nat) (s : State) : State := s.put f n
def C (s : State) : State := F CFG_CTRL_safe_on_drift 0 (F CFG_COMMIT_go 0 (F CFG_CTRL_check_en 1 (F CFG_STATUS_ref_valid 1 { s with commit := { s.commit with suspendLeft := 0 } })))
def w0 : State := F CFG_COMMIT_go 1 (C up0)
def w1 : State := F CFG_STATUS_ref_valid 0 (C up0)
def crcOf : Word := BitVec.ofNat 32 (guardedCrc (C up0))
def w2 : State := (C up0).setReg CFG_CRC_REF crcOf
def w3 : State := (C up0).setReg CFG_CRC_REF (crcOf + 1)

theorem crc_kept (v : Word) : BitVec.ofNat 32 (guardedCrc ((C up0).setReg CFG_CRC_REF v)) = crcOf := by
  rw [guardedCrc_setReg _ _ _ (guardedRegs_avoid _ (by decide) (by decide +kernel))]; rfl

theorem get_kept (f : Field) (v : Word) (h : f.addr ≠ CFG_CRC_REF) : ((C up0).setReg CFG_CRC_REF v).get f = (C up0).get f :=
  State.get_of_reg (State.reg_setReg_ne _ v h)

theorem up_kept (v : Word) : ((C up0).setReg CFG_CRC_REF v).up = true := by
  have h : ((C up0).setReg CFG_CRC_REF v).mode = (C up0).mode := get_kept _ v (by decide)
  have e : ((C up0).setReg CFG_CRC_REF v).up = (C up0).up := by unfold State.up; rw [h]; rfl
  rw [e]; decide +kernel

theorem crc_differs : BitVec.ofNat 32 (guardedCrc w3) ≠ w3.reg CFG_CRC_REF := by
  rw [w3, crc_kept, State.reg_setReg_same]
  generalize crcOf = c
  bv_omega

theorem witness_ConfigurationCheckActsAsStated :
    ((w0.up = true) ∧ (w0.get CFG_COMMIT_go = 1)) ∧
    ((w1.up = true) ∧ (w1.get CFG_COMMIT_go = 0) ∧ (¬(w1.get CFG_CTRL_check_en = 1 ∧ w1.get CFG_STATUS_ref_valid = 1 ∧ w1.commit.suspendLeft
      = 0))) ∧
    ((w2.up = true) ∧ (w2.get CFG_COMMIT_go = 0) ∧ (w2.get CFG_CTRL_check_en = 1 ∧ w2.get CFG_STATUS_ref_valid = 1 ∧ w2.commit.suspendLeft =
      0) ∧ (BitVec.ofNat 32 (guardedCrc w2) = w2.reg CFG_CRC_REF)) ∧
    ((w3.up = true) ∧ (w3.get CFG_COMMIT_go = 0) ∧ (w3.get CFG_CTRL_check_en = 1 ∧ w3.get CFG_STATUS_ref_valid = 1 ∧ w3.commit.suspendLeft =
      0) ∧ (BitVec.ofNat 32 (guardedCrc w3) ≠ w3.reg CFG_CRC_REF) ∧ (w3.get CFG_CTRL_safe_on_drift = 0)) := by
  have g : ∀ (v : Word) (f : Field) (n : Nat), f.addr ≠ CFG_CRC_REF → (C up0).get f = n → ((C up0).setReg CFG_CRC_REF v).get f = n :=
    fun v f n h e => (get_kept f v h).trans e
  refine ⟨?_, ?_, ⟨up_kept _, g _ _ _ (by decide) (by decide +kernel), ⟨g _ _ _ (by decide) (by decide +kernel), g _ _ _ (by decide) (by decide +kernel),
    rfl⟩, ?_⟩, ⟨up_kept _, g _ _ _ (by decide) (by decide +kernel), ⟨g _ _ _ (by decide) (by decide +kernel), g _ _ _ (by decide) (by decide +kernel),
    rfl⟩, crc_differs, g _ _ _ (by decide) (by decide +kernel)⟩⟩
  · decide +kernel
  · decide +kernel
  · rw [w2, crc_kept, State.reg_setReg_same]

end O39

namespace O40

def F (f : Field) (n : Nat) (s : State) : State := s.put f n
def pu (l : List PurserJob) (s : State) : State := F OTP_STATUS_loaded 1 { s with purser := { s.purser with halted := none, jobs := l }, otp := { s.otp with failed := [], queue := [] }, ledger := [] }
def up (n : Nat) (s : State) : State := { pu [] s with test := { s.test with updateDue := true, updateAt := some 5 }, ticks := n }
def fs (s : State) : State := { s with pins := { s.pins with vqps := 1800 }, pairs := [], therm := { s.therm with reading := (List.range 88).map fun n => (n, 160), model := (List.range 88).map fun n => (n, 40) }, otp := { s.otp with seals := 0, sealBad := 0 } }
def w0 : State := { pu [] up0 with otp := { (pu [] up0).otp with marginal := [⟨6, 5, false, true⟩] } }
def w1 : State := pu [⟨3, 0x52, [6, 0, 0, 0]⟩] up0
def w2 : State := pu [] up0
def w3 : State := F TST_REC_CTRL_go 1 (pu [] up0)
def w4 : State := up 125000005 up0
def w5 : State := fs up0

theorem witness_OtpAndRecordingActAsStated :
    ((w0.up = true) ∧ (w0.get OTP_STATUS_loaded = 1) ∧ (otpJob w0 = none) ∧ (w0.otp.failed = [])) ∧
    ((1746 ≤ 1854 ∧ 1854 ≤ 1854 ∨ otpJob w1 = none)) ∧
    ((1746 ≤ 1900 ∧ 1900 ≤ 1854 ∨ otpJob w2 = none)) ∧
    ((¬(1746 ≤ 1900 ∧ 1900 ≤ 1854)) ∧ (otpJob w1 = some (PurserJob.mk 3 82 [6, 0, 0, 0])) ∧ ((PurserJob.mk 3 82 [6, 0, 0, 0]).command =
      Cmd.otpSeal) ∧ (w1.otp.queue = [])) ∧
    ((purserRuns w3 = true) ∧ (otpJob w3 = none) ∧ (w3.get TST_REC_CTRL_go = 1) ∧ (pendingF4 w3 = []) ∧ (pendingF5 w3 = [])) ∧
    ((purserRuns w4 = true) ∧ (w4.test.updateDue = true) ∧ (∀ (k : Nat), w4.test.updateAt = some k → k + 125000000 ≤ w4.ticks)) ∧
    ((w2.up = true)) ∧
    ((w5.up = true) ∧ (w5.pins.pwrgood = true) ∧ (clockRuns w5 = true) ∧ (w5.pairs.find TST_JTAG_SEAL = none) ∧ (4 ≤ 6) ∧ (otpState w5 6 <
      OtpState.sealed) ∧ (vqpsGood w5 = true) ∧ (otpTempGood w5 = true)) ∧
    ((w5.up = true) ∧ (w5.pins.pwrgood = true) ∧ (clockRuns w5 = true) ∧ (w5.pairs.find TST_JTAG_SEAL = none) ∧ (4 ≤ 4) ∧ (otpState w5 4 <
      OtpState.sealed) ∧ (vqpsGood w5 = true) ∧ (otpTempGood w5 = true)) := by
  and_intros <;> decide +kernel

end O40

namespace O41

def R (b : Bool) (s : State) : State := { s with pins := { s.pins with resetN := b, pwrgood := true }, test := { s.test with tap := { s.test.tap with die := 3, wir := [(1, 2), (3, 4)], wdr := [(3, 9)] } } }
def w0 : State := R false up0
def w1 : State := R true up0

theorem witness_TestAccessActsAsStated :
    ((w0.pins.resetN = false)) ∧
    ((w1.pins.resetN = true) ∧ (w1.up = true)) ∧
    ((w1.pins.pwrgood = true) ∧ (clockRuns w1 = true) ∧ (w1.up = true) ∧ (rowAt (SVC_POOL_CFG 3) = some (((rowAt (SVC_POOL_CFG 3)).get
      rfl).fst, ((rowAt (SVC_POOL_CFG 3)).get rfl).snd)) ∧ (((rowAt (SVC_POOL_CFG 3)).get rfl).fst.rc = 0) ∧ (((rowAt (SVC_POOL_CFG 3)).get
      rfl).fst.sh = false) ∧ ((SVC_POOL_CFG 3) ≠ EVT_LOG_W 0) ∧ ((SVC_POOL_CFG 3) ≠ SNAP_RD_DATA)) ∧
    ((w1.pins.pwrgood = true) ∧ (clockRuns w1 = true) ∧ (w1.up = true)) := by
  and_intros <;> decide +kernel

end O41

namespace O42

def off (s : State) : State := { s with links := [], asks := [], commit := { s.commit with hwDue := [], armed := none }, purser := { s.purser with boxes := [] }, start := { s.start with phase := .held }, regs := s.regs.filter fun p => p.1 < 0x120000 }
def w0 : State := off up0

theorem witness_CrossingBoundaryAdvancesTheModel :
    ((w0.start.phase ≠ StartPhase.running) ∧ (w0.start.phase ≠ StartPhase.ended) ∧ (w0.start.phase ≠ StartPhase.anchoring) ∧ (w0.asks = [])
      ∧ (w0.commit.hwDue = []) ∧ (w0.commit.armed = none) ∧ (w0.links = []) ∧ (w0.purser.boxes = []) ∧ (∀ (m : Fin 8), boxState w0 m =
      BoxState.idle)) := by
  and_intros <;> decide +kernel

end O42

namespace O43

def w0 : State := ((up0).setCross (2 ^ 48 - 1)).put GLB_PERIOD_PHASE_phase 47

theorem witness_CrossingAndPhaseAdvanceByOne :
    ((up0.phase < 48)) ∧
    ((w0.phase < 48)) := by
  and_intros <;> decide +kernel

end O43

namespace O44

def tr (s : State) : State := (((((List.range 4).foldl (fun s k => s.put (SNAP_TRIG_enable k) 0) s).setReg EVT_CTRL 0).put EVT_LOG_HEAD_index 4095).setReg (EVT_PEND 5) 0xF)
def rz : Raised := { count := 3, info := 7 }
def ev (s : State) : State := { (tr s) with events := { s.events with raised := [(170, rz)], held := 4095, counts := [(170, 0xFFFFFFFE), (171, 3)] } }
def w0 : State := ev up0
def w1 : State := tr up0

theorem witness_EventsAreAggregatedAtTheBoundary :
    ((∀ (k : Fin 4), w0.get (SNAP_TRIG_enable k) = 0) ∧ (w0.events.raised = [(170, rz)]) ∧ (0 < rz.count) ∧ (w0.events.held < 4096) ∧
      (w0.reg EVT_CTRL = 0)) ∧
    ((∀ (k : Fin 4), w1.get (SNAP_TRIG_enable k) = 0) ∧ (w1.events.raised = [])) := by
  and_intros <;> decide +kernel

end O44

namespace O52

def hd : Header := ⟨2, 5, true, 77, 9, 12, true, false, true, 0x123456789, 70, 0, 0x123456⟩

theorem witness_TransactionHeadersAreLaidOut :
    ((hd.fits = true)) := by
  decide +kernel

end O52

namespace O53

def hd : Header := ⟨2, 5, true, 77, 9, 12, true, false, true, 0x123456789, 70, 0, 0x123456⟩
def tx : Txn := ⟨hd, (List.range 70).map fun i => BitVec.ofNat 8 (i * 3)⟩

theorem witness_FramedTransactionsComeBackWhole :
    ((txnOk tx.hdr tx.data = true)) := by
  decide +kernel

end O53

namespace O54



theorem witness_TowpathHeadersCheckAndReadBack :
    ((1 ≤ 64) ∧ (64 ≤ 64) ∧ (15 < 16) ∧ (4095 < 4096)) := by
  and_intros <;> decide +kernel

end O54

namespace O55



theorem witness_AppendedRecordsParseBack :
    (((parseWords 6 (recordWords 6 3 [5, 7])).torn = 0) ∧ ((parseWords 6 (recordWords 6 3 [5, 7])).length = (recordWords 6 3 [5, 7]).length)
      ∧ (1 ≤ [1, 2, 3].length) ∧ ([1, 2, 3].length ≤ 1534)) := by
  and_intros <;> decide +kernel

end O55

namespace O56

def nt (s : State) : State := ((s.setReg (EVT_NTF_EN 5) 0xFFFFFFFF).put EVT_CTRL_ntf_ports 8).put (UZ_CTRL_ntf_en 3) 1
def w0 : State := nt up0

theorem witness_LogRecordsAreLaidOut :
    ((383 < 384) ∧ (12345 < 2 ^ 48) ∧ (77 < 2 ^ 48)) ∧
    ((natBit (BitVec.toNat (w0.reg (EVT_NTF_EN (170 / 32)))) (170 % 32) = true) ∧ (w0.get EVT_CTRL_ntf_ports = 2 ^ 3) ∧ (3 < 16)) := by
  and_intros <;> decide +kernel

end O56

namespace O58

def G (a : Nat) : CfgAddr := Fin.ofNat _ a

theorem witness_MaskedWritesChangeSelectedBits :
    ((rowAt (↑(G GLB_SW_FLAGS) : Nat) = some (((rowAt GLB_SW_FLAGS).get rfl).fst, ((rowAt GLB_SW_FLAGS).get rfl).snd)) ∧ (((rowAt
      GLB_SW_FLAGS).get rfl).fst.kind = RegKind.masked) ∧ (up0.up = true)) := by
  and_intros <;> decide +kernel

end O58

end Sys2Proof.Tests
end

section
/-!
PROOF. Staged fields (R12): a write of a register with staged bits stages its value, and its live part touches neither the staged bits nor a
shadow.
-/
set_option autoImplicit false

namespace Sys2Proof.Machine
open Reg Bit

/-! ### Bits of words -/

theorem getLsbD_ofNat_eq_natBit (n : Nat) (k : Fin 32) : (BitVec.ofNat 32 n).getLsbD k = natBit n k := by
  simp only [natBit, BitVec.getLsbD_ofNat, k.isLt, decide_true, Bool.true_and, Nat.testBit_eq_decide_div_mod_eq, beq_eq_decide]

theorem getLsbD_eq_bits (w : Word) (k : Nat) : w.getLsbD k = (w.bits k k == 1) := by
  simp [Word.bits, BitVec.getLsbD, Nat.testBit_eq_decide_div_mod_eq, beq_eq_decide]

/-- A bit below a replaced field stays. -/
theorem getLsbD_withBits_below (w : Word) (hi lo v k : Nat) (h : lo ≤ hi) (h2 : hi < 32) (hk : k < lo) :
    (w.withBits hi lo v).getLsbD k = w.getLsbD k := by
  rw [getLsbD_eq_bits, getLsbD_eq_bits, Word.bits_withBits_below w hi lo v k k h h2 hk]

/-! ### Rows and their addresses -/

theorem mem_of_findRow {a : Nat} {l : List RegRow} {r : RegRow} {i : Nat} (h : findRow a l = some (r, i)) :
    r ∈ l ∧ r.indexOf a = some i := by
  induction l with
  | nil => simp [findRow] at h
  | cons q t ih =>
    cases hq : q.indexOf a with
    | some j =>
      simp only [findRow, hq, Option.some.injEq, Prod.mk.injEq] at h
      obtain ⟨rfl, rfl⟩ := h
      exact ⟨List.mem_cons_self, hq⟩
    | none =>
      simp only [findRow, hq] at h
      exact ⟨List.mem_cons_of_mem q (ih h).1, (ih h).2⟩

theorem blockRows_subset_allRows (b : Nat) : blockRows b ⊆ allRows := by
  intro r h
  unfold blockRows at h
  unfold allRows
  simp only [List.mem_append]
  split at h
  case h_19 => cases h
  all_goals simp only [h, true_or, or_true]

/-- The register at an address belongs to a row of the map that holds the address. -/
theorem mem_allRows_of_rowAt {a : Nat} {r : RegRow} {i : Nat} (h : rowAt a = some (r, i)) : r ∈ allRows ∧ r.indexOf a = some i :=
  ⟨blockRows_subset_allRows _ (mem_of_findRow h).1, (mem_of_findRow h).2⟩

theorem RegRow.eq_of_indexOf {r : RegRow} {a i : Nat} (h : r.indexOf a = some i) : a = r.base + i * r.stride ∧ i < r.count := by
  unfold RegRow.indexOf at h
  split at h
  case isTrue hc =>
    obtain ⟨hbase, hmod, hcount⟩ := hc
    obtain rfl := Option.some.inj h
    exact ⟨by rw [Nat.div_mul_cancel (Nat.dvd_of_mod_eq_zero hmod)]; omega, hcount⟩
  case isFalse => cases h

/-- No register of the row stands at an address of the list. -/
def RegRow.avoids (r : RegRow) (l : List Nat) : Bool := l.all fun a => (r.indexOf a).isNone

theorem RegRow.not_mem_of_avoids {r : RegRow} {l : List Nat} {a i : Nat} (h : r.avoids l = true) (hi : r.indexOf a = some i) : a ∉ l := by
  intro ha
  have := List.all_eq_true.1 h a ha
  simp [hi] at this

/-! ### Registers that show what they hold -/

/-- First addresses of the arrays whose shown word is derived from more than the register. -/
def derivedBases : List Nat :=
  [LANE_STATUS 0, LANE_EQ_RD_DATA 0, LANE_TX_STATUS 0, LANE_TOW_SHAPE_DATA 0, LANE_DFE 0, PORT_STATUS 0, PORT_TOW_STATUS 0, UZ_STATUS 0,
    UZ_CRD_TX0 0, UZ_CRD_TX1 0, UZ_CRD_RX0 0, UZ_CRD_RX1 0, UZ_RT 0, SVC_POOL_STATUS 0, SVC_POOL_FREE 0, HC_REF_DATA 0, HC_DQ_DATA 0,
    HC_DIE_MW_DATA 0, ECC_LOG_W 0, FAB_RT_LIVE 0, FAB_NBR 0, FAB_NBR_AGE 0, OTP_RGN_STATE 0, EVT_LOG_W 0]

/-- Addresses of the single registers whose shown word is derived from more than the register. -/
def derivedAddrs : List Nat :=
  [GLB_COMMIT_STATUS, GLB_COMMIT_REFUSERS, GLB_SERIAL_LO, GLB_SERIAL_HI, CFG_STATUS, LANE_LEDGER_STAGED, LANE_LEDGER_STATUS, SVC_HCF_DATA,
    TT_STATUS, TT_FC_OUT_DATA, HC_ARB_HC_DATA, HC_MAP_STATUS, ECC_PIN_DATA, ECC_SCRUB_DATA, LDG_STATUS, LDG_DIRTY, LDG_SLICE_DATA, FAB_STATUS,
    FAB_REC, THM_NODE_DATA0, THM_NODE_DATA1, PWR_LEDGER, PWR_MODE_STATUS, OTP_STATUS, OTP_MARG_DATA, OTP_REDIR_DATA, EVT_STATUS, EVT_CNT_DATA,
    SNAP_STATUS, SNAP_RD_DATA, MBX_JOBS, TST_TSV_DATA, TST_WAYS_OFF, TST_COVER, TST_REPLACE, TST_REC_STATUS, TST_LOOP_STATUS]

/-- A plain register outside the derived ones shows the word it holds. -/
theorem shown_eq_reg {s : State} {r : RegRow} {i a : Nat} (hr : rowAt a = some (r, i)) (hk : r.kind = .plain)
    (hb : r.base ∉ derivedBases) (ha : a ∉ derivedAddrs) :
    shown s a = s.reg a := by
  simp only [derivedBases, List.mem_cons, List.not_mem_nil, or_false, not_or] at hb
  simp only [derivedAddrs, List.mem_cons, List.not_mem_nil, or_false, not_or] at ha
  simp only [shown, hr, hk, shownGlobal, shownLane, shownPort, shownMemory, shownServices, shownPurser, hb, ha, if_false, ite_self]

/-! ### The rows with staged bits -/

/-- The rows that hold staged bits. -/
def stagedRows : List RegRow := allRows.filter fun r => decide (r.staged ≠ 0)

theorem mem_stagedRows {a : Nat} {r : RegRow} {i : Nat} (h : rowAt a = some (r, i)) (hs : r.staged ≠ 0) : r ∈ stagedRows :=
  List.mem_filter.2 ⟨(mem_allRows_of_rowAt h).1, decide_eq_true hs⟩

/-- The registers that staging a word may change: those of the commit controller, where an arm is withdrawn (R19), the marks of a value out
of range (R124, R451) and GLB_MEM_STATE.preserved (R83). -/
def bookkeepingRegs : List Nat := [GLB_COMMIT_CTRL, GLB_COMMIT_STATUS, GLB_COMMIT_ABORTS, GLB_MEM_STATE, LANE_LEDGER_STATUS, PWR_SUPPLY]

theorem stagedRows_shown : ∀ r ∈ stagedRows, r.sh = false ∧ r.base ∉ derivedBases ∧ r.avoids derivedAddrs = true := by decide +kernel

theorem stagedRows_avoid_bookkeeping : ∀ r ∈ stagedRows, r.avoids (PWR_MODE :: bookkeepingRegs) = true := by decide +kernel

/-- No row with staged bits reaches into the map selects, whose staged bits MAP_CHECK alone writes (R327). -/
theorem stagedRows_avoid_mapSelects :
    ∀ r ∈ stagedRows, r.base + (r.count - 1) * r.stride < HC_MAP0_SEL 0 ∨ HC_MAP1_SEL 11 < r.base := by decide +kernel

/-- Software writes a staged bit neither live nor by setting it. -/
theorem stagedRows_disjoint :
    ∀ r ∈ stagedRows, ∀ k : Fin 32, natBit r.staged k = true → natBit r.rw k = false ∧ natBit r.w1s k = false := by decide +kernel

/-- The registers with live bits beside their staged ones are TT_CTRL, FAB_CTRL and the FAB_PORT_CTRL of the ports. -/
theorem stagedRows_live : ∀ r ∈ stagedRows, r.rw ≠ 0 ∨ r.w1s ≠ 0 →
    (r.base = FAB_PORT_CTRL 0 ∧ r.stride = 0x10 ∧ r.staged = 3) ∨ r.count = 1 ∧ (r.base = TT_CTRL ∨ r.base = FAB_CTRL) := by decide +kernel

/-! ### What a state keeps while a few registers change -/

/-- The registers outside the list, the course of START and the modes stand. -/
structure OnlyTouches (l : List Nat) (s t : State) : Prop where
  regs : SameRegs l s t
  start : t.start = s.start
  modes : t.modes = s.modes

namespace OnlyTouches
variable {l : List Nat} {s t u : State}

theorem of_regs (hr : t.regs = s.regs) (hs : t.start = s.start) (hm : t.modes = s.modes) : OnlyTouches l s t :=
  ⟨fun a _ => State.reg_of_regs hr a, hs, hm⟩

theorem refl (l : List Nat) (s : State) : OnlyTouches l s s := of_regs rfl rfl rfl

theorem trans (h : OnlyTouches l s t) (h' : OnlyTouches l t u) : OnlyTouches l s u :=
  ⟨fun a ha => (h'.regs a ha).trans (h.regs a ha), h'.start.trans h.start, h'.modes.trans h.modes⟩

theorem setReg {a : Nat} (ha : a ∈ l) (v : Word) (s : State) : OnlyTouches l s (s.setReg a v) :=
  ⟨fun _ hb => State.reg_setReg_ne s v fun e => hb (e ▸ ha), rfl, rfl⟩

theorem put (f : Field) (hf : f.addr ∈ l) (v : Nat) (s : State) : OnlyTouches l s (s.put f v) := setReg hf _ s

theorem addField (f : Field) (hf : f.addr ∈ l) (n : Nat) (s : State) : OnlyTouches l s (s.addField f n) := put f hf _ s

theorem raiseEvent (l : List Nat) (e info : Nat) (s : State) : OnlyTouches l s (s.raiseEvent e info) :=
  of_regs (State.raiseEvent_regs s e info) (State.raiseEvent_start s e info) (State.raiseEvent_modes s e info)

theorem up (h : OnlyTouches l s t) (hl : PWR_MODE ∉ l) : t.up = s.up := by
  have hmode : t.mode = s.mode := State.get_of_reg (h.regs PWR_MODE hl)
  simp only [State.up, h.start, h.modes, hmode]

end OnlyTouches

/-! ### Staging a word -/

theorem suspendCheck_onlyTouches (l : List Nat) (r : RegRow) (s : State) : OnlyTouches l s (suspendCheck r s) := by
  unfold suspendCheck
  split
  · exact .of_regs rfl rfl rfl
  · exact .refl l s

theorem disarm_onlyTouches (s : State) : OnlyTouches bookkeepingRegs s (disarm s) := by
  have harm : OnlyTouches bookkeepingRegs s { s with commit := { s.commit with armed := none, preparing := false, vote := none } } :=
    .of_regs rfl rfl rfl
  exact harm.trans (.put GLB_COMMIT_CTRL_arm (by decide) 0 _)

theorem commitAbort_onlyTouches (cause first : Nat) (s : State) : OnlyTouches bookkeepingRegs s (commitAbort cause first s) := by
  have hcause := OnlyTouches.put (l := bookkeepingRegs) GLB_COMMIT_STATUS_cause (by decide) cause s
  have hfirst := hcause.trans (.put GLB_COMMIT_STATUS_first_refuser (by decide) first _)
  have hcount := hfirst.trans (.addField GLB_COMMIT_ABORTS_count (by decide) 1 _)
  exact hcount.trans (.raiseEvent _ _ _ _)

theorem commitWithdraw_onlyTouches (cause first : Nat) (s : State) : OnlyTouches bookkeepingRegs s (commitWithdraw cause first s) := by
  unfold commitWithdraw
  split
  · exact (disarm_onlyTouches s).trans (commitAbort_onlyTouches cause first _)
  · exact .refl _ s

@[simp] theorem commitWithdraw_staged (cause first : Nat) (s : State) : (commitWithdraw cause first s).staged = s.staged := by
  unfold commitWithdraw
  split
  · simp only [commitAbort, disarm, State.raiseEvent_staged, State.addField_staged, State.put_staged]
  · rfl

theorem stageWord_onlyTouches (a : Nat) (v : Word) (s : State) : OnlyTouches bookkeepingRegs s (stageWord a v s) := by
  unfold stageWord
  extract_lets m changed away s1
  exact .trans (t := s1) (.of_regs rfl rfl rfl) (commitWithdraw_onlyTouches _ _ s1)

/-- The shadow of an address after staging a word: none where the staged bits equal the live ones. -/
theorem stageWord_find (a : Nat) (v : Word) (s : State) :
    (stageWord a v s).staged.find a = if (v ^^^ s.reg a) &&& BitVec.ofNat 32 (stagedMask a) = 0 then none
      else some (v &&& BitVec.ofNat 32 (stagedMask a)) := by
  simp only [stageWord, commitWithdraw_staged]
  split
  · exact KMap.find_erase_same _ _
  · exact KMap.find_ins_same _ _ _

/-- A staged bit of the word to come depends on the shadow and on that live bit alone. -/
theorem getLsbD_nextWord_congr {s t : State} {a k : Nat} (hf : t.staged.find a = s.staged.find a)
    (hk : (t.reg a).getLsbD k = (s.reg a).getLsbD k) : (nextWord t a).getLsbD k = (nextWord s a).getLsbD k := by
  unfold nextWord
  rw [hf]
  cases s.staged.find a with
  | none => exact hk
  | some v => simp only [BitVec.getLsbD_or, BitVec.getLsbD_and, BitVec.getLsbD_not, hk]

/-- A word that was staged is the word to come, in the staged bits. -/
theorem getLsbD_nextWord_stageWord {a : Nat} (ha : a ∉ bookkeepingRegs) (v : Word) (s : State) {k : Fin 32}
    (hk : natBit (stagedMask a) k = true) : (nextWord (stageWord a v s) a).getLsbD k = v.getLsbD k := by
  have hm : (BitVec.ofNat 32 (stagedMask a)).getLsbD k = true := (getLsbD_ofNat_eq_natBit _ k).trans hk
  unfold nextWord
  rw [stageWord_find, (stageWord_onlyTouches a v s).regs a ha]
  by_cases haway : (v ^^^ s.reg a) &&& BitVec.ofNat 32 (stagedMask a) = 0
  · rw [if_pos haway]
    have hbit := congrArg (fun w : Word => w.getLsbD k) haway
    simp only [BitVec.getLsbD_and, BitVec.getLsbD_xor, hm, Bool.and_true, BitVec.ofNat_eq_ofNat, BitVec.getLsbD_zero,
      bne_eq_false_iff_eq] at hbit
    exact hbit.symm
  · rw [if_neg haway]
    simp only [BitVec.getLsbD_or, BitVec.getLsbD_and, BitVec.getLsbD_not, hm, Bool.not_true, Bool.and_false, Bool.and_true, Bool.false_or]

/-- The value lies in the range of the register, where it has one. -/
def inStagedRange (a : Nat) (v : Word) : Prop :=
  (a = LANE_LEDGER_ALLOW → allowInRange v = true) ∧ (a = PWR_CEILING → 90000 ≤ v.bits 17 0 ∧ v.bits 17 0 ≤ 150000)

/-- A value in range is staged, after at most a mark or GLB_MEM_STATE.preserved was cleared. -/
theorem rangedStage_eq_stageWord {a : Nat} {v : Word} (h : inStagedRange a v) (s : State) :
    ∃ u, OnlyTouches bookkeepingRegs s u ∧ rangedStage a v s = stageWord a v u := by
  unfold rangedStage
  by_cases hallow : a = LANE_LEDGER_ALLOW
  · rw [if_pos hallow, if_pos (h.1 hallow)]
    exact ⟨_, .put LANE_LEDGER_STATUS_bad_write (by decide) 0 s, rfl⟩
  by_cases hceil : a = PWR_CEILING
  · rw [if_neg hallow, if_pos hceil, if_pos (h.2 hceil)]
    exact ⟨_, .put PWR_SUPPLY_bad_write (by decide) 0 s, rfl⟩
  · rw [if_neg hallow, if_neg hceil]
    refine ⟨_, ?_, rfl⟩
    unfold staleRewritten
    dsimp only
    split
    · exact .put GLB_MEM_STATE_preserved (by decide) 0 s
    · exact .refl _ s

/-! ### The live part of a write of a register with staged bits -/

/-- The shadows, the staged bits of the row at the address, and what says that the logic is up, stand. -/
structure KeepsStaged (r : RegRow) (a : Nat) (s t : State) : Prop where
  staged : t.staged = s.staged
  touches : OnlyTouches [a] s t
  bits : ∀ k : Fin 32, natBit r.staged k = true → (t.reg a).getLsbD k = (s.reg a).getLsbD k

theorem KeepsStaged.refl (r : RegRow) (a : Nat) (s : State) : KeepsStaged r a s s := ⟨rfl, .refl _ s, fun _ _ => rfl⟩

theorem plainWrite_keepsStaged {r : RegRow} (hr : r ∈ stagedRows) (a : Nat) (v : Word) (s : State) :
    KeepsStaged r a s (plainWrite r a v s) := by
  refine ⟨rfl, .setReg List.mem_cons_self _ s, fun k hk => ?_⟩
  obtain ⟨hrw, hw1s⟩ := stagedRows_disjoint r hr k hk
  simp only [plainWrite, State.reg_setReg_same, plainWord, BitVec.getLsbD_or, BitVec.getLsbD_and, BitVec.getLsbD_not,
    getLsbD_ofNat_eq_natBit, hrw, hw1s, k.isLt, decide_true, Bool.not_false, Bool.and_true, Bool.and_false, Bool.or_false]

theorem liveWrite_ttCtrl {r : RegRow} (hb : r.base = TT_CTRL) (i : Nat) (v : Word) (s : State) :
    liveWrite r i TT_CTRL v s = plainWrite r TT_CTRL v s := by
  have hclear : isClear r TT_CTRL = false := by rw [isClear, hb]; decide
  simp only [liveWrite, hclear, writeLow, hb]
  rfl

theorem liveWrite_fabCtrl {r : RegRow} (hb : r.base = FAB_CTRL) (i : Nat) (v : Word) (s : State) :
    liveWrite r i FAB_CTRL v s = plainWrite r FAB_CTRL v s := by
  have hclear : isClear r FAB_CTRL = false := by rw [isClear, hb]; decide
  simp only [liveWrite, hclear, writeHigh, hb]
  rfl

theorem fabPortCtrl_ne {b : Nat} (h : b < FAB_PORT_CTRL 0 ∨ b % 16 ≠ 0) (i : Nat) : FAB_PORT_CTRL i ≠ b := by
  simp only [FAB_PORT_CTRL] at *
  omega

/-- Writing FAB_PORT_CTRL live is writing its restore bit. -/
theorem liveWrite_fabPortCtrl {r : RegRow} (hb : r.base = FAB_PORT_CTRL 0) (i : Nat) (v : Word) (s : State) :
    liveWrite r i (FAB_PORT_CTRL i) v s = if v.bits 2 2 = 1 then restoreWrite i s else s := by
  have hclear : isClear r (FAB_PORT_CTRL i) = false := by simp (disch := decide) [isClear, hb, fabPortCtrl_ne]
  have hhigh : ¬ FAB_PORT_CTRL i < 0x80000 := by simp only [FAB_PORT_CTRL]; omega
  simp (disch := decide) [liveWrite, hclear, hhigh, writeHigh, hb, fabPortCtrl_ne]

theorem restoreWrite_keepsStaged {r : RegRow} (hs : r.staged = 3) (i : Nat) (s : State) :
    KeepsStaged r (FAB_PORT_CTRL i) s (restoreWrite i s) := by
  unfold restoreWrite
  split
  · refine ⟨rfl, .put (FAB_PORT_CTRL_restore i) List.mem_cons_self 1 s, fun k hk => ?_⟩
    have hk2 : k.val < 2 := by revert hk; rw [hs]; revert k; decide
    rw [State.reg_put, if_pos (show FAB_PORT_CTRL i = (FAB_PORT_CTRL_restore i).addr from rfl)]
    exact getLsbD_withBits_below _ 2 2 1 k (by decide) (by decide) hk2
  · exact .refl r _ s

theorem liveWrite_keepsStaged {r : RegRow} {i a : Nat} (hr : r ∈ stagedRows) (hi : r.indexOf a = some i) (hlive : r.rw ≠ 0 ∨ r.w1s ≠ 0)
    (v : Word) (s : State) : KeepsStaged r a s (liveWrite r i a v s) := by
  obtain ⟨rfl, hlt⟩ := RegRow.eq_of_indexOf hi
  rcases stagedRows_live r hr hlive with ⟨hb, hstride, hs⟩ | ⟨hc, hb | hb⟩
  · rw [show r.base + i * r.stride = FAB_PORT_CTRL i by rw [hb, hstride]; simp only [FAB_PORT_CTRL]; omega, liveWrite_fabPortCtrl hb]
    split
    · exact restoreWrite_keepsStaged hs i s
    · exact .refl r _ s
  · obtain rfl : i = 0 := by omega
    rw [Nat.zero_mul, Nat.add_zero, hb, liveWrite_ttCtrl hb]
    exact plainWrite_keepsStaged hr _ v s
  · obtain rfl : i = 0 := by omega
    rw [Nat.zero_mul, Nat.add_zero, hb, liveWrite_fabCtrl hb]
    exact plainWrite_keepsStaged hr _ v s

/-! ### The whole write -/

/-- The staged bits of a register are those of its row. -/
theorem stagedMask_of_row {a : Nat} {r : RegRow} {i : Nat} (hr : rowAt a = some (r, i)) (hs : r.staged ≠ 0) : stagedMask a = r.staged := by
  obtain ⟨ha, hi⟩ := RegRow.eq_of_indexOf (mem_allRows_of_rowAt hr).2
  have hlast : i * r.stride ≤ (r.count - 1) * r.stride := Nat.mul_le_mul_right _ (by omega)
  have hselect := stagedRows_avoid_mapSelects r (mem_stagedRows hr hs)
  unfold stagedMask
  rw [if_neg (by omega), hr]

section
variable {s : State} {a : Nat} {r : RegRow} {i : Nat} {v : Word}

/-- A write of a plain register with staged bits stages its value, then makes its live part, which keeps what was staged. -/
theorem writeRow_staged (hr : rowAt a = some (r, i)) (hk : r.kind = .plain) (hs : r.staged ≠ 0) (hv : inStagedRange a v) (src : Nat) :
    ∃ u, OnlyTouches bookkeepingRegs s u ∧ KeepsStaged r a (stageWord a v u) (writeRow r i src a v s) := by
  obtain ⟨u, hu, hstage⟩ := rangedStage_eq_stageWord hv (suspendCheck r s)
  refine ⟨u, (suspendCheck_onlyTouches _ r s).trans hu, ?_⟩
  simp only [writeRow, hk, if_pos hs, hstage]
  split
  case isTrue hlive => exact liveWrite_keepsStaged (mem_stagedRows hr hs) (mem_allRows_of_rowAt hr).2 hlive v _
  case isFalse => exact .refl r a _

/-- A read of a register with staged bits returns the live word. -/
theorem cfgRead_staged (hr : rowAt a = some (r, i)) (hk : r.kind = .plain) (hs : r.staged ≠ 0) (hup : s.up = true) (src : Nat) :
    (cfgRead src a s).1 = s.reg a := by
  obtain ⟨hsh, hbase, haddr⟩ := stagedRows_shown r (mem_stagedRows hr hs)
  have hderived : a ∉ derivedAddrs := RegRow.not_mem_of_avoids haddr (mem_allRows_of_rowAt hr).2
  simp only [cfgRead, hup, if_true, readWord, hr, hsh, Bool.false_and, Bool.false_eq_true, if_false,
    shown_eq_reg hr hk hbase hderived]

theorem up_of_writable (h : writable s a = true) : s.up = true := by
  unfold writable at h
  exact (Bool.and_eq_true _ _ ▸ h).1

end

/-- Settles O59: the write stages the value before its live part, which touches no staged bit and no shadow; the registers of the commit
controller and the marks lie apart from every staged one (R12). -/
theorem stagedFieldsGoToTheirShadows : Obligations.StagedFieldsGoToTheirShadows := by
  unfold Obligations.StagedFieldsGoToTheirShadows
  intro s src a r i v hr hk hs hw hallow hceil
  refine ⟨write src a v s, rfl, ?_⟩
  rw [write_of_writable hw hr]
  obtain ⟨u, hsu, hlive⟩ := writeRow_staged (s := s) hr hk hs ⟨hallow, hceil⟩ src
  generalize writeRow r i src a v s = t at hlive ⊢
  have hapart := RegRow.not_mem_of_avoids (stagedRows_avoid_bookkeeping r (mem_stagedRows hr hs)) (mem_allRows_of_rowAt hr).2
  obtain ⟨hmode, hbook⟩ := not_or.1 (mt List.mem_cons.2 hapart)
  have hstage : OnlyTouches bookkeepingRegs s (stageWord a v u) := hsu.trans (stageWord_onlyTouches a v u)
  have hup : t.up = true := by
    rw [hlive.touches.up (by simpa using Ne.symm hmode), hstage.up (by decide), up_of_writable hw]
  intro k hbit
  have hreg : (t.reg a).getLsbD k = (s.reg a).getLsbD k := by rw [hlive.bits k hbit, hstage.regs a hbook]
  refine ⟨?_, hreg, by rw [cfgRead_staged hr hk hs hup, hreg]⟩
  rw [getLsbD_nextWord_congr (congrArg (KMap.find · a) hlive.staged) (hlive.bits k hbit)]
  exact getLsbD_nextWord_stageWord hbook v u (stagedMask_of_row hr hs ▸ hbit)

end Sys2Proof.Machine
end

section
/-!
PROOF. The layout of a log record and of the notice that carries it (R479).
-/
set_option autoImplicit false

namespace Sys2Proof.Machine
open Reg Bit

/-! ### The fields of a record -/

/-- A record as its fields, each one behind the wider part above it; the zeros in bits 117:112 are the room the count leaves below 2^22. -/
theorem eventRecord_eq_fields {e cross info : Nat} (count : Nat) (he : e < 384) (hcross : cross < 2 ^ 48)
    (hinfo : info < 2 ^ 48) :
    eventRecord e count cross info =
      (((e * 2 + (decide (0xFFFF ≤ count)).toNat) * 2 ^ 22 + min 0xFFFF count) * 2 ^ 48 + cross) * 2 ^ 48 + info := by
  rw [eventRecord, Nat.mod_eq_of_lt (by omega : e < 512), Nat.mod_eq_of_lt hcross, Nat.mod_eq_of_lt hinfo]
  by_cases hsat : 0xFFFF ≤ count
  case pos => simp only [hsat, if_true, decide_true, Bool.toNat_true]; omega
  case neg => simp only [hsat, if_false, decide_false, Bool.toNat_false]; omega

/-- Each field of five packed numbers is read back at its place. -/
theorem fields_of_packed {e sat count cross info w : Nat} (he : e < 384) (hsat : sat < 2) (hcount : count < 2 ^ 16)
    (hcross : cross < 2 ^ 48) (hinfo : info < 2 ^ 48)
    (hw : w = (((e * 2 + sat) * 2 ^ 22 + count) * 2 ^ 48 + cross) * 2 ^ 48 + info) :
    w < 2 ^ 128 ∧ w / 2 ^ 119 = e ∧ w / 2 ^ 118 % 2 = sat ∧ w / 2 ^ 112 % 2 ^ 6 = 0 ∧ w / 2 ^ 96 % 2 ^ 16 = count ∧
      w / 2 ^ 48 % 2 ^ 48 = cross ∧ w % 2 ^ 48 = info := by
  and_intros <;> omega

theorem natBit_of_div_mod_eq_toNat {n i : Nat} {b : Bool} (h : n / 2 ^ i % 2 = b.toNat) : natBit n i = b := by
  rw [natBit, h]
  cases b <;> rfl

/-! ### The notice of one record -/

/-- The one port of a mask with one bit. -/
theorem filter_natBit_two_pow {n p : Nat} (hp : p < n) : ((List.range n).filter fun q => natBit (2 ^ p) q) = [p] := by
  have hbit : (fun q => natBit (2 ^ p) q) = (· == p) := by
    funext q
    rw [natBit, beq_eq_decide, ← Nat.testBit_eq_decide_div_mod_eq, Nat.testBit_two_pow, beq_eq_decide, decide_eq_decide]
    exact eq_comm
  rw [hbit, List.filter_beq, List.count_eq_one_of_mem List.nodup_range (List.mem_range.2 hp), List.replicate_one]

/-- One enabled event goes out as one notice, whose data are the bytes of its record, on each port of the mask. -/
theorem sendEvents_singleton {s : State} {e : Nat} (hen : natBit (s.reg (EVT_NTF_EN (e / 32))).toNat (e % 32) = true) (cross : Nat)
    (r : Raised) :
    sendEvents cross [(e, r)] s =
      forEach ((List.range 16).filter fun p => natBit (s.get EVT_CTRL_ntf_ports) p)
        (fun p => pushNotice p 0x30 (bytesBE 16 (eventRecord e r.count cross r.info))) s := by
  simp [sendEvents, hen, forEach]

/-- Settles O56: a record is the packing of its five fields, and a notice of one event takes the record's own bytes (R479). -/
theorem logRecordsAreLaidOut : Obligations.LogRecordsAreLaidOut := by
  unfold Obligations.LogRecordsAreLaidOut
  constructor
  · intro e count cross info he hcross hinfo w
    obtain ⟨hlt, hevent, hsat, hzero, hcount, hcrossing, hinf⟩ := fields_of_packed he (Bool.toNat_lt _)
      (by omega : min 0xFFFF count < 2 ^ 16) hcross hinfo (eventRecord_eq_fields count he hcross hinfo)
    exact ⟨hlt, hevent, natBit_of_div_mod_eq_toNat hsat, hzero, hcount, hcrossing, hinf⟩
  · intro s cross p e r hen hports hp
    rw [sendEvents_singleton hen, hports, filter_natBit_two_pow hp]
    rfl

end Sys2Proof.Machine
end

section
/-!
PROOF. Masked registers (R495): the one masked register takes the bits that the upper half of the value selects, and shows its lower half alone.
-/
set_option autoImplicit false

namespace Sys2Proof.Machine
open Reg Bit

/-! ### The masked register -/

/-- GLB_SW_FLAGS is the one masked register; no lock guards it and it has no shadow. -/
theorem maskedRows_eq_swFlags : ∀ r ∈ allRows, r.kind = .masked → r.base = GLB_SW_FLAGS ∧ r.count = 1 ∧ r.sh = false ∧ r.lock = 16 := by
  decide +kernel

section
variable {s : State} {a : Nat} {r : RegRow} {i : Nat}

theorem eq_swFlags_of_masked (hr : rowAt a = some (r, i)) (hk : r.kind = .masked) : a = GLB_SW_FLAGS := by
  obtain ⟨hrow, hi⟩ := mem_allRows_of_rowAt hr
  obtain ⟨hbase, hcount, -, -⟩ := maskedRows_eq_swFlags r hrow hk
  obtain ⟨ha, hlt⟩ := RegRow.eq_of_indexOf hi
  obtain rfl : i = 0 := by omega
  rw [ha, hbase, Nat.zero_mul, Nat.add_zero]

theorem writable_of_masked (hr : rowAt a = some (r, i)) (hk : r.kind = .masked) (hup : s.up = true) : writable s a = true := by
  obtain ⟨-, -, -, hlock⟩ := maskedRows_eq_swFlags r (mem_allRows_of_rowAt hr).1 hk
  simp only [writable, hup, hr, locked, hlock, lt_irrefl, decide_false, Bool.false_and, Bool.not_false, Bool.and_self]

/-- A read of a masked register returns the lower half of the word it holds. -/
theorem cfgRead_masked (hr : rowAt a = some (r, i)) (hk : r.kind = .masked) (hup : s.up = true) (src : Nat) :
    (cfgRead src a s).1 = s.reg a &&& 0xFFFF := by
  obtain ⟨-, -, hsh, -⟩ := maskedRows_eq_swFlags r (mem_allRows_of_rowAt hr).1 hk
  simp only [cfgRead, hup, if_true, readWord, shown, hr, hk, hsh, Bool.false_and, Bool.false_eq_true, if_false]

end

/-! ### The word that a masked write leaves -/

/-- The old word with the bits of its lower half replaced that the upper half of the value selects. -/
def maskedWord (old v : Word) : Word := (old &&& ~~~(v >>> 16)) ||| (v &&& (v >>> 16) &&& 0xFFFF)

/-- A write of a masked register while the logic is up leaves the masked word in that register. -/
theorem write_masked {s : State} {a : Nat} {r : RegRow} {i : Nat} (hr : rowAt a = some (r, i)) (hk : r.kind = .masked) (hup : s.up = true)
    (src : Nat) (v : Word) : write src a v s = s.setReg a (maskedWord (s.reg a) v) := by
  rw [write_of_writable (writable_of_masked hr hk hup) hr]
  simp only [writeRow, hk, maskedWord]

theorem getLsbD_and_lowHalf (w : Word) (k : Fin 16) : (w &&& 0xFFFF).getLsbD k = w.getLsbD k := by
  have hmask : (0xFFFF : Word).getLsbD k = true := by revert k; decide
  rw [BitVec.getLsbD_and, hmask, Bool.and_true]

theorem getLsbD_and_lowHalf_above (w : Word) (k : Fin 16) : (w &&& 0xFFFF).getLsbD (16 + k) = false := by
  have hmask : (0xFFFF : Word).getLsbD (16 + k) = false := by revert k; decide
  rw [BitVec.getLsbD_and, hmask, Bool.and_false]

/-- Bit k of the lower half is the written one where bit 16 + k of the value is 1, else the old one. -/
theorem getLsbD_maskedWord (old v : Word) (k : Fin 16) :
    (maskedWord old v).getLsbD k = if v.getLsbD (16 + k) then v.getLsbD k else old.getLsbD k := by
  have hk : (k : Nat) < 32 := by omega
  rw [maskedWord, BitVec.getLsbD_or, getLsbD_and_lowHalf]
  simp only [BitVec.getLsbD_and, BitVec.getLsbD_not, BitVec.getLsbD_ushiftRight, hk, decide_true, Bool.true_and]
  cases v.getLsbD (16 + k) <;> simp

/-! ### The two commands that write it -/

theorem exec_registerWrite_eq (src : Source) (a : CfgAddr) (v : Word) (s : State) :
    exec (.registerWrite src a v) s = .next (write src a v s) := rfl

theorem exec_swFlagsWrite_eq (src : Source) (v : Word) (s : State) :
    exec (.swFlagsWrite src v) s = .next (write src GLB_SW_FLAGS v s) := rfl

/-- Settles O58: every masked register is GLB_SW_FLAGS, a write of it by either command leaves the masked word there and touches nothing else,
and a read shows the lower half of the register (R495). -/
theorem maskedWritesChangeSelectedBits : Obligations.MaskedWritesChangeSelectedBits := by
  unfold Obligations.MaskedWritesChangeSelectedBits
  intro s src a r i v hr hk hup
  have ha : a.val = GLB_SW_FLAGS := eq_swFlags_of_masked hr hk
  have htouch : OnlyTouches [a.val] s (s.setReg a (maskedWord (s.reg a) v)) := .setReg List.mem_cons_self _ s
  have hup' : (s.setReg a (maskedWord (s.reg a) v)).up = true := by rw [htouch.up (by rw [ha]; decide), hup]
  refine ⟨⟨s.setReg a (maskedWord (s.reg a) v), ?_, ?_, fun k => ?_, htouch.regs, rfl⟩, fun k => ?_⟩
  · rw [exec_registerWrite_eq, write_masked hr hk hup]
  · rw [exec_swFlagsWrite_eq, ← ha, write_masked hr hk hup]
  · rw [cfgRead_masked hr hk hup', cfgRead_masked hr hk hup, State.reg_setReg_same, getLsbD_and_lowHalf, getLsbD_and_lowHalf,
      getLsbD_maskedWord]
  · rw [cfgRead_masked hr hk hup, getLsbD_and_lowHalf_above]

end Sys2Proof.Machine
end

section
/-!
PROOF. Addresses at which no register is defined (R492).
-/
set_option autoImplicit false

namespace Sys2Proof.Machine
variable {a : Nat} (ha : rowAt a = none)
include ha

theorem cfgRead_undefined (src : Nat) (s : State) : cfgRead src a s = (0, s) := by
  by_cases hup : s.up
  case pos => simp only [cfgRead, hup, if_true, readWord, readEffect, ha]
  case neg => simp only [cfgRead, hup, if_false, Bool.false_eq_true]

/-- No lock refuses the write, and it changes nothing. -/
theorem cfgWrite_undefined (src : Nat) (v : Word) (s : State) : cfgWrite src a v s = (false, s) := by
  by_cases hup : s.up
  case pos => simp only [cfgWrite, hup, ha]; rfl
  case neg => simp only [cfgWrite, hup]; rfl

theorem cfgRdRun_undefined {e : Entry} (haddr : e.txn.hdr.addr = a) (hlen : e.txn.hdr.rlen = 4) (p : Nat) (s : State) :
    cfgRdRun p e s = answer p e 0 0 [0, 0, 0, 0] s := by
  have hread : cfgReadMany p a (4 / 4) s = ([0], s) := by simp only [Nat.div_self four_pos, cfgReadMany, cfgRead_undefined ha]
  rw [cfgRdRun, haddr, hlen, hread]
  rfl

theorem cfgWrRun_undefined {e : Entry} (haddr : e.txn.hdr.addr = a) (hlen : e.txn.hdr.len = 4) (p : Nat) (s : State) :
    cfgWrRun p e s = answer p e 0 0 [] s := by
  have hwrite (v : Word) : cfgWriteMany p a 0 [v] s = (0, s) := by simp only [cfgWriteMany, cfgWrite_undefined ha]; rfl
  have hdata : payloadWords e.txn.data 0 (4 / 4) = [BitVec.ofNat 32 (payloadNum e.txn.data 0 4)] := rfl
  rw [cfgWrRun, haddr, hlen, hdata, hwrite]
  rfl

end Sys2Proof.Machine

namespace Sys2Proof.Machine

/-- Settles O57: with no row at the address neither operation has anything to do, and the answers in band carry status 0 (R492). -/
theorem undefinedAddressesReadZeroAndIgnoreWrites : Obligations.UndefinedAddressesReadZeroAndIgnoreWrites := by
  unfold Obligations.UndefinedAddressesReadZeroAndIgnoreWrites
  intro s src a v ha
  exact ⟨cfgRead_undefined ha src s, cfgWrite_undefined ha src v s, fun p e haddr =>
    ⟨fun hlen => cfgRdRun_undefined ha haddr hlen p s, fun hlen => cfgWrRun_undefined ha haddr hlen p s⟩⟩

end Sys2Proof.Machine
end

section
/-!
PROOF. Headers of transactions and their framing (R199, R211, R213).
-/
set_option autoImplicit false
set_option Elab.async false

namespace Sys2Proof.Machine

/-! ### Bytes of a number -/

theorem ofBytesBE_append_singleton (l : List Byte) (b : Byte) : ofBytesBE (l ++ [b]) = ofBytesBE l * 256 + b.toNat := by
  simp only [ofBytesBE, List.foldl_append, List.foldl_cons, List.foldl_nil]

/-- One more byte holds the low bits; the bytes before it are those of the rest. -/
theorem bytesBE_succ (n v : Nat) : bytesBE (n + 1) v = bytesBE n (v / 256) ++ [BitVec.ofNat 8 v] := by
  simp only [bytesBE, List.range_succ, List.map_append, List.map_cons, List.map_nil, Nat.add_sub_cancel, Nat.sub_self, pow_zero, Nat.div_one,
    List.append_cancel_right_eq, List.map_inj_left, List.mem_range]
  intro i hi
  rw [Nat.div_div_eq_div_mul, ← pow_succ', show n - i = n - 1 - i + 1 by omega]

/-- The bytes of a number that fits spell it. -/
theorem ofBytesBE_bytesBE_of_lt (n v : Nat) (h : v < 256 ^ n) : ofBytesBE (bytesBE n v) = v := by
  induction n generalizing v with
  | zero => simp only [pow_zero, Nat.lt_one_iff] at h; subst h; rfl
  | succ n ih =>
    rw [bytesBE_succ, ofBytesBE_append_singleton, ih _ (Nat.div_lt_of_lt_mul (by rwa [pow_succ'] at h)), BitVec.toNat_ofNat]
    omega

/-! ### The header (R211) -/

theorem boolNat_lt_two (b : Bool) : boolNat b < 2 := by cases b <;> decide

/-- A header that fits fills no more than 128 bits, and each of its fields is read at its bits. -/
theorem packHeader_fields {h : Header} (hf : h.fits = true) {n : Nat} (hn : packHeader h = n) :
    n < 2 ^ 128 ∧ n / 2 ^ 122 = h.opcode ∧ n / 2 ^ 116 % 2 ^ 6 = h.fc ∧ n / 2 ^ 115 % 2 = boolNat h.panic ∧ n / 2 ^ 103 % 2 ^ 12 = h.tag ∧
    n / 2 ^ 97 % 2 ^ 6 = h.src ∧ n / 2 ^ 91 % 2 ^ 6 = h.dst ∧ n / 2 ^ 90 % 2 = boolNat h.vn ∧ n / 2 ^ 89 % 2 = boolNat h.posted ∧
    n / 2 ^ 88 % 2 = boolNat h.fence ∧ n / 2 ^ 52 % 2 ^ 36 = h.addr ∧ n / 2 ^ 41 % 2 ^ 11 = h.len ∧ n / 2 ^ 30 % 2 ^ 11 = h.rlen ∧
    n / 2 ^ 24 % 2 ^ 6 = 0 ∧ n % 2 ^ 24 = h.aux := by
  simp only [Header.fits, Bool.and_eq_true, decide_eq_true_eq] at hf
  obtain ⟨⟨⟨⟨⟨⟨⟨⟨hop, hfc⟩, htag⟩, hsrc⟩, hdst⟩, haddr⟩, hlen⟩, hrlen⟩, haux⟩ := hf
  have hpanic := boolNat_lt_two h.panic
  have hvn := boolNat_lt_two h.vn
  have hposted := boolNat_lt_two h.posted
  have hfence := boolNat_lt_two h.fence
  simp only [packHeader] at hn
  generalize boolNat h.panic = bp at *
  generalize boolNat h.vn = bv at *
  generalize boolNat h.posted = bo at *
  generalize boolNat h.fence = bf at *
  and_intros <;> omega

theorem natBit_of_boolNat {n i : Nat} {b : Bool} (h : n / 2 ^ i % 2 = boolNat b) : natBit n i = b := by
  rw [natBit, h]
  cases b <;> rfl

theorem opcode_lt_of_fits {h : Header} (hf : h.fits = true) : h.opcode < 2 ^ 6 := by
  simp only [Header.fits, Bool.and_eq_true, decide_eq_true_eq] at hf
  omega

theorem unpackHeader_packHeader {h : Header} (hf : h.fits = true) : unpackHeader (packHeader h) = h := by
  generalize hn : packHeader h = n
  obtain ⟨-, hop, hfc, hpanic, htag, hsrc, hdst, hvn, hposted, hfence, haddr, hlen, hrlen, -, haux⟩ := packHeader_fields hf hn
  have hop' : n / 2 ^ 122 % 2 ^ 6 = h.opcode := by rw [hop, Nat.mod_eq_of_lt (opcode_lt_of_fits hf)]
  calc unpackHeader n
      = { opcode := n / 2 ^ 122 % 2 ^ 6, fc := n / 2 ^ 116 % 2 ^ 6, panic := natBit n 115, tag := n / 2 ^ 103 % 2 ^ 12,
          src := n / 2 ^ 97 % 2 ^ 6, dst := n / 2 ^ 91 % 2 ^ 6, vn := natBit n 90, posted := natBit n 89, fence := natBit n 88,
          addr := n / 2 ^ 52 % 2 ^ 36, len := n / 2 ^ 41 % 2 ^ 11, rlen := n / 2 ^ 30 % 2 ^ 11, aux := n % 2 ^ 24 } := rfl
    _ = h := by
      rw [hop', hfc, natBit_of_boolNat hpanic, htag, hsrc, hdst, natBit_of_boolNat hvn, natBit_of_boolNat hposted,
        natBit_of_boolNat hfence, haddr, hlen, hrlen, haux]

theorem ofBytesBE_headerBytes {h : Header} (hf : h.fits = true) : ofBytesBE (headerBytes h) = packHeader h :=
  ofBytesBE_bytesBE_of_lt 16 _ (packHeader_fields hf rfl).1

@[simp] theorem length_headerBytes (h : Header) : (headerBytes h).length = 16 := length_bytesBE 16 _

/-- Settles O52: the fields are read off the packed number, and 16 bytes hold it (R211). -/
theorem transactionHeadersAreLaidOut : Obligations.TransactionHeadersAreLaidOut := by
  unfold Obligations.TransactionHeadersAreLaidOut
  intro h hf n
  obtain ⟨hlt, hop, hfc, hpanic, htag, hsrc, hdst, hvn, hposted, hfence, hrest⟩ := packHeader_fields hf (n := n) rfl
  exact ⟨length_headerBytes h, ofBytesBE_headerBytes hf, unpackHeader_packHeader hf, hlt, hop, hfc, natBit_of_boolNat hpanic, htag, hsrc, hdst,
    natBit_of_boolNat hvn, natBit_of_boolNat hposted, natBit_of_boolNat hfence, hrest⟩

/-! ### Framing (R199, R213) -/

theorem length_padded (l : List Byte) : (l.take 16 ++ List.replicate (16 - (l.take 16).length) (0 : Byte)).length = 16 := by
  simp only [List.length_append, List.length_take, List.length_replicate]; omega

theorem length_chunk16 (n : Nat) (l : List Byte) : (chunk16 n l).length = n := by
  induction n generalizing l with
  | zero => rfl
  | succ n ih => simp only [chunk16, List.length_cons, ih]

theorem length_of_mem_chunk16 {n : Nat} {l b : List Byte} (h : b ∈ chunk16 n l) : b.length = 16 := by
  induction n generalizing l with
  | zero => cases h
  | succ n ih =>
    rcases List.mem_cons.1 h with rfl | h
    · exact length_padded l
    · exact ih h

/-- The slots of a payload, one behind the other, begin with the payload. -/
theorem take_flatten_chunk16 (n : Nat) (l : List Byte) (h : l.length ≤ 16 * n) : (chunk16 n l).flatten.take l.length = l := by
  induction n generalizing l with
  | zero => simp only [List.length_eq_zero_iff.1 (by omega : l.length = 0), List.length_nil, List.take_zero]
  | succ n ih =>
    have hdrop := ih (l.drop 16) (by rw [List.length_drop]; omega)
    simp only [chunk16, List.flatten_cons, List.append_assoc]
    by_cases hlen : l.length ≤ 16
    · rw [List.take_of_length_le hlen, List.take_left]
    · have htake : (l.take 16).length = 16 := by rw [List.length_take]; omega
      rw [htake, Nat.sub_self, List.replicate_zero, List.nil_append, List.take_append, htake, List.take_of_length_le (by omega),
        ← List.length_drop, hdrop, List.take_append_drop]

/-- The header that the first slot of some bytes spells. -/
theorem take_headerBytes_append (h : Header) (l : List Byte) : (headerBytes h ++ l).take 16 = headerBytes h := by
  rw [List.take_append_of_le_length (by simp), List.take_of_length_le (by simp)]

theorem txnWhole_headerBytes {h : Header} (hf : h.fits = true) (l : List Byte) :
    txnWhole (headerBytes h ++ l) = decide (16 * slotCount h.len ≤ 16 + l.length) := by
  rw [txnWhole, take_headerBytes_append, ofBytesBE_headerBytes hf, unpackHeader_packHeader hf, List.length_append, length_headerBytes]

theorem txnOf_headerBytes {h : Header} (hf : h.fits = true) (l : List Byte) : txnOf (headerBytes h ++ l) = ⟨h, l.take h.len⟩ := by
  rw [txnOf, take_headerBytes_append, ofBytesBE_headerBytes hf, unpackHeader_packHeader hf, List.drop_append_of_le_length (by simp),
    List.drop_of_length_le (by simp), List.nil_append]

/-- Bytes that begin with a header close the transaction where they fill all of its slots, else they stay open. -/
theorem closeTxn_headerBytes {h : Header} (hf : h.fits = true) (done : List Txn) (l : List Byte) (p : List Byte) :
    closeTxn ⟨p, done, false, true⟩ (headerBytes h ++ l) =
      if 16 * ((h.len + 15) / 16) ≤ l.length then ⟨[], done ++ [⟨h, l.take h.len⟩], false, true⟩
      else ⟨headerBytes h ++ l, done, false, true⟩ := by
  have hwhole := txnWhole_headerBytes hf l
  by_cases hc : 16 * ((h.len + 15) / 16) ≤ l.length
  · rw [if_pos hc, closeTxn, if_pos (hwhole.trans (decide_eq_true (by rw [slotCount]; omega))), txnOf_headerBytes hf]
  · rw [if_neg hc, closeTxn, if_neg (by rw [hwhole, decide_eq_true_eq, slotCount]; omega)]

theorem headerBytes_append_ne_nil (h : Header) (l : List Byte) : headerBytes h ++ l ≠ [] :=
  List.ne_nil_of_length_pos (by rw [List.length_append, length_headerBytes]; omega)

theorem frameSlot_open {h : Header} (hf : h.fits = true) (done : List Txn) (got slot : List Byte) :
    frameSlot ⟨headerBytes h ++ got, done, false, true⟩ false slot =
      if 16 * ((h.len + 15) / 16) ≤ (got ++ slot).length then ⟨[], done ++ [⟨h, (got ++ slot).take h.len⟩], false, true⟩
      else ⟨headerBytes h ++ (got ++ slot), done, false, true⟩ := by
  rw [← closeTxn_headerBytes hf done (got ++ slot) (headerBytes h ++ got), frameSlot, if_pos (headerBytes_append_ne_nil h got),
    if_neg Bool.false_ne_true, List.append_assoc]

/-- The slots that complete an open transaction close it with all of their bytes. -/
theorem frame_rest {h : Header} (hf : h.fits = true) (done : List Txn) (n : Nat) (d got : List Byte)
    (hslots : 16 * (n + 1) + got.length = 16 * ((h.len + 15) / 16)) :
    ((chunk16 (n + 1) d).map fun b => (false, b)).foldl (fun f x => frameSlot f x.1 x.2) ⟨headerBytes h ++ got, done, false, true⟩ =
      ⟨[], done ++ [⟨h, (got ++ (chunk16 (n + 1) d).flatten).take h.len⟩], false, true⟩ := by
  induction n generalizing got d with
  | zero =>
    have hlen := length_padded d
    rw [chunk16, chunk16, List.map_cons, List.foldl_cons, List.map_nil, List.foldl_nil, List.flatten_cons, List.flatten_nil, List.append_nil]
    generalize d.take 16 ++ _ = slot at hlen ⊢
    rw [frameSlot_open hf, if_pos (by rw [List.length_append, hlen]; omega)]
  | succ n ih =>
    have hlen := length_padded d
    rw [chunk16, List.map_cons, List.foldl_cons, List.flatten_cons]
    generalize d.take 16 ++ _ = slot at hlen ⊢
    rw [frameSlot_open hf, if_neg (by rw [List.length_append, hlen]; omega), ih _ _ (by rw [List.length_append, hlen]; omega),
      List.append_assoc]

theorem frameSlot_first (done : List Txn) (slot : List Byte) : frameSlot ⟨[], done, false, true⟩ true slot = closeTxn ⟨[], done, false, true⟩ slot := by
  rw [frameSlot, if_neg (by simp), if_pos rfl, if_neg Bool.false_ne_true]

/-- The slots of a transaction, framed one after the other, give it back. -/
theorem frame_txnSlots {h : Header} (hf : h.fits = true) {data : List Byte} (hdata : data.length = h.len) (done : List Txn) :
    (txnSlots ⟨h, data⟩).foldl (fun f x => frameSlot f x.1 x.2) ⟨[], done, false, true⟩ = ⟨[], done ++ [⟨h, data⟩], false, true⟩ := by
  rw [txnSlots, List.foldl_cons, frameSlot_first, ← List.append_nil (headerBytes h), closeTxn_headerBytes hf]
  cases hn : (h.len + 15) / 16 with
  | zero =>
    have hempty : data = [] := List.length_eq_zero_iff.1 (by omega)
    rw [if_pos (by omega), chunk16, List.map_nil, List.foldl_nil, List.take_nil, hempty]
  | succ n =>
    rw [if_neg (by rw [List.length_nil]; omega), frame_rest hf done n data [] (by rw [hn, List.length_nil, Nat.add_zero]), List.nil_append,
      ← hdata, take_flatten_chunk16 _ _ (by omega)]

/-- Settles O53: the header slot opens the transaction, or closes it where there is no payload, and the payload's slots complete it. -/
theorem framedTransactionsComeBackWhole : Obligations.FramedTransactionsComeBackWhole := by
  unfold Obligations.FramedTransactionsComeBackWhole
  rintro ⟨h, data⟩ done hok
  rw [txnOk, Bool.and_eq_true, beq_iff_eq] at hok
  obtain ⟨hf, hdata⟩ := hok
  refine ⟨frame_txnSlots hf hdata done, ?_, ?_⟩
  · rw [txnSlots, List.length_cons, List.length_map, length_chunk16, slotCount, Nat.add_comm]
  · intro x hx
    rcases List.mem_cons.1 hx with rfl | hx
    · exact length_headerBytes h
    · obtain ⟨b, hb, rfl⟩ := List.mem_map.1 hx
      exact length_of_mem_chunk16 hb

end Sys2Proof.Machine
end

section
/-!
PROOF. Records of the antifuse array (R507, R508): a record behind the words of a region is found first, and the parse goes on as before.
-/
set_option autoImplicit false
set_option Elab.async false

namespace Sys2Proof.Machine

/-! ### The CRC of a record -/

theorem reflect_succ (w v : Nat) : reflect (w + 1) v = 2 * (List.range w).foldl (fun a i => if natBit v i then a + 2 ^ (w - 1 - i) else a) 0 +
    if natBit v w then 1 else 0 := by
  have hdouble : ∀ (l : List Nat) (a : Nat), (∀ i ∈ l, i < w) → l.foldl (fun a i => if natBit v i then a + 2 ^ (w + 1 - 1 - i) else a) (2 * a) =
      2 * l.foldl (fun a i => if natBit v i then a + 2 ^ (w - 1 - i) else a) a := by
    intro l
    induction l with
    | nil => intro a _; rfl
    | cons i l ih =>
      intro a hl
      have hi : i < w := hl i List.mem_cons_self
      have hstep : (if natBit v i then 2 * a + 2 ^ (w + 1 - 1 - i) else 2 * a) = 2 * (if natBit v i then a + 2 ^ (w - 1 - i) else a) := by
        split
        · rw [Nat.mul_add, ← pow_succ', show w + 1 - 1 - i = w - 1 - i + 1 by omega]
        · rfl
      rw [List.foldl_cons, List.foldl_cons, hstep, ih _ fun j hj => hl j (List.mem_cons_of_mem i hj)]
  rw [reflect, List.range_succ, List.foldl_append, List.foldl_cons, List.foldl_nil, ← Nat.mul_zero 2,
    hdouble _ 0 fun i hi => List.mem_range.1 hi]
  split
  · rw [show w + 1 - 1 - w = 0 by omega, pow_zero, Nat.mul_zero]
  · rw [Nat.add_zero, Nat.mul_zero]

theorem reflect_lt (w v : Nat) : reflect w v < 2 ^ w := by
  induction w with
  | zero => exact Nat.one_pos
  | succ w ih =>
    have hlt : (List.range w).foldl (fun a i => if natBit v i then a + 2 ^ (w - 1 - i) else a) 0 < 2 ^ w := ih
    rw [reflect_succ, pow_succ]
    split <;> omega

theorem crc32c_lt (l : List Byte) : crc32c l < 2 ^ 32 := Nat.xor_lt_two_pow (reflect_lt 32 _) (by decide)

theorem ofNat_mod_byte (n : Nat) : BitVec.ofNat 8 (n % 256) = BitVec.ofNat 8 n := BitVec.eq_of_toNat_eq (by simp)

/-- The CRC sees the low eight bits of the pass. -/
theorem recordCrc_mod (r pass : Nat) (data : List Word) : recordCrc r (pass % 256) data = recordCrc r pass data := by
  rw [recordCrc, recordCrc, ofNat_mod_byte]

/-! ### The marker -/

theorem marker_fields {len : Nat} (hlen : len < 4096) (pass : Nat) :
    marker pass len ≠ 0 ∧ (marker pass len).bits 31 24 = 0xC5 ∧ (marker pass len).bits 23 16 = pass % 256 ∧ (marker pass len).bits 11 0 = len := by
  have hnat : (marker pass len).toNat = 0xC5 * 2 ^ 24 + pass % 256 * 2 ^ 16 + len := by
    rw [marker, BitVec.toNat_ofNat, Nat.mod_eq_of_lt hlen]; omega
  refine ⟨fun h => ?_, ?_, ?_, ?_⟩
  · have hzero : (marker pass len).toNat = 0 := by rw [h]; rfl
    omega
  all_goals rw [Word.bits, hnat]; omega

/-! ### The append point -/

theorem foldl_appendPoint_zeros (n blank k : Nat) :
    ((List.replicate blank (0 : Word)).zipIdx n).foldl (fun n p => if p.1 ≠ 0 then p.2 + 1 else n) k = k := by
  induction blank generalizing n with
  | zero => rfl
  | succ b ih => rw [List.replicate_succ, List.zipIdx_cons, List.foldl_cons, if_neg (by simp), ih]

/-- Behind a last word that is not blank, blank words do not move the append point. -/
theorem appendPoint_append (l : List Word) {w : Word} (hw : w ≠ 0) (blank : Nat) :
    appendPoint (l ++ [w] ++ List.replicate blank 0) = l.length + 1 := by
  rw [appendPoint, List.zipIdx_append, List.foldl_append, List.zipIdx_append, List.foldl_append, foldl_appendPoint_zeros]
  rw [List.zipIdx_singleton, List.foldl_cons, List.foldl_nil, if_pos hw, Nat.zero_add]

theorem parseBack_length (r : Nat) (words : List Word) (fuel n : Nat) (p : Parse) : (parseBack r words fuel n p).length = p.length := by
  induction fuel generalizing n p with
  | zero => rfl
  | succ fuel ih =>
    cases n with
    | zero => rfl
    | succ i =>
      rw [parseBack]
      split
      · exact ih _ _
      · rw [ih]; split <;> rfl

/-! ### The parse -/

/-- A record reads the words up to its marker alone. -/
theorem recordAt_append (r : Nat) (old rest : List Word) {i : Nat} (hi : i < old.length) : recordAt r (old ++ rest) i = recordAt r old i := by
  have hword {j : Nat} (hj : j ≤ i) : (old ++ rest).getD j 0 = old.getD j 0 := by
    rw [List.getD_append _ _ _ _ (by omega)]
  rw [recordAt, recordAt, hword (Nat.le_refl i)]
  dsimp only
  split
  case isFalse => rfl
  case isTrue hm =>
    obtain ⟨-, hlen, hfit⟩ := hm
    have hdata : ((old ++ rest).drop (i - 1 - (old.getD i 0).bits 11 0)).take ((old.getD i 0).bits 11 0) =
        (old.drop (i - 1 - (old.getD i 0).bits 11 0)).take ((old.getD i 0).bits 11 0) := by
      rw [List.drop_append_of_le_length (by omega), List.take_append_of_le_length (by rw [List.length_drop]; omega)]
    rw [hword (Nat.sub_le i 1), hdata]

/-- Where a record was found, the parse below finds the records it would have found, in front of it, and no torn tail. -/
theorem parseBack_behind (r : Nat) (old rest : List Word) (q : Nat × Nat) (qs : List (Nat × Nat)) (len len' : Nat) (fuel n : Nat)
    (recs : List (Nat × Nat)) (torn fuel' : Nat) (hn : n ≤ old.length) (hf : n ≤ fuel) (hf' : n ≤ fuel') :
    parseBack r (old ++ rest) fuel' n ⟨recs ++ q :: qs, 0, len'⟩ =
      ⟨(parseBack r old fuel n ⟨recs, torn, len⟩).records ++ q :: qs, 0, len'⟩ := by
  induction fuel generalizing fuel' n recs torn with
  | zero =>
    obtain rfl : n = 0 := by omega
    cases fuel' <;> rfl
  | succ fuel ih =>
    cases n with
    | zero => cases fuel' <;> rfl
    | succ i =>
      obtain ⟨fuel', rfl⟩ : ∃ k, fuel' = k + 1 := ⟨fuel' - 1, by omega⟩
      rw [parseBack, parseBack, recordAt_append r old rest (by omega)]
      cases hr : recordAt r old i with
      | some data => exact ih (i - 1 - data.length) ((i - 1 - data.length, data.length) :: recs) torn fuel' (by omega) (by omega) (by omega)
      | none =>
        have hne : (recs ++ q :: qs).isEmpty = false := by cases recs <;> rfl
        simp only [hne, Bool.false_and, Bool.false_eq_true, if_false]
        split
        · exact ih i recs _ fuel' (by omega) (by omega) (by omega)
        · exact ih i recs _ fuel' (by omega) (by omega) (by omega)

section
variable (r pass : Nat) (old : List Word) {data : List Word} (blank : Nat) (hpos : 1 ≤ data.length) (hlen : data.length ≤ 1534)
include hpos hlen

/-- The record just programmed checks at its marker. -/
theorem recordAt_recordWords : recordAt r (old ++ recordWords r pass data ++ List.replicate blank 0) (old.length + data.length + 1) = some data := by
  obtain ⟨-, hmark, hpass, hcount⟩ := marker_fields (by omega : data.length < 4096) pass
  generalize hws : old ++ recordWords r pass data ++ List.replicate blank 0 = words
  have hmarker : words.getD (old.length + data.length + 1) 0 = marker pass data.length := by
    rw [← hws, recordWords, List.append_assoc, List.append_assoc, List.getD_append_right _ _ _ _ (by omega),
      List.getD_append_right _ _ _ _ (by omega), show old.length + data.length + 1 - old.length - data.length = 1 by omega]
    rfl
  have hcrc : words.getD (old.length + data.length) 0 = BitVec.ofNat 32 (recordCrc r pass data) := by
    rw [← hws, recordWords, List.append_assoc, List.append_assoc, List.getD_append_right _ _ _ _ (by omega),
      List.getD_append_right _ _ _ _ (by omega), show old.length + data.length - old.length - data.length = 0 by omega]
    rfl
  have hdata : (words.drop old.length).take data.length = data := by
    rw [← hws, recordWords, List.append_assoc, List.append_assoc, List.drop_left, List.take_left]
  rw [recordAt, hmarker]
  simp only [hmark, hpass, hcount]
  rw [if_pos ⟨trivial, hpos, by omega⟩, Nat.add_sub_cancel, Nat.add_sub_cancel, hdata, hcrc, recordCrc_mod, BitVec.toNat_ofNat,
    Nat.mod_eq_of_lt (show recordCrc r pass data < 2 ^ 32 from crc32c_lt _), if_pos rfl]

theorem appendPoint_recordWords : appendPoint (old ++ recordWords r pass data ++ List.replicate blank 0) = old.length + data.length + 2 := by
  have happ : old ++ recordWords r pass data = (old ++ data ++ [BitVec.ofNat 32 (recordCrc r pass data)]) ++ [marker pass data.length] := by
    simp only [recordWords, List.append_assoc, List.cons_append, List.nil_append]
  rw [happ, appendPoint_append _ (marker_fields (by omega) pass).1]
  simp only [List.length_append, List.length_singleton]

end

/-- Settles O55: the marker of the new record stands last; behind it the parse goes down the old words as it did before. -/
theorem appendedRecordsParseBack : Obligations.AppendedRecordsParseBack := by
  unfold Obligations.AppendedRecordsParseBack
  intro r pass old data blank _ hlength hpos hlen
  have hpoint : appendPoint old = old.length := by rw [← hlength, parseWords, parseBack_length]
  have hbelow := parseBack_behind r old (recordWords r pass data ++ List.replicate blank 0) (old.length, data.length) [] old.length
    (old.length + data.length + 2) old.length old.length [] 0 (old.length + data.length + 1) (Nat.le_refl _) (Nat.le_refl _) (by omega)
  rw [← List.append_assoc] at hbelow
  rw [parseWords, appendPoint_recordWords r pass old blank hpos hlen, parseBack, recordAt_recordWords r pass old blank hpos hlen]
  dsimp only
  rw [show old.length + data.length + 1 - 1 - data.length = old.length by omega]
  refine hbelow.trans ?_
  rw [parseWords, hpoint]

end Sys2Proof.Machine
end

section
/-!
PROOF. Canonical tables: what reads alike is the same list.
-/
set_option autoImplicit false

namespace Sys2Proof.Machine.KMap
variable {α : Type}

theorem find_eq_none_of_lt {m : KMap α} {k : Nat} (h : ∀ q ∈ m, k < q.1) : m.find k = none := by
  induction m with
  | nil => rfl
  | cons p t ih =>
    have hp : p.1 ≠ k := Nat.ne_of_gt (h p List.mem_cons_self)
    rw [find, if_neg hp, ih fun q hq => h q (List.mem_cons_of_mem p hq)]

/-- Two sorted tables that list the same values are the same. -/
theorem eq_of_find_eq {m n : KMap α} (hm : sorted m = true) (hn : sorted n = true) (h : ∀ k, m.find k = n.find k) : m = n := by
  induction m generalizing n with
  | nil =>
    cases n with
    | nil => rfl
    | cons q u => simpa [find] using h q.1
  | cons p t ih =>
    cases n with
    | nil => simpa [find] using h p.1
    | cons q u =>
      have ht := lt_of_sorted p t hm
      have hu := lt_of_sorted q u hn
      have hkey : p.1 = q.1 := by
        rcases Nat.lt_trichotomy p.1 q.1 with hlt | heq | hlt
        · have hnone : find (q :: u) p.1 = none := find_eq_none_of_lt fun x hx => (List.mem_cons.1 hx).elim (· ▸ hlt) fun hx => hlt.trans (hu x hx)
          have hp := h p.1
          rw [hnone, find, if_pos rfl] at hp
          cases hp
        · exact heq
        · have hnone : find (p :: t) q.1 = none := find_eq_none_of_lt fun x hx => (List.mem_cons.1 hx).elim (· ▸ hlt) fun hx => hlt.trans (ht x hx)
          have hq := h q.1
          rw [hnone, find, if_pos rfl] at hq
          cases hq
      have hval : p.2 = q.2 := by
        have hp := h p.1
        rwa [find, if_pos rfl, find, if_pos hkey.symm, Option.some.injEq] at hp
      have hrest : t = u := ih (sorted_tail p t hm) (sorted_tail q u hn) fun k => by
        by_cases hk : p.1 = k
        · rw [find_eq_none_of_lt (hk ▸ ht), find_eq_none_of_lt (hk ▸ hkey ▸ hu)]
        · have hcons := h k
          rwa [find, if_neg hk, find, if_neg (hkey ▸ hk)] at hcons
      rw [Prod.ext hkey hval, hrest]

/-- An entry of a canonical table differs from the default. -/
theorem ne_default_of_find [DecidableEq α] {d : Nat → α} {m : KMap α} (h : wf d m = true) {k : Nat} {v : α} (hk : m.find k = some v) : v ≠ d k := by
  rw [wf, Bool.and_eq_true, List.all_eq_true] at h
  have hmem : ∀ t : KMap α, t.find k = some v → (k, v) ∈ t := by
    intro t ht
    induction t with
    | nil => cases ht
    | cons p t ih =>
      rw [find] at ht
      split at ht
      case isTrue he => cases ht; rw [← he]; exact List.mem_cons_self
      case isFalse => exact List.mem_cons_of_mem p (ih ht)
  exact of_decide_eq_true (h.2 _ (hmem m hk))

/-- In a canonical table the readings tell what is listed. -/
theorem find_eq_of_get [DecidableEq α] {d : Nat → α} {m : KMap α} (h : wf d m = true) (k : Nat) :
    m.find k = if get d m k = d k then none else some (get d m k) := by
  unfold get
  cases hk : m.find k with
  | none => rw [if_pos rfl]
  | some v => rw [if_neg (ne_default_of_find h hk)]

theorem sorted_of_wf [DecidableEq α] {d : Nat → α} {m : KMap α} (h : wf d m = true) : sorted m = true := by
  rw [wf, Bool.and_eq_true] at h
  exact h.1

end Sys2Proof.Machine.KMap

namespace Sys2Proof.Machine

/-- Settles O51: the readings of a canonical table tell its listed values, which tell the table. -/
theorem canonicalTablesThatReadAlikeAreEqual : Obligations.CanonicalTablesThatReadAlikeAreEqual := by
  unfold Obligations.CanonicalTablesThatReadAlikeAreEqual
  intro d m n hm
  refine ⟨fun hn hget => ?_, fun k v => ⟨KMap.wf_put d m k v hm, KMap.get_put_same d m k v, fun j hj => KMap.get_put_ne d m k j v hj⟩⟩
  refine KMap.eq_of_find_eq (KMap.sorted_of_wf hm) (KMap.sorted_of_wf hn) fun k => ?_
  rw [KMap.find_eq_of_get hm, KMap.find_eq_of_get hn, hget]

end Sys2Proof.Machine
end

section
/-!
PROOF. The header of a towpath frame (R167).
-/
set_option autoImplicit false

namespace Sys2Proof.Machine

theorem crc8_lt (bits : List Bool) : crc8 bits < 2 ^ 8 := crcBits_lt 8 _ _ _ (by decide) (by decide)

theorem toNat_frameHeader {length seq tag : Nat} (hlength : length ≤ 64) (hseq : seq < 16) (htag : tag < 4096) :
    ∃ top, top = length * 2 ^ 17 + seq * 2 ^ 13 + tag * 2 ∧ (frameHeader length seq tag).toNat = top * 256 + crc8 (numBits 24 top) := by
  refine ⟨_, rfl, ?_⟩
  rw [frameHeader, Nat.mod_eq_of_lt (by omega : length < 128), Nat.mod_eq_of_lt hseq, Nat.mod_eq_of_lt htag]
  have hcrc := crc8_lt (numBits 24 (length * 2 ^ 17 + seq * 2 ^ 13 + tag * 2))
  rw [BitVec.toNat_ofNat]
  omega

/-- The fields of the header that the device builds lie at their bits, above its check. -/
theorem frameHeader_bits {length seq tag : Nat} (hlength : length ≤ 64) (hseq : seq < 16) (htag : tag < 4096) {w : Word}
    (hw : w = frameHeader length seq tag) : w.bits 31 25 = length ∧ w.bits 24 21 = seq ∧ w.bits 20 9 = tag ∧ w.bits 8 8 = 0 ∧
      w.bits 7 0 = crc8 (numBits 24 (w.bits 31 8)) := by
  obtain ⟨top, htop, hnat⟩ := toNat_frameHeader hlength hseq htag
  have hcrc := crc8_lt (numBits 24 top)
  rw [← hw] at hnat
  have hbits : w.bits 31 8 = top := by rw [Word.bits, hnat]; omega
  rw [hbits]
  generalize crc8 (numBits 24 top) = c at *
  simp only [Word.bits, hnat]
  and_intros <;> omega

/-- Settles O54: the fields are read off the word that the header is, and the check asks for the rest. -/
theorem towpathHeadersCheckAndReadBack : Obligations.TowpathHeadersCheckAndReadBack := by
  unfold Obligations.TowpathHeadersCheckAndReadBack
  refine ⟨?_, fun w hok => ?_⟩
  · intro length seq tag hpos hlength hseq htag w
    obtain ⟨hl, hs, ht, hzero, hcheck⟩ := frameHeader_bits hlength hseq htag (w := w) rfl
    refine ⟨?_, hl, hs, ht⟩
    rw [headerOk, hl, hzero, hcheck, beq_self_eq_true, beq_self_eq_true, decide_eq_true ⟨hpos, hlength⟩]
    rfl
  · rw [headerOk, Bool.and_eq_true, Bool.and_eq_true, beq_iff_eq, decide_eq_true_eq] at hok
    obtain ⟨⟨hcheck, hpos, hlength⟩, -⟩ := hok
    exact ⟨hpos, hlength, hcheck.symm⟩

end Sys2Proof.Machine
end

section
/-!
PROOF. One step: the front command runs, every command is taken, and the state at power-on.
-/
set_option autoImplicit false

namespace Sys2Proof.Machine

/-- Settles O46: a step is the command at the front on the rest of the queue. -/
theorem stepRunsTheFrontCommand : Obligations.StepRunsTheFrontCommand := by
  unfold Obligations.StepRunsTheFrontCommand
  exact fun _ _ _ => ⟨rfl, rfl⟩

/-- Settles O45: the meaning of each command is a next state. -/
theorem everyCommandIsTaken : Obligations.EveryCommandIsTaken := by
  unfold Obligations.EveryCommandIsTaken
  intro c s
  cases c <;> exact ⟨_, rfl⟩

/-- Settles O50: at power-on every table is empty, and the registers read as their reset values. -/
theorem resetStateIsCanonical : Obligations.ResetStateIsCanonical := by
  unfold Obligations.ResetStateIsCanonical
  refine ⟨⟨?_, ?_, ?_, ?_, ?_, ?_, ?_, ?_, ?_⟩, rfl, rfl, rfl, by decide, rfl⟩
  all_goals rfl

end Sys2Proof.Machine
end

section
/-!
PROOF. What every command keeps: the waiting commands and the count of crossings stand, the antifuse array only grows, and tables in canonical
form stay so.  One lemma for each operation of the model, in the order of the model; each follows the operations its definition is written with.
-/
set_option autoImplicit false
set_option linter.unusedVariables false
-- Hundreds of short proofs in a row are checked one after another: as tasks of their own they would wait for each other on too many threads.
set_option Elab.async false

namespace Sys2Proof.Machine
open Reg Bit

/-! ### The antifuse array -/

/-- A bit that was set stays set. -/
theorem natBit_natSetBit {n i j : Nat} (h : natBit n j = true) : natBit (natSetBit n i) j = true := by
  unfold natSetBit
  split
  case isTrue => exact h
  case isFalse hi =>
    rw [natBit, beq_iff_eq] at h hi ⊢
    rcases Nat.lt_trichotomy j i with hlt | rfl | hgt
    · obtain ⟨k, rfl⟩ := Nat.exists_eq_add_of_lt hlt
      rw [show 2 ^ (j + k + 1) = 2 ^ j * (2 ^ k * 2) by ring, Nat.add_mul_div_left _ _ (Nat.two_pow_pos j), Nat.add_mul_mod_self_right, h]
    · exact absurd h hi
    · obtain ⟨k, rfl⟩ := Nat.exists_eq_add_of_lt hgt
      have hnocarry : (n / 2 ^ i + 1) / 2 = n / 2 ^ i / 2 := by omega
      rw [show 2 ^ (i + k + 1) = 2 ^ i * 2 * 2 ^ k by ring, ← Nat.div_div_eq_div_mul, ← Nat.div_div_eq_div_mul] at h ⊢
      rw [Nat.add_div_right _ (Nat.two_pow_pos i), hnocarry, h]

theorem OtpGrows.refl (a : OtpSt) : OtpGrows a a := ⟨fun _ h => h, fun _ h => h, Nat.le_refl _⟩

theorem OtpGrows.trans {a b c : OtpSt} (h : OtpGrows a b) (h' : OtpGrows b c) : OtpGrows a c :=
  ⟨fun r hr => h'.seals r (h.seals r hr), fun k hk => h'.spent k (h.spent k hk), h.passes.trans h'.passes⟩

theorem OtpGrows.of_eq {a b : OtpSt} (h : b.seals = a.seals ∧ b.spent = a.spent ∧ b.passes = a.passes) : OtpGrows a b := by
  obtain ⟨hseals, hspent, hpasses⟩ := h
  exact ⟨fun r hr => hseals ▸ hr, fun k hk => hspent ▸ hk, hpasses ▸ Nat.le_refl _⟩

/-! ### Canonical tables -/

namespace KMap
variable {α β : Type}

theorem sorted_of_sublist {m n : KMap α} (h : m.Sublist n) (hn : sorted n = true) : sorted m = true := by
  induction h with
  | slnil => rfl
  | cons p _ ih => exact ih (sorted_tail p _ hn)
  | cons_cons p hsub ih => exact sorted_of_lt p _ (fun q hq => lt_of_sorted p _ hn q (hsub.subset hq)) (ih (sorted_tail p _ hn))

/-- Entries taken out of a canonical table leave it canonical. -/
theorem wf_filter [DecidableEq α] {d : Nat → α} {m : KMap α} (keep : Nat × α → Bool) (h : wf d m = true) : wf d (m.filter keep) = true := by
  rw [wf, Bool.and_eq_true, List.all_eq_true] at h ⊢
  exact ⟨sorted_of_sublist List.filter_sublist h.1, fun q hq => h.2 q (List.mem_of_mem_filter hq)⟩

/-- Entries of a canonical table changed, under their keys, to values that are not the default. -/
theorem wf_filterMap [DecidableEq α] [DecidableEq β] {d : Nat → α} {e : Nat → β} {m : KMap α} {f : Nat × α → Option (Nat × β)}
    (hf : ∀ p q, f p = some q → q.1 = p.1 ∧ q.2 ≠ e q.1) (h : wf d m = true) : wf e (m.filterMap f) = true := by
  have hsorted := sorted_of_wf h
  clear h
  induction m with
  | nil => rfl
  | cons p t ih =>
    have ht := ih (sorted_tail p t hsorted)
    cases hp : f p with
    | none => rwa [List.filterMap_cons_none hp]
    | some q =>
      obtain ⟨hkey, hval⟩ := hf p q hp
      rw [List.filterMap_cons_some hp]
      rw [wf, Bool.and_eq_true, List.all_eq_true] at ht ⊢
      refine ⟨sorted_of_lt q _ (fun r hr => ?_) ht.1, fun r hr => ?_⟩
      · obtain ⟨x, hx, hfx⟩ := List.mem_filterMap.1 hr
        rw [hkey, (hf x r hfx).1]
        exact lt_of_sorted p t hsorted x hx
      · rcases List.mem_cons.1 hr with rfl | hr
        · exact decide_eq_true hval
        · exact ht.2 r hr

end KMap

/-! ### The relation -/

/-- The waiting commands and the count of crossings stand, the antifuse array grows, and canonical tables stay canonical. -/
structure Steady (s t : State) : Prop where
  pending : t.pending = s.pending
  ticks : t.ticks = s.ticks
  otp : OtpGrows s.otp t.otp
  canonical : Canonical s → Canonical t

namespace Steady
variable {s0 s t : State}

theorem refl (s : State) : Steady s s := ⟨rfl, rfl, .refl _, id⟩

theorem trans {u : State} (h : Steady s t) (h' : Steady t u) : Steady s u :=
  ⟨h'.pending.trans h.pending, h'.ticks.trans h.ticks, h.otp.trans h'.otp, fun hc => h'.canonical (h.canonical hc)⟩

/-- A change of parts of the state that the relation does not speak of. -/
theorem update (h : Steady s0 s) {free out staged shadows pairs clears late commit pins always start modes events snap asks granted chargeDue
    nextUid svc landing dram tt ledger therm otp purser test} (hmem : dram.mem = s.dram.mem := by rfl)
    (hotp : otp.seals = s.otp.seals ∧ otp.spent = s.otp.spent ∧ otp.passes = s.otp.passes := by exact ⟨rfl, rfl, rfl⟩) :
    Steady s0 ⟨s.pending, free, out, s.ticks, s.regs, staged, shadows, pairs, clears, late, commit, pins, always, start, modes, events, snap,
      s.lanes, asks, granted, chargeDue, s.ports, s.tows, s.links, s.fab, nextUid, svc, landing, s.hcs, dram, tt, ledger, therm, s.activity, otp,
      purser, test⟩ :=
  h.trans ⟨rfl, rfl, .of_eq hotp, fun hc => ⟨hc.regs, hmem ▸ hc.mem, hc.lanes, hc.ports, hc.tows, hc.links, hc.fab, hc.hcs, hc.activity⟩⟩

/-- A change of the array that lets it grow. -/
theorem growOtp (h : Steady s0 s) {o : OtpSt} (ho : OtpGrows s.otp o) : Steady s0 { s with otp := o } :=
  h.trans ⟨rfl, rfl, ho, fun hc => ⟨hc.regs, hc.mem, hc.lanes, hc.ports, hc.tows, hc.links, hc.fab, hc.hcs, hc.activity⟩⟩

theorem setRegs (h : Steady s0 s) {m : KMap Word} (hm : KMap.wf resetAt s.regs = true → KMap.wf resetAt m = true) :
    Steady s0 { s with regs := m } :=
  h.trans ⟨rfl, rfl, .refl _, fun hc => ⟨hm hc.regs, hc.mem, hc.lanes, hc.ports, hc.tows, hc.links, hc.fab, hc.hcs, hc.activity⟩⟩

theorem setDram (h : Steady s0 s) {d : DramSt} (hm : Dram.wf s.dram.mem = true → Dram.wf d.mem = true) : Steady s0 { s with dram := d } :=
  h.trans ⟨rfl, rfl, .refl _, fun hc => ⟨hc.regs, hm hc.mem, hc.lanes, hc.ports, hc.tows, hc.links, hc.fab, hc.hcs, hc.activity⟩⟩

theorem setActivity (h : Steady s0 s) {m : KMap Nat}
    (hm : KMap.wf (fun _ => 0) s.activity = true → KMap.wf (fun _ => 0) m = true) : Steady s0 { s with activity := m } :=
  h.trans ⟨rfl, rfl, .refl _, fun hc => ⟨hc.regs, hc.mem, hc.lanes, hc.ports, hc.tows, hc.links, hc.fab, hc.hcs, hm hc.activity⟩⟩

theorem ite {c : Prop} {_ : Decidable c} {a b : State} (ha : Steady s a) (hb : Steady s b) : Steady s (if c then a else b) := by
  split
  · exact ha
  · exact hb

theorem itePair {α : Type} {c : Prop} {_ : Decidable c} {a b : α × State} (ha : Steady s a.2) (hb : Steady s b.2) :
    Steady s (if c then a else b).2 := by
  split
  · exact ha
  · exact hb

theorem pair {α : Type} {a : α} (h : Steady s t) : Steady s (a, t).2 := h

theorem of_snd {α : Type} {r : α × State} {a : α} (h : Steady s r.2) (e : r = (a, t)) : Steady s t := by
  rw [e] at h
  exact h

theorem foldl {α : Type} {f : State → α → State} {l : List α} (h : Steady s0 s) (hf : ∀ t a, Steady s0 t → Steady s0 (f t a)) :
    Steady s0 (l.foldl f s) := by
  induction l generalizing s with
  | nil => exact h
  | cons a l ih => exact ih (hf s a h)

theorem foldlPair {α β : Type} {f : β × State → α → β × State} {l : List α} {r : β × State} (h : Steady s0 r.2)
    (hf : ∀ r a, Steady s0 r.2 → Steady s0 (f r a).2) : Steady s0 (l.foldl f r).2 := by
  induction l generalizing r with
  | nil => exact h
  | cons a l ih => exact ih (hf r a h)

end Steady

/-- Where there is a next state, it keeps what the relation says. -/
def SteadyIfSome (s : State) (o : Option State) : Prop := ∀ t, o = some t → Steady s t

namespace SteadyIfSome
variable {s t : State}

theorem none : SteadyIfSome s none := fun _ h => nomatch h

theorem some (h : Steady s t) : SteadyIfSome s (some t) := fun _ e => Option.some.inj e ▸ h

theorem ite {c : Prop} {_ : Decidable c} {a b : Option State} (ha : SteadyIfSome s a) (hb : SteadyIfSome s b) :
    SteadyIfSome s (if c then a else b) := by
  split
  · exact ha
  · exact hb

end SteadyIfSome

/-! ### Ops -/

theorem Steady.forEach {s0 s} {α : Type} {l : List α} {f : α → State → State} (h : Steady s0 s) (hf : ∀ a t, Steady s0 t → Steady s0 (f a t)) :
    Steady s0 (forEach l f s) := h.foldl fun t a ih => hf a t ih
theorem Steady.when {s0 s} {c : Bool} {f : State → State} (h : Steady s0 s) (hf : ∀ t, Steady s0 t → Steady s0 (f t)) : Steady s0 (when c f s) :=
  .ite (hf s h) h
theorem Steady.setReg {s0 s} (h : Steady s0 s) {a v} : Steady s0 (State.setReg s a v) := h.setRegs (KMap.wf_put _ _ _ _)
theorem Steady.put {s0 s} (h : Steady s0 s) {f v} : Steady s0 (State.put s f v) := h.setReg
theorem Steady.putFlag {s0 s} (h : Steady s0 s) {f b} : Steady s0 (State.putFlag s f b) := h.put
theorem Steady.resetReg {s0 s} (h : Steady s0 s) {a} : Steady s0 (State.resetReg s a) := h.setReg
theorem Steady.drew {s0 s} (h : Steady s0 s) : Steady s0 (State.drew s) := h.update
theorem Steady.drewMany {s0 s} (h : Steady s0 s) {n} : Steady s0 (State.drewMany s n) := h.update
theorem Steady.setCross {s0 s} (h : Steady s0 s) {n} : Steady s0 (State.setCross s n) := h.setReg.setReg
theorem Steady.raiseEvent {s0 s} (h : Steady s0 s) {e info} : Steady s0 (State.raiseEvent s e info) := h.update
theorem Steady.causeWith {s0 s} (h : Steady s0 s) {c info} : Steady s0 (State.causeWith s c info) := .ite h.put h.put.update
theorem Steady.cause {s0 s} (h : Steady s0 s) {c} : Steady s0 (State.cause s c) := h.causeWith
theorem Steady.addSat {s0 s} (h : Steady s0 s) {a n} : Steady s0 (State.addSat s a n) := h.setReg
theorem Steady.add48 {s0 s} (h : Steady s0 s) {lo n} : Steady s0 (State.add48 s lo n) := h.setReg.setReg
theorem Steady.addField {s0 s} (h : Steady s0 s) {f n} : Steady s0 (State.addField s f n) := h.put
theorem Steady.acted {s0 s} (h : Steady s0 s) {kind n} : Steady s0 (State.acted s kind n) := h.setActivity (KMap.wf_put _ _ _ _)
theorem Steady.setLane {s0 s} (h : Steady s0 s) {l v} : Steady s0 (State.setLane s l v) :=
  h.trans ⟨rfl, rfl, .refl _, fun hc => { hc with lanes := KMap.wf_put _ _ _ _ hc.lanes }⟩
theorem Steady.setPort {s0 s} (h : Steady s0 s) {p v} : Steady s0 (State.setPort s p v) :=
  h.trans ⟨rfl, rfl, .refl _, fun hc => { hc with ports := KMap.wf_put _ _ _ _ hc.ports }⟩
theorem Steady.setTow {s0 s} (h : Steady s0 s) {p v} : Steady s0 (State.setTow s p v) :=
  h.trans ⟨rfl, rfl, .refl _, fun hc => { hc with tows := KMap.wf_put _ _ _ _ hc.tows }⟩
theorem Steady.setLink {s0 s} (h : Steady s0 s) {p v} : Steady s0 (State.setLink s p v) :=
  h.trans ⟨rfl, rfl, .refl _, fun hc => { hc with links := KMap.wf_put _ _ _ _ hc.links }⟩
theorem Steady.setFab {s0 s} (h : Steady s0 s) {p v} : Steady s0 (State.setFab s p v) :=
  h.trans ⟨rfl, rfl, .refl _, fun hc => { hc with fab := KMap.wf_put _ _ _ _ hc.fab }⟩
theorem Steady.modFab {s0 s} (h : Steady s0 s) {p f} : Steady s0 (State.modFab s p f) := h.setFab
theorem Steady.modLane {s0 s} (h : Steady s0 s) {l f} : Steady s0 (State.modLane s l f) := h.setLane
theorem Steady.modPort {s0 s} (h : Steady s0 s) {p f} : Steady s0 (State.modPort s p f) := h.setPort
theorem Steady.modTow {s0 s} (h : Steady s0 s) {p f} : Steady s0 (State.modTow s p f) := h.setTow
theorem Steady.modLink {s0 s} (h : Steady s0 s) {p f} : Steady s0 (State.modLink s p f) := h.setLink

/-! ### Commit -/

theorem Steady.disarm {s0 s} (h : Steady s0 s) : Steady s0 (disarm s) := h.update.put
theorem Steady.commitAbort {s0 s} (h : Steady s0 s) {cause first} : Steady s0 (commitAbort cause first s) := h.put.put.addField.raiseEvent
theorem Steady.commitWithdraw {s0 s} (h : Steady s0 s) {cause first} : Steady s0 (commitWithdraw cause first s) := .ite h.disarm.commitAbort h
theorem Steady.dropShadows {s0 s} (h : Steady s0 s) : Steady s0 (dropShadows s) := h.update
theorem Steady.commitReset {s0 s} (h : Steady s0 s) : Steady s0 (commitReset s) := h.disarm.dropShadows
theorem Steady.commitArm {s0 s} (h : Steady s0 s) : Steady s0 (commitArm s) :=
  .ite h (.ite h.commitAbort (.ite h.update.put (.ite h.commitAbort h.commitAbort.put)))
theorem Steady.commitCancel {s0 s} (h : Steady s0 s) : Steady s0 (commitCancel s) := .ite h.disarm.put.put h
theorem Steady.commitDiscard {s0 s} (h : Steady s0 s) : Steady s0 (commitDiscard s) := .ite h h.dropShadows
theorem Steady.stageWord {s0 s} (h : Steady s0 s) {a v} : Steady s0 (stageWord a v s) := h.update.commitWithdraw

/-! ### Responses -/

theorem Steady.nodeConflict {s0 s} (h : Steady s0 s) {p node valid} : Steady s0 (nodeConflict p node valid s) := .ite h h.modFab.cause
theorem Steady.freeEntry {s0 s} (h : Steady s0 s) {p uid} : Steady s0 (freeEntry p uid s) := h.modLink
theorem Steady.modEntry {s0 s} (h : Steady s0 s) {p uid f} : Steady s0 (modEntry p uid f s) := h.modLink
theorem Steady.wseqClose {s0 s} (h : Steady s0 s) {w} : Steady s0 (wseqClose w s) := h.modLink
theorem Steady.wseqHold {s0 s} (h : Steady s0 s) {w} : Steady s0 (wseqHold w s) := h.modLink
theorem Steady.completed {s0 s} (h : Steady s0 s) {p e} : Steady s0 (completed p e s) := h.modEntry
theorem Steady.discardResponse {s0 s} (h : Steady s0 s) {p} : Steady s0 (discardResponse p s) := h.addSat.cause
theorem Steady.freeOutgoing {s0 s} (h : Steady s0 s) {o} : Steady s0 (freeOutgoing o s) := by
  unfold Machine.freeOutgoing
  split
  · exact h
  · exact h.freeEntry
theorem Steady.joinResponses {s0 s} (h : Steady s0 s) {q o} : Steady s0 (joinResponses q o s) := .ite h h.modLink
theorem Steady.routeResponse {s0 s} (h : Steady s0 s) {t} : Steady s0 (routeResponse t s) := by
  unfold Machine.routeResponse
  split
  · exact h.addSat.cause
  · exact .ite h.addSat.cause h.joinResponses
theorem Steady.queueResponse {s0 s} (h : Steady s0 s) {p o} : Steady s0 (queueResponse p o s) :=
  .ite
    h.joinResponses
    (.ite
      h.freeOutgoing
      (by
        split
        · exact h.joinResponses
        · exact .ite h.freeOutgoing.discardResponse h.routeResponse))
theorem Steady.answerNak {s0 s} (h : Steady s0 s) {p e code status} : Steady s0 (answerNak p e code status s) := by
  unfold Machine.answerNak
  extract_lets s1
  have h1 : Steady s0 s1 := by
    dsimp only [s1]
    split
    · exact h.wseqClose
    · exact h
  exact .ite h1.freeEntry h1.modEntry.queueResponse
theorem Steady.answer {s0 s} (h : Steady s0 s) {p e status result data} : Steady s0 (answer p e status result data s) :=
  .ite
    h.completed.freeEntry
    (.ite (.ite h.completed.freeEntry h.completed.queueResponse) h.completed.queueResponse)
theorem Steady.pushNotice {s0 s} (h : Steady s0 s) {p opcode data} : Steady s0 (pushNotice p opcode data s) := .ite h (.ite h.addSat.cause h.modLink)
theorem Steady.placeTxn {s0 s} (h : Steady s0 s) {p t} : Steady s0 (placeTxn p t s) := h.modLink
theorem Steady.countNak {s0 s} (h : Steady s0 s) {p t} : Steady s0 (countNak p t s) :=
  have hb := h.addSat.put.put.put.put;
  .ite hb.cause.cause (.ite hb.cause.cause (.ite hb.cause.cause hb.cause))
theorem Steady.recordSent {s0 s} (h : Steady s0 s) {p o} : Steady s0 (recordSent p o s) := by
  unfold Machine.recordSent
  split
  · exact h.modEntry
  · exact h
theorem Steady.sendResponse {s0 s} (h : Steady s0 s) {p o} : Steady s0 (sendResponse p o s) :=
  have hb := h.modLink.placeTxn.freeOutgoing;
  .ite hb.add48 (.ite hb.countNak (.ite hb.addSat hb))
theorem Steady.sendForward {s0 s} (h : Steady s0 s) {p o} : Steady s0 (sendForward p o s) :=
  have hb := h.modLink.placeTxn;
  (Steady.ite hb.freeOutgoing hb.recordSent).add48
theorem Steady.sendNotice {s0 s} (h : Steady s0 s) {p n} : Steady s0 (sendNotice p n s) := h.modLink.placeTxn
theorem Steady.transactionSend {s0 s} (h : Steady s0 s) {p} : Steady s0 (Machine.transactionSend p s) := by
  unfold Machine.transactionSend
  refine .ite h ?_
  dsimp only
  split
  · exact h.sendNotice
  · split
    · exact h.sendResponse
    · split
      · exact h.sendForward
      · split
        · exact h.sendNotice
        · exact h
theorem Steady.linkInit {s0 s} (h : Steady s0 s) {p} : Steady s0 (linkInit p s) := h.modLink
theorem Steady.linkFall {s0 s} (h : Steady s0 s) {p} : Steady s0 (linkFall p s) :=
  (h.modLink.forEach (fun _ _ ihg => ihg.queueResponse)).forEach (fun _ _ ihj => .ite ihj.modLink ihj)
theorem Steady.dropOwn {s0 s} (h : Steady s0 s) {p} : Steady s0 (dropOwn p s) :=
  h.forEach (fun _ _ ihb => .ite ihb (ihb.modLink.forEach (fun _ _ ihc => ihc.freeOutgoing)))
theorem Steady.linkPortReset {s0 s} (h : Steady s0 s) {p} : Steady s0 (linkPortReset p s) := by
  unfold Machine.linkPortReset
  exact ((Steady.ite h.setReg.setReg h).forEach (fun _ _ ihe => by
    split
    · exact ihe.freeEntry
    · exact ihe)).dropOwn.modLink
theorem Steady.linkBoundary {s0 s} (h : Steady s0 s) {p} : Steady s0 (linkBoundary p s) := by
  unfold Machine.linkBoundary
  exact h.modLink

/-! ### Lanes -/

theorem Steady.recharge {s0 s} (h : Steady s0 s) {p} : Steady s0 (recharge p s) := h.forEach (fun _ _ ihb => ihb.put.put.put)
theorem Steady.reledger {s0 s} (h : Steady s0 s) : Steady s0 (reledger s) := h.put
theorem Steady.ledgerGrant {s0 s} (h : Steady s0 s) {p gen reach} : Steady s0 (ledgerGrant p gen reach s) := h.update
theorem Steady.ledgerRefuse {s0 s} (h : Steady s0 s) {p c} : Steady s0 (ledgerRefuse p c s) := h.put.put.addField.cause.put
theorem Steady.applyTx {s0 s} (h : Steady s0 s) {l} : Steady s0 (applyTx l s) :=
  .ite h (.ite h.modLane.put.put (.ite h.modLane.put.put.modLane h.modLane.put.put.cause))
theorem Steady.applyLaneCtrl {s0 s} (h : Steady s0 s) {l} : Steady s0 (applyLaneCtrl l s) := h.modLane
theorem Steady.maskFollows {s0 s} (h : Steady s0 s) {l st} : Steady s0 (maskFollows l st s) := .ite h h.modLane.put
theorem Steady.maskWindow {s0 s} (h : Steady s0 s) {l levels} : Steady s0 (maskWindow l levels s) :=
  .ite
    h
    (.ite
      h.put.put
      (.ite h.put.put.put.modLane.put (have hh := h.put.put.put.put.put.cause.modLane;
      .ite hh.put hh)))
theorem Steady.setTap {s0 s} (h : Steady s0 s) {l target index v} : Steady s0 (setTap l target index v s) := h.modLane
theorem Steady.adaptTarget {s0 s} (h : Steady s0 s) {l target} : Steady s0 (adaptTarget l target s) := .ite h h.drewMany.setLane
theorem Steady.fdeSet {s0 s} (h : Steady s0 s) {l} : Steady s0 (fdeSet l s) := by
  unfold Machine.fdeSet
  exact h.drewMany.modLane
theorem Steady.adaptLane {s0 s} (h : Steady s0 s) {l} : Steady s0 (adaptLane l s) :=
  .ite
    h
    (.ite
      (.ite h.adaptTarget.fdeSet h.adaptTarget)
      (h.when (fun _ ihc => ihc.adaptTarget.adaptTarget)).adaptTarget.adaptTarget)
theorem Steady.limitTrack {s0 s} (h : Steady s0 s) {l} : Steady s0 (limitTrack l s) := h.setLane
theorem Steady.ctleBoundary {s0 s} (h : Steady s0 s) {l} : Steady s0 (ctleBoundary l s) := .ite h.put.put (.ite h.drew.put h)
theorem Steady.saveCoeffs {s0 s} (h : Steady s0 s) {l} : Steady s0 (saveCoeffs l s) := h.update
theorem Steady.reloadCoeffs {s0 s} (h : Steady s0 s) {l} : Steady s0 (reloadCoeffs l s) := by
  unfold Machine.reloadCoeffs
  split
  · exact h
  · exact h.modLane.setReg.put.put.put
theorem Steady.restoreCoeffs {s0 s} (h : Steady s0 s) {l} : Steady s0 (restoreCoeffs l s) := by
  unfold Machine.restoreCoeffs
  split
  · exact h
  · exact (h.reloadCoeffs.forEach (fun _ _ ihb => ihb.setReg)).modLane
theorem Steady.divergence {s0 s} (h : Steady s0 s) {l snr} : Steady s0 (divergence l snr s) :=
  .ite h (have hb := h.reloadCoeffs.modLane.cause;
  .ite hb.modLane.put.cause hb)
theorem Steady.applyEq {s0 s} (h : Steady s0 s) {l} : Steady s0 (applyEq l s) := by
  unfold Machine.applyEq
  split
  · exact h
  · exact .ite h.modLane.put.put (.ite h.modLane.put.put h.modLane.put.setTap.put)
theorem Steady.applyShape {s0 s} (h : Steady s0 s) {l} : Steady s0 (applyShape l s) := h.modLane
theorem Steady.holdCount {s0 s} (h : Steady s0 s) {l} : Steady s0 (holdCount l s) := .ite h.drewMany.add48.addSat.add48 h
theorem Steady.laneBoundary {s0 s} (h : Steady s0 s) {l} : Steady s0 (laneBoundary l s) := by
  unfold Machine.laneBoundary
  exact h.adaptLane.ctleBoundary.limitTrack.holdCount.applyTx.applyShape.applyEq.modLane
theorem Steady.losAsserted {s0 s} (h : Steady s0 s) {l amp} : Steady s0 (losAsserted l amp s) := .ite h.put.put.cause h
theorem Steady.losDeasserted {s0 s} (h : Steady s0 s) {l amp} : Steady s0 (losDeasserted l amp s) := .ite h.put.put h
theorem Steady.cdrLocked {s0 s} (h : Steady s0 s) {l} : Steady s0 (cdrLocked l s) := .ite h.put h
theorem Steady.cdrUnlocked {s0 s} (h : Steady s0 s) {l} : Steady s0 (cdrUnlocked l s) := .ite h.put.cause h
theorem Steady.prbsCount {s0 s} (h : Steady s0 s) {l symbols symErrs bitErrs} : Steady s0 (prbsCount l symbols symErrs bitErrs s) :=
  .ite h.add48.addSat.add48 h
theorem Steady.prbsLocked {s0 s} (h : Steady s0 s) {l} : Steady s0 (prbsLocked l s) := .ite h.put h
theorem Steady.prbsLost {s0 s} (h : Steady s0 s) {l symbols symErrs bitErrs} : Steady s0 (prbsLost l symbols symErrs bitErrs s) :=
  .ite h.prbsCount.put.addField.cause h
theorem Steady.devicePrbs {s0 s} (h : Steady s0 s) {l on} : Steady s0 (devicePrbs l on s) := .ite h.put.put.put.put.put.put h.put.put.put
theorem Steady.eyeBegin {s0 s} (h : Steady s0 s) {l} : Steady s0 (eyeBegin l s) := .ite h (.ite h.put.put h.put.put.cause)
theorem Steady.eyeEnd {s0 s} (h : Steady s0 s) {l aborted v0 v1 n} : Steady s0 (eyeEnd l aborted v0 v1 n s) :=
  .ite
    h
    (have hb := h.put.put.put.cause;
    .ite hb (have hc := Steady.ite hb hb.put.put.put.put;
    .ite hc hc.put.put))
theorem Steady.eyeAbort {s0 s} (h : Steady s0 s) {l} : Steady s0 (eyeAbort l s) := h.eyeEnd
theorem Steady.laneWrite {s0 s} (h : Steady s0 s) {l a v} : SteadyIfSome s0 (laneWrite l a v s) :=
  .ite (.ite (.some h) .none)
    (.ite (.ite (.some h.put.modLane) (.some h))
      (.ite (.some h.modLane)
        (.ite (.ite (.some h.setReg.put.modLane) (.some h.setReg))
          (.ite (have hb := Steady.ite h h.put.put.put; .some (.ite hb.eyeBegin hb))
            (.ite (have hb := (Steady.ite h h.put.put.put).put.put.when fun _ ih => ih.put; .some (.ite hb.put.update hb))
              (.ite (.some h.put.modLane) (.ite (.some (.ite h.setReg.put.update h.setReg)) .none)))))))

/-! ### Towpath -/

theorem Steady.towLevelStep {s0 s} (h : Steady s0 s) {l} : Steady s0 (towLevelStep l s) := .ite h h.modLane
theorem Steady.towEnqueue {s0 s} (h : Steady s0 s) {p payload} : Steady s0 (towEnqueue p payload s) := h.modTow
theorem Steady.frameStart {s0 s} (h : Steady s0 s) {p} : Steady s0 (frameStart p s) :=
  .ite h (by
    split
    · exact h
    · exact h.modTow)
theorem Steady.wakeBegin {s0 s} (h : Steady s0 s) {p} : Steady s0 (wakeBegin p s) := h.modTow.put.put
theorem Steady.wakeEnd {s0 s} (h : Steady s0 s) {p} : Steady s0 (wakeEnd p s) := .ite h.modTow.put.put h
theorem Steady.frameSent {s0 s} (h : Steady s0 s) {p} : Steady s0 (frameSent p s) :=
  .ite h (have hb := h.modTow.addSat;
  .ite hb.wakeBegin hb)
theorem Steady.wakeWrite {s0 s} (h : Steady s0 s) {p v} : Steady s0 (wakeWrite p v s) := .ite h.put (.ite h.put.modTow.put h.put.wakeBegin)
theorem Steady.codeFound {s0 s} (h : Steady s0 s) {p code} : Steady s0 (codeFound p code s) := .ite h h.modTow
theorem Steady.codeSearchResume {s0 s} (h : Steady s0 s) {p} : Steady s0 (codeSearchResume p s) := h.modTow
theorem Steady.codeUnlock {s0 s} (h : Steady s0 s) {p} : Steady s0 (codeUnlock p s) := .ite h.modTow.put.put.cause h
theorem Steady.laneJoin {s0 s} (h : Steady s0 s) {l snr quarters} : Steady s0 (laneJoin l snr quarters s) :=
  .ite h (h.modLane.put.forEach (fun _ _ ihd => .ite ihd ihd.modLane.put))
theorem Steady.hail {s0 s} (h : Steady s0 s) {p code soft} : Steady s0 (hail p code soft s) :=
  .ite
    h
    (by
      split
      · exact h
      · exact h
      · exact .ite h.modTow.addSat.cause.modTow.put.put h
      · exact .ite h.modTow.addSat.cause.modTow.put.put h
      · exact h.modTow.put.put)
theorem Steady.headerCheck {s0 s} (h : Steady s0 s) {p soft} : Steady s0 (headerCheck p soft s) := by
  unfold Machine.headerCheck
  extract_lets
  split
  · exact .ite h.modTow h.modTow.addSat.cause
  · exact .ite h.modTow h.modTow.addSat.cause
  · exact h
theorem Steady.towContextsReset {s0 s} (h : Steady s0 s) {p} : Steady s0 (towContextsReset p s) := h.modTow
theorem Steady.drawTag {s0 s} (h : Steady s0 s) : Steady s0 (drawTag s) := h.drew.forEach (fun _ _ ihb => ihb.put)
theorem Steady.selfEcho {s0 s} (h : Steady s0 s) {p} : Steady s0 (selfEcho p s) := .ite h.addSat.drawTag.modTow.cause h.addSat.modTow
theorem Steady.towSignals {s0 s} (h : Steady s0 s) {p sigs} : Steady s0 (towSignals p sigs s) := h.forEach (fun _ _ ihb => .ite ihb.put.put.put ihb)
theorem Steady.towDeliver {s0 s} (h : Steady s0 s) {p payload} : Steady s0 (towDeliver p payload s) := .ite h.modTow (.ite h.addSat h)
theorem Steady.frameEnd {s0 s} (h : Steady s0 s) {p soft sigs} : Steady s0 (frameEnd p soft sigs s) := by
  unfold Machine.frameEnd
  split
  · exact h
  · exact have hb := h.towContextsReset.towSignals;
    .ite
      hb.addSat.cause
      (.ite
        hb.selfEcho
        (have hc := hb.modTow.addSat.put.cause;
        (Steady.ite hc.modTow.modTow.put.put.cause hc.modTow).towDeliver))
theorem Steady.towTake {s0 s} (h : Steady s0 s) {p payload} : Steady s0 (towTake p payload s) := h.modTow
theorem Steady.noiseWindow {s0 s} (h : Steady s0 s) {l measured} : Steady s0 (noiseWindow l measured s) :=
  .ite h (.ite (Steady.ite h h.drew).put h.put.put)
theorem Steady.beaconTimer {s0 s} (h : Steady s0 s) {p} : Steady s0 (beaconTimer p s) := .ite h (Steady.ite h.modTow.addSat.cause h).towEnqueue
theorem Steady.mgmtSend {s0 s} (h : Steady s0 s) {p x} : Steady s0 (mgmtSend p x s) := h.modTow.towEnqueue
theorem Steady.mgmtAgain {s0 s} (h : Steady s0 s) {p} : Steady s0 (mgmtAgain p s) := by
  unfold Machine.mgmtAgain
  split
  · exact h
  · exact .ite h.modTow.cause h.mgmtSend
theorem Steady.towCut {s0 s} (h : Steady s0 s) {p} : Steady s0 (towCut p s) := h.modTow.towContextsReset.wakeEnd.codeUnlock
theorem Steady.towDark {s0 s} (h : Steady s0 s) {p} : Steady s0 (towDark p s) := h.towCut.put.put.forEach (fun _ _ ihd => ihd.modLane.put.put.put)
theorem Steady.cancelAdapt {s0 s} (h : Steady s0 s) {l} : Steady s0 (cancelAdapt l s) := .ite h.drewMany.modLane h
theorem Steady.towLaneBoundary {s0 s} (h : Steady s0 s) {l} : Steady s0 (towLaneBoundary l s) := h.cancelAdapt.towLevelStep

/-! ### Bringup -/

theorem Steady.trainingRegs {s0 s} (h : Steady s0 s) {l} : Steady s0 (trainingRegs l s) := h.setReg.setReg.setReg
theorem Steady.setStage {s0 s} (h : Steady s0 s) {p st} : Steady s0 (setStage p st s) :=
  have hj := (h.forEach (fun _ _ ihb => have hc := ihb.eyeAbort.maskFollows;
  have hd := Steady.ite hc.put.put hc;
  have he := Steady.ite hd.devicePrbs hd;
  have hf := Steady.ite he.trainingRegs he;
  .ite hf.drew.modLane (.ite hf.modLane hf))).put.put.modPort;
  (Steady.ite hj.modPort.put.put.put.put hj).update
theorem Steady.departS7 {s0 s} (h : Steady s0 s) {p cause} : Steady s0 (departS7 p cause s) := .ite h.addField.put.cause.modFab h
theorem Steady.dropAsk {s0 s} (h : Steady s0 s) {p} : Steady s0 (dropAsk p s) := h.update
theorem Steady.clearNegotiation {s0 s} (h : Steady s0 s) {p} : Steady s0 (clearNegotiation p s) := h.dropAsk.modPort.put.update
theorem Steady.clearCourse {s0 s} (h : Steady s0 s) {p} : Steady s0 (clearCourse p s) :=
  h.clearNegotiation.modPort.put.put.put.put.put.put.put.put.put
theorem Steady.portFall {s0 s} (h : Steady s0 s) {p cause} : Steady s0 (portFall p cause s) :=
  .ite h (Steady.ite h.departS7.put.put.put.cause h.departS7.put).setStage.clearCourse.linkFall
theorem Steady.putCaps {s0 s} (h : Steady s0 s) {p} : Steady s0 (putCaps p s) := h.put
theorem Steady.endAttemptCap {s0 s} (h : Steady s0 s) {p} : Steady s0 (endAttemptCap p s) := h.modPort.putCaps
theorem Steady.leaveDark {s0 s} (h : Steady s0 s) {p} : Steady s0 (leaveDark p s) := .ite h.put.clearCourse.setStage h
theorem Steady.enterDark {s0 s} (h : Steady s0 s) {p cause} : Steady s0 (enterDark p cause s) :=
  .ite
    h
    (h.portFall.setStage.towDark.forEach (fun _ _ ihe => ihe.applyLaneCtrl)).put.endAttemptCap.modPort
theorem Steady.resetPortRegs {s0 s} (h : Steady s0 s) {p} : Steady s0 (resetPortRegs p s) :=
  ((h.setRegs (KMap.wf_filter _)).update.put.forEach fun _ _ ih => ih.setLane).put.put.update
theorem Steady.portOnlyReset {s0 s} (h : Steady s0 s) {p} : Steady s0 (portOnlyReset p s) :=
  h.linkPortReset.portFall.towCut.resetPortRegs.modPort.put.putCaps.commitReset.put.leaveDark
theorem Steady.capTimer {s0 s} (h : Steady s0 s) {p} : Steady s0 (capTimer p s) :=
  .ite h (.ite h.modPort.towEnqueue (by
    split
    · exact h.towEnqueue
    · exact h))
theorem Steady.negotiateFail {s0 s} (h : Steady s0 s) {p cause} : Steady s0 (negotiateFail p cause s) :=
  h.towEnqueue.clearNegotiation.modPort.put.cause
theorem Steady.recomputeSel {s0 s} (h : Steady s0 s) {p} : Steady s0 (recomputeSel p s) :=
  .ite h (by
    split
    · exact h.modPort
    · exact h.negotiateFail)
theorem Steady.capChanged {s0 s} (h : Steady s0 s) {p} : Steady s0 (capChanged p s) := .ite h h.dropAsk.modPort.put.recomputeSel
theorem Steady.recordCap {s0 s} (h : Steady s0 s) {p m} : Steady s0 (recordCap p m s) := by
  unfold Machine.recordCap
  exact h.setReg.setReg.setReg.put.put.modTow
theorem Steady.capArrives {s0 s} (h : Steady s0 s) {p m} : Steady s0 (capArrives p m s) :=
  .ite
    h
    (have hb := h.recordCap.wakeEnd.nodeConflict;
    .ite
      hb
      (have he := Steady.ite hb.modPort.towEnqueue hb.modPort;
      (Steady.ite he.addField he).recomputeSel))
theorem Steady.askLedger {s0 s} (h : Steady s0 s) {p a} : Steady s0 (askLedger p a s) := h.update
theorem Steady.requestLedger {s0 s} (h : Steady s0 s) {p sel} : Steady s0 (requestLedger p sel s) := h.askLedger
theorem Steady.setTarget {s0 s} (h : Steady s0 s) {p gen reach} : Steady s0 (setTarget p gen reach s) := h.put.put.update
theorem Steady.entryGranted {s0 s} (h : Steady s0 s) {p a} : Steady s0 (entryGranted p a s) := h.modPort.setTarget.put.put.towEnqueue
theorem Steady.entryRefused {s0 s} (h : Steady s0 s) {p a c} : Steady s0 (entryRefused p a c s) :=
  have hb := h.modPort.towEnqueue;
  .ite hb.put.cause.clearNegotiation.modPort.putCaps hb.put.cause
theorem Steady.selArrives {s0 s} (h : Steady s0 s) {p m} : Steady s0 (selArrives p m s) :=
  .ite
    h
    (by
      split
      · exact h
      · exact .ite
          h.towEnqueue
          (.ite
            (have hd := h.towEnqueue.modPort;
            .ite hd hd.requestLedger)
            (.ite h.negotiateFail h.towEnqueue.modPort)))
theorem Steady.ledgerRetry {s0 s} (h : Steady s0 s) {p} : Steady s0 (ledgerRetry p s) :=
  .ite h (by
    split
    · exact h.requestLedger
    · exact h)
theorem Steady.goArrives {s0 s} (h : Steady s0 s) {p m} : Steady s0 (goArrives p m s) :=
  .ite h (by
    split
    · exact .ite h.modPort h
    · exact .ite h.negotiateFail h
    · exact h)
theorem Steady.goTimeout {s0 s} (h : Steady s0 s) {p} : Steady s0 (goTimeout p s) := .ite h.clearNegotiation h
theorem Steady.negotiateRestart {s0 s} (h : Steady s0 s) {p} : Steady s0 (negotiateRestart p s) := .ite h.clearNegotiation.modPort h
theorem Steady.pllFall {s0 s} (h : Steady s0 s) {p} : Steady s0 (pllFall p s) := (h.forEach (fun _ _ ihb => ihb.cause)).portFall
theorem Steady.enterS5 {s0 s} (h : Steady s0 s) {p} : Steady s0 (enterS5 p s) :=
  .ite
    (h.setStage.put.forEach (fun _ _ ihe => ihe.applyLaneCtrl))
    (h.setStage.forEach (fun _ _ ihf => ihf.devicePrbs))
theorem Steady.enterS2 {s0 s} (h : Steady s0 s) {p} : Steady s0 (enterS2 p s) :=
  .ite h.pllFall (h.setStage.put.put.forEach (fun _ _ ihd => ihd.put.modLane))
theorem Steady.goTarget {s0 s} (h : Steady s0 s) {p} : Steady s0 (goTarget p s) := h.put.put
theorem Steady.enterS3 {s0 s} (h : Steady s0 s) {p} : Steady s0 (enterS3 p s) := h.setStage.put.put
theorem Steady.enterS4 {s0 s} (h : Steady s0 s) {p} : Steady s0 (enterS4 p s) := .ite h.pllFall h.setStage.goTarget
theorem Steady.enterGranted {s0 s} (h : Steady s0 s) {p} : Steady s0 (enterGranted p s) :=
  .ite
    h
    (.ite
      (.ite h.pllFall (h.modPort.goTarget.forEach (fun _ _ ihd => ihd.restoreCoeffs)).enterS5)
      h.modPort.enterS2)
theorem Steady.beginReplay {s0 s} (h : Steady s0 s) {p} : Steady s0 (beginReplay p s) := h.modLink.addSat.cause
theorem Steady.linkEnter {s0 s} (h : Steady s0 s) {p} : Steady s0 (linkEnter p s) := .ite h.linkInit (.ite h.modLink.beginReplay h.modLink)
theorem Steady.enterS7 {s0 s} (h : Steady s0 s) {p} : Steady s0 (enterS7 p s) := by
  unfold Machine.enterS7
  extract_lets x s1 s2 s3 s4 negotiated s5 s6
  have h2 : Steady s0 s2 := h.setStage.cause.forEach fun _ _ ih => ih.modLane.saveCoeffs
  have h4 : Steady s0 s4 := by
    dsimp only [s4]
    split
    · exact h2.linkEnter.setReg
    · exact h2.linkEnter
  have h5 : Steady s0 s5 := h4.put.putFlag.put
  have h6 : Steady s0 s6 := by
    dsimp only [s6]
    split
    · exact .ite h5.put.put.cause h5
    · exact h5
  exact h6.endAttemptCap.modPort.modFab
theorem Steady.stepDropped {s0 s} (h : Steady s0 s) {p} : Steady s0 (stepDropped p s) := .ite h.put.put.cause h
theorem Steady.retrainCourse {s0 s} (h : Steady s0 s) {p cause waiting} : Steady s0 (retrainCourse p cause waiting s) :=
  h.departS7.dropAsk.stepDropped.modPort.setTarget.cause
theorem Steady.startRetrain {s0 s} (h : Steady s0 s) {p cause} : Steady s0 (startRetrain p cause s) :=
  .ite h.modPort (.ite h h.retrainCourse.towEnqueue.enterS5)
theorem Steady.retrainAgreed {s0 s} (h : Steady s0 s) {p} : Steady s0 (retrainAgreed p s) := h.modPort.forEach (fun _ _ ihb => ihb.reloadCoeffs)
theorem Steady.retrainFailed {s0 s} (h : Steady s0 s) {p} : Steady s0 (retrainFailed p s) := h.portOnlyReset.modPort.cause
theorem Steady.peerRetrain {s0 s} (h : Steady s0 s) {p hold} : Steady s0 (peerRetrain p hold s) :=
  have hb := h.retrainCourse.retrainAgreed.enterS5;
  .ite (hb.put.forEach (fun _ _ ihc => ihc.applyLaneCtrl)) hb
theorem Steady.holdEnds {s0 s} (h : Steady s0 s) {p waiting cause} : Steady s0 (holdEnds p waiting cause s) :=
  h.modPort.cause.setStage.forEach (fun _ _ ihd => ihd.devicePrbs)
theorem Steady.qrReqArrives {s0 s} (h : Steady s0 s) {p m} : Steady s0 (qrReqArrives p m s) :=
  .ite
    h
    (.ite
      h.towEnqueue.peerRetrain
      (.ite
        h.towEnqueue.startRetrain
        (.ite h.towEnqueue.retrainAgreed (.ite h.towEnqueue.holdEnds.retrainAgreed h.towEnqueue))))
theorem Steady.keptTrigger {s0 s} (h : Steady s0 s) {p} : Steady s0 (keptTrigger p s) := by
  unfold Machine.keptTrigger
  split
  · exact .ite h.modPort.peerRetrain h.modPort.startRetrain
  · exact h
theorem Steady.tryS7 {s0 s} (h : Steady s0 s) {p} : Steady s0 (tryS7 p s) := .ite h.enterS7.keptTrigger h
theorem Steady.losTrigger {s0 s} (h : Steady s0 s) {l amp} : Steady s0 (losTrigger l amp s) := .ite h.losAsserted.startRetrain h.losAsserted
theorem Steady.cdrTrigger {s0 s} (h : Steady s0 s) {l} : Steady s0 (cdrTrigger l s) := .ite h.cdrUnlocked.startRetrain h.cdrUnlocked
theorem Steady.qrAckArrives {s0 s} (h : Steady s0 s) {p m} : Steady s0 (qrAckArrives p m s) := .ite h.retrainAgreed h
theorem Steady.qrTimeout {s0 s} (h : Steady s0 s) {p} : Steady s0 (qrTimeout p s) := .ite h.retrainFailed h
theorem Steady.testHoldSet {s0 s} (h : Steady s0 s) {p} : Steady s0 (testHoldSet p s) := h.put.startRetrain
theorem Steady.testHoldClear {s0 s} (h : Steady s0 s) {p} : Steady s0 (testHoldClear p s) := .ite h.put h.put.holdEnds.towEnqueue
theorem Steady.stageFailed {s0 s} (h : Steady s0 s) {p} : Steady s0 (stageFailed p s) := by
  unfold Machine.stageFailed
  extract_lets
  split
  · exact have hb := h.modPort.setTarget;
    (Steady.ite hb.put.put.cause hb).enterS4
  · exact .ite
      h.retrainFailed
      (.ite
        h.portFall.modPort
        (.ite h.portFall (.ite h.modPort.enterS3 (.ite h.modPort.setTarget.enterS3 h.portFall))))
theorem Steady.stageTimeout {s0 s} (h : Steady s0 s) {p} : Steady s0 (stageTimeout p s) :=
  .ite
    h
    (by
      split
      · exact .ite h.negotiateFail h
      · exact h.portFall
      · exact h.portFall
      · exact h.stageFailed
      · exact h.stageFailed
      · exact h.stageFailed
      · exact h)
theorem Steady.deadline {s0 s} (h : Steady s0 s) {p} : Steady s0 (deadline p s) :=
  .ite h (have hb := h.portFall.cause;
  by
    split
    · exact hb.modPort.putCaps
    · exact hb)
theorem Steady.tryTrained {s0 s} (h : Steady s0 s) {p} : Steady s0 (tryTrained p s) :=
  .ite (by
    split
    · exact h.enterS3
    · exact h.enterS5
    · exact h) h
theorem Steady.thresholdMet {s0 s} (h : Steady s0 s) {l snr peak offset} : Steady s0 (thresholdMet l snr peak offset s) :=
  .ite h (have hd := Steady.ite h.put.put h.put.put.put;
  .ite hd.modLane.tryTrained hd)
theorem Steady.setFirTap {s0 s} (h : Steady s0 s) {l i v} : Steady s0 (setFirTap l i v s) := h.setReg.setReg.setLane
theorem Steady.tapRequest {s0 s} (h : Steady s0 s) {l i request} : Steady s0 (tapRequest l i request s) :=
  .ite h.modLane (.ite h (.ite h.setFirTap.modLane h.modLane))
theorem Steady.formRequests {s0 s} (h : Steady s0 s) {l status} : Steady s0 (formRequests l status s) := h.drewMany.setLane
theorem Steady.correctPolarity {s0 s} (h : Steady s0 s) {l} : Steady s0 (correctPolarity l s) := by
  unfold Machine.correctPolarity
  exact h.put.modLane
theorem Steady.trainingFrame {s0 s} (h : Steady s0 s) {l control crc inverted} : Steady s0 (trainingFrame l control crc inverted s) :=
  .ite
    h
    (have hb := Steady.ite h.correctPolarity h;
    .ite
      hb.modLane
      (have hd := hb.forEach (fun _ _ ihc => ihc.tapRequest);
      (Steady.ite hd.resetReg.resetReg.modLane hd).cdrLocked.formRequests.modLane.tryTrained))
theorem Steady.trySwitched {s0 s} (h : Steady s0 s) {p} : Steady s0 (trySwitched p s) := .ite (.ite h.enterS5 h.enterS4) h.tryS7
theorem Steady.lockPair {s0 s} (h : Steady s0 s) {p symbols own skew} : Steady s0 (lockPair p symbols own skew s) :=
  .ite
    h
    (h.putFlag.putFlag.put.when (fun _ ihe => ihe.forEach (fun _ _ ihf => ihf.cdrLocked))).modPort.trySwitched
theorem Steady.countdownTick {s0 s} (h : Steady s0 s) {p} : Steady s0 (countdownTick p s) := by
  unfold Machine.countdownTick
  split
  · exact .ite h.modPort.trySwitched h.modPort
  · exact h
theorem Steady.prbsVerifyEnd {s0 s} (h : Steady s0 s) {p lanes} : Steady s0 (prbsVerifyEnd p lanes s) := .ite h (.ite h.setStage h.stageFailed)
theorem Steady.stepRefused {s0 s} (h : Steady s0 s) {p} : Steady s0 (stepRefused p s) := h.put.put.cause
theorem Steady.sendStep {s0 s} (h : Steady s0 s) {p target up host} : Steady s0 (sendStep p target up host s) := h.modPort.towEnqueue
theorem Steady.stepGo {s0 s} (h : Steady s0 s) {p target} : Steady s0 (stepGo p target s) :=
  .ite h.put.stepRefused (.ite h.put.sendStep h.put.askLedger)
theorem Steady.runStep {s0 s} (h : Steady s0 s) {p cause target} : Steady s0 (runStep p cause target s) :=
  have hb := h.departS7.modPort;
  (Steady.ite hb.addField hb.modPort.putCaps).setTarget.enterS4
theorem Steady.raiseStepdown {s0 s} (h : Steady s0 s) {p x} : Steady s0 (raiseStepdown p x s) := .ite h h.cause
theorem Steady.stepLost {s0 s} (h : Steady s0 s) {p st} : Steady s0 (stepLost p st s) :=
  have hb := h.modPort.setTarget;
  .ite hb.stepRefused hb
theorem Steady.stepAckArrives {s0 s} (h : Steady s0 s) {p m} : Steady s0 (stepAckArrives p m s) := by
  unfold Machine.stepAckArrives
  split
  · exact h
  · exact .ite h (.ite h.raiseStepdown.runStep h.stepLost)
theorem Steady.stepReply {s0 s} (h : Steady s0 s) {p v} : Steady s0 (stepReply p v s) := h.towEnqueue
theorem Steady.acceptStep {s0 s} (h : Steady s0 s) {p cause target} : Steady s0 (acceptStep p cause target s) := h.modPort.stepReply
theorem Steady.stepArrives {s0 s} (h : Steady s0 s) {p m} : Steady s0 (stepArrives p m s) :=
  .ite
    h
    (.ite
      h.stepReply
      (.ite
        h.stepReply
        (by
          split
          · exact .ite h.stepReply h.raiseStepdown.acceptStep
          · exact .ite h.modPort.acceptStep h.askLedger)))
theorem Steady.stepStarts {s0 s} (h : Steady s0 s) {p} : Steady s0 (stepStarts p s) := by
  unfold Machine.stepStarts
  split
  · exact .ite h.runStep h
  · exact h
theorem Steady.askGranted {s0 s} (h : Steady s0 s) {p a} : Steady s0 (askGranted p a s) := by
  unfold Machine.askGranted
  split
  · exact h.entryGranted
  · exact h.setTarget.sendStep
  · exact h.setTarget.modPort.acceptStep
  · exact h.update
theorem Steady.askRefused {s0 s} (h : Steady s0 s) {p a c} : Steady s0 (askRefused p a c s) := by
  unfold Machine.askRefused
  extract_lets
  split
  · exact h.ledgerRefuse.entryRefused
  · exact h.ledgerRefuse.stepRefused
  · exact h.ledgerRefuse.stepReply
  · exact h.ledgerRefuse
theorem Steady.decideAsk {s0 s} (h : Steady s0 s) {e} : Steady s0 (decideAsk e s) := by
  unfold Machine.decideAsk
  split
  · exact h.ledgerGrant.askGranted
  · exact h.askRefused
theorem Steady.ledgerDecide {s0 s} (h : Steady s0 s) : Steady s0 (ledgerDecide s) := h.update.forEach (fun _ _ ihb => ihb.decideAsk)
theorem Steady.fecLockLost {s0 s} (h : Steady s0 s) {p} : Steady s0 (fecLockLost p s) := h.put.modPort.startRetrain
theorem Steady.codewordDecode {s0 s} (h : Steady s0 s) {p received} : Steady s0 (Machine.codewordDecode p received s) := by
  unfold Machine.codewordDecode
  extract_lets word fixed bad k s1 c t cw s2 s3
  have h1 : Steady s0 s1 := h.forEach fun _ _ ih => ih.add48
  have hc : Steady s0 c := h1.add48
  have ht : Steady s0 t := hc.addSat
  have hcw : Steady s0 cw := .ite hc.add48 (.ite ht ht.add48.add48)
  have h2 : Steady s0 s2 := .ite h1 hcw.modPort
  have h3 : Steady s0 s3 := .ite h2.modPort h2
  split
  · exact h3.modPort
  · dsimp only
    exact .ite h3.modPort.fecLockLost h3.modPort
theorem Steady.flitTaken {s0 s} (h : Steady s0 s) {p blocks} : Steady s0 (flitTaken p blocks s) := h.modPort
theorem Steady.innerSend {s0 s} (h : Steady s0 s) {l bits} : Steady s0 (innerSend l bits s) := h.modLane
theorem Steady.fecSend {s0 s} (h : Steady s0 s) {p flit} : Steady s0 (fecSend p flit s) :=
  .ite h.modPort (.ite (h.modPort.forEach (fun _ _ ihd => ihd.innerSend)) h.modPort)
theorem Steady.innerBlockDecode {s0 s} (h : Steady s0 s) {l llr} : Steady s0 (innerBlockDecode l llr s) :=
  .ite
    h
    (have hj := Steady.ite h.add48 h.add48.add48;
    have ho := (Steady.ite hj hj.modPort).modLane;
    .ite ho.putFlag.fecLockLost ho.putFlag)
theorem Steady.degradeAct {s0 s} (h : Steady s0 s) {p} : Steady s0 (degradeAct p s) :=
  .ite h (.ite h (.ite h.modPort.cause (.ite h.sendStep h.startRetrain)))
theorem Steady.degradeWindow {s0 s} (h : Steady s0 s) {p} : Steady s0 (degradeWindow p s) :=
  .ite
    h
    (have hb := h.putFlag.put.modPort;
    have hc := Steady.ite hb.cause hb;
    .ite hc.modPort.degradeAct hc)
theorem Steady.pllUnlock {s0 s} (h : Steady s0 s) {pll} : Steady s0 (pllUnlock pll s) :=
  h.put.forEach (fun _ _ ihe => have hf := Steady.ite ihe.pllFall ihe;
  .ite hf hf.enterDark)
theorem Steady.pllLock {s0 s} (h : Steady s0 s) {pll} : Steady s0 (pllLock pll s) := h.put.forEach (fun _ _ ihb => ihb.leaveDark)
theorem Steady.portWrite {s0 s} (h : Steady s0 s) {p a v} : SteadyIfSome s0 (portWrite p a v s) :=
  .ite
    (have hs := Steady.ite h.put.put.put.put.modPort.leaveDark h.put.put.put.put.modPort
     have ht := Steady.ite hs.testHoldSet (.ite hs.testHoldClear hs)
     have hr := Steady.ite ht.put.startRetrain ht
     .some (.ite hr.stepGo hr))
    (.ite (.some h.setReg.capChanged) .none)
theorem Steady.portBoundary {s0 s} (h : Steady s0 s) {p} : Steady s0 (portBoundary p s) :=
  have hb := Steady.ite h.modPort h;
  (Steady.ite hb.enterDark hb).enterGranted.countdownTick.stepStarts

/-! ### Link -/

theorem Steady.startReplay {s0 s} (h : Steady s0 s) {p} : Steady s0 (startReplay p s) := .ite h (.ite h.cause.startRetrain h.beginReplay)
theorem Steady.noteReplay {s0 s} (h : Steady s0 s) {p timeout} : Steady s0 (noteReplay p timeout s) := h.modLink
theorem Steady.rreqArrives {s0 s} (h : Steady s0 s) {p ack replaying} : Steady s0 (rreqArrives p ack replaying s) := .ite h h.noteReplay.startReplay
theorem Steady.askReplay {s0 s} (h : Steady s0 s) {p} : Steady s0 (askReplay p s) := h.modLink
theorem Steady.ackArrives {s0 s} (h : Steady s0 s) {p ack} : Steady s0 (ackArrives p ack s) := .ite h.modLink h
theorem Steady.deliverFlit {s0 s} (h : Steady s0 s) {p f} : Steady s0 (deliverFlit p f s) := h.modLink.add48
theorem Steady.flitInS6 {s0 s} (h : Steady s0 s) {p good} : Steady s0 (flitInS6 p good s) := .ite h.modPort.put.tryS7 h.modPort
theorem Steady.flitReceived {s0 s} (h : Steady s0 s) {p bytes startOk} : Steady s0 (flitReceived p bytes startOk s) :=
  have hb := Steady.ite h.flitTaken h;
  .ite
    hb.flitInS6
    (.ite
      hb
      (.ite
        hb.addSat.cause.askReplay
        (have hc := Steady.ite hb.ackArrives hb;
        have hf := Steady.ite hc.modLink.rreqArrives hc.modLink;
        .ite (.ite hf.deliverFlit hf) (.ite hf hf.askReplay))))
theorem Steady.emitFlit {s0 s} (h : Steady s0 s) {p bytes} : Steady s0 (emitFlit p bytes s) := h.modLink.fecSend
theorem Steady.flitSend {s0 s} (h : Steady s0 s) {p} : Steady s0 (flitSend p s) := by
  unfold Machine.flitSend
  refine .ite h.fecSend (.ite h ?_)
  extract_lets
  split
  · split
    · exact h.modLink
    · exact h.modLink.emitFlit
  · exact .ite h.emitFlit h.modLink.emitFlit.add48
theorem Steady.ackTimeout {s0 s} (h : Steady s0 s) {p} : Steady s0 (ackTimeout p s) := .ite h.noteReplay.startReplay h
theorem Steady.rreqRepeat {s0 s} (h : Steady s0 s) {p} : Steady s0 (rreqRepeat p s) := .ite h.modLink h
theorem Steady.delayTimer {s0 s} (h : Steady s0 s) {p src tag} : Steady s0 (delayTimer p src tag s) := by
  unfold Machine.delayTimer
  extract_lets
  split
  · exact h
  · exact .ite h (.ite h.modLink.answerNak (.ite (.ite h h.modLink.queueResponse) (.ite h h.modLink)))

/-! ### Fabric -/

theorem Steady.noRoute {s0 s} (h : Steady s0 s) {p e} : Steady s0 (noRoute p e s) := h.addSat.cause.answerNak
theorem Steady.forwardRequest {s0 s} (h : Steady s0 s) {p e} : Steady s0 (forwardRequest p e s) :=
  .ite
    h.noRoute
    (by
      split
      · exact h.noRoute
      · exact .ite h.addSat.cause.answerNak (.ite h.answerNak h.modEntry.modLink))
theorem Steady.unexpected {s0 s} (h : Steady s0 s) {p} : Steady s0 (unexpected p s) := h.addSat
theorem Steady.responseArrives {s0 s} (h : Steady s0 s) {p t} : Steady s0 (responseArrives p t s) :=
  .ite
    h.unexpected
    (by
      split
      · exact h.routeResponse
      · exact have hb := Steady.ite h h.freeEntry;
        .ite hb.queueResponse hb.routeResponse)
theorem Steady.recordExpiry {s0 s} (h : Steady s0 s) {p src tag} : Steady s0 (recordExpiry p src tag s) := by
  unfold Machine.recordExpiry
  split
  · exact h
  · split
    · exact .ite h.freeEntry.addSat.cause h
    · exact h
theorem Steady.rehash {s0 s} (h : Steady s0 s) {o} : Steady s0 (rehash o s) := by
  unfold Machine.rehash
  split
  · exact h
  · split
    · exact h
    · exact h.modEntry.forwardRequest
theorem Steady.failover {s0 s} (h : Steady s0 s) {p} : Steady s0 (failover p s) :=
  .ite h (h.modFab.modLink.forEach (fun _ _ ihh => ihh.rehash)).addSat.cause
theorem Steady.beaconMiss {s0 s} (h : Steady s0 s) {p} : Steady s0 (beaconMiss p s) := .ite h.modFab h
theorem Steady.restore {s0 s} (h : Steady s0 s) {p} : Steady s0 (restore p s) := .ite h.modFab.put.cause h
theorem Steady.restoreWrite {s0 s} (h : Steady s0 s) {p} : Steady s0 (restoreWrite p s) := .ite h.put h
theorem Steady.nodeSeen {s0 s} (h : Steady s0 s) {p node valid} : Steady s0 (nodeSeen p node valid s) := .ite (.ite h.modFab h) h.nodeConflict
theorem Steady.beaconArrives {s0 s} (h : Steady s0 s) {p payload} : Steady s0 (beaconArrives p payload s) :=
  .ite
    h
    (have ho1 := h.put.put.put.putFlag.put.put.put.put.put.put.putFlag.put;
    have hy1 := Steady.ite ho1.put.modFab.cause ho1.put.modFab;
    (Steady.ite hy1.modFab.cause hy1).nodeSeen)
theorem Steady.nodeChanged {s0 s} (h : Steady s0 s) : Steady s0 (nodeChanged s) := h.forEach (fun _ _ ihb => ihb.modFab)

/-! ### Regions -/

theorem Steady.causeOnce {s0 s} (h : Steady s0 s) {c info} : Steady s0 (causeOnce c info s) := .ite h h.update.causeWith
theorem Steady.setHc {s0 s} (h : Steady s0 s) {n v} : Steady s0 (State.setHc s n v) :=
  h.trans ⟨rfl, rfl, .refl _, fun hc => { hc with hcs := KMap.wf_put _ _ _ _ hc.hcs }⟩
theorem Steady.modHc {s0 s} (h : Steady s0 s) {n f} : Steady s0 (State.modHc s n f) := h.setHc
theorem Steady.modDie {s0 s} (h : Steady s0 s) {d f} : Steady s0 (State.modDie s d f) := h.update
theorem Steady.setPool {s0 s} (h : Steady s0 s) {g v} : Steady s0 (State.setPool s g v) := h.update
theorem Steady.modPool {s0 s} (h : Steady s0 s) {g f} : Steady s0 (State.modPool s g f) := h.setPool
theorem Steady.setQueue {s0 s} (h : Steady s0 s) {q v} : Steady s0 (State.setQueue s q v) := h.update
theorem Steady.modQueue {s0 s} (h : Steady s0 s) {q f} : Steady s0 (State.modQueue s q f) := h.setQueue
theorem Steady.setJob {s0 s} (h : Steady s0 s) {j v} : Steady s0 (State.setJob s j v) := h.update
theorem Steady.dropJob {s0 s} (h : Steady s0 s) {j} : Steady s0 (State.dropJob s j) := h.update
theorem Steady.modJob {s0 s} (h : Steady s0 s) {j f} : Steady s0 (State.modJob s j f) := by
  unfold Machine.State.modJob
  split
  · exact h.setJob
  · exact h
theorem Dram.wf_store {m : KMap Byte} (h : Dram.wf m = true) (loc : Nat) (l : List (Option Byte)) : Dram.wf (Dram.store m loc l) = true := by
  induction l generalizing m loc with
  | nil => exact h
  | cons b t ih =>
    cases b with
    | none => exact ih h _
    | some b => exact ih (KMap.wf_put _ _ _ _ h) _
theorem Steady.setLost {s0 s} (h : Steady s0 s) {n mask} : Steady s0 (setLost n mask s) := h.update
theorem Steady.dieWrite {s0 s} (h : Steady s0 s) {n l} : Steady s0 (dieWrite n l s) :=
  have hb : Steady s0 (s.setMem _) := h.setDram fun hm => Dram.wf_store hm _ _
  .ite hb hb.setLost
theorem Steady.setLinkWord {s0 s} (h : Steady s0 s) {g i v} : Steady s0 (setLinkWord g i v s) := h.modPool

/-! ### Integrity -/

theorem Steady.eccLog {s0 s} (h : Steady s0 s) {e} : Steady s0 (eccLog e s) := .ite (.ite h.addSat h.addSat.update.cause) h.update.put.put
theorem Steady.eccTailWrite {s0 s} (h : Steady s0 s) {v} : Steady s0 (eccTailWrite v s) := .ite h.put.put h.put.put.update
theorem Steady.bankSuspect {s0 s} (h : Steady s0 s) {p} : Steady s0 (bankSuspect p s) := h.causeWith
theorem Steady.ledgerAdd {s0 s} (h : Steady s0 s) {e} : Steady s0 (ledgerAdd e s) := h.update
theorem Steady.repairBegin {s0 s} (h : Steady s0 s) {p} : Steady s0 (repairBegin p s) := h.ledgerAdd.modHc.put.put
theorem Steady.retireRowNow {s0 s} (h : Steady s0 s) {p} : Steady s0 (retireRowNow p s) := h.update.put.ledgerAdd.eccLog.cause
theorem Steady.retireRowDue {s0 s} (h : Steady s0 s) {p} : Steady s0 (retireRowDue p s) := h.update
theorem Steady.autoRepair {s0 s} (h : Steady s0 s) {p} : Steady s0 (autoRepair p s) := by
  unfold Machine.autoRepair
  split
  · exact h.repairBegin
  · exact .ite
      (have hd := h.put.cause.bankSuspect;
      .ite (by
        split
        · exact hd.retireRowDue
        · exact .ite hd.bankSuspect hd) hd)
      h.put.cause
theorem Steady.rowSuspect {s0 s} (h : Steady s0 s) {p} : Steady s0 (rowSuspect p s) :=
  .ite
    h
    (have hb := h.modHc.causeWith;
    have hc := Steady.ite hb.bankSuspect hb;
    .ite hc.autoRepair hc)
theorem Steady.queueRepair {s0 s} (h : Steady s0 s) {n data lost} : Steady s0 (queueRepair n data lost s) :=
  .ite h.modHc (.ite h.addSat.causeOnce h.modHc)
theorem Steady.repairWrite {s0 s} (h : Steady s0 s) {r} : Steady s0 (repairWrite r s) := by
  unfold Machine.repairWrite
  exact (Steady.ite h.setLost h.dieWrite).modHc
theorem Steady.dropRepair {s0 s} (h : Steady s0 s) {n} : Steady s0 (dropRepair n s) := .ite h.modHc h
theorem Steady.decodeBeyond {s0 s} (h : Steady s0 s) {w word d} : Steady s0 (decodeBeyond w word d s).2 :=
  Steady.itePair h (by
    split
    · exact h.drew
    · exact h.drew.drew.drew.drew.drew)
theorem Steady.decodeOne {s0} {modeB erased errs data lost} {r : Decoded × State} (h : Steady s0 r.2) {w} :
    Steady s0 (decodeOne modeB erased errs data lost r w).2 := by
  unfold Machine.decodeOne
  exact .itePair h (.itePair h (.itePair h.decodeBeyond (by split <;> first | exact h | exact h.decodeBeyond)))
theorem Steady.decodeParcel {s0 s} (h : Steady s0 s) {modeB erased errs data lost} : Steady s0 (decodeParcel modeB erased errs data lost s).2 :=
  Steady.foldlPair (r := (_, s)) h fun _ _ ih => ih.decodeOne
theorem Steady.countPin {s0 s} (h : Steady s0 s) {n q} : Steady s0 (countPin n q s) := .ite h.modHc.modHc h.modHc
theorem Steady.noteBad {s0 s} (h : Steady s0 s) {source fc n d suspect} : Steady s0 (noteBad source fc n d suspect s) :=
  have hd := h.eccLog.addSat.causeWith;
  .ite hd.rowSuspect hd
theorem Steady.noteFixed {s0 s} (h : Steady s0 s) {source fc n d repair} : Steady s0 (noteFixed source fc n d repair s) :=
  have ho := (Steady.ite h.add48.cause.eccLog h.add48.cause).forEach (fun _ _ ihn => ihn.countPin);
  have hp := Steady.ite ho ho.queueRepair;
  .ite hp.rowSuspect hp
theorem Steady.readParcel {s0 s} (h : Steady s0 s) {source fc n repair suspect errs} : Steady s0 (readParcel source fc n repair suspect errs s).2 := by
  unfold Machine.readParcel
  extract_lets
  split
  · rename_i _ tb heq
    have htc := Steady.of_snd h.decodeParcel heq
    exact Steady.itePair htc.noteBad (Steady.itePair htc.noteFixed htc)
theorem Steady.scrubStep {s0 s} (h : Steady s0 s) {n} : Steady s0 (scrubStep n s) := .ite h.setHc.cause h.setHc
theorem Steady.scrubRead {s0 s} (h : Steady s0 s) {n errs} : Steady s0 (scrubRead n errs s) := by
  unfold Machine.scrubRead
  exact .ite
    h.scrubStep
    (by
      split
      · rename_i _ tb heq
        have htc := Steady.of_snd h.readParcel heq
        exact (Steady.ite htc.queueRepair htc).scrubStep)
theorem Steady.scrubLateNow {s0 s} (h : Steady s0 s) {n} : Steady s0 (scrubLateNow n s) := .ite h.setHc.cause h
theorem Steady.pinWindowEnd {s0 s} (h : Steady s0 s) {n} : Steady s0 (pinWindowEnd n s) := h.modHc
theorem Steady.retrainDecide {s0 s} (h : Steady s0 s) {n cause} : Steady s0 (retrainDecide n cause s) := h.forEach (fun _ _ ihb => ihb.modHc)
theorem Steady.pinErase {s0 s} (h : Steady s0 s) {n} : Steady s0 (pinErase n s) := by
  unfold Machine.pinErase
  split
  · exact h
  · exact .ite h.modHc (have hf := h.modHc.modHc.cause;
    .ite hf.eccLog.retrainDecide hf.eccLog)
theorem Steady.retireRequest {s0 s} (h : Steady s0 s) {bank p} : Steady s0 (retireRequest bank p s) := by
  unfold Machine.retireRequest
  split
  · exact .ite h.put.put.bankSuspect h.put.put
  · exact .ite h.update h.retireRowDue
theorem Steady.retireRowsNow {s0 s} (h : Steady s0 s) : Steady s0 (retireRowsNow s) :=
  .ite h (h.update.forEach (fun _ _ ihe => ihe.retireRowNow)).put.put
theorem Steady.retireBankNow {s0 s} (h : Steady s0 s) {n b} : Steady s0 (retireBankNow n b s) :=
  have hr := h.setReg.put.update;
  (Steady.ite hr.put.setReg.cause hr).ledgerAdd.eccLog.cause.put.put

/-! ### Landing -/

theorem Steady.pushAt {s0 s} (h : Steady s0 s) {seq port fc panic write reads displaced n lines what} : Steady s0 (pushAt seq port fc panic write reads displaced n lines what s) := by
  unfold Machine.pushAt
  exact h.modHc
theorem Steady.pushAccess {s0 s} (h : Steady s0 s) {port fc panic write reads displaced n lines what} : Steady s0 (pushAccess port fc panic write reads displaced n lines what s) :=
  h.update.pushAt
theorem Steady.touchWay {s0 s} (h : Steady s0 s) {n w} : Steady s0 (touchWay n w s) := h.update
theorem Steady.setLine {s0 s} (h : Steady s0 s) {n l} : Steady s0 (setLine n l s) := h.update
theorem Steady.dropLine {s0 s} (h : Steady s0 s) {n} : Steady s0 (dropLine n s) := h.update
theorem Steady.mapAccesses {s0 s} (h : Steady s0 s) {f n} : Steady s0 (mapAccesses f n s) := h.modHc
theorem Steady.writeBack {s0 s} (h : Steady s0 s) {n} : Steady s0 (writeBack n s) :=
  (h.forEach (fun _ _ ihb => by
    split
    · exact ihb.setLine
    · exact ihb)).pushAccess.add48
theorem Steady.evict {s0 s} (h : Steady s0 s) {n} : Steady s0 (evict n s) := by
  unfold Machine.evict
  split
  · exact h
  · exact have hb := Steady.ite h.writeBack h;
    (Steady.ite hb hb.mapAccesses).dropLine
theorem Steady.allocate {s0 s} (h : Steady s0 s) {g n way data st} : Steady s0 (allocate g n way data st s) := by
  unfold Machine.allocate
  extract_lets s1 s2 epoch l
  have h1 : Steady s0 s1 := by
    dsimp only [s1]
    split
    · exact h.evict
    · exact h
  have h2 : Steady s0 s2 := .ite h1.addSat.causeOnce h1
  exact h2.update.setLine.touchWay
theorem Steady.metaAccess {s0 s} (h : Steady s0 s) {n dirty} : Steady s0 (Machine.metaAccess n dirty s) := by
  unfold Machine.metaAccess
  extract_lets s1 g miss
  have h1 : Steady s0 s1 := h.acted
  have hmiss : Steady s0 miss := h1.add48.addSat
  generalize lineAt s1 n = found, chooseWay miss g 0 n = way
  cases found with
  | some l =>
    have hhit : Steady s0 ((Machine.touchWay n l.way (s1.add48 LDG_HIT_LO 1)).addSat (LDG_RGN_HIT g) 1) := h1.add48.touchWay.addSat
    exact .ite hhit.setLine hhit
  | none =>
    cases way with
    | some w => exact hmiss.allocate
    | none => exact hmiss.addSat.causeOnce
theorem Steady.touchLink {s0 s} (h : Steady s0 s) {g i dirty} : Steady s0 (touchLink g i dirty s) := h.metaAccess
theorem Steady.validate {s0 s} (h : Steady s0 s) {n marks} : Steady s0 (validate n marks s) := by
  unfold Machine.validate
  split
  · exact h
  · refine .ite h ?_
    extract_lets a line s1 byte byte'
    have h1 : Steady s0 s1 := h.dieWrite.metaAccess
    split
    · exact (h1.forEach fun _ _ ih => ih.wseqHold).setLine
    · exact h1.dieWrite
theorem Steady.closeAll {s0 s} (h : Steady s0 s) {l} : Steady s0 (closeAll l s) := h.forEach (fun _ _ ihb => ihb.wseqClose)
theorem Steady.newJob {s0 s} (h : Steady s0 s) {port e kind left wseq} : Steady s0 (newJob port e kind left wseq s).2 := h.update.setJob
theorem Steady.freeParcel {s0 s} (h : Steady s0 s) {g i} : Steady s0 (freeParcel g i s) := .ite h h.touchLink.setLinkWord.modPool
theorem Steady.jobDone {s0 s} (h : Steady s0 s) {id} : Steady s0 (jobDone id s) := by
  unfold Machine.jobDone
  split
  · exact h
  · extract_lets hd s1 s2
    have h1 : Steady s0 s1 := h.dropJob.closeAll
    have h2 : Steady s0 s2 := by
      dsimp only [s2]
      split
      · exact h1.freeParcel
      · exact h1
    split
    · exact .ite h2.answerNak h2.answer
    · exact .ite h2.answerNak h2.answer
    · exact h2.answer
    · exact .ite h2.answer h2.answer
    · exact .ite h2.answer h2.answer
    · exact .ite h2.answerNak h2.answer
theorem Steady.jobPart {s0 s} (h : Steady s0 s) {id} : Steady s0 (jobPart id s) := by
  unfold Machine.jobPart
  split
  · exact h
  · exact .ite h.jobDone h.setJob
theorem Steady.dropAccesses {s0 s} (h : Steady s0 s) {id} : Steady s0 (dropAccesses id s) := h.forEach (fun _ _ ihb => .ite ihb ihb.modHc)
theorem Steady.jobFail {s0 s} (h : Steady s0 s) {id} : Steady s0 (jobFail id s) := h.modJob.dropAccesses.jobDone
theorem Steady.jobRead {s0 s} (h : Steady s0 s) {id} : Steady s0 (jobRead id s) := h.modJob
theorem Steady.jobBad {s0 s} (h : Steady s0 s) {id} : Steady s0 (jobBad id s) := h.modJob.jobPart
theorem Steady.jobLine {s0 s} (h : Steady s0 s) {id n data} : Steady s0 (jobLine id n data s) := h.modJob.jobPart
theorem Steady.opFail {s0 s} (h : Steady s0 s) {op} : Steady s0 (opFail op s) := by
  unfold Machine.opFail
  split
  · exact h.jobFail
  · exact h.jobFail
  · exact h.jobBad
  · exact h.jobBad
  · exact h
  · exact h
theorem Steady.opFinish {s0 s} (h : Steady s0 s) {op n data} : Steady s0 (opFinish op n data s) := by
  unfold Machine.opFinish
  split
  · exact h.jobLine
  · exact h.jobPart
  · exact h.jobRead
  · split
    · exact h.setJob.jobPart
    · exact h
  · exact h
  · exact h
theorem Steady.onLine {s0 s} (h : Steady s0 s) {n l op} : Steady s0 (onLine n l op s) :=
  .ite
    h.touchWay.opFail
    (have hb := Steady.ite h.validate h;
    (Steady.ite (hb.update.forEach (fun _ _ ihc => ihc.wseqHold)).setLine hb).touchWay.opFinish)
theorem Steady.offOps {s0 s} (h : Steady s0 s) {n ops data marks dirty} : Steady s0 (offOps n ops data marks dirty s).2 := by
  induction ops generalizing data marks dirty s with
  | nil => exact h
  | cons op t ih => exact ih (h.forEach fun _ _ ih => ih.wseqHold).opFinish
theorem Steady.offLine {s0 s} (h : Steady s0 s) {g n seq ops data} : Steady s0 (offLine g n seq ops data s) := .ite h.offOps.pushAt h.offOps
theorem Steady.offLineNow {s0 s} (h : Steady s0 s) {g n op data} : Steady s0 (offLineNow g n op data s) := h.update.offLine
theorem Steady.stall {s0 s} (h : Steady s0 s) {n fc op} : Steady s0 (stall n fc op s) := h.update.addSat.causeOnce
theorem Steady.takeMiss {s0 s} (h : Steady s0 s) {g n fc alloc op} : Steady s0 (takeMiss g n fc alloc op s) := .ite h.update h.update.pushAccess
theorem Steady.passBy {s0 s} (h : Steady s0 s) {port fc panic n op} : Steady s0 (passBy port fc panic n op s) := by
  unfold Machine.passBy
  split
  · exact h.pushAccess
  · exact h.pushAccess
  · exact h
theorem Steady.countHit {s0 s} (h : Steady s0 s) {g count} : Steady s0 (countHit g count s) := .ite h.add48.addSat h
theorem Steady.countMiss {s0 s} (h : Steady s0 s) {g count} : Steady s0 (countMiss g count s) := .ite h.add48.addSat h
theorem Steady.countNoWay {s0 s} (h : Steady s0 s) : Steady s0 (countNoWay s) := h.addSat.causeOnce
theorem Steady.lookupNow {s0 s} (h : Steady s0 s) {port fc panic keep count n op} : Steady s0 (Machine.lookupNow port fc panic keep count n op s) := by
  unfold Machine.lookupNow
  extract_lets s1 g s2 s3 whole way empty _ zeros s4
  have h1 : Steady s0 s1 := h.acted
  have h2 : Steady s0 s2 := h1.countHit
  have h3 : Steady s0 s3 := h1.countMiss
  have h4 : Steady s0 s4 := h3.countNoWay
  clear_value way
  split
  · exact .ite h2.stall h2.onLine
  · refine .ite h3.update (.ite (.ite h3.opFinish ?_) ?_)
    · split
      · refine .ite h3.stall ?_
        dsimp only
        split
        · exact h3.allocate.onLine
        · exact h3.allocate
      · exact (Steady.ite h3.countNoWay h3).offLineNow
    · split
      · exact h3.takeMiss
      · exact h3.takeMiss
      · split
        · exact h4.passBy
        · exact h4.takeMiss
theorem Steady.lookup {s0 s} (h : Steady s0 s) {port fc panic keep n op} : Steady s0 (lookup port fc panic keep n op s) :=
  .ite h.stall (.ite h.update h.lookupNow)
theorem Steady.lookupWaiting {s0 s} (h : Steady s0 s) {q} : Steady s0 (lookupWaiting q s) := h.lookupNow
theorem Steady.planLine {s0 s} (h : Steady s0 s) {id x} : Steady s0 (planLine id x s) := by
  unfold Machine.planLine
  split
  · exact h
  · exact .ite h.setJob.lookup (Steady.ite h.countMiss.countNoWay h).setJob.pushAccess
theorem Steady.runPlan {s0 s} (h : Steady s0 s) {id} : Steady s0 (runPlan id s) := by
  unfold Machine.runPlan
  split
  · exact h
  · exact .ite
      h
      (.ite (h.setJob.forEach (fun _ _ ihb => ihb.lookupNow)) (h.forEach (fun _ _ ihc => ihc.planLine)))
theorem Steady.runPlans {s0 s} (h : Steady s0 s) : Steady s0 (runPlans s) := h.forEach (fun _ _ ihb => ihb.runPlan)
theorem Steady.sramError {s0 s} (h : Steady s0 s) {n double} : Steady s0 (sramError n double s) := by
  unfold Machine.sramError
  split
  · exact h
  · exact .ite h.addSat.cause (.ite h.addSat.cause.dropLine h.addSat.cause.setLine.eccLog)
theorem Steady.runOps {s0 s} (h : Steady s0 s) {n fc seq ops} : Steady s0 (runOps n fc seq ops s) := by
  induction ops generalizing s with
  | nil => exact h
  | cons op t ih =>
    rw [Machine.runOps]
    refine ih ?_
    split
    · exact .ite h.stall h.onLine
    · exact h.offLine
theorem Steady.nextQueued {s0 s} (h : Steady s0 s) {slice} : Steady s0 (nextQueued slice s) :=
  h.forEach (fun _ _ ihb => .ite ihb.update.lookupWaiting ihb)
theorem Steady.fillArrive {s0 s} (h : Steady s0 s) : Steady s0 (Machine.fillArrive s) := by
  unfold Machine.fillArrive
  split
  · exact h
  next m _ =>
    extract_lets _ s1 s2
    have h1 : Steady s0 s1 := h.update
    have h2 : Steady s0 s2 := by
      dsimp only [s2]
      split
      · split
        · exact h1.allocate.runOps
        · exact h1.offLine
      · exact (h1.forEach fun _ _ ih => ih.opFail).cause
    exact h2.nextQueued.runPlans
theorem Steady.unstall {s0 s} (h : Steady s0 s) {slice} : Steady s0 (unstall slice s) := by
  unfold Machine.unstall
  split
  · exact h
  · exact .ite h (h.update.lookupWaiting.forEach (fun _ _ ihd => .ite ihd.update.lookupWaiting ihd))
theorem Steady.cleanSlice {s0 s} (h : Steady s0 s) {slice} : Steady s0 (cleanSlice slice s) :=
  (Steady.ite (by
    split
    · exact h.writeBack
    · exact h) h).unstall
theorem Steady.flushStart {s0 s} (h : Steady s0 s) {l} : Steady s0 (flushStart l s).2 :=
  h.forEach (fun _ _ ihb => by
    split
    · exact .ite ihb.writeBack ihb
    · exact ihb)
theorem Steady.noAlloc {s0 s} (h : Steady s0 s) {all g} : Steady s0 (noAlloc all g s) := h.update
theorem Steady.discardLines {s0 s} (h : Steady s0 s) {l} : Steady s0 (discardLines l s) :=
  have hc := h.forEach (fun _ _ ihb => ihb.dropLine.closeAll);
  .ite hc hc.addSat.cause
theorem Steady.ldgEnd {s0 s} (h : Steady s0 s) {result} : Steady s0 (ldgEnd result s) := h.update.put.put.put.put.cause
theorem Steady.ldgStart {s0 s} (h : Steady s0 s) {op g all} : Steady s0 (ldgStart op g all s) :=
  .ite
    h
    (have hb := h.put.put.put.put;
    .ite
      hb.noAlloc.discardLines.ldgEnd
      (.ite
        (.ite hb.update hb.ldgEnd)
        (by
          split
          · rename_i _ tc heq
            have htd := Steady.of_snd (Steady.ite hb.noAlloc hb).flushStart heq
            exact htd.update)))
theorem Steady.preloadParcel {s0 s} (h : Steady s0 s) {g n} : Steady s0 (preloadParcel g n s) := by
  unfold Machine.preloadParcel
  refine .ite h ?_
  split
  next r s1 heq =>
    have h1 : Steady s0 s1 := .of_snd (.itePair h.readParcel h) heq
    split
    · exact h1.cause
    · refine h1.forEach fun _ _ ih => ?_
      split
      · exact ih.allocate
      · exact ih
theorem Steady.invalidateLines {s0 s} (h : Steady s0 s) {l} : Steady s0 (invalidateLines l s) := h.forEach (fun _ _ ihb => ihb.evict)
theorem Steady.ldgFinish {s0 s} (h : Steady s0 s) : Steady s0 (ldgFinish s) := by
  unfold Machine.ldgFinish
  split
  · exact h
  · exact .ite
      h
      (.ite (h.forEach (fun _ _ ihb => ihb.preloadParcel)).ldgEnd (.ite h.invalidateLines.ldgEnd h.ldgEnd))
theorem Steady.flushedLine {s0 s} (h : Steady s0 s) {n} : Steady s0 (flushedLine n s) := h.update.forEach (fun _ _ ihd => ihd.update.invalidateLines)
theorem Steady.policyFlush {s0 s} (h : Steady s0 s) {g} : Steady s0 (policyFlush g s) := by
  unfold Machine.policyFlush
  split
  · rename_i _ tb heq
    have htc := Steady.of_snd h.flushStart heq
    exact .ite htc.invalidateLines htc.update
theorem Steady.entryFlushStart {s0 s} (h : Steady s0 s) : Steady s0 (entryFlushStart s) := by
  unfold Machine.entryFlushStart
  extract_lets
  split
  · rename_i _ te heq
    have htf := Steady.of_snd (Steady.ite h.ldgEnd h).noAlloc.flushStart heq
    exact htf.update
theorem Steady.entryFlushEnd {s0 s} (h : Steady s0 s) : Steady s0 (entryFlushEnd s) := h.update.put
theorem Steady.regionEpoch {s0 s} (h : Steady s0 s) {g} : Steady s0 (regionEpoch g s) := h.update.noAlloc.discardLines
theorem Steady.landingReset {s0 s} (h : Steady s0 s) : Steady s0 (landingReset s) := h.update

/-! ### Queues -/

theorem Steady.setList {s0 s} (h : Steady s0 s) {g n l} : Steady s0 (setList g n l s) := h.modPool
theorem Steady.shortenList {s0 s} (h : Steady s0 s) {g n l} : Steady s0 (shortenList g n l s) :=
  have hd := Steady.ite h.setList.causeWith h.setList;
  .ite hd.causeWith hd
theorem Steady.allocParcel {s0 s} (h : Steady s0 s) {q g strict} : Steady s0 (Machine.allocParcel q g strict s).2 := by
  unfold Machine.allocParcel
  extract_lets order n p next hc trim try_ take first rest s1
  have htrim : ∀ i t, Steady s0 t → Steady s0 (trim i t) := fun _ _ ih => ih.shortenList
  have htake : ∀ k r d t, Steady s0 t → Steady s0 (take k r d t).2 := fun _ _ _ _ ih =>
    .ite ih.shortenList.modQueue.addSat ih.shortenList.modQueue
  have hfirst : Steady s0 first := htrim _ _ h
  have h1 : Steady s0 s1 := hfirst.forEach fun _ _ ih => .ite ih (htrim _ _ ih)
  refine .itePair h ?_
  split
  · exact htake _ _ _ _ hfirst
  · split
    · exact h1
    · exact .itePair h1 (htake _ _ _ _ h1)
theorem Steady.putLink {s0 s} (h : Steady s0 s) {g i l} : Steady s0 (putLink g i l s) := h.touchLink.setLinkWord
theorem Steady.pushRecord {s0 s} (h : Steady s0 s) {q kind} : Steady s0 (pushRecord q kind s) := .ite h h.update
theorem Steady.wmRise {s0 s} (h : Steady s0 s) {q} : Steady s0 (wmRise q s) := .ite h.setQueue.pushRecord h
theorem Steady.wmFall {s0 s} (h : Steady s0 s) {q} : Steady s0 (wmFall q s) := .ite h.setQueue.pushRecord h
theorem Steady.wmFull {s0 s} (h : Steady s0 s) {q} : Steady s0 (wmFull q s) := (Steady.ite h.setQueue.pushRecord h).cause
theorem Steady.sendRecords {s0 s} (h : Steady s0 s) : Steady s0 (sendRecords s) :=
  h.update.forEach (fun _ _ ihe => .ite ihe (.ite ihe.addSat (ihe.forEach (fun _ _ ihf => ihf.pushNotice))))
theorem Steady.closeTruncated {s0 s} (h : Steady s0 s) {q g} : Steady s0 (closeTruncated q g s) :=
  (Steady.ite h.setQueue h.setQueue.putLink).addSat.cause
theorem Steady.enqWrite {s0 s} (h : Steady s0 s) {p e g i result} : Steady s0 (Machine.enqWrite p e g i result s) := by
  unfold Machine.enqWrite
  extract_lets hd n body s1
  have hjob {kind left wseq} : Steady s0 (Machine.newJob p e kind left wseq s1).2 := h.drew.newJob
  refine .ite ?_ ?_
  · exact hjob.modJob.pushAccess
  · exact hjob.modJob.forEach fun _ _ ih => ih.lookup
theorem Steady.enqRefuse {s0 s} (h : Steady s0 s) {p e q g status} : Steady s0 (enqRefuse p e q g status s) :=
  have hb := Steady.ite h.closeTruncated h;
  have hc := Steady.ite hb hb.modQueue;
  have hd := Steady.ite hc.wmFull hc;
  (Steady.ite hd.update.causeWith hd).addSat.answer
theorem Steady.enqStore {s0 s} (h : Steady s0 s) {p e q g i hc displaced} : Steady s0 (enqStore p e q g i hc displaced s) :=
  (Steady.ite h h.putLink).putLink.setQueue.wmRise.enqWrite
theorem Steady.enqRun {s0 s} (h : Steady s0 s) {p e g} : Steady s0 (enqRun p e g s) :=
  .ite
    h.answer
    (.ite
      h.modQueue.addSat.answer
      (have hb := Steady.ite h.closeTruncated (.ite h.modQueue h);
      .ite
        hb.enqRefuse
        (by
          split
          · rename_i _ _ _ tc heq
            have htd := Steady.of_snd hb.allocParcel heq
            exact htd.enqStore
          · rename_i te heq
            have htf := Steady.of_snd hb.allocParcel heq
            exact htf.enqRefuse
          · rename_i tg heq
            have hth := Steady.of_snd hb.allocParcel heq
            exact hth.enqRefuse)))
theorem Steady.deqRead {s0 s} (h : Steady s0 s) {p e kind g i l result frees} : Steady s0 (deqRead p e kind g i l result frees s) := by
  unfold Machine.deqRead
  extract_lets
  split
  · rename_i _ tb heq
    have htc := Steady.of_snd h.newJob heq
    exact .ite htc.modJob.pushAccess (htc.modJob.forEach (fun _ _ ihf => ihf.lookup))
theorem Steady.deqRun {s0 s} (h : Steady s0 s) {p e g} : Steady s0 (deqRun p e g s) :=
  .ite h.answer (.ite h.answer (.ite h.answer h.touchLink.setQueue.wmFall.deqRead))
theorem Steady.peekRun {s0 s} (h : Steady s0 s) {p e g} : Steady s0 (peekRun p e g s) := .ite h.answer (.ite h.answer h.touchLink.deqRead)
theorem Steady.dropParcels {s0 s} (h : Steady s0 s) {q g l} : Steady s0 (dropParcels q g l s) :=
  (h.setQueue.forEach (fun _ _ ihd => ihd.freeParcel)).wmFall
theorem Steady.dropRun {s0 s} (h : Steady s0 s) {p e g} : Steady s0 (dropRun p e g s) :=
  .ite h.answer (have hb := Steady.ite h.modQueue h;
  (Steady.ite hb.modQueue hb.dropParcels).answer)
theorem Steady.moveParcels {s0 s} (h : Steady s0 s) {q d g l} : Steady s0 (moveParcels q d g l s) := by
  unfold Machine.moveParcels
  split
  · exact have hi := h.setQueue.forEach (fun _ _ ihh => ihh.putLink);
    (Steady.ite hi.putLink hi.putLink.putLink).setQueue.wmFall.wmRise
  · exact h
theorem Steady.moveRun {s0 s} (h : Steady s0 s) {p e g gd} : Steady s0 (moveRun p e g gd s) :=
  .ite
    h.answer
    (.ite
      h.answer
      (.ite h.answer (.ite h.answer (.ite h.answer (.ite h.wmFull.answer h.moveParcels.answer)))))
theorem Steady.relink {s0 s} (h : Steady s0 s) {g} : Steady s0 (relink g s) := (h.forEach (fun _ _ ihb => ihb.modJob)).update.setPool
theorem Steady.rebuildStart {s0 s} (h : Steady s0 s) {g} : Steady s0 (rebuildStart g s) := h.relink.modPool.put
theorem Steady.rebuildEnd {s0 s} (h : Steady s0 s) {g} : Steady s0 (rebuildEnd g s) := .ite h.modPool.put.cause h
theorem Steady.qindRead {s0 s} (h : Steady s0 s) {q} : Steady s0 (qindRead q s) := (h.forEach (fun _ _ ihb => ihb.setReg)).put
theorem Steady.setProfile {s0 s} (h : Steady s0 s) {q k} : Steady s0 (setProfile q k s) := .ite h.put h.setQueue.put
theorem Steady.showLists {s0 s} (h : Steady s0 s) : Steady s0 (showLists s) := h.update

/-! ### Timetable -/

theorem Steady.judgeStorm {s0 s} (h : Steady s0 s) : Steady s0 (judgeStorm s) :=
  .ite h.put (.ite (.ite h.put.put h.put) (Steady.ite h.put.put h.put).cause)
theorem Steady.showSlots {s0 s} (h : Steady s0 s) : Steady s0 (showSlots s) := h.putFlag.putFlag.putFlag.setReg.setReg.setReg.setReg.setReg.setReg
theorem Steady.loadEnd {s0 s} (h : Steady s0 s) {target result} : Steady s0 (loadEnd target result s) := h.update.put.put.putFlag.put.cause
theorem Steady.loadStart {s0 s} (h : Steady s0 s) {target} : Steady s0 (loadStart target s) :=
  .ite h (.ite h.loadEnd h.update.put.put.putFlag.showSlots)
theorem Steady.logErrors {s0 s} (h : Steady s0 s) {l} : Steady s0 (logErrors l s) :=
  h.put.forEach (fun _ _ ihb => by
    split
    · exact ihb.setReg
    · exact ihb.setReg)
theorem Steady.loadDone {s0 s} (h : Steady s0 s) {bad} : Steady s0 (loadDone bad s) := by
  unfold Machine.loadDone
  split
  · exact h
  · exact .ite
      h.loadEnd
      (.ite
        h.logErrors.loadEnd
        (.ite h.logErrors.update.showSlots.judgeStorm.loadEnd h.logErrors.update.showSlots.loadEnd))
theorem Steady.showSuspended {s0 s} (h : Steady s0 s) : Steady s0 (showSuspended s) := h.setReg.setReg.putFlag
theorem Steady.liftSuspensions {s0 s} (h : Steady s0 s) : Steady s0 (liftSuspensions s) := h.update.showSuspended
theorem Steady.toDynamic {s0 s} (h : Steady s0 s) {c} : Steady s0 (toDynamic c s) := h.forEach (fun _ _ ihb => .ite ihb ihb.setHc)
theorem Steady.suspendOne {s0 s} (h : Steady s0 s) {c} : Steady s0 (suspendOne c s) := h.update.toDynamic.showSuspended.cause
theorem Steady.reportShort {s0 s} (h : Steady s0 s) {t} : Steady s0 (reportShort s t) := h.forEach (fun _ _ ihb => .ite ihb.update.cause ihb)
theorem Steady.stormBoundary {s0 s} (h : Steady s0 s) : Steady s0 (stormBoundary s) :=
  .ite
    (.ite h.update h)
    (.ite
      (.ite h.update h.update.update)
      (.ite
        h.update
        (have hd := h.update.reportShort;
        .ite hd (by
          split
          · exact hd.suspendOne
          · exact hd))))
theorem Steady.imageSwitched {s0 s} (h : Steady s0 s) : Steady s0 (imageSwitched s) := h.forEach (fun _ _ ihb => ihb.setHc)
theorem Steady.stormEnter {s0 s} (h : Steady s0 s) : Steady s0 (stormEnter s) := .ite h h.update.put.cause.liftSuspensions.imageSwitched
theorem Steady.stormLeave {s0 s} (h : Steady s0 s) : Steady s0 (stormLeave s) := .ite h h.update.put.cause.liftSuspensions.imageSwitched
theorem Steady.classResume {s0 s} (h : Steady s0 s) : Steady s0 (classResume s) := by
  unfold Machine.classResume
  split
  · exact .ite h.update.showSuspended h
  · exact h
theorem Steady.keepSuspensions {s0 s} (h : Steady s0 s) : Steady s0 (keepSuspensions s) := h.update.showSuspended
theorem Steady.imageSwap {s0 s} (h : Steady s0 s) : Steady s0 (imageSwap s) := h.update.showSlots.judgeStorm.keepSuspensions.imageSwitched
theorem Steady.rateBoundary {s0 s} (h : Steady s0 s) : Steady s0 (rateBoundary s) := by
  unfold Machine.rateBoundary
  split
  · exact h
  · exact h.update.put.cause.forEach (fun _ _ ihd => ihd.put)
theorem Steady.timetableRelease {s0 s} (h : Steady s0 s) : Steady s0 (timetableRelease s) := h.update.liftSuspensions.showSlots
theorem Steady.timetableReset {s0 s} (h : Steady s0 s) : Steady s0 (timetableReset s) := h.update

/-! ### Scheduler -/

theorem Steady.schedulerIntake {s0 s} (h : Steady s0 s) {n} : Steady s0 (schedulerIntake n s) := by
  unfold Machine.schedulerIntake
  extract_lets
  split
  · exact h
  · exact .ite h.setHc.modHc (.ite h.setHc.modHc h.setHc.addSat.causeOnce.modHc)
theorem Steady.dynamicAdmit {s0 s} (h : Steady s0 s) {n} : Steady s0 (dynamicAdmit n s) := by
  unfold Machine.dynamicAdmit
  extract_lets
  split
  · exact h
  · exact h.setHc
theorem Steady.takeAccess {s0 s} (h : Steady s0 s) {n seq} : Steady s0 (takeAccess n seq s) := h.modHc
theorem Steady.patchLines {s0 s} (h : Steady s0 s) {n b} : Steady s0 (patchLines n b s) :=
  h.forEach (fun _ _ ihb => by
    split
    · exact ihb.setLine
    · exact ihb)
theorem Steady.mapDataFirst {s0 s} (h : Steady s0 s) {g n} : Steady s0 (mapDataFirst g n s) := .ite h (h.forEach (fun _ _ ihb => ihb.dieWrite))
theorem Steady.backLine {s0 s} (h : Steady s0 s) {n l} : Steady s0 (backLine n l s) :=
  have hb := h.mapDataFirst.validate;
  (Steady.ite hb.setLost (.ite hb.setLost hb.dieWrite)).closeAll.flushedLine
theorem Steady.settleLine {s0 s} (h : Steady s0 s) {n} : Steady s0 (settleLine n s) := by
  unfold Machine.settleLine
  split
  · exact .ite h.setLine h
  · exact h
theorem Steady.backLines {s0 s} (h : Steady s0 s) {lines held} : Steady s0 (backLines lines held s) :=
  h.forEach (fun _ _ ihb => by
    split
    · exact ihb.backLine
    · split
      · exact .ite ihb.backLine.settleLine ihb.flushedLine
      · exact ihb.flushedLine)
theorem Steady.rmwRead {s0 s} (h : Steady s0 s) {n a} : Steady s0 (rmwRead n a s) := h.modHc
theorem Steady.readNow {s0 s} (h : Steady s0 s) {source fc n repair errs} : Steady s0 (readNow source fc n repair errs s).2 :=
  Steady.itePair h.readParcel h
theorem Steady.perform {s0 s} (h : Steady s0 s) {n a errs} : Steady s0 (perform n a errs s) := by
  unfold Machine.perform
  split
  · split
    · rename_i _ tb heq
      have htc := Steady.of_snd h.readNow heq
      split
      · exact htc.forEach (fun _ _ ihd => ihd.jobBad)
      · exact htc.forEach (fun _ _ ihe => ihe.jobLine)
  · exact .ite
      (by
        split
        · rename_i _ tf heq
          have htg := Steady.of_snd h.readNow heq
          split
          · exact htg.jobFail
          · exact htg.rmwRead.jobRead)
      h.validate.dropRepair.dieWrite.patchLines.jobPart
  · split
    · rename_i _ th heq
      have hti := Steady.of_snd h.readNow heq
      exact hti.update
  · exact .ite h.readNow.rmwRead h.dropRepair.backLines
theorem Steady.noteDrop {s0 s} (h : Steady s0 s) {n} : Steady s0 (noteDrop n s) := by
  unfold Machine.noteDrop
  exact h.modHc.modDie
theorem Steady.dropAccess {s0 s} (h : Steady s0 s) {n a} : Steady s0 (dropAccess n a s) := by
  unfold Machine.dropAccess
  exact h.noteDrop.takeAccess.modHc
theorem Steady.noteAccess {s0 s} (h : Steady s0 s) {n bank now w} : Steady s0 (noteAccess n bank now w s) := h.modHc.add48.acted.acted
theorem Steady.serve {s0 s} (h : Steady s0 s) {n now a dropped errs} : Steady s0 (serve n now a dropped errs s) :=
  .ite h.noteAccess.dropAccess h.noteAccess.takeAccess.perform
theorem Steady.serveBooked {s0 s} (h : Steady s0 s) {n now a dropped errs} : Steady s0 (serveBooked n now a dropped errs s) :=
  (Steady.ite h.addSat.cause h).serve
theorem Steady.payOpen {s0 s} (h : Steady s0 s) {n w reclaimed} {act : State → State} (hact : ∀ t, Steady s0 t → Steady s0 (act t)) :
    Steady s0 (payOpen n w reclaimed act s) := .ite (hact _ h) (.ite (hact _ h.modHc) (.ite h.addSat h.addSat.update.cause))
theorem Steady.noteDynamic {s0 s} (h : Steady s0 s) {n a t} : Steady s0 (noteDynamic n a t s) := by
  unfold Machine.noteDynamic
  exact (Steady.ite h.modHc.addSat (.ite h.addSat.addSat h)).modHc
theorem Steady.notePanic {s0 s} (h : Steady s0 s) {n now dir} : Steady s0 (notePanic n now dir s) := .ite h.addSat h
theorem Steady.scrubBerth {s0 s} (h : Steady s0 s) {n now dropped errs} : Steady s0 (scrubBerth n now dropped errs s) :=
  .ite h.noteAccess.noteDrop h.noteAccess.scrubRead
theorem Steady.repairBerth {s0 s} (h : Steady s0 s) {n now dropped r} : Steady s0 (repairBerth n now dropped r s) :=
  .ite h.noteAccess.noteDrop h.noteAccess.repairWrite
theorem Steady.openBerth {s0 s} (h : Steady s0 s) {n e now dir reclaimed dropped errs} : Steady s0 (openBerth n e now dir reclaimed dropped errs s) :=
  .ite
    h.modHc
    (have hw := h.modHc.modHc.notePanic;
    by
      split
      · exact hw.payOpen (fun _ ihx => ihx.repairBerth)
      · split
        · exact .ite hw.addSat (hw.payOpen (fun _ ihy => ihy.noteDynamic.serve))
        · exact .ite (hw.payOpen (fun _ ihz => ihz.modHc.scrubBerth)) hw)
theorem Steady.refreshBank {s0 s} (h : Steady s0 s) {n b now forced dropped} : Steady s0 (refreshBank n b now forced dropped s) :=
  have he := h.modHc.setReg.acted;
  have hf := Steady.ite he.noteDrop he;
  .ite hf.addSat.cause hf
theorem Steady.refreshEntry {s0 s} (h : Steady s0 s) {n now dropped} : Steady s0 (Machine.refreshEntry n now dropped s).2 := by
  unfold Machine.refreshEntry
  extract_lets x
  split
  · exact .pair h.setHc.refreshBank
  · dsimp only
    split
    · exact .pair h.setHc
    · exact .pair h.setHc.refreshBank
theorem Steady.repairCopy {s0 s} (h : Steady s0 s) {n now r errs} : Steady s0 (Machine.repairCopy n now r errs s) := by
  unfold Machine.repairCopy
  refine .ite ?_ (.ite (Steady.ite h.noteAccess.setLost h.noteAccess).modHc h)
  exact h.noteAccess.readParcel.modHc.put
theorem Steady.repairCopyBerth {s0 s} (h : Steady s0 s) {n now dropped r errs} : Steady s0 (repairCopyBerth n now dropped r errs s) :=
  .ite h.noteAccess.noteDrop h.repairCopy
theorem Steady.runBerth {s0 s} (h : Steady s0 s) {n e now dropped errs} : Steady s0 (runBerth n e now dropped errs s) := by
  unfold Machine.runBerth
  extract_lets
  split
  · exact .ite h (by
      split
      · exact h.serveBooked
      · exact h.openBerth)
  · exact .ite h h.openBerth
  · exact .ite
      (by
        split
        · rename_i tb heq
          have htc := Steady.of_snd h.refreshEntry heq
          exact htc
        · rename_i td heq
          have hte := Steady.of_snd h.refreshEntry heq
          exact hte.openBerth)
      h.openBerth
  · exact .ite h.scrubBerth h.openBerth
  · exact h.openBerth
  · split
    · exact .ite h.repairCopyBerth h.openBerth
    · split
      · exact h.repairBerth
      · exact h.openBerth
  · exact h
  · exact h
  · exact h
theorem Steady.berth {s0 s} (h : Steady s0 s) {n dropped errs} : Steady s0 (berth n dropped errs s) :=
  .ite
    h
    (Steady.ite h.runBerth (.ite (by
      split
      · exact .ite h.refreshEntry h
      · exact h) h)).runPlans.modHc
theorem Steady.hcBoundary {s0 s} (h : Steady s0 s) {n} : Steady s0 (hcBoundary n s) := h.modHc.pinErase
theorem Steady.hcRelease {s0 s} (h : Steady s0 s) {n} : Steady s0 (hcRelease n s) := h.modHc
theorem Steady.policyChanged {s0 s} (h : Steady s0 s) : Steady s0 (policyChanged s) := h.forEach (fun _ _ ihb => ihb.modHc)

/-! ### Requests -/

theorem Steady.rdRun {s0 s} (h : Steady s0 s) {p e g} : Steady s0 (rdRun p e g s) := by
  unfold Machine.rdRun
  extract_lets
  split
  · rename_i _ tb heq
    have htc := Steady.of_snd h.newJob heq
    exact .ite
      (htc.forEach (fun _ _ ihd => ihd.lookup))
      (((htc.forEach (fun _ _ ihe => ihe.lookup)).forEach (fun _ _ ihk => ihk.jobLine)).forEach (fun _ _ ihn => .ite ihn ihn.pushAccess))
theorem Steady.wrRun {s0 s} (h : Steady s0 s) {p e g wseq} : Steady s0 (wrRun p e g wseq s) := by
  unfold Machine.wrRun
  extract_lets
  split
  · rename_i _ tb heq
    have htc := Steady.of_snd h.newJob heq
    exact (htc.modJob.forEach (fun _ _ ihf => ihf.pushAccess)).runPlan
theorem Steady.atomicRun {s0 s} (h : Steady s0 s) {p e g wseq} : Steady s0 (atomicRun p e g wseq s) := by
  unfold Machine.atomicRun
  extract_lets
  split
  · rename_i _ tb heq
    have htc := Steady.of_snd h.newJob heq
    exact htc.lookup
theorem Steady.runMemory {s0 s} (h : Steady s0 s) {p e} : Steady s0 (Machine.runMemory p e s) := by
  unfold Machine.runMemory
  extract_lets wseq s1 s2
  have h1 : Steady s0 s1 := h.modEntry
  have h2 : Steady s0 s2 := .ite h1.acted h1
  split
  · refine Steady.answerNak ?_
    clear_value wseq
    split
    · exact h2.wseqClose
    · exact h2
  · split
    · exact h2.rdRun
    · exact h2.wrRun
    · exact h2.wrRun
    · exact h2.enqRun
    · exact h2.deqRun
    · exact h2.peekRun
    · exact h2.dropRun
    · exact h2.moveRun
    · exact h2.atomicRun
theorem Steady.deliverRequest {s0 s} (h : Steady s0 s) {p t0} : Steady s0 (deliverRequest p t0 s) :=
  have hb := h.update.modLink;
  .ite hb.wseqHold hb
theorem Steady.takeEntry {s0 s} (h : Steady s0 s) {p e} : Steady s0 (takeEntry p e s) := h.modLink
theorem Steady.judgeRequest {s0 s} (h : Steady s0 s) {p e} : Steady s0 (judgeRequest p e s) :=
  .ite
    h.forwardRequest
    (by
      split
      · exact h.answerNak
      · exact .ite (by
          split
          · exact h.answerNak
          · exact h) h)
theorem Steady.admitNext {s0 s} (h : Steady s0 s) {p} : Steady s0 (admitNext p s) := by
  unfold Machine.admitNext
  split
  · exact h
  · exact .ite h.takeEntry.judgeRequest h
theorem Steady.freeSlots {s0 s} (h : Steady s0 s) {p n} : Steady s0 (freeSlots p n s) := h.modLink
theorem Steady.takeDelivered {s0 s} (h : Steady s0 s) {p t} : SteadyIfSome s0 (takeDelivered p t s) :=
  .ite .none (.ite (.some h.modLink.acted) (.ite (.some h.acted) .none))

/-! ### Dram -/

theorem Steady.setMw {s0 s} (h : Steady s0 s) {d w v} : Steady s0 (setMw d w v s) := h.modDie
theorem Steady.copyRefresh {s0 s} (h : Steady s0 s) {d} : Steady s0 (copyRefresh d s) := h.modDie
theorem Steady.readMw13 {s0 s} (h : Steady s0 s) {d} : Steady s0 (readMw13 d s) := by
  unfold Machine.readMw13
  exact h.modDie
theorem Steady.readMw13All {s0 s} (h : Steady s0 s) : Steady s0 (readMw13All s) := h.forEach (fun _ _ ihb => .ite ihb ihb.readMw13)
theorem Steady.dieHot {s0 s} (h : Steady s0 s) {d hot85 hot95} : Steady s0 (dieHot d hot85 hot95 s) := h.setMw
theorem Steady.caParity {s0 s} (h : Steady s0 s) {n} : Steady s0 (caParity n s) :=
  .ite
    h.readMw13
    (have hh := h.readMw13.modHc.addSat.cause;
    .ite hh (.ite hh hh.modHc.modHc.retrainDecide))
theorem Steady.markExhausted {s0 s} (h : Steady s0 s) {n} : Steady s0 (markExhausted n s) := h.cause
theorem Steady.carryDq {s0 s} (h : Steady s0 s) {n line k src} : Steady s0 (carryDq n line k src s) := (Steady.ite h.put.put h.put.put).put
theorem Steady.carryCa {s0 s} (h : Steady s0 s) {n line src} : Steady s0 (carryCa n line src s) := h.put.put.put
theorem Steady.remapDq {s0 s} (h : Steady s0 s) {n line} : Steady s0 (remapDq n line s) :=
  .ite
    h
    (by
      split
      · exact h
      · exact have hb := h.carryDq.cause.ledgerAdd;
        .ite hb.markExhausted hb)
theorem Steady.remapCa {s0 s} (h : Steady s0 s) {n line} : Steady s0 (remapCa n line s) :=
  .ite
    h
    (by
      split
      · exact h
      · exact have hb := h.carryCa.cause.ledgerAdd;
        .ite hb.markExhausted hb)
theorem Steady.banksOut {s0 s} (h : Steady s0 s) {n} : Steady s0 (banksOut n s) := .ite h.setReg.put h.setReg.put.put.setReg.cause
theorem Steady.trainApply {s0 s} (h : Steady s0 s) {o} : Steady s0 (trainApply o s) := by
  unfold Machine.trainApply
  exact ((h.forEach (fun _ _ ihb => ihb.remapCa)).forEach (fun _ _ ihc => ihc.remapDq)).put.put.put.put.modHc
theorem Steady.hcFailed {s0 s} (h : Steady s0 s) {fail k} : Steady s0 (hcFailed fail k s) := .ite h h.put.put.cause
theorem Steady.trainHc {s0 s} (h : Steady s0 s) {o} : Steady s0 (trainHc o s) :=
  have hb := h.trainApply.put;
  .ite (hb.forEach (fun _ _ ihc => ihc.hcFailed)) (.ite hb hb.put)
theorem Steady.trainDie {s0 s} (h : Steady s0 s) {o} : Steady s0 (trainDie o s) := h.setMw.setMw.setMw.setMw.put.putFlag.put.copyRefresh
theorem Steady.resolveRepair {s0 s} (h : Steady s0 s) {e} : Steady s0 (resolveRepair e s) :=
  .ite (Steady.ite h.drew h).update (Steady.ite h.drew h).update
theorem Steady.resolveRepairs {s0 s} (h : Steady s0 s) : Steady s0 (resolveRepairs s) :=
  (h.forEach (fun _ _ ihb => ihb.resolveRepair)).forEach (fun _ _ ihe => ihe.modHc)
theorem Steady.retrained {s0 s} (h : Steady s0 s) {o} : Steady s0 (retrained o s) :=
  .ite
    (h.trainApply.forEach (fun _ _ ihd => ihd.hcFailed.banksOut))
    (.ite h.trainApply h.trainApply.put)
theorem Steady.fieldRetrain {s0 s} (h : Steady s0 s) {n} : Steady s0 (fieldRetrain n s) := by
  unfold Machine.fieldRetrain
  split
  · exact h
  · exact .ite h h.modHc.put.put.put
theorem Steady.fieldRetrainEnd {s0 s} (h : Steady s0 s) {o} : Steady s0 (fieldRetrainEnd o s) :=
  .ite h h.modHc.addField.put.cause.retrained.copyRefresh
theorem Steady.hcCtrlWrite {s0 s} (h : Steady s0 s) {n v} : Steady s0 (hcCtrlWrite n v s) := .ite h.put.put.retrainDecide h.put
theorem Steady.trackingPass {s0 s} (h : Steady s0 s) {n errors wckMove dqMoves} : Steady s0 (trackingPass n errors wckMove dqMoves s) :=
  .ite
    h
    (have hf := h.setHc.put.add48;
    have hg := Steady.ite hf.cause.retrainDecide hf;
    .ite hg.retrainDecide hg)
theorem Steady.confirmSelfRefresh {s0 s} (h : Steady s0 s) {d} : Steady s0 (confirmSelfRefresh d s) :=
  h.update.setMw.put.put.put.forEach (fun _ _ ihh => .ite ihh ihh.put)
theorem Steady.leaveSelfRefresh {s0 s} (h : Steady s0 s) {d} : Steady s0 (leaveSelfRefresh d s) :=
  h.update.put.put.put.forEach (fun _ _ ihh => .ite ihh ihh.drewMany.modHc.put)
theorem Steady.repairRequest {s0 s} (h : Steady s0 s) {p} : Steady s0 (repairRequest p s) := by
  unfold Machine.repairRequest
  extract_lets
  split
  · exact h.put.put.put.cause
  · exact h.put.put.repairBegin
theorem Steady.hcRepairWrite {s0 s} (h : Steady s0 s) {n v} : Steady s0 (hcRepairWrite n v s) := .ite h (.ite h.put.cause h.repairRequest)
theorem Steady.modTest {s0 s} (h : Steady s0 s) {f} : Steady s0 (State.modTest s f) := h.update
theorem Steady.ledgerWrite {s0 s} (h : Steady s0 s) {kind verdict} : Steady s0 (ledgerWrite kind verdict s) := h.modTest
theorem Steady.ledgerUpdateCopy {s0 s} (h : Steady s0 s) : Steady s0 (ledgerUpdateCopy s) := h.ledgerWrite
theorem Steady.repairAdvance {s0 s} (h : Steady s0 s) {n} : Steady s0 (repairAdvance n s) := by
  unfold Machine.repairAdvance
  split
  · exact .ite (Steady.ite h.ledgerUpdateCopy h).modHc.put h
  · exact h
theorem Steady.repairCopies {s0 s} (h : Steady s0 s) {n now k} : Steady s0 (repairCopies n now k s) := by
  induction k generalizing s with
  | zero => exact h
  | succ k ih =>
    rw [Machine.repairCopies]
    split
    · exact ih h.repairCopy
    · exact h
theorem Steady.repairRelease {s0 s} (h : Steady s0 s) {n} : Steady s0 (repairRelease n s) := by
  unfold Machine.repairRelease
  split
  · exact h
  · exact h.repairAdvance.repairAdvance.repairCopies.update.modHc.put.put.put.put.cause.copyRefresh
theorem Steady.zeroRange {s0 s} (h : Steady s0 s) {lo hi} : Steady s0 (zeroRange lo hi s) := h.setDram (KMap.wf_filter _)
theorem Steady.fillRegion {s0 s} (h : Steady s0 s) {g} : Steady s0 (fillRegion g s) := .ite h.zeroRange h.zeroRange
theorem Steady.showFill {s0 s} (h : Steady s0 s) : Steady s0 (showFill s) := by
  unfold Machine.showFill
  split
  · exact h.put.put
  · exact h.put.putFlag.putFlag
theorem Steady.fillDone {s0 s} (h : Steady s0 s) : Steady s0 (fillDone s) := by
  unfold Machine.fillDone
  split
  · exact h
  · exact have hb := h.update.fillRegion;
    (Steady.ite hb hb.putFlag).cause.showFill
theorem Steady.queueFill {s0 s} (h : Steady s0 s) {g} : Steady s0 (queueFill g s) := h.update.put.showFill
theorem Steady.mapCheck {s0 s} (h : Steady s0 s) {target} : Steady s0 (Machine.mapCheck target s) := by
  unfold Machine.mapCheck
  extract_lets masks bad s1 reg
  have h1 : Steady s0 s1 := h.putFlag.put
  clear_value bad
  split
  · exact h1.put.put
  · exact .ite h1.put (h1.forEach fun _ _ ih => ih.stageWord).put
theorem Steady.meterSweep {s0 s} (h : Steady s0 s) : Steady s0 (meterSweep s) := by
  unfold Machine.meterSweep
  refine .ite h ?_
  extract_lets x
  split
  · exact .ite h.update h.update.lookup.lookup
  · exact .ite h h.put.putFlag.update
theorem Steady.meterSweepLate {s0 s} (h : Steady s0 s) : Steady s0 (meterSweepLate s) := .ite h.update.put.cause h

/-! ### Thermal -/

theorem Steady.setTherm {s0 s} (h : Steady s0 s) {v} : Steady s0 (State.setTherm s v) := h.update
theorem Steady.modTherm {s0 s} (h : Steady s0 s) {f} : Steady s0 (State.modTherm s f) := h.setTherm
theorem Steady.sensorConversion {s0 s} (h : Steady s0 s) {n reading faulty} : Steady s0 (sensorConversion n reading faulty s) := by
  unfold Machine.sensorConversion
  exact h.modTherm
theorem Steady.noteDiverge {s0 s} (h : Steady s0 s) {n} : Steady s0 (noteDiverge n s) := .ite h (.ite (.ite h h.modTherm.cause) h.modTherm)
theorem Steady.showBroken {s0 s} (h : Steady s0 s) : Steady s0 (showBroken s) := (h.forEach (fun _ _ ihb => ihb.setReg)).put
theorem Steady.breakSensor {s0 s} (h : Steady s0 s) {n c} : Steady s0 (breakSensor n c s) := h.modTherm.cause
theorem Steady.judgeSensor {s0 s} (h : Steady s0 s) {n} : Steady s0 (judgeSensor n s) :=
  .ite h (by
    split
    · exact h.breakSensor
    · exact h)
theorem Steady.queueLevel {s0 s} (h : Steady s0 s) {n} : Steady s0 (queueLevel n s) := h.update
theorem Steady.showPause {s0 s} (h : Steady s0 s) : Steady s0 (showPause s) := h.put
theorem Steady.applyLevel {s0 s} (h : Steady s0 s) {n} : Steady s0 (applyLevel n s) :=
  .ite h (have hb := h.put.put.cause.showPause;
  .ite hb.cause hb)
theorem Steady.judgeLevel {s0 s} (h : Steady s0 s) : Steady s0 (judgeLevel s) := by
  unfold Machine.judgeLevel
  exact .ite h.put.modTherm.queueLevel h.put.modTherm
theorem Steady.levelFall {s0 s} (h : Steady s0 s) : Steady s0 (levelFall s) := .ite h.modTherm.queueLevel h
theorem Steady.selectRate {s0 s} (h : Steady s0 s) {r} : Steady s0 (selectRate r s) := h.put.update.modTherm.cause
theorem Steady.judgeRate {s0 s} (h : Steady s0 s) : Steady s0 (judgeRate s) := by
  unfold Machine.judgeRate
  exact .ite h.selectRate (.ite h.selectRate h.modTherm)
theorem Steady.rateFall {s0 s} (h : Steady s0 s) : Steady s0 (rateFall s) := .ite h.selectRate h
theorem Steady.setBoundary {s0 s} (h : Steady s0 s) {v} : Steady s0 (setBoundary v s) :=
  .ite (.ite h.modTherm.put h.modTherm.put.put.cause) h.modTherm.put.put
theorem Steady.boundaryTrack {s0 s} (h : Steady s0 s) : Steady s0 (boundaryTrack s) := .ite h (.ite h.setBoundary (.ite h.setBoundary h))
theorem Steady.sinkStale {s0 s} (h : Steady s0 s) : Steady s0 (sinkStale s) := .ite h.put.cause h
theorem Steady.thmSinkWrite {s0 s} (h : Steady s0 s) {v} : Steady s0 (thmSinkWrite v s) :=
  have hb := h.put.put.modTherm;
  .ite hb.setBoundary hb
theorem Steady.thermStart {s0 s} (h : Steady s0 s) : Steady s0 (Machine.thermStart s) := by
  unfold Machine.thermStart
  extract_lets s1 best s2 top s3
  have h1 : Steady s0 s1 := h.forEach fun _ _ ih => .ite ih.judgeSensor ih
  have h2 : Steady s0 s2 := by
    refine h1.forEach fun n t ih => .ite ih.modTherm ?_
    split
    · exact ih.modTherm
    · exact ih.drew.modTherm
  have hcleared : Steady s0 { s2 with activity := [] } := h2.setActivity fun _ => rfl
  have h3 : Steady s0 s3 := hcleared.showBroken
  clear_value s3 top
  refine .ite h3.setBoundary ?_
  split
  · exact h3.drew.setBoundary
  · exact h3.setBoundary
theorem Steady.showNodes {s0 s} (h : Steady s0 s) : Steady s0 (showNodes s) := h.drew.setTherm.put.put
theorem Steady.keepTrail {s0 s} (h : Steady s0 s) : Steady s0 (keepTrail s) := h.modTherm
theorem Steady.modelUpdate {s0 s} (h : Steady s0 s) : Steady s0 (Machine.modelUpdate s) := by
  unfold Machine.modelUpdate
  refine .ite h ?_
  extract_lets s1 s2 next _ s3 s4
  have h1 : Steady s0 s1 := h.modTherm
  have h2 : Steady s0 s2 := .ite h1.setBoundary h1
  have hcleared : Steady s0 { (s2.modTherm fun x => { x with model := next }) with activity := [] } := h2.modTherm.setActivity fun _ => rfl
  have h3 : Steady s0 s3 := hcleared.keepTrail
  have h4 : Steady s0 s4 := (h3.forEach fun _ _ ih => ih.noteDiverge.judgeSensor).showBroken
  exact h4.judgeLevel.judgeRate.showNodes
theorem Steady.lifeCount {s0 s} (h : Steady s0 s) : Steady s0 (lifeCount s) :=
  .ite h (have hd := Steady.ite h.addSat.modTherm.addSat h.addSat;
  .ite hd.modTherm.cause hd)
theorem Steady.oscCorrect {s0 s} (h : Steady s0 s) {ppm} : Steady s0 (oscCorrect ppm s) := h.put.put
theorem Steady.monitorRead {s0 s} (h : Steady s0 s) {readings} : Steady s0 (monitorRead readings s) := by
  unfold Machine.monitorRead
  exact h.modTherm.modTherm

/-! ### Otp -/

theorem Steady.showOtp {s0 s} (h : Steady s0 s) : Steady s0 (showOtp s) := h.put.put.put
theorem Steady.otpCritical {s0 s} (h : Steady s0 s) : Steady s0 (otpCritical s) := h.put.cause.update
theorem Steady.otpRead {s0 s} (h : Steady s0 s) {bad} : Steady s0 (otpRead bad s) :=
  have hd := h.update.update;
  (Steady.ite hd.put hd).showOtp
theorem Steady.notPreserved {s0 s} (h : Steady s0 s) : Steady s0 (notPreserved s) := .ite h.put.put.raiseEvent h
theorem Steady.fuseRead {s0 s} (h : Steady s0 s) {bad incomplete} : Steady s0 (fuseRead bad incomplete s) :=
  have he3 := ((h.update.otpRead.foldl (fun _ _ ihm2 => ihm2.cause)).forEach (fun _ _ ihx2 => .ite ihx2.cause.update ihx2.cause)).forEach (fun _ _ ihd3 => ihd3.otpCritical);
  (Steady.ite he3.notPreserved he3).put
theorem Steady.otpReread {s0 s} (h : Steady s0 s) {bad} : Steady s0 (otpReread bad s) := (Steady.ite h.otpRead.otpCritical h.otpRead).update.put.put
theorem Steady.otpPass {s0 s} (h : Steady s0 s) : Steady s0 (Machine.otpPass s) :=
  have hcounted : Steady s0 { s with otp := { s.otp with passes := s.otp.passes + 1 } } :=
    h.growOtp ⟨fun _ hr => hr, fun _ hk => hk, Nat.le_succ _⟩
  hcounted.showOtp
theorem Steady.spendSpare {s0 s} (h : Steady s0 s) {k redirs} :
    Steady s0 { s with otp := { s.otp with redirs := redirs, spent := natSetBit s.otp.spent k } } :=
  h.growOtp ⟨fun _ hr => hr, fun _ hk => natBit_natSetBit hk, Nat.le_refl _⟩
theorem Steady.otpWriteIn {s0 s} (h : Steady s0 s) {copies r w v} : Steady s0 (otpWriteIn copies r w v s) := h.update
theorem Steady.otpWrite {s0 s} (h : Steady s0 s) {r w v} : Steady s0 (otpWrite r w v s) := h.otpWriteIn
theorem Steady.redirectTake {s0 s} (h : Steady s0 s) {row k} : Steady s0 (redirectTake row k s) :=
  .ite h.spendSpare.showOtp.cause.cause h.spendSpare.showOtp.cause
theorem Steady.otpRedirect {s0 s} (h : Steady s0 s) {row} : SteadyIfSome s0 (otpRedirect row s) := by
  unfold Machine.otpRedirect
  split
  · exact .ite (.some h.redirectTake) .none
  · exact .none
theorem Steady.otpMove {s0 s} (h : Steady s0 s) {row stuck} : Steady s0 (otpMove row stuck s).2 := by
  unfold Machine.otpMove
  refine .itePair ?_ ?_
  · split
    · exact h.spendSpare
    · exact h
  · split
    next t heq => exact h.otpRedirect t heq
    next => exact h
theorem Steady.otpProgram {s0 s} (h : Steady s0 s) {r point redirect stuck ws} : Steady s0 (Machine.otpProgram r point redirect stuck ws s).2 := by
  induction ws generalizing s with
  | nil => exact h
  | cons w rest ih =>
    rw [Machine.otpProgram]
    have hmoved (need : List Nat) : Steady s0 (need.foldl (fun (t : Bool × State) c =>
        if t.1 then Machine.otpMove (otpMainRow r c (point + w.2)) (stuck.contains (2 * w.2 + c)) t.2 else t) (true, s)).2 :=
      .foldlPair (r := (true, s)) h fun _ _ ih => .itePair ih.otpMove ih
    exact .itePair (ih (hmoved _).otpWrite) (.pair (hmoved _).otpWriteIn.cause)
theorem Steady.otpAppend {s0 s} (h : Steady s0 s) {r data redirect stuck} : Steady s0 (otpAppend r data redirect stuck s).2 := h.otpProgram
theorem Steady.otpTear {s0 s} (h : Steady s0 s) {r data n} : Steady s0 (otpTear r data n s) := h.forEach (fun _ _ ihb => ihb.otpWrite)
theorem Steady.otpSeal {s0 s} (h : Steady s0 s) {r} : Steady s0 (Machine.otpSeal r s) :=
  have hsealed : Steady s0 { s with otp := { s.otp with seals := natSetBit s.otp.seals r } } :=
    h.growOtp ⟨fun _ hr => natBit_natSetBit hr, fun _ hk => hk, Nat.le_refl _⟩
  hsealed.cause

/-! ### Power -/

theorem Steady.showMode {s0 s} (h : Steady s0 s) : Steady s0 (showMode s) :=
  have hb := h.putFlag.putFlag.putFlag;
  .ite hb.put hb
theorem Steady.setMode {s0 s} (h : Steady s0 s) {m} : Steady s0 (setMode m s) := h.put.showMode
theorem Steady.modeEnd {s0 s} (h : Steady s0 s) {r status cause} : Steady s0 (modeEnd r status cause s) := h.setReg.causeWith
theorem Steady.setStep {s0 s} (h : Steady s0 s) {n} : Steady s0 (setStep n s) := h.update
theorem Steady.closeIntake {s0 s} (h : Steady s0 s) : Steady s0 (closeIntake s) := h.update
theorem Steady.openIntake {s0 s} (h : Steady s0 s) : Steady s0 (openIntake s) := h.update
theorem Steady.parkPort {s0 s} (h : Steady s0 s) {p} : Steady s0 (parkPort p s) := (Steady.ite h h.portFall).modPort
theorem Steady.unparkPort {s0 s} (h : Steady s0 s) {p} : Steady s0 (unparkPort p s) := h.modPort
theorem Steady.sentinelWrite {s0 s} (h : Steady s0 s) : Steady s0 (sentinelWrite s) := (h.drew.update.forEach (fun _ _ ihf => ihf.acted.acted)).put
theorem Steady.holdPorts {s0 s} (h : Steady s0 s) : Steady s0 (holdPorts s) :=
  (h.forEach (fun _ _ ihb => have he := ihb.when (fun _ ihc => ihc.forEach (fun _ _ ihd => ihd.saveCoeffs));
  .ite he he.parkPort)).update
theorem Steady.stepStart {s0 s} (h : Steady s0 s) {target n} : Steady s0 (stepStart target n s) :=
  .ite
    (.ite h.closeIntake (.ite h.holdPorts h))
    (.ite
      (by
        split
        · exact h.closeIntake
        · exact h.entryFlushStart
        · exact h.forEach (fun _ _ ihb => .ite (ihb.forEach (fun _ _ ihc => ihc.saveCoeffs)) ihb)
        · exact h.sentinelWrite
        · exact h.update.forEach (fun _ _ ihd => ihd.parkPort)
        · exact h)
      (.ite
        (by
          split
          · exact h.closeIntake
          · exact h.entryFlushStart
          · exact h.sentinelWrite
          · exact h)
        (.ite
          (by
            split
            · exact h.closeIntake
            · exact h.entryFlushStart
            · exact .ite h h.sentinelWrite
            · exact h.forEach (fun _ _ ihe => ihe.enterDark)
            · exact h)
          (.ite h.update h))))
theorem Steady.goStep {s0 s} (h : Steady s0 s) {n} : Steady s0 (goStep n s) := by
  unfold Machine.goStep
  split
  · exact h.setStep.stepStart
  · exact h
theorem Steady.transitionStart {s0 s} (h : Steady s0 s) : Steady s0 (transitionStart s) := by
  unfold Machine.transitionStart
  split
  · exact h
  · exact .ite (.ite h.update.goStep h.update) h.update.goStep
theorem Steady.modeBegin {s0 s} (h : Steady s0 s) {r} : Steady s0 (modeBegin r s) := by
  unfold Machine.modeBegin
  split
  · exact h.modeEnd
  · exact have hb := Steady.ite h.commitWithdraw h;
    .ite hb.update hb.update.transitionStart
theorem Steady.takePending {s0 s} (h : Steady s0 s) : Steady s0 (takePending s) := by
  unfold Machine.takePending
  split
  · exact h.update.modeBegin
  · exact h
theorem Steady.pendRequest {s0 s} (h : Steady s0 s) {r} : Steady s0 (pendRequest r s) := by
  unfold Machine.pendRequest
  extract_lets s1
  have h1 : Steady s0 s1 := by
    dsimp only [s1]
    split
    · exact h.modeEnd
    · exact h
  exact h1.update
theorem Steady.modeUndo {s0 s} (h : Steady s0 s) {t} : Steady s0 (modeUndo t s) :=
  (Steady.ite h (h.forEach (fun _ _ ihb => ihb.leaveSelfRefresh))).update.update.put.put
theorem Steady.clearLatch {s0 s} (h : Steady s0 s) : Steady s0 (clearLatch s) := h.setReg
theorem Steady.modeRequest {s0 s} (h : Steady s0 s) {host r} : Steady s0 (Machine.modeRequest host r s).2 := by
  unfold Machine.modeRequest
  refine .itePair h.modeEnd ?_
  split
  · exact h.modeBegin
  · refine .itePair ?_ h.pendRequest
    extract_lets _ s1 _ s2
    have h1 : Steady s0 s1 := by
      dsimp only [s1]
      split
      · refine Steady.modeEnd ?_
        exact h.update
      · exact h
    have hidle : Steady s0 { s1 with modes := { s1.modes with inflight := none } } := h1.update
    exact .itePair hidle.modeEnd.modeBegin h1.commitWithdraw.update
theorem Steady.safeRequest {s0 s} (h : Steady s0 s) : Steady s0 (safeRequest s) := h.modeRequest
theorem Steady.wakeExit {s0 s} (h : Steady s0 s) : Steady s0 (wakeExit s) := by
  unfold Machine.wakeExit
  exact h.update.transitionStart
theorem Steady.modeFinish {s0 s} (h : Steady s0 s) {m} : Steady s0 (modeFinish m s) := by
  unfold Machine.modeFinish
  split
  · exact h
  · exact have hb := h.update.setMode.modeEnd;
    .ite hb.wakeExit (Steady.ite hb.clearLatch hb).takePending
theorem Steady.modeFail {s0 s} (h : Steady s0 s) {cause} : Steady s0 (modeFail cause s) := by
  unfold Machine.modeFail
  split
  · exact h
  · exact h.modeUndo.modeEnd.clearLatch.takePending
theorem Steady.abortPoint {s0 s} (h : Steady s0 s) {next} : Steady s0 (abortPoint next s) := by
  unfold Machine.abortPoint
  split
  · exact h
  · split
    · exact h.modeUndo.modeEnd.clearLatch.modeBegin
    · exact .ite h.modeUndo.modeEnd.clearLatch.takePending h.goStep
theorem Steady.passCommit {s0 s} (h : Steady s0 s) : Steady s0 (passCommit s) := h.update
theorem Steady.modesBoundary {s0 s} (h : Steady s0 s) : Steady s0 (modesBoundary s) := by
  unfold Machine.modesBoundary
  split
  · exact h
  · exact .ite
      (.ite h h.transitionStart)
      (.ite
        h.abortPoint
        (.ite
          h.abortPoint
          (.ite
            h.goStep
            (.ite h.goStep (.ite h.abortPoint (.ite h.modeFinish (.ite h.modeFinish (.ite h.modeFinish h))))))))
theorem Steady.abandonPort {s0 s} (h : Steady s0 s) {p} : Steady s0 (abandonPort p s) :=
  (h.forEach (fun _ _ ihb => ihb.answerNak)).forEach (fun _ _ ihe => ihe.takeEntry.answerNak)
theorem Steady.drainEnd {s0 s} (h : Steady s0 s) : Steady s0 (drainEnd s) := by
  unfold Machine.drainEnd
  split
  · exact .ite
      h
      (.ite
        (have hc := h.forEach (fun _ _ ihb => ihb.abandonPort);
        .ite hc.goStep hc)
        (.ite h (.ite h.abortPoint h)))
  · exact h
theorem Steady.drainTimeout {s0 s} (h : Steady s0 s) : Steady s0 (drainTimeout s) := by
  unfold Machine.drainTimeout
  split
  · exact .ite h (.ite h.drainEnd h.modeFail)
  · exact h
theorem Steady.coldTest {s0 s} (h : Steady s0 s) : Steady s0 (coldTest s) := by
  unfold Machine.coldTest
  split
  · exact .ite h.goStep h.setStep.update.put.put.setReg
  · exact h
theorem Steady.sleepEnd {s0 s} (h : Steady s0 s) : Steady s0 (sleepEnd s) := by
  unfold Machine.sleepEnd
  split
  · exact .ite
      h
      (.ite
        (h.setStep.forEach (fun _ _ ihb => ihb.parkPort)).raiseEvent.modeFinish
        (.ite h.passCommit.goStep (.ite h.abortPoint h)))
  · exact h
theorem Steady.flushEnd {s0 s} (h : Steady s0 s) : Steady s0 (flushEnd s) := by
  unfold Machine.flushEnd
  split
  · exact .ite
      h
      (.ite
        h.entryFlushEnd.abortPoint
        (.ite
          h.entryFlushEnd.goStep.sleepEnd
          (.ite
            (have hb := h.entryFlushEnd;
            by
              split
              · exact hb.abortPoint
              · exact hb.coldTest.sleepEnd)
            h)))
  · exact h
theorem Steady.copyDone {s0 s} (h : Steady s0 s) : Steady s0 (copyDone s) := by
  unfold Machine.copyDone
  split
  · exact .ite h.abortPoint h
  · exact h
theorem Steady.srfConfirm {s0 s} (h : Steady s0 s) {d} : Steady s0 (srfConfirm d s) :=
  .ite h.confirmSelfRefresh (.ite h.confirmSelfRefresh.sleepEnd h)
theorem Steady.srfUnconfirmed {s0 s} (h : Steady s0 s) {d} : Steady s0 (srfUnconfirmed d s) := by
  unfold Machine.srfUnconfirmed
  split
  · exact .ite
      h
      (.ite
        h.update
        (have hc := h.put.forEach (fun _ _ ihb => ihb.cause);
        .ite (hc.setStep.forEach (fun _ _ ihd => ihd.parkPort)).raiseEvent.modeFinish hc.modeFail))
  · exact h
theorem Steady.waitInstruction {s0 s} (h : Steady s0 s) : Steady s0 (waitInstruction s) := by
  unfold Machine.waitInstruction
  split
  · exact .ite h.passCommit.goStep (.ite h.passCommit.goStep h)
  · exact h
theorem Steady.wakeSource {s0 s} (h : Steady s0 s) {bit} : Steady s0 (wakeSource bit s) :=
  .ite h (.ite h.setReg (have hd := Steady.ite h.setReg.cause h.setReg;
  .ite hd.wakeExit hd))
theorem Steady.latchBoundary {s0 s} (h : Steady s0 s) : Steady s0 (latchBoundary s) := .ite h (.ite h h.clearLatch)
theorem Steady.releaseHeld {s0 s} (h : Steady s0 s) {p} : Steady s0 (releaseHeld p s) := .ite h h.askLedger
theorem Steady.idleExit {s0 s} (h : Steady s0 s) : Steady s0 (idleExit s) := by
  unfold Machine.idleExit
  split
  · exact .ite (h.openIntake.forEach (fun _ _ ihb => ihb.unparkPort.releaseHeld)).setReg.modeFinish h
  · exact h
theorem Steady.sentinelFailed {s0 s} (h : Steady s0 s) {r} : Steady s0 (sentinelFailed r s) :=
  h.bankSuspect.eccLog.forEach (fun _ _ ihd => ihd.readParcel)
theorem Steady.sentinelCheck {s0 s} (h : Steady s0 s) {bad us} : Steady s0 (sentinelCheck bad us s) :=
  (h.forEach (fun _ _ ihb => ihb.sentinelFailed)).put.put.put.cause
theorem Steady.retentionExit {s0 s} (h : Steady s0 s) {outcomes bad us} : Steady s0 (retentionExit outcomes bad us s) := by
  unfold Machine.retentionExit
  split
  · exact .ite
      h
      (have hn := Steady.ite h.setCross.cause h.setCross;
      .ite
        (((hn.forEach (fun _ _ iho => iho.leaveSelfRefresh)).forEach (fun _ _ ihy => ihy.retrained)).thermStart.sentinelCheck.forEach (fun _ _ ihf1 => ihf1.unparkPort)).setStep
        (.ite hn.goStep.sleepEnd hn.goStep.sleepEnd))
  · exact h
theorem Steady.retentionRelease {s0 s} (h : Steady s0 s) : Steady s0 (retentionRelease s) := by
  unfold Machine.retentionRelease
  split
  · exact .ite
      (h.put.update.put.forEach (fun _ _ ihh => ihh.modHc)).put.sentinelWrite.openIntake.setReg.modeFinish
      h
  · exact h
theorem Steady.maintenanceExit {s0 s} (h : Steady s0 s) : Steady s0 (maintenanceExit s) := by
  unfold Machine.maintenanceExit
  split
  · exact .ite (.ite (.ite h h.update) h.modeFinish) h
  · exact h
theorem Steady.maintenanceCommit {s0 s} (h : Steady s0 s) {swap} : Steady s0 (maintenanceCommit swap s) := by
  unfold Machine.maintenanceCommit
  split
  · exact .ite (Steady.ite h.imageSwap h).update.modeFinish (.ite h.imageSwap.update.modeFinish h)
  · exact h
theorem Steady.noteLevel {s0 s} (h : Steady s0 s) {rail mv} : Steady s0 (noteLevel rail mv s) := h.update.update
theorem Steady.railBelow {s0 s} (h : Steady s0 s) {rail mv} : Steady s0 (Machine.railBelow rail mv s) := by
  unfold Machine.railBelow
  extract_lets s1 _ s2 _ s3
  have h1 : Steady s0 s1 := h.put
  have h2 : Steady s0 s2 := h1.update
  have h3 : Steady s0 s3 := by
    dsimp only [s3]
    split
    · exact h2
    · exact h2.update
  exact h3.put.noteLevel
theorem Steady.railAbove {s0 s} (h : Steady s0 s) {rail} : Steady s0 (railAbove rail s) := h.update.put
theorem Steady.railRecovery {s0 s} (h : Steady s0 s) {rail above} : Steady s0 (railRecovery rail above s) := .ite h.railAbove.update h.update.put
theorem Steady.dipRecord {s0 s} (h : Steady s0 s) {atReset x} : Steady s0 (dipRecord atReset x s) := h.setReg.setReg.addSat.update
theorem Steady.excursionEnd {s0 s} (h : Steady s0 s) : Steady s0 (excursionEnd s) := by
  unfold Machine.excursionEnd
  split
  · exact h.dipRecord.causeWith
  · exact h
theorem Steady.shedEffect {s0 s} (h : Steady s0 s) {n on} : Steady s0 (shedEffect n on s) := by
  unfold Machine.shedEffect
  split
  · exact h.putFlag
  · exact h.put.showPause
  · exact .ite
      (h.forEach (fun _ _ ihb => (Steady.ite ihb ihb.portFall).modPort.update))
      (h.forEach (fun _ _ ihd => ihd.modPort))
  · exact h.put.showPause
  · exact h
theorem Steady.shedNext {s0 s} (h : Steady s0 s) : Steady s0 (shedNext s) := .ite h h.put.cause.shedEffect.update
theorem Steady.shedUndo {s0 s} (h : Steady s0 s) : Steady s0 (shedUndo s) :=
  .ite h (have hb := h.put.shedEffect;
  .ite hb.put.excursionEnd hb)
theorem Steady.restorationStart {s0 s} (h : Steady s0 s) : Steady s0 (restorationStart s) := .ite h (.ite h.excursionEnd h.put.update.update)
theorem Steady.undoNext {s0 s} (h : Steady s0 s) : Steady s0 (undoNext s) := .ite h.update h
theorem Steady.supplyBoundary {s0 s} (h : Steady s0 s) : Steady s0 (supplyBoundary s) := .ite h (.ite h.update h.update.update)

/-! ### Selftest -/

theorem Steady.replaceSeen {s0 s} (h : Steady s0 s) {c} : Steady s0 (replaceSeen c s) := h.modTest
theorem Steady.tsvUncovered {s0 s} (h : Steady s0 s) {i} : Steady s0 (tsvUncovered i s).2 := h.replaceSeen
theorem Steady.tsvCover {s0 s} (h : Steady s0 s) {kind n line i spare} : Steady s0 (tsvCover kind n line i spare s).2 := by
  unfold Machine.tsvCover
  split
  · exact h.ledgerAdd.cause
  · exact h.tsvUncovered
theorem Steady.tsvMeasured {s0 s} (h : Steady s0 s) {i mohm short} : Steady s0 (tsvMeasured i mohm short s).2 := by
  unfold Machine.tsvMeasured
  refine .itePair h ?_
  extract_lets last known entry s1
  have h1 : Steady s0 s1 := h.modTest
  have hspare : Steady s0 (if tsvFailed s1 i then s1.modTest fun x => { x with deadSpares := insertSorted i x.deadSpares } else s1) :=
    .ite h1.modTest h1
  refine .itePair h1 ?_
  split
  · exact .itePair h1.tsvUncovered (.itePair (.itePair h1.tsvUncovered hspare) (.itePair h1 h1.tsvCover))
  · exact .itePair (.itePair h1.tsvUncovered hspare) (.itePair h1 h1.tsvCover)
theorem Steady.disableWay {s0 s} (h : Steady s0 s) {slice way} : Steady s0 (disableWay slice way s) := h.invalidateLines.update
theorem Steady.startRow {s0 s} (h : Steady s0 s) {p} : Steady s0 (startRow p s) :=
  have hb := h.modHc.causeWith;
  .ite hb (.ite hb.bankSuspect hb.ledgerAdd.update)
theorem Steady.applyFinding {s0 s} (h : Steady s0 s) {start f} : Steady s0 (Machine.applyFinding start f s).2 := by
  unfold Machine.applyFinding
  split
  · exact h
  · exact .itePair h.modTest.pair (.pair h.modTest)
  · exact .itePair h.modTest.pair (.pair h.modTest)
  · exact h.disableWay
  · exact h.tsvMeasured
  · exact .ite h.startRow h.rowSuspect
  · exact .ite h.readParcel h
  · exact h.replaceSeen
theorem Steady.applyFindings {s0 s} (h : Steady s0 s) {start l k} : Steady s0 (applyFindings start l (k, s)).2 := by
  induction l generalizing s k with
  | nil => exact h
  | cons f l ih => exact ih h.applyFinding
theorem Steady.runPhase {s0 s} (h : Steady s0 s) {start phase findings} : Steady s0 (runPhase start phase findings s) :=
  .ite h.applyFindings.setReg.modTest h.applyFindings.setReg
theorem Steady.mergeRecorded {s0 s} (h : Steady s0 s) : Steady s0 (mergeRecorded s) := h.update
theorem Steady.ledgerTake {s0 s} (h : Steady s0 s) {c} : Steady s0 (ledgerTake c s) := h.modTest.update
theorem Steady.showBanks {s0 s} (h : Steady s0 s) {n banks} : Steady s0 (showBanks n banks s) := .ite h.setReg.put.put.setReg.cause h.setReg.put
theorem Steady.loadSpare {s0 s} (h : Steady s0 s) {e} : Steady s0 (loadSpare e s) := .ite h.update h
theorem Steady.applyList {s0 s} (h : Steady s0 s) : Steady s0 (Machine.applyList s) := by
  unfold Machine.applyList
  extract_lets s1 rows _ s2
  have h1 : Steady s0 s1 := h.forEach fun _ _ ih => .ite ih.showBanks ih
  clear_value s1
  have hlisted (spares retired) : Steady s0 { s1 with dram := { s1.dram with spares := spares, retired := retired } } := h1.setDram id
  have h2 : Steady s0 s2 := hlisted _ _
  exact (h2.forEach fun _ _ ih => ih.loadSpare).put
theorem Steady.applyRemap {s0 s} (h : Steady s0 s) {e} : Steady s0 (applyRemap e s) := by
  unfold Machine.applyRemap
  extract_lets
  split
  · exact have hb := Steady.ite h.carryDq.cause h.carryDq;
    .ite hb.markExhausted hb
  · exact have hc := Steady.ite h.carryCa.cause h.carryCa;
    .ite hc.markExhausted hc
  · exact h
theorem Steady.applyRemaps {s0 s} (h : Steady s0 s) : Steady s0 (applyRemaps s) := (h.forEach (fun _ _ ihb => ihb.applyRemap)).update

/-! ### Start -/

theorem Steady.modStart {s0 s} (h : Steady s0 s) {f} : Steady s0 (State.modStart s f) := h.update
theorem Steady.modAlways {s0 s} (h : Steady s0 s) {f} : Steady s0 (State.modAlways s f) := h.update
theorem Steady.modPurser {s0 s} (h : Steady s0 s) {f} : Steady s0 (State.modPurser s f) := h.update
theorem Steady.jobEnd {s0 s} (h : Steady s0 s) {num status result} : Steady s0 (jobEnd num status result s) := by
  unfold Machine.jobEnd
  split
  · exact h
  · exact h.modPurser.put.causeWith
theorem Steady.resetJobs {s0 s} (h : Steady s0 s) {kind} : Steady s0 (resetJobs kind s) := by
  unfold Machine.resetJobs
  refine .ite (h.forEach fun _ _ ih => ih.jobEnd) ?_
  extract_lets s1
  have h1 : Steady s0 s1 := by
    dsimp only [s1]
    split
    · exact .ite h.drew.otpTear h
    · exact h
  exact h1.modPurser.update
theorem Steady.keepBelow {s0 s} (h : Steady s0 s) {below} : Steady s0 (keepBelow below s) := h.put
theorem Steady.showStrap {s0 s} (h : Steady s0 s) : Steady s0 (showStrap s) := h.put.put.put
theorem Steady.idleInBand {s0 s} (h : Steady s0 s) : Steady s0 (idleInBand s) := h.forEach (fun _ _ ihb => .ite ihb.put.modPurser ihb)
theorem keptRepair (p q : Nat × HcSt)
    (h : (if p.2.rowRepair.isSome then some (p.1, { HcSt.reset with rowRepair := p.2.rowRepair }) else none) = some q) :
    q.1 = p.1 ∧ q.2 ≠ HcSt.reset := by
  split at h
  case isTrue hsome =>
    cases h
    exact ⟨rfl, fun he => by rw [show p.2.rowRepair = none from congrArg HcSt.rowRepair he] at hsome; cases hsome⟩
  case isFalse => cases h
theorem Steady.resetParts {s0 s} (h : Steady s0 s) : Steady s0 (resetParts s) :=
  h.trans ⟨rfl, rfl, .refl _, fun hc => ⟨KMap.wf_filter _ hc.regs, hc.mem, rfl, rfl, rfl, rfl, rfl, KMap.wf_filterMap keptRepair hc.hcs, rfl⟩⟩
theorem Steady.resetLogic {s0 s} (h : Steady s0 s) : Steady s0 (resetLogic s) :=
  have he := h.resetParts.showStrap.keepBelow;
  have hf := Steady.ite he.put.put.put.idleInBand he;
  .ite hf.ldgEnd hf
theorem Steady.showAnchor {s0 s} (h : Steady s0 s) : Steady s0 (showAnchor s) := by
  unfold Machine.showAnchor
  split
  · exact h
  · exact h.setReg.put.setReg.setReg.setReg
theorem Steady.recordWseq {s0 s} (h : Steady s0 s) {p} : Steady s0 (recordWseq p s) := h.setReg.setReg
theorem Steady.closeExcursion {s0 s} (h : Steady s0 s) {atReset} : Steady s0 (closeExcursion atReset s) := by
  unfold Machine.closeExcursion
  split
  · exact h.dipRecord.modAlways
  · exact h
theorem Steady.anchorStart {s0 s} (h : Steady s0 s) {kind source flushed} : Steady s0 (anchorStart kind source flushed s) :=
  ((Steady.ite h.commitReset (h.commitReset.forEach (fun _ _ ihi => ihi.recordWseq))).resetJobs.modAlways.forEach (fun _ _ ihm => ihm.portFall.towCut)).update
theorem Steady.holdOrDelay {s0 s} (h : Steady s0 s) {source} : Steady s0 (holdOrDelay source s) := by
  unfold Machine.holdOrDelay
  exact h.modStart
theorem Steady.startCommon {s0 s} (h : Steady s0 s) : Steady s0 (startCommon s) := by
  unfold Machine.startCommon
  exact have hf := h.update.setMode.putFlag.putFlag.putFlag;
  have hg := Steady.ite hf.raiseEvent hf;
  (Steady.ite hg.cause hg).modAlways
theorem Steady.startFromSelftest {s0 s} (h : Steady s0 s) : Steady s0 (startFromSelftest s) := h.startCommon.put.thermStart.drawTag
theorem Steady.arrayCut {s0 s} (h : Steady s0 s) : Steady s0 (arrayCut s) :=
  .ite h (have hh := h.drew.drew.drew;
  .ite hh hh.modAlways)
theorem Steady.resetEnd {s0 s} (h : Steady s0 s) {source} : Steady s0 (resetEnd source s) :=
  have hb := h.arrayCut.resetLogic.showAnchor;
  .ite (hb.startFromSelftest.forEach (fun _ _ ihe => ihe.leaveDark)) hb.holdOrDelay
theorem Steady.resetHeld {s0 s} (h : Steady s0 s) {kind source} : Steady s0 (resetHeld kind source s) :=
  .ite h (.ite h h.commitReset.resetJobs.modAlways.update.resetEnd)
theorem Steady.retentionTrip {s0 s} (h : Steady s0 s) : Steady s0 (retentionTrip s) := h.anchorStart.modAlways.closeExcursion.resetEnd
theorem Steady.resetTrigger {s0 s} (h : Steady s0 s) {kind source flushed} : Steady s0 (resetTrigger kind source flushed s) :=
  .ite (.ite h.modStart.modAlways h) (.ite h.retentionTrip (.ite h.anchorStart (.ite h h.resetHeld)))
theorem Steady.anchorEnd {s0 s} (h : Steady s0 s) {confirmed} : Steady s0 (anchorEnd confirmed s) :=
  .ite h (h.forEach (fun _ _ ihb => ihb.confirmSelfRefresh)).modAlways.closeExcursion.resetEnd
theorem Steady.vaonRise {s0 s} (h : Steady s0 s) : Steady s0 (vaonRise s) := .ite h h.update.setMode
theorem Steady.vaonFall {s0 s} (h : Steady s0 s) : Steady s0 (vaonFall s) :=
  h.trans ⟨rfl, rfl, .of_eq ⟨rfl, rfl, rfl⟩, fun _ => ⟨rfl, rfl, rfl, rfl, rfl, rfl, rfl, rfl, rfl⟩⟩
theorem Steady.pwrgoodFall {s0 s} (h : Steady s0 s) : Steady s0 (pwrgoodFall s) := .ite h.update.closeExcursion.resetTrigger h.update
theorem Steady.resetLow {s0 s} (h : Steady s0 s) : Steady s0 (resetLow s) := .ite h.update.resetTrigger h.update
theorem Steady.resetRise {s0 s} (h : Steady s0 s) {nodeid} : Steady s0 (resetRise nodeid s) :=
  .ite h (.ite h.update (have hd := h.update.update;
  .ite hd hd.showStrap))
theorem Steady.railReset {s0 s} (h : Steady s0 s) {rail mv} : Steady s0 (railReset rail mv s) :=
  have hb := h.update.noteLevel;
  (Steady.ite hb.modAlways hb).closeExcursion.resetTrigger
theorem Steady.vqpsPresent {s0 s} (h : Steady s0 s) {mv} : Steady s0 (vqpsPresent mv s) :=
  have hd := h.update.putFlag;
  .ite hd hd.cause.modAlways
theorem Steady.thermalTrip {s0 s} (h : Steady s0 s) {node backstop} : Steady s0 (thermalTrip node backstop s) :=
  .ite h h.addField.put.putFlag.modAlways.update.resetTrigger
theorem Steady.startBegin {s0 s} (h : Steady s0 s) : Steady s0 (startBegin s) := h.startCommon.put
theorem Steady.startPins {s0 s} (h : Steady s0 s) : Steady s0 (startPins s) := .ite h.startBegin h
theorem Steady.startDelay {s0 s} (h : Steady s0 s) : Steady s0 (startDelay s) := .ite h.startBegin h
theorem Steady.reArm {s0 s} (h : Steady s0 s) : Steady s0 (reArm s) := .ite h.update.startPins h
theorem Steady.safeFromStart {s0 s} (h : Steady s0 s) {step} : Steady s0 (safeFromStart step s) :=
  have hb := h.put.put.modStart;
  .ite hb.update (hb.update.setStep.forEach (fun _ _ ihe => ihe.parkPort)).raiseEvent.modeFinish
theorem Steady.startArm {s0 s} (h : Steady s0 s) {plls} : Steady s0 (startArm plls s) := .ite h h.setCross.put.thermStart.drawTag.modPurser.put
theorem Steady.startFuse {s0 s} (h : Steady s0 s) {bad incomplete} : Steady s0 (startFuse bad incomplete s) := .ite h h.fuseRead.putFlag.put
theorem Steady.trySlot {s0 s} (h : Steady s0 s) {n b} : Steady s0 (trySlot n b s).2 := by
  unfold Machine.trySlot
  split
  · exact h
  · exact h.causeWith
theorem Steady.bootAccept {s0 s} (h : Steady s0 s) {n b} : Steady s0 (bootAccept n b s) :=
  h.put.setReg.put.put.modPurser.put.forEach (fun _ _ ihh => ihh.leaveDark)
theorem Steady.bootFail {s0 s} (h : Steady s0 s) : Steady s0 (bootFail s) := (h.put.put.put.forEach (fun _ _ ihd => ihd.leaveDark)).safeFromStart
theorem Steady.startBoot {s0 s} (h : Steady s0 s) {slot0 slot1} : Steady s0 (startBoot slot0 slot1 s) := by
  unfold Machine.startBoot
  refine .ite h ?_
  extract_lets skips both s1
  have h1 : Steady s0 s1 := .ite h.put.cause.modPurser h
  refine .ite h1.bootFail ?_
  split
  next ok0 s2 heq =>
    have h2 : Steady s0 s2 := .of_snd (.itePair h1 h1.trySlot) heq
    refine .ite h2.bootAccept ?_
    split
    next ok1 s3 heq =>
      have h3 : Steady s0 s3 := .of_snd (.itePair h2 h2.trySlot) heq
      exact .ite h3.bootAccept h3.bootFail
theorem Steady.selftestRun {s0 s} (h : Steady s0 s) {ledger findings} : Steady s0 (selftestRun ledger findings s) :=
  have hb := Steady.ite h.modTest h;
  have hc := (Steady.ite hb.ledgerTake (.ite hb hb.ledgerTake)).mergeRecorded;
  (Steady.ite hc.cause hc).applyList.put.put.setReg.putFlag.forEach (fun _ _ ihr => ihr.runPhase)
theorem Steady.trainBegin {s0 s} (h : Steady s0 s) : Steady s0 (trainBegin s) := h.forEach (fun _ _ ihb => ihb.put.put)
theorem Steady.startSelftest {s0 s} (h : Steady s0 s) {ledger findings} : Steady s0 (startSelftest ledger findings s) :=
  .ite h (.ite h.selftestRun.modAlways.safeFromStart h.selftestRun.modAlways.put.trainBegin)
theorem Steady.restoreRows {s0 s} (h : Steady s0 s) : Steady s0 (restoreRows s) := h.modAlways
theorem Steady.trainRun {s0 s} (h : Steady s0 s) {outcomes dies} : Steady s0 (trainRun outcomes dies s).1 :=
  (((h.modStart.forEach (fun _ _ ihb => ihb.leaveSelfRefresh)).update.applyRemaps.forEach (fun _ _ ihh2 => ihh2.trainDie)).forEach (fun _ _ ihr2 => ihr2.trainHc)).restoreRows.resolveRepairs.forEach (fun _ _ ihy2 => ihy2.copyRefresh)
theorem Steady.startTrain {s0 s} (h : Steady s0 s) {outcomes dies} : Steady s0 (startTrain outcomes dies s) :=
  .ite h (.ite h.trainRun.modAlways.safeFromStart h.trainRun.put)
theorem Steady.judgeRegion {s0 s} (h : Steady s0 s) {g} : Steady s0 (judgeRegion g s) := .ite h.put.put h.put.put.cause
theorem Steady.putDescriptor {s0 s} (h : Steady s0 s) {a w} : Steady s0 (putDescriptor a w s) := h.setReg
theorem Steady.defaultRegion {s0 s} (h : Steady s0 s) : Steady s0 (defaultRegion s) := h.put.put.setReg.put.setReg.setReg
theorem Steady.bootRegions {s0 s} (h : Steady s0 s) : Steady s0 (bootRegions s) := by
  unfold Machine.bootRegions
  split
  · exact h.defaultRegion
  · exact h.forEach (fun _ _ ihb => ihb.forEach (fun _ _ ihc => ihc.putDescriptor))
theorem Steady.fillMemory {s0 s} (h : Steady s0 s) : Steady s0 (fillMemory s) := h.setDram (KMap.wf_filter _)
theorem Steady.regionUp {s0 s} (h : Steady s0 s) {g} : Steady s0 (regionUp g s) := .ite h.putFlag.relink.cause h.putFlag
theorem Steady.startInit {s0 s} (h : Steady s0 s) {bad us} : Steady s0 (startInit bad us s) :=
  .ite
    h
    (.ite
      ((Steady.ite
        ((Steady.ite (by
          split
          · exact h.forEach (fun _ _ ihb => ihb.setReg)
          · exact h) h.bootRegions).forEach (fun _ _ ihk => ihk.judgeRegion)).sentinelCheck.put
        ((Steady.ite (by
          split
          · exact h.forEach (fun _ _ ihb => ihb.setReg)
          · exact h) h.bootRegions).forEach (fun _ _ ihk => ihk.judgeRegion)).fillMemory.modAlways).forEach (fun _ _ ihu => ihu.regionUp)).modAlways.put
      ((Steady.ite
        ((Steady.ite (by
          split
          · exact h.forEach (fun _ _ ihb => ihb.setReg)
          · exact h) h.bootRegions).forEach (fun _ _ ihk => ihk.judgeRegion)).sentinelCheck.put
        ((Steady.ite (by
          split
          · exact h.forEach (fun _ _ ihb => ihb.setReg)
          · exact h) h.bootRegions).forEach (fun _ _ ihk => ihk.judgeRegion)).fillMemory.modAlways).forEach (fun _ _ ihu => ihu.regionUp)).modAlways.modStart)
theorem Steady.startWarmup {s0 s} (h : Steady s0 s) {reached} : Steady s0 (startWarmup reached s) := .ite h (.ite h.modStart h.safeFromStart)
theorem Steady.releaseReports {s0 s} (h : Steady s0 s) : Steady s0 (releaseReports s) := by
  unfold Machine.releaseReports
  exact have hg := Steady.ite h.raiseEvent.raiseEvent h.raiseEvent;
  have hh := Steady.ite hg.cause hg;
  have hi := Steady.ite hh.causeWith hh;
  (Steady.ite hi.causeWith hi).modAlways
theorem Steady.startRelease {s0 s} (h : Steady s0 s) {us} : Steady s0 (startRelease us s) :=
  .ite
    h
    (h.setCross.put.timetableRelease.forEach (fun _ _ ihk => ihk.hcRelease)).sentinelWrite.openIntake.put.put.put.releaseReports.clearLatch.put.update.setMode
theorem Steady.resetRequest {s0 s} (h : Steady s0 s) {kind source flush} : Steady s0 (resetRequest kind source flush s) := h.modStart
theorem Steady.abandonTransition {s0 s} (h : Steady s0 s) : Steady s0 (abandonTransition s) := by
  unfold Machine.abandonTransition
  split
  · exact h
  · exact h.update.modeUndo
theorem Steady.portResetBegin {s0 s} (h : Steady s0 s) {p} : Steady s0 (portResetBegin p s) :=
  (Steady.ite h.abandonTransition.takePending h).portOnlyReset
theorem Steady.requestBegin {s0 s} (h : Steady s0 s) : Steady s0 (requestBegin s) := by
  unfold Machine.requestBegin
  extract_lets s1
  have h1 : Steady s0 s1 := h.modStart.forEach fun _ _ ih => ih.portResetBegin
  split
  · exact h1
  · exact .ite h1 (.ite h1.modStart.abandonTransition.update.openIntake.entryFlushStart h1.resetTrigger)
theorem Steady.drainFlush {s0 s} (h : Steady s0 s) : Steady s0 (drainFlush s) := .ite h.entryFlushStart h
theorem Steady.resetDrained {s0 s} (h : Steady s0 s) : Steady s0 (resetDrained s) := by
  unfold Machine.resetDrained
  split
  · exact h
  · exact .ite h.resetTrigger h

/-! ### Flags -/

theorem Steady.zeroRegs {s0 s} (h : Steady s0 s) {l} : Steady s0 (zeroRegs l s) := h.forEach (fun _ _ ihb => ihb.setReg)
theorem Steady.applyClear {s0 s} (h : Steady s0 s) {a} : Steady s0 (applyClear a s) := by
  unfold Machine.applyClear
  extract_lets
  split
  · exact h.zeroRegs
  · exact .ite
      h.zeroRegs.put.put
      (.ite h.zeroRegs.put (have hd := h.zeroRegs.setReg;
      .ite hd.put.put (.ite hd.update hd)))
theorem Steady.requestClear {s0 s} (h : Steady s0 s) {a} : Steady s0 (requestClear a s) := h.update
theorem Steady.applyClears {s0 s} (h : Steady s0 s) : Steady s0 (applyClears s) := h.update.forEach (fun _ _ ihb => ihb.applyClear)
theorem Steady.snapTrigger {s0 s} (h : Steady s0 s) {source event} : Steady s0 (Machine.snapTrigger source event s) := by
  unfold Machine.snapTrigger
  have hsnap : ∀ x, Steady s0 { s with snap := x } := fun _ => h.update
  have hdriven {t} (ht : Steady s0 t) : Steady s0 { t with pins := { t.pins with snapDrive := true, snapIgnore := true } } := ht.update
  refine .ite h ?_
  refine .ite (hdriven ?_) ?_
  all_goals
    split
    · exact hsnap _
    · split
      · exact (hsnap _).addSat
      · split
        · exact hsnap _
        · exact (hsnap _).addSat
theorem Steady.snapPin {s0 s} (h : Steady s0 s) : Steady s0 (snapPin s) := .ite h h.snapTrigger
theorem Steady.snapPulseEnd {s0 s} (h : Steady s0 s) : Steady s0 (snapPulseEnd s) := h.update
theorem Steady.snapLatch {s0 s} (h : Steady s0 s) {rails} : Steady s0 (snapLatch rails s) := by
  unfold Machine.snapLatch
  split
  · exact h
  · refine .ite h ?_
    extract_lets free s1
    have h1 : Steady s0 s1 := .ite h h.addSat.cause
    split
    · exact h1.update
    · exact h1.update
theorem Steady.snapDone {s0 s} (h : Steady s0 s) : Steady s0 (snapDone s) := by
  unfold Machine.snapDone
  split
  · exact h
  · split
    · exact h
    · exact h.update.put.put.cause
theorem Steady.snapAck {s0 s} (h : Steady s0 s) {mask} : Steady s0 (snapAck mask s) := h.update
theorem Steady.snapBoundary {s0 s} (h : Steady s0 s) : Steady s0 (snapBoundary s) := h.update
theorem Steady.logAppend {s0 s} (h : Steady s0 s) {rec} : Steady s0 (logAppend rec s) :=
  .ite h.update.put.update (have hd := h.update.put.put.addSat;
  .ite hd hd.update.cause)
theorem Steady.evtTailWrite {s0 s} (h : Steady s0 s) {v} : Steady s0 (evtTailWrite v s) := h.update.put
theorem Steady.evtLogLatch {s0 s} (h : Steady s0 s) : Steady s0 (evtLogLatch s) := h.update
theorem Steady.aggregateOne {s0 s} (h : Steady s0 s) {cross e r} : Steady s0 (aggregateOne cross e r s) := h.put.update.logAppend
theorem Steady.sendEvents {s0 s} (h : Steady s0 s) {cross l} : Steady s0 (sendEvents cross l s) :=
  h.forEach (fun _ _ ihb => ihb.forEach (fun _ _ ihc => ihc.pushNotice))
theorem Steady.showAlert {s0 s} (h : Steady s0 s) : Steady s0 (showAlert s) := h.putFlag
theorem Steady.aggregate {s0 s} (h : Steady s0 s) {cross} : Steady s0 (aggregate cross s) :=
  (h.update.forEach (fun _ _ ihb => ihb.aggregateOne)).sendEvents.showAlert.forEach (fun _ _ ihi => .ite ihi.snapTrigger ihi)

/-! ### Boundary -/

theorem Steady.replaceEval {s0 s} (h : Steady s0 s) : Steady s0 (replaceEval s) :=
  have hc := h.forEach (fun _ _ ihb => .ite ihb.replaceSeen ihb);
  .ite hc.put.cause hc
theorem Steady.stormExitNow {s0 s} (h : Steady s0 s) : Steady s0 (stormExitNow s) := .ite h.stormLeave h
theorem Steady.hwApply {s0 s} (h : Steady s0 s) {c} : Steady s0 (hwApply c s) := by
  unfold Machine.hwApply
  split
  · exact h.shedNext
  · exact h.shedUndo
  · exact h.applyLevel
  · exact h.stormEnter
  · exact h.stormExitNow
  · exact h.retireBankNow
  · exact h.maintenanceCommit
  · exact h.maintenanceCommit
theorem Steady.hardwareCommit {s0 s} (h : Steady s0 s) : Steady s0 (hardwareCommit s) :=
  .ite
    h
    (have ho := ((Steady.ite h.update.commitWithdraw h.update).forEach (fun _ _ ihn => ihn.hwApply)).stormBoundary;
    (Steady.ite ho.update.stormEnter ho).showMode.replaceEval)
theorem Steady.stormExit {s0 s} (h : Steady s0 s) : Steady s0 (stormExit s) := .ite h.update h
theorem Steady.prepare {s0 s} (h : Steady s0 s) : Steady s0 (prepare s) := by
  unfold Machine.prepare
  split
  · exact .ite h.update h
  · exact h
theorem Steady.readySample {s0 s} (h : Steady s0 s) : Steady s0 (readySample s) := by
  unfold Machine.readySample
  split
  · exact .ite h.update h
  · exact h
theorem Steady.regionSwitched {s0 s} (h : Steady s0 s) {c maskChange} : Steady s0 (regionSwitched c maskChange s) :=
  have hb := Steady.ite h.judgeRegion h;
  have hc := Steady.ite hb.putFlag hb;
  have hd := Steady.ite hc.regionEpoch hc;
  have he := Steady.ite hd.policyFlush hd;
  have hf := Steady.ite he.queueFill he;
  .ite hf.rebuildStart hf
theorem Steady.relocate {s0 s} (h : Steady s0 s) : Steady s0 (relocate s) := (h.forEach (fun _ _ ihb => ihb.modHc)).forEach (fun _ _ ihe => ihe.modHc)
theorem Steady.nodeFollows {s0 s} (h : Steady s0 s) : Steady s0 (nodeFollows s) := .ite h.put h.put.put.nodeChanged
theorem Steady.switchAll {s0 s} (h : Steady s0 s) : Steady s0 (switchAll s) :=
  have hc := (h.update.forEach (fun _ _ ihb => ihb.setReg)).put;
  have hi := (Steady.ite hc.imageSwap hc).forEach (fun _ _ ihh => ihh.regionSwitched);
  have hj := Steady.ite hi.relocate hi;
  (Steady.ite hj.policyChanged hj).nodeFollows
theorem Steady.commitSwitch {s0 s} (h : Steady s0 s) : Steady s0 (commitSwitch s) := by
  unfold Machine.commitSwitch
  split
  · exact h
  · exact .ite
      h
      (have hb := h.hardwareCommit;
      .ite hb (.ite hb.disarm.put.commitAbort hb.disarm.switchAll.setReg.setReg.put.put.update.raiseEvent))
theorem Steady.settle {s0 s} (h : Steady s0 s) : Steady s0 (settle s) := by
  unfold Machine.settle
  extract_lets s1 s2
  have h1 : Steady s0 s1 := h.hardwareCommit.commitSwitch
  have h2 : Steady s0 s2 := by
    dsimp only [s2]
    split
    · exact .ite h1.prepare (.ite h1.readySample h1)
    · exact h1
  exact h2.ledgerDecide
theorem Steady.advance {s0 s} (h : Steady s0 s) : Steady s0 (advance s) := h.setCross.put
theorem Steady.hwTake {s0 s} (h : Steady s0 s) : Steady s0 (hwTake s) := h.update
theorem Steady.judgeDemands {s0 s} (h : Steady s0 s) : Steady s0 (judgeDemands s) := .ite h.stormBoundary.hwTake h
theorem Steady.showCounts {s0 s} (h : Steady s0 s) : Steady s0 (showCounts s) := h.update.showLists
theorem Steady.settleBlocks {s0 s} (h : Steady s0 s) : Steady s0 (settleBlocks s) := by
  unfold Machine.settleBlocks
  exact ((((h.update.applyClears.sendRecords.showCounts.forEach (fun _ _ ihi4 => ihi4.linkBoundary.portBoundary)).forEach (fun _ _ ihk5 => ihk5.laneBoundary.towLaneBoundary)).forEach (fun _ _ ihy5 => ihy5.recharge)).update.reledger.readMw13All.forEach (fun _ _ ihi6 => ihi6.hcBoundary.repairAdvance.fieldRetrain)).retireRowsNow
theorem Steady.periodBoundary {s0 s} (h : Steady s0 s) : Steady s0 (periodBoundary s) := .ite h.update.rateBoundary h
theorem Steady.modeBoundary {s0 s} (h : Steady s0 s) : Steady s0 (modeBoundary s) :=
  have hb := h.modesBoundary.latchBoundary;
  .ite hb (hb.forEach (fun _ _ ihc => ihc.releaseHeld))
theorem Steady.suspendTick {s0 s} (h : Steady s0 s) : Steady s0 (suspendTick s) := h.update
theorem Steady.recPending {s0 s} (h : Steady s0 s) : Steady s0 (recPending s) := .ite h.update.cause h
/-- At a crossing boundary the count of crossings goes up by one, and everything else is kept. -/
theorem Steady.boundary {s0 s} (h : Steady s0 s) : Steady { s0 with ticks := s0.ticks + 1 } (Machine.boundary s) := by
  unfold Machine.boundary
  extract_lets s1 live prev s2 s3 s4 s5
  have h1 : Steady s0 s1 := h.settle
  have h2 : Steady { s0 with ticks := s0.ticks + 1 } s2 :=
    ⟨h1.pending, congrArg (· + 1) h1.ticks, h1.otp, fun hc =>
      have hs := h1.canonical ⟨hc.regs, hc.mem, hc.lanes, hc.ports, hc.tows, hc.links, hc.fab, hc.hcs, hc.activity⟩
      ⟨hs.regs, hs.mem, hs.lanes, hs.ports, hs.tows, hs.links, hs.fab, hs.hcs, hs.activity⟩⟩
  have h3 : Steady { s0 with ticks := s0.ticks + 1 } s3 := h2.snapBoundary
  have h4 : Steady { s0 with ticks := s0.ticks + 1 } s4 := h3.aggregate
  have h5 : Steady { s0 with ticks := s0.ticks + 1 } s5 := h4.advance.hwTake.supplyBoundary.judgeDemands
  exact .ite h2 (.ite h4.advance (.ite h4.supplyBoundary
    h5.drainFlush.settleBlocks.periodBoundary.modeBoundary.suspendTick.replaceEval.recPending))

/-! ### Registers -/

theorem Steady.readEffect {s0 s} (h : Steady s0 s) {src a} : Steady s0 (readEffect src a s) := by
  unfold Machine.readEffect
  split
  · exact h
  · exact have hb := Steady.ite h h.setReg;
    have hc := Steady.ite hb.update hb;
    .ite hc.evtLogLatch (.ite hc.put hc)
theorem Steady.cfgRead {s0 s} (h : Steady s0 s) {src a} : Steady s0 (cfgRead src a s).2 := Steady.itePair h.readEffect h
theorem Steady.plainWrite {s0 s} (h : Steady s0 s) {r a v} : Steady s0 (plainWrite r a v s) := h.setReg
theorem Steady.commitCtrlWrite {s0 s} (h : Steady s0 s) {v} : Steady s0 (commitCtrlWrite v s) :=
  have hb := Steady.ite h.commitCancel h;
  have hc := Steady.ite hb.commitDiscard hb;
  .ite hc.commitArm hc
theorem Steady.modeReqWrite {s0 s} (h : Steady s0 s) {r v} : Steady s0 (modeReqWrite r v s) :=
  have hb := h.plainWrite.put;
  .ite hb.modeRequest hb
theorem Steady.qindWrite {s0 s} (h : Steady s0 s) {r v} : Steady s0 (qindWrite r v s) :=
  have hb := h.plainWrite.put;
  .ite hb (.ite hb.setProfile hb.qindRead)
theorem Steady.ldgWrite {s0 s} (h : Steady s0 s) {v} : Steady s0 (ldgWrite v s) := .ite h.setReg.ldgStart h.setReg
theorem Steady.loadWrite {s0 s} (h : Steady s0 s) {v} : Steady s0 (loadWrite v s) := .ite h.put.loadStart h.put
theorem Steady.mapWrite {s0 s} (h : Steady s0 s) {v} : Steady s0 (mapWrite v s) := .ite h.mapCheck h.put
theorem Steady.retireGo {s0 s} (h : Steady s0 s) : Steady s0 (retireGo s) := h.put.retireRequest
theorem Steady.snapWrite {s0 s} (h : Steady s0 s) {r v} : Steady s0 (snapWrite r v s) :=
  have hb := h.plainWrite.put;
  .ite hb.snapTrigger hb
theorem Steady.towCtrlWrite {s0 s} (h : Steady s0 s) {r p v} : Steady s0 (towCtrlWrite r p v s) := .ite h.plainWrite h.plainWrite.codeUnlock
theorem Steady.uzCtrlWrite {s0 s} (h : Steady s0 s) {r p v} : Steady s0 (uzCtrlWrite r p v s) := by
  unfold Machine.uzCtrlWrite
  exact h.plainWrite.modLink
theorem Steady.lateWrite {s0 s} (h : Steady s0 s) {r a v} : Steady s0 (lateWrite r a v s) := h.plainWrite.update
theorem Steady.staleRewritten {s0 s} (h : Steady s0 s) {a} : Steady s0 (staleRewritten a s) := .ite h.put h
theorem Steady.rangedStage {s0 s} (h : Steady s0 s) {a v} : Steady s0 (rangedStage a v s) :=
  .ite (.ite h.put.stageWord h.put) (.ite (.ite h.put.stageWord h.put) h.staleRewritten.stageWord)
theorem Steady.alertRise {s0 s} (h : Steady s0 s) : Steady s0 (alertRise s) := .ite h h.put
theorem Steady.writeLow {s0 s} (h : Steady s0 s) {r i a v} : Steady s0 (writeLow r i a v s) := by
  unfold Machine.writeLow
  refine .ite h.commitCtrlWrite (.ite h.towCtrlWrite (.ite h.wakeWrite (.ite h.uzCtrlWrite (.ite h.qindWrite (.ite h.loadWrite ?_)))))
  split
  next t heq => exact SteadyIfSome.ite h.laneWrite (.ite h.portWrite .none) t heq
  next => exact h.plainWrite
theorem Steady.writeHigh {s0 s} (h : Steady s0 s) {r i a v} : Steady s0 (writeHigh r i a v s) :=
  .ite
    h.hcCtrlWrite
    (.ite
      h.hcRepairWrite
      (.ite
        h.lateWrite
        (.ite
          h.mapWrite
          (.ite
            (.ite h.retireGo h)
            (.ite
              h.eccTailWrite
              (.ite
                h.ldgWrite
                (.ite
                  (.ite h.restoreWrite h)
                  (.ite
                    h.thmSinkWrite
                    (.ite
                      h.modeReqWrite
                      (.ite h.plainWrite.alertRise (.ite h.evtTailWrite (.ite h.snapWrite (.ite h.snapAck h.plainWrite)))))))))))))
theorem Steady.liveWrite {s0 s} (h : Steady s0 s) {r i a v} : Steady s0 (liveWrite r i a v s) :=
  .ite (.ite h.setReg.requestClear h) (.ite h.writeLow h.writeHigh)
theorem Steady.pairFail {s0 s} (h : Steady s0 s) {a src reason} : Steady s0 (pairFail a src reason s) := h.setReg.raiseEvent
theorem Steady.pairFirst {s0 s} (h : Steady s0 s) {a src v} : Steady s0 (pairFirst a src v s) := (Steady.ite h.pairFail h).update
theorem Steady.portResetRequest {s0 s} (h : Steady s0 s) {p inBand} : Steady s0 (portResetRequest p inBand s) := .ite h.modStart h.portOnlyReset
theorem Steady.resetCtrl {s0 s} (h : Steady s0 s) {src} : Steady s0 (resetCtrl src s) := .ite h.resetRequest (.ite h.portResetRequest h)
theorem Steady.forcedSeal {s0 s} (h : Steady s0 s) {r src} : Steady s0 (forcedSeal r src s) := .ite h.otpSeal h
theorem Steady.pairTake {s0 s} (h : Steady s0 s) {a src v} : Steady s0 (pairTake a src v s) := by
  unfold Machine.pairTake
  split
  · exact h
  · exact .ite (.ite h.plainWrite.forcedSeal h) h.plainWrite.resetCtrl
theorem Steady.pairSecond {s0 s} (h : Steady s0 s) {a src v} : Steady s0 (pairSecond a src v s) := by
  unfold Machine.pairSecond
  split
  · exact h.pairFail
  · exact .ite h.update.pairFail (.ite h.update.pairFail h.update.pairTake)
theorem Steady.pairExpire {s0 s} (h : Steady s0 s) {a} : Steady s0 (pairExpire a s) := by
  unfold Machine.pairExpire
  split
  · exact h
  · exact h.update.pairFail
theorem Steady.lockViol {s0 s} (h : Steady s0 s) {a src} : Steady s0 (lockViol a src s) := h.addField.put.put.raiseEvent
theorem Steady.suspendCheck {s0 s} (h : Steady s0 s) {r} : Steady s0 (suspendCheck r s) := .ite h.update h
theorem Steady.writeRow {s0 s} (h : Steady s0 s) {r i src a v} : Steady s0 (writeRow r i src a v s) := by
  unfold Machine.writeRow
  split
  · exact h.pairFirst
  · exact h.pairSecond
  · exact h.setReg
  · exact have hd := Steady.ite h.suspendCheck.rangedStage h.suspendCheck;
    .ite hd.liveWrite hd
theorem Steady.cfgWrite {s0 s} (h : Steady s0 s) {src a v} : Steady s0 (cfgWrite src a v s).2 :=
  Steady.itePair h (by
    split
    · exact h
    · exact Steady.itePair h.lockViol h.writeRow)
theorem Steady.write {s0 s} (h : Steady s0 s) {src a v} : Steady s0 (write src a v s) := h.cfgWrite
theorem Steady.cfgReadMany {s0 s} (h : Steady s0 s) {src a n} : Steady s0 (cfgReadMany src a n s).2 := by
  induction n generalizing a s with
  | zero => exact h
  | succ n ih => exact ih h.cfgRead
theorem Steady.cfgWriteMany {s0 s} (h : Steady s0 s) {src a bit l} : Steady s0 (cfgWriteMany src a bit l s).2 := by
  induction l generalizing a bit s with
  | nil => exact h
  | cons v l ih => exact ih h.cfgWrite
theorem Steady.checkCompare {s0 s} (h : Steady s0 s) : Steady s0 (checkCompare s) :=
  .ite h (.ite h.put.update (.ite h.put (have he := h.put.update.raiseEvent;
  .ite he.safeRequest he)))
theorem Steady.checkPass {s0 s} (h : Steady s0 s) : Steady s0 (checkPass s) :=
  .ite h (.ite h.setReg.setReg.put.put.update.checkCompare h.setReg.checkCompare)
theorem Steady.suspendEnd {s0 s} (h : Steady s0 s) : Steady s0 (suspendEnd s) := h.update

/-! ### Purser -/

theorem Steady.modBox {s0 s} (h : Steady s0 s) {m f} : Steady s0 (State.modBox s m f) := h.modPurser
theorem Steady.boxSubmit {s0 s} (h : Steady s0 s) {m owner port entry req} : Steady s0 (boxSubmit m owner port entry req s) := h.put.put.put.modBox
theorem Steady.boxRelease {s0 s} (h : Steady s0 s) {m} : Steady s0 (boxRelease m s) := h.put.modBox
theorem Steady.boxSend {s0 s} (h : Steady s0 s) {m} : Steady s0 (boxSend m s) := .ite h.mgmtSend h
theorem Steady.boxPost {s0 s} (h : Steady s0 s) {m r} : Steady s0 (boxPost m r s) := by
  unfold Machine.boxPost
  refine .ite h ?_
  extract_lets b msg s1
  have h1 : Steady s0 s1 := h.put.put.modBox
  split
  · exact h1.answer
  · exact h1.boxSend
theorem Steady.boxSettle {s0 s} (h : Steady s0 s) {m} : Steady s0 (boxSettle m s) := by
  unfold Machine.boxSettle
  extract_lets
  split
  · exact .ite h.boxRelease h
  · exact h.boxSend
theorem Steady.boxesSettle {s0 s} (h : Steady s0 s) : Steady s0 (boxesSettle s) := h.forEach (fun _ _ ihb => ihb.boxSettle)
theorem Steady.boxTimeout {s0 s} (h : Steady s0 s) {m} : Steady s0 (boxTimeout m s) := .ite h h.boxPost.addSat.cause
theorem Steady.i3cRelease {s0 s} (h : Steady s0 s) {m} : Steady s0 (i3cRelease m s) := .ite h.boxRelease h
theorem Steady.i3cSubmit {s0 s} (h : Steady s0 s) {m} : Steady s0 (i3cSubmit m s) := .ite h.i3cRelease h.i3cRelease.boxSubmit
theorem Steady.mbxRun {s0 s} (h : Steady s0 s) {p e} : Steady s0 (mbxRun p e s) :=
  .ite h.modEntry.answer (.ite h.modEntry.answer h.modEntry.boxSubmit)
theorem Steady.mgmtReply {s0 s} (h : Steady s0 s) {p payload status} : Steady s0 (mgmtReply p payload status s) := h.towEnqueue
theorem Steady.mgmtArrives {s0 s} (h : Steady s0 s) {p payload} : Steady s0 (mgmtArrives p payload s) :=
  .ite
    h
    (.ite
      h.mgmtReply
      (.ite
        h.mgmtReply
        (.ite
          h.mgmtReply
          (.ite
            h.mgmtReply
            (.ite h.mgmtReply (.ite h.modTow.mgmtReply (have hb := h.modTow.mgmtReply;
            .ite hb.boxSubmit hb)))))))
theorem Steady.mgmtEnded {s0 s} (h : Steady s0 s) {p m} : Steady s0 (mgmtEnded p m s) := .ite h.boxRelease h
theorem Steady.mgmtRetry {s0 s} (h : Steady s0 s) {p} : Steady s0 (mgmtRetry p s) := by
  unfold Machine.mgmtRetry
  split
  · exact h
  · exact .ite h.mgmtAgain.mgmtEnded h.mgmtAgain
theorem Steady.mgmtAckArrives {s0 s} (h : Steady s0 s) {p payload} : Steady s0 (mgmtAckArrives p payload s) := by
  unfold Machine.mgmtAckArrives
  split
  · exact h
  · exact .ite h (by
      split
      · exact .ite h.modTow.mgmtEnded h.mgmtSend
      · exact h.mgmtRetry
      · exact h)
theorem Steady.returned {s0 s} (h : Steady s0 s) {w b} : Steady s0 (State.returned s w b) := h.update
theorem Steady.i3cStore {s0 s} (h : Steady s0 s) {m window offset b} : Steady s0 (i3cStore m window offset b s) :=
  .ite (.ite h h.modBox) (.ite (.ite h.i3cSubmit (.ite h.i3cRelease h)) h)
theorem Steady.i3cStores {s0 s} (h : Steady s0 s) {m window offset l} : Steady s0 (i3cStores m window offset l s) := by
  induction l generalizing offset s with
  | nil => exact h.modPurser
  | cons b l ih => exact ih h.i3cStore
theorem Steady.i3cWrite {s0 s} (h : Steady s0 s) {bytes} : Steady s0 (i3cWrite bytes s) :=
  .ite h.wakeSource (by
    split
    · exact h.wakeSource.i3cStores
    · exact h.wakeSource)
theorem Steady.i3cRead {s0 s} (h : Steady s0 s) {n} : Steady s0 (i3cRead n s) :=
  .ite h.wakeSource h.wakeSource.modPurser.returned
theorem Steady.i3cCommand {s0 s} (h : Steady s0 s) {direct} {f : State → State} (hf : ∀ t, Steady s0 t → Steady s0 (f t)) :
    Steady s0 (i3cCommand direct f s) :=
  have hb : Steady s0 (Machine.when direct (Machine.wakeSource 17) s) := h.when fun _ ih => ih.wakeSource
  .ite (hf _ hb) hb
theorem Steady.setDynamic {s0 s} (h : Steady s0 s) {a} : Steady s0 (setDynamic a s) := h.put.put
theorem Steady.i3cError {s0 s} (h : Steady s0 s) : Steady s0 (i3cError s) := .ite h (h.addSat.when (fun _ ihb => ihb.cause))
theorem Steady.command {s0 s} (h : Steady s0 s) {m code fits} {run : List Byte → State → Answered × State}
    (hrun : ∀ l t, Steady s0 t → Steady s0 (run l t).2) : Steady s0 (command m code fits run s) :=
  .ite h (.ite h.boxPost (.ite h.boxPost (hrun _ _ h).boxPost))
theorem Steady.unknownCommand {s0 s} (h : Steady s0 s) {m} : Steady s0 (unknownCommand m s) := .ite h h.boxPost
theorem Steady.reply {s0 s} (h : Steady s0 s) {status data} : Steady s0 (reply status data s).2 := h
theorem Steady.runIdentity {s0 s} (h : Steady s0 s) {x} : Steady s0 (runIdentity x s).2 := h.reply
theorem Steady.runStatus {s0 s} (h : Steady s0 s) {x} : Steady s0 (runStatus x s).2 := h.reply
theorem Steady.runReset {s0 s} (h : Steady s0 s) {l} : Steady s0 (runReset l s).2 :=
  Steady.itePair h.reply (Steady.itePair h.reply (Steady.itePair h.portResetRequest.reply h.resetRequest.reply))
theorem Steady.runCfgRead {s0 s} (h : Steady s0 s) {m l} : Steady s0 (runCfgRead m l s).2 := Steady.itePair h.reply h.cfgReadMany.reply
theorem Steady.runCfgWrite {s0 s} (h : Steady s0 s) {m l} : Steady s0 (runCfgWrite m l s).2 := Steady.itePair h.reply h.cfgWriteMany.reply
theorem Steady.runEvtLogRead {s0 s} (h : Steady s0 s) {l} : Steady s0 (runEvtLogRead l s).2 := Steady.itePair h.reply h.reply
theorem Steady.runMode {s0 s} (h : Steady s0 s) {l} : Steady s0 (runMode l s).2 := Steady.itePair h.reply h.modeRequest.reply
theorem Steady.runFlashRead {s0 s} (h : Steady s0 s) {data l} : Steady s0 (runFlashRead data l s).2 := by
  unfold Machine.runFlashRead
  split
  · exact h.reply
  · exact h.cause.reply
theorem Steady.runOtpRead {s0 s} (h : Steady s0 s) {l} : Steady s0 (runOtpRead l s).2 := Steady.itePair h.reply h.reply
theorem Steady.runLedgerRead {s0 s} (h : Steady s0 s) {data l} : Steady s0 (runLedgerRead data l s).2 := Steady.itePair h.reply h.runFlashRead
theorem Steady.runRetire {s0 s} (h : Steady s0 s) {l} : Steady s0 (runRetire l s).2 := by
  unfold Machine.runRetire
  extract_lets v bank p t
  have ht : Steady s0 t := h.retireRequest
  split
  · exact ht
  · exact ht
theorem Steady.runSnapshot {s0 s} (h : Steady s0 s) {x} : Steady s0 (runSnapshot x s).2 := Steady.itePair h.reply h.snapTrigger.reply
theorem Steady.runSnapRead {s0 s} (h : Steady s0 s) {l} : Steady s0 (runSnapRead l s).2 := Steady.itePair h.reply h.reply
theorem Steady.runModelRead {s0 s} (h : Steady s0 s) {l} : Steady s0 (runModelRead l s).2 := Steady.itePair h.reply h.reply
theorem Steady.runJobResult {s0 s} (h : Steady s0 s) {l} : Steady s0 (runJobResult l s).2 :=
  Steady.itePair h.reply (by
    split
    · exact h.reply
    · exact h.reply)
theorem Steady.startJob {s0 s} (h : Steady s0 s) {code args} {begin_ : Nat → State → State}
    (hbegin : ∀ n t, Steady s0 t → Steady s0 (begin_ n t)) : Steady s0 (startJob code args begin_ s).2 :=
  .itePair h (hbegin _ _ h.modPurser.put.put)
theorem Steady.otpJobBegin {s0 s} (h : Steady s0 s) {j} : Steady s0 (otpJobBegin j s) := by
  unfold Machine.otpJobBegin
  split
  · exact h.jobEnd
  · exact .ite h.otpPass h
theorem Steady.otpQueueNext {s0 s} (h : Steady s0 s) {fuel} : Steady s0 (Machine.otpQueueNext fuel s) := by
  induction fuel generalizing s with
  | zero => exact h
  | succ fuel ih =>
    rw [Machine.otpQueueNext]
    split
    · exact h
    · refine .ite h ?_
      extract_lets _ s1
      have h1 : Steady s0 s1 := h.update
      split
      · exact ih h1
      · exact ih h1.otpJobBegin
theorem Steady.otpJobArrives {s0 s} (h : Steady s0 s) {code args n} : Steady s0 (otpJobArrives code args n s) :=
  .ite h.otpJobBegin (.ite h.jobEnd h.update)
theorem Steady.runFlashWrite {s0 s} (h : Steady s0 s) {l} : Steady s0 (runFlashWrite l s).2 :=
  Steady.itePair h.reply (h.startJob (fun _ _ ihb => ihb))
theorem Steady.runOtpProgram {s0 s} (h : Steady s0 s) {l} : Steady s0 (runOtpProgram l s).2 :=
  Steady.itePair h.reply (h.startJob (fun _ _ ihb => ihb.otpJobArrives))
theorem Steady.runOtpSeal {s0 s} (h : Steady s0 s) {l} : Steady s0 (runOtpSeal l s).2 :=
  Steady.itePair h.reply (h.startJob (fun _ _ ihb => ihb.otpJobArrives))
theorem Steady.bistBegin {s0 s} (h : Steady s0 s) {scope n} : Steady s0 (bistBegin scope n s) :=
  have he := h.modTest.put.put.setReg;
  .ite (he.forEach (fun _ _ ihf => ihf.testHoldSet)) he
theorem Steady.runBistRun {s0 s} (h : Steady s0 s) {l} : Steady s0 (runBistRun l s).2 :=
  Steady.itePair h.reply (Steady.itePair (h.startJob (fun _ _ ihb => ihb.bistBegin)) h.reply)
theorem Steady.rowRepairBegin {s0 s} (h : Steady s0 s) {p n} : Steady s0 (rowRepairBegin p n s) := by
  unfold Machine.rowRepairBegin
  split
  · exact h.repairRequest.jobEnd
  · exact h.repairRequest
theorem Steady.runRowRepair {s0 s} (h : Steady s0 s) {l} : Steady s0 (runRowRepair l s).2 :=
  Steady.itePair h.reply (h.startJob (fun _ _ ihb => ihb.rowRepairBegin))
theorem Steady.rowRepairEnd {s0 s} (h : Steady s0 s) {n} : Steady s0 (rowRepairEnd n s) := .ite h (h.forEach (fun _ _ ihb => ihb.jobEnd))
theorem Steady.testOver {s0 s} (h : Steady s0 s) {last} : Steady s0 (testOver last s) := h.modTest.put.put.put
theorem Steady.bistEnd {s0 s} (h : Steady s0 s) {n r findings} : Steady s0 (bistEnd n r findings s) :=
  have hc := h.forEach (fun _ _ ihb => ihb.runPhase);
  have he := Steady.ite (hc.forEach (fun _ _ ihd => ihd.testHoldClear)) hc;
  he.testOver.jobEnd.cause.when (fun _ ihh => ihh.cause)
theorem Steady.otpJobDone {s0 s} (h : Steady s0 s) {j o} : Steady s0 (otpJobDone j o s) :=
  (Steady.ite h.otpSeal.jobEnd (.ite h.otpAppend.jobEnd h.otpAppend.jobEnd)).showOtp.otpQueueNext
theorem Steady.jobDoneAt {s0 s} (h : Steady s0 s) {n flashOk o findings} : Steady s0 (jobDoneAt n flashOk o findings s) :=
  .ite
    h
    (by
      split
      · exact h
      · exact .ite
          (.ite h.jobEnd h.cause.jobEnd)
          (.ite (by
            split
            · exact .ite h h.bistEnd
            · exact h) (.ite h.rowRepairEnd (.ite h h.otpJobDone))))
theorem Steady.vqpsLost {s0 s} (h : Steady s0 s) {mv written} : Steady s0 (vqpsLost mv written s) :=
  .ite
    h.update
    (by
      split
      · exact h.update
      · exact (Steady.ite h.update.otpTear h.update).jobEnd.showOtp.otpQueueNext)
theorem Steady.recEnd {s0 s} (h : Steady s0 s) {result} : Steady s0 (recEnd result s) := h.showOtp.put.put.modTest
theorem Steady.recRegion {s0 s} (h : Steady s0 s) {r l o} : Steady s0 (recRegion r l o s).2 :=
  Steady.itePair h (Steady.itePair h.otpAppend h.otpAppend.update)
theorem Steady.recordingPass {s0 s} (h : Steady s0 s) {o4 o5 cut} : Steady s0 (recordingPass o4 o5 cut s) :=
  .ite
    h
    (.ite
      h.put.put
      (by
        split
        · exact h.put.put
        · extract_lets
          split
          · exact have hd := Steady.ite h.otpPass h.otpPass.otpTear;
            (Steady.ite hd hd.otpTear).recEnd
          · exact .ite h.otpPass.recRegion.recEnd h.otpPass.recRegion.recRegion.recEnd))
theorem Steady.ledgerStore {s0 s} (h : Steady s0 s) {kind verdict flashOk} : Steady s0 (ledgerStore kind verdict flashOk s) :=
  .ite h.ledgerWrite h.cause
theorem Steady.ledgerUpdate {s0 s} (h : Steady s0 s) {flashOk} : Steady s0 (ledgerUpdate flashOk s) := .ite h.ledgerStore h
theorem Steady.shutdownStore {s0 s} (h : Steady s0 s) {flashOk} : Steady s0 (shutdownStore flashOk s) := .ite h.ledgerStore h.ledgerStore
theorem Steady.shutdownPhase {s0 s} (h : Steady s0 s) {findings flashOk} : Steady s0 (Machine.shutdownPhase findings flashOk s) := by
  unfold Machine.shutdownPhase
  split
  · exact h
  · refine .ite h ?_
    split
    · exact h
    next f rest _ =>
      refine .ite h ?_
      extract_lets s1
      have h1 : Steady s0 s1 := .ite h.shutdownStore h.runPhase
      split
      · exact h1.testOver.abortPoint
      · have h2 (r : TestRun) : Steady s0 (s1.modTest fun x => { x with run := some r }) := h1.modTest
        exact (Steady.ite ((h2 _).put.forEach fun _ _ ih => ih.testHoldSet) (h2 _).put).abortPoint
theorem Steady.purserFault {s0 s} (h : Steady s0 s) {kind pc} : Steady s0 (purserFault kind pc s) := .ite h h.modPurser.put.setReg.modAlways
theorem Steady.watchdogRestart {s0 s} (h : Steady s0 s) : Steady s0 (watchdogRestart s) := .ite h.modPurser h
theorem Steady.watchdogExpiry {s0 s} (h : Steady s0 s) {pc} : Steady s0 (watchdogExpiry pc s) :=
  .ite
    h
    (have hb := Steady.ite h h.put.setReg.modAlways;
    (Steady.ite hb.addField.addField hb.addField).resetTrigger)
theorem Steady.watchdogCountClear {s0 s} (h : Steady s0 s) : Steady s0 (watchdogCountClear s) := .ite h.put.modPurser h

/-! ### Arrivals -/

theorem Steady.whenUp {s0 s} (h : Steady s0 s) {f : State → State} (hf : ∀ t, Steady s0 t → Steady s0 (f t)) : Steady s0 (whenUp f s) :=
  .ite (hf s h) h
theorem Steady.cfgRdRun {s0 s} (h : Steady s0 s) {p e} : Steady s0 (cfgRdRun p e s) := h.cfgReadMany.answer
theorem Steady.cfgWrRun {s0 s} (h : Steady s0 s) {p e} : Steady s0 (cfgWrRun p e s) := h.cfgWriteMany.answer
theorem Steady.runRequest {s0 s} (h : Steady s0 s) {p e} : Steady s0 (runRequest p e s) :=
  .ite h.cfgRdRun (.ite h.cfgWrRun (.ite h.mbxRun (.ite h.runMemory h)))
theorem Steady.runNext {s0 s} (h : Steady s0 s) {p} : Steady s0 (runNext p s) := by
  unfold Machine.runNext
  split
  · exact h.runRequest
  · exact h
theorem Steady.pumpPort {s0 s} (h : Steady s0 s) {p n} : Steady s0 (pumpPort p n s) := by
  induction n generalizing s with
  | zero => exact h
  | succ n ih => exact ih h.admitNext.runNext
theorem Steady.pumpAll {s0 s} (h : Steady s0 s) : Steady s0 (pumpAll s) :=
  (h.forEach (fun _ _ ihb => ihb.admitNext)).forEach (fun _ _ ihe => ihe.pumpPort)
theorem Steady.requestArrives {s0 s} (h : Steady s0 s) {p t sram} : Steady s0 (requestArrives p t sram s) := by
  unfold Machine.requestArrives
  split
  · exact h
  next s1 heq =>
    have h1 : Steady s0 s1 := h.takeDelivered s1 heq
    exact ((h1.forEach fun _ _ ih => ih.sramError).deliverRequest.when fun _ ih => ih.wakeSource).admitNext.runNext
theorem Steady.otherArrives {s0 s} (h : Steady s0 s) {p t} {f : State → State} (hf : ∀ t, Steady s0 t → Steady s0 (f t)) :
    Steady s0 (otherArrives p t f s) := by
  unfold Machine.otherArrives
  split
  · exact h
  next u heq => exact hf _ (h.takeDelivered u heq).freeSlots
theorem Steady.unknownArrives {s0 s} (h : Steady s0 s) {p t} : Steady s0 (unknownArrives p t s) :=
  .ite h (.ite h.requestArrives (h.otherArrives (fun _ ihb => ihb)))
theorem Steady.frameArrives {s0 s} (h : Steady s0 s) {p payload} {f : State → State} (hf : ∀ t, Steady s0 t → Steady s0 (f t)) :
    Steady s0 (frameArrives p payload f s) := .ite h (hf _ h.towTake)
theorem Steady.wakeDeclared {s0 s} (h : Steady s0 s) {p} : Steady s0 (wakeDeclared p s) := .ite h h.towContextsReset.cause.wakeSource
theorem Steady.modelTick {s0 s} (h : Steady s0 s) : Steady s0 (modelTick s) := by
  unfold Machine.modelTick
  refine .ite h ?_
  extract_lets s1
  have h1 : Steady s0 s1 := h.modelUpdate
  split
  · exact h1.thermalTrip
  · exact h1.replaceEval
theorem Steady.monitorTick {s0 s} (h : Steady s0 s) {readings} : Steady s0 (monitorTick readings s) :=
  .ite (by
    split
    · exact h.monitorRead.thermalTrip
    · exact h.monitorRead) h.monitorRead
theorem Steady.retentionResume {s0 s} (h : Steady s0 s) {outcomes bad us} : Steady s0 (retentionResume outcomes bad us s) :=
  have hb := h.retentionExit;
  .ite hb.modPurser hb
theorem Steady.prbsDwellEnd {s0 s} (h : Steady s0 s) {p lanes} : Steady s0 (prbsDwellEnd p lanes s) :=
  .ite h (h.forEach (fun _ _ ihb => ihb.prbsCount)).prbsVerifyEnd
theorem Steady.readOut {s0 s} (h : Steady s0 s) {src a} : Steady s0 (readOut src a s) := h.cfgRead.returned
theorem Steady.otpRereadPass {s0 s} (h : Steady s0 s) {bad} : Steady s0 (otpRereadPass bad s) := .ite h h.otpReread
theorem Steady.crossing {s0 s} (h : Steady s0 s) : Steady { s0 with ticks := s0.ticks + 1 } (crossing s) :=
  h.boundary.pumpAll.boxesSettle

/-! ### TestAccess -/

theorem Steady.modTap {s0 s} (h : Steady s0 s) {f} : Steady s0 (State.modTap s f) := h.modTest
theorem Steady.tapLoad {s0 s} (h : Steady s0 s) {code} : Steady s0 (tapLoad code s) := .ite h.modTap (h.modTap.when (fun _ ihb => ihb.cause))
theorem Steady.tapReset {s0 s} (h : Steady s0 s) : Steady s0 (tapReset s) := h.modTap
theorem Steady.tapBoundary {s0 s} (h : Steady s0 s) {code cells} : Steady s0 (tapBoundary code cells s) := .ite h.tapLoad.modTap h.tapLoad
theorem Steady.tapAccess {s0 s} (h : Steady s0 s) {isWrite a v} : Steady s0 (tapAccess isWrite a v s) := by
  unfold Machine.tapAccess
  extract_lets s1 r
  have h1 : Steady s0 s1 := h.tapLoad
  have hr : Steady s0 r.2 := .itePair h1.write h1.cfgRead
  exact .ite h1 hr.modTap.returned
theorem Steady.tapSelect {s0 s} (h : Steady s0 s) {die} : Steady s0 (tapSelect die s) := .ite h.tapLoad.modTap h.tapLoad
theorem Steady.tapWir {s0 s} (h : Steady s0 s) {v} : Steady s0 (tapWir v s) := .ite h.tapLoad.modTap h.tapLoad
theorem Steady.tapWdr {s0 s} (h : Steady s0 s) {v} : Steady s0 (tapWdr v s) := .ite h.tapLoad.modTap h.tapLoad
theorem Steady.forceSeal {s0 s} (h : Steady s0 s) {r} : Steady s0 (forceSeal r s) := .ite h.tapLoad h.tapAccess.tapAccess

/-! ### Every command -/

/-- A next state that keeps what the relation says. -/
def SteadyNext (s : State) (o : Host.Outcome State Fault Refusal) : Prop := ∃ t, o = .next t ∧ Steady s t

theorem SteadyNext.next {s t : State} (h : Steady s t) : SteadyNext s (.next t) := ⟨t, rfl, h⟩

/-- Every command but a crossing boundary. -/
theorem exec_steady (c : Instr) (s : State) (hc : c ≠ .crossingBoundary) : SteadyNext s (exec c s) := by
  have h : Steady s s := .refl s
  cases c with
  | crossingBoundary => exact absurd rfl hc
  | commitArm _ => exact .next h.write
  | commitCancel _ => exact .next h.write
  | commitDiscard _ => exact .next h.write
  | prepare => exact .next (h.whenUp fun _ ih => ih.prepare)
  | readySample => exact .next (h.whenUp fun _ ih => ih.readySample)
  | commitSwitch => exact .next (h.whenUp fun _ ih => ih.commitSwitch)
  | stagedFieldWrite _ _ _ => exact .next h.write
  | hardwareCommit => exact .next (h.whenUp fun _ ih => ih.hardwareCommit)
  | cfgCommitWindowExpiry => exact .next (h.whenUp fun _ ih => ih.suspendEnd)
  | vaonPorRise => exact .next h.vaonRise
  | vaonPorFall => exact .next h.vaonFall
  | sequenceViolation => exact .next h.modAlways
  | pwrgoodRise => exact .next h.update
  | pwrgoodFall => exact .next h.pwrgoodFall
  | resetNRise _ => exact .next h.resetRise
  | resetNLow => exact .next h.resetLow
  | vqpsPresent _ => exact .next h.vqpsPresent
  | railBelowWarning _ _ => exact .next h.railBelow
  | restorationStart => exact .next (h.whenUp fun _ ih => ih.restorationStart)
  | shedUndo => exact .next (h.whenUp fun _ ih => ih.undoNext)
  | railResetLevel _ _ => exact .next h.railReset
  | anchorEnd _ => exact .next h.anchorEnd
  | warmStartDelay => exact .next h.startDelay
  | startBegin => exact .next h.startPins
  | arm _ => exact .next h.startArm
  | fuse _ _ => exact .next h.startFuse
  | boot _ _ => exact .next h.startBoot
  | selftest _ _ => exact .next h.startSelftest.replaceEval
  | train _ _ => exact .next h.startTrain
  | init _ _ => exact .next h.startInit
  | warmup _ => exact .next h.startWarmup
  | release _ => exact .next h.startRelease
  | resetCtrlWarm _ _ => exact .next h.write.write
  | resetCtrlBaseDieOnly _ _ => exact .next h.write.write
  | resetCtrlPortOnly _ _ => exact .next h.write.write
  | resetDrainDone => exact .next h.resetDrained
  | resetRequestBegin => exact .next h.requestBegin
  | pairWindowExpiry _ => exact .next (h.whenUp fun _ ih => ih.pairExpire)
  | pllUnlock _ => exact .next (h.whenUp fun _ ih => ih.pllUnlock)
  | pllLock _ => exact .next (h.whenUp fun _ ih => ih.pllLock)
  | txApplyGo _ _ => exact .next h.write
  | towShapeWrite _ _ _ => exact .next h.write
  | maskWindowEnd _ _ => exact .next (h.whenUp fun _ ih => ih.maskWindow)
  | losAssert _ _ => exact .next (h.whenUp fun _ ih => ih.losTrigger)
  | losDeassert _ _ => exact .next (h.whenUp fun _ ih => ih.losDeasserted)
  | cdrUnlock _ => exact .next (h.whenUp fun _ ih => ih.cdrTrigger)
  | adaptRestore _ _ => exact .next (h.whenUp fun _ ih => ih.divergence)
  | coefficientSave _ => exact .next (.ite h.saveCoeffs h)
  | eqWriteGo _ _ _ => exact .next h.write
  | prbsLock _ => exact .next (h.whenUp fun _ ih => ih.prbsLocked)
  | prbsLockLost _ _ => exact .next (h.whenUp fun _ ih => ih.prbsLost)
  | prbsClear _ _ _ => exact .next h.write
  | clearPrefec _ _ _ => exact .next h.write
  | eyeStart _ _ _ => exact .next h.write
  | eyeDone _ _ _ _ _ => exact .next (h.whenUp fun _ ih => ih.eyeEnd)
  | portEnable _ _ _ => exact .next h.write
  | portDisable _ _ _ => exact .next h.write
  | testHoldSet _ _ _ => exact .next h.write
  | testHoldClear _ _ _ => exact .next h.write
  | retrain _ _ _ => exact .next h.write
  | stepGo _ _ _ => exact .next h.write
  | capTimer _ => exact .next (h.whenUp fun _ ih => ih.capTimer)
  | cap _ _ => exact .next (h.frameArrives fun _ ih => ih.capArrives)
  | sel _ _ => exact .next (h.frameArrives fun _ ih => ih.selArrives)
  | go _ _ => exact .next (h.frameArrives fun _ ih => ih.goArrives)
  | goTimeout _ => exact .next (h.whenUp fun _ ih => ih.goTimeout)
  | ledgerRetry _ => exact .next (h.whenUp fun _ ih => ih.ledgerRetry)
  | negotiateRestart _ => exact .next (h.whenUp fun _ ih => ih.negotiateRestart)
  | stageTimeout _ => exact .next (h.whenUp fun _ ih => ih.stageTimeout)
  | deadline _ => exact .next (h.whenUp fun _ ih => ih.deadline)
  | trainingFrame _ _ _ _ => exact .next (h.whenUp fun _ ih => ih.trainingFrame)
  | thresholdMet _ _ _ _ => exact .next (h.whenUp fun _ ih => ih.thresholdMet)
  | lockPair _ _ _ _ => exact .next (h.whenUp fun _ ih => ih.lockPair)
  | prbsVerifyEnd _ _ => exact .next (h.whenUp fun _ ih => ih.prbsDwellEnd)
  | qrReq _ _ => exact .next (h.frameArrives fun _ ih => ih.qrReqArrives)
  | qrAck _ _ => exact .next (h.frameArrives fun _ ih => ih.qrAckArrives)
  | qrTimeout _ => exact .next (h.whenUp fun _ ih => ih.qrTimeout)
  | step _ _ => exact .next (h.frameArrives fun _ ih => ih.stepArrives)
  | stepAck _ _ => exact .next (h.frameArrives fun _ ih => ih.stepAckArrives)
  | degradeWindow _ => exact .next (h.whenUp fun _ ih => ih.degradeWindow)
  | codewordDecode _ _ => exact .next (h.whenUp fun _ ih => ih.codewordDecode)
  | innerBlockDecode _ _ => exact .next (h.whenUp fun _ ih => ih.innerBlockDecode)
  | portStatsClr _ _ => exact .next h.write
  | frameStart _ => exact .next (h.whenUp fun _ ih => ih.frameStart)
  | frameSent _ => exact .next (h.whenUp fun _ ih => ih.frameSent)
  | codeFound _ _ => exact .next (h.whenUp fun _ ih => ih.codeFound)
  | codeSearchResume _ => exact .next (h.whenUp fun _ ih => ih.codeSearchResume)
  | hail _ _ _ => exact .next (h.whenUp fun _ ih => ih.hail)
  | headerCheck _ _ => exact .next (h.whenUp fun _ ih => ih.headerCheck)
  | frameEnd _ _ _ => exact .next (h.whenUp fun _ ih => ih.frameEnd)
  | codeLost _ => exact .next (h.whenUp fun _ ih => ih.codeUnlock)
  | beaconTimer _ => exact .next (h.whenUp fun _ ih => ih.beaconTimer)
  | beacon _ _ => exact .next (h.frameArrives fun _ ih => ih.beaconArrives)
  | mgmt _ _ => exact .next (h.frameArrives fun _ ih => ih.mgmtArrives)
  | mgmtAck _ _ => exact .next (h.frameArrives fun _ ih => ih.mgmtAckArrives)
  | mgmtResend _ => exact .next (h.whenUp fun _ ih => ih.mgmtRetry)
  | wakeGo _ _ _ => exact .next h.write
  | wakePatternEnd _ => exact .next (h.whenUp fun _ ih => ih.wakeEnd)
  | wakeDeclared _ => exact .next h.wakeDeclared
  | noiseWindow _ _ => exact .next (h.whenUp fun _ ih => ih.noiseWindow)
  | portTowClr _ _ => exact .next h.write
  | flitReceived _ _ _ => exact .next (h.whenUp fun _ ih => ih.flitReceived)
  | flitSend _ => exact .next (h.whenUp fun _ ih => ih.flitSend)
  | ackTimeout _ => exact .next (h.whenUp fun _ ih => ih.ackTimeout)
  | rreqRepeat _ => exact .next (h.whenUp fun _ ih => ih.rreqRepeat)
  | delayTimer _ _ _ => exact .next (h.whenUp fun _ ih => ih.delayTimer)
  | transactionSend _ => exact .next (h.whenUp fun _ ih => ih.transactionSend.boxesSettle)
  | requestTableAdmit _ => exact .next (h.whenUp fun _ ih => ih.admitNext.runNext)
  | cpl _ _ _ => exact .next (h.whenUp fun _ ih => ih.otherArrives fun _ ih' => ih'.responseArrives)
  | nak _ _ _ => exact .next (h.whenUp fun _ ih => ih.otherArrives fun _ ih' => ih'.responseArrives)
  | delay _ _ _ => exact .next (h.whenUp fun _ ih => ih.otherArrives fun _ ih' => ih'.responseArrives)
  | evt _ _ _ => exact .next (h.whenUp fun _ ih => ih.otherArrives fun _ ih' => ih'.unexpected)
  | qstate _ _ _ => exact .next (h.whenUp fun _ ih => ih.otherArrives fun _ ih' => ih'.unexpected)
  | unknownOpcode _ _ _ => exact .next (h.whenUp fun _ ih => ih.unknownArrives)
  | uzClr _ _ => exact .next h.write
  | rd _ _ _ _ => exact .next (h.whenUp fun _ ih => ih.requestArrives)
  | wr _ _ _ _ => exact .next (h.whenUp fun _ ih => ih.requestArrives)
  | wrm _ _ _ _ => exact .next (h.whenUp fun _ ih => ih.requestArrives)
  | enq _ _ _ _ => exact .next (h.whenUp fun _ ih => ih.requestArrives)
  | deq _ _ _ _ => exact .next (h.whenUp fun _ ih => ih.requestArrives)
  | peek _ _ _ _ => exact .next (h.whenUp fun _ ih => ih.requestArrives)
  | drop _ _ _ _ => exact .next (h.whenUp fun _ ih => ih.requestArrives)
  | move _ _ _ _ => exact .next (h.whenUp fun _ ih => ih.requestArrives)
  | cntAdd _ _ _ _ => exact .next (h.whenUp fun _ ih => ih.requestArrives)
  | cntRdclr _ _ _ _ => exact .next (h.whenUp fun _ ih => ih.requestArrives)
  | fadd _ _ _ _ => exact .next (h.whenUp fun _ ih => ih.requestArrives)
  | cas _ _ _ _ => exact .next (h.whenUp fun _ ih => ih.requestArrives)
  | meter _ _ _ _ => exact .next (h.whenUp fun _ ih => ih.requestArrives)
  | cfgRd _ _ _ => exact .next (h.whenUp fun _ ih => ih.requestArrives)
  | cfgWr _ _ _ => exact .next (h.whenUp fun _ ih => ih.requestArrives)
  | mbx _ _ _ => exact .next (h.whenUp fun _ ih => ih.requestArrives)
  | poolRebuilt _ => exact .next (h.whenUp fun _ ih => ih.rebuildEnd)
  | qindRead _ _ => exact .next h.write
  | setProfile _ _ => exact .next h.write
  | meterSweep => exact .next (h.whenUp fun _ ih => ih.meterSweep)
  | meterSweepLate => exact .next (h.whenUp fun _ ih => ih.meterSweepLate)
  | svcClr _ => exact .next h.write
  | berth _ _ _ => exact .next (h.whenUp fun _ ih => ih.berth)
  | schedulerIntake _ => exact .next (h.whenUp fun _ ih => ih.schedulerIntake)
  | dynamicAdmit _ => exact .next (h.whenUp fun _ ih => ih.dynamicAdmit)
  | ttLoad _ _ => exact .next h.write
  | ttLoadDone _ => exact .next (h.whenUp fun _ ih => ih.loadDone)
  | stormExit => exact .next (h.whenUp fun _ ih => ih.stormExit)
  | classResume => exact .next (h.whenUp fun _ ih => ih.classResume)
  | forceStorm _ _ => exact .next h.write
  | ttClr _ => exact .next h.write
  | mapCheck _ _ => exact .next h.write
  | hcArbClr _ => exact .next h.write
  | caParity _ => exact .next (h.whenUp fun _ ih => ih.caParity)
  | fieldRetrain _ => exact .next (h.whenUp fun _ ih => ih.fieldRetrain)
  | fieldRetrainEnd _ => exact .next (h.whenUp fun _ ih => ih.fieldRetrainEnd)
  | trackingPass _ _ _ _ => exact .next (h.whenUp fun _ ih => ih.trackingPass)
  | hcCtrlRetrain _ _ _ => exact .next h.write
  | hcRepairGo _ _ => exact .next h.write
  | repairRelease _ => exact .next (h.whenUp fun _ ih => ih.repairRelease.rowRepairEnd)
  | selfRefreshConfirm _ => exact .next h.srfConfirm
  | dieHot _ _ _ => exact .next (h.whenUp fun _ ih => ih.dieHot)
  | mwCopyRefresh _ => exact .next (h.whenUp fun _ ih => ih.copyRefresh)
  | hcClr _ _ => exact .next h.write
  | pinWindowEnd _ => exact .next (h.whenUp fun _ ih => ih.pinWindowEnd)
  | scrubLate _ => exact .next (h.whenUp fun _ ih => ih.scrubLateNow)
  | fillDone => exact .next (h.whenUp fun _ ih => ih.fillDone)
  | eccLogTailWrite _ _ => exact .next h.write
  | retireRow _ => exact .next (.ite h h.write)
  | retireBank _ => exact .next (.ite h.write h)
  | eccClr _ => exact .next h.write
  | fillArrive => exact .next (h.whenUp fun _ ih => ih.fillArrive)
  | cleaning _ => exact .next (h.whenUp fun _ ih => ih.cleanSlice)
  | clean _ _ => exact .next h.write
  | invalidate _ _ => exact .next h.write
  | preload _ _ => exact .next h.write
  | discard _ _ => exact .next h.write
  | flushDone => exact .next (h.whenUp fun _ ih => ih.ldgFinish)
  | ldgClr _ => exact .next h.write
  | recordExpiry _ _ _ => exact .next (h.whenUp fun _ ih => ih.recordExpiry)
  | failover _ => exact .next (h.whenUp fun _ ih => ih.failover)
  | beaconMiss _ => exact .next (h.whenUp fun _ ih => ih.beaconMiss)
  | restore _ => exact .next (h.whenUp fun _ ih => ih.restore)
  | fabRestoreWrite _ _ _ => exact .next h.write
  | fabClr _ => exact .next h.write
  | sensorConversion _ _ _ => exact .next h.sensorConversion
  | modelUpdate => exact .next h.modelTick
  | levelFall => exact .next (h.whenUp fun _ ih => ih.levelFall)
  | rateFall => exact .next (h.whenUp fun _ ih => ih.rateFall)
  | boundaryTrack => exact .next (h.whenUp fun _ ih => ih.boundaryTrack)
  | sinkStale => exact .next (h.whenUp fun _ ih => ih.sinkStale)
  | thmSinkWrite _ _ => exact .next h.write
  | backstopTrip _ => exact .next h.thermalTrip
  | tripMonitorRead _ => exact .next h.monitorTick
  | reArm => exact .next h.reArm
  | lifeCount => exact .next h.lifeCount
  | oscCorrect _ => exact .next h.oscCorrect
  | requestService _ _ => exact .next h.write
  | requestIdle _ _ => exact .next h.write
  | requestRetention _ _ => exact .next h.write
  | requestMaintenance _ _ => exact .next h.write
  | requestSafe _ _ => exact .next h.write
  | requestCold _ _ => exact .next h.write
  | drainDone => exact .next (h.whenUp fun _ ih => ih.drainEnd)
  | drainTimeout => exact .next (h.whenUp fun _ ih => ih.drainTimeout)
  | entryFlushDone => exact .next (h.whenUp fun _ ih => ih.flushEnd)
  | waitInstruction => exact .next (h.whenUp fun _ ih => ih.waitInstruction)
  | idleExit => exact .next (h.whenUp fun _ ih => ih.idleExit)
  | retentionExit _ _ _ => exact .next h.retentionResume
  | retentionRelease => exact .next (h.whenUp fun _ ih => ih.retentionRelease)
  | maintenanceExit => exact .next (h.whenUp fun _ ih => ih.maintenanceExit)
  | wakeNLow => exact .next h.wakeSource
  | shutdownPhaseDone _ _ => exact .next (h.whenUp fun _ ih => ih.shutdownPhase)
  | watchdogRestart => exact .next h.watchdogRestart
  | watchdogExpiry _ => exact .next h.watchdogExpiry
  | purserFault _ _ => exact .next h.purserFault
  | i3cBufferWrite _ => exact .next h.i3cWrite
  | i3cPrivateRead _ => exact .next h.i3cRead
  | submit _ => exact .next h.i3cWrite
  | mailboxRelease _ => exact .next h.i3cWrite
  | mailboxDoneTimeout _ => exact .next (h.whenUp fun _ ih => ih.i3cRelease)
  | mbxTimeout _ => exact .next (h.whenUp fun _ ih => ih.boxTimeout)
  | entdaa _ => exact .next (h.i3cCommand fun _ ih => .ite ih ih.setDynamic)
  | setdasa _ => exact .next (h.i3cCommand fun _ ih => .ite ih ih.setDynamic)
  | setnewda _ => exact .next (h.i3cCommand fun _ ih => .ite ih.setDynamic ih)
  | rstdaa => exact .next (h.i3cCommand fun _ ih => ih.put.put)
  | getpid => exact .next (h.i3cCommand fun _ ih => ih.returned)
  | getbcr => exact .next (h.i3cCommand fun _ ih => ih.returned)
  | getdcr => exact .next (h.i3cCommand fun _ ih => ih.returned)
  | getstatus => exact .next (h.i3cCommand fun _ ih => ih.drew.returned)
  | getmwl => exact .next (h.i3cCommand fun _ ih => ih.returned)
  | getmrl => exact .next (h.i3cCommand fun _ ih => ih.returned)
  | setmwl _ _ => exact .next (h.i3cCommand fun _ ih => ih.modPurser)
  | setmrl _ _ => exact .next (h.i3cCommand fun _ ih => ih.modPurser)
  | enec _ => exact .next (h.i3cCommand fun _ ih => ih)
  | disec _ => exact .next (h.i3cCommand fun _ ih => ih)
  | i3cError => exact .next h.i3cError
  | identity _ => exact .next (h.command fun _ _ ih => ih.runIdentity)
  | status _ => exact .next (h.command fun _ _ ih => ih.runStatus)
  | reset _ => exact .next (h.command fun _ _ ih => ih.runReset)
  | cfgRead _ => exact .next (h.command fun _ _ ih => ih.runCfgRead)
  | cfgWrite _ => exact .next (h.command fun _ _ ih => ih.runCfgWrite)
  | evtLogRead _ => exact .next (h.command fun _ _ ih => ih.runEvtLogRead)
  | mode _ => exact .next (h.command fun _ _ ih => ih.runMode)
  | flashRead _ _ => exact .next (h.command fun _ _ ih => ih.runFlashRead)
  | flashWrite _ => exact .next (h.command fun _ _ ih => ih.runFlashWrite)
  | otpRead _ => exact .next (h.command fun _ _ ih => ih.runOtpRead)
  | otpProgram _ => exact .next (h.command fun _ _ ih => ih.runOtpProgram)
  | otpSeal _ => exact .next (h.command fun _ _ ih => ih.runOtpSeal)
  | bistRun _ => exact .next (h.command fun _ _ ih => ih.runBistRun)
  | ledgerRead _ _ => exact .next (h.command fun _ _ ih => ih.runLedgerRead)
  | retire _ => exact .next (h.command fun _ _ ih => ih.runRetire)
  | rowRepair _ => exact .next (h.command fun _ _ ih => ih.runRowRepair)
  | snapshot _ => exact .next (h.command fun _ _ ih => ih.runSnapshot)
  | snapRead _ => exact .next (h.command fun _ _ ih => ih.runSnapRead)
  | modelRead _ => exact .next (h.command fun _ _ ih => ih.runModelRead)
  | jobResult _ => exact .next (h.command fun _ _ ih => ih.runJobResult)
  | unknownCommand _ => exact .next h.unknownCommand
  | jobDone _ _ _ _ => exact .next h.jobDoneAt
  | evtPendRead _ _ => exact .next h.readOut
  | causeRead _ _ => exact .next h.readOut
  | evtLogTailWrite _ _ => exact .next h.write
  | evtLogW0Read _ => exact .next h.readOut
  | evtClr _ => exact .next h.write
  | shLoRead _ _ => exact .next h.readOut
  | snapNLow => exact .next (h.whenUp fun _ ih => ih.snapPin)
  | snapGo _ _ => exact .next h.write
  | snapLatch _ => exact .next (h.whenUp fun _ ih => ih.snapLatch)
  | snapDone => exact .next (h.whenUp fun _ ih => ih.snapDone)
  | snapAck _ _ => exact .next h.write
  | snapRdDataRead _ => exact .next h.readOut
  | snapClr _ => exact .next h.write
  | mbxClr _ => exact .next h.write
  | glbLockWrite _ _ => exact .next h.write
  | swFlagsWrite _ _ => exact .next h.write
  | cfgCommit _ => exact .next h.write
  | cfgCheckPass => exact .next h.checkPass
  | registerWrite _ _ _ => exact .next h.write
  | otpReread _ => exact .next h.otpRereadPass
  | recordingPass _ _ _ => exact .next h.recordingPass
  | ledgerUpdate _ => exact .next h.ledgerUpdate
  | loopbackEnable _ _ => exact .next h.write
  | forcedSeal _ => exact .next h.forceSeal
  | tapReset => exact .next h.tapReset
  | idcode => exact .next h.tapLoad.returned
  | samplePreload _ => exact .next h.tapBoundary
  | extest _ => exact .next h.tapBoundary
  | extestPulse _ => exact .next h.tapBoundary
  | extestTrain _ => exact .next h.tapBoundary
  | clamp => exact .next h.tapLoad
  | highz => exact .next h.tapLoad
  | cfgAccess _ _ _ => exact .next h.tapAccess
  | wrapSel _ => exact .next h.tapSelect
  | wirAccess _ => exact .next h.tapWir
  | wdrAccess _ => exact .next h.tapWdr
  | wsBypass => exact .next h.tapWir
  | wsExtest => exact .next h.tapWir
  | wsIntest => exact .next h.tapWir
  | bypass => exact .next h.tapLoad
  | railAboveWarning _ => exact .next h.railAbove
  | railRecoveryCrossing _ _ => exact .next h.railRecovery
  | laneJoin _ _ _ => exact .next (h.whenUp fun _ ih => ih.laneJoin)
  | configurationCopyDone => exact .next (h.whenUp fun _ ih => ih.copyDone)
  | srfUnconfirmed _ => exact .next h.srfUnconfirmed
  | snapNPulseEnd => exact .next (h.whenUp fun _ ih => ih.snapPulseEnd)
  | watchdogCountClear => exact .next (h.whenUp fun _ ih => ih.watchdogCountClear)
  | vqpsOutOfRange _ _ => exact .next h.vqpsLost

/-- What a step does: the front command leaves the queue, a boundary counts one crossing, the rest is kept. -/
theorem step_steady {s t : State} (h : step s = .next t) :
    Steady { s with pending := s.pending.tail, ticks := s.ticks + (if s.pending.head? = some .crossingBoundary then 1 else 0) } t := by
  unfold step at h
  split at h
  next hempty =>
    cases h
    exact ⟨by rw [hempty]; rfl, by rw [hempty]; rfl, .refl _, fun hc => ⟨hc.regs, hc.mem, hc.lanes, hc.ports, hc.tows, hc.links, hc.fab, hc.hcs, hc.activity⟩⟩
  next c rest hpending =>
    rw [hpending]
    by_cases hc : c = .crossingBoundary
    · subst hc
      rw [← Host.Outcome.next.inj (show Host.Outcome.next (crossing { s with pending := rest }) = .next t from h)]
      rw [List.head?_cons, if_pos rfl]
      exact (Steady.refl { s with pending := rest }).crossing
    · obtain ⟨u, hu, hsteady⟩ := exec_steady c { s with pending := rest } hc
      cases hu.symm.trans h
      rw [List.head?_cons, if_neg (fun hsome => hc (Option.some.inj hsome))]
      exact hsteady

/-- Settles O47: a step changes only the queue and the count, and otherwise keeps what `Steady` says. -/
theorem everyStepKeepsTheTablesCanonical : Obligations.EveryStepKeepsTheTablesCanonical := by
  unfold Obligations.EveryStepKeepsTheTablesCanonical
  exact fun _ _ hc hstep => (step_steady hstep).canonical ⟨hc.regs, hc.mem, hc.lanes, hc.ports, hc.tows, hc.links, hc.fab, hc.hcs, hc.activity⟩

/-- Settles O48. -/
theorem fusesOnlyGrow : Obligations.FusesOnlyGrow := by
  unfold Obligations.FusesOnlyGrow
  exact fun _ _ hstep => (step_steady hstep).otp

/-- Settles O49. -/
theorem stepsTakeOneCommandAndOnlyBoundariesTakeTime : Obligations.StepsTakeOneCommandAndOnlyBoundariesTakeTime := by
  unfold Obligations.StepsTakeOneCommandAndOnlyBoundariesTakeTime
  exact fun _ _ hstep => ⟨(step_steady hstep).pending, (step_steady hstep).ticks⟩

/-! ### An idle boundary -/

section
variable {s : State}

theorem link_of_nil (h : s.links = []) (p : Nat) : s.link p = LinkSt.reset := by rw [State.link, h]; rfl

theorem box_of_nil (h : s.purser.boxes = []) (m : Nat) : s.box m = Mailbox.reset := by rw [State.box, h]; rfl

theorem forEach_id {α : Type} {l : List α} {f : α → State → State} (h : ∀ a ∈ l, f a s = s) : forEach l f s = s := by
  unfold forEach
  induction l with
  | nil => rfl
  | cons a l ih => rw [List.foldl_cons, h a List.mem_cons_self, ih fun b hb => h b (List.mem_cons_of_mem a hb)]

theorem pumpAll_of_no_links (h : s.links = []) : pumpAll s = s := by
  have hwaiting : waitingPorts s = [] := by
    unfold waitingPorts
    simp only [link_of_nil h, LinkSt.reset]
    rfl
  have hpump : ∀ p ∈ List.range 16, pumpPort p ((s.link p).vc0.length + (s.link p).table.length) s = s := fun p _ => by
    rw [link_of_nil h]; rfl
  unfold pumpAll
  rw [hwaiting]
  exact forEach_id hpump

theorem boxesSettle_of_idle (h : s.purser.boxes = []) (hidle : ∀ m < 8, boxState s m = BoxState.idle) : boxesSettle s = s := by
  refine forEach_id fun m hm => ?_
  have hm : boxState s m ≠ BoxState.done := by rw [hidle m (List.mem_range.1 hm)]; decide
  unfold boxSettle boxSend
  rw [box_of_nil h]
  exact if_neg fun hsend => hm hsend.1

theorem settle_of_idle (hasks : s.asks = []) (hdue : s.commit.hwDue = []) (harmed : s.commit.armed = none) : settle s = s := by
  have hhardware : hardwareCommit s = s := if_pos (by rw [hdue]; rfl)
  have hswitch : commitSwitch s = s := by unfold commitSwitch; rw [harmed]
  unfold settle ledgerDecide
  rw [hhardware, hswitch]
  dsimp only
  rw [harmed, hasks]
  exact congrArg (fun asks => { s with asks }) hasks.symm

end

/-- Settles O42: the first half is the step lemma of the boundary; in an idle state neither the boundary nor the intake behind it has
anything to do. -/
theorem crossingBoundaryAdvancesTheModel : Obligations.CrossingBoundaryAdvancesTheModel := by
  unfold Obligations.CrossingBoundaryAdvancesTheModel
  refine ⟨fun s => ?_, fun s hrunning hended hanchoring hasks hdue harmed hlinks hboxes hidle => ?_⟩
  · have h := (Steady.refl s).crossing
    exact ⟨_, rfl, h.ticks, h.pending, h.otp⟩
  · have hboundary : boundary s = { s with ticks := s.ticks + 1 } := by
      unfold boundary
      rw [settle_of_idle hasks hdue harmed]
      refine if_pos ?_
      split
      next hphase => exact absurd hphase hrunning
      next hphase => exact absurd hphase hended
      next hphase => exact absurd hphase hanchoring
      next => rfl
    have hcrossing : crossing s = { s with ticks := s.ticks + 1 } := by
      unfold crossing
      have hpump : pumpAll { s with ticks := s.ticks + 1 } = { s with ticks := s.ticks + 1 } := pumpAll_of_no_links hlinks
      rw [hboundary, hpump]
      exact boxesSettle_of_idle hboxes fun m hm => hidle ⟨m, hm⟩
    exact congrArg Host.Outcome.next hcrossing

end Sys2Proof.Machine
end

section
/-!
PROOF. What commands leave of the registers: the layer under the statements about single commands, and the commit controller.
-/
set_option autoImplicit false
set_option Elab.async false

namespace Sys2Proof.Machine
open Reg Bit

/-! ### Registers outside a list -/

namespace SameRegs
variable {l : List Nat} {s t u : State}

theorem of_regs (h : t.regs = s.regs) : SameRegs l s t := fun a _ => State.reg_of_regs h a

theorem refl (l : List Nat) (s : State) : SameRegs l s s := of_regs rfl

theorem trans (h : SameRegs l s t) (h' : SameRegs l t u) : SameRegs l s u := fun a ha => (h' a ha).trans (h a ha)

theorem mono {l' : List Nat} (h : SameRegs l s t) (hl : l ⊆ l') : SameRegs l' s t := fun a ha => h a fun hin => ha (hl hin)

theorem setReg (h : SameRegs l s t) {a : Nat} {v : Word} (ha : a ∈ l := by decide) : SameRegs l s (t.setReg a v) :=
  h.trans fun _ hb => State.reg_setReg_ne t v fun e => hb (e ▸ ha)

theorem put (h : SameRegs l s t) {f : Field} {v : Nat} (hf : f.addr ∈ l := by decide) : SameRegs l s (t.put f v) := h.setReg hf

theorem putFlag (h : SameRegs l s t) {f : Field} {b : Bool} (hf : f.addr ∈ l := by decide) : SameRegs l s (t.putFlag f b) := h.setReg hf

theorem addField (h : SameRegs l s t) {f : Field} {n : Nat} (hf : f.addr ∈ l := by decide) : SameRegs l s (t.addField f n) := h.put hf

theorem addSat (h : SameRegs l s t) {a n : Nat} (ha : a ∈ l := by decide) : SameRegs l s (t.addSat a n) := h.setReg ha

theorem raiseEvent (h : SameRegs l s t) {e info : Nat} : SameRegs l s (t.raiseEvent e info) := h

theorem cause (h : SameRegs l s t) {c : CauseBit} (hc : c.cause ∈ l := by decide) : SameRegs l s (t.cause c) := fun a ha => by
  rw [State.reg_cause, h.put (f := ⟨c.cause, c.bit, c.bit⟩) hc a ha]

theorem get (h : SameRegs l s t) {f : Field} (hf : f.addr ∉ l) : t.get f = s.get f := State.get_of_reg (h f.addr hf)

end SameRegs

/-! ### Changes of registers alone, and of registers and raised events -/

/-- Nothing changes but registers. -/
def OnlyRegs (s t : State) : Prop := ∃ m, t = { s with regs := m }

namespace OnlyRegs
variable {s t : State}

theorem refl (s : State) : OnlyRegs s s := ⟨s.regs, rfl⟩

theorem setReg (h : OnlyRegs s t) {a : Nat} {v : Word} : OnlyRegs s (t.setReg a v) := by
  obtain ⟨m, rfl⟩ := h
  exact ⟨_, rfl⟩

theorem put (h : OnlyRegs s t) {f : Field} {v : Nat} : OnlyRegs s (t.put f v) := h.setReg

theorem putFlag (h : OnlyRegs s t) {f : Field} {b : Bool} : OnlyRegs s (t.putFlag f b) := h.setReg

/-- What does not look at registers stays. -/
theorem keep (h : OnlyRegs s t) {α : Sort*} {u : α} {F : State → α} (hF : ∀ m, F { s with regs := m } = F s) (hs : F s = u) : F t = u := by
  obtain ⟨m, rfl⟩ := h
  exact (hF m).trans hs

theorem frame (h : OnlyRegs s t) : { t with regs := s.regs } = s := h.keep (F := fun t => { t with regs := s.regs }) (fun _ => rfl) rfl

end OnlyRegs

/-- Nothing changes but registers and the events raised. -/
def RegsAndEvents (s t : State) : Prop := ∃ m e, t = { s with regs := m, events := e }

namespace RegsAndEvents
variable {s t : State}

theorem refl (s : State) : RegsAndEvents s s := ⟨s.regs, s.events, rfl⟩

theorem setReg (h : RegsAndEvents s t) {a : Nat} {v : Word} : RegsAndEvents s (t.setReg a v) := by
  obtain ⟨m, e, rfl⟩ := h
  exact ⟨_, e, rfl⟩

theorem put (h : RegsAndEvents s t) {f : Field} {v : Nat} : RegsAndEvents s (t.put f v) := h.setReg

theorem putFlag (h : RegsAndEvents s t) {f : Field} {b : Bool} : RegsAndEvents s (t.putFlag f b) := h.setReg

theorem addField (h : RegsAndEvents s t) {f : Field} {n : Nat} : RegsAndEvents s (t.addField f n) := h.setReg

theorem addSat (h : RegsAndEvents s t) {a n : Nat} : RegsAndEvents s (t.addSat a n) := h.setReg

theorem raiseEvent (h : RegsAndEvents s t) {e info : Nat} : RegsAndEvents s (t.raiseEvent e info) := by
  obtain ⟨m, e', rfl⟩ := h
  exact ⟨m, _, rfl⟩

theorem causeWith (h : RegsAndEvents s t) {c : CauseBit} {info : Nat} : RegsAndEvents s (t.causeWith c info) := by
  unfold State.causeWith
  extract_lets s1 r masked bits
  have h1 : RegsAndEvents s s1 := h.put
  split
  · exact h1
  · obtain ⟨m, e, hm⟩ := h1
    rw [hm]
    exact ⟨m, _, rfl⟩

theorem cause (h : RegsAndEvents s t) {c : CauseBit} : RegsAndEvents s (t.cause c) := h.causeWith

/-- What looks at neither registers nor events stays. -/
theorem keep (h : RegsAndEvents s t) {α : Sort*} {u : α} {F : State → α} (hF : ∀ m e, F { s with regs := m, events := e } = F s) (hs : F s = u) :
    F t = u := by
  obtain ⟨m, e, rfl⟩ := h
  exact (hF m e).trans hs

theorem frame (h : RegsAndEvents s t) : { t with regs := s.regs, events := s.events } = s :=
  h.keep (F := fun t => { t with regs := s.regs, events := s.events }) (fun _ _ => rfl) rfl

end RegsAndEvents

/-! ### Fields behind other updates -/

@[simp] theorem State.get_raiseEvent (s : State) (e info : Nat) (f : Field) : (s.raiseEvent e info).get f = s.get f :=
  State.get_of_reg (State.reg_raiseEvent s e info f.addr)

theorem whenUp_of_up {s : State} (hup : s.up = true) (f : State → State) : whenUp f s = f s := if_pos hup

/-! ### The commit controller -/

theorem write_commitCtrl {s : State} (h : writable s GLB_COMMIT_CTRL = true) (src : Nat) (v : Word) :
    write src GLB_COMMIT_CTRL v s = commitCtrlWrite v s := (write_of_writable h rfl src v).trans rfl

theorem write_arm {s : State} (hw : writable s GLB_COMMIT_CTRL = true) (src : Nat) : write src GLB_COMMIT_CTRL 1 s = commitArm s := by
  have hcancel : ¬ (1 : Word).bits 1 1 = 1 := by decide
  have hdiscard : ¬ (1 : Word).bits 2 2 = 1 := by decide
  have harm : (1 : Word).bits 0 0 = 1 := by decide
  simp only [write_commitCtrl hw, commitCtrlWrite, if_neg hcancel, if_neg hdiscard, if_pos harm]

theorem write_cancel {s : State} (hw : writable s GLB_COMMIT_CTRL = true) (src : Nat) : write src GLB_COMMIT_CTRL 2 s = commitCancel s := by
  have hcancel : (2 : Word).bits 1 1 = 1 := by decide
  have hdiscard : ¬ (2 : Word).bits 2 2 = 1 := by decide
  have harm : ¬ (2 : Word).bits 0 0 = 1 := by decide
  simp only [write_commitCtrl hw, commitCtrlWrite, if_pos hcancel, if_neg hdiscard, if_neg harm]

theorem write_discard {s : State} (hw : writable s GLB_COMMIT_CTRL = true) (src : Nat) : write src GLB_COMMIT_CTRL 4 s = commitDiscard s := by
  have hcancel : ¬ (4 : Word).bits 1 1 = 1 := by decide
  have hdiscard : (4 : Word).bits 2 2 = 1 := by decide
  have harm : ¬ (4 : Word).bits 0 0 = 1 := by decide
  simp only [write_commitCtrl hw, commitCtrlWrite, if_neg hcancel, if_pos hdiscard, if_neg harm]

/-- An arm with a target far enough ahead is accepted. -/
theorem commitArm_accepted {s : State} {n : Nat} (hprep : s.commit.preparing = false) (hmode : s.mode ≠ Mode.start)
    (hn : n = s.get GLB_COMMIT_TGT_HI_tgt_hi * 2 ^ 32 + (s.reg GLB_COMMIT_TGT_LO).toNat) (hfuture : s.future n = true) (hahead : 4 ≤ s.ahead n) :
    commitArm s = { s with commit := { s.commit with armed := some n, vote := none } }.put GLB_COMMIT_CTRL_arm 1 := by
  unfold commitArm
  rw [if_neg (by rw [hprep]; decide), if_neg hmode, ← hn, if_pos (by rw [hfuture, decide_eq_true hahead]; rfl)]

theorem commitCancel_of_armed {s : State} (harmed : s.commit.armed.isSome = true) (hvote : s.commit.vote = none) :
    commitCancel s = ((disarm s).put GLB_COMMIT_STATUS_cause CommitCause.cancelled).put GLB_COMMIT_STATUS_first_refuser 15 :=
  if_pos (by rw [harmed, hvote]; rfl)

theorem prepare_of_armed {s : State} {n : Nat} (harmed : s.commit.armed = some n) (hahead : s.ahead n = 2) :
    prepare s = { s with commit := { s.commit with preparing := true } } := by
  unfold prepare
  rw [harmed]
  exact if_pos hahead

theorem readySample_of_armed {s : State} {n : Nat} (harmed : s.commit.armed = some n) (hahead : s.ahead n = 1) :
    readySample s = { s with commit := { s.commit with preparing := true, vote := some (refusers (ledgerDecide s)) } } := by
  unfold readySample
  rw [harmed]
  exact if_pos hahead

/-- Settles O1: each command is one branch of the commit controller's step. -/
theorem commitCommandsActOnTheArm : Obligations.CommitCommandsActOnTheArm := by
  unfold Obligations.CommitCommandsActOnTheArm
  intro s src
  refine ⟨fun hw hprep hmode n hn hfuture hahead => ?_, fun hup n harmed hahead => ?_, fun hup n harmed hahead => ?_, fun hw harmed hvote => ?_,
    fun hw harmed => ?_, fun hup => ?_⟩
  · have harm := (write_arm hw src).trans (commitArm_accepted hprep hmode hn hfuture hahead)
    exact ⟨_, congrArg Host.Outcome.next harm, rfl, State.get_put_same _ _ _ (by decide) (by decide), (SameRegs.of_regs rfl).put,
      (OnlyRegs.refl _).put.keep (F := fun t => { t with commit := s.commit, regs := s.regs }) (fun _ => rfl) rfl⟩
  · exact congrArg Host.Outcome.next ((whenUp_of_up hup _).trans (prepare_of_armed harmed hahead))
  · exact congrArg Host.Outcome.next ((whenUp_of_up hup _).trans (readySample_of_armed harmed hahead))
  · have hcancel := (write_cancel hw src).trans (commitCancel_of_armed harmed hvote)
    refine ⟨_, congrArg Host.Outcome.next hcancel, rfl, ?_, State.get_put_same _ _ _ (by decide) (by decide), ?_,
      (OnlyRegs.refl _).put.put.put.keep (F := fun t => { t with commit := s.commit, regs := s.regs }) (fun _ => rfl) rfl⟩
    · rw [State.get_put_below _ _ _ _ (by decide) (by decide) (by decide)]
      exact State.get_put_same _ _ _ (by decide) (by decide)
    · exact (SameRegs.of_regs rfl).put.put.put
  · exact congrArg Host.Outcome.next ((write_discard hw src).trans (if_neg (by rw [harmed]; decide)))
  · exact congrArg Host.Outcome.next (whenUp_of_up hup _)

end Sys2Proof.Machine
end

section
set_option autoImplicit false
set_option Elab.async false

namespace Sys2Proof.Machine
open Reg Bit

/-- A bit above a replaced field stays. -/
theorem getLsbD_withBits_above (w : Word) (hi lo v k : Nat) (h : lo ≤ hi) (h2 : hi < 32) (hk : hi < k) :
    (w.withBits hi lo v).getLsbD k = w.getLsbD k := by
  rw [getLsbD_eq_bits, getLsbD_eq_bits, Word.bits_withBits_above w hi lo v k k h h2 hk]

/-- Outside the staged bits the word to come is the live one. -/
theorem getLsbD_nextWord_unstaged (s : State) (a : Nat) {k : Fin 32} (hk : natBit (stagedMask a) k = false) :
    (nextWord s a).getLsbD k = (s.reg a).getLsbD k := by
  have hm : (BitVec.ofNat 32 (stagedMask a)).getLsbD k = false := (getLsbD_ofNat_eq_natBit _ k).trans hk
  unfold nextWord
  split
  · rfl
  · simp only [BitVec.getLsbD_or, BitVec.getLsbD_and, BitVec.getLsbD_not, hm, k.isLt, decide_true, Bool.not_false, Bool.and_true, Bool.and_false,
      Bool.or_false]

/-- Staging a word leaves the shadows of the other addresses. -/
theorem stageWord_find_ne {a b : Nat} (h : b ≠ a) (v : Word) (s : State) : (stageWord a v s).staged.find b = s.staged.find b := by
  simp only [stageWord, commitWithdraw_staged]
  split
  · exact KMap.find_erase_ne _ _ _ h
  · exact KMap.find_ins_ne _ _ _ _ h

theorem commitWithdraw_unarmed {s : State} (h : s.commit.armed = none) (cause first : Nat) : commitWithdraw cause first s = s :=
  if_neg (by rw [h]; decide)

theorem commitWithdraw_of_armed {s : State} (h : s.commit.armed ≠ none) (cause first : Nat) :
    commitWithdraw cause first s = commitAbort cause first (disarm s) := if_pos (Option.isSome_iff_ne_none.2 h)

theorem commitAbort_regsAndEvents (cause first : Nat) (s : State) : RegsAndEvents s (commitAbort cause first s) := by
  unfold commitAbort
  exact (RegsAndEvents.refl s).put.put.addField.raiseEvent

theorem commitAbort_sameRegs (cause first : Nat) (s : State) : SameRegs [GLB_COMMIT_STATUS, GLB_COMMIT_ABORTS] s (commitAbort cause first s) := by
  unfold commitAbort
  exact (SameRegs.refl _ s).put.put.addField.raiseEvent

theorem commitAbort_cause (cause first : Nat) (s : State) : (commitAbort cause first s).get GLB_COMMIT_STATUS_cause = cause % 8 := by
  unfold commitAbort
  simp (disch := decide) only [State.get_raiseEvent, State.addField, State.get_put_ne, State.get_put_below, State.get_put_same]
  rfl

theorem disarm_sameRegs (s : State) : SameRegs [GLB_COMMIT_CTRL] s (disarm s) := (SameRegs.of_regs rfl).put

/-- What a write to a stale region's descriptor marks: at most GLB_MEM_STATE.preserved is cleared. -/
theorem staleRewritten_cases (a : Nat) (s : State) :
    staleRewritten a s = s ∨ (s.get GLB_MEM_STATE_stale ≠ 0 ∧ staleRewritten a s = s.put GLB_MEM_STATE_preserved 0) := by
  unfold staleRewritten
  dsimp only
  split
  next h =>
    refine .inr ⟨fun hstale => ?_, rfl⟩
    rw [hstale] at h
    simp [natBit] at h
  next => exact .inl rfl

theorem commitWithdraw_frame (cause first : Nat) (s : State) :
    { commitWithdraw cause first s with commit := s.commit, regs := s.regs, events := s.events } = s := by
  unfold commitWithdraw
  split
  · refine (commitAbort_regsAndEvents cause first _).keep (F := fun t => { t with commit := s.commit, regs := s.regs, events := s.events })
      (fun _ _ => rfl) ?_
    exact (OnlyRegs.refl _).put.keep (F := fun t => { t with commit := s.commit, regs := s.regs, events := s.events }) (fun _ => rfl) rfl
  · rfl

theorem stageWord_frame (a : Nat) (v : Word) (s : State) :
    { stageWord a v s with staged := s.staged, commit := s.commit, regs := s.regs, events := s.events } = s :=
  congrArg (fun t : State => { t with staged := s.staged }) (commitWithdraw_frame _ _ _)

theorem stageWord_unarmed {s : State} (h : s.commit.armed = none) (a : Nat) (v : Word) :
    (stageWord a v s).commit = s.commit ∧ (stageWord a v s).regs = s.regs := by
  unfold stageWord
  extract_lets m changed away s1
  rw [commitWithdraw_unarmed (s := s1) h]
  exact ⟨rfl, rfl⟩

theorem stageWord_sameRegs (a : Nat) (v : Word) (s : State) :
    SameRegs [GLB_COMMIT_CTRL, GLB_COMMIT_STATUS, GLB_COMMIT_ABORTS] s (stageWord a v s) := by
  unfold stageWord
  extract_lets m changed away s1
  have h1 : SameRegs [GLB_COMMIT_CTRL] s s1 := .of_regs rfl
  unfold commitWithdraw
  split
  · exact ((h1.trans (disarm_sameRegs s1)).mono (by decide)).trans ((commitAbort_sameRegs _ _ _).mono (by decide))
  · exact h1.mono (by decide)

theorem stageWord_armed {s : State} (h : s.commit.armed ≠ none) (a : Nat) (v : Word) :
    (stageWord a v s).commit.armed = none ∧ (stageWord a v s).get GLB_COMMIT_STATUS_cause = CommitCause.rewritten := by
  unfold stageWord
  extract_lets m changed away s1
  rw [commitWithdraw_of_armed (s := s1) h]
  exact ⟨(commitAbort_regsAndEvents _ _ _).keep (F := fun t => t.commit.armed) (fun _ _ => rfl) rfl, commitAbort_cause _ _ _⟩

theorem putPreserved_getLsbD (s : State) (k : Fin 32) (hk : k.val ≠ GLB_MEM_STATE_preserved.lo) :
    ((s.put GLB_MEM_STATE_preserved 0).reg GLB_MEM_STATE).getLsbD k = (s.reg GLB_MEM_STATE).getLsbD k := by
  rw [State.reg_put, if_pos (show GLB_MEM_STATE = GLB_MEM_STATE_preserved.addr from rfl)]
  exact getLsbD_withBits_above _ 0 0 0 k (Nat.le_refl 0) (by decide) (Nat.pos_of_ne_zero hk)

/-- Settles O2: the write stages the word, after at most GLB_MEM_STATE.preserved was cleared. -/
theorem stagedWritesWaitForTheSwitch : Obligations.StagedWritesWaitForTheSwitch := by
  unfold Obligations.StagedWritesWaitForTheSwitch
  intro s src a r i v hr hk hrw hw1s hstaged hclear hallow hceil hw
  obtain ⟨hrow, hi⟩ := mem_allRows_of_rowAt hr
  have hbook := (not_or.1 (mt List.mem_cons.2
    (RegRow.not_mem_of_avoids (stagedRows_avoid_bookkeeping r (mem_stagedRows hr hstaged)) hi))).2
  have hwrite : write src a v s = stageWord a v (staleRewritten a s) := by
    have hguard : suspendCheck r s = s := if_neg (by rw [hrw]; simp)
    rw [write_of_writable hw hr]
    simp only [writeRow, hk, hrw, hw1s, hguard, rangedStage, if_pos hstaged, if_neg hallow, if_neg hceil, ne_eq, not_true, or_self, if_false]
  refine ⟨_, congrArg Host.Outcome.next hwrite, ?_⟩
  have hu : ∃ u, staleRewritten a s = u ∧ SameRegs [GLB_MEM_STATE] s u ∧ (s.get GLB_MEM_STATE_stale = 0 → u.regs = s.regs) ∧
      (∀ k : Fin 32, k.val ≠ GLB_MEM_STATE_preserved.lo → (u.reg GLB_MEM_STATE).getLsbD k = (s.reg GLB_MEM_STATE).getLsbD k) ∧
      u.staged = s.staged ∧ u.commit = s.commit ∧ u.events = s.events ∧ { u with regs := s.regs } = s := by
    rcases staleRewritten_cases a s with h | ⟨hne, h⟩
    · exact ⟨s, h, .refl _ s, fun _ => rfl, fun _ _ => rfl, rfl, rfl, rfl, rfl⟩
    · exact ⟨_, h, (SameRegs.refl _ s).put, fun h0 => absurd h0 hne, fun k => putPreserved_getLsbD s k, rfl, rfl, rfl, rfl⟩
  obtain ⟨u, heq, hmem, hclean, hbits, hust, hucommit, huevents, hframe⟩ := hu
  rw [heq]
  have hreg {t : State} (ht : SameRegs bookkeepingRegs u t) : t.reg a = s.reg a :=
    (ht a hbook).trans (hmem a fun h => hbook ((show [GLB_MEM_STATE] ⊆ bookkeepingRegs by decide) h))
  refine ⟨fun k => ?_, fun b hb => (stageWord_find_ne hb v u).trans (congrArg (KMap.find · b) hust), fun harmed => ?_, fun harmed => ?_, fun k hk => ?_, ?_⟩
  · split
    next hbit => exact getLsbD_nextWord_stageWord hbook v u hbit
    next hbit =>
      rw [getLsbD_nextWord_unstaged _ _ (Bool.eq_false_iff.2 hbit), hreg (stageWord_onlyTouches a v u).regs]
  · obtain ⟨hcommit, hregs⟩ := stageWord_unarmed (s := u) (hucommit ▸ harmed) a v
    exact ⟨hcommit.trans hucommit, hmem.trans (.of_regs hregs), fun h0 => hregs.trans (hclean h0)⟩
  · obtain ⟨harm, hcause⟩ := stageWord_armed (s := u) (hucommit ▸ harmed) a v
    exact ⟨harm, hcause, (hmem.mono (by decide)).trans ((stageWord_sameRegs a v u).mono (by decide))⟩
  · rw [stageWord_sameRegs a v u GLB_MEM_STATE (by decide), hbits k hk]
  · have hstage := congrArg (fun t : State => { t with regs := s.regs }) (stageWord_frame a v u)
    rw [← hust, ← hucommit, ← huevents]
    exact hstage.trans hframe

end Sys2Proof.Machine
end

section
/-!
PROOF. The configuration check.
-/
set_option autoImplicit false
set_option Elab.async false

namespace Sys2Proof.Machine
open Reg Bit

theorem flag_of_get_eq_one {s : State} {f : Field} (h : s.get f = 1) : s.flag f = true := by simp [State.flag, h]

theorem flag_of_get_eq_zero {s : State} {f : Field} (h : s.get f = 0) : s.flag f = false := by simp [State.flag, h]

/-! ### The comparison -/

/-- The comparison is made. -/
def compares (s : State) : Prop := s.get CFG_CTRL_check_en = 1 ∧ s.get CFG_STATUS_ref_valid = 1 ∧ s.commit.suspendLeft = 0

theorem get_lt_two {s : State} {f : Field} (h : f.hi = f.lo) : s.get f < 2 := by
  rw [State.get, Word.bits, h, Nat.add_sub_cancel_left]
  exact Nat.mod_lt _ (by decide)

theorem flag_iff {s : State} {f : Field} (h : f.hi = f.lo) : s.flag f = true ↔ s.get f = 1 := by
  have := get_lt_two (s := s) h
  simp only [State.flag, bne_iff_ne]
  omega

theorem checkCompare_off {s : State} (h : ¬ compares s) : checkCompare s = s := by
  refine if_pos ?_
  simp only [Bool.or_eq_true, Bool.not_eq_true', decide_eq_true_eq, ← Bool.not_eq_true, flag_iff (f := CFG_CTRL_check_en) rfl,
    flag_iff (f := CFG_STATUS_ref_valid) rfl]
  unfold compares at h
  tauto

theorem checkCompare_on {s : State} (h : compares s) : ¬ (!s.flag CFG_CTRL_check_en || !s.flag CFG_STATUS_ref_valid || s.commit.suspendLeft ≠ 0) = true := by
  obtain ⟨hen, hvalid, hsuspend⟩ := h
  simp [flag_of_get_eq_one hen, flag_of_get_eq_one hvalid, hsuspend]

theorem checkCompare_equal {s : State} (h : compares s) (heq : s.reg CFG_CRC = s.reg CFG_CRC_REF) :
    checkCompare s = { s.put CFG_STATUS_drift 0 with commit := { s.commit with drifting := false } } :=
  (if_neg (checkCompare_on h)).trans (if_pos heq)

/-- A difference sets drift, and is reported where no episode runs yet. -/
theorem checkCompare_different {s : State} (h : compares s) (hne : s.reg CFG_CRC ≠ s.reg CFG_CRC_REF) (hsafe : s.get CFG_CTRL_safe_on_drift = 0) :
    checkCompare s = if s.commit.drifting then s.put CFG_STATUS_drift 1
      else { s.put CFG_STATUS_drift 1 with commit := { s.commit with drifting := true } }.raiseEvent 342 0 := by
  unfold checkCompare
  rw [if_neg (checkCompare_on h), if_neg hne]
  dsimp only
  split
  · rfl
  · refine if_neg ?_
    rw [Bool.not_eq_true]
    refine flag_of_get_eq_zero ?_
    rw [State.get_raiseEvent]
    exact (State.get_put_ne s CFG_STATUS_drift CFG_CTRL_safe_on_drift 1 (by decide)).trans hsafe

section
variable {s : State} {c : Word}

theorem get_setCrc {f : Field} (hf : f.addr ≠ CFG_CRC) : (s.setReg CFG_CRC c).get f = s.get f :=
  State.get_of_reg (State.reg_setReg_ne s c hf)

theorem compares_setCrc : compares (s.setReg CFG_CRC c) ↔ compares s := by
  unfold compares
  rw [get_setCrc (by decide), get_setCrc (by decide), State.setReg_commit]

/-- A pass that takes no reference shows the CRC and compares. -/
theorem checkPass_compares (hup : s.up = true) (hgo : s.get CFG_COMMIT_go = 0) (hc : c = BitVec.ofNat 32 (guardedCrc s)) :
    checkPass s = checkCompare (s.setReg CFG_CRC c) := by
  unfold checkPass
  rw [if_neg (by rw [hup]; decide), flag_of_get_eq_zero hgo, ← hc]
  rfl

/-- A pass that takes a reference. -/
theorem checkPass_takes (hup : s.up = true) (hgo : s.get CFG_COMMIT_go = 1) (hc : c = BitVec.ofNat 32 (guardedCrc s)) :
    ∃ m, checkPass s = checkCompare { s with regs := m, commit := { s.commit with suspendLeft := 0, drifting := false } } ∧
      ({ s with regs := m } : State).reg CFG_CRC = c ∧ ({ s with regs := m } : State).reg CFG_CRC_REF = c ∧
      ({ s with regs := m } : State).get CFG_STATUS_ref_valid = 1 ∧ ({ s with regs := m } : State).get CFG_COMMIT_go = 0 ∧
      SameRegs [CFG_CRC, CFG_CRC_REF, CFG_STATUS, CFG_COMMIT] s { s with regs := m } := by
  obtain ⟨m, hm⟩ := ((((OnlyRegs.refl s).setReg (a := CFG_CRC) (v := c)).setReg (a := CFG_CRC_REF) (v := (s.setReg CFG_CRC c).reg CFG_CRC)).put
    (f := CFG_STATUS_ref_valid) (v := 1)).put (f := CFG_COMMIT_go) (v := 0)
  refine ⟨m, ?_, ?_⟩
  · unfold checkPass
    rw [if_neg (by rw [hup]; decide), flag_of_get_eq_one hgo, if_pos rfl, ← hc, hm]
  · rw [← hm]
    refine ⟨?_, ?_, ?_, State.get_put_same _ _ _ (by decide) (by decide), (SameRegs.refl _ s).setReg.setReg.put.put⟩
    · rw [State.reg_put_ne _ _ (by decide), State.reg_put_ne _ _ (by decide), State.reg_setReg_ne _ _ (by decide), State.reg_setReg_same]
    · rw [State.reg_put_ne _ _ (by decide), State.reg_put_ne _ _ (by decide), State.reg_setReg_same, State.reg_setReg_same]
    · rw [State.get_put_ne _ _ _ _ (by decide)]
      exact State.get_put_same _ _ _ (by decide) (by decide)

/-- What a comparison after a new CRC may write: CFG_CRC and the drift bit. -/
theorem putDrift_facts (v : Nat) : ∃ m, (s.setReg CFG_CRC c).put CFG_STATUS_drift v = { s with regs := m } ∧
    ({ s with regs := m } : State).reg CFG_CRC = c ∧ ({ s with regs := m } : State).get CFG_STATUS_drift = v % 2 ∧
    SameRegs [CFG_CRC, CFG_STATUS] s { s with regs := m } := by
  obtain ⟨m, hm⟩ := ((OnlyRegs.refl s).setReg (a := CFG_CRC) (v := c)).put (f := CFG_STATUS_drift) (v := v)
  refine ⟨m, hm, ?_, ?_, ?_⟩
  · rw [← hm, State.reg_put_ne _ _ (by decide), State.reg_setReg_same]
  · rw [← hm]
    exact State.get_put_same _ _ _ (by decide) (by decide)
  · rw [← hm]
    exact (SameRegs.refl _ s).setReg.put

end

/-- Settles O39. -/
theorem configurationCheckActsAsStated : Obligations.ConfigurationCheckActsAsStated := by
  unfold Obligations.ConfigurationCheckActsAsStated
  intro s hup
  extract_lets c compares'
  have hpass (hgo : s.get CFG_COMMIT_go = 0) : checkPass s = checkCompare (s.setReg CFG_CRC c) := checkPass_compares hup hgo rfl
  have htake (hgo : s.get CFG_COMMIT_go = 1) := checkPass_takes hup hgo (c := c) rfl
  clear_value c
  have href : (s.setReg CFG_CRC c).reg CFG_CRC_REF = s.reg CFG_CRC_REF := State.reg_setReg_ne s c (by decide)
  have hexec : exec .cfgCheckPass s = .next (checkPass s) := rfl
  rw [hexec]
  refine ⟨fun hgo => ?_, fun hgo hnot => ?_, fun hgo hcmp heq => ?_, fun hgo hcmp hne hsafe => ?_⟩
  · obtain ⟨m, htaken, hcrc, href', hvalid, hgo', hregs⟩ := htake hgo
    rw [htaken]
    by_cases hcmp : compares { s with regs := m, commit := { s.commit with suspendLeft := 0, drifting := false } }
    · rw [checkCompare_equal hcmp (hcrc.trans href'.symm)]
      generalize hx : ({ s with regs := m, commit := { s.commit with suspendLeft := 0, drifting := false } } : State) = x
      have hxregs : SameRegs [CFG_CRC, CFG_CRC_REF, CFG_STATUS, CFG_COMMIT] s x := hx ▸ hregs
      obtain ⟨m', hm'⟩ := (OnlyRegs.refl x).put (f := CFG_STATUS_drift) (v := 0)
      have hdrift : SameRegs [CFG_CRC, CFG_CRC_REF, CFG_STATUS, CFG_COMMIT] s { x with regs := m' } := hm' ▸ hxregs.put
      have hkeep (a : Nat) (ha : a ≠ CFG_STATUS) : ({ x with regs := m' } : State).reg a = x.reg a := hm' ▸ State.reg_put_ne _ _ ha
      have hvalid' : ({ x with regs := m' } : State).get CFG_STATUS_ref_valid = x.get CFG_STATUS_ref_valid :=
        hm' ▸ State.get_put_below _ _ _ _ (by decide) (by decide) (by decide)
      have hgo'' : ({ x with regs := m' } : State).get CFG_COMMIT_go = x.get CFG_COMMIT_go := State.get_of_reg (hkeep _ (by decide))
      rw [hm']
      subst hx
      exact ⟨_, rfl, (hkeep _ (by decide)).trans hcrc, (hkeep _ (by decide)).trans href', hvalid'.trans hvalid, hgo''.trans hgo', rfl, hdrift, rfl⟩
    · rw [checkCompare_off hcmp]
      exact ⟨_, rfl, hcrc, href', hvalid, hgo', rfl, hregs, rfl⟩
  · exact congrArg Host.Outcome.next ((hpass hgo).trans (checkCompare_off (mt compares_setCrc.1 hnot)))
  · have hequal := (hpass hgo).trans (checkCompare_equal (compares_setCrc.2 hcmp) (by rw [href, State.reg_setReg_same, heq]))
    obtain ⟨m, hm, hcrc, hdrift, hregs⟩ := putDrift_facts (s := s) (c := c) 0
    rw [hm, State.setReg_commit] at hequal
    exact ⟨_, congrArg Host.Outcome.next hequal, hcrc, hdrift, rfl, hregs, rfl⟩
  · have hdiff := (hpass hgo).trans (checkCompare_different (compares_setCrc.2 hcmp) (by rw [href, State.reg_setReg_same]; exact hne)
      ((get_setCrc (by decide)).trans hsafe))
    obtain ⟨m, hm, hcrc, hdrift, hregs⟩ := putDrift_facts (s := s) (c := c) 1
    rw [hm, State.setReg_commit] at hdiff
    refine ⟨_, congrArg Host.Outcome.next hdiff, ?_⟩
    cases hdrifting : s.commit.drifting
    · exact ⟨hcrc, hdrift, rfl, rfl, hregs, rfl⟩
    · refine ⟨hcrc, hdrift, ?_, rfl, hregs, rfl⟩
      rw [if_pos rfl, ← hdrifting]

end Sys2Proof.Machine
end

section
/-!
PROOF. The parts of the state that a command touches: what it leaves of the others.
-/
set_option autoImplicit false
set_option Elab.async false

namespace Sys2Proof.Machine
open Reg Bit

/-- The parts of the state. -/
inductive Part where
  | pending | free | out | ticks | regs | staged | shadows | pairs | clears | late | commit | pins | always | start | modes
  | events | snap | lanes | asks | granted | chargeDue | ports | tows | links | fab | nextUid | svc | landing | hcs | dram | tt
  | ledger | therm | activity | otp | purser | test
  deriving DecidableEq

/-- The state t within the parts of the list, s outside them. -/
def State.within (l : List Part) (s t : State) : State where
  pending := if .pending ∈ l then t.pending else s.pending
  free := if .free ∈ l then t.free else s.free
  out := if .out ∈ l then t.out else s.out
  ticks := if .ticks ∈ l then t.ticks else s.ticks
  regs := if .regs ∈ l then t.regs else s.regs
  staged := if .staged ∈ l then t.staged else s.staged
  shadows := if .shadows ∈ l then t.shadows else s.shadows
  pairs := if .pairs ∈ l then t.pairs else s.pairs
  clears := if .clears ∈ l then t.clears else s.clears
  late := if .late ∈ l then t.late else s.late
  commit := if .commit ∈ l then t.commit else s.commit
  pins := if .pins ∈ l then t.pins else s.pins
  always := if .always ∈ l then t.always else s.always
  start := if .start ∈ l then t.start else s.start
  modes := if .modes ∈ l then t.modes else s.modes
  events := if .events ∈ l then t.events else s.events
  snap := if .snap ∈ l then t.snap else s.snap
  lanes := if .lanes ∈ l then t.lanes else s.lanes
  asks := if .asks ∈ l then t.asks else s.asks
  granted := if .granted ∈ l then t.granted else s.granted
  chargeDue := if .chargeDue ∈ l then t.chargeDue else s.chargeDue
  ports := if .ports ∈ l then t.ports else s.ports
  tows := if .tows ∈ l then t.tows else s.tows
  links := if .links ∈ l then t.links else s.links
  fab := if .fab ∈ l then t.fab else s.fab
  nextUid := if .nextUid ∈ l then t.nextUid else s.nextUid
  svc := if .svc ∈ l then t.svc else s.svc
  landing := if .landing ∈ l then t.landing else s.landing
  hcs := if .hcs ∈ l then t.hcs else s.hcs
  dram := if .dram ∈ l then t.dram else s.dram
  tt := if .tt ∈ l then t.tt else s.tt
  ledger := if .ledger ∈ l then t.ledger else s.ledger
  therm := if .therm ∈ l then t.therm else s.therm
  activity := if .activity ∈ l then t.activity else s.activity
  otp := if .otp ∈ l then t.otp else s.otp
  purser := if .purser ∈ l then t.purser else s.purser
  test := if .test ∈ l then t.test else s.test

/-- The parts outside the list stand. -/
def Touches (l : List Part) (s t : State) : Prop := s.within l t = t

namespace Touches
variable {l : List Part} {s t u : State}

theorem refl (l : List Part) (s : State) : Touches l s s := by
  simp only [Touches, State.within, ite_self]

theorem within_within (l : List Part) (s t u : State) : (s.within l t).within l u = s.within l u := by
  simp only [State.within]
  congr 1 <;> split <;> rfl

theorem trans (h : Touches l s t) (h' : Touches l t u) : Touches l s u :=
  calc s.within l u = (s.within l t).within l u := (within_within l s t u).symm
    _ = t.within l u := by rw [h]
    _ = u := h'

theorem mono {l' : List Part} (h : Touches l s t) (hl : l ⊆ l') : Touches l' s t := by
  have hw : s.within l' (s.within l t) = s.within l t := by
    simp only [State.within]
    congr 1 <;> grind
  rw [h] at hw
  exact hw

theorem free (h : Touches l s t) {x} (hl : .free ∈ l := by decide) : Touches l s { t with free := x } :=
  (by simp only [State.within, if_pos hl] : s.within l { t with free := x } = { s.within l t with free := x }).trans (by rw [h])

theorem out (h : Touches l s t) {x} (hl : .out ∈ l := by decide) : Touches l s { t with out := x } :=
  (by simp only [State.within, if_pos hl] : s.within l { t with out := x } = { s.within l t with out := x }).trans (by rw [h])

theorem staged (h : Touches l s t) {x} (hl : .staged ∈ l := by decide) : Touches l s { t with staged := x } :=
  (by simp only [State.within, if_pos hl] : s.within l { t with staged := x } = { s.within l t with staged := x }).trans (by rw [h])

theorem shadows (h : Touches l s t) {x} (hl : .shadows ∈ l := by decide) : Touches l s { t with shadows := x } :=
  (by simp only [State.within, if_pos hl] : s.within l { t with shadows := x } = { s.within l t with shadows := x }).trans (by rw [h])

theorem pairs (h : Touches l s t) {x} (hl : .pairs ∈ l := by decide) : Touches l s { t with pairs := x } :=
  (by simp only [State.within, if_pos hl] : s.within l { t with pairs := x } = { s.within l t with pairs := x }).trans (by rw [h])

theorem clears (h : Touches l s t) {x} (hl : .clears ∈ l := by decide) : Touches l s { t with clears := x } :=
  (by simp only [State.within, if_pos hl] : s.within l { t with clears := x } = { s.within l t with clears := x }).trans (by rw [h])

theorem late (h : Touches l s t) {x} (hl : .late ∈ l := by decide) : Touches l s { t with late := x } :=
  (by simp only [State.within, if_pos hl] : s.within l { t with late := x } = { s.within l t with late := x }).trans (by rw [h])

theorem commit (h : Touches l s t) {x} (hl : .commit ∈ l := by decide) : Touches l s { t with commit := x } :=
  (by simp only [State.within, if_pos hl] : s.within l { t with commit := x } = { s.within l t with commit := x }).trans (by rw [h])

theorem pins (h : Touches l s t) {x} (hl : .pins ∈ l := by decide) : Touches l s { t with pins := x } :=
  (by simp only [State.within, if_pos hl] : s.within l { t with pins := x } = { s.within l t with pins := x }).trans (by rw [h])

theorem always (h : Touches l s t) {x} (hl : .always ∈ l := by decide) : Touches l s { t with always := x } :=
  (by simp only [State.within, if_pos hl] : s.within l { t with always := x } = { s.within l t with always := x }).trans (by rw [h])

theorem start (h : Touches l s t) {x} (hl : .start ∈ l := by decide) : Touches l s { t with start := x } :=
  (by simp only [State.within, if_pos hl] : s.within l { t with start := x } = { s.within l t with start := x }).trans (by rw [h])

theorem modes (h : Touches l s t) {x} (hl : .modes ∈ l := by decide) : Touches l s { t with modes := x } :=
  (by simp only [State.within, if_pos hl] : s.within l { t with modes := x } = { s.within l t with modes := x }).trans (by rw [h])

theorem events (h : Touches l s t) {x} (hl : .events ∈ l := by decide) : Touches l s { t with events := x } :=
  (by simp only [State.within, if_pos hl] : s.within l { t with events := x } = { s.within l t with events := x }).trans (by rw [h])

theorem snap (h : Touches l s t) {x} (hl : .snap ∈ l := by decide) : Touches l s { t with snap := x } :=
  (by simp only [State.within, if_pos hl] : s.within l { t with snap := x } = { s.within l t with snap := x }).trans (by rw [h])

theorem lanes (h : Touches l s t) {x} (hl : .lanes ∈ l := by decide) : Touches l s { t with lanes := x } :=
  (by simp only [State.within, if_pos hl] : s.within l { t with lanes := x } = { s.within l t with lanes := x }).trans (by rw [h])

theorem asks (h : Touches l s t) {x} (hl : .asks ∈ l := by decide) : Touches l s { t with asks := x } :=
  (by simp only [State.within, if_pos hl] : s.within l { t with asks := x } = { s.within l t with asks := x }).trans (by rw [h])

theorem granted (h : Touches l s t) {x} (hl : .granted ∈ l := by decide) : Touches l s { t with granted := x } :=
  (by simp only [State.within, if_pos hl] : s.within l { t with granted := x } = { s.within l t with granted := x }).trans (by rw [h])

theorem chargeDue (h : Touches l s t) {x} (hl : .chargeDue ∈ l := by decide) : Touches l s { t with chargeDue := x } :=
  (by simp only [State.within, if_pos hl] : s.within l { t with chargeDue := x } = { s.within l t with chargeDue := x }).trans (by rw [h])

theorem ports (h : Touches l s t) {x} (hl : .ports ∈ l := by decide) : Touches l s { t with ports := x } :=
  (by simp only [State.within, if_pos hl] : s.within l { t with ports := x } = { s.within l t with ports := x }).trans (by rw [h])

theorem tows (h : Touches l s t) {x} (hl : .tows ∈ l := by decide) : Touches l s { t with tows := x } :=
  (by simp only [State.within, if_pos hl] : s.within l { t with tows := x } = { s.within l t with tows := x }).trans (by rw [h])

theorem links (h : Touches l s t) {x} (hl : .links ∈ l := by decide) : Touches l s { t with links := x } :=
  (by simp only [State.within, if_pos hl] : s.within l { t with links := x } = { s.within l t with links := x }).trans (by rw [h])

theorem fab (h : Touches l s t) {x} (hl : .fab ∈ l := by decide) : Touches l s { t with fab := x } :=
  (by simp only [State.within, if_pos hl] : s.within l { t with fab := x } = { s.within l t with fab := x }).trans (by rw [h])

theorem nextUid (h : Touches l s t) {x} (hl : .nextUid ∈ l := by decide) : Touches l s { t with nextUid := x } :=
  (by simp only [State.within, if_pos hl] : s.within l { t with nextUid := x } = { s.within l t with nextUid := x }).trans (by rw [h])

theorem svc (h : Touches l s t) {x} (hl : .svc ∈ l := by decide) : Touches l s { t with svc := x } :=
  (by simp only [State.within, if_pos hl] : s.within l { t with svc := x } = { s.within l t with svc := x }).trans (by rw [h])

theorem landing (h : Touches l s t) {x} (hl : .landing ∈ l := by decide) : Touches l s { t with landing := x } :=
  (by simp only [State.within, if_pos hl] : s.within l { t with landing := x } = { s.within l t with landing := x }).trans (by rw [h])

theorem hcs (h : Touches l s t) {x} (hl : .hcs ∈ l := by decide) : Touches l s { t with hcs := x } :=
  (by simp only [State.within, if_pos hl] : s.within l { t with hcs := x } = { s.within l t with hcs := x }).trans (by rw [h])

theorem dram (h : Touches l s t) {x} (hl : .dram ∈ l := by decide) : Touches l s { t with dram := x } :=
  (by simp only [State.within, if_pos hl] : s.within l { t with dram := x } = { s.within l t with dram := x }).trans (by rw [h])

theorem tt (h : Touches l s t) {x} (hl : .tt ∈ l := by decide) : Touches l s { t with tt := x } :=
  (by simp only [State.within, if_pos hl] : s.within l { t with tt := x } = { s.within l t with tt := x }).trans (by rw [h])

theorem ledger (h : Touches l s t) {x} (hl : .ledger ∈ l := by decide) : Touches l s { t with ledger := x } :=
  (by simp only [State.within, if_pos hl] : s.within l { t with ledger := x } = { s.within l t with ledger := x }).trans (by rw [h])

theorem therm (h : Touches l s t) {x} (hl : .therm ∈ l := by decide) : Touches l s { t with therm := x } :=
  (by simp only [State.within, if_pos hl] : s.within l { t with therm := x } = { s.within l t with therm := x }).trans (by rw [h])

theorem activity (h : Touches l s t) {x} (hl : .activity ∈ l := by decide) : Touches l s { t with activity := x } :=
  (by simp only [State.within, if_pos hl] : s.within l { t with activity := x } = { s.within l t with activity := x }).trans (by rw [h])

theorem otp (h : Touches l s t) {x} (hl : .otp ∈ l := by decide) : Touches l s { t with otp := x } :=
  (by simp only [State.within, if_pos hl] : s.within l { t with otp := x } = { s.within l t with otp := x }).trans (by rw [h])

theorem purser (h : Touches l s t) {x} (hl : .purser ∈ l := by decide) : Touches l s { t with purser := x } :=
  (by simp only [State.within, if_pos hl] : s.within l { t with purser := x } = { s.within l t with purser := x }).trans (by rw [h])

theorem test (h : Touches l s t) {x} (hl : .test ∈ l := by decide) : Touches l s { t with test := x } :=
  (by simp only [State.within, if_pos hl] : s.within l { t with test := x } = { s.within l t with test := x }).trans (by rw [h])

theorem regs (h : Touches l s t) {x} (hl : .regs ∈ l := by decide) : Touches l s { t with regs := x } :=
  (by simp only [State.within, if_pos hl] : s.within l { t with regs := x } = { s.within l t with regs := x }).trans (by rw [h])

/-- What looks only at parts outside the list reads as before. -/
theorem frame (h : Touches l s t) (F : State → State) (hF : ∀ u, F (s.within l u) = s) : F t = s := by
  rw [← h]
  exact hF t

/-! What stands outside the list. -/

theorem keeps_free (h : Touches l s t) (hl : .free ∉ l := by decide) : t.free = s.free :=
  (congrArg State.free h).symm.trans (if_neg hl)

theorem keeps_out (h : Touches l s t) (hl : .out ∉ l := by decide) : t.out = s.out :=
  (congrArg State.out h).symm.trans (if_neg hl)

theorem keeps_ticks (h : Touches l s t) (hl : .ticks ∉ l := by decide) : t.ticks = s.ticks :=
  (congrArg State.ticks h).symm.trans (if_neg hl)

theorem keeps_staged (h : Touches l s t) (hl : .staged ∉ l := by decide) : t.staged = s.staged :=
  (congrArg State.staged h).symm.trans (if_neg hl)

theorem keeps_shadows (h : Touches l s t) (hl : .shadows ∉ l := by decide) : t.shadows = s.shadows :=
  (congrArg State.shadows h).symm.trans (if_neg hl)

theorem keeps_pairs (h : Touches l s t) (hl : .pairs ∉ l := by decide) : t.pairs = s.pairs :=
  (congrArg State.pairs h).symm.trans (if_neg hl)

theorem keeps_clears (h : Touches l s t) (hl : .clears ∉ l := by decide) : t.clears = s.clears :=
  (congrArg State.clears h).symm.trans (if_neg hl)

theorem keeps_late (h : Touches l s t) (hl : .late ∉ l := by decide) : t.late = s.late :=
  (congrArg State.late h).symm.trans (if_neg hl)

theorem keeps_commit (h : Touches l s t) (hl : .commit ∉ l := by decide) : t.commit = s.commit :=
  (congrArg State.commit h).symm.trans (if_neg hl)

theorem keeps_pins (h : Touches l s t) (hl : .pins ∉ l := by decide) : t.pins = s.pins :=
  (congrArg State.pins h).symm.trans (if_neg hl)

theorem keeps_always (h : Touches l s t) (hl : .always ∉ l := by decide) : t.always = s.always :=
  (congrArg State.always h).symm.trans (if_neg hl)

theorem keeps_start (h : Touches l s t) (hl : .start ∉ l := by decide) : t.start = s.start :=
  (congrArg State.start h).symm.trans (if_neg hl)

theorem keeps_modes (h : Touches l s t) (hl : .modes ∉ l := by decide) : t.modes = s.modes :=
  (congrArg State.modes h).symm.trans (if_neg hl)

theorem keeps_events (h : Touches l s t) (hl : .events ∉ l := by decide) : t.events = s.events :=
  (congrArg State.events h).symm.trans (if_neg hl)

theorem keeps_snap (h : Touches l s t) (hl : .snap ∉ l := by decide) : t.snap = s.snap :=
  (congrArg State.snap h).symm.trans (if_neg hl)

theorem keeps_lanes (h : Touches l s t) (hl : .lanes ∉ l := by decide) : t.lanes = s.lanes :=
  (congrArg State.lanes h).symm.trans (if_neg hl)

theorem keeps_asks (h : Touches l s t) (hl : .asks ∉ l := by decide) : t.asks = s.asks :=
  (congrArg State.asks h).symm.trans (if_neg hl)

theorem keeps_granted (h : Touches l s t) (hl : .granted ∉ l := by decide) : t.granted = s.granted :=
  (congrArg State.granted h).symm.trans (if_neg hl)

theorem keeps_chargeDue (h : Touches l s t) (hl : .chargeDue ∉ l := by decide) : t.chargeDue = s.chargeDue :=
  (congrArg State.chargeDue h).symm.trans (if_neg hl)

theorem keeps_ports (h : Touches l s t) (hl : .ports ∉ l := by decide) : t.ports = s.ports :=
  (congrArg State.ports h).symm.trans (if_neg hl)

theorem keeps_tows (h : Touches l s t) (hl : .tows ∉ l := by decide) : t.tows = s.tows :=
  (congrArg State.tows h).symm.trans (if_neg hl)

theorem keeps_links (h : Touches l s t) (hl : .links ∉ l := by decide) : t.links = s.links :=
  (congrArg State.links h).symm.trans (if_neg hl)

theorem keeps_fab (h : Touches l s t) (hl : .fab ∉ l := by decide) : t.fab = s.fab :=
  (congrArg State.fab h).symm.trans (if_neg hl)

theorem keeps_nextUid (h : Touches l s t) (hl : .nextUid ∉ l := by decide) : t.nextUid = s.nextUid :=
  (congrArg State.nextUid h).symm.trans (if_neg hl)

theorem keeps_svc (h : Touches l s t) (hl : .svc ∉ l := by decide) : t.svc = s.svc :=
  (congrArg State.svc h).symm.trans (if_neg hl)

theorem keeps_landing (h : Touches l s t) (hl : .landing ∉ l := by decide) : t.landing = s.landing :=
  (congrArg State.landing h).symm.trans (if_neg hl)

theorem keeps_hcs (h : Touches l s t) (hl : .hcs ∉ l := by decide) : t.hcs = s.hcs :=
  (congrArg State.hcs h).symm.trans (if_neg hl)

theorem keeps_dram (h : Touches l s t) (hl : .dram ∉ l := by decide) : t.dram = s.dram :=
  (congrArg State.dram h).symm.trans (if_neg hl)

theorem keeps_tt (h : Touches l s t) (hl : .tt ∉ l := by decide) : t.tt = s.tt :=
  (congrArg State.tt h).symm.trans (if_neg hl)

theorem keeps_ledger (h : Touches l s t) (hl : .ledger ∉ l := by decide) : t.ledger = s.ledger :=
  (congrArg State.ledger h).symm.trans (if_neg hl)

theorem keeps_therm (h : Touches l s t) (hl : .therm ∉ l := by decide) : t.therm = s.therm :=
  (congrArg State.therm h).symm.trans (if_neg hl)

theorem keeps_activity (h : Touches l s t) (hl : .activity ∉ l := by decide) : t.activity = s.activity :=
  (congrArg State.activity h).symm.trans (if_neg hl)

theorem keeps_otp (h : Touches l s t) (hl : .otp ∉ l := by decide) : t.otp = s.otp :=
  (congrArg State.otp h).symm.trans (if_neg hl)

theorem keeps_purser (h : Touches l s t) (hl : .purser ∉ l := by decide) : t.purser = s.purser :=
  (congrArg State.purser h).symm.trans (if_neg hl)

theorem keeps_test (h : Touches l s t) (hl : .test ∉ l := by decide) : t.test = s.test :=
  (congrArg State.test h).symm.trans (if_neg hl)

theorem keeps_regs (h : Touches l s t) (hl : .regs ∉ l := by decide) : t.regs = s.regs :=
  (congrArg State.regs h).symm.trans (if_neg hl)

theorem keeps_pending (h : Touches l s t) (hl : .pending ∉ l := by decide) : t.pending = s.pending :=
  (congrArg State.pending h).symm.trans (if_neg hl)

/-! The operations of the state. -/

theorem setReg (h : Touches l s t) {a : Nat} {v : Word} (hl : .regs ∈ l := by decide) : Touches l s (t.setReg a v) := h.regs hl
theorem put (h : Touches l s t) {f : Field} {v : Nat} (hl : .regs ∈ l := by decide) : Touches l s (t.put f v) := h.setReg hl
theorem putFlag (h : Touches l s t) {f : Field} {b : Bool} (hl : .regs ∈ l := by decide) : Touches l s (t.putFlag f b) := h.setReg hl
theorem resetReg (h : Touches l s t) {a : Nat} (hl : .regs ∈ l := by decide) : Touches l s (t.resetReg a) := h.setReg hl
theorem addField (h : Touches l s t) {f : Field} {n : Nat} (hl : .regs ∈ l := by decide) : Touches l s (t.addField f n) := h.setReg hl
theorem addSat (h : Touches l s t) {a n : Nat} (hl : .regs ∈ l := by decide) : Touches l s (t.addSat a n) := h.setReg hl
theorem add48 (h : Touches l s t) {a n : Nat} (hl : .regs ∈ l := by decide) : Touches l s (t.add48 a n) := (h.setReg hl).setReg hl
theorem raiseEvent (h : Touches l s t) {e info : Nat} (hl : .events ∈ l := by decide) : Touches l s (t.raiseEvent e info) := h.events hl

theorem causeWith (h : Touches l s t) {c : CauseBit} {info : Nat} (hr : .regs ∈ l := by decide) (he : .events ∈ l := by decide) :
    Touches l s (t.causeWith c info) := by
  unfold State.causeWith
  extract_lets s1 r masked bits
  have h1 : Touches l s s1 := h.put hr
  split
  · exact h1
  · exact h1.events he

theorem cause (h : Touches l s t) {c : CauseBit} (hr : .regs ∈ l := by decide) (he : .events ∈ l := by decide) : Touches l s (t.cause c) :=
  h.causeWith hr he

theorem acted (h : Touches l s t) {k n : Nat} (hl : .activity ∈ l := by decide) : Touches l s (t.acted k n) := h.activity hl
theorem drew (h : Touches l s t) (hl : .free ∈ l := by decide) : Touches l s t.drew := h.free hl
theorem modLane (h : Touches l s t) {k : Nat} {f : LaneSt → LaneSt} (hl : .lanes ∈ l := by decide) : Touches l s (t.modLane k f) := h.lanes hl
theorem setLane (h : Touches l s t) {k : Nat} {v : LaneSt} (hl : .lanes ∈ l := by decide) : Touches l s (t.setLane k v) := h.lanes hl
theorem modPort (h : Touches l s t) {k : Nat} {f : PortSt → PortSt} (hl : .ports ∈ l := by decide) : Touches l s (t.modPort k f) := h.ports hl
theorem setPort (h : Touches l s t) {k : Nat} {v : PortSt} (hl : .ports ∈ l := by decide) : Touches l s (t.setPort k v) := h.ports hl
theorem modTow (h : Touches l s t) {k : Nat} {f : TowSt → TowSt} (hl : .tows ∈ l := by decide) : Touches l s (t.modTow k f) := h.tows hl
theorem setTow (h : Touches l s t) {k : Nat} {v : TowSt} (hl : .tows ∈ l := by decide) : Touches l s (t.setTow k v) := h.tows hl
theorem modLink (h : Touches l s t) {k : Nat} {f : LinkSt → LinkSt} (hl : .links ∈ l := by decide) : Touches l s (t.modLink k f) := h.links hl
theorem setLink (h : Touches l s t) {k : Nat} {v : LinkSt} (hl : .links ∈ l := by decide) : Touches l s (t.setLink k v) := h.links hl
theorem modFab (h : Touches l s t) {k : Nat} {f : FabPort → FabPort} (hl : .fab ∈ l := by decide) : Touches l s (t.modFab k f) := h.fab hl
theorem setFab (h : Touches l s t) {k : Nat} {v : FabPort} (hl : .fab ∈ l := by decide) : Touches l s (t.setFab k v) := h.fab hl
theorem modHc (h : Touches l s t) {k : Nat} {f : HcSt → HcSt} (hl : .hcs ∈ l := by decide) : Touches l s (t.modHc k f) := h.hcs hl
theorem setHc (h : Touches l s t) {k : Nat} {v : HcSt} (hl : .hcs ∈ l := by decide) : Touches l s (t.setHc k v) := h.hcs hl
theorem modTest (h : Touches l s t) {f : TestSt → TestSt} (hl : .test ∈ l := by decide) : Touches l s (t.modTest f) := h.test hl
theorem modTherm (h : Touches l s t) {f : ThermSt → ThermSt} (hl : .therm ∈ l := by decide) : Touches l s (t.modTherm f) := h.therm hl
theorem modStart (h : Touches l s t) {f : Start → Start} (hl : .start ∈ l := by decide) : Touches l s (t.modStart f) := h.start hl
theorem modAlways (h : Touches l s t) {f : AlwaysOn → AlwaysOn} (hl : .always ∈ l := by decide) : Touches l s (t.modAlways f) := h.always hl
theorem modPurser (h : Touches l s t) {f : Purser → Purser} (hl : .purser ∈ l := by decide) : Touches l s (t.modPurser f) := h.purser hl
theorem modBox (h : Touches l s t) {m : Nat} {f : Mailbox → Mailbox} (hl : .purser ∈ l := by decide) : Touches l s (t.modBox m f) := h.purser hl
theorem modTap (h : Touches l s t) {f : TapSt → TapSt} (hl : .test ∈ l := by decide) : Touches l s (t.modTap f) := h.test hl
theorem modDie (h : Touches l s t) {d : Nat} {f : DieSt → DieSt} (hl : .dram ∈ l := by decide) : Touches l s (t.modDie d f) := h.dram hl
theorem returned (h : Touches l s t) {w : Word} {b : List Byte} (hl : .out ∈ l := by decide) : Touches l s (t.returned w b) := h.out hl

theorem ite {c : Prop} {_ : Decidable c} (ht : Touches l s t) (hu : Touches l s u) : Touches l s (if c then t else u) := by
  split
  · exact ht
  · exact hu

theorem when (h : Touches l s t) {b : Bool} {f : State → State} (hf : ∀ u, Touches l s u → Touches l s (f u)) : Touches l s (Machine.when b f t) :=
  .ite (hf t h) h

theorem forEach {α : Type} (h : Touches l s t) {f : α → State → State} {xs : List α} (hf : ∀ a u, Touches l s u → Touches l s (f a u)) :
    Touches l s (Machine.forEach xs f t) := by
  unfold Machine.forEach
  induction xs generalizing t with
  | nil => exact h
  | cons a xs ih => exact ih (hf a t h)

end Touches
/-! ### Registers and fields behind updates of other parts -/

namespace SameRegs
variable {l : List Nat} {s t u : State}

theorem modLane (h : SameRegs l s t) {k : Nat} {f : LaneSt → LaneSt} : SameRegs l s (t.modLane k f) := h
theorem setLane (h : SameRegs l s t) {k : Nat} {v : LaneSt} : SameRegs l s (t.setLane k v) := h
theorem modPort (h : SameRegs l s t) {k : Nat} {f : PortSt → PortSt} : SameRegs l s (t.modPort k f) := h
theorem setPort (h : SameRegs l s t) {k : Nat} {v : PortSt} : SameRegs l s (t.setPort k v) := h
theorem modTow (h : SameRegs l s t) {k : Nat} {f : TowSt → TowSt} : SameRegs l s (t.modTow k f) := h
theorem setTow (h : SameRegs l s t) {k : Nat} {v : TowSt} : SameRegs l s (t.setTow k v) := h
theorem modLink (h : SameRegs l s t) {k : Nat} {f : LinkSt → LinkSt} : SameRegs l s (t.modLink k f) := h
theorem setLink (h : SameRegs l s t) {k : Nat} {v : LinkSt} : SameRegs l s (t.setLink k v) := h
theorem modFab (h : SameRegs l s t) {k : Nat} {f : FabPort → FabPort} : SameRegs l s (t.modFab k f) := h
theorem setFab (h : SameRegs l s t) {k : Nat} {v : FabPort} : SameRegs l s (t.setFab k v) := h
theorem modHc (h : SameRegs l s t) {k : Nat} {f : HcSt → HcSt} : SameRegs l s (t.modHc k f) := h
theorem setHc (h : SameRegs l s t) {k : Nat} {v : HcSt} : SameRegs l s (t.setHc k v) := h
theorem acted (h : SameRegs l s t) {k n : Nat} : SameRegs l s (t.acted k n) := h
theorem drew (h : SameRegs l s t) : SameRegs l s (t.drew) := h
theorem modTest (h : SameRegs l s t) {f : TestSt → TestSt} : SameRegs l s (t.modTest f) := h
theorem modTherm (h : SameRegs l s t) {f : ThermSt → ThermSt} : SameRegs l s (t.modTherm f) := h
theorem modStart (h : SameRegs l s t) {f : Start → Start} : SameRegs l s (t.modStart f) := h
theorem modAlways (h : SameRegs l s t) {f : AlwaysOn → AlwaysOn} : SameRegs l s (t.modAlways f) := h
theorem modPurser (h : SameRegs l s t) {f : Purser → Purser} : SameRegs l s (t.modPurser f) := h
theorem modBox (h : SameRegs l s t) {m : Nat} {f : Mailbox → Mailbox} : SameRegs l s (t.modBox m f) := h
theorem modDie (h : SameRegs l s t) {d : Nat} {f : DieSt → DieSt} : SameRegs l s (t.modDie d f) := h
theorem returned (h : SameRegs l s t) {w : Word} {b : List Byte} : SameRegs l s (t.returned w b) := h

theorem ite {c : Prop} {_ : Decidable c} (ht : SameRegs l s t) (hu : SameRegs l s u) : SameRegs l s (if c then t else u) := by
  split
  · exact ht
  · exact hu

theorem forEach {α : Type} (h : SameRegs l s t) {f : α → State → State} {xs : List α} (hf : ∀ a u, SameRegs l s u → SameRegs l s (f a u)) :
    SameRegs l s (Machine.forEach xs f t) := by
  unfold Machine.forEach
  induction xs generalizing t with
  | nil => exact h
  | cons a xs ih => exact ih (hf a t h)

end SameRegs

namespace State
variable (s : State)

theorem get_modLane (k : Nat) (f : LaneSt → LaneSt) (g : Field) : (s.modLane k f).get g = s.get g := get_of_reg (State.reg_of_regs rfl g.addr)
theorem get_setLane (k : Nat) (v : LaneSt) (g : Field) : (s.setLane k v).get g = s.get g := get_of_reg (State.reg_of_regs rfl g.addr)
theorem get_modPort (k : Nat) (f : PortSt → PortSt) (g : Field) : (s.modPort k f).get g = s.get g := get_of_reg (State.reg_of_regs rfl g.addr)
theorem get_setPort (k : Nat) (v : PortSt) (g : Field) : (s.setPort k v).get g = s.get g := get_of_reg (State.reg_of_regs rfl g.addr)
theorem get_modTow (k : Nat) (f : TowSt → TowSt) (g : Field) : (s.modTow k f).get g = s.get g := get_of_reg (State.reg_of_regs rfl g.addr)
theorem get_setTow (k : Nat) (v : TowSt) (g : Field) : (s.setTow k v).get g = s.get g := get_of_reg (State.reg_of_regs rfl g.addr)
theorem get_modLink (k : Nat) (f : LinkSt → LinkSt) (g : Field) : (s.modLink k f).get g = s.get g := get_of_reg (State.reg_of_regs rfl g.addr)
theorem get_setLink (k : Nat) (v : LinkSt) (g : Field) : (s.setLink k v).get g = s.get g := get_of_reg (State.reg_of_regs rfl g.addr)
theorem get_modFab (k : Nat) (f : FabPort → FabPort) (g : Field) : (s.modFab k f).get g = s.get g := get_of_reg (State.reg_of_regs rfl g.addr)
theorem get_setFab (k : Nat) (v : FabPort) (g : Field) : (s.setFab k v).get g = s.get g := get_of_reg (State.reg_of_regs rfl g.addr)
theorem get_modHc (k : Nat) (f : HcSt → HcSt) (g : Field) : (s.modHc k f).get g = s.get g := get_of_reg (State.reg_of_regs rfl g.addr)
theorem get_setHc (k : Nat) (v : HcSt) (g : Field) : (s.setHc k v).get g = s.get g := get_of_reg (State.reg_of_regs rfl g.addr)
theorem get_acted (k n : Nat) (g : Field) : (s.acted k n).get g = s.get g := get_of_reg (State.reg_of_regs rfl g.addr)
theorem get_drew (g : Field) : s.drew.get g = s.get g := get_of_reg (State.reg_of_regs rfl g.addr)
theorem get_modTest (f : TestSt → TestSt) (g : Field) : (s.modTest f).get g = s.get g := get_of_reg (State.reg_of_regs rfl g.addr)
theorem get_modTherm (f : ThermSt → ThermSt) (g : Field) : (s.modTherm f).get g = s.get g := get_of_reg (State.reg_of_regs rfl g.addr)
theorem get_modStart (f : Start → Start) (g : Field) : (s.modStart f).get g = s.get g := get_of_reg (State.reg_of_regs rfl g.addr)
theorem get_modAlways (f : AlwaysOn → AlwaysOn) (g : Field) : (s.modAlways f).get g = s.get g := get_of_reg (State.reg_of_regs rfl g.addr)
theorem get_modPurser (f : Purser → Purser) (g : Field) : (s.modPurser f).get g = s.get g := get_of_reg (State.reg_of_regs rfl g.addr)
theorem get_modBox (m : Nat) (f : Mailbox → Mailbox) (g : Field) : (s.modBox m f).get g = s.get g := get_of_reg (State.reg_of_regs rfl g.addr)
theorem get_modDie (d : Nat) (f : DieSt → DieSt) (g : Field) : (s.modDie d f).get g = s.get g := get_of_reg (State.reg_of_regs rfl g.addr)
theorem get_returned (w : Word) (b : List Byte) (g : Field) : (s.returned w b).get g = s.get g := get_of_reg (State.reg_of_regs rfl g.addr)

theorem lane_of_lanes {s t : State} (h : t.lanes = s.lanes) (k : Nat) : t.lane k = s.lane k := congrArg (KMap.get _ · k) h
theorem port_of_ports {s t : State} (h : t.ports = s.ports) (k : Nat) : t.port k = s.port k := congrArg (KMap.get _ · k) h
theorem tow_of_tows {s t : State} (h : t.tows = s.tows) (k : Nat) : t.tow k = s.tow k := congrArg (KMap.get _ · k) h
theorem link_of_links {s t : State} (h : t.links = s.links) (k : Nat) : t.link k = s.link k := congrArg (KMap.get _ · k) h
theorem fabPort_of_fab {s t : State} (h : t.fab = s.fab) (k : Nat) : t.fabPort k = s.fabPort k := congrArg (KMap.get _ · k) h
theorem hc_of_hcs {s t : State} (h : t.hcs = s.hcs) (k : Nat) : t.hc k = s.hc k := congrArg (KMap.get _ · k) h
theorem get_of_regs {s t : State} (h : t.regs = s.regs) (f : Field) : t.get f = s.get f := get_of_reg (reg_of_regs h f.addr)

/-- A cause leaves the fields of other registers. -/
theorem get_cause_ne {c : CauseBit} {f : Field} (h : f.addr ≠ c.cause) : (s.cause c).get f = s.get f :=
  get_of_reg ((reg_cause s c f.addr).trans (reg_put_ne s 1 h))

theorem reg_cause_ne {c : CauseBit} {a : Nat} (h : a ≠ c.cause) : (s.cause c).reg a = s.reg a :=
  (reg_cause s c a).trans (reg_put_ne s 1 h)

theorem reg_addSat_same (a n : Nat) : ((s.addSat a n).reg a).toNat = satAdd 0xFFFFFFFF (s.reg a).toNat n := by
  rw [addSat, reg_setReg_same, BitVec.toNat_ofNat]
  exact Nat.mod_eq_of_lt (lt_of_le_of_lt (Nat.min_le_left _ _) (by decide))

end State

end Sys2Proof.Machine
end

section
/-!
PROOF. The test access port.
-/
set_option autoImplicit false
set_option Elab.async false

namespace Sys2Proof.Machine
open Reg Bit

theorem KMap.find_put_ne {α : Type} [DecidableEq α] {d : Nat → α} {m : KMap α} {k j : Nat} {v : α} (h : j ≠ k) : (KMap.put d m k v).find j = m.find j := by
  unfold KMap.put
  split
  · exact KMap.find_erase_ne m k j h
  · exact KMap.find_ins_ne m k j v h

namespace Touches
theorem modTapOnly {l : List Part} {s t : State} (h : Touches l s t) {f : TapSt → TapSt} (hl : .test ∈ l := by decide) : Touches l s (t.modTap f) := h.test hl
end Touches

section
variable {s : State} {code : Nat}

theorem tapLoad_allowed (h : tapAllowed s code = true) : tapLoad code s = s.modTap fun x => { x with ir := code } := if_pos h

/-- An instruction outside its condition acts as BYPASS and raises JTAG_ACTIVE. -/
theorem tapLoad_refused (h : tapAllowed s code = false) (hup : s.up = true) :
    tapLoad code s = (s.modTap fun x => { x with ir := Tap.bypass }).cause Cause.TST_jtag_active :=
  (if_neg (by rw [h]; decide)).trans (if_pos hup)

theorem tapBoundary_allowed (h : tapAllowed s code = true) (n : Nat) :
    tapBoundary code n s = s.modTap fun x => { x with ir := code, boundary := n } :=
  (if_pos h).trans (by rw [tapLoad_allowed h]; rfl)

theorem tapBoundary_refused (h : tapAllowed s code = false) (n : Nat) : tapBoundary code n s = tapLoad code s := if_neg (by rw [h]; decide)

theorem tapWir_allowed (h : tapAllowed s Tap.wirAccess = true) (v : Nat) :
    tapWir v s = s.modTap fun x => { x with ir := Tap.wirAccess, wir := KMap.put (fun _ => 0) x.wir x.die v } :=
  (if_pos h).trans (by rw [tapLoad_allowed h]; rfl)

theorem tapWdr_allowed (h : tapAllowed s Tap.wdrAccess = true) (v : Nat) :
    tapWdr v s = s.modTap fun x => { x with ir := Tap.wdrAccess, wdr := KMap.put (fun _ => 0) x.wdr x.die v } :=
  (if_pos h).trans (by rw [tapLoad_allowed h]; rfl)

theorem tapSelect_allowed (h : tapAllowed s Tap.wrapSel = true) (d : Nat) :
    tapSelect d s = s.modTap fun x => { x with ir := Tap.wrapSel, die := d } :=
  (if_pos h).trans (by rw [tapLoad_allowed h]; rfl)

theorem tapWir_refused (h : tapAllowed s Tap.wirAccess = false) (v : Nat) : tapWir v s = tapLoad Tap.wirAccess s := if_neg (by rw [h]; decide)

theorem tapWdr_refused (h : tapAllowed s Tap.wdrAccess = false) (v : Nat) : tapWdr v s = tapLoad Tap.wdrAccess s := if_neg (by rw [h]; decide)

theorem tapSelect_refused (h : tapAllowed s Tap.wrapSel = false) (d : Nat) : tapSelect d s = tapLoad Tap.wrapSel s := if_neg (by rw [h]; decide)

/-- The instruction needs RESET_N low. -/
@[reducible] def needsResetN (code : Nat) : Prop := ¬ (code = Tap.idcode ∨ code = Tap.sample ∨ code = Tap.bypass) ∧ code ≠ Tap.cfgAccess

theorem tapAllowed_of_needsResetN (h : needsResetN code) (s : State) : tapAllowed s code = !s.pins.resetN :=
  (if_neg h.1).trans (if_neg h.2)

theorem cause_getLsbD (s : State) (c : CauseBit) (h : c.bit < 32) : ((s.cause c).reg c.cause).getLsbD c.bit = true := by
  rw [State.reg_cause]
  have hget : (s.put ⟨c.cause, c.bit, c.bit⟩ 1).get ⟨c.cause, c.bit, c.bit⟩ = 1 :=
    (State.get_put_same s ⟨c.cause, c.bit, c.bit⟩ 1 (le_refl _) h).trans (by simp)
  simp only [State.get, Word.bits] at hget
  rw [BitVec.getLsbD, Nat.testBit, Nat.shiftRight_eq_div_pow]
  simp at hget ⊢
  omega

/-- A refused instruction: BYPASS and JTAG_ACTIVE alone. -/
theorem tapLoad_of_refused (h : tapAllowed s code = false) (hup : s.up = true) :
    (tapLoad code s).test.tap = { s.test.tap with ir := Tap.bypass } ∧
      ((tapLoad code s).reg TST_EVT_CAUSE).getLsbD (Cause.TST_jtag_active).bit = true ∧ SameRegs [TST_EVT_CAUSE] s (tapLoad code s) ∧
      { tapLoad code s with test := s.test, regs := s.regs, events := s.events } = s := by
  rw [tapLoad_refused h hup]
  generalize hu : s.modTap (fun x => { x with ir := Tap.bypass }) = u
  have hs : SameRegs [TST_EVT_CAUSE] s u := hu ▸ .of_regs rfl
  have hframe : { u with test := s.test, regs := s.regs, events := s.events } = s := by rw [← hu]; rfl
  refine ⟨?_, cause_getLsbD u Cause.TST_jtag_active (by decide), hs.cause, ?_⟩
  · exact (congrArg TestSt.tap (((RegsAndEvents.refl u).cause (c := Cause.TST_jtag_active)).keep (F := State.test) (fun _ _ => rfl) rfl)).trans (by rw [← hu]; rfl)
  · exact ((RegsAndEvents.refl u).cause (c := Cause.TST_jtag_active)).keep (F := fun t => { t with test := s.test, regs := s.regs, events := s.events })
      (fun _ _ => rfl) hframe

end

theorem shown_modTap (s : State) (f : TapSt → TapSt) (a : Nat) : shown (s.modTap f) a = shown s a := rfl

theorem isLow_of_unshadowed {r : RegRow} (h : r.sh = false) (a : Nat) : isLow r a = false := by
  rw [isLow, h, Bool.false_and]

/-- A read of a register without shadow or read effect. -/
theorem cfgRead_plain {s : State} {a : Nat} {r : RegRow} {i : Nat} (hup : s.up = true) (hr : rowAt a = some (r, i)) (hrc : r.rc = 0) (hsh : r.sh = false)
    (hlog : a ≠ EVT_LOG_W 0) (hsnap : a ≠ SNAP_RD_DATA) (src : Nat) : cfgRead src a s = (shown s a, s) := by
  have hread : readWord src a s = shown s a := by simp [readWord, hr, hsh]
  have heffect : readEffect src a s = s := by simp [readEffect, hr, hrc, isLow_of_unshadowed hsh, hlog, hsnap]
  rw [cfgRead, if_pos hup, hread, heffect]

theorem tapAccess_allowed {s : State} (h : tapAllowed s Tap.cfgAccess = true) (isWrite : Bool) (a : Nat) (v : Word) :
    tapAccess isWrite a v s =
      let s1 := s.modTap fun x => { x with ir := Tap.cfgAccess }
      let r := if isWrite then (v, write Src.jtag a v s1) else cfgRead Src.jtag a s1
      (r.2.modTap fun x => { x with data := r.1, ok := true }).returned r.1 [] := by
  unfold tapAccess
  rw [h, tapLoad_allowed h]
  rfl

/-- GLB_LOCK takes the bits that are set. -/
theorem write_lock {s : State} (h : writable s GLB_LOCK = true) (src : Nat) (v : Word) :
    write src GLB_LOCK v s = s.setReg GLB_LOCK (s.reg GLB_LOCK ||| (v &&& 0xFFFF)) := by
  refine (write_of_writable h rfl src v).trans ?_
  show plainWrite _ GLB_LOCK v s = _
  unfold plainWrite
  refine congrArg (s.setReg GLB_LOCK) ?_
  have hall : s.reg GLB_LOCK &&& 4294967295#32 = s.reg GLB_LOCK := BitVec.and_allOnes
  simp [plainWord, hall]

/-- Settles O41: an instruction in its condition is one change of the TAP, outside it a refused load. -/
theorem testAccessActsAsStated : Obligations.TestAccessActsAsStated := by
  unfold Obligations.TestAccessActsAsStated
  intro s
  refine ⟨rfl, rfl, rfl, fun _ => rfl, fun hreset => ?_, fun hreset hup => ?_, fun hpower hclock hup => ⟨?_, ?_⟩⟩
  · have hallowed {code : Nat} (h : needsResetN code) : tapAllowed s code = true := by rw [tapAllowed_of_needsResetN h, hreset]; rfl
    refine ⟨fun n => ⟨?_, ?_, ?_⟩, ?_, ?_, fun d => ?_, fun n => ?_, fun n => ?_, rfl, rfl, rfl⟩
    · exact congrArg Host.Outcome.next (tapBoundary_allowed (hallowed (by decide)) n)
    · exact congrArg Host.Outcome.next (tapBoundary_allowed (hallowed (by decide)) n)
    · exact congrArg Host.Outcome.next (tapBoundary_allowed (hallowed (by decide)) n)
    · exact congrArg Host.Outcome.next (tapLoad_allowed (hallowed (by decide)))
    · exact congrArg Host.Outcome.next (tapLoad_allowed (hallowed (by decide)))
    · exact congrArg Host.Outcome.next (tapSelect_allowed (hallowed (by decide)) d)
    · exact ⟨_, congrArg Host.Outcome.next (tapWir_allowed (hallowed (by decide)) n), KMap.get_put_same .., 
        fun d hd => KMap.find_put_ne (d := fun _ => 0) (v := n) hd, rfl, rfl⟩
    · exact ⟨_, congrArg Host.Outcome.next (tapWdr_allowed (hallowed (by decide)) n), KMap.get_put_same .., 
        fun d hd => KMap.find_put_ne (d := fun _ => 0) (v := n) hd, rfl, rfl⟩
  · have hrefused {code : Nat} (h : needsResetN code) : tapAllowed s code = false := by rw [tapAllowed_of_needsResetN h, hreset]; rfl
    have hload {code : Nat} (h : needsResetN code) := tapLoad_of_refused (hrefused h) hup
    refine ⟨fun n => ⟨?_, ?_, ?_, ?_, ?_⟩, ?_, ?_, fun d => ?_, ?_, ?_, ?_⟩
    · exact ⟨_, congrArg Host.Outcome.next (tapBoundary_refused (hrefused (by decide)) n), hload (by decide)⟩
    · exact ⟨_, congrArg Host.Outcome.next (tapBoundary_refused (hrefused (by decide)) n), hload (by decide)⟩
    · exact ⟨_, congrArg Host.Outcome.next (tapBoundary_refused (hrefused (by decide)) n), hload (by decide)⟩
    · exact ⟨_, congrArg Host.Outcome.next (tapWir_refused (hrefused (by decide)) n), hload (by decide)⟩
    · exact ⟨_, congrArg Host.Outcome.next (tapWdr_refused (hrefused (by decide)) n), hload (by decide)⟩
    · exact ⟨_, rfl, hload (by decide)⟩
    · exact ⟨_, rfl, hload (by decide)⟩
    · exact ⟨_, congrArg Host.Outcome.next (tapSelect_refused (hrefused (by decide)) d), hload (by decide)⟩
    · exact ⟨_, congrArg Host.Outcome.next (tapWir_refused (hrefused (by decide)) _), hload (by decide)⟩
    · exact ⟨_, congrArg Host.Outcome.next (tapWir_refused (hrefused (by decide)) _), hload (by decide)⟩
    · exact ⟨_, congrArg Host.Outcome.next (tapWir_refused (hrefused (by decide)) _), hload (by decide)⟩
  · intro a v r i hr hrc hsh hlog hsnap
    have hallowed : tapAllowed s Tap.cfgAccess = true := by simp [tapAllowed, Tap.cfgAccess, Tap.idcode, Tap.sample, Tap.bypass, hpower, hclock]
    refine congrArg Host.Outcome.next ((tapAccess_allowed hallowed false a v).trans ?_)
    have hread := cfgRead_plain (s := s.modTap fun x => { x with ir := Tap.cfgAccess }) hup hr hrc hsh hlog hsnap Src.jtag
    dsimp only
    rw [if_neg (by decide), hread, shown_modTap]
    rfl
  · intro v
    have hallowed : tapAllowed s Tap.cfgAccess = true := by simp [tapAllowed, Tap.cfgAccess, Tap.idcode, Tap.sample, Tap.bypass, hpower, hclock]
    have hw : writable (s.modTap fun x => { x with ir := Tap.cfgAccess }) GLB_LOCK = true := (congrArg (· && _) hup).trans rfl
    refine ⟨_, congrArg Host.Outcome.next (tapAccess_allowed hallowed true GLB_LOCK v), ?_⟩
    dsimp only
    rw [if_pos rfl, write_lock hw]
    exact ⟨State.reg_setReg_same .., rfl, .setReg (.of_regs rfl)⟩

end Sys2Proof.Machine
end

section
/-!
PROOF. The aggregation of events.
-/
set_option autoImplicit false
set_option Elab.async false

namespace Sys2Proof.Machine
open Reg Bit

theorem natBit_reg (s : State) (a i : Nat) : natBit (s.reg a).toNat i = (s.get ⟨a, i, i⟩ == 1) := by
  simp [natBit, State.get, Word.bits]

theorem eventRecord_lt (e count cross info : Nat) : eventRecord e count cross info < 2 ^ 128 := by
  unfold eventRecord
  split <;> omega

/-- A bit set in a register, seen bit by bit. -/
theorem natBit_put_bit (s : State) {a b i k : Nat} (hi : i < 32) :
    natBit ((s.put ⟨a, i, i⟩ 1).reg b).toNat k = (natBit (s.reg b).toNat k || (decide (b = a) && decide (k = i))) := by
  rw [natBit_reg, natBit_reg]
  by_cases hb : b = a
  · subst hb
    rcases lt_trichotomy k i with hk | rfl | hk
    · simp [State.get_put_below s ⟨b, i, i⟩ ⟨b, k, k⟩ 1 (le_refl i) hi hk, hk.ne]
    · simp [State.get_put_same s ⟨b, k, k⟩ 1 (le_refl k) hi]
    · simp [State.get_put_above s ⟨b, i, i⟩ ⟨b, k, k⟩ 1 (le_refl i) hi hk, hk.ne']
  · simp [State.get_put_ne s ⟨a, i, i⟩ ⟨b, k, k⟩ 1 hb, hb]

/-- The state with other event data. -/
def State.withEvents (s : State) (E : Events) : State := { s with events := E }

@[simp] theorem State.events_withEvents (s : State) (E : Events) : (s.withEvents E).events = E := rfl

@[simp] theorem State.reg_withEvents (s : State) (E : Events) (a : Nat) : (s.withEvents E).reg a = s.reg a := State.reg_of_regs rfl a

@[simp] theorem State.get_withEvents (s : State) (E : Events) (f : Field) : (s.withEvents E).get f = s.get f := State.get_of_regs rfl f

theorem SameRegs.withEvents {l : List Nat} {s t : State} (h : SameRegs l s t) {E : Events} : SameRegs l s (t.withEvents E) := h

theorem get_put_headIndex (s : State) (n : Nat) : (s.put EVT_LOG_HEAD_index n).get EVT_LOG_HEAD_index = n % 4096 :=
  State.get_put_same s EVT_LOG_HEAD_index n (by decide) (by decide)

section
variable {s : State}

/-- A record appended to a log with room. -/
theorem logAppend_of_room (h : s.events.held < 4096) (rec : Nat) :
    logAppend rec s = (s.put EVT_LOG_HEAD_index (s.get EVT_LOG_HEAD_index + 1)).withEvents
      { s.events with log := s.events.log.ins (s.get EVT_LOG_HEAD_index) (BitVec.ofNat 128 rec), held := s.events.held + 1 } := by
  unfold logAppend
  rw [if_pos h]
  rfl

/-- The record of one event of the crossing: its count, its record and the head that moves. -/
theorem aggregateOne_of_room (h : s.events.held < 4096) {e : Nat} (he : e < 384) (cross : Nat) (r : Raised) :
    aggregateOne cross e r s = ((s.put ⟨EVT_PEND (e / 32), e % 32, e % 32⟩ 1).put EVT_LOG_HEAD_index (s.get EVT_LOG_HEAD_index + 1)).withEvents
      { s.events with
        counts := KMap.put (fun _ => 0) s.events.counts e (satAdd 0xFFFFFFFF (KMap.get (fun _ => 0) s.events.counts e) r.count)
        log := s.events.log.ins (s.get EVT_LOG_HEAD_index) (BitVec.ofNat 128 (eventRecord e r.count cross r.info))
        held := s.events.held + 1 } := by
  have hhead : (s.put ⟨EVT_PEND (e / 32), e % 32, e % 32⟩ 1).get EVT_LOG_HEAD_index = s.get EVT_LOG_HEAD_index :=
    State.get_put_ne s _ EVT_LOG_HEAD_index 1 (by simp [EVT_PEND, EVT_LOG_HEAD_index, EVT_LOG_HEAD]; omega)
  let counts := KMap.put (fun _ => 0) s.events.counts e (satAdd 0xFFFFFFFF (KMap.get (fun _ => 0) s.events.counts e) r.count)
  have hone : aggregateOne cross e r s = logAppend (eventRecord e r.count cross r.info)
    ((s.put ⟨EVT_PEND (e / 32), e % 32, e % 32⟩ 1).withEvents { s.events with counts := counts }) := rfl
  rw [hone, logAppend_of_room, State.get_withEvents, hhead]
  · rfl
  · exact h

/-- No notice goes out while no port is named. -/
theorem sendEvents_none (h : s.reg EVT_CTRL = 0) (cross : Nat) (l : List (Nat × Raised)) : sendEvents cross l s = s := by
  have hports : s.get EVT_CTRL_ntf_ports = 0 := by
    rw [State.get, show EVT_CTRL_ntf_ports.addr = EVT_CTRL from rfl, h]
    rfl
  unfold sendEvents
  rw [hports, show ((List.range 16).filter fun p => natBit 0 p) = [] from by decide]
  rfl

/-- The triggers of the snapshot block by the events of a crossing. -/
def eventTriggers (l : List (Nat × Raised)) (s : State) : State :=
  forEach (List.range 4) (fun k s =>
    if s.flag (SNAP_TRIG_enable k) && l.any (fun p => p.1 == s.get (SNAP_TRIG_event k)) then
      snapTrigger SnapSource.event (s.get (SNAP_TRIG_event k)) s
    else s) s

/-- The state with no event raised. -/
def noneRaised (s : State) : State := s.withEvents { s.events with raised := [] }

theorem aggregate_eq {l : List (Nat × Raised)} (hl : (s.events.raised.filter fun p => decide (0 < p.2.count)) = l) (cross : Nat) :
    aggregate cross s = eventTriggers l (showAlert (sendEvents cross l (forEach l (fun p s => aggregateOne cross p.1 p.2 s) (noneRaised s)))) :=
  hl ▸ rfl

theorem eventTriggers_none (h : ∀ k : Fin 4, s.get (SNAP_TRIG_enable k) = 0) (l : List (Nat × Raised)) : eventTriggers l s = s := by
  refine forEach_id fun k hk => if_neg ?_
  rw [flag_of_get_eq_zero (h ⟨k, List.mem_range.1 hk⟩), Bool.false_and]
  decide

theorem aggregate_none (htrig : ∀ k : Fin 4, s.get (SNAP_TRIG_enable k) = 0) (hraised : s.events.raised = []) (cross : Nat) :
    aggregate cross s = showAlert s := by
  have hnone : noneRaised s = s := by
    unfold noneRaised
    rw [← hraised]
    rfl
  have hsend : sendEvents cross [] s = s := forEach_id fun _ _ => forEach_id (by simp)
  have halert : ∀ k : Fin 4, (showAlert s).get (SNAP_TRIG_enable k) = 0 := fun k =>
    (((SameRegs.refl [EVT_STATUS] s).putFlag (f := EVT_STATUS_alert)).get (by simp [SNAP_TRIG_enable, SNAP_TRIG, EVT_STATUS]; omega)).trans (htrig k)
  rw [aggregate_eq (l := []) (by simp [hraised]), hnone, show forEach [] _ s = s from rfl, hsend, eventTriggers_none halert]

/-- Aggregation with one event raised. -/
theorem aggregate_single (htrig : ∀ k : Fin 4, s.get (SNAP_TRIG_enable k) = 0) {cross : Nat} {e : Fin 384} {r : Raised}
    (hraised : s.events.raised = [(e.val, r)]) (hcount : 0 < r.count) (hroom : s.events.held < 4096) (hctrl : s.reg EVT_CTRL = 0) :
    aggregate cross s = showAlert (aggregateOne cross e r (noneRaised s)) := by
  have hone := aggregateOne_of_room (s := noneRaised s) hroom e.isLt cross r
  generalize hv : aggregateOne cross e r (noneRaised s) = v at *
  have hsame : SameRegs [EVT_PEND (e / 32), EVT_LOG_HEAD, EVT_STATUS] s v := by
    rw [hone]
    exact .withEvents (.put (.put (.of_regs rfl) (by simp)) (by simp [EVT_LOG_HEAD_index]))
  have heach : forEach [(e.val, r)] (fun p s => aggregateOne cross p.1 p.2 s) (noneRaised s) = v := hv
  rw [aggregate_eq (l := [(e.val, r)]) (by simp [hraised, hcount]), heach, sendEvents_none, eventTriggers_none]
  · exact fun k => ((hsame.putFlag (.tail _ (.tail _ (.head _)))).get (by simp [SNAP_TRIG_enable, SNAP_TRIG, EVT_STATUS, EVT_PEND, EVT_LOG_HEAD]; omega)).trans (htrig k)
  · exact (hsame EVT_CTRL (by simp [EVT_CTRL, EVT_PEND, EVT_LOG_HEAD, EVT_STATUS]; omega)).trans hctrl

end

/-- Settles O44: one event is one bit, one count and one record, and nothing follows where no port and no trigger is named. -/
theorem eventsAreAggregatedAtTheBoundary : Obligations.EventsAreAggregatedAtTheBoundary := by
  unfold Obligations.EventsAreAggregatedAtTheBoundary
  intro s cross htrig
  constructor
  · intro e r hraised hcount hroom hctrl t
    have ht : t = showAlert _ := (aggregate_single htrig hraised hcount hroom hctrl).trans
      (congrArg showAlert (aggregateOne_of_room (s := noneRaised s) hroom e.isLt cross r))
    clear_value t
    subst ht
    refine ⟨fun k => ?_, KMap.get_put_same .., fun k hk => KMap.get_put_ne _ _ _ _ _ hk, ?_, ?_, rfl, rfl, ?_⟩
    · refine (congrArg (fun w : Word => natBit w.toNat (k % 32)) ?_).trans ((natBit_put_bit s (a := EVT_PEND (e / 32)) (b := EVT_PEND (k / 32)) (i := e % 32) (Nat.mod_lt _ (by decide))).trans ?_)
      · exact (State.reg_putFlag_ne _ _ (by simp [EVT_PEND, EVT_STATUS_alert, EVT_STATUS]; omega)).trans
          ((State.reg_withEvents _ _ _).trans ((State.reg_put_ne _ _ (by simp [EVT_PEND, EVT_LOG_HEAD_index, EVT_LOG_HEAD]; omega)).trans rfl))
      refine congrArg (natBit (s.reg (EVT_PEND (k / 32))).toNat (k % 32) || ·) ?_
      rw [Bool.eq_iff_iff, Bool.and_eq_true, decide_eq_true_eq, decide_eq_true_eq, beq_iff_eq, Fin.ext_iff, EVT_PEND, EVT_PEND]
      omega
    · have hfind := KMap.find_ins_same s.events.log (s.get EVT_LOG_HEAD_index) (BitVec.ofNat 128 (eventRecord e r.count cross r.info))
      refine Eq.trans (congrArg (fun x : Option (BitVec 128) => (x.getD 0).toNat) hfind) ?_
      exact (BitVec.toNat_ofNat _ _).trans (Nat.mod_eq_of_lt (eventRecord_lt _ _ _ _))
    · exact (State.get_put_ne _ _ _ _ (by decide)).trans ((State.get_withEvents _ _ _).trans (get_put_headIndex _ _))
    · exact .putFlag (.withEvents (.put (.put (.of_regs rfl) (by simp)) (by simp [EVT_LOG_HEAD_index]))) (by simp [EVT_STATUS_alert])
  · exact fun hraised => aggregate_none htrig hraised cross

end Sys2Proof.Machine
end

section
/-!
PROOF. Reads of events and causes, and the snapshot block.
-/
set_option autoImplicit false
set_option Elab.async false

namespace Sys2Proof.Machine
open Reg Bit

/-! ### Reads -/

section
variable {s : State} {r : RegRow} {a i : Nat}

theorem readOut_of_up (hup : s.up = true) (src a : Nat) : readOut src a s = (readEffect src a s).returned (readWord src a s) [] := by
  rw [readOut, cfgRead, if_pos hup]

theorem readWord_of_unshadowed (hr : rowAt a = some (r, i)) (hsh : r.sh = false ∨ isLow r a = true) (src : Nat) (s : State) :
    readWord src a s = shown s a := by
  simp only [readWord, hr]
  refine if_neg ?_
  rcases hsh with h | h <;> simp [h]

/-- What a read clears. -/
theorem readEffect_clears (hr : rowAt a = some (r, i)) (hsh : r.sh = false) (hrc : r.rc ≠ 0) (hlog : a ≠ EVT_LOG_W 0) (hsnap : a ≠ SNAP_RD_DATA)
    (src : Nat) (s : State) : readEffect src a s = s.setReg a (s.reg a &&& ~~~(BitVec.ofNat 32 r.rc)) := by
  simp [readEffect, hr, hrc, isLow_of_unshadowed hsh, hlog, hsnap]

/-- The rows that clear on a read hold plain registers that show what they hold. -/
theorem clearingRows_shown : ∀ r ∈ allRows, r.rc ≠ 0 → r.kind = .plain ∧ r.sh = false ∧ r.base ∉ derivedBases ∧
    r.avoids (EVT_LOG_W 0 :: derivedAddrs) = true := by decide +kernel

/-- A read of a register that clears returns its word and clears what clears on a read. -/
theorem readOut_clearing (hup : s.up = true) (hr : rowAt a = some (r, i)) (hrc : r.rc ≠ 0) (src : Nat) :
    readOut src a s = (s.setReg a (s.reg a &&& ~~~(BitVec.ofNat 32 r.rc))).returned (s.reg a) [] := by
  obtain ⟨hmem, hidx⟩ := mem_allRows_of_rowAt hr
  obtain ⟨hkind, hsh, hbase, havoid⟩ := clearingRows_shown r hmem hrc
  have hnot := RegRow.not_mem_of_avoids havoid hidx
  obtain ⟨hlog, hderived⟩ := not_or.1 (mt List.mem_cons.2 hnot)
  have hsnap : a ≠ SNAP_RD_DATA := fun e => hderived (e ▸ by decide)
  rw [readOut_of_up hup, readWord_of_unshadowed hr (.inl hsh), shown_eq_reg hr hkind hbase hderived, readEffect_clears hr hsh hrc hlog hsnap]

theorem rowAt_evtPend : ∀ k : Fin 12, ((rowAt (EVT_PEND k)).map fun q => q.1.rc) = some 0xFFFFFFFF := by decide +kernel

/-- The rows with shadows clear nothing on a read; beside a low word stands a high word with a shadow. -/
theorem lowRows : ∀ r ∈ allRows, r.sh = true → r.rc = 0 ∧ ∀ k < r.count, isLow r (r.base + k * r.stride) = true →
    (rowAt (r.base + k * r.stride + 4)).any (fun q => q.1.sh && !isLow q.1 (r.base + k * r.stride + 4)) = true ∧
    r.base + k * r.stride ≠ EVT_LOG_W 0 ∧ r.base + k * r.stride ≠ SNAP_RD_DATA := by decide +kernel

/-- A read of a low word returns it and latches the high word for the source. -/
theorem readOut_low (hup : s.up = true) (hr : rowAt a = some (r, i)) (hlow : isLow r a = true) (src : Nat) :
    readOut src a s = { s with shadows := s.shadows.ins (32 * (a + 4) + src) (shown s (a + 4)) }.returned (shown s a) [] ∧
      ∃ q j, rowAt (a + 4) = some (q, j) ∧ q.sh = true ∧ isLow q (a + 4) = false := by
  obtain ⟨hmem, hidx⟩ := mem_allRows_of_rowAt hr
  obtain ⟨ha, hi⟩ := RegRow.eq_of_indexOf hidx
  have hsh : r.sh = true := by
    rw [isLow, Bool.and_eq_true] at hlow
    exact hlow.1
  obtain ⟨hrc, hall⟩ := lowRows r hmem hsh
  obtain ⟨hhigh, hlog, hsnap⟩ := hall i hi (ha ▸ hlow)
  rw [← ha] at hhigh hlog hsnap
  obtain ⟨⟨q, j⟩, hq, hqs⟩ := (Option.any_eq_true _ _).1 hhigh
  rw [Bool.and_eq_true, Bool.not_eq_true'] at hqs
  refine ⟨?_, q, j, hq, hqs.1, hqs.2⟩
  rw [readOut_of_up hup, readWord_of_unshadowed hr (.inr hlow)]
  simp only [readEffect, hr, hrc, hlow, if_true, if_neg hlog, if_neg hsnap]

theorem readWord_high {q : RegRow} {j : Nat} (hq : rowAt a = some (q, j)) (hsh : q.sh = true) (hlow : isLow q a = false) (src : Nat) (s : State) :
    readWord src a s = (s.shadows.find (32 * a + src)).getD (resetAt a) := by
  simp [readWord, hq, hsh, hlow]

/-- A write of a counter clear in an unlocked register waits for the boundary. -/
theorem write_clear {row : RegRow} (hw : writable s a = true) (hr : rowAt a = some (row, i)) (hkind : row.kind = .plain) (hrw : row.rw ≠ 0 ∨ row.w1s ≠ 0)
    (hstaged : row.staged = 0) (hguard : guardedRow row = false) (hclear : isClear row a = true) (src : Nat) :
    write src a 1 s = { s.setReg a 1 with clears := insertSorted a s.clears } := by
  have hsuspend : suspendCheck row s = s := if_neg (by simp [hguard])
  have hone : Word.bits (1#32) 0 0 = 1 := rfl
  rw [write_of_writable hw hr]
  simp [writeRow, hkind, hsuspend, hstaged, hrw, liveWrite, hclear, hone, requestClear]

end

theorem writable_of_free {s : State} {a : Nat} {r : RegRow} {i : Nat} (hup : s.up = true) (hr : rowAt a = some (r, i)) (hlock : 16 ≤ r.lock) :
    writable s a = true := by
  simp [writable, hup, hr, locked, hlock]

/-- Settles O36: a read clears, latches or only returns, as its row says. -/
theorem eventReadsAndClearsActAsStated : Obligations.EventReadsAndClearsActAsStated := by
  unfold Obligations.EventReadsAndClearsActAsStated
  intro s src hup
  refine ⟨fun k => ?_, fun a r i hr hrc => ?_, fun v => ?_, ?_, fun a r i hr hlow => ?_, ?_, ?_, ?_⟩
  · obtain ⟨⟨r, j⟩, hr, hrc⟩ := Option.map_eq_some_iff.1 (rowAt_evtPend k)
    have hread := readOut_clearing hup hr (by rw [hrc]; decide) src
    refine ⟨_, congrArg Host.Outcome.next hread, rfl, ?_, (SameRegs.refl _ s).setReg (by simp), rfl⟩
    refine (State.reg_setReg_same _ _ _).trans ?_
    rw [hrc]
    exact BitVec.and_zero
  · refine ⟨_, congrArg Host.Outcome.next (readOut_clearing hup hr hrc src), rfl, fun k => ?_, (SameRegs.refl _ s).setReg (by simp), rfl⟩
    refine (congrArg (fun w : Word => w.getLsbD k) (State.reg_setReg_same s a.val _)).trans ?_
    simp only [BitVec.getLsbD_and, BitVec.getLsbD_not, k.isLt, decide_true, Bool.true_and, getLsbD_ofNat_eq_natBit]
  · have hw := writable_of_free (a := EVT_LOG_TAIL) hup rfl (by decide)
    refine ⟨_, congrArg Host.Outcome.next ((write_of_writable hw rfl src v).trans (show _ = evtTailWrite v.toNat s from rfl)), rfl, ?_, ?_, rfl⟩
    · exact State.get_put_same _ _ _ (by decide) (by decide)
    · exact .put (.of_regs rfl)
  · refine congrArg Host.Outcome.next ((readOut_of_up hup src _).trans ?_)
    rfl
  · obtain ⟨hread, q, j, hq, hsh, hqlow⟩ := readOut_low hup hr hlow src
    refine ⟨_, congrArg Host.Outcome.next hread, rfl, KMap.find_ins_same .., ?_, fun k hk => KMap.find_ins_ne _ _ _ _ hk, rfl⟩
    rw [readWord_high hq hsh hqlow]
    exact congrArg (fun x : Option Word => x.getD _) (KMap.find_ins_same ..)
  · exact congrArg Host.Outcome.next (write_clear (writable_of_free hup rfl (by decide)) rfl rfl (by decide) rfl rfl rfl src)
  · exact congrArg Host.Outcome.next (write_clear (writable_of_free hup rfl (by decide)) rfl rfl (by decide) rfl rfl rfl src)
  · exact congrArg Host.Outcome.next (write_clear (writable_of_free hup rfl (by decide)) rfl rfl (by decide) rfl rfl rfl src)

/-! ### The snapshot block -/

section
variable {s : State} {source event : Nat}

theorem snapTrigger_idle (hsrc : natBit (s.get SNAP_CTRL_src) source = true) (hcapture : s.snap.capture = none) :
    snapTrigger source event s =
      if source ≠ SnapSource.pin && s.flag SNAP_CTRL_drive then
        { s with snap := { s.snap with capture := some (newCapture source event) }, pins := { s.pins with snapDrive := true, snapIgnore := true } }
      else { s with snap := { s.snap with capture := some (newCapture source event) } } := by
  unfold snapTrigger
  rw [hsrc, hcapture]
  rfl

theorem snapTrigger_go_idle {b : Bool} (hsrc : natBit (s.get SNAP_CTRL_src) SnapSource.go = true) (hcapture : s.snap.capture = none)
    (hdrive : s.flag SNAP_CTRL_drive = b) :
    snapTrigger SnapSource.go event s =
      { s with snap := { s.snap with capture := some (newCapture SnapSource.go event) },
               pins := { s.pins with snapDrive := s.pins.snapDrive || b, snapIgnore := s.pins.snapIgnore || b } } := by
  rw [snapTrigger_idle hsrc hcapture, hdrive]
  cases b with
  | true => simp [SnapSource.go, SnapSource.pin]
  | false => simp

theorem snapTrigger_pin_waiting {c : Capture} (hsrc : natBit (s.get SNAP_CTRL_src) SnapSource.pin = true) (hcapture : s.snap.capture = some c)
    (hwords : c.words = none) :
    snapTrigger SnapSource.pin event s = { s with snap := { s.snap with capture := some (c.joined SnapSource.pin event) } }.addSat SNAP_MERGED 1 := by
  unfold snapTrigger
  rw [hsrc, hcapture]
  dsimp only
  rw [hwords]
  rfl

theorem snapTrigger_pin_draining {c : Capture} (hsrc : natBit (s.get SNAP_CTRL_src) SnapSource.pin = true) (hcapture : s.snap.capture = some c)
    (hwords : c.words.isSome = true) (hheld : s.snap.heldNext = none) :
    snapTrigger SnapSource.pin event s = { s with snap := { s.snap with heldNext := some (newCapture SnapSource.pin event) } } := by
  obtain ⟨w, hw⟩ := Option.isSome_iff_exists.1 hwords
  unfold snapTrigger
  rw [hsrc, hcapture]
  dsimp only
  rw [hw]
  dsimp only
  rw [hheld]
  rfl

theorem snapPin_of_heard (h : s.pins.snapIgnore = false) : snapPin s = snapTrigger SnapSource.pin 0x1FF s := if_neg (by rw [h]; decide)

/-- The latch takes the oldest free slot. -/
theorem snapLatch_free {c : Capture} {k : Nat} (hcapture : s.snap.capture = some c) (hdue : c.due = true) (hwords : c.words = none)
    (hfree : (s.snap.order.find? fun k => (s.snap.slots.find k).isNone) = some k) (rails : List Nat) :
    snapLatch rails s = { s with snap := { s.snap with
      seq := (s.snap.seq + 1) % 65536
      slots := s.snap.slots.erase k
      capture := some { c with slot := k, words := some (snapWords s c ((s.snap.seq + 1) % 65536) rails) } } } := by
  unfold snapLatch
  rw [hcapture]
  dsimp only
  rw [hdue, hwords, hfree]
  rfl

/-- With no slot free the loss is counted and reported. -/
def snapLost (s : State) : State := (s.addSat SNAP_LOST 1).cause Cause.SNAP_snap_lost

theorem snapLatch_full {c : Capture} (hcapture : s.snap.capture = some c) (hdue : c.due = true) (hwords : c.words = none)
    (hfree : (s.snap.order.find? fun k => (s.snap.slots.find k).isNone) = none) (rails : List Nat) :
    snapLatch rails s =
      match (if s.flag SNAP_CTRL_hold then none else s.snap.order.head?) with
      | none => { snapLost s with snap := { (snapLost s).snap with capture := none } }
      | some k => { snapLost s with snap := { (snapLost s).snap with
          seq := ((snapLost s).snap.seq + 1) % 65536
          slots := (snapLost s).snap.slots.erase k
          capture := some { c with slot := k, words := some (snapWords s c (((snapLost s).snap.seq + 1) % 65536) rails) } } } := by
  unfold snapLatch
  rw [hcapture]
  dsimp only
  rw [hdue, hwords, hfree]
  rfl

theorem snapLost_regsAndEvents (s : State) : RegsAndEvents s (snapLost s) := (RegsAndEvents.refl s).addSat.cause

theorem snapLost_snap (s : State) : (snapLost s).snap = s.snap := (snapLost_regsAndEvents s).keep (F := State.snap) (fun _ _ => rfl) rfl

theorem snapDone_of_words {c : Capture} {w : KMap Word} (hcapture : s.snap.capture = some c) (hwords : c.words = some w) :
    snapDone s = (({ s with snap := { s.snap with
        slots := s.snap.slots.ins c.slot w
        order := s.snap.order.erase c.slot ++ [c.slot]
        capture := s.snap.heldNext
        heldNext := none } }.put SNAP_STATUS_newest c.slot).put SNAP_STATUS_seq s.snap.seq).cause Cause.SNAP_snap_done := by
  unfold snapDone
  rw [hcapture]
  dsimp only
  rw [hwords]

end

/-! A write of SNAP_CTRL with go. -/

theorem getLsbD_withBits_zero (w : Word) (b : Bool) (k : Nat) : (w.withBits 0 0 b.toNat).getLsbD k = if k = 0 then b else w.getLsbD k := by
  split
  · next h =>
    rw [h, getLsbD_eq_bits, Word.bits_withBits_same _ _ _ _ (by decide) (by decide)]
    cases b <;> rfl
  · next h => exact getLsbD_withBits_above w 0 0 _ k (by decide) (by decide) (Nat.pos_of_ne_zero h)

/-- A field read from two words that agree in its bits. -/
theorem bits_congr {w u : Word} {hi lo : Nat} (h : ∀ k, lo ≤ k → k ≤ hi → w.getLsbD k = u.getLsbD k) : w.bits hi lo = u.bits hi lo := by
  refine Nat.eq_of_testBit_eq fun j => ?_
  simp only [Word.bits, Nat.testBit_mod_two_pow, Nat.testBit_div_two_pow]
  by_cases hj : j < hi + 1 - lo
  · rw [show w.toNat.testBit (j + lo) = u.toNat.testBit (j + lo) from h (j + lo) (by omega) (by omega)]
  · simp [hj]

/-- The word of SNAP_CTRL after a write with go. -/
theorem snapCtrl_word (old v : Word) :
    (((old &&& ~~~0xF30) ||| (v.withBits 0 0 1 &&& 0xF30) ||| (v.withBits 0 0 1 &&& 0x1)).withBits 0 0 0) = (old &&& ~~~0xF31) ||| (v &&& 0xF30) := by
  have h0 (w : Word) (k : Nat) : (w.withBits 0 0 0).getLsbD k = if k = 0 then false else w.getLsbD k := getLsbD_withBits_zero w false k
  have h1 (k : Nat) : (v.withBits 0 0 1).getLsbD k = if k = 0 then true else v.getLsbD k := getLsbD_withBits_zero v true k
  refine BitVec.eq_of_getLsbD_eq fun k hk => ?_
  simp only [h0, h1, BitVec.getLsbD_or, BitVec.getLsbD_and, BitVec.getLsbD_not]
  interval_cases k <;> simp

/-- A write of SNAP_CTRL with go stores its fields and is a trigger. -/
theorem write_snapGo {s : State} (hw : writable s SNAP_CTRL = true) (src : Nat) (v : Word) :
    ∃ m, write src SNAP_CTRL (v.withBits 0 0 1) s =
        snapTrigger SnapSource.go 0x1FF { s with regs := m, commit := { s.commit with suspendLeft := 1024 } } ∧
      ({ s with regs := m } : State).reg SNAP_CTRL = (s.reg SNAP_CTRL &&& ~~~0xF31) ||| (v &&& 0xF30) ∧ SameRegs [SNAP_CTRL] s { s with regs := m } := by
  have hgo : (v.withBits 0 0 1).bits 0 0 = 1 := Word.bits_withBits_same v 0 0 1 (by decide) (by decide)
  obtain ⟨r, hwrite, hrw, hw1s⟩ : ∃ r, write src SNAP_CTRL (v.withBits 0 0 1) s =
      snapWrite r (v.withBits 0 0 1) { s with commit := { s.commit with suspendLeft := 1024 } } ∧ r.rw = 0xF30 ∧ r.w1s = 1 :=
    ⟨_, (write_of_writable hw rfl src _).trans rfl, rfl, rfl⟩
  generalize hs1 : ({ s with commit := { s.commit with suspendLeft := 1024 } } : State) = s1 at hwrite
  obtain ⟨m, hm⟩ : OnlyRegs s1 ((plainWrite r SNAP_CTRL (v.withBits 0 0 1) s1).put SNAP_CTRL_go 0) := (OnlyRegs.refl s1).setReg.put
  have hreg : ((plainWrite r SNAP_CTRL (v.withBits 0 0 1) s1).put SNAP_CTRL_go 0).reg SNAP_CTRL = (s1.reg SNAP_CTRL &&& ~~~0xF31) ||| (v &&& 0xF30) := by
    rw [State.reg_put, show SNAP_CTRL_go.addr = SNAP_CTRL from rfl, if_pos rfl, plainWrite, State.reg_setReg_same, plainWord, hrw, hw1s]
    exact snapCtrl_word _ v
  have hsame : SameRegs [SNAP_CTRL] s1 ((plainWrite r SNAP_CTRL (v.withBits 0 0 1) s1).put SNAP_CTRL_go 0) := .put (.setReg (.refl _ s1))
  have hsnap : snapWrite r (v.withBits 0 0 1) s1 = snapTrigger SnapSource.go 0x1FF ((plainWrite r SNAP_CTRL (v.withBits 0 0 1) s1).put SNAP_CTRL_go 0) := if_pos hgo
  rw [hwrite, hsnap]
  rw [hm] at hreg hsame ⊢
  subst hs1
  exact ⟨m, rfl, hreg, hsame⟩

theorem snapCtrl_src {s : State} {old v : Word} (h : s.reg SNAP_CTRL = (old &&& ~~~0xF31) ||| (v &&& 0xF30)) : s.get SNAP_CTRL_src = v.bits 11 8 := by
  rw [State.get, show SNAP_CTRL_src.addr = SNAP_CTRL from rfl, h]
  refine bits_congr fun k hlo hhi => ?_
  simp only [SNAP_CTRL_src] at hlo hhi
  simp only [BitVec.getLsbD_or, BitVec.getLsbD_and, BitVec.getLsbD_not]
  interval_cases k <;> simp

theorem snapCtrl_drive {s : State} {old v : Word} (h : s.reg SNAP_CTRL = (old &&& ~~~0xF31) ||| (v &&& 0xF30)) : s.flag SNAP_CTRL_drive = v.getLsbD 4 := by
  have hbit : (s.reg SNAP_CTRL).getLsbD 4 = v.getLsbD 4 := by
    rw [h]
    simp
  rw [← hbit, getLsbD_eq_bits]
  have := get_lt_two (s := s) (f := SNAP_CTRL_drive) rfl
  rw [State.flag]
  change (s.get SNAP_CTRL_drive != 0) = (s.get SNAP_CTRL_drive == 1)
  interval_cases s.get SNAP_CTRL_drive <;> rfl

theorem find_filter_slots (m : KMap (KMap Word)) (n k : Nat) :
    KMap.find (m.filter fun p => !natBit n p.1) k = if natBit n k then none else KMap.find m k := by
  induction m with
  | nil => simp
  | cons p t ih =>
    by_cases hp : p.1 = k
    · subst hp
      by_cases hn : natBit n p.1 = true
      · simp [hn, ih]
      · simp [hn, KMap.find]
    · by_cases hn : natBit n p.1 = true
      · simp [hn, ih, KMap.find, hp]
      · simp [hn, ih, KMap.find, hp]

theorem natBit_bits_low (v : Word) (k : Fin 4) : natBit (v.bits 3 0) k = v.getLsbD k := by
  rw [natBit, beq_eq_decide, ← Nat.testBit_eq_decide_div_mod_eq, Word.bits, Nat.testBit_mod_two_pow, Nat.pow_zero, Nat.div_one, BitVec.getLsbD]
  simp [k.isLt]

/-- Settles O37: -/
theorem snapshotCommandsActAsStated : Obligations.SnapshotCommandsActAsStated := by
  unfold Obligations.SnapshotCommandsActAsStated
  intro s src hup
  refine ⟨fun hsrc hheard => ⟨fun hc => ?_, fun c hc hw => ?_, fun c hc hw hheld => ?_⟩, fun v hw hsrc hc => ?_, fun rails c hc hdue hwords => ⟨?_, ?_⟩,
    fun c w hc hwords hslot => ?_, fun v => ?_, ?_, ?_⟩
  · exact congrArg Host.Outcome.next ((whenUp_of_up hup _).trans ((snapPin_of_heard hheard).trans (snapTrigger_idle hsrc hc)))
  · refine ⟨_, congrArg Host.Outcome.next ((whenUp_of_up hup _).trans ((snapPin_of_heard hheard).trans (snapTrigger_pin_waiting hsrc hc hw))), ?_, ?_, ?_, rfl⟩
    · have hevent : (if c.event = 0x1FF then 0x1FF else c.event) = c.event := by split <;> simp [*]
      refine (State.addSat_snap _ _ _).trans ?_
      simp only [Capture.joined, hevent]
    · exact State.reg_addSat_same _ _ _
    · exact .addSat (.of_regs rfl)
  · exact congrArg Host.Outcome.next ((whenUp_of_up hup _).trans ((snapPin_of_heard hheard).trans (snapTrigger_pin_draining hsrc hc hw hheld)))
  · obtain ⟨m, hwrite, hreg, hsame⟩ := write_snapGo hw src v
    exact ⟨_, congrArg Host.Outcome.next (hwrite.trans (snapTrigger_go_idle (by rw [← hsrc]; exact congrArg (natBit · _) (snapCtrl_src hreg)) hc
      (snapCtrl_drive hreg))), rfl, hreg, rfl, rfl, rfl, hsame, rfl⟩
  · intro k hk
    exact ⟨_, congrArg Host.Outcome.next ((whenUp_of_up hup _).trans (snapLatch_free hc hdue hwords hk rails)), rfl, rfl⟩
  · intro hfull
    have hsame : SameRegs [SNAP_LOST, SNAP_EVT_CAUSE] s (snapLost s) := (SameRegs.refl _ s).addSat.cause
    have hlost : ((snapLost s).reg SNAP_LOST).toNat = satAdd 0xFFFFFFFF (s.reg SNAP_LOST).toNat 1 := by
      rw [snapLost, State.reg_cause_ne _ (by decide), State.reg_addSat_same]
    refine ⟨_, congrArg Host.Outcome.next ((whenUp_of_up hup _).trans (snapLatch_full hc hdue hwords hfull rails)), ?_⟩
    rw [snapLost_snap]
    cases hhold : s.flag SNAP_CTRL_hold with
    | true => 
      exact ⟨hlost, fun _ => rfl, fun h0 => absurd (flag_of_get_eq_zero h0) (by simp [hhold]), hsame⟩
    | false => 
      cases hhead : s.snap.order.head? with
      | none => exact ⟨hlost, fun h1 => absurd (flag_of_get_eq_one h1) (by simp [hhold]), fun _ k hk => (nomatch hk), hsame⟩
      | some j =>
        refine ⟨hlost, fun h1 => absurd (flag_of_get_eq_one h1) (by simp [hhold]), fun _ k hk => ?_, hsame⟩
        obtain rfl := Option.some.inj hk
        exact ⟨KMap.find_erase_same _ _, rfl, rfl⟩
  · refine ⟨_, congrArg Host.Outcome.next ((whenUp_of_up hup _).trans (snapDone_of_words hc hwords)), ?_⟩
    generalize hu : ({ s with snap := _ } : State) = u
    have hsnap : u.snap = { s.snap with slots := s.snap.slots.ins c.slot w, order := s.snap.order.erase c.slot ++ [c.slot], capture := s.snap.heldNext, heldNext := none } := by
      rw [← hu]
    have hframe : { u with snap := s.snap } = s := by rw [← hu]
    have hregs : u.regs = s.regs := by rw [← hu]
    have hev := (((RegsAndEvents.refl u).put (f := SNAP_STATUS_newest) (v := c.slot)).put (f := SNAP_STATUS_seq) (v := s.snap.seq)).cause (c := Cause.SNAP_snap_done)
    have hkeep := hev.keep (F := State.snap) (fun _ _ => rfl) hsnap
    rw [hkeep]
    refine ⟨KMap.find_ins_same .., fun k hk => KMap.find_ins_ne _ _ _ _ hk, rfl, rfl, ?_, ?_, ?_, ?_⟩
    · rw [State.get_cause_ne _ (by decide), State.get_put_above _ _ _ _ (by decide) (by decide) (by decide), State.get_put_same _ _ _ (by decide) (by decide)]
      exact Nat.mod_eq_of_lt hslot
    · rw [State.get_cause_ne _ (by decide)]
      exact State.get_put_same _ _ _ (by decide) (by decide)
    · exact ((SameRegs.of_regs hregs).put.put).cause
    · exact hev.keep (F := fun t => { t with snap := s.snap, regs := s.regs, events := s.events }) (fun _ _ => rfl) (by rw [← hu])
  · refine ⟨_, congrArg Host.Outcome.next ((write_of_writable (writable_of_free (a := SNAP_ACK) hup rfl (by decide)) rfl src v).trans
      (show _ = snapAck (v.bits 3 0) s from rfl)), fun k => ?_, rfl⟩
    refine (find_filter_slots _ _ _).trans ?_
    rw [natBit_bits_low]
  · refine ⟨_, congrArg Host.Outcome.next ((readOut_of_up hup src _).trans (show _ = 
      (s.put SNAP_RD_IDX_word (s.get SNAP_RD_IDX_word + 1)).returned (snapWord s (s.get SNAP_RD_IDX_slot) (s.get SNAP_RD_IDX_word)) [] from rfl)), rfl, ?_, ?_, ?_, rfl⟩
    · exact State.get_put_same _ _ _ (by decide) (by decide)
    · exact State.get_put_above _ _ _ _ (by decide) (by decide) (by decide)
    · exact .put (.of_regs rfl)
  · exact congrArg Host.Outcome.next (whenUp_of_up hup _)

end Sys2Proof.Machine
end

section
/-!
PROOF. Fields beside fields that were written.
-/
set_option autoImplicit false
set_option Elab.async false

namespace Sys2Proof.Machine
open Reg Bit

/-- The field lies in one register, in order. -/
def wellFormed (f : Field) : Bool := decide (f.lo ≤ f.hi) && decide (f.hi < 32)

/-- Two fields share no bit, as their bits or their registers show. -/
def apart (f g : Field) : Bool := wellFormed f && (decide (f.hi < g.lo) || decide (g.hi < f.lo) || decide (g.addr ≠ f.addr))

namespace State
variable {s : State} {f g : Field} {v : Nat}

theorem get_put_apart (h : apart f g = true) : (s.put f v).get g = s.get g := by
  simp only [apart, wellFormed, Bool.and_eq_true, Bool.or_eq_true, decide_eq_true_eq] at h
  obtain ⟨⟨hord, hwidth⟩, (habove | hbelow) | haddr⟩ := h
  · exact get_put_above s f g v hord hwidth habove
  · exact get_put_below s f g v hord hwidth hbelow
  · exact get_put_ne s f g v haddr

theorem get_putFlag_apart {b : Bool} (h : apart f g = true) : (s.putFlag f b).get g = s.get g := get_put_apart h

/-- A field written with a value that it holds. -/
theorem get_put_self (h : wellFormed f = true) (hv : v < 2 ^ (f.hi + 1 - f.lo)) : (s.put f v).get f = v := by
  simp only [wellFormed, Bool.and_eq_true, decide_eq_true_eq] at h
  rw [get_put_same s f v h.1 h.2, Nat.mod_eq_of_lt hv]

theorem get_put_mod (h : wellFormed f = true) : (s.put f v).get f = v % 2 ^ (f.hi + 1 - f.lo) := by
  simp only [wellFormed, Bool.and_eq_true, decide_eq_true_eq] at h
  exact get_put_same s f v h.1 h.2

theorem get_putFlag_self {b : Bool} (h : wellFormed f = true) (hw : f.lo = f.hi) : (s.putFlag f b).get f = if b then 1 else 0 := by
  rw [putFlag, get_put_mod h, hw, Nat.add_sub_cancel_left]
  cases b <;> rfl

theorem get_setReg_ne {a : Nat} {w : Word} (h : g.addr ≠ a) : (s.setReg a w).get g = s.get g := get_of_reg (reg_setReg_ne s w h)

theorem get_addSat_ne {a n : Nat} (h : g.addr ≠ a) : (s.addSat a n).get g = s.get g := get_setReg_ne h

theorem flag_eq_of_get {s t : State} {f : Field} (h : t.get f = s.get f) : t.flag f = s.flag f := by rw [flag, flag, h]

theorem get_lt (s : State) (f : Field) : s.get f < 2 ^ (f.hi + 1 - f.lo) := Nat.mod_lt _ (Nat.two_pow_pos _)

/-! Parts beside the one that changed. -/

theorem lane_modLane_ne (s : State) {l k : Nat} (f : LaneSt → LaneSt) (h : k ≠ l) : (s.modLane l f).lane k = s.lane k := KMap.get_put_ne _ _ _ _ _ h

theorem port_modPort_ne (s : State) {l k : Nat} (f : PortSt → PortSt) (h : k ≠ l) : (s.modPort l f).port k = s.port k := KMap.get_put_ne _ _ _ _ _ h

theorem tow_modTow_ne (s : State) {l k : Nat} (f : TowSt → TowSt) (h : k ≠ l) : (s.modTow l f).tow k = s.tow k := KMap.get_put_ne _ _ _ _ _ h

theorem link_modLink_ne (s : State) {l k : Nat} (f : LinkSt → LinkSt) (h : k ≠ l) : (s.modLink l f).link k = s.link k := KMap.get_put_ne _ _ _ _ _ h

theorem fabPort_modFab_ne (s : State) {l k : Nat} (f : FabPort → FabPort) (h : k ≠ l) : (s.modFab l f).fabPort k = s.fabPort k :=
  KMap.get_put_ne _ _ _ _ _ h

theorem hc_modHc_same (s : State) (n : Nat) (f : HcSt → HcSt) : (s.modHc n f).hc n = f (s.hc n) := KMap.get_put_same _ _ _ _

theorem hc_modHc_ne (s : State) {n k : Nat} (f : HcSt → HcSt) (h : k ≠ n) : (s.modHc n f).hc k = s.hc k := KMap.get_put_ne _ _ _ _ _ h

/-! Mailboxes. -/

theorem box_modBox_same (s : State) (m : Nat) (f : Mailbox → Mailbox) : (s.modBox m f).box m = f (s.box m) := KMap.get_put_same _ _ _ _

theorem box_modBox_ne (s : State) {m k : Nat} (f : Mailbox → Mailbox) (h : k ≠ m) : (s.modBox m f).box k = s.box k := KMap.get_put_ne _ _ _ _ _ h

theorem box_of_purser {s t : State} (h : t.purser.boxes = s.purser.boxes) (m : Nat) : t.box m = s.box m := congrArg (KMap.get _ · m) h

end State

/-! Registers behind an update of another part. -/

namespace SameRegs
variable {l : List Nat} {s t : State}

theorem pending (h : SameRegs l s t) {x} : SameRegs l s { t with pending := x } := h
theorem free (h : SameRegs l s t) {x} : SameRegs l s { t with free := x } := h
theorem out (h : SameRegs l s t) {x} : SameRegs l s { t with out := x } := h
theorem ticks (h : SameRegs l s t) {x} : SameRegs l s { t with ticks := x } := h
theorem staged (h : SameRegs l s t) {x} : SameRegs l s { t with staged := x } := h
theorem shadows (h : SameRegs l s t) {x} : SameRegs l s { t with shadows := x } := h
theorem pairs (h : SameRegs l s t) {x} : SameRegs l s { t with pairs := x } := h
theorem clears (h : SameRegs l s t) {x} : SameRegs l s { t with clears := x } := h
theorem late (h : SameRegs l s t) {x} : SameRegs l s { t with late := x } := h
theorem commit (h : SameRegs l s t) {x} : SameRegs l s { t with commit := x } := h
theorem pins (h : SameRegs l s t) {x} : SameRegs l s { t with pins := x } := h
theorem always (h : SameRegs l s t) {x} : SameRegs l s { t with always := x } := h
theorem start (h : SameRegs l s t) {x} : SameRegs l s { t with start := x } := h
theorem modes (h : SameRegs l s t) {x} : SameRegs l s { t with modes := x } := h
theorem events (h : SameRegs l s t) {x} : SameRegs l s { t with events := x } := h
theorem snap (h : SameRegs l s t) {x} : SameRegs l s { t with snap := x } := h
theorem lanes (h : SameRegs l s t) {x} : SameRegs l s { t with lanes := x } := h
theorem asks (h : SameRegs l s t) {x} : SameRegs l s { t with asks := x } := h
theorem granted (h : SameRegs l s t) {x} : SameRegs l s { t with granted := x } := h
theorem chargeDue (h : SameRegs l s t) {x} : SameRegs l s { t with chargeDue := x } := h
theorem ports (h : SameRegs l s t) {x} : SameRegs l s { t with ports := x } := h
theorem tows (h : SameRegs l s t) {x} : SameRegs l s { t with tows := x } := h
theorem links (h : SameRegs l s t) {x} : SameRegs l s { t with links := x } := h
theorem fab (h : SameRegs l s t) {x} : SameRegs l s { t with fab := x } := h
theorem nextUid (h : SameRegs l s t) {x} : SameRegs l s { t with nextUid := x } := h
theorem svc (h : SameRegs l s t) {x} : SameRegs l s { t with svc := x } := h
theorem landing (h : SameRegs l s t) {x} : SameRegs l s { t with landing := x } := h
theorem hcs (h : SameRegs l s t) {x} : SameRegs l s { t with hcs := x } := h
theorem dram (h : SameRegs l s t) {x} : SameRegs l s { t with dram := x } := h
theorem tt (h : SameRegs l s t) {x} : SameRegs l s { t with tt := x } := h
theorem ledger (h : SameRegs l s t) {x} : SameRegs l s { t with ledger := x } := h
theorem therm (h : SameRegs l s t) {x} : SameRegs l s { t with therm := x } := h
theorem activity (h : SameRegs l s t) {x} : SameRegs l s { t with activity := x } := h
theorem otp (h : SameRegs l s t) {x} : SameRegs l s { t with otp := x } := h
theorem purser (h : SameRegs l s t) {x} : SameRegs l s { t with purser := x } := h
theorem test (h : SameRegs l s t) {x} : SameRegs l s { t with test := x } := h

theorem when (h : SameRegs l s t) {b : Bool} {f : State → State} (hf : SameRegs l s (f t)) : SameRegs l s (Machine.when b f t) := .ite hf h

end SameRegs

/-! Parts behind changes of registers and events. -/

namespace RegsAndEvents
variable {s t : State}

theorem lane (h : RegsAndEvents s t) (k : Nat) : t.lane k = s.lane k := h.keep (F := fun u => u.lane k) (fun _ _ => rfl) rfl
theorem port (h : RegsAndEvents s t) (k : Nat) : t.port k = s.port k := h.keep (F := fun u => u.port k) (fun _ _ => rfl) rfl
theorem tow (h : RegsAndEvents s t) (k : Nat) : t.tow k = s.tow k := h.keep (F := fun u => u.tow k) (fun _ _ => rfl) rfl
theorem link (h : RegsAndEvents s t) (k : Nat) : t.link k = s.link k := h.keep (F := fun u => u.link k) (fun _ _ => rfl) rfl
theorem fabPort (h : RegsAndEvents s t) (k : Nat) : t.fabPort k = s.fabPort k := h.keep (F := fun u => u.fabPort k) (fun _ _ => rfl) rfl
theorem hc (h : RegsAndEvents s t) (k : Nat) : t.hc k = s.hc k := h.keep (F := fun u => u.hc k) (fun _ _ => rfl) rfl
theorem box (h : RegsAndEvents s t) (k : Nat) : t.box k = s.box k := h.keep (F := fun u => u.box k) (fun _ _ => rfl) rfl

theorem ite {c : Prop} {_ : Decidable c} {u : State} (ht : RegsAndEvents s t) (hu : RegsAndEvents s u) : RegsAndEvents s (if c then t else u) := by
  split
  · exact ht
  · exact hu

end RegsAndEvents

end Sys2Proof.Machine
end

section
/-!
PROOF. The I3C target.
-/
set_option autoImplicit false
set_option Elab.async false

namespace Sys2Proof.Machine
open Reg Bit

section
variable {s : State}

theorem wakeSource_disabled {b : Nat} (h : natBit (s.reg PWR_WAKE_EN).toNat b = false) : wakeSource b s = s := if_pos (by rw [h]; rfl)

theorem i3cCommand_answered (ha : i3cAnswers s = true) (hw : natBit (s.reg PWR_WAKE_EN).toNat 17 = false) (direct : Bool) (f : State → State) :
    i3cCommand direct f s = f s := by
  have hwhen : when direct (wakeSource 17) s = s := by
    cases direct
    · rfl
    · exact wakeSource_disabled hw
  rw [i3cCommand, hwhen]
  exact if_pos ha

/-- The state with the pointer of the I3C target moved. -/
def movePointer (x : Nat × Nat × Nat) (s : State) : State := s.modPurser fun p => { p with pointer := x }

theorem box_movePointer (x : Nat × Nat × Nat) (k : Nat) : (movePointer x s).box k = s.box k := State.box_of_purser rfl k

theorem SameRegs.movePointer {l : List Nat} {s t : State} (h : SameRegs l s t) {x : Nat × Nat × Nat} : SameRegs l s (movePointer x t) := h

theorem get_movePointer (x : Nat × Nat × Nat) (f : Field) : (movePointer x s).get f = s.get f := State.get_of_regs rfl f

/-- A write over the target of a pointer and one byte. -/
theorem i3cWrite_byte (ha : i3cAnswers s = true) (hw : natBit (s.reg PWR_WAKE_EN).toNat 17 = false) (hl : 3 ≤ s.purser.mwl) (x y b : Byte) :
    i3cWrite [x, y, b] s = movePointer (x.toNat / 32, x.toNat / 4 % 8, (x.toNat % 4 * 256 + y.toNat + 1) % 1024)
      (i3cStore (x.toNat / 32) (x.toNat / 4 % 8) (x.toNat % 4 * 256 + y.toNat) b s) := by
  rw [i3cWrite, wakeSource_disabled hw, ha, List.take_of_length_le (by simpa using hl)]
  rfl

/-- A byte written into the control window of a mailbox. -/
theorem i3cWrite_control (ha : i3cAnswers s = true) (hw : natBit (s.reg PWR_WAKE_EN).toNat 17 = false) (hl : 3 ≤ s.purser.mwl) (m : Fin 8) (b : Byte) :
    i3cWrite [BitVec.ofNat 8 (32 * m.val + 8), 0, b] s = movePointer (m.val, 2, 1) (i3cStore m 2 0 b s) := by
  have hx : (BitVec.ofNat 8 (32 * m.val + 8)).toNat = 32 * m.val + 8 := by
    rw [BitVec.toNat_ofNat]
    omega
  rw [i3cWrite_byte ha hw hl, hx, show (32 * m.val + 8) / 32 = m.val by omega, show (32 * m.val + 8) / 4 % 8 = 2 by omega,
    show (32 * m.val + 8) % 4 = 0 by omega]
  rfl

/-- A byte written into the request window of a mailbox. -/
theorem i3cWrite_request (ha : i3cAnswers s = true) (hw : natBit (s.reg PWR_WAKE_EN).toNat 17 = false) (hl : 3 ≤ s.purser.mwl) (m : Fin 8)
    (o : Fin 1024) (b : Byte) (hbusy : boxState s m ≠ BoxState.busy) :
    i3cWrite [BitVec.ofNat 8 (32 * m.val + o.val / 256), BitVec.ofNat 8 o.val, b] s =
      movePointer (m.val, 0, (o.val + 1) % 1024) (s.modBox m fun x => { x with buffer := KMap.put (fun _ => (0 : Byte)) x.buffer o b }) := by
  have hx : (BitVec.ofNat 8 (32 * m.val + o.val / 256)).toNat = 32 * m.val + o.val / 256 := by
    rw [BitVec.toNat_ofNat]
    omega
  have hy : (BitVec.ofNat 8 o.val).toNat = o.val % 256 := BitVec.toNat_ofNat _ _
  rw [i3cWrite_byte ha hw hl, hx, hy, show (32 * m.val + o.val / 256) / 32 = m.val by omega, show (32 * m.val + o.val / 256) / 4 % 8 = 0 by omega,
    show (32 * m.val + o.val / 256) % 4 * 256 + o.val % 256 = o.val by omega, i3cStore, if_pos rfl, if_neg hbusy]

theorem i3cRelease_idle {m : Nat} (h : boxState s m = BoxState.idle) : i3cRelease m s = s := if_neg fun hd => by
  rw [h] at hd
  exact absurd hd.1 (by decide)

theorem i3cRelease_posted {m : Nat} (h : boxState s m = BoxState.done) (ho : boxOwner s m = Owner.i3c) : i3cRelease m s = boxRelease m s := if_pos ⟨h, ho⟩

theorem i3cRead_answered (ha : i3cAnswers s = true) (hw : natBit (s.reg PWR_WAKE_EN).toNat 17 = false) (n : Nat) :
    i3cRead n s = (movePointer (s.purser.pointer.1, s.purser.pointer.2.1, (s.purser.pointer.2.2 + min n s.purser.mrl) % 1024) s).returned 0
      ((List.range (min n s.purser.mrl)).map fun i => i3cByte s s.purser.pointer.1 s.purser.pointer.2.1 ((s.purser.pointer.2.2 + i) % 1024)) := by
  rw [i3cRead, wakeSource_disabled hw, ha]
  rfl

/-- The error is counted, and reported the first time. -/
theorem i3cError_answered (ha : i3cAnswers s = true) :
    i3cError s = (if s.reg MBX_I3C_ERRS == 0 then (s.addSat MBX_I3C_ERRS 1).cause Cause.MBX_i3c_error else s.addSat MBX_I3C_ERRS 1) := by
  rw [i3cError, ha]
  rfl

/-- What the request buffer of a mailbox holds. -/
def bufferBytes (s : State) (m : Nat) : List Byte := (List.range 1024).map fun i => KMap.get (fun _ => (0 : Byte)) (s.box m).buffer i

theorem i3cSubmit_idle {m : Nat} (h : boxState s m = BoxState.idle) (hon : sourceOn s m Owner.i3c = true) :
    i3cSubmit m s = boxSubmit m Owner.i3c 0 none ((bufferBytes s m).take (8 + reqLength (bufferBytes s m))) s := by
  rw [i3cSubmit, i3cRelease_idle h]
  exact if_neg (by simp [h, hon])

theorem reqCode_take (l : List Byte) (n : Nat) : reqCode (l.take (8 + n)) = reqCode l := by
  simp [reqCode, List.getD_eq_getElem?_getD, show 1 < 8 + n by omega]

theorem reqCode_lt (l : List Byte) : reqCode l < 2 ^ 16 := by
  have h0 := (l.getD 0 0).isLt
  have h1 := (l.getD 1 0).isLt
  unfold reqCode
  omega

section
variable {m owner port : Nat} {entry : Option Entry} {req : List Byte}

/-- The registers of a submission. -/
def submitShown (m owner : Nat) (req : List Byte) (s : State) : State :=
  ((s.put (MBX_STATUS_state m) BoxState.busy).put (MBX_STATUS_owner m) owner).put (MBX_STATUS_cmd m) (reqCode req)

theorem boxSubmit_eq : boxSubmit m owner port entry req s = (submitShown m owner req s).modBox m fun b => { b with
    request := req, response := [], port := port, entry := entry, buffer := if owner = Owner.i3c then b.buffer else bufferOf req } := rfl

theorem boxState_submitShown : boxState (submitShown m owner req s) m = BoxState.busy := by
  unfold boxState submitShown
  rw [State.get_put_apart rfl, State.get_put_apart rfl]
  exact State.get_put_self rfl (of_decide_eq_true rfl)

theorem boxOwner_submitShown (ho : owner < 4) : boxOwner (submitShown m owner req s) m = owner := by
  unfold boxOwner submitShown
  rw [State.get_put_apart rfl]
  exact State.get_put_self rfl ho

theorem get_cmd_submitShown : (submitShown m owner req s).get (MBX_STATUS_cmd m) = reqCode req := State.get_put_self rfl (reqCode_lt req)

theorem submitShown_sameRegs : SameRegs [MBX_STATUS m] s (submitShown m owner req s) :=
  .put (.put (.put (.refl _ s) (by exact .head _)) (by exact .head _)) (by exact .head _)

end

end

/-- Settles O34: with wakes by I3C off a command code is its own function, and a write over the target is what its bytes store. -/
theorem i3cTargetActsAsStated : Obligations.I3cTargetActsAsStated := by
  unfold Obligations.I3cTargetActsAsStated
  intro s ha hw
  have hcommand (direct : Bool) (f : State → State) := i3cCommand_answered ha hw direct f
  have hassign (a : Fin 128) : (setDynamic a s).get MBX_I3C_dyn = a ∧ (setDynamic a s).get MBX_I3C_dyn_valid = 1 ∧ SameRegs [MBX_I3C] s (setDynamic a s) :=
    ⟨(State.get_put_apart rfl).trans (State.get_put_self rfl a.isLt), State.get_put_self rfl (by decide), .put (.put (.refl _ s))⟩
  refine ⟨fun m o b hl hbusy => ?_, fun n => ?_, fun m hl hidle hon => ?_, fun m hl hdone howner => ?_, fun a hfree => ?_, fun a hheld => ?_, ?_, ?_, ?_, ?_, ?_, ?_, ?_,
    fun n => ?_, fun d => ?_, ?_⟩
  · refine ⟨_, congrArg Host.Outcome.next (i3cWrite_request ha hw hl m o b hbusy), ?_, rfl, rfl, fun k hk => ?_⟩
    · rw [box_movePointer, State.box_modBox_same]
      exact KMap.get_put_same _ _ _ _
    · rw [box_movePointer]
      exact State.box_modBox_ne s _ fun e => hk (Fin.ext e)
  · exact ⟨_, congrArg Host.Outcome.next (i3cRead_answered ha hw n), rfl, rfl, rfl⟩
  · intro b
    have hb : bufferBytes s m = b := rfl
    have hsubmit : i3cStore m 2 0 1 s = _ := i3cSubmit_idle hidle hon
    rw [hb] at hsubmit
    clear_value b
    refine ⟨_, congrArg Host.Outcome.next ((i3cWrite_control ha hw hl m 1).trans (by rw [hsubmit, boxSubmit_eq])), ?_, ?_, ?_, ?_, ?_⟩
    · exact (get_movePointer _ _).trans ((State.get_modBox _ _ _ _).trans boxState_submitShown)
    · exact (get_movePointer _ _).trans ((State.get_modBox _ _ _ _).trans (boxOwner_submitShown (by decide)))
    · rw [box_movePointer, State.box_modBox_same]
    · exact (get_movePointer _ _).trans ((State.get_modBox _ _ _ _).trans (get_cmd_submitShown.trans (reqCode_take _ _)))
    · exact submitShown_sameRegs.modBox.movePointer
  · have hrelease : i3cStore m 2 0 2 s = i3cRelease m s := rfl
    refine ⟨_, congrArg Host.Outcome.next ((i3cWrite_control ha hw hl m 2).trans (by rw [hrelease, i3cRelease_posted hdone howner])), ?_, ?_, ?_⟩
    · exact State.get_put_self (s := s) (f := MBX_STATUS_state m) rfl (of_decide_eq_true rfl)
    · rw [box_movePointer, boxRelease, State.box_modBox_same]
      rfl
    · exact .movePointer (.modBox (.put (.refl _ s) (by exact .head _)))
  · have hset (direct : Bool) : i3cCommand direct (fun s => if s.flag MBX_I3C_dyn_valid then s else setDynamic a s) s = setDynamic a s :=
      (hcommand _ _).trans (if_neg (by rw [flag_of_get_eq_zero hfree]; decide))
    exact ⟨⟨_, congrArg Host.Outcome.next (hset false), hassign a⟩, ⟨_, congrArg Host.Outcome.next (hset true), hassign a⟩⟩
  · have hkeep (direct : Bool) : i3cCommand direct (fun s => if s.flag MBX_I3C_dyn_valid then s else setDynamic a s) s = s :=
      (hcommand _ _).trans (if_pos (flag_of_get_eq_one hheld))
    exact ⟨⟨_, congrArg Host.Outcome.next ((hcommand _ _).trans (if_pos (flag_of_get_eq_one hheld))), hassign a⟩, congrArg Host.Outcome.next (hkeep false),
      congrArg Host.Outcome.next (hkeep true)⟩
  · exact ⟨_, congrArg Host.Outcome.next (hcommand _ _), State.get_put_self rfl (by decide), .put (.put (.refl _ s))⟩
  · exact congrArg Host.Outcome.next (hcommand _ _)
  · exact congrArg Host.Outcome.next (hcommand _ _)
  · exact congrArg Host.Outcome.next (hcommand _ _)
  · exact ⟨_, congrArg Host.Outcome.next (hcommand _ _), rfl, rfl, rfl⟩
  · exact congrArg Host.Outcome.next (hcommand _ _)
  · exact congrArg Host.Outcome.next (hcommand _ _)
  · exact ⟨congrArg Host.Outcome.next (hcommand _ _), congrArg Host.Outcome.next (hcommand _ _)⟩
  · exact ⟨congrArg Host.Outcome.next (hcommand _ _), congrArg Host.Outcome.next (hcommand _ _)⟩
  · refine ⟨_, congrArg Host.Outcome.next (i3cError_answered ha), ?_, .ite (SameRegs.cause (.addSat (.refl _ s))) (.addSat (.refl _ s))⟩
    split
    · rw [State.reg_cause_ne _ (by decide), State.reg_addSat_same]
    · exact State.reg_addSat_same _ _ _

end Sys2Proof.Machine
end

section
/-!
PROOF. The writes of a lane's registers.
-/
set_option autoImplicit false
set_option Elab.async false

namespace Sys2Proof.Machine
open Reg Bit

/-! ### Writes of a lane's registers -/

/-- A register of a lane whose write laneWrite takes: its row, what its row says of a write, and its place. -/
structure LaneActs (l a : Nat) (r : RegRow) : Prop where
  row : rowAt a = some (r, l)
  plain : r.kind = .plain
  staged : r.staged = 0
  live : r.rw ≠ 0 ∨ r.w1s ≠ 0
  clear : isClear r a = false
  base : r.base / 0x10000 = 1
  low : 0x10000 ≤ a
  high : a < 0x18000

/-- The row at an address says what LaneActs asks. -/
def laneActing (l a : Nat) : Bool :=
  (rowAt a).any fun q => q.2 == l && (q.1.kind == .plain && (q.1.staged == 0 && ((q.1.rw != 0 || q.1.w1s != 0) && (!isClear q.1 a &&
    (q.1.base / 0x10000 == 1 && (decide (0x10000 ≤ a) && decide (a < 0x18000)))))))

theorem laneActs_of_acting {l a : Nat} (h : laneActing l a = true) : ∃ r, LaneActs l a r := by
  obtain ⟨⟨r, i⟩, hr, hq⟩ := (Option.any_eq_true _ _).1 h
  simp only [Bool.and_eq_true, Bool.or_eq_true, beq_iff_eq, bne_iff_ne, Bool.not_eq_true', decide_eq_true_eq] at hq
  obtain ⟨rfl, hplain, hstaged, hlive, hclear, hbase, hlow, hhigh⟩ := hq
  exact ⟨r, hr, hplain, hstaged, hlive, hclear, hbase, hlow, hhigh⟩

theorem laneActing_lanes : ∀ l : Lane, laneActing l (LANE_TX_APPLY l) = true ∧ laneActing l (LANE_TOW_SHAPE_DATA l) = true ∧
    laneActing l (LANE_EQ_WR l) = true ∧ laneActing l (LANE_PRBS_CTRL l) = true ∧ laneActing l (LANE_CTRL l) = true ∧
    laneActing l (LANE_EYE_CTRL l) = true := by decide +kernel

section
variable {s : State} {src a l : Nat} {r : RegRow}

/-- The window of the configuration check that a guarded write begins: the commit controller alone. -/
theorem suspendCheck_eq (r : RegRow) (s : State) : ∃ c, suspendCheck r s = { s with commit := c } := by
  unfold suspendCheck
  split
  · exact ⟨_, rfl⟩
  · exact ⟨s.commit, rfl⟩

/-- The write of a register of a lane that acts, on a state that differs in the commit controller alone. -/
theorem write_laneActs (h : laneActing l a = true) (hw : writable s a = true) (src : Nat) (v : Word) :
    ∃ c, ∀ t, laneWrite l a v { s with commit := c } = some t → write src a v s = t := by
  obtain ⟨r, h⟩ := laneActs_of_acting h
  obtain ⟨c, hc⟩ := suspendCheck_eq r s
  refine ⟨c, fun t ht => ?_⟩
  have hne (b : Nat) (hb : b / 0x10000 ≠ 1) : r.base ≠ b := fun e => hb (e ▸ h.base)
  have hlow := h.low
  have hhigh := h.high
  have hne' (b : Nat) (hb : b / 0x10000 ≠ 1) : a ≠ b := fun e => hb (by omega)
  rw [write_of_writable hw h.row]
  simp only [writeRow, h.plain, h.staged, liveWrite, h.clear, writeLow, hne (PORT_TOW_CTRL 0) (by decide), hne (PORT_TOW_WAKE 0) (by decide),
    hne (UZ_CTRL 0) (by decide), hne' GLB_COMMIT_CTRL (by decide), hne' SVC_QIND_CTRL (by decide), hne' TT_LOAD_CTRL (by decide), hc, if_pos h.live,
    ne_eq, not_true, if_false, Bool.false_eq_true, if_pos (by omega : a < 0x80000)]
  rw [if_pos (by simp; omega), ht]

end

section
variable {s : State} {l : Nat} {v : Word}

theorem laneWrite_txApply (hgo : v.bits 0 0 = 1) : laneWrite l (LANE_TX_APPLY l) v s =
    some ((s.put (LANE_TX_APPLY_go l) 1).modLane l fun x => { x with
      applyPending := true, applyBusy := x.applyBusy || decide (2 ≤ s.stage (portOf l) ∧ s.stage (portOf l) ≤ 6) }) := by
  simp [laneWrite, LANE_TX_APPLY, LANE_TX_FIR0, LANE_TX_FIR1, LANE_TX_SWING, hgo]

theorem laneWrite_towShape : laneWrite l (LANE_TOW_SHAPE_DATA l) v s =
    some (s.modLane l fun x => { x with shapePending := x.shapePending.ins (s.get (LANE_TOW_SHAPE_IDX_k l)) (v.bits 9 0) }) := by
  simp [laneWrite, LANE_TOW_SHAPE_DATA, LANE_TX_APPLY, LANE_TX_FIR0, LANE_TX_FIR1, LANE_TX_SWING]

theorem laneWrite_eq (hgo : v.bits 31 31 = 1) : ∃ w, laneWrite l (LANE_EQ_WR l) v s =
    some (((s.setReg (LANE_EQ_WR l) w).put (LANE_EQ_WR_go l) 1).modLane l fun x => { x with eqPending := some (v &&& 0xE0FF0FFF) }) := by
  simp [laneWrite, LANE_EQ_WR, LANE_TOW_SHAPE_DATA, LANE_TX_APPLY, LANE_TX_FIR0, LANE_TX_FIR1, LANE_TX_SWING, hgo]
  exact ⟨_, rfl⟩

/-- Registers of the list alone change, and no clear is asked for. -/
def OnlyFields (l : List Nat) (s t : State) : Prop := SameRegs l s t ∧ t.clears = s.clears

theorem OnlyFields.refl (l : List Nat) (s : State) : OnlyFields l s s := ⟨.refl l s, rfl⟩

theorem OnlyFields.put {l : List Nat} {s t : State} (h : OnlyFields l s t) {f : Field} {v : Nat} (hf : f.addr ∈ l) : OnlyFields l s (t.put f v) :=
  ⟨h.1.put hf, h.2⟩

theorem OnlyFields.ite {l : List Nat} {s t u : State} {c : Prop} {_ : Decidable c} (ht : OnlyFields l s t) (hu : OnlyFields l s u) :
    OnlyFields l s (if c then t else u) := by
  split
  · exact ht
  · exact hu

theorem laneWrite_prbs (hclear : v.bits 8 8 = 1) : ∃ u, OnlyFields [LANE_PRBS_CTRL l, LANE_PRBS_STATUS l] s u ∧
    laneWrite l (LANE_PRBS_CTRL l) v s = some { u.put (LANE_PRBS_CTRL_clear l) 1 with clears := insertSorted (LANE_PRBS_CTRL l) u.clears } := by
  simp [-State.mk.injEq, laneWrite, LANE_PRBS_CTRL, LANE_EYE_CTRL, LANE_EQ_WR, LANE_TOW_SHAPE_DATA, LANE_TX_APPLY, LANE_TX_FIR0, LANE_TX_FIR1, LANE_TX_SWING, hclear]
  refine ⟨_, ?_, rfl⟩
  refine .ite (.put (.put (.put (.ite (.refl _ s) (.put (.put (.put (.refl _ s) ?_) ?_) ?_)) ?_) ?_) ?_) (.put (.put (.ite (.refl _ s) (.put (.put (.put (.refl _ s) ?_) ?_) ?_)) ?_) ?_)
  case refine_6 => exact .tail _ (.head _)
  all_goals exact .head _

theorem laneWrite_ctrl (hclear : v.bits 8 8 = 1) : ∃ u, OnlyFields [LANE_CTRL l] s u ∧ laneWrite l (LANE_CTRL l) v s =
    some { u.put (LANE_CTRL_clear_prefec l) 1 with clears := insertSorted (LANE_CTRL l) u.clears } := by
  simp [-State.mk.injEq, laneWrite, LANE_CTRL, LANE_CTLE, LANE_PRBS_CTRL, LANE_EYE_CTRL, LANE_EQ_WR, LANE_TOW_SHAPE_DATA, LANE_TX_APPLY, LANE_TX_FIR0,
    LANE_TX_FIR1, LANE_TX_SWING, hclear]
  exact ⟨_, ⟨.setReg (.refl _ s) (by exact .head _), rfl⟩, rfl⟩

theorem laneWrite_eye (hstart : v.bits 0 0 = 1) (hbusy : s.get (LANE_EYE_STATUS_busy l) = 0) :
    ∃ u, SameRegs [LANE_EYE_CTRL l] s u ∧ laneWrite l (LANE_EYE_CTRL l) v s = some (eyeBegin l u) := by
  refine ⟨((s.put (LANE_EYE_CTRL_ber l) (v.bits 9 8)).put (LANE_EYE_CTRL_dwell l) (v.bits 7 4)).put (LANE_EYE_CTRL_kind l) (v.bits 2 1),
    .put (.put (.put (.refl _ s) (by exact .head _)) (by exact .head _)) (by exact .head _), ?_⟩
  simp [laneWrite, LANE_EYE_CTRL, LANE_EQ_WR, LANE_TOW_SHAPE_DATA, LANE_TX_APPLY, LANE_TX_FIR0, LANE_TX_FIR1, LANE_TX_SWING, hstart, flag_of_get_eq_zero hbusy]

theorem eyeBegin_late (hbusy : s.get (LANE_EYE_STATUS_busy l) = 0) (hst : 5 ≤ s.stage (portOf l)) :
    eyeBegin l s = (s.put (LANE_EYE_STATUS_busy l) 1).put (LANE_EYE_CTRL_start l) 1 :=
  (if_neg (by rw [flag_of_get_eq_zero hbusy]; decide)).trans (if_pos hst)

theorem eyeBegin_early (hbusy : s.get (LANE_EYE_STATUS_busy l) = 0) (hst : s.stage (portOf l) < 5) :
    eyeBegin l s = ((s.put (LANE_EYE_STATUS_result l) 2).put (LANE_EYE_CTRL_start l) 0).cause (Cause.LANE_eye_done l) :=
  (if_neg (by rw [flag_of_get_eq_zero hbusy]; decide)).trans (if_neg (by omega))

end

theorem eyeStatus_ne_eyeCtrl (l : Nat) : LANE_EYE_STATUS l ≠ LANE_EYE_CTRL l := by simp [LANE_EYE_STATUS, LANE_EYE_CTRL]

theorem eyeStatus_ne_laneCause (l : Nat) : LANE_EYE_STATUS l ≠ LANE_EVT_CAUSE l := by simp [LANE_EYE_STATUS, LANE_EVT_CAUSE]

theorem eyeCtrl_ne_laneCause (l : Nat) : LANE_EYE_CTRL l ≠ LANE_EVT_CAUSE l := by simp [LANE_EYE_CTRL, LANE_EVT_CAUSE]

theorem eyeStatus_ne (l : Nat) : (LANE_EYE_STATUS_busy l).addr ∉ [LANE_EYE_CTRL l] := fun h => eyeStatus_ne_eyeCtrl l (List.mem_singleton.1 h)

theorem stage_ne_eyeCtrl (l : Lane) : (PORT_STATUS_stage (portOf l)).addr ∉ [LANE_EYE_CTRL l] := by
  simp only [List.mem_singleton, PORT_STATUS_stage, PORT_STATUS, LANE_EYE_CTRL]
  omega

theorem withBits_bit (v : Word) {k : Nat} (hk : k < 32) : (v.withBits k k 1).bits k k = 1 := by
  rw [Word.bits_withBits_same v k k 1 (le_refl k) hk, Nat.add_sub_cancel_left]
  rfl

/-- Settles O9: each write is one branch of laneWrite. -/
theorem laneWritesAreHeldOrTaken : Obligations.LaneWritesAreHeldOrTaken := by
  unfold Obligations.LaneWritesAreHeldOrTaken
  intro s src l
  obtain ⟨htx, hshape, heq, hprbs, hctrl, heye⟩ := laneActing_lanes l
  refine ⟨fun hw => ?_, fun hw v => ?_, fun hw v => ?_, fun hw v => ?_, fun hw v => ?_, fun hw hbusy hst v => ?_, fun hw hbusy hst v => ?_⟩
  · obtain ⟨c, hc⟩ := write_laneActs htx hw src 1
    refine ⟨_, congrArg Host.Outcome.next (hc _ (laneWrite_txApply rfl)), ?_, State.lane_modLane .., fun k hk => ?_, ?_⟩
    · rw [State.get_modLane]
      exact State.get_put_self rfl (of_decide_eq_true rfl)
    · exact State.lane_modLane_ne _ _ fun e => hk (Fin.ext e)
    · exact .modLane (.put (.of_regs rfl) (by exact .head _))
  · obtain ⟨c, hc⟩ := write_laneActs hshape hw src v
    exact ⟨_, congrArg Host.Outcome.next (hc _ laneWrite_towShape), State.lane_modLane .., rfl, fun k hk => State.lane_modLane_ne _ _ fun e => hk (Fin.ext e)⟩
  · obtain ⟨c, hc⟩ := write_laneActs heq hw src (v.withBits 31 31 1)
    obtain ⟨w, hwrite⟩ := laneWrite_eq (s := { s with commit := c }) (l := l) (withBits_bit v (by decide))
    have hlane : ((({ s with commit := c } : State).setReg (LANE_EQ_WR l) w).put (LANE_EQ_WR_go l) 1).lane l = s.lane l :=
      State.lane_of_lanes ((State.put_lanes _ _ _).trans (State.setReg_lanes _ _ _)) l
    refine ⟨_, congrArg Host.Outcome.next (hc _ hwrite), ?_, by rw [State.lane_modLane, hlane], ?_⟩
    · rw [State.get_modLane]
      exact State.get_put_self rfl (of_decide_eq_true rfl)
    · exact .modLane (.put (.setReg (.of_regs rfl) (by exact .head _)) (by exact .head _))
  · obtain ⟨c, hc⟩ := write_laneActs hprbs hw src (v.withBits 8 8 1)
    obtain ⟨u, hu, hwrite⟩ := laneWrite_prbs (s := { s with commit := c }) (l := l) (withBits_bit v (by decide))
    refine ⟨_, congrArg Host.Outcome.next (hc _ hwrite), ?_, congrArg (insertSorted _) hu.2, ?_⟩
    · exact State.get_put_self (s := u) rfl (of_decide_eq_true rfl)
    · exact .clears (t := u.put (LANE_PRBS_CTRL_clear l) 1) (.put (.trans (.of_regs rfl) hu.1) (by exact .head _))
  · obtain ⟨c, hc⟩ := write_laneActs hctrl hw src (v.withBits 8 8 1)
    obtain ⟨u, hu, hwrite⟩ := laneWrite_ctrl (s := { s with commit := c }) (l := l) (withBits_bit v (by decide))
    refine ⟨_, congrArg Host.Outcome.next (hc _ hwrite), ?_, congrArg (insertSorted _) hu.2, ?_⟩
    · exact State.get_put_self (s := u) rfl (of_decide_eq_true rfl)
    · exact .clears (t := u.put (LANE_CTRL_clear_prefec l) 1) (.put (.trans (.of_regs rfl) hu.1) (by exact .head _))
  · obtain ⟨c, hc⟩ := write_laneActs heye hw src (v.withBits 0 0 1)
    obtain ⟨u, hu, hwrite⟩ := laneWrite_eye (s := { s with commit := c }) (l := l) (withBits_bit v (by decide)) hbusy
    have hu' : SameRegs [LANE_EYE_CTRL l] s u := .trans (.of_regs rfl) hu
    have hlate := eyeBegin_late ((hu'.get (eyeStatus_ne l)).trans hbusy) (hst.trans_eq (hu'.get (stage_ne_eyeCtrl l)).symm)
    refine ⟨_, congrArg Host.Outcome.next (hc _ (hwrite.trans (congrArg some hlate))), ?_, State.get_put_self rfl (of_decide_eq_true rfl), ?_⟩
    · rw [State.get_put_ne _ _ _ _ (eyeStatus_ne_eyeCtrl l)]
      exact State.get_put_self rfl (of_decide_eq_true rfl)
    · exact .put (.put (hu'.mono (by simp)) (by exact .head _)) (by exact .tail _ (.head _))
  · obtain ⟨c, hc⟩ := write_laneActs heye hw src (v.withBits 0 0 1)
    obtain ⟨u, hu, hwrite⟩ := laneWrite_eye (s := { s with commit := c }) (l := l) (withBits_bit v (by decide)) hbusy
    have hu' : SameRegs [LANE_EYE_CTRL l] s u := .trans (.of_regs rfl) hu
    have hearly := eyeBegin_early ((hu'.get (eyeStatus_ne l)).trans hbusy) ((hu'.get (stage_ne_eyeCtrl l)).trans_lt hst)
    have hcause (f : Field) (hf : f.addr ≠ LANE_EVT_CAUSE l) (t : State) : (t.cause (Cause.LANE_eye_done l)).get f = t.get f := State.get_cause_ne t hf
    refine ⟨_, congrArg Host.Outcome.next (hc _ (hwrite.trans (congrArg some hearly))), ?_, ?_, ?_, ?_⟩
    · rw [hcause _ (eyeStatus_ne_laneCause l), State.get_put_ne _ _ _ _ (eyeStatus_ne_eyeCtrl l), State.get_put_apart rfl]
      exact (hu'.get (eyeStatus_ne l)).trans hbusy
    · rw [hcause _ (eyeStatus_ne_laneCause l), State.get_put_ne _ _ _ _ (eyeStatus_ne_eyeCtrl l)]
      exact State.get_put_self rfl (of_decide_eq_true rfl)
    · rw [hcause _ (eyeCtrl_ne_laneCause l)]
      exact State.get_put_self rfl (of_decide_eq_true rfl)
    · exact .cause (.put (.put (hu'.mono (by simp)) (by exact .head _)) (by exact .tail _ (.head _))) (by exact .tail _ (.tail _ (.head _)))

end Sys2Proof.Machine
end

section
/-!
PROOF. The counts of forward error correction.
-/
set_option autoImplicit false
set_option Elab.async false

namespace Sys2Proof.Machine
open Reg Bit

/-! ### Counts over two registers -/

section
variable {s : State} {a b n : Nat}

theorem reg_add48_ne (h : b ≠ a) (h' : b ≠ a + 4) : (s.add48 a n).reg b = s.reg b := by
  rw [State.add48, State.reg_setReg_ne _ _ h', State.reg_setReg_ne _ _ h]

/-- The low word of a 48-bit count wraps. -/
theorem reg_add48_low : (s.add48 a n).reg a = s.reg a + BitVec.ofNat 32 n := by
  rw [State.add48, State.reg_setReg_ne _ _ (by omega), State.reg_setReg_same]
  refine BitVec.eq_of_toNat_eq ?_
  rw [BitVec.toNat_add, BitVec.toNat_ofNat, BitVec.toNat_ofNat]
  omega

theorem SameRegs.add48 {l : List Nat} {t : State} (h : SameRegs l s t) (ha : a ∈ l) (ha' : a + 4 ∈ l) : SameRegs l s (t.add48 a n) :=
  (h.setReg ha).setReg ha'

end

/-! ### Codewords -/

section
variable {s : State} {p : Nat} {received : List Nat}

/-- The word that the outer decoder takes. -/
def decodedWord (received : List Nat) : List Nat := (List.range 544).map fun i => received.getD i 0 % 1024

/-- Pre-FEC errors of a codeword, counted on the lanes that carried them. -/
def preFec (p : Nat) (fixed : List Nat) (s : State) : State :=
  forEach fixed (fun j s => s.add48 (LANE_PREFEC_SYM_LO (8 * p + carrierLane (s.port p) (j % 8))) 1) s

/-- The registers of a codeword in S7. -/
def cwCounted (p : Nat) (bad : Bool) (k : Nat) (s : State) : State :=
  let s1 := s.add48 (PORT_CW_LO p) 1
  if bad then s1.add48 (PORT_CW_UNCORR_LO p) 1
  else
    let t := s1.addSat (PORT_HIST p k) 1
    if k = 0 then t else (t.add48 (PORT_CW_CORR_LO p) 1).add48 (PORT_SYM_CORR_LO p) k

theorem cwCounted_touches (bad : Bool) (k : Nat) : Touches [.regs] s (cwCounted p bad k s) := by
  unfold cwCounted
  exact .ite (.add48 (.add48 (.refl _ s))) (.ite (.addSat (.add48 (.refl _ s))) (.add48 (.add48 (.addSat (.add48 (.refl _ s))))))

theorem preFec_touches (fixed : List Nat) : Touches [.regs] s (preFec p fixed s) := .forEach (.refl _ s) fun _ _ h => .add48 h

/-- What a codeword in S7 leaves in its port's window. -/
def cwWindow (bad : Bool) (many : Bool) (x : PortSt) : PortSt :=
  { x with winHist := if !bad && many then x.winHist + 1 else x.winHist, winUncorr := if bad then x.winUncorr + 1 else x.winUncorr }

/-- What a codeword leaves in its port's flit. -/
def cwSeenBy (bad : Bool) (x : PortSt) : PortSt := { x with cwSeen := x.cwSeen + 1, badCw := if bad then x.badCw ++ [x.cwSeen] else x.badCw }

/-- The symbols that the outer decoder corrected. -/
def fixedOf (d : Option (List Nat × List Nat)) : List Nat := match d with | some r => r.2 | none => []

/-- A codeword whose pair is not open: what it leaves before it opens the pair. -/
theorem codewordDecode_eq {d : Option (List Nat × List Nat)} (hd : rsDecode (decodedWord received) = d) :
    codewordDecode p received s =
      let s0 := preFec p (fixedOf d) s
      let s1 := if s.stage p ≠ 7 then s0
        else (cwCounted p d.isNone (fixedOf d).length s0).modPort p (cwWindow d.isNone (decide (histThr s p ≤ (fixedOf d).length)))
      let s2 := if s.stage p = 7 || (s.stage p = 6 && (s.port p).rxSwitched) then s1.modPort p (cwSeenBy d.isNone) else s1
      match (s2.port p).pairHalf with
      | none => s2.modPort p fun x => { x with pairHalf := some d.isNone }
      | some first =>
        let run := if first || d.isNone then (s2.port p).uncorrRun + 1 else 0
        let s3 := s2.modPort p fun x => { x with pairHalf := none, uncorrRun := run }
        if 3 ≤ run then fecLockLost p s3 else s3 := by
  unfold decodedWord at hd
  unfold codewordDecode
  simp only [hd]
  cases d <;> rfl

/-- A codeword in S7 whose pair is not open: its counts, its port's window and flit, and its pair. -/
theorem codewordDecode_s7 {d : Option (List Nat × List Nat)} (hst : s.stage p = 7) (hpair : (s.port p).pairHalf = none)
    (hd : rsDecode (decodedWord received) = d) :
    codewordDecode p received s =
      (((cwCounted p d.isNone (fixedOf d).length (preFec p (fixedOf d) s)).modPort p
        (cwWindow d.isNone (decide (histThr s p ≤ (fixedOf d).length)))).modPort p (cwSeenBy d.isNone)).modPort p fun x => { x with pairHalf := some d.isNone } := by
  have hports : (cwCounted p d.isNone (fixedOf d).length (preFec p (fixedOf d) s)).port p = s.port p :=
    State.port_of_ports (((preFec_touches _).trans (cwCounted_touches _ _)).keeps_ports) p
  rw [codewordDecode_eq hd]
  dsimp only
  generalize cwCounted p d.isNone (fixedOf d).length (preFec p (fixedOf d) s) = u at *
  rw [if_neg (not_not.2 hst), if_pos (by simp [hst]), State.port_modPort, State.port_modPort, hports]
  simp only [cwSeenBy, cwWindow, hpair]

/-- A codeword outside S7 that the outer decoder cannot correct: no register changes. -/
theorem codewordDecode_outside (hst : s.stage p ≠ 7) (hpair : (s.port p).pairHalf = none) (hd : rsDecode (decodedWord received) = none) :
    (codewordDecode p received s).regs = s.regs := by
  rw [codewordDecode_eq hd]
  dsimp only [fixedOf]
  rw [if_pos hst, show preFec p [] s = s from rfl]
  have hpair' : ((s.modPort p (cwSeenBy true)).port p).pairHalf = none := by
    rw [State.port_modPort]
    exact hpair
  by_cases hseen : (s.stage p = 7 || (s.stage p = 6 && (s.port p).rxSwitched)) = true
  · rw [if_pos hseen, Option.isNone_none, hpair']
    rfl
  · rw [if_neg hseen, hpair]
    rfl

end

/-- The lane that carries a symbol is one of the port's eight. -/
theorem carrierLane_lt {x : PortSt} (h : x.laneOrder.length = 8) {j : Nat} (hj : j < 8) : carrierLane x j < 8 := by
  unfold carrierLane
  cases hfind : x.laneOrder.zipIdx.find? (fun e => e.1 == j) with
  | none => exact hj
  | some e =>
    have hmem := List.mem_of_find?_eq_some hfind
    have := List.snd_lt_of_mem_zipIdx hmem
    simp only [Option.map_some, Option.getD_some]
    omega

/-- Pre-FEC errors change registers of lanes alone. -/
theorem reg_preFec {p a : Nat} {fixed : List Nat} (hp : p < 16) (ha : 0x40000 ≤ a) (s : State) (horder : (s.port p).laneOrder.length = 8) :
    (preFec p fixed s).reg a = s.reg a := by
  unfold preFec forEach
  induction fixed generalizing s with
  | nil => rfl
  | cons j fixed ih =>
    have hlane := carrierLane_lt horder (Nat.mod_lt j (by decide : 0 < 8))
    refine (ih _ (by rw [State.port_of_ports (Touches.keeps_ports (l := [.regs]) (.add48 (.refl _ s)))]; exact horder)).trans ?_
    refine reg_add48_ne ?_ ?_ <;> simp only [LANE_PREFEC_SYM_LO] <;> omega

section
variable {s : State} {p k : Nat}

theorem reg_hist_cwCounted (hk : 1 ≤ k) (hk' : k ≤ 15) :
    ((cwCounted p false k s).reg (PORT_HIST p k)).toNat = satAdd 0xFFFFFFFF (s.reg (PORT_HIST p k)).toNat 1 := by
  have hne : k ≠ 0 := by omega
  simp (disch := (simp only [PORT_HIST, PORT_CW_LO, PORT_CW_CORR_LO, PORT_SYM_CORR_LO]; omega)) only [cwCounted, hne, Bool.false_eq_true, if_false,
    reg_add48_ne, State.reg_addSat_same]

theorem reg_cw_cwCounted (bad : Bool) (hk : k ≤ 15) : (cwCounted p bad k s).reg (PORT_CW_LO p) = s.reg (PORT_CW_LO p) + 1 := by
  have hone : BitVec.ofNat 32 1 = (1 : Word) := rfl
  cases bad
  case true =>
    simp (disch := (simp only [PORT_CW_LO, PORT_CW_UNCORR_LO]; omega)) only [cwCounted, if_true, reg_add48_ne, reg_add48_low, hone]
  case false =>
    by_cases hk0 : k = 0 <;>
      simp (disch := (simp only [PORT_HIST, PORT_CW_LO, PORT_CW_CORR_LO, PORT_SYM_CORR_LO]; omega)) only [cwCounted, hk0, Bool.false_eq_true, if_true, if_false,
        reg_add48_ne, reg_add48_low, State.reg_addSat, hone]

theorem reg_uncorr_cwCounted : (cwCounted p true k s).reg (PORT_CW_UNCORR_LO p) = s.reg (PORT_CW_UNCORR_LO p) + 1 := by
  have hone : BitVec.ofNat 32 1 = (1 : Word) := rfl
  simp (disch := (simp only [PORT_CW_LO, PORT_CW_UNCORR_LO]; omega)) only [cwCounted, if_true, reg_add48_ne, reg_add48_low, hone]

theorem reg_status_cwCounted (bad : Bool) (hk : k ≤ 15) : (cwCounted p bad k s).reg (PORT_STATUS p) = s.reg (PORT_STATUS p) := by
  cases bad
  case true =>
    simp (disch := (simp only [PORT_STATUS, PORT_CW_LO, PORT_CW_UNCORR_LO]; omega)) only [cwCounted, if_true, reg_add48_ne]
  case false =>
    by_cases hk0 : k = 0 <;>
      simp (disch := (simp only [PORT_STATUS, PORT_HIST, PORT_CW_LO, PORT_CW_CORR_LO, PORT_SYM_CORR_LO]; omega)) only [cwCounted, hk0, Bool.false_eq_true,
        if_true, if_false, reg_add48_ne, State.reg_addSat]

end

/-! ### Inner blocks -/

section
variable {s : State} {l : Nat} {llr : List Int}

theorem innerBlockDecode_skipped (h : s.get (PORT_STATUS_reach (portOf l)) ≠ 2 ∨ s.stage (portOf l) < 6) : innerBlockDecode l llr s = s :=
  if_pos (by simpa using h)

/-- The registers of an inner block. -/
def innerCounted (p : Nat) (zero : Bool) (s : State) : State :=
  let s1 := s.add48 (PORT_INNER_BLK_LO p) 1
  if zero then s1 else s1.add48 (PORT_INNER_FAIL_LO p) 1

/-- What an inner block in S7 leaves before the lock is shown. -/
def innerTaken (l n : Nat) (bits : List Bool) (s : State) : State :=
  ((innerCounted (portOf l) (innerZeroSyndrome bits) s).modPort (portOf l) fun x => { x with
    winInner := if innerZeroSyndrome bits then x.winInner else x.winInner + 1, winBlocks := x.winBlocks + 1, winIters := x.winIters + n }).modLane l
    fun x => { innerTrack x (innerZeroSyndrome bits) with innerBits := bits.take 2048 }

/-- An inner block in S7 of a port without inner lock. -/
theorem innerBlockDecode_s7 {n : Nat} {bits : List Bool} (hreach : s.get (PORT_STATUS_reach (portOf l)) = 2) (hst : s.stage (portOf l) = 7)
    (hlock : s.get (PORT_FEC_STATUS_inner_lock (portOf l)) = 0)
    (hdec : innerDecode (s.flag (PORT_FEC_CTRL_early_stop (portOf l))) (innerLimit s (portOf l)) llr = (n, bits)) :
    innerBlockDecode l llr s = (innerTaken l n bits s).putFlag (PORT_FEC_STATUS_inner_lock (portOf l)) (innerAll (innerTaken l n bits s) (portOf l)) := by
  unfold innerBlockDecode
  dsimp only
  rw [if_neg (by simp [hreach, hst]), hdec, if_neg (not_not.2 hst), flag_of_get_eq_zero hlock, Bool.false_and, if_neg (by decide)]
  rfl

theorem innerCounted_touches {p : Nat} (zero : Bool) : Touches [.regs] s (innerCounted p zero s) := .ite (.add48 (.refl _ s)) (.add48 (.add48 (.refl _ s)))

theorem reg_blocks_innerCounted {p : Nat} (zero : Bool) : (innerCounted p zero s).reg (PORT_INNER_BLK_LO p) = s.reg (PORT_INNER_BLK_LO p) + 1 := by
  have hone : BitVec.ofNat 32 1 = (1 : Word) := rfl
  cases zero <;>
    simp (disch := (simp only [PORT_INNER_BLK_LO, PORT_INNER_FAIL_LO]; omega)) only [innerCounted, Bool.false_eq_true, if_true, if_false, reg_add48_ne,
      reg_add48_low, hone]

theorem reg_failures_innerCounted {p : Nat} (zero : Bool) :
    (innerCounted p zero s).reg (PORT_INNER_FAIL_LO p) = s.reg (PORT_INNER_FAIL_LO p) + (if zero then 0 else 1) := by
  have hblock : (s.add48 (PORT_INNER_BLK_LO p) 1).reg (PORT_INNER_FAIL_LO p) = s.reg (PORT_INNER_FAIL_LO p) :=
    reg_add48_ne (by simp [PORT_INNER_BLK_LO, PORT_INNER_FAIL_LO]) (by simp [PORT_INNER_BLK_LO, PORT_INNER_FAIL_LO]; omega)
  cases zero with
  | true => exact hblock.trans (BitVec.add_zero _).symm
  | false => exact reg_add48_low.trans (congrArg (· + 1) hblock)

end

/-! ### Degrade windows -/

/-- What the end of a degrade window with the rule disabled leaves in its port. -/
def windowRestarted (bad : Bool) (y : PortSt) : PortSt :=
  { y with winHist := 0, winUncorr := 0, winInner := 0, winBlocks := 0, winIters := 0, degradedRun := 0, floored := y.floored && bad }

theorem degradeWindow_disabled {s : State} {p : Nat} (hst : s.stage p = 7) (hoff : s.get (PORT_DEGRADE_enable p) = 0) : ∃ avg,
    degradeWindow p s =
      let s1 := ((s.putFlag (PORT_STATUS_degraded p) (windowDegraded s p)).put (PORT_FEC_STATUS_iter_avg p) avg).modPort p (windowRestarted (windowDegraded s p))
      if windowDegraded s p then s1.cause (Cause.PORT_degrade_warn p) else s1 := by
  refine ⟨if (s.port p).winBlocks = 0 then 0 else min 255 ((s.port p).winIters * 16 / (s.port p).winBlocks), ?_⟩
  unfold degradeWindow
  dsimp only
  rw [if_neg (not_not.2 hst), flag_of_get_eq_zero hoff, Bool.and_false, Bool.false_and]
  rfl

/-- Settles O13: a codeword, an inner block and a window add to their counts, and to nothing where their conditions do not hold. -/
theorem fecCountsActAsStated : Obligations.FecCountsActAsStated := by
  unfold Obligations.FecCountsActAsStated
  intro s p hup
  refine ⟨fun received word fixed hdec hlo hhi hpair horder hst => ?_, fun received hdec hpair hst => ?_, fun received hdec hst hpair => ?_,
    fun l llr h => ?_, fun l llr q hq hreach hst hlock => ?_, fun hst => ?_, fun hst hoff => ?_⟩
  · have hcw := codewordDecode_s7 hst hpair hdec
    have hpre (a : Nat) (ha : 0x40000 ≤ a) := reg_preFec (a := a) (fixed := fixed) p.isLt ha s horder
    have hports : (cwCounted p false fixed.length (preFec p fixed s)).port p = s.port p :=
      State.port_of_ports (((preFec_touches _).trans (cwCounted_touches _ _)).keeps_ports) p
    have htouch : Touches [.regs, .ports] s (cwCounted p false fixed.length (preFec p fixed s)) :=
      ((preFec_touches fixed).trans (cwCounted_touches false fixed.length)).mono (by decide)
    have hhist := reg_hist_cwCounted (s := preFec p fixed s) (p := p) hlo hhi
    have hcount := reg_cw_cwCounted (s := preFec p fixed s) (p := p) false hhi
    have hstage := reg_status_cwCounted (s := preFec p fixed s) (p := p) false hhi
    rw [hpre _ (by simp [PORT_HIST]; omega)] at hhist
    rw [hpre _ (by simp [PORT_CW_LO]; omega)] at hcount
    rw [hpre _ (by simp [PORT_STATUS])] at hstage
    simp only [fixedOf, Option.isNone_some] at hcw
    generalize cwCounted p false fixed.length (preFec p fixed s) = u at *
    refine ⟨_, congrArg Host.Outcome.next ((whenUp_of_up hup _).trans hcw), ?_, ?_, ?_, ?_, ?_⟩
    · rwa [State.reg_modPort, State.reg_modPort, State.reg_modPort]
    · rwa [State.reg_modPort, State.reg_modPort, State.reg_modPort]
    · rw [State.port_modPort]
    · simp only [State.stage, State.get_modPort]
      exact (State.get_of_reg hstage).trans hst
    · exact (((htouch.modPort).modPort).modPort).frame (fun t => { t with regs := s.regs, ports := s.ports }) fun _ => rfl
  · have hcw := codewordDecode_s7 hst hpair hdec
    have hports : (cwCounted p true 0 s).port p = s.port p := State.port_of_ports (cwCounted_touches true 0).keeps_ports p
    have hcount := reg_cw_cwCounted (s := s) (p := p) (k := 0) true (by decide)
    have huncorr := reg_uncorr_cwCounted (s := s) (p := p) (k := 0)
    have hsame : SameRegs [PORT_CW_LO p, PORT_CW_LO p + 4, PORT_CW_UNCORR_LO p, PORT_CW_UNCORR_LO p + 4] s (cwCounted p true 0 s) :=
      .add48 (.add48 (.refl _ s) (by simp) (by simp)) (by simp) (by simp)
    have hpre : preFec p [] s = s := rfl
    simp only [fixedOf, Option.isNone_none, hpre, List.length_nil] at hcw
    generalize cwCounted p true 0 s = u at *
    refine ⟨_, congrArg Host.Outcome.next ((whenUp_of_up hup _).trans hcw), ?_, ?_, ?_, ?_, ((hsame.modPort).modPort).modPort⟩
    · rwa [State.reg_modPort, State.reg_modPort, State.reg_modPort]
    · rwa [State.reg_modPort, State.reg_modPort, State.reg_modPort]
    · rw [State.port_modPort]
    · rw [State.port_modPort, State.port_modPort, State.port_modPort, hports]
      rfl
  · exact ⟨_, congrArg Host.Outcome.next (whenUp_of_up hup _), codewordDecode_outside hst hpair hdec⟩
  · exact congrArg Host.Outcome.next ((whenUp_of_up hup _).trans (innerBlockDecode_skipped h))
  · subst hq
    obtain ⟨⟨n, bits⟩, hdec⟩ : ∃ r, innerDecode (s.flag (PORT_FEC_CTRL_early_stop (portOf l))) (innerLimit s (portOf l)) llr = r := ⟨_, rfl⟩
    have hport : (innerCounted (portOf l) (innerZeroSyndrome bits) s).port (portOf l) = s.port (portOf l) :=
      State.port_of_ports (innerCounted_touches _).keeps_ports _
    have hblocks := reg_blocks_innerCounted (s := s) (p := portOf l) (innerZeroSyndrome bits)
    have hfail := reg_failures_innerCounted (s := s) (p := portOf l) (innerZeroSyndrome bits)
    have hblock := innerBlockDecode_s7 hreach hst hlock hdec
    generalize innerAll (innerTaken l n bits s) (portOf l) = b at hblock
    unfold innerTaken at hblock
    generalize innerCounted (portOf l) (innerZeroSyndrome bits) s = u at *
    refine ⟨_, congrArg Host.Outcome.next ((whenUp_of_up hup _).trans hblock), ?_, fun n' bits' hdec' => ?_, ?_⟩
    · exact (State.reg_putFlag_ne _ _ (by simp [PORT_INNER_BLK_LO, PORT_FEC_STATUS_inner_lock, PORT_FEC_STATUS])).trans hblocks
    · obtain ⟨rfl, rfl⟩ := Prod.mk.inj (hdec.symm.trans hdec')
      refine ⟨?_, ?_, ?_⟩
      · exact (State.reg_putFlag_ne _ _ (by simp [PORT_INNER_FAIL_LO, PORT_FEC_STATUS_inner_lock, PORT_FEC_STATUS])).trans hfail
      · rw [RegsAndEvents.port (.putFlag (.refl _)), State.port_of_ports (State.modLane_ports _ _ _), State.port_modPort, hport]
        cases innerZeroSyndrome bits <;> rfl
      · rw [RegsAndEvents.lane (.putFlag (.refl _)), State.lane_modLane]
    · rw [RegsAndEvents.port (.putFlag (.refl _)), State.port_of_ports (State.modLane_ports _ _ _), State.port_modPort, hport]
  · exact congrArg Host.Outcome.next ((whenUp_of_up hup _).trans (if_pos hst))
  · obtain ⟨avg, hwindow⟩ := degradeWindow_disabled hst hoff
    generalize hu : (s.putFlag (PORT_STATUS_degraded p) (windowDegraded s p)).put (PORT_FEC_STATUS_iter_avg p) avg = u at hwindow
    have hsame : SameRegs [PORT_STATUS p, PORT_FEC_STATUS p, PORT_EVT_CAUSE p] s u :=
      hu ▸ .put (.putFlag (.refl _ s) (by exact .head _)) (by exact .tail _ (.head _))
    have hstatus : PORT_STATUS p ≠ PORT_FEC_STATUS p := by simp [PORT_STATUS, PORT_FEC_STATUS]
    have hdegraded : u.get (PORT_STATUS_degraded p) = if windowDegraded s p then 1 else 0 := by
      rw [← hu, State.get_put_ne _ _ _ _ hstatus]
      exact State.get_putFlag_self rfl rfl
    have hstage : u.stage p = 7 := by
      rw [← hu, State.stage, State.get_put_ne _ _ _ _ hstatus, State.get_putFlag_apart rfl]
      exact hst
    have hcause (f : Field) (hf : f.addr = PORT_STATUS p) (t : State) : (t.cause (Cause.PORT_degrade_warn p)).get f = t.get f :=
      State.get_cause_ne t (by rw [hf]; show PORT_STATUS p ≠ PORT_EVT_CAUSE p; simp [PORT_STATUS, PORT_EVT_CAUSE])
    refine ⟨_, congrArg Host.Outcome.next ((whenUp_of_up hup _).trans hwindow), ?_⟩
    dsimp only
    cases hbad : windowDegraded s p with
    | true =>
      rw [if_pos rfl, hcause _ rfl, RegsAndEvents.port (.cause (.refl _)), State.port_modPort, State.get_modPort, hdegraded, hbad, State.stage, hcause _ rfl,
        State.get_modPort]
      exact ⟨by simp, rfl, rfl, rfl, hstage, hsame.modPort.cause (by exact .tail _ (.tail _ (.head _)))⟩
    | false =>
      rw [if_neg (by decide), State.port_modPort, State.get_modPort, hdegraded, hbad, State.stage, State.get_modPort]
      exact ⟨by simp, rfl, rfl, rfl, hstage, hsame.modPort⟩

end Sys2Proof.Machine
end

section
/-!
PROOF. The re-read of the antifuse array: the counterexample to O40.
-/
set_option autoImplicit false
set_option Elab.async false

namespace Sys2Proof.Machine
open Reg Bit

/-- A running device with F4 loaded whose two copies of word 0 of F4 differ, in no record that checks: what a program torn between the
copies leaves. No word was listed as failed. -/
def tornTwins : State :=
  { State.reset.put OTP_STATUS_loaded 1 with
    start := { State.reset.start with phase := .running }
    otp := { State.reset.otp with words := [(4 * 4096, 1), (4 * 4096 + 2048, 2)] } }

theorem tornTwins_hypotheses :
    tornTwins.up = true ∧ tornTwins.get OTP_STATUS_loaded = 1 ∧ otpJob tornTwins = none ∧ tornTwins.otp.failed = [] := by
  and_intros <;> decide +kernel

/-- The re-read finds the word failed for the first time, which is a critical failure and counts as a cause seen (R511, R541). -/
theorem otpReread_tornTwins_seen : (otpRereadPass [] tornTwins).test.seen ≠ tornTwins.test.seen := by
  decide +kernel

theorem test_of_frame {s t : State} (h : { t with regs := s.regs, otp := s.otp } = s) : t.test = s.test := by
  rw [← h]

/-- Refutes O40, in its first clause: a re-read without a listed word still finds the copies of a word of F4 that differ in no record, which
failed nowhere before, and records a critical failure in the test state, outside the registers and the array. -/
theorem not_otpAndRecordingActAsStated : ¬ Obligations.OtpAndRecordingActAsStated := by
  unfold Obligations.OtpAndRecordingActAsStated
  intro h
  obtain ⟨reread, -⟩ := h tornTwins
  obtain ⟨hup, hloaded, hjob, hfailed⟩ := tornTwins_hypotheses
  obtain ⟨t, hstep, -, -, -, -, -, hframe⟩ := reread hup hloaded hjob hfailed
  have htest := test_of_frame hframe
  rw [← Host.Outcome.next.inj hstep] at htest
  exact otpReread_tornTwins_seen (congrArg TestSt.seen htest)

end Sys2Proof.Machine
end

section
/-!
PROOF. A write of the restore bit beside the staged bits of FAB_PORT_CTRL: the counterexample to O28.
-/
set_option autoImplicit false
set_option Elab.async false

namespace Sys2Proof.Machine
open Reg Bit

/-- A running device with a marked port 0 and a commit armed. -/
def armedMarked : State :=
  State.setFab { State.reset with
    start := { State.reset.start with phase := .running }
    commit := { State.reset.commit with armed := some 100 } } 0 { FabPort.reset with marked := true }

theorem armedMarked_hypotheses :
    armedMarked.up = true ∧ writable armedMarked (FAB_PORT_CTRL (0 : Port)) = true ∧ (armedMarked.fabPort (0 : Port)).marked = true := by
  and_intros <;> decide +kernel

/-- The write stages bits 0 and 1 of the same word, which withdraws the arm and counts it (R19). -/
theorem write_fabRestore_armedMarked_counts :
    (write 0 (FAB_PORT_CTRL (0 : Port)) (Word.withBits 0 2 2 1) armedMarked).reg GLB_COMMIT_ABORTS ≠ armedMarked.reg GLB_COMMIT_ABORTS := by
  decide +kernel

/-- Refutes O28, in its clause on the write of restore: FAB_PORT_CTRL holds staged bits beside restore, so the write also withdraws an armed
commit, which changes GLB_COMMIT_CTRL, GLB_COMMIT_STATUS and GLB_COMMIT_ABORTS. -/
theorem not_fabricCommandsActAsStated : ¬ Obligations.FabricCommandsActAsStated := by
  unfold Obligations.FabricCommandsActAsStated
  intro h
  obtain ⟨hup, hwritable, hmarked⟩ := armedMarked_hypotheses
  obtain ⟨-, -, -, -, restore, -⟩ := h armedMarked 0 hup
  obtain ⟨t, hstep, -, -, hsame⟩ := restore 0 0 hwritable hmarked
  have haborts := hsame GLB_COMMIT_ABORTS (by decide)
  rw [← Host.Outcome.next.inj hstep] at haborts
  exact write_fabRestore_armedMarked_counts haborts

end Sys2Proof.Machine
end

section
/-!
PROOF. Register writes by the type of their register.
-/
set_option autoImplicit false
set_option Elab.async false

namespace Sys2Proof.Machine
open Reg Bit

/-! ### Writes by the kind of the row -/

section
variable {s : State} {a : Nat} {r : RegRow} {i : Nat}

/-- A write of an unlocked register while the logic is up. -/
theorem write_unlocked (hup : s.up = true) (hr : rowAt a = some (r, i)) (hlock : locked s r = false) (src : Nat) (v : Word) :
    write src a v s = writeRow r i src a v s := by
  simp only [write, cfgWrite, hup, hr, hlock, Bool.not_true, Bool.false_eq_true, if_false]

theorem write_locked (hup : s.up = true) (hr : rowAt a = some (r, i)) (hlock : locked s r = true) (src : Nat) (v : Word) :
    write src a v s = lockViol a src s := by
  simp only [write, cfgWrite, hup, hr, hlock, Bool.not_true, Bool.false_eq_true, if_false, if_true]

/-- A group that no lock holds is not locked. -/
theorem locked_of_none (h : r.lock = 16) : locked s r = false := by simp [locked, h]

/-- A register without a writable field takes nothing. -/
theorem writeRow_constant (hkind : r.kind = .plain) (hrw : r.rw = 0) (hw1s : r.w1s = 0) (hstaged : r.staged = 0) (src : Nat) (v : Word) :
    writeRow r i src a v s = s := by
  simp [writeRow, hkind, hrw, hw1s, hstaged, suspendCheck]

/-! ### Locked registers -/

theorem lockViol_count (a src : Nat) (s : State) :
    (lockViol a src s).get GLB_LOCK_VIOL_count = min 65535 (s.get GLB_LOCK_VIOL_count + 1) := by
  unfold lockViol
  rw [State.get_raiseEvent, State.get_put_ne _ _ _ _ (by decide), State.get_put_apart rfl, State.addField, State.get_put_mod rfl]
  exact Nat.mod_eq_of_lt (Nat.lt_of_le_of_lt (Nat.min_le_left _ _) (by decide))

theorem lockViol_source {src : Nat} (h : src < 32) (a : Nat) (s : State) : (lockViol a src s).get GLB_LOCK_VIOL_source = src := by
  unfold lockViol
  rw [State.get_raiseEvent, State.get_put_ne _ _ _ _ (by decide)]
  exact State.get_put_self rfl h

theorem lockViol_addr {a : Nat} (h : a < 2 ^ 24) (src : Nat) (s : State) : (lockViol a src s).get GLB_LOCK_ADDR_addr = a := by
  unfold lockViol
  rw [State.get_raiseEvent]
  exact State.get_put_self rfl h

theorem raiseEvent_events {s t : State} (h : t.events = s.events) (e info : Nat) : (t.raiseEvent e info).events = (s.raiseEvent e info).events := by
  simp only [State.raiseEvent, h]

theorem lockViol_events (a src : Nat) (s : State) : (lockViol a src s).events = (s.raiseEvent 340 0).events :=
  raiseEvent_events (OnlyRegs.keep (.put (.put (.put (.refl s)))) (F := State.events) (fun _ => rfl) rfl) _ _

/-! ### Plain registers that only store -/

/-- First addresses of the rows whose live write acts, apart from the registers that a written 1 sets. -/
def actingBases : List Nat :=
  [SVC_QIND_CTRL, TT_LOAD_CTRL, HC_CTRL 0, HC_REPAIR_CTRL 0, HC_ARB_PANIC, HC_MAP_CTRL, ECC_LOG_TAIL, LDG_OP_CTRL, FAB_PORT_CTRL 0, THM_SINK,
    PWR_MODE_REQ, EVT_ALERT_EN 0, EVT_LOG_TAIL, SNAP_CTRL]

/-- The rows outside the lanes, ports and links that a plain write stores in. -/
def storingRows : List RegRow :=
  allRows.filter fun r => r.w1s == 0 && r.rw != 0 && !actingBases.contains r.base && (decide (r.base < 0x10000) || decide (0x60000 ≤ r.base + (r.count - 1) * r.stride))

theorem storingRows_inert : ∀ r ∈ storingRows, (PORT_TOW_CTRL 0 ≠ r.base ∧ PORT_TOW_WAKE 0 ≠ r.base ∧ UZ_CTRL 0 ≠ r.base) ∧
    r.avoids (GLB_COMMIT_CTRL :: ECC_RETIRE_CTRL :: SNAP_ACK :: actingBases) = true ∧
    [PORT_STATS_CLR 0, PORT_TOW_CLR 0, UZ_CLR 0, HC_CLR 0].contains r.base = false ∧
    r.avoids [SVC_CLR, TT_CLR, HC_ARB_CLR, ECC_CLR, LDG_CLR, FAB_CLR, EVT_CLR, SNAP_CLR, MBX_CLR] = true := by decide +kernel

theorem mem_storingRows (hr : rowAt a = some (r, i)) (hw1s : r.w1s = 0) (hrw : r.rw ≠ 0) (hbase : r.base ∉ actingBases)
    (ha : a < 0x10000 ∨ 0x60000 ≤ a) : r ∈ storingRows := by
  obtain ⟨hmem, hi⟩ := mem_allRows_of_rowAt hr
  obtain ⟨haddr, hlt⟩ := RegRow.eq_of_indexOf hi
  have hlast : i * r.stride ≤ (r.count - 1) * r.stride := Nat.mul_le_mul_right _ (by omega)
  refine List.mem_filter.2 ⟨hmem, ?_⟩
  have hplace : r.base < 0x10000 ∨ 0x60000 ≤ r.base + (r.count - 1) * r.stride := by omega
  simpa [hw1s, hrw, hbase] using hplace

/-- The live write of a register that only stores is the plain one. -/
theorem liveWrite_stores (hr : rowAt a = some (r, i)) (hmem : r ∈ storingRows) (ha : a < 0x10000 ∨ 0x60000 ≤ a) (v : Word) :
    liveWrite r i a v s = plainWrite r a v s := by
  obtain ⟨⟨htow, hwake, hlink⟩, havoid, hclears, hclear⟩ := storingRows_inert r hmem
  have hi := (mem_allRows_of_rowAt hr).2
  have hacts := RegRow.not_mem_of_avoids havoid hi
  have hnotClear := RegRow.not_mem_of_avoids hclear hi
  have hbase : r.base ∉ actingBases := by
    intro h
    simpa [h] using (List.mem_filter.1 hmem).2
  have hisClear : isClear r a = false := by
    rw [isClear, hclears, Bool.false_or]
    simpa using hnotClear
  have hne {c : Nat} (hc : c ∈ GLB_COMMIT_CTRL :: ECC_RETIRE_CTRL :: SNAP_ACK :: actingBases) : ¬a = c := fun e => hacts (e ▸ hc)
  have hnb {c : Nat} (hc : c ∈ actingBases) : ¬r.base = c := fun e => hbase (e ▸ hc)
  rw [liveWrite, hisClear, if_neg Bool.false_ne_true]
  split
  · have hlane : (decide (a / 0x10000 = 1) && decide (a < 0x18000)) = false := by simp; omega
    have hport : ¬a / 0x10000 = 4 := by omega
    have hnone : (if (decide (a / 0x10000 = 1) && decide (a < 0x18000)) = true then laneWrite i a v s else if a / 0x10000 = 4 then portWrite i a v s
        else none) = none := by rw [hlane, if_neg Bool.false_ne_true, if_neg hport]
    rw [writeLow, if_neg (hne (by decide)), if_neg (Ne.symm htow), if_neg (Ne.symm hwake), if_neg (Ne.symm hlink), if_neg (hne (by decide)),
      if_neg (hne (by decide)), hnone]
  · rw [writeHigh, if_neg (hnb (by decide)), if_neg (hnb (by decide)), if_neg (hne (by decide)), if_neg (hne (by decide)), if_neg (hne (by decide)),
      if_neg (hne (by decide)), if_neg (hne (by decide)), if_neg (hnb (by decide)), if_neg (hne (by decide)), if_neg (hne (by decide)),
      if_neg (hnb (by decide)), if_neg (hne (by decide)), if_neg (hne (by decide)), if_neg (hne (by decide))]

/-- A register that only stores takes its RW bits from the value. -/
theorem getLsbD_plainWord (old v : Word) (hw1s : r.w1s = 0) (k : Fin 32) :
    (plainWord r old v).getLsbD k = if natBit r.rw k then v.getLsbD k else old.getLsbD k := by
  rw [plainWord, hw1s, BitVec.and_zero, BitVec.or_zero]
  simp only [BitVec.getLsbD_or, BitVec.getLsbD_and, BitVec.getLsbD_not, getLsbD_ofNat_eq_natBit, k.isLt, decide_true]
  cases natBit r.rw k <;> simp

/-- A register of one bit that a written 1 sets. -/
theorem plainWord_sets (hrw : r.rw = 0) (hw1s : r.w1s = 1) (old : Word) : plainWord r old 1 = old ||| 1 := by
  have hall : old &&& 4294967295#32 = old := BitVec.and_allOnes
  simp [plainWord, hrw, hw1s, hall]

/-! ### Paired writes -/

theorem pairFail_reg (b src reason : Nat) : (pairFail b src reason s).reg GLB_PAIR_FAIL =
    BitVec.ofNat 32 (src % 32 * 2 ^ 27 + reason * 2 ^ 24 + b % 2 ^ 24) := by
  rw [pairFail, State.reg_raiseEvent, State.reg_setReg_same]

theorem bits_pairWord {b src reason : Nat} (hsrc : src < 32) (hreason : reason < 8) (hb : b < 2 ^ 24) {w : Word}
    (hw : w = BitVec.ofNat 32 (src % 32 * 2 ^ 27 + reason * 2 ^ 24 + b % 2 ^ 24)) :
    w.bits 26 24 = reason ∧ w.bits 31 27 = src ∧ w.bits 23 0 = b := by
  have hn : w.toNat = src * 134217728 + reason * 16777216 + b := by
    rw [hw, BitVec.toNat_ofNat]
    omega
  simp only [Word.bits, hn]
  omega

theorem pairFail_fields {b src reason : Nat} (hsrc : src < 32) (hreason : reason < 8) (hb : b < 2 ^ 24) :
    (pairFail b src reason s).get GLB_PAIR_FAIL_reason = reason ∧ (pairFail b src reason s).get GLB_PAIR_FAIL_source = src ∧
      (pairFail b src reason s).get GLB_PAIR_FAIL_addr = b :=
  bits_pairWord hsrc hreason hb (pairFail_reg b src reason)

theorem pairFail_pairs (b src reason : Nat) : (pairFail b src reason s).pairs = s.pairs :=
  RegsAndEvents.keep (.raiseEvent (.setReg (.refl s))) (F := State.pairs) (fun _ _ => rfl) rfl

theorem pairFail_same (b src reason : Nat) : SameRegs [GLB_PAIR_FAIL] s (pairFail b src reason s) :=
  ((SameRegs.refl _ s).setReg (by decide)).raiseEvent

variable {src : Nat} {v : Word} {x : PairPending}

theorem writeRow_complement (hkind : r.kind = .complement) (src : Nat) (v : Word) : writeRow r i src a v s = pairSecond (a - 4) src v s := by
  simp only [writeRow, hkind]

theorem pairSecond_nothing (h : s.pairs.find a = none) (src : Nat) (v : Word) : pairSecond a src v s = pairFail a src PairFault.nothing s := by
  simp only [pairSecond, h]

theorem pairSecond_otherSource (h : s.pairs.find a = some x) (hsrc : x.src ≠ src) (v : Word) :
    pairSecond a src v s = pairFail a src PairFault.otherSource { s with pairs := s.pairs.erase a } := by
  simp only [pairSecond, h]
  rw [if_pos hsrc]

theorem pairSecond_notComplement (h : s.pairs.find a = some x) (hsrc : x.src = src) (hv : v ≠ ~~~x.value) :
    pairSecond a src v s = pairFail a src PairFault.notComplement { s with pairs := s.pairs.erase a } := by
  simp only [pairSecond, h]
  rw [if_neg (not_not.2 hsrc), if_pos hv]

theorem pairSecond_match (h : s.pairs.find a = some x) (hsrc : x.src = src) (hv : v = ~~~x.value) :
    pairSecond a src v s = pairTake a src x.value { s with pairs := s.pairs.erase a } := by
  simp only [pairSecond, h]
  rw [if_neg (not_not.2 hsrc), if_neg (not_not.2 hv)]

end

theorem rowAt_resetCtrlCpl_addr {a : Nat} (h : a = GLB_RESET_CTRL_CPL) : a - 4 = GLB_RESET_CTRL := by rw [h]; rfl

def resetCtrlRow : RegRow := ⟨0x208, 0x4, 1, 0x0, 0x0, .paired, 0xF7, 0x0, 0x0, 0x0, false, 14⟩

/-- The complement of a reset that asks for nothing stores the first word. -/
theorem pairTake_resetCtrl_none {s : State} {v : Word} (hkind : v.bits 1 0 = 0) (src : Nat) :
    pairTake GLB_RESET_CTRL src v s = s.setReg GLB_RESET_CTRL ((s.reg GLB_RESET_CTRL &&& ~~~0xF7) ||| (v &&& 0xF7)) := by
  have hnone : ∀ t : State, t.get GLB_RESET_CTRL_kind = 0 → resetCtrl src t = t := fun t ht => by simp [resetCtrl, ht]
  have htake : pairTake GLB_RESET_CTRL src v s = resetCtrl src (plainWrite resetCtrlRow GLB_RESET_CTRL v s) := rfl
  have hword : plainWord resetCtrlRow (s.reg GLB_RESET_CTRL) v = (s.reg GLB_RESET_CTRL &&& ~~~0xF7) ||| (v &&& 0xF7) := by
    simp [plainWord, resetCtrlRow]
  rw [htake, plainWrite, hword, hnone]
  have hmask : ((s.reg GLB_RESET_CTRL &&& ~~~0xF7) ||| (v &&& 0xF7)).bits 1 0 = v.bits 1 0 :=
    bits_congr fun k _ hk => by
      have hone : (0xF7 : Word).getLsbD k = true := by
        rcases Nat.le_one_iff_eq_zero_or_eq_one.1 hk with rfl | rfl <;> rfl
      rw [BitVec.getLsbD_or, BitVec.getLsbD_and, BitVec.getLsbD_and, BitVec.getLsbD_not, hone]
      simp
  exact ((congrArg (fun w : Word => w.bits 1 0) (State.reg_setReg_same _ _ _)).trans hmask).trans hkind

/-- Settles O38: the row of a register says which of the writes above it takes. -/
theorem registerWritesActByTheirTypes : Obligations.RegisterWritesActByTheirTypes := by
  unfold Obligations.RegisterWritesActByTheirTypes
  intro s src v hup
  refine ⟨fun a hnone => ?_, fun a r i hr hkind hrw hw1s hstaged hlock => ?_, fun a r i hr hlock => ?_,
    fun a r i hr hkind hw1s hstaged hrw hlock ha hbase => ?_, ?_, ?_, fun a r i hr hkind hlock hpair => ?_, fun a r i x hr hkind hlock hpair => ⟨?_, ?_, ?_⟩,
    fun a r i hr hkind hlock hpair => ?_, ?_, rfl, rfl, rfl⟩
  · exact congrArg Host.Outcome.next (write_nothing (.inr hnone) src v)
  · exact congrArg Host.Outcome.next ((write_unlocked hup hr (locked_of_none hlock) src v).trans (writeRow_constant hkind hrw hw1s hstaged src v))
  · refine ⟨_, congrArg Host.Outcome.next (write_locked hup hr hlock src v), lockViol_count _ _ s, lockViol_source src.isLt _ s, lockViol_addr a.isLt _ s, ?_, ?_, ?_⟩
    · exact .raiseEvent (.put (.put (.addField (.refl _ s))))
    · exact lockViol_events _ _ s
    · exact RegsAndEvents.frame (.raiseEvent (.put (.put (.addField (.refl s)))))
  · have hstores := liveWrite_stores (s := suspendCheck r s) hr (mem_storingRows hr hw1s hrw hbase ha) ha v
    obtain ⟨c, hc⟩ := suspendCheck_eq r s
    have hwrite : write src a v s = plainWrite r a v { s with commit := c } := by
      rw [write_unlocked hup hr hlock, writeRow, hkind, ← hc]
      simp only [hstaged, hrw, ne_eq, not_true, not_false_eq_true, true_or, if_true, if_false, hstores]
    refine ⟨_, congrArg Host.Outcome.next hwrite, fun k => ?_, .setReg (SameRegs.commit (.refl _ s)) (by simp), rfl⟩
    rw [plainWrite, State.reg_setReg_same]
    exact getLsbD_plainWord _ v hw1s k
  · have hw := writable_of_free (a := GLB_LOCK) hup rfl (by decide)
    refine ⟨_, congrArg Host.Outcome.next (write_lock hw src v), State.reg_setReg_same _ _ _, .setReg (.refl _ s), rfl⟩
  · refine ⟨_, congrArg Host.Outcome.next (write_masked (a := GLB_SW_FLAGS) rfl rfl hup src v), fun k => ?_, fun k => ?_, .setReg (.refl _ s), rfl⟩
    · rw [State.reg_setReg_same, getLsbD_maskedWord]
    · exact getLsbD_and_lowHalf_above _ k
  · refine congrArg Host.Outcome.next ((write_unlocked hup hr hlock src v).trans ?_)
    simp only [writeRow, hkind, pairFirst, hpair]
    rfl
  · intro hsrc hv ha hnone
    have hpair' : s.pairs.find GLB_RESET_CTRL = some x := rowAt_resetCtrlCpl_addr ha ▸ hpair
    have hwrite := (write_unlocked hup hr hlock src v).trans (writeRow_complement hkind src v)
    rw [rowAt_resetCtrlCpl_addr ha, pairSecond_match hpair' hsrc hv, pairTake_resetCtrl_none hnone] at hwrite
    exact ⟨_, congrArg Host.Outcome.next hwrite, State.reg_setReg_same _ _ _, rfl, .setReg (SameRegs.pairs (.refl _ s)), rfl⟩
  · intro hsrc
    have hwrite := ((write_unlocked hup hr hlock src v).trans (writeRow_complement hkind src v)).trans (pairSecond_otherSource hpair hsrc v)
    obtain ⟨hreason, hsource, haddr⟩ := pairFail_fields (s := { s with pairs := s.pairs.erase (a.val - 4) }) (b := a.val - 4) src.isLt
      (by decide : PairFault.otherSource < 8) (by omega)
    exact ⟨_, congrArg Host.Outcome.next hwrite, hreason, hsource, haddr, pairFail_pairs _ _ _, (SameRegs.pairs (.refl _ s)).trans (pairFail_same _ _ _)⟩
  · intro hsrc hv
    have hwrite := ((write_unlocked hup hr hlock src v).trans (writeRow_complement hkind src v)).trans (pairSecond_notComplement hpair hsrc hv)
    obtain ⟨hreason, hsource, haddr⟩ := pairFail_fields (s := { s with pairs := s.pairs.erase (a.val - 4) }) (b := a.val - 4) src.isLt
      (by decide : PairFault.notComplement < 8) (by omega)
    exact ⟨_, congrArg Host.Outcome.next hwrite, hreason, hsource, haddr, pairFail_pairs _ _ _, (SameRegs.pairs (.refl _ s)).trans (pairFail_same _ _ _)⟩
  · have hwrite := ((write_unlocked hup hr hlock src v).trans (writeRow_complement hkind src v)).trans (pairSecond_nothing hpair src v)
    obtain ⟨hreason, -, haddr⟩ := pairFail_fields (s := s) (b := a.val - 4) src.isLt (by decide : PairFault.nothing < 8) (by omega)
    exact ⟨_, congrArg Host.Outcome.next hwrite, hreason, haddr, pairFail_same _ _ _, pairFail_pairs _ _ _⟩
  · have hw := writable_of_free (a := CFG_COMMIT) hup rfl (by decide)
    refine congrArg Host.Outcome.next ((write_of_writable hw rfl src 1).trans ?_)
    show plainWrite _ CFG_COMMIT 1 s = _
    rw [plainWrite]
    exact congrArg (s.setReg CFG_COMMIT) (plainWord_sets rfl rfl _)

end Sys2Proof.Machine
end

section
/-!
PROOF. Towpath sending, the wake pattern, the code search and lane joins.
-/
set_option autoImplicit false
set_option Elab.async false

namespace Sys2Proof.Machine
open Reg Bit

/-! ### Two writes of one table entry -/

namespace KMap
variable {α : Type}

theorem ins_ins_same (m : KMap α) (k : Nat) (v w : α) : (m.ins k v).ins k w = m.ins k w := by
  induction m with
  | nil => simp [ins]
  | cons p m ih =>
    by_cases hlt : k < p.1
    · simp [ins, hlt]
    · by_cases heq : k = p.1
      · simp [ins, heq]
      · simp [ins, hlt, heq, ih]

theorem erase_ins_same (m : KMap α) (k : Nat) (v : α) : (m.ins k v).erase k = m.erase k := by
  induction m with
  | nil => simp [ins, erase]
  | cons p m ih =>
    by_cases hlt : k < p.1
    · simp [ins, erase, hlt]
    · by_cases heq : k = p.1
      · simp [ins, erase, heq]
      · simp [ins, erase, hlt, heq, ih]

/-- A write of a value that is listed goes under in the next write of its key. -/
theorem put_put_same [DecidableEq α] {d : Nat → α} {k : Nat} {v : α} (hv : v ≠ d k) (m : KMap α) (w : α) : put d (put d m k v) k w = put d m k w := by
  by_cases hw : w = d k
  · simp [put, hv, hw, erase_ins_same]
  · simp [put, hv, hw, ins_ins_same]

end KMap

/-! ### Sending -/

section
variable {s : State} {p : Nat}

theorem frameStart_sends {m : List Byte} (hmay : towMayStart s p = true) (hidle : (s.tow p).sending = none) (hwaking : (s.tow p).waking = false)
    (hwaiting : (s.tow p).wakeWaiting = false) (hpick : towPick (s.tow p).queue = some m) : frameStart p s = s.modTow p fun x => { x with
      queue := x.queue.erase m, sending := some m, channel := frameChannel (frameHeader m.length (s.tow p).txSeq (s.get (PORT_TOW_TAG_tag p))) m,
      code := s.get (PORT_TOW_CTRL_tx_code p), txSeq := (x.txSeq + 1) % 16,
      beaconSeq := if (m.headD 0).toNat = 0x10 then (x.beaconSeq + 1) % 65536 else x.beaconSeq } := by
  simp only [frameStart, hmay, hidle, hwaking, hwaiting, hpick, Option.isSome_none, Bool.not_true, Bool.or_self, Bool.false_eq_true, if_false]

theorem frameSent_counts {m : List Byte} (hsending : (s.tow p).sending = some m) (hwaiting : (s.tow p).wakeWaiting = false) :
    frameSent p s = (s.modTow p fun x => { x with sending := none, channel := [] }).addSat (PORT_TOW_TX_FRAMES p) 1 := by
  have hkeep : (((s.modTow p fun x => { x with sending := none, channel := [] }).addSat (PORT_TOW_TX_FRAMES p) 1).tow p).wakeWaiting = false := by
    rw [State.addSat, RegsAndEvents.tow (.setReg (.refl _)), State.tow_modTow]
    exact hwaiting
  simp only [frameSent, hsending, hkeep, Option.isNone_some, Bool.false_eq_true, if_false]

theorem codeFound_found {c : Nat} (hstage : s.stage p ≠ 0) (hfound : (s.tow p).found = none) (hlocked : (s.tow p).locked = none)
    (henabled : codeEnabled s p c = true) : codeFound p c s = s.setTow p { s.tow p with found := some c } := by
  simp [codeFound, hstage, hfound, hlocked, henabled, State.modTow]

theorem codeUnlock_locked (h : (s.tow p).locked ≠ none) : codeUnlock p s =
    (((s.modTow p fun x => { x with locked := none }).put (PORT_TOW_STATUS_code_locked p) 0).put (PORT_TOW_STATUS_locked_code p) 0).cause
      (Cause.PORT_TOW_code_lost p) := if_pos (Option.isSome_iff_ne_none.2 h)

theorem beaconTimer_queues (hen : s.get (PORT_TOW_CTRL_beacon_en p) = 1) (hstage : s.stage p = 1)
    (hqueue : ((s.tow p).queue.all fun m => towClass m != 4) = true) :
    beaconTimer p s = s.setTow p { s.tow p with queue := (s.tow p).queue ++ [beaconPayload s p] } := by
  have hlate : ((s.tow p).queue.any fun m => towClass m == 4) = false := by
    rw [List.any_eq_false]
    intro m hm
    simpa using List.all_eq_true.1 hqueue m hm
  simp only [beaconTimer, flag_of_get_eq_one hen, hstage, hlate, Bool.false_eq_true, if_false]
  rfl

theorem mgmtRetry_resends {x : MgmtTx} (hx : (s.tow p).mgmtTx = some x) (hsends : x.sends < 8) : mgmtRetry p s = s.setTow p { s.tow p with
    mgmtTx := some { x with sends := x.sends + 1 }, queue := (s.tow p).queue ++ [mgmtPayload x] } := by
  have hsend : mgmtSend p x s = s.setTow p { s.tow p with mgmtTx := some { x with sends := x.sends + 1 }, queue := (s.tow p).queue ++ [mgmtPayload x] } := by
    rw [mgmtSend, towEnqueue, State.modTow, State.tow_modTow, State.modTow, State.setTow, State.setTow, State.setTow]
    have hlisted : { s.tow p with mgmtTx := some { x with sends := x.sends + 1 } } ≠ TowSt.reset := fun h =>
      Option.some_ne_none _ (congrArg TowSt.mgmtTx h)
    exact congrArg (fun m => { s with tows := m }) (KMap.put_put_same (d := fun _ => TowSt.reset) (k := p) hlisted s.tows _)
  have hkeep : ((mgmtSend p x s).tow p).mgmtTx.isNone = false := by
    rw [hsend, State.tow_setTow, if_pos rfl]
    rfl
  rw [← hsend]
  simp only [mgmtRetry, mgmtAgain, hx, if_neg (Nat.not_le.2 hsends), hkeep, Bool.false_eq_true, if_false]

end

/-! ### The wake pattern -/

section
variable {s : State} {p : Nat}

theorem rowAt_towWake : ∀ p : Port, (rowAt (PORT_TOW_WAKE p)).any (fun q => q.2 == p.val && (q.1.lock == 16 && (q.1.kind == .plain &&
    (q.1.staged == 0 && (q.1.rw != 0 && (!isClear q.1 (PORT_TOW_WAKE p) && (q.1.base == PORT_TOW_WAKE 0))))))) = true := by decide +kernel

/-- A write of PORT_TOW_WAKE acts as the wake rules say. -/
theorem write_towWake {p : Port} (hw : writable s (PORT_TOW_WAKE p) = true) (src : Nat) (v : Word) : write src (PORT_TOW_WAKE p) v s = wakeWrite p v s := by
  obtain ⟨⟨r, i⟩, hr, hq⟩ := (Option.any_eq_true _ _).1 (rowAt_towWake p)
  simp only [Bool.and_eq_true, beq_iff_eq, bne_iff_ne, Bool.not_eq_true'] at hq
  obtain ⟨rfl, hlock, hkind, hstaged, hrw, hclear, hbase⟩ := hq
  have hsuspend : suspendCheck r s = s := if_neg (by simp [guardedRow, hlock])
  have hne : PORT_TOW_WAKE p ≠ GLB_COMMIT_CTRL := by simp only [PORT_TOW_WAKE, GLB_COMMIT_CTRL]; omega
  have hlow : PORT_TOW_WAKE p < 0x80000 := by simp only [PORT_TOW_WAKE]; omega
  rw [write_of_writable hw hr, writeRow, hkind]
  simp only [hsuspend, hstaged, hrw, ne_eq, not_true, not_false_eq_true, true_or, if_true, if_false]
  rw [liveWrite, hclear, if_neg Bool.false_ne_true, if_pos hlow, writeLow, if_neg hne, hbase, if_neg (by decide), if_pos rfl]

theorem wakeWrite_begins {v : Word} (hgo : v.bits 0 0 = 1) (hstage : s.stage p = 1) (hidle : (s.tow p).sending = none) :
    wakeWrite p v s = wakeBegin p (s.put (PORT_TOW_WAKE_dur p) (v.bits 7 4)) := by
  have hidle' : ((s.put (PORT_TOW_WAKE_dur p) (v.bits 7 4)).tow p).sending = none := by
    rw [RegsAndEvents.tow (.put (.refl _))]
    exact hidle
  simp [wakeWrite, hgo, hstage, hidle']

theorem wakeEnd_waking (h : (s.tow p).waking = true) : wakeEnd p s =
    ((s.modTow p fun x => { x with waking := false, wakeWaiting := false }).put (PORT_TOW_WAKE_sending p) 0).put (PORT_TOW_WAKE_go p) 0 :=
  if_pos (by simp [h])

end

/-! ### Lane joins -/

/-- A lane counts as joined or not, as found. -/
def joinLane (j : Nat → Bool) (k : Nat) (s : State) : State :=
  if (s.lane k).joined == j k then s
  else (s.modLane k fun x => { x with joined := j k }).put (LANE_TOW_PHASE_joined k) (if j k then 1 else 0)

section
variable {s t : State} {l k : Nat} {j : Nat → Bool}

theorem laneJoin_eq (hstage : s.stage (portOf l) ≠ 0) (snr : Int) (q : Nat) : laneJoin l snr q s =
    forEach (lanesOf (portOf l)) (joinLane (mayJoin ((s.modLane l fun x => { x with towSnr := snr }).put (LANE_TOW_PHASE_phase l) (q % 4092))))
      ((s.modLane l fun x => { x with towSnr := snr }).put (LANE_TOW_PHASE_phase l) (q % 4092)) := if_neg hstage

theorem joinLane_touches (j : Nat → Bool) (k : Nat) (h : Touches [.lanes, .regs] s t) : Touches [.lanes, .regs] s (joinLane j k t) :=
  .ite h (h.modLane.put)

theorem lane_joinLane (j : Nat → Bool) (k m : Nat) (s : State) :
    (joinLane j k s).lane m = if m = k then { s.lane m with joined := j m } else s.lane m := by
  unfold joinLane
  split
  case isTrue h =>
    split
    case isTrue hm => rw [hm, ← beq_iff_eq.1 h]
    case isFalse => rfl
  case isFalse =>
    rw [RegsAndEvents.lane (.put (.refl _))]
    split
    case isTrue hm => rw [hm, State.lane_modLane]
    case isFalse hm => exact State.lane_modLane_ne s _ hm

theorem get_phase_joinLane (j : Nat → Bool) (k m : Nat) (s : State) : (joinLane j k s).get (LANE_TOW_PHASE_phase m) = s.get (LANE_TOW_PHASE_phase m) := by
  unfold joinLane
  split
  · rfl
  · by_cases hm : m = k
    · rw [hm, State.get_put_apart rfl, State.get_modLane]
    · have hne : LANE_TOW_PHASE m ≠ LANE_TOW_PHASE k := by simp only [LANE_TOW_PHASE]; omega
      rw [State.get_put_ne _ _ _ _ hne, State.get_modLane]

theorem lane_joinLanes (j : Nat → Bool) (l : List Nat) (m : Nat) (s : State) :
    (forEach l (joinLane j) s).lane m = if m ∈ l then { s.lane m with joined := j m } else s.lane m := by
  induction l generalizing s with
  | nil => rfl
  | cons k l ih =>
    refine (ih (joinLane j k s)).trans ?_
    rw [lane_joinLane]
    by_cases hl : m ∈ l <;> by_cases hk : m = k <;> simp [hl, hk]

theorem get_phase_joinLanes (j : Nat → Bool) (l : List Nat) (m : Nat) (s : State) :
    (forEach l (joinLane j) s).get (LANE_TOW_PHASE_phase m) = s.get (LANE_TOW_PHASE_phase m) := by
  induction l generalizing s with
  | nil => rfl
  | cons k l ih => exact (ih (joinLane j k s)).trans (get_phase_joinLane j k m s)

theorem mem_lanesOf {p : Nat} : k ∈ lanesOf p ↔ portOf k = p := by
  simp only [lanesOf, portOf, List.mem_map, List.mem_range]
  constructor
  · rintro ⟨i, hi, rfl⟩
    omega
  · rintro rfl
    exact ⟨k % 8, Nat.mod_lt _ (by decide), Nat.div_add_mod k 8⟩

theorem joinLanes_sameRegs (j : Nat → Bool) (p : Nat) (s : State) :
    SameRegs ((lanesOf p).map LANE_TOW_PHASE) s (forEach (lanesOf p) (joinLane j) s) := by
  suffices h : ∀ l ⊆ lanesOf p, ∀ t, SameRegs ((lanesOf p).map LANE_TOW_PHASE) s t → SameRegs ((lanesOf p).map LANE_TOW_PHASE) s (forEach l (joinLane j) t) from
    h _ (List.Subset.refl _) s (.refl _ s)
  intro l
  induction l with
  | nil => exact fun _ _ h => h
  | cons k l ih =>
    intro hl t ht
    obtain ⟨hk, hl⟩ := List.cons_subset.1 hl
    exact ih hl _ (.ite ht (ht.modLane.put (List.mem_map_of_mem hk)))

/-- The conditions of the combined stream look at the strengths and phases of the lanes alone. -/
theorem mayJoin_congr (hsnr : ∀ k, (t.lane k).towSnr = (s.lane k).towSnr) (hphase : ∀ k, t.get (LANE_TOW_PHASE_phase k) = s.get (LANE_TOW_PHASE_phase k))
    (k : Nat) : mayJoin t k = mayJoin s k := by
  have hstrong : strongestLane t (portOf k) = strongestLane s (portOf k) := by
    unfold strongestLane
    refine congrArg (fun f => List.foldl f (8 * portOf k) (lanesOf (portOf k))) (funext₂ fun b l => ?_)
    rw [hsnr, hsnr]
  rw [mayJoin, mayJoin, hstrong, hsnr, hphase, hphase]

end

/-! ### Counter clears of indexed registers -/

/-- The register at the address is an unguarded one that holds a counter clear alone. -/
def clearing (a : Nat) : Bool :=
  (rowAt a).any fun q => q.1.kind == .plain && (q.1.w1s != 0 && (q.1.staged == 0 && (!guardedRow q.1 && isClear q.1 a)))

theorem write_clearing {s : State} {a : Nat} (h : clearing a = true) (hw : writable s a = true) (src : Nat) :
    write src a 1 s = { s.setReg a 1 with clears := insertSorted a s.clears } := by
  obtain ⟨⟨r, i⟩, hr, hq⟩ := (Option.any_eq_true _ _).1 h
  simp only [Bool.and_eq_true, beq_iff_eq, bne_iff_ne, Bool.not_eq_true'] at hq
  obtain ⟨hkind, hw1s, hstaged, hguard, hclear⟩ := hq
  exact write_clear hw hr hkind (.inr hw1s) hstaged hguard hclear src

theorem clearing_towClr : ∀ p : Port, clearing (PORT_TOW_CLR p) = true := by decide +kernel

theorem ofSigned_lt {n k : Nat} (h : n ≤ k) (x : Int) : ofSigned n x < 2 ^ k := by
  have hpos : (0 : Int) < (2 ^ n : Nat) := by exact_mod_cast Nat.two_pow_pos n
  have hlt := Int.emod_lt_of_pos x hpos
  have hle : 2 ^ n ≤ 2 ^ k := Nat.pow_le_pow_right (by decide) h
  unfold ofSigned
  omega

/-- Settles O14: each command is its own few operations on the towpath of the port; a lane join goes over the port's lanes one by one. -/
theorem towpathSendsAndFindsCodes : Obligations.TowpathSendsAndFindsCodes := by
  unfold Obligations.TowpathSendsAndFindsCodes
  intro s p hup
  refine ⟨fun m hmay hidle hwaking hwaiting hpick => ?_, fun m hsending hwaiting => ?_, fun c hstage hfound hlocked henabled => ?_, ?_, fun hlocked => ?_,
    fun hen hstage hqueue => ?_, fun x hx hsends => ?_, fun src v hw hstage hidle => ?_, fun hwaking => ?_, fun l snr q hstage => ?_,
    fun l x hstage hctx0 hctx1 hvalid => ?_, fun src hw => ?_⟩
  · refine ⟨_, congrArg Host.Outcome.next ((whenUp_of_up hup _).trans (frameStart_sends hmay hidle hwaking hwaiting hpick)), ?_⟩
    rw [State.tow_modTow]
    exact ⟨rfl, rfl, rfl, rfl, rfl, rfl⟩
  · refine ⟨_, congrArg Host.Outcome.next ((whenUp_of_up hup _).trans (frameSent_counts hsending hwaiting)), ?_, ?_, ?_, ?_⟩
    · rw [State.addSat, RegsAndEvents.tow (.setReg (.refl _)), State.tow_modTow]
    · exact State.reg_addSat_same _ _ _
    · exact .addSat (.modTow (.refl _ s)) (by exact .head _)
    · exact (((Touches.refl [.tows, .regs] s).modTow).addSat).frame (fun t => { t with tows := s.tows, regs := s.regs }) fun _ => rfl
  · exact congrArg Host.Outcome.next ((whenUp_of_up hup _).trans (codeFound_found hstage hfound hlocked henabled))
  · exact congrArg Host.Outcome.next (whenUp_of_up hup _)
  · refine ⟨_, congrArg Host.Outcome.next ((whenUp_of_up hup _).trans (codeUnlock_locked hlocked)), ?_, ?_, ?_, ?_⟩
    · rw [RegsAndEvents.tow (.cause (.put (.put (.refl _)))), State.tow_modTow]
    · rw [State.get_cause_ne, State.get_put_apart rfl]
      · exact State.get_put_self rfl (of_decide_eq_true rfl)
      · simp only [Cause.PORT_TOW_code_lost, PORT_TOW_STATUS_code_locked, PORT_TOW_STATUS, PORT_TOW_EVT_CAUSE]; omega
    · exact .cause (.put (.put (.modTow (.refl _ s)) (by exact .head _)) (by exact .head _)) (by exact .tail _ (.head _))
    · exact (((((Touches.refl [.tows, .regs, .events] s).modTow).put).put).cause).frame
        (fun t => { t with tows := s.tows, regs := s.regs, events := s.events }) fun _ => rfl
  · exact congrArg Host.Outcome.next ((whenUp_of_up hup _).trans (beaconTimer_queues hen hstage hqueue))
  · exact congrArg Host.Outcome.next ((whenUp_of_up hup _).trans (mgmtRetry_resends hx hsends))
  · have hgo : (v.withBits 0 0 1).bits 0 0 = 1 := withBits_bit v (by decide)
    have hdur : (v.withBits 0 0 1).bits 7 4 = v.bits 7 4 := Word.bits_withBits_above v 0 0 1 7 4 (by decide) (by decide) (by decide)
    have hwrite := (write_towWake hw src (v.withBits 0 0 1)).trans (wakeWrite_begins hgo hstage hidle)
    rw [hdur] at hwrite
    refine ⟨_, congrArg Host.Outcome.next hwrite, ?_, ?_, ?_, ?_, ?_⟩
    · rw [wakeBegin, RegsAndEvents.tow (.put (.put (.refl _))), State.tow_modTow]
    · rw [wakeBegin, State.get_put_apart rfl]
      exact State.get_put_self rfl (of_decide_eq_true rfl)
    · exact State.get_put_self rfl (of_decide_eq_true rfl)
    · rw [wakeBegin, State.get_put_apart rfl, State.get_put_apart rfl, State.get_modTow]
      exact State.get_put_self rfl (Nat.mod_lt _ (by decide))
    · exact .put (.put (.modTow (.put (.refl _ s) (by exact .head _))) (by exact .head _)) (by exact .head _)
  · refine ⟨_, congrArg Host.Outcome.next ((whenUp_of_up hup _).trans (wakeEnd_waking hwaking)), ?_, ?_, ?_, ?_, ?_⟩
    · rw [RegsAndEvents.tow (.put (.put (.refl _))), State.tow_modTow]
    · rw [State.get_put_apart rfl]
      exact State.get_put_self rfl (of_decide_eq_true rfl)
    · exact State.get_put_self rfl (of_decide_eq_true rfl)
    · exact .put (.put (.modTow (.refl _ s)) (by exact .head _)) (by exact .head _)
    · exact ((((Touches.refl [.tows, .regs] s).modTow).put).put).frame (fun t => { t with tows := s.tows, regs := s.regs }) fun _ => rfl
  · refine ⟨_, congrArg Host.Outcome.next ((whenUp_of_up hup _).trans (laneJoin_eq hstage snr q)), ?_⟩
    generalize hu : (s.modLane l fun x => { x with towSnr := snr }).put (LANE_TOW_PHASE_phase l) (q % 4092) = u
    have hlane : ∀ k, u.lane k = if k = l.val then { s.lane k with towSnr := snr } else s.lane k := fun k => by
      rw [← hu, RegsAndEvents.lane (.put (.refl _))]
      split
      case isTrue hk => rw [hk, State.lane_modLane]
      case isFalse hk => exact State.lane_modLane_ne s _ hk
    have hphase : u.get (LANE_TOW_PHASE_phase l) = q % 4092 := by
      rw [← hu]
      exact State.get_put_self rfl (by simp only [LANE_TOW_PHASE_phase]; omega)
    have hsame : SameRegs ((lanesOf (portOf l)).map LANE_TOW_PHASE) s u := by
      rw [← hu]
      exact .put (.modLane (.refl _ s)) (List.mem_map_of_mem (mem_lanesOf.2 rfl))
    have htouch : Touches [.lanes, .regs] s u := by
      rw [← hu]
      exact ((Touches.refl _ s).modLane).put
    have hjoined := lane_joinLanes (mayJoin u) (lanesOf (portOf l)) (s := u)
    refine ⟨?_, ?_, fun k hk => ?_, fun k hk => ?_, hsame.trans (joinLanes_sameRegs _ _ _), ?_⟩
    · rw [hjoined, if_pos (mem_lanesOf.2 rfl), hlane, if_pos rfl]
    · rw [get_phase_joinLanes, hphase]
    · rw [hjoined, if_pos (mem_lanesOf.2 hk)]
      refine (mayJoin_congr (fun m => ?_) (fun m => get_phase_joinLanes _ _ _ _) _).symm
      rw [hjoined]
      split <;> rfl
    · rw [hjoined, if_neg (fun h => hk (mem_lanesOf.1 h)), hlane, if_neg (fun h => hk (by rw [h]))]
    · exact (htouch.forEach fun k t ht => joinLane_touches _ k ht).frame (fun t => { t with lanes := s.lanes, regs := s.regs }) fun _ => rfl
  · have hflag : s.flag (LANE_TOW_NOISE_valid l) = false := flag_of_get_eq_zero hvalid
    have hnoise : noiseWindow l x s = (s.put (LANE_TOW_NOISE_valid l) 1).put (LANE_TOW_NOISE_level l) (ofSigned 12 x) := by
      simp [noiseWindow, hstage, hctx0, hctx1, hflag]
    refine ⟨_, congrArg Host.Outcome.next ((whenUp_of_up hup _).trans hnoise), ?_, ?_, ?_, ?_⟩
    · rw [State.get_put_apart rfl]
      exact State.get_put_self rfl (of_decide_eq_true rfl)
    · exact State.get_put_self rfl (ofSigned_lt (of_decide_eq_true rfl) x)
    · exact .put (.put (.refl _ s) (by exact .head _)) (by exact .head _)
    · exact OnlyRegs.frame (.put (.put (.refl s)))
  · have hwrite := write_clearing (clearing_towClr p) hw src
    exact ⟨_, congrArg Host.Outcome.next hwrite, rfl, SameRegs.clears (.setReg (.refl _ s) (by exact .head _))⟩

end Sys2Proof.Machine
end

section
/-!
PROOF. Towpath frames as their checks take them.
-/
set_option autoImplicit false
set_option Elab.async false

namespace Sys2Proof.Machine
open Reg Bit

section
variable {s t : State} {p c : Nat}

/-! ### Hails and headers -/

theorem hailMetric_lt (soft : List Int) : hailMetric soft < 2 ^ 12 := by
  unfold hailMetric
  omega

theorem hail_opens {soft : List Int} (hstage : s.stage p ≠ 0) (hfound : (s.tow p).found = some c) (hctx0 : (s.tow p).ctx0 = .search)
    (hctx1 : (s.tow p).ctx1 = .search) (hlen : soft.length = 32) (herrors : hailErrors soft ≤ hailErr s p) : hail p c soft s =
    ((s.modTow p fun x => { x with ctx0 := .header c (hailMetric soft), found := none }).put (PORT_TOW_HAIL_errors p) (hailErrors soft)).put
      (PORT_TOW_HAIL_metric p) (hailMetric soft) := by
  simp [-State.mk.injEq, hail, hstage, hfound, hctx0, hctx1, hlen, Nat.not_lt.2 herrors]

theorem headerCheck_good {m : Nat} {soft : List Int} (hctx0 : (s.tow p).ctx0 = .header c m) (hok : headerOk (decodedHeader soft) = true) :
    headerCheck p soft s = s.setTow p { s.tow p with ctx0 := .payload c (decodedHeader soft) } := by
  simp only [headerCheck, hctx0, hok, if_true]
  rfl

theorem headerCheck_bad {m : Nat} {soft : List Int} (hctx0 : (s.tow p).ctx0 = .header c m) (hok : headerOk (decodedHeader soft) = false) :
    headerCheck p soft s =
      ((s.modTow p fun x => { x with ctx0 := .search }).addSat (PORT_TOW_HDR_ERR p) 1).cause (Cause.PORT_TOW_hdr_err p) := by
  simp only [headerCheck, hctx0, hok, Bool.false_eq_true, if_false]

/-! ### The end of a frame -/

theorem frameEnd_badCrc {w : Word} {soft : List Int} (hctx0 : (s.tow p).ctx0 = .payload c w)
    (hcrc : decodedCrc (w.bits 31 25) soft ≠ frameCrc w (decodedPayload (w.bits 31 25) soft)) : frameEnd p soft [] s =
      ((towContextsReset p s).addSat (PORT_TOW_CRC_ERR p) 1).cause (Cause.PORT_TOW_crc_err p) := by
  simp only [frameEnd, payloadCtx, hctx0]
  exact if_pos hcrc

/-- Code lock on the code of a good frame, where the port is to lock and holds none. -/
def codeLockOn (p code : Nat) (s : State) : State :=
  if s.flag (PORT_TOW_CTRL_code_lock_en p) && (s.tow p).locked.isNone then
    (((s.modTow p fun x => { x with locked := some code }).put (PORT_TOW_STATUS_code_locked p) 1).put
      (PORT_TOW_STATUS_locked_code p) code).cause (Cause.PORT_TOW_code_lock p)
  else s

/-- A good frame of a foreign tag, before code lock and delivery. -/
def frameCounted (p tag : Nat) (s : State) : State :=
  ((((towContextsReset p s).modTow p fun x => { x with echoes := [] }).addSat (PORT_TOW_FRAMES_OK p) 1).put (PORT_TOW_STATUS_peer_tag p) tag).cause
    (Cause.PORT_TOW_frame_rx p)

theorem frameEnd_good {w : Word} {soft : List Int} (hctx0 : (s.tow p).ctx0 = .payload c w)
    (hcrc : decodedCrc (w.bits 31 25) soft = frameCrc w (decodedPayload (w.bits 31 25) soft)) (htag : w.bits 20 9 ≠ s.get (PORT_TOW_TAG_tag p)) :
    frameEnd p soft [] s = towDeliver p (decodedPayload (w.bits 31 25) soft)
      (codeLockOn p c ((frameCounted p (w.bits 20 9) s).modTow p fun x => { x with lastFrame := some s.ticks })) := by
  simp only [frameEnd, payloadCtx, hctx0]
  exact (if_neg (not_not.2 hcrc)).trans (if_neg htag)

theorem tow_frameCounted (tag : Nat) : (frameCounted p tag s).tow p = { s.tow p with ctx0 := .search, ctx1 := .search, echoes := [] } := by
  rw [frameCounted, State.addSat, RegsAndEvents.tow (.cause (.put (.setReg (.refl _)))), State.tow_modTow, towContextsReset, State.tow_modTow]

theorem tow_codeLockOn (code : Nat) : ∃ l, (codeLockOn p code s).tow p = { s.tow p with locked := l } := by
  unfold codeLockOn
  split
  · rw [RegsAndEvents.tow (.cause (.put (.put (.refl _)))), State.tow_modTow]
    exact ⟨_, rfl⟩
  · exact ⟨_, rfl⟩

theorem towStatus_ne_cause (q : Nat) : PORT_TOW_STATUS p ≠ PORT_TOW_EVT_CAUSE q := by
  simp only [PORT_TOW_STATUS, PORT_TOW_EVT_CAUSE]
  omega

theorem get_peerTag_codeLockOn (code : Nat) : (codeLockOn p code s).get (PORT_TOW_STATUS_peer_tag p) = s.get (PORT_TOW_STATUS_peer_tag p) := by
  unfold codeLockOn
  split
  · rw [State.get_cause_ne _ (towStatus_ne_cause p), State.get_put_apart rfl, State.get_put_apart rfl, State.get_modTow]
  · rfl

theorem codeLockOn_sameRegs (code : Nat) : SameRegs [PORT_TOW_STATUS p, PORT_TOW_EVT_CAUSE p] s (codeLockOn p code s) := by
  refine .ite (.cause (.put (.put (.modTow (.refl _ s)) ?_) ?_) ?_) (.refl _ s)
  · exact .head _
  · exact .head _
  · exact .tail _ (.head _)

theorem towDeliver_sameRegs (m : List Byte) : SameRegs [FAB_TOW_UNKNOWN] s (towDeliver p m s) :=
  .ite (.modTow (.refl _ s)) (.ite (.addSat (.refl _ s)) (.refl _ s))

theorem tow_towDeliver (m : List Byte) : (towDeliver p m s).tow p = { s.tow p with inbox := (s.tow p).inbox ++ if towHandled m then [m] else [] } := by
  unfold towDeliver
  dsimp only
  cases hm : towHandled m with
  | true => rw [if_pos rfl, if_pos rfl, State.tow_modTow]
  | false =>
    rw [if_neg Bool.false_ne_true, if_neg Bool.false_ne_true, List.append_nil]
    split
    · rw [State.addSat, RegsAndEvents.tow (.setReg (.refl _))]
    · rfl

/-! ### Frames that arrive -/

theorem frameArrives_taken (hup : s.up = true) (hstage : s.stage p ≠ 0) (m : List Byte) (f : State → State) :
    frameArrives p m f s = f (towTake p m s) := by
  simp [frameArrives, hup, hstage]

/-- What a beacon shows in the port's registers. -/
def beaconShown (p : Nat) (m : List Byte) (s : State) : State :=
  let b := fun i => (m.getD i 0).toNat
  let valid := b 1 / 128 == 1
  let epoch := b 6 * 256 + b 7
  let s1 := ((((s.put (PORT_TOW_BCN0_valid p) 1).put (PORT_TOW_BCN0_state p) (b 3)).put (PORT_TOW_BCN0_port p) (b 2 % 16)).putFlag
    (PORT_TOW_BCN0_node_valid p) valid).put (PORT_TOW_BCN0_node p) (b 1 % 64)
  let s2 := (s1.put (PORT_TOW_BCN1_seq p) (b 4 * 256 + b 5)).put (PORT_TOW_BCN1_epoch p) epoch
  let s3 := ((((s2.put (FAB_NBR_valid p) 1).put (FAB_NBR_state p) (b 3)).put (FAB_NBR_peer_port p) (b 2 % 16)).putFlag (FAB_NBR_node_valid p) valid).put
    (FAB_NBR_node p) (b 1 % 64)
  s3.put (FAB_NBR_AGE_epoch p) epoch

/-- The port was seen at the tick, and no beacon of it is missed. -/
def SeenAt (k : Nat) (x : FabPort) : Prop := x.beaconTick = some k ∧ x.missed = false

/-- A step that leaves the registers but the fabric's causes, and the sight of the port. -/
def KeepsSight (p k : Nat) (s t : State) : Prop := SameRegs [FAB_EVT_CAUSE] s t ∧ (SeenAt k (s.fabPort p) → SeenAt k (t.fabPort p))

theorem KeepsSight.refl (p k : Nat) (s : State) : KeepsSight p k s s := ⟨.refl _ s, id⟩

theorem KeepsSight.trans {p k : Nat} {s t u : State} (h : KeepsSight p k s t) (h' : KeepsSight p k t u) : KeepsSight p k s u :=
  ⟨h.1.trans h'.1, h'.2 ∘ h.2⟩

theorem KeepsSight.modFab {p k : Nat} {s t : State} (h : KeepsSight p k s t) {f : FabPort → FabPort} (hf : ∀ x, SeenAt k x → SeenAt k (f x)) :
    KeepsSight p k s (t.modFab p f) := by
  refine h.trans ⟨.modFab (.refl _ t), fun hseen => ?_⟩
  rw [State.fabPort_modFab]
  exact hf _ hseen

theorem KeepsSight.cause {p k : Nat} {s t : State} (h : KeepsSight p k s t) {c : CauseBit} (hc : c.cause = FAB_EVT_CAUSE := by decide) :
    KeepsSight p k s (t.cause c) := by
  refine h.trans ⟨.cause (.refl _ t) (by simp [hc]), fun hseen => ?_⟩
  rw [RegsAndEvents.fabPort (.cause (.refl t))]
  exact hseen

theorem KeepsSight.ite {p k : Nat} {s t u : State} {c : Prop} {_ : Decidable c} (ht : KeepsSight p k s t) (hu : KeepsSight p k s u) :
    KeepsSight p k s (if c then t else u) := by
  split
  · exact ht
  · exact hu

theorem nodeSeen_keepsSight (k node : Nat) (valid : Bool) (s : State) : KeepsSight p k s (nodeSeen p node valid s) := by
  unfold nodeSeen nodeConflict
  exact .ite (.ite (.modFab (.refl p k s) (by exact fun _ h => h)) (.refl p k s)) (.ite (.refl p k s) (.cause (.modFab (.refl p k s) (by exact fun _ h => h))))

/-- A beacon is shown, its port seen. -/
theorem beaconArrives_shows {m : List Byte} (hlen : m.length = 8) (hhead : m.headD 0 = 0x10) :
    SameRegs [FAB_EVT_CAUSE] (beaconShown p m s) (beaconArrives p m s) ∧ SeenAt s.ticks ((beaconArrives p m s).fabPort p) := by
  have hnum : (m.headD 0).toNat = 0x10 := by rw [hhead]; rfl
  have hok : ¬(m.length ≠ 8 ∨ (m.headD 0).toNat ≠ 0x10) := by simp only [hlen, hnum, ne_eq, not_true, or_self, not_false_eq_true]
  unfold beaconArrives
  rw [if_neg hok]
  extract_lets b node valid peer seq epoch known changed bar s1 s2 s3 s4 s5 s6 own s7
  have hshown : s4 = beaconShown p m s := rfl
  have hseen : SeenAt s.ticks (s5.fabPort p) := by
    rw [show s5 = s4.modFab p _ from rfl, State.fabPort_modFab]
    exact ⟨rfl, rfl⟩
  have hregs : SameRegs [FAB_EVT_CAUSE] s4 s5 := .modFab (.refl _ s4)
  clear_value s5
  have h6 : KeepsSight p s.ticks s5 s6 := .ite (.cause (.refl _ _ s5)) (.refl _ _ s5)
  clear_value s6
  have h7 : KeepsSight p s.ticks s6 s7 := .ite (.cause (.modFab (.refl _ _ s6) (by exact fun _ h => h))) (.refl _ _ s6)
  clear_value s7
  have hall := (h6.trans h7).trans (nodeSeen_keepsSight s.ticks node valid s7)
  exact ⟨hshown ▸ hregs.trans hall.1, hall.2 hseen⟩

theorem beaconShown_fields (hp : p < 16) (m : List Byte) : (beaconShown p m s).get (PORT_TOW_BCN0_valid p) = 1 ∧
    (beaconShown p m s).get (PORT_TOW_BCN1_seq p) = (m.getD 4 0).toNat * 256 + (m.getD 5 0).toNat ∧
    (beaconShown p m s).get (PORT_TOW_BCN1_epoch p) = (m.getD 6 0).toNat * 256 + (m.getD 7 0).toNat ∧
    (beaconShown p m s).get (FAB_NBR_valid p) = 1 := by
  unfold beaconShown
  extract_lets b valid epoch s1 s2 s3
  have hbyte (i : Nat) : b i < 256 := (m.getD i 0).isLt
  have hne0 : PORT_TOW_BCN0 p ∉ [FAB_NBR p, FAB_NBR_AGE p] := by simp [PORT_TOW_BCN0, FAB_NBR, FAB_NBR_AGE]; omega
  have hne1 : PORT_TOW_BCN1 p ∉ [FAB_NBR p, FAB_NBR_AGE p] := by simp [PORT_TOW_BCN1, FAB_NBR, FAB_NBR_AGE]; omega
  have hne01 : PORT_TOW_BCN0 p ≠ PORT_TOW_BCN1 p := by simp [PORT_TOW_BCN1, PORT_TOW_BCN0]
  have hne2 : FAB_NBR p ≠ FAB_NBR_AGE p := by simp [FAB_NBR, FAB_NBR_AGE]
  have hlate : SameRegs [FAB_NBR p, FAB_NBR_AGE p] s2 (s3.put (FAB_NBR_AGE_epoch p) epoch) := by
    refine .put (.put (.putFlag (.put (.put (.put (.refl _ s2) ?_) ?_) ?_) ?_) ?_) ?_
    case refine_6 => exact .tail _ (.head _)
    all_goals exact .head _
  refine ⟨?_, ?_, ?_, ?_⟩
  · rw [hlate.get hne0, State.get_put_ne _ _ _ _ hne01, State.get_put_ne _ _ _ _ hne01, State.get_put_apart rfl, State.get_putFlag_apart rfl,
      State.get_put_apart rfl, State.get_put_apart rfl]
    exact State.get_put_self rfl (of_decide_eq_true rfl)
  · rw [hlate.get hne1, State.get_put_apart rfl]
    exact State.get_put_self rfl (show b 4 * 256 + b 5 < 65536 by have := hbyte 4; have := hbyte 5; omega)
  · rw [hlate.get hne1]
    exact State.get_put_self rfl (show b 6 * 256 + b 7 < 65536 by have := hbyte 6; have := hbyte 7; omega)
  · rw [State.get_put_ne _ _ _ _ hne2, State.get_put_apart rfl, State.get_putFlag_apart rfl, State.get_put_apart rfl, State.get_put_apart rfl]
    exact State.get_put_self rfl (of_decide_eq_true rfl)

/-! ### Management fragments -/

theorem tow_towTake (m : List Byte) : (towTake p m s).tow p = { s.tow p with inbox := (s.tow p).inbox.erase m } := State.tow_modTow s p _

section
variable {b : Nat} {x : Byte}

theorem mgmtArrives_first (hb : b < 8) (hen : s.get (PORT_TOW_CTRL_mgmt_en p) = 1) (hsource : sourceOn s b Owner.towpath = true)
    (hnone : (s.tow p).mgmtRx.find b = none) (hidle : boxState s b = BoxState.idle) : mgmtArrives p [0x11, BitVec.ofNat 8 b, 0, x] s =
      mgmtReply p [0x11, BitVec.ofNat 8 b, 0, x] MgmtAck.accepted (s.modTow p fun t => { t with mgmtRx := t.mgmtRx.ins b (1, [x]) }) := by
  have hmod : b % 256 = b := by omega
  have hbox : b % 8 = b := by omega
  have h7 : natBit b 7 = false := by simp [natBit]; omega
  have h6 : natBit b 6 = false := by simp [natBit]; omega
  simp [-State.mk.injEq, mgmtArrives, hmod, hbox, flag_of_get_eq_one hen, hsource, hnone, hidle, h7, h6]

theorem mgmtArrives_outOfOrder (hb : b < 8) (hen : s.get (PORT_TOW_CTRL_mgmt_en p) = 1) (hsource : sourceOn s b Owner.towpath = true)
    (hnone : (s.tow p).mgmtRx.find b = none) (hidle : boxState s b = BoxState.idle) : mgmtArrives p [0x11, BitVec.ofNat 8 b, 5, x] s =
      mgmtReply p [0x11, BitVec.ofNat 8 b, 5, x] MgmtAck.outOfOrder s := by
  have hmod : b % 256 = b := by omega
  have hbox : b % 8 = b := by omega
  have h7 : natBit b 7 = false := by simp [natBit]; omega
  simp [-State.mk.injEq, mgmtArrives, hmod, hbox, flag_of_get_eq_one hen, hsource, hnone, hidle, h7]

theorem mgmtAckArrives_last {d : List Byte} (hb : b < 8) (hx : (s.tow p).mgmtTx = some ⟨b, d, 0, 1⟩) (hlen : d.length ≤ 61) :
    mgmtAckArrives p [0x12, BitVec.ofNat 8 (128 + b), 0, 0] s = mgmtEnded p b (s.modTow p fun t => { t with mgmtTx := none }) := by
  have hmod : (128 + b) % 256 = 128 + b := by omega
  have hbox : (128 + b) % 8 = b := by omega
  have h7 : natBit (128 + b) 7 = true := by simp [natBit]; omega
  simp [-State.mk.injEq, mgmtAckArrives, hx, hmod, hbox, h7, hlen]

theorem tow_mgmtEnded (m : Nat) : (mgmtEnded p m s).tow p = s.tow p := by
  unfold mgmtEnded boxRelease
  split
  · exact State.tow_of_tows rfl p
  · rfl

end

end

/-! ### Wakes -/

/-- A port's wake that PWR_WAKE_EN does not enable only resets the contexts and raises its cause. -/
theorem wakeDeclared_unwaking {s : State} {p : Port} (hup : s.up = true) (hseen : wakeSeen s p = true)
    (hen : natBit (s.reg PWR_WAKE_EN).toNat p = false) : wakeDeclared p s = (towContextsReset p s).cause (Cause.PORT_TOW_wake_rx p) := by
  have hne : PWR_WAKE_EN ≠ PORT_TOW_EVT_CAUSE p := by simp only [PWR_WAKE_EN, PORT_TOW_EVT_CAUSE]; omega
  have hreg : ((towContextsReset p s).cause (Cause.PORT_TOW_wake_rx p)).reg PWR_WAKE_EN = s.reg PWR_WAKE_EN :=
    (State.reg_cause_ne _ hne).trans (State.reg_of_regs (State.modTow_regs _ _ _) _)
  simp [-State.mk.injEq, wakeDeclared, hseen, hup, wakeSource, hreg, hen]

theorem cause_getLsbD_natBit (s : State) (c : CauseBit) (h : c.bit < 32) : natBit ((s.cause c).reg c.cause).toNat c.bit = true := by
  rw [State.reg_cause, natBit_put_bit s h]
  simp

/-- Settles O15: each frame is taken by the check of its kind. -/
theorem towpathFramesAreTakenByTheirChecks : Obligations.TowpathFramesAreTakenByTheirChecks := by
  unfold Obligations.TowpathFramesAreTakenByTheirChecks
  intro s p hup
  refine ⟨fun c soft hstage hfound hctx0 hctx1 hlen herrors => ?_, fun c m soft w hw hctx0 => ⟨fun hok => ?_, fun hok => ?_⟩,
    fun c w m soft hctx0 hm => ⟨fun hcrc => ?_, fun hcrc htag => ?_⟩, fun m hlen hhead hstage => ?_,
    fun b x hstage hen hsource hnone hidle => ⟨?_, ?_⟩, fun b d hstage hx hlen => ?_, fun hseen hmode hphase hwake => ?_⟩
  · refine ⟨_, congrArg Host.Outcome.next ((whenUp_of_up hup _).trans (hail_opens hstage hfound hctx0 hctx1 hlen herrors)), ?_, ?_, ?_, ?_, ?_⟩
    · rw [RegsAndEvents.tow (.put (.put (.refl _))), State.tow_modTow]
    · have hsix : hailErr s p ≤ 6 := Nat.min_le_left _ _
      rw [State.get_put_apart rfl]
      exact State.get_put_self rfl (show hailErrors soft < 8 by omega)
    · exact State.get_put_self rfl (hailMetric_lt soft)
    · exact .put (.put (.modTow (.refl _ s)) (by exact .head _)) (by exact .head _)
    · exact ((((Touches.refl [.tows, .regs] s).modTow).put).put).frame (fun t => { t with tows := s.tows, regs := s.regs }) fun _ => rfl
  · subst hw
    exact congrArg Host.Outcome.next ((whenUp_of_up hup _).trans (headerCheck_good hctx0 hok))
  · subst hw
    refine ⟨_, congrArg Host.Outcome.next ((whenUp_of_up hup _).trans (headerCheck_bad hctx0 hok)), ?_, ?_, ?_, ?_⟩
    · rw [State.addSat, RegsAndEvents.tow (.cause (.setReg (.refl _))), State.tow_modTow]
    · have hne : PORT_TOW_HDR_ERR p ≠ PORT_TOW_EVT_CAUSE p := by simp [PORT_TOW_HDR_ERR, PORT_TOW_EVT_CAUSE]
      rw [State.reg_cause_ne _ hne]
      exact State.reg_addSat_same _ _ _
    · exact .cause (.addSat (.modTow (.refl _ s)) (by exact .head _)) (by exact .tail _ (.head _))
    · exact ((((Touches.refl [.tows, .regs, .events] s).modTow).addSat).cause).frame
        (fun t => { t with tows := s.tows, regs := s.regs, events := s.events }) fun _ => rfl
  · subst hm
    refine ⟨_, congrArg Host.Outcome.next ((whenUp_of_up hup _).trans (frameEnd_badCrc hctx0 hcrc)), ?_⟩
    rw [State.addSat, RegsAndEvents.tow (.cause (.setReg (.refl _))), towContextsReset, State.tow_modTow, ← State.addSat]
    refine ⟨rfl, rfl, rfl, ?_, ?_⟩
    · have hne : PORT_TOW_CRC_ERR p ≠ PORT_TOW_EVT_CAUSE p := by simp [PORT_TOW_CRC_ERR, PORT_TOW_EVT_CAUSE]
      rw [State.reg_cause_ne _ hne]
      exact State.reg_addSat_same _ _ _
    · exact .cause (.addSat (.modTow (.refl _ s)) (by exact .head _)) (by exact .tail _ (.head _))
  · subst hm
    refine ⟨_, congrArg Host.Outcome.next ((whenUp_of_up hup _).trans (frameEnd_good hctx0 hcrc htag)), ?_⟩
    generalize hu : (frameCounted p (w.bits 20 9) s).modTow p (fun x => { x with lastFrame := some s.ticks }) = u
    have htow : u.tow p = { s.tow p with ctx0 := .search, ctx1 := .search, echoes := [], lastFrame := some s.ticks } := by
      rw [← hu, State.tow_modTow, tow_frameCounted]
    have hcount : (u.reg (PORT_TOW_FRAMES_OK p)).toNat = satAdd 0xFFFFFFFF (s.reg (PORT_TOW_FRAMES_OK p)).toNat 1 := by
      have hne : PORT_TOW_FRAMES_OK p ≠ PORT_TOW_EVT_CAUSE p := by simp [PORT_TOW_FRAMES_OK, PORT_TOW_EVT_CAUSE]
      have hne' : PORT_TOW_FRAMES_OK p ≠ PORT_TOW_STATUS p := by simp [PORT_TOW_FRAMES_OK, PORT_TOW_STATUS]
      rw [← hu, State.reg_of_regs (State.modTow_regs _ _ _), frameCounted, State.reg_cause_ne _ hne, State.reg_put_ne _ _ hne']
      exact State.reg_addSat_same _ _ _
    have hpeer : u.get (PORT_TOW_STATUS_peer_tag p) = w.bits 20 9 := by
      rw [← hu, State.get_modTow, frameCounted, State.get_cause_ne _ (towStatus_ne_cause p)]
      exact State.get_put_self rfl (Nat.mod_lt _ (of_decide_eq_true rfl))
    obtain ⟨l, hl⟩ := tow_codeLockOn (s := u) (p := p) c
    have hlock := codeLockOn_sameRegs (s := u) (p := p) c
    have hget := get_peerTag_codeLockOn (s := u) (p := p) c
    rw [tow_towDeliver, hl, htow]
    generalize codeLockOn p c u = x at *
    have hsame := towDeliver_sameRegs (s := x) (p := p) (decodedPayload (w.bits 31 25) soft)
    refine ⟨?_, ?_, rfl, rfl⟩
    · rw [hsame _ (by simp [PORT_TOW_FRAMES_OK, FAB_TOW_UNKNOWN]; omega),
        hlock _ (by simp [PORT_TOW_FRAMES_OK, PORT_TOW_STATUS, PORT_TOW_EVT_CAUSE]), hcount]
    · rw [hsame.get (by simp [PORT_TOW_STATUS_peer_tag, PORT_TOW_STATUS, FAB_TOW_UNKNOWN]; omega), hget, hpeer]
  · obtain ⟨hregs, htick, hmissed⟩ := beaconArrives_shows (s := towTake p m s) (p := p) hlen hhead
    obtain ⟨hvalid, hseq, hepoch, hnbr⟩ := beaconShown_fields (s := towTake p m s) p.isLt m
    refine ⟨_, congrArg Host.Outcome.next (frameArrives_taken hup hstage m _), ?_, ?_, ?_, ?_, htick, hmissed⟩
    · rw [hregs.get (by simp [PORT_TOW_BCN0_valid, PORT_TOW_BCN0, FAB_EVT_CAUSE]; omega), hvalid]
    · rw [hregs.get (by simp [PORT_TOW_BCN1_seq, PORT_TOW_BCN1, FAB_EVT_CAUSE]; omega), hseq]
    · rw [hregs.get (by simp [PORT_TOW_BCN1_epoch, PORT_TOW_BCN1, FAB_EVT_CAUSE]; omega), hepoch]
    · rw [hregs.get (by simp [FAB_NBR_valid, FAB_NBR, FAB_EVT_CAUSE]; omega), hnbr]
  · have hfirst := mgmtArrives_first (s := towTake p [0x11, BitVec.ofNat 8 b, 0, x] s) (p := p) (x := x) b.isLt hen hsource
      (by rw [tow_towTake]; exact hnone) hidle
    refine ⟨_, congrArg Host.Outcome.next ((frameArrives_taken hup hstage _ _).trans hfirst), ?_, ?_, rfl, rfl⟩
    · rw [mgmtReply, towEnqueue, State.tow_modTow, State.tow_modTow, tow_towTake]
      rfl
    · rw [mgmtReply, towEnqueue, State.tow_modTow, State.tow_modTow]
      exact KMap.find_ins_same ..
  · have hlate := mgmtArrives_outOfOrder (s := towTake p [0x11, BitVec.ofNat 8 b, 5, x] s) (p := p) (x := x) b.isLt hen hsource
      (by rw [tow_towTake]; exact hnone) hidle
    refine ⟨_, congrArg Host.Outcome.next ((frameArrives_taken hup hstage _ _).trans hlate), ?_, ?_, rfl, rfl⟩
    · rw [mgmtReply, towEnqueue, State.tow_modTow, tow_towTake]
      rfl
    · rw [mgmtReply, towEnqueue, State.tow_modTow, tow_towTake]
  · have hlast := mgmtAckArrives_last (s := towTake p [0x12, BitVec.ofNat 8 (128 + b), 0, 0] s) (p := p) b.isLt
      (by rw [tow_towTake]; exact hx) hlen
    refine ⟨_, congrArg Host.Outcome.next ((frameArrives_taken hup hstage _ _).trans hlast), ?_⟩
    rw [tow_mgmtEnded, State.tow_modTow, tow_towTake]
    exact ⟨rfl, rfl⟩
  · refine ⟨_, congrArg Host.Outcome.next (wakeDeclared_unwaking hup hseen (p := p) hwake), ?_⟩
    rw [RegsAndEvents.tow (.cause (.refl _)), towContextsReset, State.tow_modTow]
    refine ⟨rfl, rfl, ?_, .cause (.modTow (.refl _ s)) (by exact .head _), ?_⟩
    · exact cause_getLsbD_natBit _ (Cause.PORT_TOW_wake_rx p) (of_decide_eq_true rfl)
    · exact (((Touches.refl [.tows, .regs, .events] s).modTow).cause).frame
        (fun t => { t with tows := s.tows, regs := s.regs, events := s.events }) fun _ => rfl

end Sys2Proof.Machine
end

section
/-!
PROOF. Flits, replays, credits, DELAYs and the sending of transactions.
-/
set_option autoImplicit false
set_option Elab.async false

namespace Sys2Proof.Machine
open Reg Bit

section
variable {s : State} {p : Nat}

/-! ### Flits received -/

theorem get_flitTaken (blocks : Nat) (f : Field) : (flitTaken p blocks s).get f = s.get f := State.get_modPort _ _ _ _

theorem link_flitTaken (blocks q : Nat) : (flitTaken p blocks s).link q = s.link q := State.link_of_links (State.modPort_links _ _ _) q

theorem flitReceived_bad {b : List Byte} (so : Bool) (hstage : s.stage p = 7)
    (hbad : flitMarked (s.port p) (if isV2 s p then 16 else 8) = true ∨ flitCrcOk (isV2 s p) b = false) : flitReceived p b so s =
      askReplay p (((flitTaken p (if isV2 s p then 16 else 8) s).addSat (UZ_BAD_FLITS p) 1).cause (Cause.UZ_bad_flit p)) := by
  have hstage' : (flitTaken p (if isV2 s p then 16 else 8) s).stage p = 7 := (get_flitTaken _ _).trans hstage
  have htaken : (s.stage p == 7 || s.stage p == 6 && (s.port p).rxSwitched) = true := by simp [hstage]
  unfold flitReceived
  extract_lets v2 blocks fecBad t x h f data bad s1 s2 s3 late
  have hmarks : fecBad = true ∨ flitCrcOk v2 b = false := hbad
  have ht : t = flitTaken p (if isV2 s p then 16 else 8) s := by simp [t, hstage, blocks, v2]
  rw [ht, hstage']
  have hbad' : bad = true := by
    rcases hmarks with hmarked | hcrc
    · simp [bad, hmarked]
    · simp [bad, hcrc]
  rw [if_neg (by decide), if_neg (by decide), if_pos hbad']

theorem flitReceived_idle {b : List Byte} (so : Bool) {h : FlitHead} (hstage : s.stage p = 7)
    (hmarked : flitMarked (s.port p) (if isV2 s p then 16 else 8) = false) (hcrc : flitCrcOk (isV2 s p) b = true)
    (hh : unpackHead (ofBytesBE (b.take 16)) = h) (htype : h.ftype = 2) (hstart : h.start = 0) (hrreq : h.rreq = false)
    (hack : h.ackValid = false) (hseq : h.seq = (s.link p).expected) : flitReceived p b so s =
      (flitTaken p (if isV2 s p then 16 else 8) s).setLink p { s.link p with granted := h.credits } := by
  have hstage' : (flitTaken p (if isV2 s p then 16 else 8) s).stage p = 7 := (get_flitTaken _ _).trans hstage
  unfold flitReceived
  extract_lets v2 blocks fecBad t x h' f data bad s1 s2 s3 late
  have ht : t = flitTaken p (if isV2 s p then 16 else 8) s := by simp [t, hstage, blocks, v2]
  have hlink : t.link p = s.link p := by rw [ht, link_flitTaken]
  have htype' : h'.ftype = 2 := by rw [show h' = h from hh, htype]
  have hdata : data = false := by simp [data, htype']
  have hbad : ¬bad = true := by
    simp [bad, hdata, htype', show h'.start = 0 by rw [show h' = h from hh, hstart], show fecBad = false from hmarked, show flitCrcOk v2 b = true from hcrc]
  have hs1 : s1 = t := by simp [s1, show h'.ackValid = false by rw [show h' = h from hh, hack]]
  have hs3 : s3 = s2 := by simp [s3, show h'.rreq = false by rw [show h' = h from hh, hrreq]]
  have hseq' : h'.seq = x.expected := by rw [show h' = h from hh, hseq, show x = t.link p from rfl, hlink]
  have hs2 : s2 = (flitTaken p (if isV2 s p then 16 else 8) s).setLink p { s.link p with granted := h.credits } := by
    rw [← ht, ← hlink, show s2 = s1.modLink p _ from rfl, hs1, State.modLink, show h' = h from hh]
  rw [ht, hstage', if_neg (by decide), if_neg (by decide), if_neg hbad, if_pos hseq', if_neg (by simp [hdata]), hs3, hs2]

/-! ### Replays -/

theorem ackTimeout_replays (hstage : s.stage p = 7) (hidle : (s.link p).replaying = []) (hreplay : (s.link p).replay ≠ [])
    (hrun : (s.link p).replayRun < 3) (htick : (s.link p).replayTick ≠ some (s.ticks, false)) :
    ackTimeout p s = beginReplay p (noteReplay p true s) := by
  have hlink : (noteReplay p true s).link p = { s.link p with replayTick := some (s.ticks, true) } := State.link_modLink s p _
  have hnew : (s.stage p = 7 && (s.link p).replaying.isEmpty && !replayedNow s p true) = true := by
    simp [hstage, hidle, replayedNow, htick]
  rw [ackTimeout, if_pos hnew, startReplay, hlink]
  simp only
  rw [if_neg (by simpa using hreplay), if_neg (by omega)]

theorem link_beginReplay : (beginReplay p s).link p =
    { s.link p with replaying := (s.link p).replay.map fun r => r.1, replayRun := (s.link p).replayRun + 1 } := by
  rw [beginReplay, State.addSat, RegsAndEvents.link (.cause (.setReg (.refl _))), State.link_modLink]

/-! ### Sending a flit -/

theorem flitSend_idle (hstage : s.stage p = 7) (hreplaying : (s.link p).replaying = []) (hslots : (s.link p).txSlots = []) : flitSend p s =
    emitFlit p (buildFlit (isV2 s p) (currentHead (s.link p) 2 (s.link p).txSeq 0) [] (wseqReached (s.link p))) s := by
  unfold flitSend
  rw [hstage, if_neg (by simp), if_neg (by decide)]
  simp only [hreplaying, hslots, List.isEmpty_nil, Bool.true_or, if_true]

/-- The state with other links. -/
def State.withLinks (m : KMap LinkSt) (s : State) : State := { s with links := m }

theorem innerSend_withLinks (m : KMap LinkSt) (l : Nat) (bits : List Bool) (s : State) :
    innerSend l bits (s.withLinks m) = (innerSend l bits s).withLinks m := rfl

theorem innerSends_withLinks (m : KMap LinkSt) (g : Nat → List Bool) (l : List Nat) (s : State) :
    forEach l (fun j s => innerSend (8 * p + j) (g j) s) (s.withLinks m) =
      (forEach l (fun j s => innerSend (8 * p + j) (g j) s) s).withLinks m := by
  induction l generalizing s with
  | nil => rfl
  | cons j l ih => exact ih (innerSend (8 * p + j) (g j) s)

/-- The FEC sublayer looks at no link and changes none. -/
theorem fecSend_withLinks (m : KMap LinkSt) (flit : List Byte) (s : State) : fecSend p flit (s.withLinks m) = (fecSend p flit s).withLinks m := by
  have hport : (s.withLinks m).port p = s.port p := rfl
  have hreach : (s.withLinks m).get (PORT_STATUS_reach p) = s.get (PORT_STATUS_reach p) := State.get_of_regs rfl _
  have hmod (f : PortSt → PortSt) : (s.withLinks m).modPort p f = (s.modPort p f).withLinks m := rfl
  simp only [fecSend, hport, hreach, hmod, innerSends_withLinks, apply_ite (State.withLinks m)]

theorem links_fecSend (flit : List Byte) : (fecSend p flit s).links = s.links := by
  have h := fecSend_withLinks (p := p) s.links flit s
  rw [show s.withLinks s.links = s from rfl] at h
  rw [h]
  rfl

theorem link_emitFlit (bytes : List Byte) : (emitFlit p bytes s).link p =
    { s.link p with lastFlit := bytes, rreqOut := (s.link p).rreqOut || (s.link p).rreqNext, rreqNext := false } := by
  rw [emitFlit, State.link_of_links (links_fecSend _), State.link_modLink]

theorem emitFlit_withLinks (bytes : List Byte) : (emitFlit p bytes s).withLinks s.links = (fecSend p bytes s).withLinks s.links := by
  rw [emitFlit, ← fecSend_withLinks, ← fecSend_withLinks]
  rfl

/-! ### DELAYs -/

theorem link_bumped {e : Entry} {x : LinkSt} (hvc0 : x.vc0 = []) (htable : x.table = [e]) :
    { x with vc0 := bumpDelay e.uid x.vc0, table := bumpDelay e.uid x.table } = { x with table := [{ e with delays := e.delays + 1 }] } := by
  have hzero : bumpDelay e.uid x.vc0 = x.vc0 := by rw [hvc0]; rfl
  have hone : bumpDelay e.uid x.table = [{ e with delays := e.delays + 1 }] := by rw [htable]; simp [bumpDelay]
  rw [hzero, hone]

theorem modLink_bumped {e : Entry} (hvc0 : (s.link p).vc0 = []) (htable : (s.link p).table = [e]) :
    (s.modLink p fun x => { x with vc0 := bumpDelay e.uid x.vc0, table := bumpDelay e.uid x.table }) =
      s.setLink p { s.link p with table := [{ e with delays := e.delays + 1 }] } := by
  rw [State.modLink, link_bumped hvc0 htable]

theorem delayTimer_counts {e : Entry} (hstage : s.stage p = 7) (hvc0 : (s.link p).vc0 = []) (htable : (s.link p).table = [e]) (hrecord : e.record = none)
    (hbegun : e.begun = true) (hdelays : e.delays < 1024) (hresponses : (s.link p).responses = []) (hv2 : isV2 s p = false) :
    delayTimer p e.txn.hdr.src e.txn.hdr.tag s = s.setLink p { s.link p with table := [{ e with delays := e.delays + 1 }] } := by
  have hfind : ((s.link p).vc0 ++ (s.link p).table).find? (fun x => x.key == (e.txn.hdr.src, e.txn.hdr.tag) && x.record.isNone) = some e := by
    simp [hvc0, htable, Entry.key, hrecord]
  rw [← modLink_bumped hvc0 htable]
  simp only [delayTimer, hfind, hresponses, hstage, hbegun, hv2, List.any_nil, Bool.or_false,
    Bool.not_true, Bool.false_and, Bool.false_eq_true, ne_eq, not_true, decide_false, if_false, if_neg (Nat.not_le.2 hdelays)]

theorem delayTimer_queues {e : Entry} (hstage : s.stage p = 7) (hvc0 : (s.link p).vc0 = []) (htable : (s.link p).table = [e]) (hrecord : e.record = none)
    (hbegun : e.begun = true) (hdelays : e.delays < 1024) (hresponses : (s.link p).responses = []) (hv2 : isV2 s p = true) (hdead : e.dead = false)
    (hcredits : 0 < creditsHeld (s.link p) 1) : delayTimer p e.txn.hdr.src e.txn.hdr.tag s =
      (s.setLink p { s.link p with table := [{ e with delays := e.delays + 1 }] }).modLink p fun x => { x with
        responses := x.responses ++ [⟨delayTxn s p e, some (p, e.uid), none, true⟩] } := by
  have hfind : ((s.link p).vc0 ++ (s.link p).table).find? (fun x => x.key == (e.txn.hdr.src, e.txn.hdr.tag) && x.record.isNone) = some e := by
    simp [hvc0, htable, Entry.key, hrecord]
  generalize hu : s.setLink p { s.link p with table := [{ e with delays := e.delays + 1 }] } = u
  have hstage' : u.stage p = 7 := by rw [← hu]; exact (State.get_setLink _ _ _ _).trans hstage
  have hv2' : isV2 u p = true := by rw [← hu]; exact (congrArg (· == 2) (State.get_setLink _ _ _ _)).trans hv2
  have hqueue (o : Outgoing) : queueResponse p o u = u.modLink p fun x => { x with responses := x.responses ++ [o] } := by
    simp [queueResponse, linkUp, hstage', joinResponses, hv2']
  simp only [delayTimer, hfind, hresponses, hstage, hbegun, hv2, List.any_nil, Bool.or_false,
    Bool.not_true, Bool.false_and, Bool.false_eq_true, ne_eq, not_true, decide_false, if_false, if_true, hdead, Bool.false_or, Nat.not_le.2 hdelays,
    Nat.pos_iff_ne_zero.1 hcredits]
  exact (congrArg (queueResponse p _) ((modLink_bumped hvc0 htable).trans hu)).trans (hqueue _)

/-! ### Sending a transaction -/

theorem transactionSend_completion {o : Outgoing} (hstage : s.stage p = 7) (hresponses : (s.link p).responses = [o]) (hnotices : (s.link p).notices = [])
    (hown : o.own = true) (hfrees : o.frees = none) (hopcode : o.txn.hdr.opcode = 0x20) (hmay : maySend s p o.txn = true) :
    transactionSend p s = placeTxn p o.txn (s.modLink p fun x => { x with responses := x.responses.erase o }) := by
  have hfind : (s.link p).responses.find? (fun o => maySend s p o.txn) = some o := by simp [hresponses, hmay]
  simp only [transactionSend, hstage, hnotices, List.head?_nil, Option.filter_none, hfind, sendResponse, freeOutgoing, hfrees, hown, hopcode]
  rfl

/-- An idle mailbox without a request of a port is settled. -/
theorem boxSettle_idle {m : Nat} (hentry : (s.box m).entry = none) (hidle : boxState s m = BoxState.idle) : boxSettle m s = s := by
  have hsend : boxSend m s = s := if_neg (by simp [hidle, BoxState.idle, BoxState.done])
  simp only [boxSettle, hentry, hsend]

theorem boxesSettle_idle (h : ∀ b : Fin 8, (s.box b).entry = none ∧ boxState s b = BoxState.idle) : boxesSettle s = s := by
  have hone : ∀ l : List Nat, (∀ m ∈ l, m < 8) → forEach l boxSettle s = s := fun l => by
    induction l with
    | nil => exact fun _ => rfl
    | cons m l ih =>
      intro hl
      obtain ⟨hm, hl⟩ := List.forall_mem_cons.1 hl
      obtain ⟨hentry, hidle⟩ := h ⟨m, hm⟩
      exact (congrArg (forEach l boxSettle) (boxSettle_idle hentry hidle)).trans (ih hl)
  exact hone _ fun m => List.mem_range.1

/-! ### Admission behind a fence -/

theorem admitNext_local {e : Entry} (hvc0 : (s.link p).vc0 = [e]) (hopen : s.modes.intakeClosed = false) (htable : (s.link p).table.length < 512)
    (hnak : headerNak e = none) (hdst : e.txn.hdr.dst = liveNode s) (hopcode : e.txn.hdr.opcode = Op.cfgRd) : admitNext p s = takeEntry p e s := by
  have hnext : nextWaiting s p = some e := by simp [nextWaiting, hvc0, admissibleNow, hopen]
  have hmay : mayAdmit s p e = true := by simp [mayAdmit, htable]
  have hnode : liveNode (takeEntry p e s) = liveNode s := State.get_modLink _ _ _ _
  have hmemory : memoryOp Op.cfgRd = false := by decide
  simp only [admitNext, hnext, hmay, if_true, judgeRequest, hnode, hdst, hnak, hopcode, hmemory, ne_eq, not_true, if_false, Bool.false_eq_true]

theorem runNext_fenced {x e : Entry} (htable : (s.link p).table = [x, e]) (hbegun : x.begun = true) (hdone : x.done = false) (huid : x.uid < e.uid)
    (hfence : e.txn.hdr.fence = true) : runNext p s = s := by
  have hx : runnable s p x = false := by simp [runnable, hbegun]
  have he : runnable s p e = false := by
    simp [runnable, hfence, htable, hdone, huid]
  simp only [runNext, htable, List.find?_cons, hx, he, List.find?_nil]

end

theorem clearing_uzClr : ∀ p : Port, clearing (UZ_CLR p) = true := by decide +kernel

/-- Settles O16: each clause is the branch its hypotheses choose. -/
theorem linkFlitsActAsStated : Obligations.LinkFlitsActAsStated := by
  unfold Obligations.LinkFlitsActAsStated
  intro s p hup hstage blocks
  refine ⟨fun b so hbad => ?_, fun b so h hmarked hcrc hh htype hstart hrreq hack hseq => ?_, fun hreplaying hslots => ?_,
    fun hreplaying hreplay hrun htick => ?_, fun hrreq => ?_, fun e hvc0 htable hrecord hbegun hdelays hresponses => ⟨fun hv => ?_, fun hv hdead hcredits => ?_⟩,
    fun o hresponses hnotices hown hfrees hopcode hmay hboxes => ?_,
    fun x e htable hvc0 hbegun hdone huid hfence hebegun hrecord hopen hshared hepoch hnak hdst hopcode => ?_, fun src hw => ?_⟩
  · refine ⟨_, congrArg Host.Outcome.next ((whenUp_of_up hup _).trans (flitReceived_bad so hstage hbad)), ?_, ?_, ?_, ?_, ?_⟩
    · rw [askReplay, State.link_modLink, State.addSat, RegsAndEvents.link (.cause (.setReg (.refl _))), link_flitTaken]
    · rw [askReplay, State.modLink_ports]
      exact RegsAndEvents.keep (.cause (.setReg (.refl _))) (F := State.ports) (fun _ _ => rfl) rfl
    · have hne : UZ_BAD_FLITS p ≠ UZ_EVT_CAUSE p := by simp [UZ_BAD_FLITS, UZ_EVT_CAUSE]
      rw [askReplay, State.reg_of_regs (State.modLink_regs _ _ _), State.reg_cause_ne _ hne]
      exact State.reg_addSat_same _ _ _
    · exact .modLink (.cause (.addSat (.modPort (.refl _ s)) (by exact .head _)) (by exact .tail _ (.head _)))
    · exact (((((Touches.refl [.links, .ports, .regs, .events] s).modPort).addSat).cause).modLink).frame
        (fun t => { t with links := s.links, ports := s.ports, regs := s.regs, events := s.events }) fun _ => rfl
  · exact congrArg Host.Outcome.next ((whenUp_of_up hup _).trans (flitReceived_idle so hstage hmarked hcrc hh htype hstart hrreq hack hseq))
  · refine ⟨_, congrArg Host.Outcome.next ((whenUp_of_up hup _).trans (flitSend_idle hstage hreplaying hslots)), link_emitFlit _, ?_⟩
    rw [link_emitFlit]
    exact emitFlit_withLinks _
  · refine ⟨_, congrArg Host.Outcome.next ((whenUp_of_up hup _).trans (ackTimeout_replays hstage hreplaying hreplay hrun htick)), ?_, ?_, ?_⟩
    · rw [link_beginReplay, noteReplay, State.link_modLink]
    · have hne : UZ_REPLAYS p ≠ UZ_EVT_CAUSE p := by simp [UZ_REPLAYS, UZ_EVT_CAUSE]
      rw [beginReplay, State.reg_cause_ne _ hne]
      exact State.reg_addSat_same _ _ _
    · exact .cause (.addSat (.modLink (.modLink (.refl _ s))) (by exact .head _)) (by exact .tail _ (.head _))
  · exact congrArg Host.Outcome.next ((whenUp_of_up hup _).trans (if_pos (by simp [hstage, hrreq])))
  · exact congrArg Host.Outcome.next ((whenUp_of_up hup _).trans (delayTimer_counts hstage hvc0 htable hrecord hbegun hdelays hresponses hv))
  · refine ⟨_, congrArg Host.Outcome.next ((whenUp_of_up hup _).trans
      (delayTimer_queues hstage hvc0 htable hrecord hbegun hdelays hresponses hv hdead hcredits)), ?_, ?_⟩
    · rw [State.link_modLink, State.link_setLink, if_pos rfl]
      simp [hresponses, gist, delayTxn, responseHeader]
    · rw [State.link_modLink, State.link_setLink, if_pos rfl]
  · have hsend := transactionSend_completion hstage hresponses hnotices hown hfrees hopcode hmay
    generalize hu : placeTxn p o.txn (s.modLink p fun x => { x with responses := x.responses.erase o }) = u at hsend
    have hsettle : boxesSettle u = u := boxesSettle_idle fun b => by
      rw [← hu]
      exact hboxes b
    refine ⟨_, congrArg Host.Outcome.next ((whenUp_of_up hup _).trans ((congrArg boxesSettle hsend).trans hsettle)), ?_⟩
    have hvc : vcOf o.txn.hdr.opcode = 1 := by rw [hopcode]; rfl
    rw [← hu, placeTxn, State.link_modLink, State.link_modLink, hresponses, List.erase_cons_head, hvc]
    exact ⟨rfl, rfl, rfl, rfl⟩
  · have hadmit := admitNext_local hvc0 hopen (by simp [htable]) hnak hdst hopcode
    have htake : takeEntry p e s = s.setLink p { s.link p with
        vc0 := [], table := [x, e], freed := vcAdd (s.link p).freed 0 (slotCount e.txn.hdr.len) } := by
      simp [-State.mk.injEq, takeEntry, State.modLink, hvc0, htable, hepoch]
    have hlink : ((takeEntry p e s).link p).table = [x, e] := by rw [htake, State.link_setLink, if_pos rfl]
    refine congrArg Host.Outcome.next ((whenUp_of_up hup _).trans ?_)
    rw [hadmit, runNext_fenced hlink hbegun hdone huid hfence, htake]
  · exact ⟨_, congrArg Host.Outcome.next (write_clearing (clearing_uzClr p) hw src), rfl, SameRegs.clears (.setReg (.refl _ s) (by exact .head _))⟩

end Sys2Proof.Machine
end

section
/-!
PROOF. A MOVE between queues that share a parcel: the counterexample to O20.
-/
set_option autoImplicit false
set_option Elab.async false

namespace Sys2Proof.Machine
open Reg Bit

/-- A released device in SERVICE with port 3 in S7, and region 0 a live bypass pool of profile 0. -/
def poolServed : State :=
  let s : State := { State.reset with
    start := { State.reset.start with phase := .ended }
    regs := [(PWR_MODE, 2)] }
  let t := (s.put (PORT_STATUS_stage 3) 7).put (PORT_STATUS_version 3) 2
  let u := (((t.put (SVC_RGN_PLACE_base 0) 2).put (SVC_RGN_PLACE_size 0) 4).put (SVC_RGN_ATTR_enable 0) 1).put (SVC_RGN_ATTR_type 0) 1
  ((u.put (SVC_RGN_STATUS_live 0) 1).put (SVC_PROF_CFG_enable 0) 1).put (SVC_PROF_CFG_pool 0) 0

/-- Queue 7 holds parcel 4 alone, and queue 9 ends in the same parcel. -/
def sharedTail : State :=
  ((poolServed.setPool 0 { PoolSt.reset with links := [(4, packLink ⟨noParcel, 100, true, true, false, false, 0⟩)] }).setQueue 7
    { Queue.reset with head := 4, tail := 4, count := 1, bytes := 100 }).setQueue 9 { Queue.reset with head := 4, tail := 4, count := 1, bytes := 100 }

/-- A MOVE of one parcel from queue 7 to queue 9. -/
def moveHeader : Header := ⟨Op.move, 0, false, 5, 6, 0, false, false, false, 7, 16, 0, 0⟩
def moveData : List Byte := [0, 0, 0, 9, 0, 0, 0, 0, 0, 0, 0, 0, 0, 0, 0, 0]

theorem sharedTail_hypotheses :
    (sharedTail.pool 0).rebuilding = false ∧ takenAtOnce sharedTail (3 : Port) ⟨withOpcode moveHeader Op.move, moveData⟩ 0 = true ∧
      queuePool sharedTail (moveDest ⟨moveHeader, moveData⟩) = some 0 ∧ moveDest ⟨moveHeader, moveData⟩ ≠ moveHeader.addr ∧
      (moveData.getD 4 0).toNat = 0 ∧ (sharedTail.queue moveHeader.addr).count ≠ 0 ∧
      (sharedTail.queue (moveDest ⟨moveHeader, moveData⟩)).opened = false ∧
      (sharedTail.queue (moveDest ⟨moveHeader, moveData⟩)).count < profLimit sharedTail (sharedTail.queue (moveDest ⟨moveHeader, moveData⟩)).profile := by
  and_intros <;> decide +kernel

/-- The parcel taken is linked behind the other queue's tail, which is itself. -/
theorem move_sharedTail_links :
    (linkOf (whenUp (requestArrives (3 : Port) ⟨withOpcode moveHeader Op.move, moveData⟩ []) sharedTail) 0
      (sharedTail.queue moveHeader.addr).head).next ≠ noParcel := by
  decide +kernel

/-- Refutes O20, in its clause on MOVE: where the destination queue ends in the very parcel that is moved, the parcel is linked behind itself,
so that its next parcel is not the end of the chain. -/
theorem not_queueOperationsActOnTheirQueue : ¬ Obligations.QueueOperationsActOnTheirQueue := by
  unfold Obligations.QueueOperationsActOnTheirQueue
  intro h
  obtain ⟨hready, htaken, hpool, hother, hmode, hcount, hopened, hlimit⟩ := sharedTail_hypotheses
  obtain ⟨-, -, -, -, move⟩ := h sharedTail 3 moveHeader moveData 0 hready
  obtain ⟨t, hstep, -, -, -, -, hnext, -⟩ := move htaken hpool hother hmode hcount hopened hlimit
  rw [← Host.Outcome.next.inj hstep] at hnext
  exact move_sharedTail_links hnext

end Sys2Proof.Machine
end

section
/-!
PROOF. Requests for modes: a request with tag 0, one that starts its transition, one for the live mode and one that waits.
-/
set_option autoImplicit false
set_option Elab.async false

namespace Sys2Proof.Machine
open Reg Bit

section
variable {s u : State} {v : Word} {m : Nat} {r : ModeReq}

/-! ### The write of PWR_MODE_REQ -/

/-- A write of PWR_MODE_REQ with a target and go. -/
def modeReqValue (m : Nat) (v : Word) : Word := (v.withBits 19 16 m).withBits 31 31 1

theorem bits_modeReqValue_go : (modeReqValue m v).bits 31 31 = 1 := Word.bits_withBits_same _ 31 31 1 (by decide) (by decide)

theorem bits_modeReqValue_target (hm : m < 16) : (modeReqValue m v).bits 19 16 = m := by
  rw [modeReqValue, Word.bits_withBits_below _ 31 31 1 19 16 (by decide) (by decide) (by decide),
    Word.bits_withBits_same _ 19 16 m (by decide) (by decide)]
  exact Nat.mod_eq_of_lt hm

theorem bits_modeReqValue_above (hi lo : Nat) (hlo : 19 < lo) (hhi : hi < 31) : (modeReqValue m v).bits hi lo = v.bits hi lo := by
  rw [modeReqValue, Word.bits_withBits_below _ 31 31 1 hi lo (by decide) (by decide) hhi,
    Word.bits_withBits_above _ 19 16 m hi lo (by decide) (by decide) hlo]

theorem bits_modeReqValue_tag : (modeReqValue m v).bits 15 8 = v.bits 15 8 := by
  rw [modeReqValue, Word.bits_withBits_below _ 31 31 1 15 8 (by decide) (by decide) (by decide),
    Word.bits_withBits_below _ 19 16 m 15 8 (by decide) (by decide) (by decide)]

theorem modeReqOf_value (hm : m < 16) : modeReqOf ((modeReqValue m v).bits 19 16) (modeReqValue m v) = modeReqOf m v := by
  rw [bits_modeReqValue_target hm, modeReqOf, modeReqOf, bits_modeReqValue_tag, bits_modeReqValue_above 20 20 (by decide) (by decide),
    bits_modeReqValue_above 21 21 (by decide) (by decide)]

/-- The row of PWR_MODE_REQ. -/
def rowModeReq : RegRow := ⟨0xE0004, 0x4, 1, 0x20000, 0x0, .plain, 0x3FFF00, 0x80000000, 0x0, 0x0, false, 14⟩

theorem rowAt_modeReq : rowAt PWR_MODE_REQ = some (rowModeReq, 0) := by decide +kernel

/-- The state in which a write of PWR_MODE_REQ makes its request: the fields shown, the comparison suspended. -/
structure ModeAsked (s u : State) : Prop where
  regs : SameRegs [PWR_MODE_REQ] s u
  touches : Touches [.regs, .commit] s u
  armed : u.commit.armed = s.commit.armed
  hw : u.commit.hw = s.commit.hw

theorem writeRow_modeReq (src : Nat) : writeRow rowModeReq 0 src PWR_MODE_REQ v s = modeReqWrite rowModeReq v (suspendCheck rowModeReq s) := by
  have hkind : rowModeReq.kind = .plain := rfl
  rw [writeRow, hkind]
  simp only [show rowModeReq.staged = 0 from rfl, ne_eq, not_true, if_false]
  rw [if_pos (.inl (by decide)), liveWrite, if_neg (by decide), if_neg (by decide), writeHigh]
  simp only [show rowModeReq.base = PWR_MODE_REQ from rfl]
  iterate 9 rw [if_neg (by decide)]
  exact if_pos trivial

/-- A write of PWR_MODE_REQ with go is a request of the host. -/
theorem write_modeReq (hw : writable s PWR_MODE_REQ = true) (hm : m < 16) (src : Nat) : ∃ u, ModeAsked s u ∧
    write src PWR_MODE_REQ (modeReqValue m v) s = (modeRequest true (modeReqOf m v) u).2 := by
  have hsuspend : suspendCheck rowModeReq s = { s with commit := { s.commit with suspendLeft := 1024 } } := if_pos (by decide)
  have honly (u : State) (w : Word) : OnlyRegs u ((u.setReg PWR_MODE_REQ w).put PWR_MODE_REQ_go 0) := (OnlyRegs.setReg (.refl _)).put
  refine ⟨(plainWrite rowModeReq PWR_MODE_REQ (modeReqValue m v) (suspendCheck rowModeReq s)).put PWR_MODE_REQ_go 0, ⟨?_, ?_, ?_, ?_⟩, ?_⟩
  · rw [hsuspend]
    exact SameRegs.put (SameRegs.setReg (.of_regs rfl) (by exact .head _)) (by exact .head _)
  · rw [hsuspend]
    exact (Touches.setReg ((Touches.refl _ _).commit)).put
  · rw [hsuspend]
    exact (honly _ _).keep (F := fun t => t.commit.armed) (fun _ => rfl) rfl
  · rw [hsuspend]
    exact (honly _ _).keep (F := fun t => t.commit.hw) (fun _ => rfl) rfl
  · calc write src PWR_MODE_REQ (modeReqValue m v) s = modeReqWrite rowModeReq (modeReqValue m v) (suspendCheck rowModeReq s) :=
          (write_of_writable hw rowAt_modeReq src (modeReqValue m v)).trans (writeRow_modeReq src)
      _ = _ := by rw [modeReqWrite, if_pos bits_modeReqValue_go, modeReqOf_value hm]

namespace ModeAsked

theorem modes (h : ModeAsked s u) : u.modes = s.modes := h.touches.keeps_modes

theorem ticks (h : ModeAsked s u) : u.ticks = s.ticks := h.touches.keeps_ticks

theorem mode (h : ModeAsked s u) : u.mode = s.mode := h.regs.get (f := PWR_MODE_mode) (by decide)

theorem tableMode (h : ModeAsked s u) : tableMode u = tableMode s := by
  rw [Machine.tableMode, Machine.tableMode, h.mode]

end ModeAsked

/-! ### Requests without a transition in flight -/

theorem modeRequest_badTag (h : r.tag = 0) : (modeRequest true r u).2 = modeEnd r ModeStatus.refused ModeCause.badTag u := by
  simp [modeRequest, h]

theorem modeRequest_begins (h : r.tag ≠ 0) (hidle : u.modes.inflight = none) : (modeRequest true r u).2 = modeBegin r u := by
  simp [modeRequest, h, hidle]

theorem modeRequest_waits {x : Transition} (h : r.tag ≠ 0) (hx : u.modes.inflight = some x) (hfirm : abortable x = false)
    (hfree : u.modes.pending = none) : (modeRequest true r u).2 = { u with modes := { u.modes with pending := some r } } := by
  simp [modeRequest, h, hx, hfirm, pendRequest, hfree]

theorem reg_modeEnd {status cause : Nat} : (modeEnd r status cause u).reg PWR_MODE_LAST =
    BitVec.ofNat 32 (r.tag % 256 + r.target % 16 * 2 ^ 8 + status * 2 ^ 12 + cause * 2 ^ 16) := by
  rw [modeEnd, State.reg_causeWith, State.put, State.reg_setReg_ne _ _ (by decide)]
  exact State.reg_setReg_same _ _ _

theorem modes_modeEnd {status cause : Nat} : (modeEnd r status cause u).modes = u.modes := State.causeWith_modes _ _ _

theorem mode_modeEnd {status cause : Nat} : (modeEnd r status cause u).mode = u.mode := by
  refine State.get_of_reg ?_
  rw [modeEnd, State.reg_causeWith, State.put, State.reg_setReg_ne _ _ (by decide)]
  exact State.reg_setReg_ne _ _ (by decide)

/-- A request that nothing refuses begins its transition at step 1, where no arm has to be awaited. -/
theorem modeBegin_starts (hverdict : modeVerdict u r = none) (harmed : u.commit.armed = none ∨ r.target = Mode.service)
    (hmode : tableMode u ≠ Mode.retention) :
    modeBegin r u = stepStart r.target 1 { u with modes := { u.modes with
      inflight := some ⟨r, tableMode u, 1, false, none, false, 0⟩, exitStart := u.ticks } } := by
  rcases harmed with harmed | htarget
  · simp [modeBegin, hverdict, commitWithdraw, harmed, transitionStart, goStep, setStep, hmode]
  · simp [modeBegin, hverdict, htarget, transitionStart, goStep, setStep, hmode, Mode.service, Mode.safe, Mode.cold]

/-- The word that PWR_MODE_LAST shows after a request. -/
theorem reg_modeEnd_host (hm : m < 16) {status cause : Nat} : (modeEnd (modeReqOf m v) status cause u).reg PWR_MODE_LAST =
    BitVec.ofNat 32 (v.bits 15 8 + m * 2 ^ 8 + status * 2 ^ 12 + cause * 2 ^ 16) := by
  have htag : v.bits 15 8 < 256 := Nat.mod_lt _ (by decide)
  rw [reg_modeEnd, show (modeReqOf m v).tag = v.bits 15 8 from rfl, show (modeReqOf m v).target = m from rfl, Nat.mod_eq_of_lt htag, Nat.mod_eq_of_lt hm]

/-- A request with tag 0 is refused for its tag. -/
theorem write_modeReq_badTag (hw : writable s PWR_MODE_REQ = true) (hm : m < 16) (src : Nat) (htag : v.bits 15 8 = 0) :
    ∃ t, (Host.Outcome.next (write src PWR_MODE_REQ (modeReqValue m v) s) : Result) = .next t ∧
      t.reg PWR_MODE_LAST = BitVec.ofNat 32 (v.bits 15 8 + m * 2 ^ 8 + ModeStatus.refused * 2 ^ 12 + ModeCause.badTag * 2 ^ 16) ∧
      t.modes = s.modes := by
  obtain ⟨u, hu, hwrite⟩ := write_modeReq (v := v) hw hm src
  refine ⟨_, congrArg _ (hwrite.trans (modeRequest_badTag htag)), reg_modeEnd_host hm, ?_⟩
  rw [modes_modeEnd, hu.modes]

/-- A request begins its transition. -/
theorem write_modeReq_begins (hw : writable s PWR_MODE_REQ = true) (hm : m < 16) (src : Nat) (htag : v.bits 15 8 ≠ 0)
    (hidle : s.modes.inflight = none) (hverdict : modeVerdict s (modeReqOf m v) = none) (harmed : s.commit.armed = none ∨ m = Mode.service)
    (hmode : tableMode s ≠ Mode.retention) : ∃ u, ModeAsked s u ∧ write src PWR_MODE_REQ (modeReqValue m v) s =
      stepStart m 1 { u with modes := { s.modes with
        inflight := some ⟨modeReqOf m v, tableMode s, 1, false, none, false, 0⟩, exitStart := s.ticks } } := by
  obtain ⟨u, hu, hwrite⟩ := write_modeReq (v := v) hw hm src
  have hverdict' : modeVerdict u (modeReqOf m v) = none := by
    rw [modeVerdict, hu.tableMode, hu.touches.keeps_tt]
    exact hverdict
  refine ⟨u, hu, ?_⟩
  rw [hwrite, modeRequest_begins htag (hu.modes ▸ hidle), modeBegin_starts hverdict' (hu.armed.symm ▸ harmed) (hu.tableMode ▸ hmode),
    hu.modes, hu.ticks, hu.tableMode]
  rfl

/-- A request that is decided at once only shows its end. -/
theorem write_modeReq_done (hw : writable s PWR_MODE_REQ = true) (hm : m < 16) (src : Nat) (htag : v.bits 15 8 ≠ 0)
    (hidle : s.modes.inflight = none) (hverdict : modeVerdict s (modeReqOf m v) = some ModeStatus.done) :
    ∃ u, ModeAsked s u ∧ write src PWR_MODE_REQ (modeReqValue m v) s = modeEnd (modeReqOf m v) ModeStatus.done 0 u := by
  obtain ⟨u, hu, hwrite⟩ := write_modeReq (v := v) hw hm src
  have hverdict' : modeVerdict u (modeReqOf m v) = some ModeStatus.done := by
    rw [modeVerdict, hu.tableMode, hu.touches.keeps_tt]
    exact hverdict
  refine ⟨u, hu, ?_⟩
  rw [hwrite, modeRequest_begins htag (hu.modes ▸ hidle), modeBegin, hverdict']

theorem stepStart_maintenance : stepStart Mode.maintenance 1 u = { u with commit := { u.commit with
    hw := u.commit.hw ++ [if u.modes.inflight.any fun t => t.req.mimg then .imageSwap else .maintenance] } } := rfl

/-- An entry that closes the intake with its first step. -/
theorem write_modeReq_closes (hw : writable s PWR_MODE_REQ = true) (src : Nat) (htag : v.bits 15 8 ≠ 0) (hidle : s.modes.inflight = none)
    (hmode : tableMode s = Mode.service) (harmed : s.commit.armed = none)
    (hm : m = Mode.idle ∨ m = Mode.retention ∨ m = Mode.safe ∨ m = Mode.cold) :
    ∃ t, (Host.Outcome.next (write src PWR_MODE_REQ (modeReqValue m v) s) : Result) = .next t ∧
      (t.modes.inflight = some ⟨modeReqOf m v, tableMode s, 1, false, none, false, 0⟩ ∧ t.modes.exitStart = s.ticks ∧ t.mode = s.mode) ∧
      t.modes.intakeClosed = true := by
  have hverdict : modeVerdict s (modeReqOf m v) = none := by
    rcases hm with rfl | rfl | rfl | rfl <;> simp [modeVerdict, hmode, modeReqOf, Mode.service, Mode.idle, Mode.retention, Mode.safe, Mode.cold,
      Mode.start, Mode.maintenance]
  have hcloses (u : State) : stepStart m 1 u = closeIntake u := by
    rcases hm with rfl | rfl | rfl | rfl <;> rfl
  have hlt : m < 16 := by
    rcases hm with rfl | rfl | rfl | rfl <;> decide
  obtain ⟨u, hu, hwrite⟩ := write_modeReq_begins hw hlt src htag hidle hverdict (.inl harmed) (by rw [hmode]; decide)
  rw [hcloses] at hwrite
  exact ⟨_, congrArg _ hwrite, ⟨rfl, rfl, hu.mode⟩, rfl⟩

end

/-- Settles O30: a request is judged by the live mode alone, and its first step closes the intake or asks for the commit of the image. -/
theorem modeRequestsAreTakenAsStated : Obligations.ModeRequestsAreTakenAsStated := by
  intro s src v hw q ended started
  refine ⟨fun htag => ?_, fun htag hidle hmode harmed => ?_, fun htag hidle hmode => ?_, fun x htag hx hfirm hfree => ?_⟩
  · exact ⟨write_modeReq_badTag hw (m := Mode.idle) (by decide) src htag, write_modeReq_badTag hw (m := Mode.service) (by decide) src htag,
      write_modeReq_badTag hw (m := Mode.cold) (by decide) src htag⟩
  · have hcloses {m : Nat} := write_modeReq_closes (m := m) hw src htag hidle hmode harmed
    refine ⟨hcloses (.inl rfl), hcloses (.inr (.inl rfl)), hcloses (.inr (.inr (.inl rfl))), hcloses (.inr (.inr (.inr rfl))), fun hactive => ?_, ?_⟩
    · have hverdict : modeVerdict s (modeReqOf Mode.maintenance v) = none := by
        simp [modeVerdict, hmode, modeReqOf, hactive, Mode.service, Mode.idle, Mode.retention, Mode.safe, Mode.cold, Mode.start, Mode.maintenance]
      obtain ⟨u, hu, hwrite⟩ := write_modeReq_begins (m := Mode.maintenance) hw (by decide) src htag hidle hverdict (.inl harmed)
        (by rw [hmode]; decide)
      have hstep : write src PWR_MODE_REQ (modeReqValue Mode.maintenance v) s = { u with
          modes := { s.modes with
            inflight := some ⟨modeReqOf Mode.maintenance v, tableMode s, 1, false, none, false, 0⟩, exitStart := s.ticks }
          commit := { u.commit with hw := u.commit.hw ++ [.maintenance] } } := by
        have hmimg : (v.bits 20 20 == 1) = false := by rw [hactive]; rfl
        rw [hwrite, stepStart_maintenance]
        simp only [Option.any_some, modeReqOf, hmimg, Bool.false_eq_true, if_false]
      exact ⟨_, congrArg Host.Outcome.next hstep, ⟨rfl, rfl, hu.mode⟩, by rw [hu.hw]⟩
    · have hverdict : modeVerdict s (modeReqOf Mode.service v) = some ModeStatus.done := by
        simp [modeVerdict, hmode, modeReqOf, Mode.service, Mode.start]
      obtain ⟨u, hu, hwrite⟩ := write_modeReq_done hw (m := Mode.service) (by decide) src htag hidle hverdict
      exact ⟨_, congrArg Host.Outcome.next hwrite, modes_modeEnd.trans hu.modes, reg_modeEnd_host (by decide)⟩
  · have htable : tableMode s = Mode.idle := by simp [tableMode, hmode, Mode.idle, Mode.throttled]
    have hverdict : modeVerdict s (modeReqOf Mode.service v) = none := by
      simp [modeVerdict, htable, modeReqOf, Mode.service, Mode.idle, Mode.cold, Mode.start, Mode.maintenance]
    obtain ⟨u, hu, hwrite⟩ := write_modeReq_begins (m := Mode.service) hw (by decide) src htag hidle hverdict (.inr rfl) (by rw [htable]; decide)
    exact ⟨_, congrArg Host.Outcome.next hwrite, rfl, rfl, hu.mode⟩
  · have hwaits {m : Nat} (hm : m < 16) : ∃ t, (Host.Outcome.next (write src PWR_MODE_REQ (modeReqValue m v) s) : Result) = .next t ∧
        t.modes = { s.modes with pending := some (q m) } := by
      obtain ⟨u, hu, hwrite⟩ := write_modeReq (v := v) hw hm src
      refine ⟨_, congrArg _ (hwrite.trans (modeRequest_waits htag (hu.modes ▸ hx) hfirm (hu.modes ▸ hfree))), ?_⟩
      rw [← hu.modes]
    exact ⟨hwaits (by decide), hwaits (by decide)⟩

end Sys2Proof.Machine
end

section
/-!
PROOF. What the falls of a port and its towpath can touch: parts of the state and registers of lanes, ports, links and fabric.
-/
set_option autoImplicit false
set_option Elab.async false

namespace Sys2Proof.Machine
open Reg Bit

/-- Outside the parts of the list, and outside the registers of P, the state stands. -/
structure Confined (l : List Part) (P : Nat → Prop) (s t : State) : Prop where
  touches : Touches l s t
  regs : ∀ a, ¬P a → t.reg a = s.reg a

namespace Confined
variable {l : List Part} {P : Nat → Prop} {s t u : State}

theorem refl (l : List Part) (P : Nat → Prop) (s : State) : Confined l P s s := ⟨.refl _ _, fun _ _ => rfl⟩

theorem trans (h : Confined l P s t) (h' : Confined l P t u) : Confined l P s u :=
  ⟨h.touches.trans h'.touches, fun a ha => (h'.regs a ha).trans (h.regs a ha)⟩

theorem mono {l' : List Part} {Q : Nat → Prop} (h : Confined l P s t) (hl : l ⊆ l') (hP : ∀ a, P a → Q a) : Confined l' Q s t :=
  ⟨h.touches.mono hl, fun a ha => h.regs a fun hp => ha (hP a hp)⟩

/-- A change of parts that leaves the registers. -/
theorem part (h : Confined l P s t) (ht : Touches l s u) (hregs : u.regs = t.regs) : Confined l P s u :=
  ⟨ht, fun a ha => (State.reg_of_regs hregs a).trans (h.regs a ha)⟩

theorem get (h : Confined l P s t) {f : Field} (hf : ¬P f.addr) : t.get f = s.get f := State.get_of_reg (h.regs f.addr hf)

theorem setReg (h : Confined l P s t) {a : Nat} {v : Word} (ha : P a) (hl : .regs ∈ l := by decide) : Confined l P s (t.setReg a v) :=
  ⟨h.touches.setReg hl, fun b hb => (State.reg_setReg_ne _ _ (fun e => hb (e.symm ▸ ha) : b ≠ a)).trans (h.regs b hb)⟩

theorem put (h : Confined l P s t) {f : Field} {v : Nat} (ha : P f.addr) (hl : .regs ∈ l := by decide) : Confined l P s (t.put f v) := h.setReg ha hl
theorem putFlag (h : Confined l P s t) {f : Field} {b : Bool} (ha : P f.addr) (hl : .regs ∈ l := by decide) : Confined l P s (t.putFlag f b) :=
  h.setReg ha hl
theorem addField (h : Confined l P s t) {f : Field} {n : Nat} (ha : P f.addr) (hl : .regs ∈ l := by decide) : Confined l P s (t.addField f n) :=
  h.put ha hl
theorem addSat (h : Confined l P s t) {a n : Nat} (ha : P a) (hl : .regs ∈ l := by decide) : Confined l P s (t.addSat a n) := h.setReg ha hl

theorem causeWith (h : Confined l P s t) {c : CauseBit} {info : Nat} (ha : P c.cause) (hr : .regs ∈ l := by decide) (he : .events ∈ l := by decide) :
    Confined l P s (t.causeWith c info) :=
  ⟨h.touches.causeWith hr he, fun b hb => (State.reg_causeWith _ _ _ _).trans ((h.put (f := ⟨c.cause, c.bit, c.bit⟩) ha hr).regs b hb)⟩

theorem cause (h : Confined l P s t) {c : CauseBit} (ha : P c.cause) (hr : .regs ∈ l := by decide) (he : .events ∈ l := by decide) :
    Confined l P s (t.cause c) := h.causeWith ha hr he

theorem modLane (h : Confined l P s t) {k : Nat} {f : LaneSt → LaneSt} (hl : .lanes ∈ l := by decide) : Confined l P s (t.modLane k f) :=
  h.part (h.touches.modLane hl) rfl
theorem modPort (h : Confined l P s t) {k : Nat} {f : PortSt → PortSt} (hl : .ports ∈ l := by decide) : Confined l P s (t.modPort k f) :=
  h.part (h.touches.modPort hl) rfl
theorem modTow (h : Confined l P s t) {k : Nat} {f : TowSt → TowSt} (hl : .tows ∈ l := by decide) : Confined l P s (t.modTow k f) :=
  h.part (h.touches.modTow hl) rfl
theorem modLink (h : Confined l P s t) {k : Nat} {f : LinkSt → LinkSt} (hl : .links ∈ l := by decide) : Confined l P s (t.modLink k f) :=
  h.part (h.touches.modLink hl) rfl
theorem modFab (h : Confined l P s t) {k : Nat} {f : FabPort → FabPort} (hl : .fab ∈ l := by decide) : Confined l P s (t.modFab k f) :=
  h.part (h.touches.modFab hl) rfl
theorem drew (h : Confined l P s t) (hl : .free ∈ l := by decide) : Confined l P s t.drew := h.part (h.touches.drew hl) rfl

theorem ite {c : Prop} {_ : Decidable c} (ht : Confined l P s t) (hu : Confined l P s u) : Confined l P s (if c then t else u) := by
  split
  · exact ht
  · exact hu

theorem forEach {α : Type} (h : Confined l P s t) {f : α → State → State} {xs : List α}
    (hf : ∀ a ∈ xs, ∀ u, Confined l P s u → Confined l P s (f a u)) : Confined l P s (Machine.forEach xs f t) := by
  unfold Machine.forEach
  induction xs generalizing t with
  | nil => exact h
  | cons a xs ih => exact ih (hf a (.head _) t h) fun b hb => hf b (.tail _ hb)

end Confined

/-! ### The registers and parts of bring-up -/

/-- The registers that bring-up writes: those of lanes and ports, the discards of links, and those of the fabric. -/
def bringupReg (a : Nat) : Prop :=
  0x10000 ≤ a ∧ a < 0x18000 ∨ 0x40000 ≤ a ∧ a < 0x44000 ∨ 0x50000 ≤ a ∧ (a % 0x400 = 4 ∨ a % 0x400 = 0x64) ∨ a / 0x10000 = 12

/-- The parts that bring-up changes. -/
abbrev bringupParts : List Part := [.regs, .events, .links, .ports, .lanes, .tows, .fab, .asks, .chargeDue, .free]

/-- Confined to bring-up. -/
abbrev BringsUp (s t : State) : Prop := Confined bringupParts bringupReg s t

theorem bringupReg_lane {b l : Nat} (hl : l < 128) (hb : 0x10000 ≤ b ∧ b < 0x10100 := by decide) : bringupReg (b + 0x100 * l) :=
  .inl (by omega)
theorem bringupReg_port {b p : Nat} (hp : p < 16) (hb : 0x40000 ≤ b ∧ b < 0x40400 := by decide) : bringupReg (b + 0x400 * p) :=
  .inr (.inl (by omega))
theorem bringupReg_link {b p : Nat} (hb : b = 0x50004 ∨ b = 0x50064 := by decide) : bringupReg (b + 0x400 * p) :=
  .inr (.inr (.inl (by omega)))
theorem bringupReg_fab {a : Nat} (ha : a / 0x10000 = 12 := by decide) : bringupReg a := .inr (.inr (.inr ha))

theorem lt_of_mem_lanesOf {p l : Nat} (hp : p < 16) (hl : l ∈ lanesOf p) : l < 128 := by
  rw [lanesOf, List.mem_map] at hl
  obtain ⟨j, hj, rfl⟩ := hl
  rw [List.mem_range] at hj
  omega

namespace Confined
variable {s t : State} {p l : Nat}

theorem update_asks (h : BringsUp s t) {x : KMap LedgerAsk} : BringsUp s { t with asks := x } := h.part (h.touches.asks) rfl
theorem update_chargeDue (h : BringsUp s t) {x : List Nat} : BringsUp s { t with chargeDue := x } := h.part (h.touches.chargeDue) rfl

/-! The link of a port that falls. -/

theorem freeEntry (h : BringsUp s t) {uid : Nat} : BringsUp s (freeEntry p uid t) := h.modLink

theorem freeOutgoing (h : BringsUp s t) {o : Outgoing} : BringsUp s (freeOutgoing o t) := by
  unfold Machine.freeOutgoing
  split
  · exact h
  · exact h.freeEntry

theorem joinResponses (h : BringsUp s t) {o : Outgoing} : BringsUp s (joinResponses p o t) := .ite h h.modLink

theorem discardResponse (h : BringsUp s t) : BringsUp s (discardResponse p t) := (h.addSat bringupReg_link).cause bringupReg_link

theorem routeResponse (h : BringsUp s t) {x : Txn} : BringsUp s (routeResponse x t) := by
  unfold Machine.routeResponse
  split
  · exact (h.addSat bringupReg_fab).cause bringupReg_fab
  · exact .ite ((h.addSat bringupReg_fab).cause bringupReg_fab) h.joinResponses

theorem queueResponse (h : BringsUp s t) {o : Outgoing} : BringsUp s (queueResponse p o t) := by
  refine .ite h.joinResponses (.ite h.freeOutgoing ?_)
  split
  · exact h.joinResponses
  · exact .ite h.freeOutgoing.discardResponse h.routeResponse

theorem linkFall (h : BringsUp s t) : BringsUp s (linkFall p t) :=
  (h.modLink.forEach fun _ _ _ ih => ih.queueResponse).forEach fun _ _ _ ih => .ite ih.modLink ih

/-! The towpath of a port that falls. -/

theorem codeUnlock (h : BringsUp s t) (hp : p < 16) : BringsUp s (codeUnlock p t) :=
  .ite (((h.modTow.put (bringupReg_port hp)).put (bringupReg_port hp)).cause (bringupReg_port hp)) h

theorem wakeEnd (h : BringsUp s t) (hp : p < 16) : BringsUp s (wakeEnd p t) :=
  .ite ((h.modTow.put (bringupReg_port hp)).put (bringupReg_port hp)) h

theorem towContextsReset (h : BringsUp s t) : BringsUp s (towContextsReset p t) := h.modTow

theorem towCut (h : BringsUp s t) (hp : p < 16) : BringsUp s (towCut p t) := ((h.modTow.towContextsReset).wakeEnd hp).codeUnlock hp

theorem towDark (h : BringsUp s t) (hp : p < 16) : BringsUp s (towDark p t) :=
  (((h.towCut hp).put (bringupReg_port hp)).put (bringupReg_fab (by simp only [FAB_NBR_valid, FAB_NBR]; omega))).forEach fun _ hl _ ih =>
    have hl := lt_of_mem_lanesOf hp hl
    ((ih.modLane.put (bringupReg_lane hl)).put (bringupReg_lane hl)).put (bringupReg_lane hl)

/-! The lanes of a port that changes its stage. -/

theorem trainingRegs (h : BringsUp s t) (hl : l < 128) : BringsUp s (trainingRegs l t) :=
  ((h.setReg (bringupReg_lane hl)).setReg (bringupReg_lane hl)).setReg (bringupReg_lane hl)

theorem maskFollows (h : BringsUp s t) (hl : l < 128) {st : Nat} : BringsUp s (maskFollows l st t) := .ite h (h.modLane.put (bringupReg_lane hl))

theorem eyeEnd (h : BringsUp s t) (hl : l < 128) {aborted : Bool} {v0 v1 w : Word} : BringsUp s (eyeEnd l aborted v0 v1 w t) :=
  have hr {b : Nat} (hb : 0x10000 ≤ b ∧ b < 0x10100 := by decide) : bringupReg (b + 0x100 * l) := bringupReg_lane hl hb
  have hended := (((h.put hr).put hr).put hr).cause hr
  have hlevels := Confined.ite hended ((((hended.put hr).put hr).put hr).put hr)
  .ite h (.ite hended (.ite hlevels ((hlevels.put hr).put hr)))

theorem eyeAbort (h : BringsUp s t) (hl : l < 128) : BringsUp s (eyeAbort l t) := h.eyeEnd hl

theorem devicePrbs (h : BringsUp s t) (hl : l < 128) {on : Bool} : BringsUp s (devicePrbs l on t) :=
  .ite ((((((h.put (bringupReg_lane hl)).put (bringupReg_lane hl)).put (bringupReg_lane hl)).put (bringupReg_lane hl)).put
      (bringupReg_lane hl)).put (bringupReg_lane hl))
    (((h.put (bringupReg_lane hl)).put (bringupReg_lane hl)).put (bringupReg_lane hl))

theorem applyLaneCtrl (h : BringsUp s t) : BringsUp s (applyLaneCtrl l t) := h.modLane

theorem setStage (h : BringsUp s t) (hp : p < 16) {st : Nat} : BringsUp s (setStage p st t) := by
  have hr {b : Nat} (hb : 0x40000 ≤ b ∧ b < 0x40400 := by decide) : bringupReg (b + 0x400 * p) := bringupReg_port hp hb
  unfold Machine.setStage
  extract_lets outside s1 s2 s3
  have h1 : BringsUp s s1 := h.forEach fun l hmem u ih => by
    have hl := lt_of_mem_lanesOf hp hmem
    extract_lets u1 u2 u3 u4
    have hu1 : BringsUp s u1 := (ih.eyeAbort hl).maskFollows hl
    have hu2 : BringsUp s u2 := .ite ((hu1.put (bringupReg_lane hl)).put (bringupReg_lane hl)) hu1
    have hu3 : BringsUp s u3 := .ite (hu2.devicePrbs hl) hu2
    have hu4 : BringsUp s u4 := .ite (hu3.trainingRegs hl) hu3
    exact .ite hu4.drew.modLane (.ite hu4.modLane hu4)
  have h2 : BringsUp s s2 := ((h1.put hr).put hr).modPort
  have h3 : BringsUp s s3 := .ite ((((h2.modPort.put hr).put hr).put hr).put hr) h2
  exact h3.update_chargeDue

theorem departS7 (h : BringsUp s t) (hp : p < 16) {cause : Nat} : BringsUp s (departS7 p cause t) :=
  .ite (((h.addField (bringupReg_port hp)).put (bringupReg_port hp)).cause (bringupReg_port hp)).modFab h

theorem clearNegotiation (h : BringsUp s t) (hp : p < 16) : BringsUp s (clearNegotiation p t) :=
  (h.update_asks.modPort.put (bringupReg_port hp)).update_chargeDue

theorem clearCourse (h : BringsUp s t) (hp : p < 16) : BringsUp s (clearCourse p t) :=
  have hr {b : Nat} (hb : 0x40000 ≤ b ∧ b < 0x40400 := by decide) : bringupReg (b + 0x400 * p) := bringupReg_port hp hb
  (((((((((h.clearNegotiation hp).modPort.put hr).put hr).put hr).put hr).put hr).put hr).put hr).put hr).put hr

theorem portFall (h : BringsUp s t) (hp : p < 16) {cause : Nat} : BringsUp s (portFall p cause t) :=
  have hr {b : Nat} (hb : 0x40000 ≤ b ∧ b < 0x40400 := by decide) : bringupReg (b + 0x400 * p) := bringupReg_port hp hb
  have hgone := (h.departS7 hp (cause := cause)).put (f := PORT_FALL_last_cause p) (v := cause) hr
  .ite h (((Confined.ite (((hgone.put hr).put hr).cause hr) hgone).setStage hp).clearCourse hp).linkFall

theorem putCaps (h : BringsUp s t) (hp : p < 16) : BringsUp s (putCaps p t) := h.put (bringupReg_port hp)

theorem endAttemptCap (h : BringsUp s t) (hp : p < 16) : BringsUp s (endAttemptCap p t) := h.modPort.putCaps hp

theorem leaveDark (h : BringsUp s t) (hp : p < 16) : BringsUp s (leaveDark p t) :=
  .ite (((h.put (bringupReg_port hp)).clearCourse hp).setStage hp) h

theorem enterDark (h : BringsUp s t) (hp : p < 16) {cause : Nat} : BringsUp s (enterDark p cause t) :=
  .ite h ((((((h.portFall hp).setStage hp).towDark hp).forEach fun _ _ _ ih => ih.applyLaneCtrl).put (bringupReg_port hp)).endAttemptCap hp).modPort

theorem pllFall (h : BringsUp s t) (hp : p < 16) : BringsUp s (pllFall p t) :=
  (h.forEach fun _ hl _ ih => ih.cause (bringupReg_lane (lt_of_mem_lanesOf hp hl))).portFall hp

theorem parkPort (h : BringsUp s t) (hp : p < 16) : BringsUp s (parkPort p t) := (Confined.ite h (h.portFall hp)).modPort

end Confined

end Sys2Proof.Machine
end

section
/-!
PROOF. The anchor sequence begins, and a rail, a pin or a request triggers it.
-/
set_option autoImplicit false
set_option Elab.async false

namespace Sys2Proof.Machine
open Reg Bit

/-- The parts that the start of an anchor sequence changes before it records itself. -/
abbrev anchorParts : List Part := [.staged, .commit, .otp, .purser] ++ bringupParts

/-- The registers that the start of an anchor sequence writes. -/
def anchorReg (a : Nat) : Prop := bringupReg a ∨ 0x280 ≤ a ∧ a < 0x300 ∨ a = GLB_COMMIT_CTRL ∨ a = MBX_JOBS ∨ a = MBX_EVT_CAUSE

/-- Confined to what an anchor sequence begins with. -/
abbrev Anchors (s t : State) : Prop := Confined anchorParts anchorReg s t

theorem BringsUp.anchors {s t : State} (h : BringsUp s t) : Anchors s t := h.mono (by decide) fun _ ha => .inl ha

namespace Confined
variable {s t : State} {p : Nat}

theorem commitReset (h : Anchors s t) : Anchors s (commitReset t) :=
  have harm : Anchors s { t with commit := { t.commit with armed := none, preparing := false, vote := none } } := h.part h.touches.commit rfl
  have hput : Anchors s (disarm t) := harm.put (.inr (.inr (.inl rfl)))
  hput.part hput.touches.staged rfl

theorem recordWseq (h : Anchors s t) (hp : p < 16) : Anchors s (recordWseq p t) :=
  (h.setReg (.inr (.inl (by simp only [GLB_WSEQ_SEEN]; omega)))).setReg (.inr (.inl (by simp only [GLB_WSEQ_DONE]; omega)))

theorem jobEnd (h : Anchors s t) {num status : Nat} {result : List Byte} : Anchors s (jobEnd num status result t) := by
  unfold Machine.jobEnd
  split
  · exact h
  · exact ((h.part h.touches.modPurser rfl).put (.inr (.inr (.inr (.inl rfl))))).causeWith (.inr (.inr (.inr (.inr rfl))))

theorem otpTear (h : Anchors s t) {r n : Nat} {data : List Word} : Anchors s (otpTear r data n t) :=
  h.forEach fun _ _ u ih => ih.part (u := otpWrite _ _ _ u) (ih.touches.otp) rfl

theorem resetJobs (h : Anchors s t) {kind : Nat} : Anchors s (resetJobs kind t) := by
  unfold Machine.resetJobs
  refine .ite (h.forEach fun _ _ _ ih => ih.jobEnd) ?_
  extract_lets s1
  have h1 : Anchors s s1 := by
    dsimp only [s1]
    split
    · exact .ite h.drew.otpTear h
    · exact h
  exact h1.part ((h1.touches.modPurser).otp) rfl

end Confined

section
variable {s : State} {kind source : Nat} {flushed : Bool}

/-- The start of an anchor sequence. -/
structure AnchorStarted (kind source : Nat) (flushed : Bool) (s t : State) : Prop where
  start : t.start = { s.start with phase := .anchoring, kind := kind, request := none }
  modes : t.modes = { s.modes with inflight := none, pending := none }
  always : t.always = { s.always with anchor := some (anchorRecord kind source flushed s) }
  pins : t.pins = s.pins
  regs : ∀ a, ¬anchorReg a → t.reg a = s.reg a

/-- The state in which the sequence is recorded and every port has fallen. -/
def anchorFallen (kind source : Nat) (flushed : Bool) (s : State) : State :=
  let s2 := resetJobs kind (if beforeRegions s then commitReset s else forEach (List.range 16) recordWseq (commitReset s))
  forEach (List.range 16) (fun p s => towCut p (portFall p Fall.baseReset s))
    (s2.modAlways fun x => { x with anchor := some (anchorRecord kind source flushed s) })

theorem anchorFallen_keeps : (anchorFallen kind source flushed s).always = { s.always with anchor := some (anchorRecord kind source flushed s) } ∧
    (anchorFallen kind source flushed s).start = s.start ∧ (anchorFallen kind source flushed s).modes = s.modes ∧
    (anchorFallen kind source flushed s).pins = s.pins ∧ ∀ a, ¬anchorReg a → (anchorFallen kind source flushed s).reg a = s.reg a := by
  unfold anchorFallen
  extract_lets s2
  have h1 : Anchors s (commitReset s) := (Confined.refl _ _ s).commitReset
  have h2 : Anchors s s2 := (Confined.ite h1 (h1.forEach fun p hp _ ih => ih.recordWseq (List.mem_range.1 hp))).resetJobs
  clear_value s2
  generalize anchorRecord kind source flushed s = r
  have h3 : BringsUp (s2.modAlways fun x => { x with anchor := some r }) (forEach (List.range 16) (fun p s => towCut p (portFall p Fall.baseReset s))
      (s2.modAlways fun x => { x with anchor := some r })) :=
    (Confined.refl _ _ _).forEach fun p hp _ ih => (ih.portFall (List.mem_range.1 hp)).towCut (List.mem_range.1 hp)
  have hmid (a : Nat) : (s2.modAlways fun x => { x with anchor := some r }).reg a = s2.reg a := State.reg_of_regs rfl a
  refine ⟨?_, h3.touches.keeps_start.trans h2.touches.keeps_start, h3.touches.keeps_modes.trans h2.touches.keeps_modes,
    h3.touches.keeps_pins.trans h2.touches.keeps_pins, fun a ha => ?_⟩
  · rw [h3.touches.keeps_always, State.modAlways, h2.touches.keeps_always]
  · rw [h3.regs a fun h => ha (.inl h), hmid, h2.regs a ha]

/-- The sequence runs, and no request and no transition is left. -/
def State.anchoring (kind : Nat) (s : State) : State := { s with
  start := { s.start with phase := .anchoring, kind := kind, request := none }
  modes := { s.modes with inflight := none, pending := none } }

theorem anchorStart_eq : anchorStart kind source flushed s = (anchorFallen kind source flushed s).anchoring kind := by
  unfold anchorStart
  extract_lets r s1 s2 s3
  have h3 : s3 = anchorFallen kind source flushed s := rfl
  clear_value s3
  rw [← h3]
  rfl

theorem anchorStart_started : AnchorStarted kind source flushed s (anchorStart kind source flushed s) := by
  obtain ⟨halways, hstart, hmodes, hpins, hregs⟩ := anchorFallen_keeps (kind := kind) (source := source) (flushed := flushed) (s := s)
  rw [anchorStart_eq]
  generalize anchorFallen kind source flushed s = t at *
  exact ⟨hstart ▸ rfl, hmodes ▸ rfl, halways, hpins, hregs⟩

theorem AnchorStarted.up {t : State} (h : AnchorStarted kind source flushed s t) : t.up = false := by
  rw [State.up, h.start]

theorem anchorRecord_source : (anchorRecord kind source flushed s).source = source := by
  unfold anchorRecord
  dsimp only
  split
  · split <;> rfl
  · rfl

/-- Outside START a trigger begins an anchor sequence, but for a trip in RETENTION. -/
theorem resetTrigger_ended (h : s.start.phase = .ended) (hsource : source ≠ ResetSource.trip) :
    resetTrigger kind source flushed s = anchorStart kind source flushed s := by
  simp [resetTrigger, h, hsource, anchorNeeded]

end

end Sys2Proof.Machine
end

section
/-!
PROOF. Rails below warning, above recovery and at their reset levels; power and reset pins.
-/
set_option autoImplicit false
set_option Elab.async false

namespace Sys2Proof.Machine
open Reg Bit

/-! ### Bits of masks -/

theorem natBit_eq_testBit (n i : Nat) : natBit n i = n.testBit i := by
  rw [natBit, Nat.testBit_eq_decide_div_mod_eq]
  rfl

theorem natBit_natSetBit_self (n i : Nat) : natBit (natSetBit n i) i = true := by
  unfold natSetBit
  split
  · assumption
  · rename_i h
    rw [natBit_eq_testBit] at h ⊢
    rw [Nat.add_comm, Nat.testBit_two_pow_add_eq]
    simpa using h

theorem natBit_natClearBit_self (n i : Nat) : natBit (natClearBit n i) i = false := by
  unfold natClearBit
  split
  · rename_i h
    have hle : 2 ^ i ≤ n := Nat.ge_two_pow_of_testBit (natBit_eq_testBit n i ▸ h)
    rw [natBit_eq_testBit] at h ⊢
    have hadd : n = 2 ^ i + (n - 2 ^ i) := by omega
    rw [hadd, Nat.testBit_two_pow_add_eq] at h
    simpa using h
  · rename_i h
    simpa using h

theorem natBit_mod {n i k : Nat} (h : i < k) : natBit (n % 2 ^ k) i = natBit n i := by
  rw [natBit_eq_testBit, natBit_eq_testBit, Nat.testBit_mod_two_pow, decide_eq_true h, Bool.true_and]

/-! ### Rails -/

section
variable {s : State} {r : Rail} {mv : Nat}

/-- The registers once a rail is below warning. -/
def belowShown (r : Nat) (s : State) : State := (s.put PWR_SUPPLY_below (natSetBit (s.get PWR_SUPPLY_below) r)).put PWR_SUPPLY_restoring 0

/-- The excursion that runs once a rail is below warning. -/
def excursionOpen (r mv : Nat) (s : State) : Excursion :=
  s.always.excursion.getD { first := r, minMv := mv, deepest := s.get PWR_SUPPLY_step, below := 0, start := s.ticks }

theorem belowShown_below : natBit ((belowShown r s).get PWR_SUPPLY_below) r = true := by
  rw [belowShown, State.get_put_apart rfl, State.get_put_mod rfl]
  exact (natBit_mod (k := 6) r.isLt).trans (natBit_natSetBit_self _ _)

theorem belowShown_restoring {n : Nat} : (belowShown n s).get PWR_SUPPLY_restoring = 0 := State.get_put_self rfl (of_decide_eq_true rfl)

theorem belowShown_regs {n : Nat} : SameRegs [PWR_SUPPLY] s (belowShown n s) := ((SameRegs.refl _ _).put).put

theorem belowShown_only {n : Nat} : OnlyRegs s (belowShown n s) := ((OnlyRegs.refl _).put).put

/-- A state with other pins and another always-on record. -/
def State.withSupply (p : Pins) (a : AlwaysOn) (s : State) : State := { s with pins := p, always := a }

theorem withSupply_put {p : Pins} {a : AlwaysOn} {f : Field} {v : Nat} : (s.withSupply p a).put f v = (s.put f v).withSupply p a := rfl

theorem withSupply_noteLevel {p : Pins} {a : AlwaysOn} : noteLevel r mv (s.withSupply p a) = s.withSupply { p with mv := p.mv.ins r mv }
    { a with excursion := a.excursion.map fun x => { x with minMv := min x.minMv mv } } := rfl

theorem withSupply_withSupply {p q : Pins} {a b : AlwaysOn} : (s.withSupply p a).withSupply q b = s.withSupply q b := rfl

/-- A rail below warning: its bit, no restoration, no recovery, and the excursion with the lowest reading. -/
theorem railBelow_eq : railBelow r mv s = (belowShown r s).withSupply
    { s.pins with recovered := natClearBit s.pins.recovered r, mv := s.pins.mv.ins r mv }
    { s.always with excursion := some { excursionOpen r mv s with minMv := min (excursionOpen r mv s).minMv mv } } := by
  have hopen : railBelow r mv s = noteLevel r mv (((s.put PWR_SUPPLY_below (natSetBit (s.get PWR_SUPPLY_below) r)).withSupply
      { s.pins with recovered := natClearBit s.pins.recovered r } { s.always with excursion := some (excursionOpen r mv s) }).put
      PWR_SUPPLY_restoring 0) := by
    have hstep : (s.put PWR_SUPPLY_below (natSetBit (s.get PWR_SUPPLY_below) r)).get PWR_SUPPLY_step = s.get PWR_SUPPLY_step :=
      State.get_put_apart rfl
    obtain ⟨hpins, halways, hticks⟩ : (s.put PWR_SUPPLY_below (natSetBit (s.get PWR_SUPPLY_below) r)).pins = s.pins ∧
        (s.put PWR_SUPPLY_below (natSetBit (s.get PWR_SUPPLY_below) r)).always = s.always ∧
        (s.put PWR_SUPPLY_below (natSetBit (s.get PWR_SUPPLY_below) r)).ticks = s.ticks := ⟨rfl, rfl, rfl⟩
    unfold railBelow excursionOpen
    generalize s.put PWR_SUPPLY_below (natSetBit (s.get PWR_SUPPLY_below) r) = u at *
    cases h : s.always.excursion with
    | none =>
      simp only [State.withSupply, hpins, halways, h, Option.getD_none, hticks]
      rw [← hstep]
      rfl
    | some x =>
      have hx : s.always = { s.always with excursion := some x } := by rw [← h]
      simp only [State.withSupply, hpins, halways, h, Option.getD_some]
      rw [← hx, ← halways]
  rw [hopen, withSupply_put, withSupply_noteLevel]
  rfl

theorem railAbove_eq : railAbove r s =
    (s.put PWR_SUPPLY_below (natClearBit (s.get PWR_SUPPLY_below) r)).withSupply { s.pins with atReset := natClearBit s.pins.atReset r } s.always :=
  rfl

theorem railRecovery_true : railRecovery r true s = (s.put PWR_SUPPLY_below (natClearBit (s.get PWR_SUPPLY_below) r)).withSupply
    { s.pins with atReset := natClearBit s.pins.atReset r, recovered := natSetBit s.pins.recovered r } s.always := rfl

theorem railRecovery_false : railRecovery r false s =
    (s.put PWR_SUPPLY_restoring 0).withSupply { s.pins with recovered := natClearBit s.pins.recovered r } s.always := rfl

theorem withSupply_get {p : Pins} {a : AlwaysOn} {f : Field} : (s.withSupply p a).get f = s.get f := State.get_of_reg (State.reg_of_regs rfl _)

theorem withSupply_regs {l : List Nat} {u : State} {p : Pins} {a : AlwaysOn} (h : SameRegs l s u) : SameRegs l s (u.withSupply p a) := h

/-- The shown bit of a rail that is not below warning. -/
theorem below_cleared {p : Pins} {a : AlwaysOn} :
    natBit (((s.put PWR_SUPPLY_below (natClearBit (s.get PWR_SUPPLY_below) r)).withSupply p a).get PWR_SUPPLY_below) r = false := by
  rw [withSupply_get, State.get_put_mod rfl]
  exact (natBit_mod (k := 6) r.isLt).trans (natBit_natClearBit_self _ _)

/-- The frame of a change of supply registers, pins and the always-on record. -/
theorem withSupply_frame {u : State} (h : OnlyRegs s u) {p : Pins} {a : AlwaysOn} :
    { u.withSupply p a with pins := s.pins, always := s.always, regs := s.regs } = s :=
  h.keep (F := fun t : State => { t.withSupply p a with pins := s.pins, always := s.always, regs := s.regs }) (fun _ => rfl) rfl

theorem withSupply_pins_frame {u : State} (h : OnlyRegs s u) {p : Pins} : { u.withSupply p s.always with pins := s.pins, regs := s.regs } = s :=
  h.keep (F := fun t : State => { t.withSupply p s.always with pins := s.pins, regs := s.regs }) (fun _ => rfl) rfl

/-- A restoration begins: its first undo is due. -/
def restoringFrom (s t : State) : State :=
  { t with modes := { s.modes with undoTick := s.ticks }, commit := { s.commit with hwDue := s.commit.hwDue ++ [.shedUndo] } }

theorem restoringFrom_get {t : State} {f : Field} : (restoringFrom s t).get f = t.get f := State.get_of_reg (State.reg_of_regs rfl _)

theorem restoringFrom_regs {l : List Nat} {t : State} (h : SameRegs l s t) : SameRegs l s (restoringFrom s t) := h

theorem restoringFrom_frame {t : State} (h : OnlyRegs s t) : { restoringFrom s t with commit := s.commit, modes := s.modes, regs := s.regs } = s :=
  h.keep (F := fun t : State => { restoringFrom s t with commit := s.commit, modes := s.modes, regs := s.regs }) (fun _ => rfl) rfl

theorem restorationStart_begins (hrecovered : s.pins.recovered = 63) (hbelow : s.get PWR_SUPPLY_below = 0) (hidle : s.get PWR_SUPPLY_restoring = 0)
    (hstep : 1 ≤ s.get PWR_SUPPLY_step) : restorationStart s = restoringFrom s (s.put PWR_SUPPLY_restoring 1) := by
  have hflag : s.flag PWR_SUPPLY_restoring = false := flag_of_get_eq_zero hidle
  have hcommit : (s.put PWR_SUPPLY_restoring 1).commit = s.commit := (OnlyRegs.put (.refl s)).keep (F := State.commit) (fun _ => rfl) rfl
  rw [restorationStart, hrecovered, hbelow, hflag, if_neg (by decide), if_neg (by omega), restoringFrom, ← hcommit]

/-! ### Triggers of an anchor sequence -/

theorem closeExcursion_touches {atReset : Bool} : Touches [.regs, .always] s (closeExcursion atReset s) := by
  unfold closeExcursion
  split
  · exact ((((Touches.refl _ _).setReg).setReg.addSat).always).modAlways
  · exact .refl _ _

/-- A pin or rail outside START triggers an anchor sequence of a warm reset. -/
theorem anchors_of_ended {u : State} {source : Nat} (h : u.start.phase = .ended) (hsource : source ≠ ResetSource.trip) :
    AnchorStarted ResetKind.warm source false u (resetTrigger ResetKind.warm source false u) := by
  rw [resetTrigger_ended h hsource]
  exact anchorStart_started

theorem AnchorStarted.source {t : State} {kind source : Nat} {flushed : Bool} (h : AnchorStarted kind source flushed s t) :
    t.always.anchor.map (·.source) = some source := by
  rw [h.always]
  exact congrArg some anchorRecord_source

end

/-- Settles O7: the supply's commands write PWR_SUPPLY, the pins' record and the excursion, and a reset level triggers the anchor sequence. -/
theorem railsAndSheddingActAsStated : Obligations.RailsAndSheddingActAsStated := by
  intro s
  refine ⟨fun r mv => ?_, fun r => ?_, fun r => ?_, fun r => ?_, fun hup hrecovered hbelow hidle hstep => ?_,
    fun hup hrestoring hstep hticks hdue => ?_, fun hended hup r mv => ?_⟩
  · refine ⟨_, congrArg Host.Outcome.next railBelow_eq, ?_, ?_, natBit_natClearBit_self s.pins.recovered r, fun hnone => ?_,
      withSupply_regs belowShown_regs, withSupply_frame belowShown_only⟩
    · rw [withSupply_get, belowShown_below]
    · rw [withSupply_get, belowShown_restoring]
    · simp [State.withSupply, excursionOpen, hnone]
  · exact ⟨_, congrArg Host.Outcome.next railAbove_eq, below_cleared, natBit_natClearBit_self s.pins.atReset r,
      withSupply_regs (SameRegs.put (.refl _ _)), withSupply_pins_frame (OnlyRegs.put (.refl _))⟩
  · exact ⟨_, congrArg Host.Outcome.next railRecovery_true, natBit_natSetBit_self s.pins.recovered r, below_cleared,
      withSupply_regs (SameRegs.put (.refl _ _)), withSupply_pins_frame (OnlyRegs.put (.refl _))⟩
  · exact ⟨_, congrArg Host.Outcome.next railRecovery_false, natBit_natClearBit_self s.pins.recovered r,
      withSupply_get.trans (State.get_put_self rfl (of_decide_eq_true rfl)), withSupply_regs (SameRegs.put (.refl _ _)),
      withSupply_pins_frame (OnlyRegs.put (.refl _))⟩
  · exact ⟨_, congrArg Host.Outcome.next ((whenUp_of_up hup _).trans (restorationStart_begins hrecovered hbelow hidle hstep)),
      restoringFrom_get.trans (State.get_put_self rfl (of_decide_eq_true rfl)), rfl, rfl, restoringFrom_regs (SameRegs.put (.refl _ _)),
      restoringFrom_frame (OnlyRegs.put (.refl s))⟩
  · refine congrArg Host.Outcome.next ((whenUp_of_up hup _).trans ?_)
    have hflag : s.flag PWR_SUPPLY_restoring = true := flag_of_get_eq_one hrestoring
    rw [undoNext, hflag, decide_eq_true hstep, decide_eq_true hticks, hdue]
    rfl
  · have hreset : ∃ u, exec (.railResetLevel r mv) s = .next (resetTrigger ResetKind.warm ResetSource.rail false (closeExcursion true u)) ∧
        u.start = s.start ∧ natBit u.pins.atReset r = true := by
      refine ⟨_, rfl, ?_, ?_⟩
      · split <;> rfl
      · split <;> exact natBit_natSetBit_self _ _
    obtain ⟨u, hexec, hstart, hbit⟩ := hreset
    have hclose := closeExcursion_touches (s := u) (atReset := true)
    have ht := anchors_of_ended (u := closeExcursion true u) (source := ResetSource.rail) (by rw [hclose.keeps_start, hstart, hended]) (by decide)
    refine ⟨_, hexec, by rw [ht.start], by rw [ht.start], ht.source, ?_, by rw [ht.modes], ht.up⟩
    rw [ht.pins, hclose.keeps_pins, hbit]

end Sys2Proof.Machine
end

section
/-!
PROOF. Power and reset pins.
-/
set_option autoImplicit false
set_option Elab.async false

namespace Sys2Proof.Machine
open Reg Bit

section
variable {s u : State} {m : Nat}

/-! ### The mode shown -/

theorem showMode_regs : SameRegs [PWR_MODE] s (showMode s) := by
  unfold showMode
  extract_lets storm shed hot s1
  have h1 : SameRegs [PWR_MODE] s s1 := (((SameRegs.refl _ s).putFlag).putFlag).putFlag
  exact .ite h1.put h1

theorem showMode_only : OnlyRegs s (showMode s) := by
  unfold showMode
  extract_lets storm shed hot s1
  have h1 : OnlyRegs s s1 := (((OnlyRegs.refl s).putFlag).putFlag).putFlag
  split
  · exact h1.put
  · exact h1

/-- Outside SERVICE and THROTTLED the mode shown is the mode entered. -/
theorem mode_showMode (h : s.inService = false) : (showMode s).mode = s.mode := by
  unfold showMode
  extract_lets storm shed hot s1
  rw [h, if_neg Bool.false_ne_true]
  exact ((State.get_putFlag_apart rfl).trans (State.get_putFlag_apart rfl)).trans (State.get_putFlag_apart rfl)

theorem setMode_regs : SameRegs [PWR_MODE] s (setMode m s) := ((SameRegs.refl _ s).put).trans showMode_regs

theorem setMode_only : OnlyRegs s (setMode m s) := by
  obtain ⟨r, hr⟩ := showMode_only (s := s.put PWR_MODE_mode m)
  exact ⟨r, hr⟩

/-- A mode that is none of SERVICE and THROTTLED is shown as it is. -/
theorem mode_setMode (hm : m < 16) (hservice : m ≠ Mode.service) (hthrottled : m ≠ Mode.throttled) : (setMode m s).mode = m := by
  have hput : (s.put PWR_MODE_mode m).mode = m := State.get_put_self rfl hm
  rw [setMode, mode_showMode, hput]
  simp [State.inService, hput, hservice, hthrottled]

/-! ### The rise of RESET_N -/

theorem resetRise_unpowered {n : Nat} (hreset : s.pins.resetN = false) (hpower : s.pins.pwrgood = false) :
    resetRise n s = { s with pins := { s.pins with resetN := true } } := by
  simp [resetRise, hreset, samplesNode, hpower]

/-- NODEID sampled, and shown while the logic is in reset. -/
theorem resetRise_samples {n : Nat} (hreset : s.pins.resetN = false) (hsample : samplesNode s = true) (hn : n < 64) : resetRise n s =
    if s.up then { s with pins := { s.pins with resetN := true, nodeid := n } }
    else showStrap { s with pins := { s.pins with resetN := true, nodeid := n } } := by
  rw [resetRise, hreset, if_neg Bool.false_ne_true, hsample, Nat.mod_eq_of_lt hn]
  rfl

theorem showStrap_only : OnlyRegs s (showStrap s) := ((OnlyRegs.put (.refl s)).put).put

theorem showStrap_regs : SameRegs [FAB_NODE, MBX_I3C] s (showStrap s) := ((SameRegs.put (.refl _ s)).put).put

theorem showStrap_strap : (showStrap s).get FAB_NODE_strap = s.pins.nodeid % 64 := by
  rw [showStrap, State.get_put_apart rfl, State.get_put_apart rfl]
  exact State.get_put_self rfl (Nat.mod_lt _ (by decide))

theorem showStrap_id : (showStrap s).get FAB_NODE_id = s.pins.nodeid % 64 := by
  rw [showStrap, State.get_put_apart rfl]
  exact State.get_put_self rfl (Nat.mod_lt _ (by decide))

theorem showStrap_static : (showStrap s).get MBX_I3C_static = 0x48 + s.pins.nodeid % 64 % 8 := by
  rw [showStrap]
  refine State.get_put_self rfl ?_
  have : s.pins.nodeid % 64 % 8 < 8 := Nat.mod_lt _ (by decide)
  exact Nat.lt_of_lt_of_le (Nat.add_lt_add_left this 0x48) (by decide)

/-! ### A reading of VQPS -/

/-- A state in which VQPS reads a voltage. -/
def State.vqpsAt (mv : Nat) (s : State) : State := { s with pins := { s.pins with vqps := mv } }

theorem vqpsPresent_quiet {mv : Nat} (h : s.always.vqpsReported = true ∨ mv ≤ 300) :
    vqpsPresent mv s = (s.vqpsAt mv).putFlag OTP_STATUS_vqps (vqpsGood (s.vqpsAt mv)) := by
  have hcond : (s.always.vqpsReported || decide (mv ≤ 300) || (otpJob s).isSome) = true := by
    rcases h with h | h <;> simp [h]
  exact if_pos hcond

theorem vqpsPresent_reports {mv : Nat} (hreported : s.always.vqpsReported = false) (hmv : 300 < mv) (hjob : (otpJob s).isSome = false) :
    vqpsPresent mv s = (((s.vqpsAt mv).putFlag OTP_STATUS_vqps (vqpsGood (s.vqpsAt mv))).cause Cause.PWR_vqps_present).modAlways
      fun x => { x with vqpsReported := true } := by
  have hcond : ¬(s.always.vqpsReported || decide (mv ≤ 300) || (otpJob s).isSome) = true := by
    simp [hreported, hjob, hmv]
  exact if_neg hcond

theorem vqpsAt_pins {mv : Nat} (h : RegsAndEvents (s.vqpsAt mv) u) : u.pins = { s.pins with vqps := mv } := h.keep (fun _ _ => rfl) rfl

theorem vqpsAt_always {mv : Nat} (h : RegsAndEvents (s.vqpsAt mv) u) : u.always = s.always := h.keep (fun _ _ => rfl) rfl

theorem vqpsAt_frame {mv : Nat} (h : RegsAndEvents (s.vqpsAt mv) u) (f : AlwaysOn → AlwaysOn) :
    { u.modAlways f with pins := s.pins, regs := s.regs, events := s.events, always := s.always } = s :=
  h.keep (F := fun t : State => { t.modAlways f with pins := s.pins, regs := s.regs, events := s.events, always := s.always }) (fun _ _ => rfl) rfl

theorem vqpsReported_quiet {mv : Nat} (h : s.always.vqpsReported = true ∨ mv ≤ 300) :
    (s.always.vqpsReported || decide (300 < mv)) = s.always.vqpsReported := by
  rcases h with h | h
  · rw [h, Bool.true_or]
  · rw [decide_eq_false (by omega), Bool.or_false]

/-- What a reading of VQPS changes. -/
def VqpsRead (mv : Nat) (s t : State) : Prop :=
  t.pins = { s.pins with vqps := mv } ∧ (t.flag OTP_STATUS_vqps = true ↔ 1746 ≤ mv ∧ mv ≤ 1854) ∧ SameRegs [OTP_STATUS, PWR_EVT_CAUSE] s t ∧
    t.always = { s.always with vqpsReported := s.always.vqpsReported || decide (300 < mv) } ∧
    { t with pins := s.pins, regs := s.regs, events := s.events, always := s.always } = s

/-- The register that shows whether VQPS stands in its range. -/
theorem vqpsShown {mv : Nat} : ∃ t, t = (s.vqpsAt mv).putFlag OTP_STATUS_vqps (vqpsGood (s.vqpsAt mv)) ∧ RegsAndEvents (s.vqpsAt mv) t ∧
    SameRegs [OTP_STATUS, PWR_EVT_CAUSE] s t ∧ (t.get OTP_STATUS_vqps = 1 ↔ 1746 ≤ mv ∧ mv ≤ 1854) := by
  have hgood : vqpsGood (s.vqpsAt mv) = true ↔ 1746 ≤ mv ∧ mv ≤ 1854 := decide_eq_true_iff
  refine ⟨_, rfl, (RegsAndEvents.refl _).putFlag, SameRegs.trans (t := s.vqpsAt mv) (.of_regs rfl) (SameRegs.putFlag (.refl _ _)), ?_⟩
  rw [State.get_putFlag_self rfl rfl, ← hgood]
  split <;> simp_all

theorem vqpsPresent_reads {mv : Nat} (hjob : (otpJob s).isSome = false) : VqpsRead mv s (vqpsPresent mv s) := by
  obtain ⟨t, ht, honly, hregs, hshown⟩ := vqpsShown (s := s) (mv := mv)
  by_cases hq : s.always.vqpsReported = true ∨ mv ≤ 300
  · rw [vqpsPresent_quiet hq, ← ht]
    refine ⟨vqpsAt_pins honly, (flag_iff rfl).trans hshown, hregs, ?_, vqpsAt_frame honly id⟩
    rw [vqpsReported_quiet hq, vqpsAt_always honly]
  · obtain ⟨hnew, hhigh⟩ := not_or.1 hq
    have hget : (t.cause Cause.PWR_vqps_present).get OTP_STATUS_vqps = t.get OTP_STATUS_vqps :=
      State.get_of_reg (State.reg_cause_ne t (by decide))
    have hcause := honly.cause (c := Cause.PWR_vqps_present)
    rw [vqpsPresent_reports (Bool.eq_false_iff.2 hnew) (by omega) hjob, ← ht]
    have hpins := vqpsAt_pins hcause
    refine ⟨hpins, ?_, hregs.cause, ?_, vqpsAt_frame hcause _⟩
    · rw [flag_iff rfl, ← hshown, ← hget]
      exact Iff.rfl
    · rw [State.modAlways, vqpsAt_always hcause, decide_eq_true (by omega : 300 < mv), Bool.or_true]

end

/-- Settles O4: each pin acts on the pins' record and the registers that show it, and a fall of RESET_N or PWRGOOD triggers the anchor sequence. -/
theorem pinEventsActOnTheSideband : Obligations.PinEventsActOnTheSideband := by
  intro s
  refine ⟨fun hvaon => ?_, ⟨_, rfl, rfl, rfl, rfl, rfl, rfl, rfl, rfl, rfl, rfl⟩, rfl, rfl, fun hreset hpower n => ?_,
    fun hreset hpower hcold n => ?_, fun hreset hpower hended => ?_, fun hreset hpower hended => ?_, fun mv hjob => ?_⟩
  · have hrise : vaonRise s = setMode Mode.cold { s with pins := { s.pins with vaon := true } } := if_neg (by rw [hvaon]; exact Bool.false_ne_true)
    have honly := setMode_only (s := { s with pins := { s.pins with vaon := true } }) (m := Mode.cold)
    refine ⟨_, congrArg Host.Outcome.next hrise, honly.keep (F := State.pins) (fun _ => rfl) rfl, ?_, mode_setMode (by decide) (by decide) (by decide), ?_⟩
    · exact SameRegs.trans (t := { s with pins := { s.pins with vaon := true } }) (.of_regs rfl) setMode_regs
    · exact honly.keep (F := fun t : State => { t with pins := s.pins, regs := s.regs }) (fun _ => rfl) rfl
  · exact congrArg Host.Outcome.next (resetRise_unpowered hreset hpower)
  · have hsample : samplesNode s = true := by
      rw [samplesNode, hpower, Bool.true_and, Bool.or_eq_true]
      refine hcold.imp (fun h => by rw [h]; rfl) fun h => ?_
      obtain ⟨r, hr, hsource⟩ := Option.map_eq_some_iff.1 h
      rw [hr, Option.any_some, hsource]
      rfl
    have hrise := resetRise_samples (n := n) hreset hsample n.isLt
    refine ⟨_, congrArg Host.Outcome.next hrise, ?_, fun hup => ?_, ?_, ?_⟩
    · split
      · rfl
      · exact showStrap_only.keep (F := State.pins) (fun _ => rfl) rfl
    · rw [hup, if_neg Bool.false_ne_true]
      refine ⟨showStrap_strap.trans (Nat.mod_eq_of_lt n.isLt), showStrap_id.trans (Nat.mod_eq_of_lt n.isLt), showStrap_static.trans ?_⟩
      exact congrArg (fun k => 0x48 + k % 8) (Nat.mod_eq_of_lt n.isLt)
    · split
      · exact .of_regs rfl
      · exact SameRegs.trans (t := { s with pins := { s.pins with resetN := true, nodeid := n } }) (.of_regs rfl) showStrap_regs
    · split
      · rfl
      · exact showStrap_only.keep (F := fun t : State => { t with pins := s.pins, regs := s.regs }) (fun _ => rfl) rfl
  · have hexec : exec .resetNLow s = .next (resetTrigger ResetKind.warm ResetSource.resetN false { s with pins := { s.pins with resetN := false } }) :=
      congrArg Host.Outcome.next (if_pos (by rw [hreset, hpower]; rfl))
    have ht := anchors_of_ended (u := { s with pins := { s.pins with resetN := false } }) (source := ResetSource.resetN) hended (by decide)
    exact ⟨_, hexec, by rw [ht.start], by rw [ht.start], by rw [ht.pins], ht.source, by rw [ht.start], by rw [ht.modes], by rw [ht.modes], ht.up⟩
  · have hexec : exec .pwrgoodFall s = .next (resetTrigger ResetKind.warm ResetSource.pwrgood false
        (closeExcursion true { s with pins := { s.pins with pwrgood := false } })) := congrArg Host.Outcome.next (if_pos (by rw [hreset, hpower]; rfl))
    have hclose := closeExcursion_touches (s := { s with pins := { s.pins with pwrgood := false } }) (atReset := true)
    have ht := anchors_of_ended (u := closeExcursion true { s with pins := { s.pins with pwrgood := false } }) (source := ResetSource.pwrgood)
      (by rw [hclose.keeps_start]; exact hended) (by decide)
    exact ⟨_, hexec, by rw [ht.start], by rw [ht.start], by rw [ht.pins, hclose.keeps_pins], ht.source, by rw [ht.start], by rw [ht.modes],
      by rw [ht.modes], ht.up⟩
  · exact ⟨_, rfl, vqpsPresent_reads hjob⟩

end Sys2Proof.Machine
end

section
/-!
PROOF. Requested resets: the paired write that asks, the drain, the anchor sequence and its end.
-/
set_option autoImplicit false
set_option Elab.async false

namespace Sys2Proof.Machine
open Reg Bit

/-- The dies that an abandoned entry put into self-refresh have left it. -/
def undoAwake (x : Transition) (s : State) : State :=
  if x.source = Mode.retention || x.source = Mode.safe then s
  else forEach ((List.range 16).filter fun d => natBit s.always.selfRefresh d) leaveSelfRefresh s

/-- No transition, no flush of it and no self-test of it is left. -/
def undoCleared (x : Transition) (s : State) : State := { s with
  modes := { s.modes with inflight := none, intakeClosed := x.source == Mode.idle }
  landing := { s.landing with entryFlush := none }
  test := if x.req.target = Mode.cold then { s.test with run := none } else s.test }

theorem modeUndo_eq (x : Transition) (s : State) :
    modeUndo x s = ((undoCleared x (undoAwake x s)).put LDG_STATUS_powered_down 0).put TST_STATUS_phase 0 := by
  unfold modeUndo
  extract_lets out
  have hout : out = undoAwake x s := rfl
  clear_value out
  rw [← hout]
  rfl

/-! ### What a flush, a confirmation of self-refresh and the undoing of a transition touch -/

namespace Touches
variable {l : List Part} {s t u : State}

theorem drewMany (h : Touches l s t) {n : Nat} (hl : .free ∈ l := by decide) : Touches l s (t.drewMany n) := h.free hl

/-- The parts that a flush of the landing changes. -/
abbrev flushParts : List Part := [.landing, .regs, .events, .hcs, .dram]

theorem writeBack (h : Touches flushParts s t) {n : Nat} : Touches flushParts s (writeBack n t) := by
  refine Touches.add48 ?_
  have hlines := h.forEach (f := fun m s => match lineAt s m with | some l => setLine m { l with st := .gathered } s | none => s)
    (xs := ((List.range 4).map fun k => n / 4 * 4 + k).filter fun m => (lineAt t m).any fun l => l.st == .dirty) fun m u ih => by
      split
      · exact ih.landing
      · exact ih
  exact (hlines.dram).modHc

theorem flushStart (h : Touches flushParts s t) {lines : List (Nat × Line)} : Touches flushParts s (flushStart lines t).2 :=
  h.forEach fun _ u ih => by
    split
    · exact .ite ih.writeBack ih
    · exact ih

theorem noAlloc (h : Touches flushParts s t) {all : Bool} {g : Nat} : Touches flushParts s (noAlloc all g t) := h.landing

theorem ldgEnd (h : Touches l s t) {result : Nat} (hl : .landing ∈ l := by decide) (hr : .regs ∈ l := by decide) (he : .events ∈ l := by decide) :
    Touches l s (ldgEnd result t) := (((((h.landing hl).put hr).put hr).put hr).put hr).cause hr he

theorem entryFlushStart (h : Touches flushParts s t) : Touches flushParts s (entryFlushStart t) :=
  ((Touches.ite h.ldgEnd h).noAlloc.flushStart).landing

/-- The parts that the undoing of a transition changes. -/
abbrev undoParts : List Part := [.always, .regs, .hcs, .free, .modes, .landing, .test]

theorem leaveSelfRefresh (h : Touches undoParts s t) {d : Nat} : Touches undoParts s (leaveSelfRefresh d t) :=
  ((h.always.put).put.put).forEach fun _ _ ih => .ite ih (ih.drewMany.modHc).put

theorem confirmSelfRefresh (h : Touches [.always, .regs, .dram] s t) {d : Nat} : Touches [.always, .regs, .dram] s (confirmSelfRefresh d t) :=
  (((h.always.modDie).put).put.put).forEach fun _ _ ih => .ite ih ih.put

theorem undoAwake (h : Touches undoParts s t) {x : Transition} : Touches undoParts s (undoAwake x t) :=
  .ite h (h.forEach fun _ _ ih => ih.leaveSelfRefresh)

theorem undoCleared (h : Touches undoParts s t) {x : Transition} : Touches undoParts s (undoCleared x t) :=
  h.trans (by rfl : Touches undoParts t (Machine.undoCleared x t))

theorem modeUndo (h : Touches undoParts s t) {x : Transition} : Touches undoParts s (modeUndo x t) :=
  modeUndo_eq x t ▸ ((h.undoAwake.undoCleared).put).put

theorem closeExcursion (h : Touches l s t) {atReset : Bool} (hr : .regs ∈ l := by decide) (ha : .always ∈ l := by decide) :
    Touches l s (closeExcursion atReset t) := by
  unfold Machine.closeExcursion
  split
  · exact ((((h.setReg hr).setReg hr).addSat hr).always ha).modAlways ha
  · exact h

theorem showAnchor (h : Touches l s t) (hr : .regs ∈ l := by decide) : Touches l s (showAnchor t) := by
  unfold Machine.showAnchor
  split
  · exact h
  · exact ((((h.setReg hr).put hr).setReg hr).setReg hr).setReg hr

theorem arrayCut (h : Touches l s t) (hf : .free ∈ l := by decide) (ha : .always ∈ l := by decide) : Touches l s (arrayCut t) :=
  .ite h (.ite (((h.drew hf).drew hf).drew hf) ((((h.drew hf).drew hf).drew hf).modAlways ha))

end Touches

section
variable {s : State} {src : Nat} {v : Word}

/-- The transition in flight is undone, and none is left. -/
theorem modeUndo_inflight {x : Transition} : (modeUndo x s).modes.inflight = none := by
  rw [modeUndo_eq]
  generalize hu : undoCleared x (undoAwake x s) = u
  have h : ((u.put LDG_STATUS_powered_down 0).put TST_STATUS_phase 0).modes = u.modes :=
    (OnlyRegs.put (OnlyRegs.put (.refl u))).keep (F := State.modes) (fun _ => rfl) rfl
  rw [h, ← hu]
  rfl

theorem abandonTransition_inflight : (abandonTransition s).modes.inflight = none := by
  unfold abandonTransition
  split
  · assumption
  · exact modeUndo_inflight

theorem abandonTransition_touches : Touches (.commit :: Touches.undoParts) s (abandonTransition s) := by
  unfold abandonTransition
  split
  · exact .refl _ _
  · exact (Touches.commit (.refl _ _)).trans ((Touches.modeUndo (.refl _ _)).mono (by decide))

/-! ### The paired write of GLB_RESET_CTRL -/

theorem rowAt_resetCtrl : rowAt GLB_RESET_CTRL = some (resetCtrlRow, 0) := by decide +kernel

/-- The row of the complement. -/
def resetCtrlCplRow : RegRow := ⟨0x20C, 0x4, 1, 0x0, 0x0, .complement, 0x0, 0x0, 0x0, 0x0, false, 14⟩

theorem rowAt_resetCtrlCpl : rowAt GLB_RESET_CTRL_CPL = some (resetCtrlCplRow, 0) := by decide +kernel

/-- The register takes the word, and the pending one is gone. -/
def resetWord (v : Word) (s : State) : State :=
  plainWrite resetCtrlRow GLB_RESET_CTRL v { s with pairs := s.pairs.erase GLB_RESET_CTRL }

theorem write_resetPair (hw : writable s GLB_RESET_CTRL = true) (hw' : writable s GLB_RESET_CTRL_CPL = true)
    (hpair : s.pairs.find GLB_RESET_CTRL = none) : write src GLB_RESET_CTRL_CPL (~~~v) (write src GLB_RESET_CTRL v s) = resetCtrl src (resetWord v s) := by
  have hfirst : write src GLB_RESET_CTRL v s = { s with pairs := s.pairs.ins GLB_RESET_CTRL ⟨v, src⟩ } := by
    have hrow : write src GLB_RESET_CTRL v s = pairFirst GLB_RESET_CTRL src v s := (write_of_writable hw rowAt_resetCtrl src v).trans rfl
    rw [hrow, pairFirst, hpair]
    rfl
  have hsecond (t : State) (hw : writable t GLB_RESET_CTRL_CPL = true) :
      write src GLB_RESET_CTRL_CPL (~~~v) t = pairSecond GLB_RESET_CTRL src (~~~v) t := (write_of_writable hw rowAt_resetCtrlCpl src (~~~v)).trans rfl
  have hmatch := pairSecond_match (s := { s with pairs := s.pairs.ins GLB_RESET_CTRL ⟨v, src⟩ }) (src := src) (v := ~~~v)
    (KMap.find_ins_same _ _ _) rfl rfl
  rw [hfirst]
  refine (hsecond { s with pairs := s.pairs.ins GLB_RESET_CTRL ⟨v, src⟩ } hw').trans (hmatch.trans ?_)
  simp only [KMap.erase_ins_same]
  rfl

/-- What the word of a request shows. -/
theorem resetWord_get {f : Field} (hf : f.addr = GLB_RESET_CTRL) (hmask : ∀ k, f.lo ≤ k → k ≤ f.hi → (0xF7 : Word).getLsbD k = true) :
    (resetWord v s).get f = v.bits f.hi f.lo := by
  have hword : (resetWord v s).reg GLB_RESET_CTRL = (s.reg GLB_RESET_CTRL &&& ~~~0xF7) ||| (v &&& 0xF7) := by
    rw [resetWord, plainWrite, State.reg_setReg_same]
    simp [plainWord, resetCtrlRow]
    rfl
  rw [State.get, hf, hword]
  refine bits_congr fun k hlo hhi => ?_
  rw [BitVec.getLsbD_or, BitVec.getLsbD_and, BitVec.getLsbD_and, BitVec.getLsbD_not, hmask k hlo hhi]
  simp

/-- A request of a warm or base-die-only reset. -/
theorem resetCtrl_requests {k : Nat} (hk : k = 1 ∨ k = 2) (hkind : s.get GLB_RESET_CTRL_kind = k) (hfree : s.start.request = none) :
    resetCtrl src s = s.modStart fun x => { x with
      request := some { kind := k, source := ResetSource.ctrl, flush := s.flag GLB_RESET_CTRL_flush, draining := false } } := by
  rw [resetCtrl, hkind, if_pos hk, resetRequest]
  simp only [State.modStart, hfree]

/-- A request of a port-only reset made in band. -/
theorem resetCtrl_port (hkind : s.get GLB_RESET_CTRL_kind = 3) (hsrc : src < 16) : resetCtrl src s = s.modStart fun x => { x with
    portResets := insertSorted (s.get GLB_RESET_CTRL_port) x.portResets } := by
  simp [resetCtrl, hkind, portResetRequest, inBandSource, hsrc]

theorem resetWord_start (f : Start → Start) : ((resetWord v s).modStart f).start = f s.start := rfl

theorem resetWord_pairs (f : Start → Start) : ((resetWord v s).modStart f).pairs = s.pairs.erase GLB_RESET_CTRL := rfl

theorem resetWord_regs (f : Start → Start) : SameRegs [GLB_RESET_CTRL] s ((resetWord v s).modStart f) :=
  (SameRegs.setReg (t := { s with pairs := s.pairs.erase GLB_RESET_CTRL }) (.of_regs rfl)).modStart

theorem resetWord_frame (f : Start → Start) :
    { (resetWord v s).modStart f with start := s.start, regs := s.regs, pairs := s.pairs } = s :=
  (OnlyRegs.setReg (.refl { s with pairs := s.pairs.erase GLB_RESET_CTRL })).keep
    (F := fun t : State => { t.modStart f with start := s.start, regs := s.regs, pairs := s.pairs }) (fun _ => rfl) rfl

/-- The word of a request of a kind, with or without a flush. -/
theorem resetWord_asks {k : Nat} (hk : k = 1 ∨ k = 2) (flush : Bool) (hw : writable s GLB_RESET_CTRL = true)
    (hw' : writable s GLB_RESET_CTRL_CPL = true) (hpair : s.pairs.find GLB_RESET_CTRL = none) (hfree : s.start.request = none) :
    write src GLB_RESET_CTRL_CPL (~~~(BitVec.ofNat 32 (k + 4 * boolNat flush))) (write src GLB_RESET_CTRL (BitVec.ofNat 32 (k + 4 * boolNat flush)) s) =
      (resetWord (BitVec.ofNat 32 (k + 4 * boolNat flush)) s).modStart fun x => { x with
        request := some { kind := k, source := ResetSource.ctrl, flush := flush, draining := false } } := by
  have hbits : Word.bits (BitVec.ofNat 32 (k + 4 * boolNat flush)) 1 0 = k ∧ Word.bits (BitVec.ofNat 32 (k + 4 * boolNat flush)) 2 2 = boolNat flush := by
    rcases hk with rfl | rfl <;> cases flush <;> decide
  generalize BitVec.ofNat 32 (k + 4 * boolNat flush) = v at *
  have hmask (j : Nat) (hj : j ≤ 2) : (0xF7 : Word).getLsbD j = true := by
    interval_cases j <;> rfl
  have hkind : (resetWord v s).get GLB_RESET_CTRL_kind = k := (resetWord_get rfl fun j _ hj => hmask j (Nat.le_trans hj (by decide))).trans hbits.1
  have hflush : (resetWord v s).flag GLB_RESET_CTRL_flush = flush := by
    have hget : (resetWord v s).get GLB_RESET_CTRL_flush = boolNat flush := (resetWord_get rfl fun j _ hj => hmask j hj).trans hbits.2
    rw [State.flag, hget]
    cases flush <;> rfl
  rw [write_resetPair hw hw' hpair, resetCtrl_requests hk hkind hfree, hflush]

/-- The word of a port-only reset of a port. -/
theorem resetWord_asksPort (p : Port) (hw : writable s GLB_RESET_CTRL = true) (hw' : writable s GLB_RESET_CTRL_CPL = true)
    (hpair : s.pairs.find GLB_RESET_CTRL = none) (hsrc : src < 16) :
    write src GLB_RESET_CTRL_CPL (~~~(BitVec.ofNat 32 (3 + 16 * p.val))) (write src GLB_RESET_CTRL (BitVec.ofNat 32 (3 + 16 * p.val)) s) =
      (resetWord (BitVec.ofNat 32 (3 + 16 * p.val)) s).modStart fun x => { x with portResets := insertSorted p.val x.portResets } := by
  have hbits : Word.bits (BitVec.ofNat 32 (3 + 16 * p.val)) 1 0 = 3 ∧ Word.bits (BitVec.ofNat 32 (3 + 16 * p.val)) 7 4 = p.val := by
    revert p
    decide
  generalize BitVec.ofNat 32 (3 + 16 * p.val) = v at *
  have hkind : (resetWord v s).get GLB_RESET_CTRL_kind = 3 := (resetWord_get rfl fun j _ (hj : j ≤ 1) => by interval_cases j <;> rfl).trans hbits.1
  have hport : (resetWord v s).get GLB_RESET_CTRL_port = p.val :=
    (resetWord_get rfl fun j (hlo : 4 ≤ j) (hj : j ≤ 7) => by interval_cases j <;> rfl).trans hbits.2
  rw [write_resetPair hw hw' hpair, resetCtrl_port hkind hsrc, hport]

/-! ### Requests that begin -/

/-- A request without a flush, once START has ended, is the trigger of its reset. -/
theorem requestBegin_triggers {r : ResetRequest} (hr : s.start.request = some r) (hports : s.start.portResets = []) (hdrain : r.draining = false)
    (hflush : r.flush = false) : requestBegin s = resetTrigger r.kind r.source false (s.modStart fun x => { x with portResets := [] }) := by
  simp [requestBegin, hports, forEach, State.modStart, hr, hdrain, hflush]

/-- A request with a flush begins to drain the device. -/
theorem requestBegin_drains {r : ResetRequest} (hr : s.start.request = some r) (hports : s.start.portResets = []) (hdrain : r.draining = false)
    (hflush : r.flush = true) (hended : s.start.phase = .ended) (hup : s.up = true) (hmode : s.mode ≠ Mode.retention) : ∃ u,
      u.start = { s.start with portResets := [], request := some { r with draining := true } } ∧
      requestBegin s = entryFlushStart (openIntake { abandonTransition u with modes := { (abandonTransition u).modes with pending := none } }) := by
  have hlist : requestBegin s = requestBegin (s.modStart fun x => { x with portResets := [] }) := by
    simp [requestBegin, hports, forEach, State.modStart]
  obtain ⟨hr', hports', hended', hup', hmode'⟩ : (s.modStart fun x => { x with portResets := [] }).start.request = some r ∧
      (s.modStart fun x => { x with portResets := [] }).start.portResets = [] ∧
      (s.modStart fun x => { x with portResets := [] }).start.phase = .ended ∧ (s.modStart fun x => { x with portResets := [] }).up = true ∧
      (s.modStart fun x => { x with portResets := [] }).mode ≠ Mode.retention := ⟨hr, rfl, hended, hup, hmode⟩
  refine ⟨(s.modStart fun x => { x with portResets := [] }).modStart fun x => { x with request := some { r with draining := true } }, rfl, ?_⟩
  rw [hlist]
  generalize s.modStart (fun x => { x with portResets := [] }) = w at *
  have hself : (w.modStart fun x => { x with portResets := [] }) = w := by
    rw [State.modStart, ← hports']
  rw [requestBegin, hports', hself]
  simp only [forEach, List.foldl_nil]
  rw [hr']
  simp [hdrain, hflush, hended', hup', hmode']

/-! ### The end of a reset -/

theorem resetLogic_touches (hkind : s.start.kind = ResetKind.warm) : Touches [.regs, .landing, .events] (resetParts s) (resetLogic s) := by
  unfold resetLogic
  extract_lets base s1 s2 s3
  have hbase : base = false := by
    simp only [base, hkind]
    rfl
  have h3 : Touches [.regs, .landing, .events] s1 s3 := by
    simp only [s3, hbase, Bool.false_eq_true, if_false]
    exact (((Touches.put (.refl _ _)).put).put).put
  exact .ite h3.ldgEnd h3

theorem landing_ldgEnd (result : Nat) : (ldgEnd result s).landing.lines = s.landing.lines := by
  rw [ldgEnd, State.cause_landing]
  exact (OnlyRegs.put (OnlyRegs.put (OnlyRegs.put (OnlyRegs.put (.refl { s with landing := { s.landing with op := none } }))))).keep
    (F := fun t : State => t.landing.lines) (fun _ => rfl) rfl

theorem resetLogic_lines (hkind : s.start.kind = ResetKind.warm) : (resetLogic s).landing.lines = [] := by
  unfold resetLogic
  extract_lets base s1 s2 s3
  have hbase : base = false := by
    simp only [base, hkind]
    rfl
  have h3 : Touches [.regs] s1 s3 := by
    simp only [s3, hbase, Bool.false_eq_true, if_false]
    exact (((Touches.put (.refl _ _)).put).put).put
  have hlines : s3.landing.lines = [] := by
    rw [h3.keeps_landing]
    rfl
  split
  · rw [landing_ldgEnd, hlines]
  · exact hlines

/-- The logic in its reset state. -/
structure LogicReset (s t : State) : Prop where
  start : t.start = (resetParts s).start
  commit : t.commit = (resetParts s).commit
  staged : t.staged = []
  boxes : t.purser.boxes = []
  pins : t.pins = { s.pins with snapDrive := false, snapIgnore := false }
  lines : t.landing.lines = []

theorem resetLogic_reset (hkind : s.start.kind = ResetKind.warm) : LogicReset s (showAnchor (resetLogic s)) := by
  have h := resetLogic_touches hkind
  have ha : Touches [.regs] (resetLogic s) (showAnchor (resetLogic s)) := Touches.showAnchor (.refl _ _)
  have hpurser : (resetParts s).purser.boxes = [] := by
    have hbase : (s.start.kind == ResetKind.baseOnly) = false := by
      rw [hkind]
      rfl
    unfold resetParts
    simp only [hbase, Bool.false_eq_true, if_false]
    rfl
  refine ⟨ha.keeps_start.trans h.keeps_start, ha.keeps_commit.trans h.keeps_commit, ?_, ?_, ?_, ?_⟩
  · rw [ha.keeps_staged, h.keeps_staged]
    rfl
  · rw [ha.keeps_purser, h.keeps_purser, hpurser]
  · rw [ha.keeps_pins, h.keeps_pins]
    rfl
  · rw [ha.keeps_landing, resetLogic_lines hkind]

/-- The logic is held in reset, or waits out the delay. -/
theorem holdOrDelay_phase {source : Nat} : (holdOrDelay source s).start.phase = .held ∨ (holdOrDelay source s).start.phase = .delay := by
  unfold holdOrDelay
  extract_lets held
  cases held
  · exact .inr rfl
  · exact .inl rfl

theorem up_of_waiting (h : s.start.phase = .held ∨ s.start.phase = .delay) : s.up = false := by
  rcases h with h | h <;> rw [State.up, h]

/-- An end of an anchor sequence is the end of its reset, on a state with the same pins and type. -/
theorem anchorEnd_ends {confirmed : Nat} (h : s.start.phase = .anchoring) : ∃ source u, u.start = s.start ∧ u.pins = s.pins ∧
    anchorEnd confirmed s = resetEnd source u := by
  unfold anchorEnd
  rw [if_neg (not_not.2 h)]
  extract_lets s1 missing s2 source
  have h1 : Touches [.always, .regs, .dram] s s1 := (Touches.refl _ s).forEach fun _ _ ih => ih.confirmSelfRefresh
  have h2 : Touches [.always, .regs, .dram] s s2 := h1.modAlways
  have h3 : Touches [.always, .regs, .dram] s (closeExcursion false s2) := h2.closeExcursion
  exact ⟨source, _, h3.keeps_start, h3.keeps_pins, rfl⟩

/-- What the end of a warm reset leaves. -/
theorem resetEnd_warm {source : Nat} (hkind : s.start.kind = ResetKind.warm) : ∃ u, resetEnd source s = holdOrDelay source u ∧
    u.commit.armed = none ∧ u.staged = [] ∧ u.landing.lines = [] ∧ u.purser.boxes = [] ∧ u.pins.nodeid = s.pins.nodeid := by
  have hcut : Touches [.free, .always] s (arrayCut s) := Touches.arrayCut (.refl _ _)
  have hkind' : (arrayCut s).start.kind = ResetKind.warm := by rw [hcut.keeps_start, hkind]
  have hreset := resetLogic_reset hkind'
  have hpins := hcut.keeps_pins
  refine ⟨showAnchor (resetLogic (arrayCut s)), ?_, ?_, hreset.staged, hreset.lines, hreset.boxes, ?_⟩
  · have hwarm : (showAnchor (resetLogic (arrayCut s))).start.kind ≠ ResetKind.baseOnly := by
      rw [hreset.start]
      exact fun e => absurd (hkind'.symm.trans e) (by decide)
    rw [resetEnd, if_neg hwarm]
  · rw [hreset.commit]
    rfl
  · rw [hreset.pins, hpins]

end

/-- Settles O6: a pair asks, a request triggers its reset at once or after its drain, and the sequence ends in reset. -/
theorem resetsAreTakenAsRequested : Obligations.ResetsAreTakenAsRequested := by
  intro s src
  refine ⟨fun hw hw' hpair hfree => ⟨fun flush => ?_, fun flush => ?_, fun hsrc p => ?_⟩,
    fun hended hup r hr hsource => ⟨fun hdrain hdone => ?_, fun hdrain hflush hports => ?_, fun hdrain hflush hports hmode => ?_⟩,
    fun hphase hkind confirmed => ?_, fun hup a x hx => ?_⟩
  · exact ⟨_, congrArg Host.Outcome.next (resetWord_asks (.inl rfl) flush hw hw' hpair hfree), resetWord_start _, resetWord_regs _,
      resetWord_frame _, resetWord_pairs _⟩
  · exact ⟨_, congrArg Host.Outcome.next (resetWord_asks (.inr rfl) flush hw hw' hpair hfree), resetWord_start _, resetWord_regs _, resetWord_frame _⟩
  · exact ⟨_, congrArg Host.Outcome.next (resetWord_asksPort p hw hw' hpair hsrc), resetWord_start _, resetWord_regs _, resetWord_frame _⟩
  · have hexec : resetDrained s = resetTrigger r.kind r.source true s := by
      simp [resetDrained, hr, hdrain, hdone]
    have ht := anchorStart_started (kind := r.kind) (source := r.source) (flushed := true) (s := s)
    rw [← resetTrigger_ended hended hsource] at ht
    exact ⟨_, congrArg Host.Outcome.next hexec, by rw [ht.start], by rw [ht.start], by rw [ht.start], by rw [ht.modes]⟩
  · have ht := anchorStart_started (kind := r.kind) (source := r.source) (flushed := false) (s := s.modStart fun x => { x with portResets := [] })
    rw [← resetTrigger_ended (s := s.modStart fun x => { x with portResets := [] }) hended hsource] at ht
    exact ⟨_, congrArg Host.Outcome.next (requestBegin_triggers hr hports hdrain hflush), by rw [ht.start], by rw [ht.start], by rw [ht.start],
      by rw [ht.modes]⟩
  · obtain ⟨u, hu, hexec⟩ := requestBegin_drains hr hports hdrain hflush hended hup hmode
    have hstart : (abandonTransition u).start = u.start := abandonTransition_touches.keeps_start
    have hnone : (abandonTransition u).modes.inflight = none := abandonTransition_inflight
    generalize abandonTransition u = w at *
    have hflushed := Touches.entryFlushStart (.refl _ (openIntake { w with modes := { w.modes with pending := none } }))
    refine ⟨_, congrArg Host.Outcome.next hexec, ?_, ?_, ?_, ?_⟩
    · rw [hflushed.keeps_start]
      exact (congrArg Start.phase (hstart.trans hu)).trans hended
    · rw [hflushed.keeps_start]
      exact congrArg Start.request (hstart.trans hu)
    · rw [hflushed.keeps_modes]
      exact hnone
    · rw [hflushed.keeps_modes]
      rfl
  · obtain ⟨source, u, hstart, hpins, hexec⟩ := anchorEnd_ends (confirmed := confirmed) hphase
    obtain ⟨w, hend, harmed, hstaged, hlines, hboxes, hnode⟩ := resetEnd_warm (source := source) (s := u) (by rw [hstart, hkind])
    have hphase := holdOrDelay_phase (s := w) (source := source)
    exact ⟨_, congrArg Host.Outcome.next (hexec.trans hend), hphase, up_of_waiting hphase, harmed, hstaged, hlines, hboxes, hnode.trans (by rw [hpins])⟩
  · refine congrArg Host.Outcome.next ((whenUp_of_up hup _).trans ?_)
    simp only [pairExpire, hx, pairFail]

end Sys2Proof.Machine
end

section
/-!
PROOF. The watchdog and the faults of the purser.
-/
set_option autoImplicit false
set_option Elab.async false

namespace Sys2Proof.Machine
open Reg Bit

section
variable {s : State} {a : Nat}

/-- The registers that a warm reset without an anchor sequence may change, among those it keeps. -/
def restartReg (a : Nat) : Prop := anchorReg a ∨ a < 0x300 ∨ a = PWR_SUPPLY ∨ a = FAB_NODE ∨ a = MBX_I3C ∨ a / 0x10000 = 0xB

theorem find_filter_kept {α : Type} (m : KMap α) (f : Nat → Bool) (k : Nat) (h : f k = true) : KMap.find (m.filter fun p => f p.1) k = m.find k := by
  induction m with
  | nil => rfl
  | cons p m ih =>
    by_cases hp : f p.1 = true
    · rw [List.filter_cons_of_pos (by exact hp), KMap.find, KMap.find, ih]
    · have hne : p.1 ≠ k := fun e => hp (e ▸ h)
      rw [List.filter_cons_of_neg (by exact hp), ih, KMap.find, if_neg hne]

/-- A register that a reset keeps. -/
theorem resetParts_reg (h : keptRegister s.start.kind a = true) : (resetParts s).reg a = s.reg a := by
  unfold State.reg KMap.get
  rw [show (resetParts s).regs = s.regs.filter fun p => keptRegister s.start.kind p.1 from rfl, find_filter_kept _ _ _ h]

/-- The parts that the end of a warm reset changes beyond its reset values. -/
abbrev restartParts : List Part := [.regs, .landing, .events, .free, .always, .start]

theorem Confined.showAnchor {t : State} (h : Confined restartParts restartReg s t) : Confined restartParts restartReg s (showAnchor t) := by
  unfold Machine.showAnchor
  split
  · exact h
  · exact ((((h.setReg (.inr (.inl (by decide)))).put (.inr (.inl (by decide)))).setReg (.inr (.inl (by decide)))).setReg
      (.inr (.inl (by decide)))).setReg (.inr (.inl (by decide)))

theorem restartReg_landing (h : a / 0x10000 = 0xB) : restartReg a := .inr (.inr (.inr (.inr (.inr h))))

theorem Confined.ldgEnd {t : State} (h : Confined restartParts restartReg s t) {result : Nat} : Confined restartParts restartReg s (ldgEnd result t) :=
  have hopen : Confined restartParts restartReg s { t with landing := { t.landing with op := none } } := h.part h.touches.landing rfl
  ((((hopen.put (restartReg_landing rfl)).put (restartReg_landing rfl)).put (restartReg_landing rfl)).put (restartReg_landing rfl)).cause
    (restartReg_landing rfl)

theorem resetLogic_confined (hkind : s.start.kind = ResetKind.warm) : Confined restartParts restartReg (resetParts s) (resetLogic s) := by
  unfold resetLogic
  extract_lets base s1 s2 s3
  have hbase : base = false := by
    simp only [base, hkind]
    rfl
  have h3 : Confined restartParts restartReg s1 s3 := by
    simp only [s3, hbase, Bool.false_eq_true, if_false]
    have hnode := Confined.put (Confined.put (.refl restartParts restartReg s1) (f := FAB_NODE_strap) (v := s1.pins.nodeid % 64)
      (.inr (.inr (.inr (.inl rfl))))) (f := FAB_NODE_id) (v := s1.pins.nodeid % 64) (.inr (.inr (.inr (.inl rfl))))
    exact (hnode.put (.inr (.inr (.inr (.inr (.inl rfl)))))).put (.inr (.inr (.inl rfl)))
  exact .ite h3.ldgEnd h3

/-- The end of a warm reset keeps what R75 keeps. -/
theorem resetEnd_reg {source : Nat} (hkind : s.start.kind = ResetKind.warm) (hkept : keptRegister ResetKind.warm a = true) (ha : ¬restartReg a) :
    (resetEnd source s).reg a = s.reg a := by
  have hcut : Touches [.free, .always] s (arrayCut s) := Touches.arrayCut (.refl _ _)
  have hkind' : (arrayCut s).start.kind = ResetKind.warm := by rw [hcut.keeps_start, hkind]
  have hwarm : (showAnchor (resetLogic (arrayCut s))).start.kind ≠ ResetKind.baseOnly := by
    rw [(resetLogic_reset hkind').start]
    exact fun e => absurd (hkind'.symm.trans e) (by decide)
  have hlogic : (showAnchor (resetLogic (arrayCut s))).reg a = (resetParts (arrayCut s)).reg a := (resetLogic_confined hkind').showAnchor.regs a ha
  have hhold (u : State) : (holdOrDelay source u).reg a = u.reg a := State.reg_of_regs rfl a
  rw [resetEnd, if_neg hwarm, hhold, hlogic, resetParts_reg (by rw [hkind']; exact hkept), State.reg_of_regs hcut.keeps_regs]

/-- A warm reset without an anchor sequence keeps what R75 keeps. -/
theorem resetHeld_reg {source : Nat} (hphase : s.start.phase = .running) (hkept : keptRegister ResetKind.warm a = true) (ha : ¬restartReg a) :
    (resetHeld ResetKind.warm source s).reg a = s.reg a := by
  have hjobs : Anchors s (resetJobs ResetKind.warm (commitReset s)) := (Confined.commitReset (.refl _ _ s)).resetJobs
  unfold resetHeld
  rw [if_neg (by simp [hphase]), if_neg (by simp [ResetKind.warm, ResetKind.baseOnly])]
  extract_lets r s1
  have h1 : s1.reg a = s.reg a := (State.reg_of_regs rfl a).trans (hjobs.regs a fun h => ha (.inl h))
  clear_value s1
  rw [resetEnd_reg rfl hkept ha, ← h1]
  exact State.reg_of_regs rfl a

/-- A trigger of a warm reset, with the logic up, keeps what R75 keeps. -/
theorem resetTrigger_reg {source : Nat} (hup : s.up = true) (hsource : source ≠ ResetSource.trip) (hkept : keptRegister ResetKind.warm a = true)
    (ha : ¬restartReg a) : (resetTrigger ResetKind.warm source false s).reg a = s.reg a := by
  have hanchor : (anchorStart ResetKind.warm source false s).reg a = s.reg a := anchorStart_started.regs a fun h => ha (.inl h)
  cases hphase : s.start.phase with
  | ended => rw [resetTrigger_ended hphase hsource, hanchor]
  | running =>
    by_cases hout : s.start.diesOut = true
    · have htrigger : resetTrigger ResetKind.warm source false s = anchorStart ResetKind.warm source false s := by
        simp [resetTrigger, hphase, hsource, anchorNeeded, hout]
      rw [htrigger, hanchor]
    · have htrigger : resetTrigger ResetKind.warm source false s = resetHeld ResetKind.warm source s := by
        simp [resetTrigger, hphase, hsource, anchorNeeded, hout]
      rw [htrigger, resetHeld_reg hphase hkept ha]
  | _ => simp [State.up, hphase] at hup

/-! ### Faults of the purser -/

/-- The halted purser, with its fault shown. -/
def faultShown (kind : Nat) (pc : Word) (s : State) : State :=
  (((s.modPurser fun x => { x with halted := some (kind, pc) }).put MBX_WDOG_cause kind).setReg MBX_WDOG_PC pc).modAlways
    fun x => { x with faultVersion := s.reg MBX_FW_VER }

theorem purserFault_halts {kind : Nat} (h : purserRuns s = true) (pc : Word) : purserFault kind pc s = faultShown kind pc s :=
  if_neg (by rw [h]; exact Bool.false_ne_true)

theorem faultShown_purser (kind : Nat) (pc : Word) : (faultShown kind pc s).purser = { s.purser with halted := some (kind, pc) } :=
  (Touches.modAlways (Touches.setReg (Touches.put (.refl [.regs, .always] (s.modPurser fun x => { x with halted := some (kind, pc) }))))).keeps_purser

theorem faultShown_regs (kind : Nat) (pc : Word) : SameRegs [MBX_WDOG, MBX_WDOG_PC] s (faultShown kind pc s) :=
  ((SameRegs.put (SameRegs.modPurser (.refl _ s))).setReg).modAlways

theorem faultShown_pc (kind : Nat) (pc : Word) : (faultShown kind pc s).reg MBX_WDOG_PC = pc :=
  (State.reg_of_regs rfl _).trans (State.reg_setReg_same _ _ _)

theorem faultShown_cause {kind : Nat} (hk : kind < 2 ^ 4) (pc : Word) : (faultShown kind pc s).get MBX_WDOG_cause = kind := by
  have hmod (u : State) (f : AlwaysOn → AlwaysOn) : (u.modAlways f).get MBX_WDOG_cause = u.get MBX_WDOG_cause := State.get_of_reg (State.reg_of_regs rfl _)
  rw [faultShown, hmod, State.get_setReg_ne (by decide)]
  exact State.get_put_self rfl hk

/-! ### An expiry -/

theorem up_congr {t : State} (hstart : t.start = s.start) (hmodes : t.modes = s.modes) (hmode : t.mode = s.mode) : t.up = s.up := by
  rw [State.up, State.up, hstart, hmodes, hmode]

theorem not_restartReg_wdog : ¬restartReg MBX_WDOG := by
  simp [restartReg, anchorReg, bringupReg, MBX_WDOG, GLB_COMMIT_CTRL, MBX_JOBS, MBX_EVT_CAUSE, PWR_SUPPLY, FAB_NODE, MBX_I3C]

theorem not_restartReg_wdogPc : ¬restartReg MBX_WDOG_PC := by
  simp [restartReg, anchorReg, bringupReg, MBX_WDOG_PC, GLB_COMMIT_CTRL, MBX_JOBS, MBX_EVT_CAUSE, PWR_SUPPLY, FAB_NODE, MBX_I3C]

/-- An expiry shows its cause and program counter, counts, and triggers its reset. -/
theorem watchdogExpiry_triggers (hup : s.up = true) (hstep : startStep s ≠ StartStep.arm) (hticks : s.purser.watchdog + 1250000 ≤ s.ticks)
    (hhalted : s.purser.halted = none) (pc : Word) : ∃ u, watchdogExpiry pc s = resetTrigger ResetKind.warm ResetSource.watchdog false u ∧
      Touches [.regs, .always] s u ∧ SameRegs [MBX_WDOG, MBX_WDOG_PC] s u ∧ u.get MBX_WDOG_cause = 1 ∧ u.reg MBX_WDOG_PC = pc := by
  have hcond : ¬(!s.up || startStep s == StartStep.arm || decide (s.ticks < s.purser.watchdog + 1250000)) = true := by
    simp [hup, hstep, hticks]
  unfold watchdogExpiry
  rw [if_neg hcond, hhalted]
  extract_lets s1 s2 s3
  have h1 : Touches [.regs, .always] s s1 ∧ SameRegs [MBX_WDOG, MBX_WDOG_PC] s s1 ∧ s1.get MBX_WDOG_cause = 1 ∧ s1.reg MBX_WDOG_PC = pc := by
    refine ⟨((Touches.put (.refl _ _)).setReg).modAlways, ((SameRegs.put (.refl _ s)).setReg).modAlways, ?_, ?_⟩
    · refine (State.get_of_reg (State.reg_of_regs rfl _)).trans ((State.get_setReg_ne (by decide)).trans ?_)
      exact State.get_put_self rfl (of_decide_eq_true rfl)
    · exact (State.reg_of_regs rfl _).trans (State.reg_setReg_same _ _ _)
  have hcounts {u : State} {f : Field} (hf : apart f MBX_WDOG_cause = true) (haddr : f.addr = MBX_WDOG) {n : Nat}
      (h : Touches [.regs, .always] s u ∧ SameRegs [MBX_WDOG, MBX_WDOG_PC] s u ∧ u.get MBX_WDOG_cause = 1 ∧ u.reg MBX_WDOG_PC = pc) :
      Touches [.regs, .always] s (u.addField f n) ∧ SameRegs [MBX_WDOG, MBX_WDOG_PC] s (u.addField f n) ∧
        (u.addField f n).get MBX_WDOG_cause = 1 ∧ (u.addField f n).reg MBX_WDOG_PC = pc := by
    obtain ⟨htouch, hregs, hcause, hpc⟩ := h
    refine ⟨htouch.addField, hregs.addField (by rw [haddr]; exact .head _), (State.get_put_apart hf).trans hcause, ?_⟩
    rw [State.addField, State.put, State.reg_setReg_ne _ _ (by rw [haddr]; decide), hpc]
  have h2 := hcounts (f := MBX_WDOG_resets) rfl rfl (n := 1) h1
  refine ⟨s3, rfl, ?_⟩
  simp only [s3]
  split
  · exact hcounts (f := MBX_WDOG_run) rfl rfl h2
  · exact h2

end

/-- Settles O35: the watchdog's registers are shown before the trigger of its reset, which keeps them. -/
theorem watchdogActsAsStated : Obligations.WatchdogActsAsStated := by
  intro s
  refine ⟨fun hruns => ?_, fun k pc hruns => ?_, fun pc hup hstep hticks hhalted => ?_, fun hup hservice hticks => ?_⟩
  · exact congrArg Host.Outcome.next (if_pos hruns)
  · exact ⟨_, congrArg Host.Outcome.next (purserFault_halts hruns pc), faultShown_purser _ pc, faultShown_cause (by omega) pc,
      faultShown_pc _ pc, faultShown_regs _ pc⟩
  · obtain ⟨u, hexec, hpart, hregs, hcause, hpc⟩ := watchdogExpiry_triggers hup hstep hticks hhalted pc
    have hup' : u.up = true := by
      rw [up_congr hpart.keeps_start hpart.keeps_modes (hregs.get (f := PWR_MODE_mode) (by decide)), hup]
    have hkeeps {a : Nat} (hkept : keptRegister ResetKind.warm a = true) (ha : ¬restartReg a) :
        (resetTrigger ResetKind.warm ResetSource.watchdog false u).reg a = u.reg a := resetTrigger_reg hup' (by decide) hkept ha
    refine ⟨_, congrArg Host.Outcome.next hexec, ?_, ?_⟩
    · rw [State.get_of_reg (f := MBX_WDOG_cause) (hkeeps (a := MBX_WDOG) (by decide) not_restartReg_wdog), hcause]
    · rw [hkeeps (a := MBX_WDOG_PC) (by decide) not_restartReg_wdogPc, hpc]
  · have hclear : watchdogCountClear s = (s.put MBX_WDOG_run 0).modPurser fun x => { x with skip := none } :=
      if_pos (by rw [hservice, decide_eq_true hticks]; rfl)
    have hpurser : ((s.put MBX_WDOG_run 0).modPurser fun x => { x with skip := none }).purser = { s.purser with skip := none } := rfl
    have hget (u : State) (f : Purser → Purser) : (u.modPurser f).get MBX_WDOG_run = u.get MBX_WDOG_run := State.get_of_reg (State.reg_of_regs rfl _)
    refine ⟨_, congrArg Host.Outcome.next ((whenUp_of_up hup _).trans hclear), ?_, hpurser, SameRegs.modPurser (SameRegs.put (.refl _ _))⟩
    rw [hget]
    exact State.get_put_self rfl (of_decide_eq_true rfl)

end Sys2Proof.Machine
end

section
/-!
PROOF. Transactions that a port takes at once: the admission of requests, and responses and notices.
-/
set_option autoImplicit false
set_option Elab.async false

namespace Sys2Proof.Machine
open Reg Bit

/-! ### A request that finds its port empty -/

/-- The parts that the admission of a request changes. -/
abbrev admissionParts : List Part := [.links, .activity, .nextUid]

/-- The number that a request delivered on a port takes, where it takes one. -/
def arrivalNumber (s : State) (p : Nat) (t : Txn) : Option Nat :=
  if numbered s (asVersion s p t).hdr then some (wseqFull (s.link p) (((s.link p).wseqSeen + 1) % 2 ^ 32)) else none

/-- The entry of a request delivered on a port. -/
def arrivalEntry (s : State) (p : Nat) (t : Txn) : Entry :=
  { uid := s.nextUid, txn := asVersion s p t, delays := 0, dead := false, begun := false, done := false, refused := false, v2 := isV2 s p,
    busy := tagBusy s p (asVersion s p t).hdr.src (asVersion s p t).hdr.tag, postedOk := s.flag (UZ_CTRL_posted_en p),
    epoch := (s.link p).wseqEpoch, record := none, wseq := arrivalNumber s p t }

/-- A request delivered on a port in S7. -/
def delivered (s : State) (p : Nat) (t : Txn) : State := deliverRequest p t (s.acted 544 1)

/-- Its entry in the request table. -/
def taken (s : State) (p : Nat) (t : Txn) : State := takeEntry p (arrivalEntry s p t) (delivered s p t)

section
variable {s : State} {p : Nat} {t : Txn}

theorem takeDelivered_S7 (hstage : s.stage p = 7) (hin : (s.link p).inbox = []) (hdrain : s.start.request.any (fun r => r.draining) = false) :
    takeDelivered p t s = some (s.acted 544 1) := by
  simp [takeDelivered, hstage, hin, hdrain]

theorem wseqHold_touches (w : Nat × Nat) (u : State) : Touches admissionParts u (wseqHold w u) := .modLink (.refl _ _)

theorem delivered_touches : Touches admissionParts s (delivered s p t) := by
  have h : Touches admissionParts s (s.acted 544 1) := .acted (.refl _ _)
  exact .ite (h.nextUid.modLink.trans (wseqHold_touches _ _)) h.nextUid.modLink

theorem taken_touches : Touches admissionParts s (taken s p t) := delivered_touches.modLink

/-- A delivery adds the entry to the VC0 buffer, and may take a number. -/
theorem delivered_link : ∃ seen held, (delivered s p t).link p =
    { s.link p with vc0 := (s.link p).vc0 ++ [arrivalEntry s p t], wseqSeen := seen, wseqOpen := held } := by
  unfold delivered deliverRequest
  extract_lets t1 x num n e s1
  have hs1 : s1.link p = { x with vc0 := x.vc0 ++ [e], wseqSeen := if num then n else x.wseqSeen } := State.link_modLink _ _ _
  have he : e = arrivalEntry s p t := rfl
  cases num with
  | false => exact ⟨_, _, hs1⟩
  | true =>
    have hheld : (wseqHold (p, wseqFull x n) s1).link p =
        if wseqFull x n / 2 ^ 32 = (s1.link p).wseqEpoch then
          { s1.link p with wseqOpen := wseqHold.insertDup (wseqFull x n) (s1.link p).wseqOpen }
        else s1.link p := State.link_modLink _ _ _
    rw [if_pos rfl, hheld]
    split
    · exact ⟨_, wseqHold.insertDup (wseqFull x n) (s1.link p).wseqOpen, by rw [hs1]; rfl⟩
    · exact ⟨_, _, hs1⟩

theorem delivered_link_ne {q : Nat} (hq : q ≠ p) : (delivered s p t).link q = s.link q := by
  have h (u : State) (f : LinkSt → LinkSt) : (u.modLink p f).link q = u.link q := State.link_modLink_ne u f hq
  unfold delivered deliverRequest wseqHold
  extract_lets t1 x num n e s1
  split
  · exact (h _ _).trans (h _ _)
  · exact h _ _

/-- The entry alone has entered an empty table. -/
theorem taken_link (hvc : (s.link p).vc0 = []) (htab : (s.link p).table = []) : ((taken s p t).link p).vc0 = [] ∧
    ((taken s p t).link p).table = [arrivalEntry s p t] ∧ ((taken s p t).link p).responses = (s.link p).responses := by
  obtain ⟨seen, held, hlink⟩ := delivered_link (s := s) (p := p) (t := t)
  rw [taken, takeEntry, State.link_modLink, hlink]
  simp [hvc, htab]

theorem taken_link_ne {q : Nat} (hq : q ≠ p) : (taken s p t).link q = s.link q :=
  (State.link_modLink_ne _ _ hq).trans (delivered_link_ne hq)

/-- A request that finds its port empty is judged, and the first that may run does. -/
theorem requestArrives_judged (hstage : s.stage p = 7) (hin : (s.link p).inbox = [])
    (hdrain : s.start.request.any (fun r => r.draining) = false) (hvc : (s.link p).vc0 = []) (htab : (s.link p).table = [])
    (hopen : (s.modes.intakeClosed && memoryOp t.hdr.opcode && t.hdr.dst == liveNode s) = false) :
    requestArrives p t [] s = runNext p (judgeRequest p (arrivalEntry s p t) (taken s p t)) := by
  have ht : Touches admissionParts s (delivered s p t) := delivered_touches
  obtain ⟨seen, held, hlink⟩ := delivered_link (s := s) (p := p) (t := t)
  have hnode : liveNode (delivered s p t) = liveNode s := State.get_of_regs ht.keeps_regs _
  have hadm : admissibleNow (delivered s p t) (arrivalEntry s p t) = true := by
    have hop : (asVersion s p t).hdr.opcode = t.hdr.opcode ∧ (asVersion s p t).hdr.dst = t.hdr.dst := by
      unfold asVersion
      split <;> exact ⟨rfl, rfl⟩
    simp [admissibleNow, ht.keeps_modes, hnode, arrivalEntry, hop, hopen]
  have hnext : nextWaiting (delivered s p t) p = some (arrivalEntry s p t) := by
    simp [nextWaiting, hlink, hvc, hadm]
  have hmay : mayAdmit (delivered s p t) p (arrivalEntry s p t) = true := by
    simp [mayAdmit, hlink, htab]
  have hheld : ((delivered s p t).modes.intakeClosed && natBit (delivered s p t).modes.held p && memoryOp t.hdr.opcode &&
      t.hdr.dst == liveNode (delivered s p t)) = false := by
    rw [ht.keeps_modes, hnode]
    revert hopen
    cases s.modes.intakeClosed <;> cases natBit s.modes.held p <;> cases memoryOp t.hdr.opcode <;> simp
  rw [requestArrives, takeDelivered_S7 hstage hin hdrain]
  change runNext p (admitNext p (when ((delivered s p t).modes.intakeClosed && natBit (delivered s p t).modes.held p && memoryOp t.hdr.opcode &&
      t.hdr.dst == liveNode (delivered s p t)) (wakeSource 18) (delivered s p t))) = _
  rw [hheld]
  change runNext p (admitNext p (delivered s p t)) = _
  simp only [admitNext, hnext, hmay, if_true]
  rfl

/-! ### A request answered NAK -/

/-- The request is answered NAK on its port, and its entry is done with. -/
theorem answerNak_entry {e : Entry} {code : Nat} (hentry : (s.link p).table = [e]) (hwseq : e.wseq = none) (hdead : e.dead = false)
    (hstage : s.stage p = 7) : Touches [.links] s (answerNak p e code 0 s) ∧ ((answerNak p e code 0 s).link p).vc0 = (s.link p).vc0 ∧
      ((answerNak p e code 0 s).link p).table = [{ e with begun := true, done := true, refused := true, wseq := none }] ∧
      ((answerNak p e code 0 s).link p).responses =
        (s.link p).responses ++ [⟨nakTxn s p e.txn.hdr code 0, some (p, e.uid), some (p, e.uid), true⟩] := by
  have hnow : entryNow s p e = e := by simp [entryNow, hentry]
  have hup (u : State) (hu : u.regs = s.regs) : linkUp u p = true := by
    have hget : u.stage p = s.stage p := State.get_of_regs hu _
    simp [linkUp, hget, hstage]
  have heq : answerNak p e code 0 s = (modEntry p e.uid (fun x => { x with begun := true, done := true, refused := true, wseq := none }) s).modLink p
      fun x => { x with responses := x.responses ++ [⟨nakTxn s p e.txn.hdr code 0, some (p, e.uid), some (p, e.uid), true⟩] } := by
    simp only [answerNak, hnow, hwseq, hdead, Bool.false_eq_true, if_false, queueResponse]
    rw [hup (modEntry p e.uid _ s) rfl, if_pos rfl, joinResponses]
    simp [nakTxn, responseHeader]
  rw [heq]
  refine ⟨.modLink (.modLink (.refl _ _)), ?_⟩
  simp only [modEntry, State.link_modLink, hentry, List.map_cons, List.map_nil, if_true]
  exact ⟨trivial, trivial, trivial⟩

/-- Nothing runs where the only entry is done with. -/
theorem runNext_begun {e : Entry} (hentry : (s.link p).table = [e]) (hbegun : e.begun = true) : runNext p s = s := by
  simp [runNext, hentry, runnable, hbegun]

/-! ### Requests of no opcode -/

theorem asVersion_opcode : (asVersion s p t).hdr.opcode = t.hdr.opcode := by
  unfold asVersion
  split <;> rfl

theorem asVersion_dst : (asVersion s p t).hdr.dst = t.hdr.dst := by
  unfold asVersion
  split <;> rfl

theorem asVersion_tag : (asVersion s p t).hdr.tag = t.hdr.tag ∧ (asVersion s p t).hdr.src = t.hdr.src := by
  unfold asVersion
  split <;> exact ⟨rfl, rfl⟩

/-- An opcode that the tables do not list. -/
theorem lenOk_of_unlisted {op len rlen most : Nat} (h : listedOpcode op = false) : lenOk op len rlen most = false := by
  unfold lenOk
  split
  case h_17 => rfl
  all_goals exact absurd h (by decide)

/-- A request that no table lists is malformed. -/
theorem headerNak_unlisted (h : listedOpcode t.hdr.opcode = false) : headerNak (arrivalEntry s p t) = some Nak.malformed := by
  have hop : (arrivalEntry s p t).txn.hdr.opcode = t.hdr.opcode := asVersion_opcode
  have hv2 : v2Only t.hdr.opcode = false := by
    generalize t.hdr.opcode = op at h
    rw [v2Only, Bool.or_eq_false_iff, Bool.or_eq_false_iff]
    refine ⟨⟨?_, ?_⟩, ?_⟩ <;>
    · rw [beq_eq_false_iff_ne]
      rintro rfl
      exact absurd h (by decide)
  have hlen (n : Nat) (b : Bool) : requestOk (arrivalEntry s p t).txn.hdr n b = false := by
    rw [requestOk, hop, lenOk_of_unlisted h]
    rfl
  simp [headerNak, hop, hv2, hlen]

theorem numbered_unlisted (h : listedOpcode t.hdr.opcode = false) : numbered s (asVersion s p t).hdr = false := by
  have hmod : modifying t.hdr.opcode = false := by
    generalize t.hdr.opcode = op at h
    by_contra hm
    have hcases : op = 2 ∨ op = 3 ∨ op = 16 ∨ op = 17 ∨ op = 18 ∨ op = 19 ∨ op = 20 := by
      rw [modifying, Bool.not_eq_false, Bool.or_eq_true, Bool.or_eq_true, beq_iff_eq, beq_iff_eq, Bool.and_eq_true, decide_eq_true_eq,
        decide_eq_true_eq] at hm
      simp only [Op.wr, Op.wrm, Op.cntAdd, Op.meter] at hm
      omega
    rcases hcases with rfl | rfl | rfl | rfl | rfl | rfl | rfl <;> exact absurd h (by decide)
  rw [numbered, asVersion_opcode, hmod]
  rfl

/-- A request that no table lists, for this node, is answered NAK MALFORMED with its own header. -/
theorem unlisted_malformed (hlisted : listedOpcode t.hdr.opcode = false) (hstage : s.stage p = 7) (hin : (s.link p).inbox = [])
    (hdrain : s.start.request.any (fun r => r.draining) = false) (hvc : (s.link p).vc0 = []) (htab : (s.link p).table = [])
    (hdst : t.hdr.dst = liveNode s) (hopen : s.modes.intakeClosed = false) :
    Touches admissionParts s (requestArrives p t [] s) ∧ ((requestArrives p t [] s).link p).responses.map gist = (s.link p).responses.map gist ++
      [(0x21, t.hdr.tag, t.hdr.src, Nak.malformed * 65536, headerBytes (asVersion s p t).hdr)] := by
  have ht : Touches admissionParts s (taken s p t) := taken_touches
  obtain ⟨hvc', htab', hresp⟩ := taken_link (t := t) hvc htab
  have hwseq : (arrivalEntry s p t).wseq = none := by
    rw [arrivalEntry, arrivalNumber, numbered_unlisted hlisted]
    rfl
  obtain ⟨htouch, -, hdone, hsent⟩ := answerNak_entry (code := Nak.malformed) htab' hwseq rfl ((State.get_of_regs ht.keeps_regs _).trans hstage)
  have hjudged : judgeRequest p (arrivalEntry s p t) (taken s p t) = answerNak p (arrivalEntry s p t) Nak.malformed 0 (taken s p t) := by
    have hnode : (arrivalEntry s p t).txn.hdr.dst = liveNode (taken s p t) :=
      asVersion_dst.trans (hdst.trans (State.get_of_regs ht.keeps_regs _).symm)
    rw [judgeRequest, if_neg (not_not.2 hnode), headerNak_unlisted hlisted]
  have heq := requestArrives_judged (t := t) hstage hin hdrain hvc htab (by rw [hopen]; rfl)
  rw [hjudged, runNext_begun hdone rfl] at heq
  rw [heq]
  refine ⟨ht.trans (htouch.mono (by decide)), ?_⟩
  rw [hsent, List.map_append, hresp]
  obtain ⟨htag, hsrc⟩ := asVersion_tag (s := s) (p := p) (t := t)
  simp [gist, nakTxn, responseHeader, arrivalEntry, htag, hsrc]

/-! ### Responses and notices -/

/-- The slots of a transaction taken from its port are free at once. -/
def slotsFreed (p vc : Nat) (h : Header) (s : State) : State :=
  (s.acted 544 1).modLink p fun x => { x with freed := vcAdd x.freed vc (slotCount h.len) }

theorem slotsFreed_link {vc : Nat} {h : Header} :
    (slotsFreed p vc h s).link p = { s.link p with freed := vcAdd (s.link p).freed vc (slotCount h.len) } :=
  State.link_modLink _ _ _

theorem slotsFreed_touches {vc : Nat} {h : Header} : Touches [.links, .activity] s (slotsFreed p vc h s) := .modLink (.acted (.refl _ _))

/-- A response or notice on a port in S7. -/
theorem otherArrives_S7 {f : State → State} (hstage : s.stage p = 7) (hin : (s.link p).inbox = [])
    (hdrain : s.start.request.any (fun r => r.draining) = false) : otherArrives p t f s = f (slotsFreed p (vcOf t.hdr.opcode) t.hdr s) := by
  rw [otherArrives, takeDelivered_S7 hstage hin hdrain]
  rfl

/-- An unexpected response is counted. -/
theorem unexpected_counts {vc : Nat} {h : Header} : ((unexpected p (slotsFreed p vc h s)).link p) = (slotsFreed p vc h s).link p ∧
    ((unexpected p (slotsFreed p vc h s)).reg (UZ_UNEXPECTED p)).toNat = satAdd 0xFFFFFFFF (s.reg (UZ_UNEXPECTED p)).toNat 1 ∧
    SameRegs [UZ_UNEXPECTED p] s (unexpected p (slotsFreed p vc h s)) :=
  ⟨RegsAndEvents.link (.addSat (.refl _)) p, State.reg_addSat_same _ _ _, .addSat (.of_regs rfl) (by exact .head _)⟩

/-- A response is unexpected where the port forwards nothing. -/
theorem responseArrives_off (hoff : s.get FAB_CTRL_fwd_en = 0) : responseArrives p t s = unexpected p s := by
  have hflag : s.flag FAB_CTRL_fwd_en = false := flag_of_get_eq_zero hoff
  simp [responseArrives, hflag]

theorem recordOf_congr {u : State} {dst tag : Nat} (h : ∀ q, (u.link q).table = (s.link q).table) : recordOf u p dst tag = recordOf s p dst tag := by
  simp only [recordOf, h]

/-- A forwarded response joins those of the port where its request came in; all but a DELAY free its record. -/
theorem responseArrives_forwards {q : Nat} {e : Entry} (hon : s.get FAB_CTRL_fwd_en = 1) (hport : s.get (FAB_PORT_CTRL_fwd p) = 1)
    (hdst : t.hdr.dst ≠ liveNode s) (hrec : recordOf s p t.hdr.dst t.hdr.tag = some (q, e)) (hstage : s.stage q = 7)
    (hv : t.hdr.opcode = 0x22 → isV2 s q = true) : (responseArrives p t s).regs = s.regs ∧
      ((responseArrives p t s).link q).table =
        (if t.hdr.opcode = 0x22 then (s.link q).table else (s.link q).table.filter fun x => x.uid != e.uid) ∧
      ((responseArrives p t s).link q).responses.map gist =
        (s.link q).responses.map gist ++ [(t.hdr.opcode, t.hdr.tag, t.hdr.dst, t.hdr.aux, t.data)] := by
  have heq : responseArrives p t s = (if t.hdr.opcode = 0x22 then s else freeEntry q e.uid s).modLink q fun x => { x with
      responses := x.responses ++ [⟨{ t with hdr := { t.hdr with vn := e.txn.hdr.vn } }, some (q, e.uid), none, false⟩] } := by
    have hup : linkUp s q = true := by simp [linkUp, hstage]
    have hup' : linkUp (if t.hdr.opcode = 0x22 then s else freeEntry q e.uid s) q = true := by
      split
      · exact hup
      · have hget : (freeEntry q e.uid s).stage q = s.stage q := State.get_modLink _ _ _ _
        simp [linkUp, hget, hstage]
    have hv' : (!isV2 (if t.hdr.opcode = 0x22 then s else freeEntry q e.uid s) q && decide (t.hdr.opcode = 0x22)) = false := by
      split
      next h => simp [hv h]
      next h => simp [h]
    simp only [responseArrives, flag_of_get_eq_one hon, flag_of_get_eq_one hport, decide_eq_false hdst, Bool.or_self, Bool.not_true,
      Bool.false_eq_true, if_false, hrec, hup, Bool.true_or, if_true]
    rw [queueResponse, if_pos hup', joinResponses, if_neg (by simpa using hv')]
  rw [heq]
  refine ⟨(Touches.modLink (l := [.links]) (.ite (.refl _ s) (.modLink (.refl _ s)))).keeps_regs, ?_⟩
  rw [State.link_modLink]
  split
  next h => simp [gist]
  next h => simp [gist, freeEntry, State.link_modLink]
end

/-- Settles O17: admission and the port's stage fix what happens to a transaction; the parts it touches hold the frames. -/
theorem responsesAndNoticesAreForwardedOrDropped : Obligations.ResponsesAndNoticesAreForwardedOrDropped := by
  unfold Obligations.ResponsesAndNoticesAreForwardedOrDropped
  intro s p h d hup hstage hin hdrain
  have harrive (t : Txn) (f : State → State) : whenUp (otherArrives p t f) s = f (slotsFreed p (vcOf t.hdr.opcode) t.hdr s) :=
    (whenUp_of_up hup _).trans (otherArrives_S7 hstage hin hdrain)
  have hget (vc : Nat) (f : Field) : (slotsFreed p vc h s).get f = s.get f := State.get_of_regs slotsFreed_touches.keeps_regs f
  refine ⟨fun hoff => ?_, ?_, ?_, ?_, ?_, ?_⟩
  · have hcount (t : Txn) (vc : Nat) (ht : t.hdr.len = h.len) (hvc : vcOf t.hdr.opcode = vc) :
        whenUp (otherArrives p t (responseArrives p t)) s = unexpected p (slotsFreed p vc h s) := by
      have hsame : slotsFreed p (vcOf t.hdr.opcode) t.hdr s = slotsFreed p vc h s := by
        rw [slotsFreed, slotsFreed, ht, hvc]
      rw [harrive, hsame, responseArrives_off ((hget _ _).trans hoff)]
    obtain ⟨hlink, hcounted⟩ := unexpected_counts (s := s) (p := p) (vc := 1) (h := h)
    exact ⟨⟨_, congrArg Host.Outcome.next (hcount _ 1 rfl rfl), hlink.trans slotsFreed_link, hcounted⟩,
      ⟨_, congrArg Host.Outcome.next (hcount _ 1 rfl rfl), hlink.trans slotsFreed_link, hcounted⟩,
      ⟨_, congrArg Host.Outcome.next (hcount _ 1 rfl rfl), hlink.trans slotsFreed_link, hcounted⟩⟩
  · obtain ⟨hlink, hcounted⟩ := unexpected_counts (s := s) (p := p) (vc := 2) (h := h)
    exact ⟨_, congrArg Host.Outcome.next (harrive ⟨withOpcode h 0x30, d⟩ _), hlink.trans slotsFreed_link, hcounted⟩
  · obtain ⟨hlink, hcounted⟩ := unexpected_counts (s := s) (p := p) (vc := 2) (h := h)
    exact ⟨_, congrArg Host.Outcome.next (harrive ⟨withOpcode h 0x31, d⟩ _), hlink.trans slotsFreed_link, hcounted⟩
  · intro hlisted hop
    have heq : whenUp (unknownArrives p ⟨h, d⟩) s = slotsFreed p (vcOf h.opcode) h s := by
      have hrange : ¬ (0x01 ≤ h.opcode ∧ h.opcode ≤ 0x1F) := by omega
      rw [whenUp_of_up hup, unknownArrives]
      simp only [hlisted, Bool.false_eq_true, if_false, if_neg hrange]
      exact otherArrives_S7 hstage hin hdrain
    exact ⟨_, congrArg Host.Outcome.next heq, slotsFreed_link, slotsFreed_touches.keeps_regs,
      slotsFreed_touches.frame (F := fun u => { u with links := s.links, activity := s.activity }) fun _ => rfl⟩
  · intro hlisted hlo hhi hvc htab hdst hopen
    have heq : whenUp (unknownArrives p ⟨h, d⟩) s = requestArrives p ⟨h, d⟩ [] s := by
      have hrange : 0x01 ≤ h.opcode ∧ h.opcode ≤ 0x1F := by omega
      rw [whenUp_of_up hup, unknownArrives]
      simp only [hlisted, Bool.false_eq_true, if_false, if_pos hrange]
    obtain ⟨htouch, hsent⟩ := unlisted_malformed (t := ⟨h, d⟩) hlisted hstage hin hdrain hvc htab hdst hopen
    exact ⟨_, congrArg Host.Outcome.next heq, htouch.keeps_regs,
      ⟨fun loc => by rw [htouch.keeps_dram], by rw [htouch.keeps_dram], by rw [htouch.keeps_landing]⟩, hsent⟩
  · intro hon hport hdst q e hq hrec hq7
    have hlink (vc : Nat) : (slotsFreed p vc h s).link q = s.link q := State.link_modLink_ne (s.acted 544 1) _ (Fin.val_ne_of_ne hq)
    have htable (vc k : Nat) : ((slotsFreed p vc h s).link k).table = (s.link k).table := by
      by_cases hk : k = p
      · rw [hk, slotsFreed_link]
      · exact congrArg LinkSt.table (State.link_modLink_ne (s.acted 544 1) _ hk)
    have hforward (op : Nat) (hv : op = 0x22 → isV2 s q = true) : ∃ t,
        whenUp (otherArrives p ⟨withOpcode h op, d⟩ (responseArrives p ⟨withOpcode h op, d⟩)) s = t ∧ t.regs = s.regs ∧
        (t.link q).table = (if op = 0x22 then (s.link q).table else (s.link q).table.filter fun x => x.uid != e.uid) ∧
        (t.link q).responses.map gist = (s.link q).responses.map gist ++ [(op, h.tag, h.dst, h.aux, d)] := by
      obtain ⟨hregs, htab, hresp⟩ := responseArrives_forwards (s := slotsFreed p (vcOf op) h s) (p := p) (t := ⟨withOpcode h op, d⟩)
        ((hget _ _).trans hon) ((hget _ _).trans hport) (fun hsame => hdst (hsame.trans (hget _ _)))
        ((recordOf_congr (htable _)).trans hrec) ((hget _ _).trans hq7) fun hop => by
          rw [isV2, hget]
          exact hv hop
      exact ⟨_, harrive _ _, hregs.trans slotsFreed_touches.keeps_regs, by rw [← hlink]; exact htab, by rw [← hlink]; exact hresp⟩
    obtain ⟨t1, h1, hregs1, htab1, hresp1⟩ := hforward 0x20 fun h => absurd h (by decide)
    obtain ⟨t2, h2, hregs2, htab2, hresp2⟩ := hforward 0x21 fun h => absurd h (by decide)
    refine ⟨⟨t1, congrArg Host.Outcome.next h1, hregs1, htab1, hresp1⟩, ⟨t2, congrArg Host.Outcome.next h2, hregs2, htab2, hresp2⟩, fun hv => ?_⟩
    obtain ⟨t3, h3, hregs3, htab3, hresp3⟩ := hforward 0x22 fun _ => hv
    exact ⟨t3, congrArg Host.Outcome.next h3, hregs3, htab3, hresp3⟩

end Sys2Proof.Machine
end

section
/-!
PROOF. Pin windows, late scrubs, fills, the ECC log and retirements.
-/
set_option autoImplicit false
set_option Elab.async false

namespace Sys2Proof.Machine
open Reg Bit

/-! ### Acting writes in the upper half of the register map -/

/-- The register at the address, of a row with this base, acts on its write, has no staged field and is no counter clear. -/
def highActing (a base i : Nat) : Bool :=
  (rowAt a).any fun q => q.2 == i && (q.1.base == base && (q.1.kind == .plain && (q.1.staged == 0 && ((q.1.rw != 0 || q.1.w1s != 0) &&
    (!isClear q.1 a && decide (0x80000 ≤ a))))))

section
variable {s : State}

/-- A write of such a register is its own act, on a state that differs in the commit controller alone. -/
theorem write_high {a base i : Nat} (h : highActing a base i = true) (hw : writable s a = true) (src : Nat) (v : Word) :
    ∃ r c, r.base = base ∧ write src a v s = writeHigh r i a v { s with commit := c } := by
  obtain ⟨⟨r, j⟩, hr, hq⟩ := (Option.any_eq_true _ _).1 h
  simp only [Bool.and_eq_true, Bool.or_eq_true, beq_iff_eq, bne_iff_ne, Bool.not_eq_true', decide_eq_true_eq] at hq
  obtain ⟨rfl, hbase, hkind, hstaged, hacts, hclear, hhigh⟩ := hq
  obtain ⟨c, hc⟩ := suspendCheck_eq r s
  refine ⟨r, c, hbase, ?_⟩
  rw [write_of_writable hw hr]
  simp only [writeRow, hkind, hstaged, hc, if_pos hacts, ne_eq, not_true, if_false]
  rw [liveWrite, hclear, if_neg Bool.false_ne_true, if_neg (by omega)]

/-! ### Windows and scrubs -/

theorem scrubLateNow_late {h : Nat} (hlate : (s.hc h).scrubLate = false)
    (hover : max 1 (s.get ECC_SCRUB_CTRL_pass_limit) * 12500000 < s.ticks - (s.hc h).scrubStart) :
    scrubLateNow h s = (s.setHc h { s.hc h with scrubLate := true }).cause Cause.ECC_scrub_late := by
  simp [scrubLateNow, hlate, hover]

/-- A bit set in a word. -/
theorem withBits_one (w : Word) {b : Nat} (hb : b < 32) : w.withBits b b 1 = w ||| BitVec.ofNat 32 (2 ^ b) := by
  refine BitVec.eq_of_getLsbD_eq fun k hk => ?_
  rw [BitVec.getLsbD_or, getLsbD_eq_bits, getLsbD_eq_bits w, BitVec.getLsbD_ofNat, Nat.testBit_two_pow]
  rcases Nat.lt_trichotomy k b with hlt | rfl | hlt
  · rw [Word.bits_withBits_below w b b 1 k k (Nat.le_refl b) hb hlt]
    simp [Nat.ne_of_gt hlt]
  · rw [Word.bits_withBits_same w k k 1 (Nat.le_refl k) hb]
    simp [hk]
  · rw [Word.bits_withBits_above w b b 1 k k (Nat.le_refl b) hb hlt]
    simp [Nat.ne_of_lt hlt]

theorem reg_cause_same (s : State) {c : CauseBit} (hb : c.bit < 32) : (s.cause c).reg c.cause = s.reg c.cause ||| BitVec.ofNat 32 (2 ^ c.bit) := by
  rw [State.reg_cause, State.reg_put, if_pos rfl, withBits_one _ hb]

/-! ### Fills -/

/-- The place of the parcel that a stored byte belongs to, and its device address. -/
def storedPlace (loc : Nat) : Place := ⟨loc / 256 / 2 ^ 21, loc / 256 / 2 ^ 16 % 32, loc / 256 / 4 % 2 ^ 14, loc / 256 % 4⟩
def storedAddr (s : State) (loc : Nat) : Nat := addrOfPlace s (storedPlace loc)

theorem find_filter_dropped {α : Type} (m : KMap α) (f : Nat → Bool) (k : Nat) (h : f k = false) : KMap.find (m.filter fun p => f p.1) k = none := by
  induction m with
  | nil => rfl
  | cons p m ih =>
    by_cases hp : f p.1 = true
    · have hne : p.1 ≠ k := fun e => absurd (e ▸ hp) (by simp [h])
      rw [List.filter_cons_of_pos (by exact hp), KMap.find, if_neg hne, ih]
    · rw [List.filter_cons_of_neg (by exact hp), ih]

theorem rgnBase_congr {t : State} (h : t.regs = s.regs) (g : Nat) : rgnBase t g = rgnBase s g ∧ rgnSize t g = rgnSize s g := by
  rw [rgnBase, rgnSize, State.get_of_regs h, State.get_of_regs h]
  exact ⟨rfl, rfl⟩

theorem regionOver_congr {t : State} (h : t.regs = s.regs) (a : Nat) : regionOver t a = regionOver s a := by
  have hgood (g : Nat) : (rgnGood t g && rgnHas t g a) = (rgnGood s g && rgnHas s g a) := by
    obtain ⟨hbase, hsize⟩ := rgnBase_congr h g
    rw [rgnGood, rgnGood, rgnHas, rgnHas, hbase, hsize, State.flag, State.flag, State.get_of_regs h, State.get_of_regs h]
  rw [regionOver, regionOver, funext hgood]

theorem mapOf_congr {t : State} (h : t.regs = s.regs) (a : Nat) : mapOf t a = mapOf s a := by
  simp only [mapOf, rgnMap, regionOver_congr h, State.get_of_regs h]

/-- Where parcels lie depends on the registers alone. -/
theorem addrOfPlace_congr {t : State} (h : t.regs = s.regs) (p : Place) : addrOfPlace t p = addrOfPlace s p := by
  have hmask (m : Nat) : selMask t m = selMask s m := funext fun k => by rw [selMask, selMask, State.get_of_regs h, State.get_of_regs h]
  have hunder (m : Nat) : addrUnder t m p = addrUnder s m p := by
    unfold addrUnder
    rw [hmask]
  simp only [addrOfPlace, mapOf_congr h, hunder]

theorem storedAddr_congr {t : State} (h : t.regs = s.regs) (loc : Nat) : storedAddr t loc = storedAddr s loc := addrOfPlace_congr h (storedPlace loc)

/-- The stored bytes of a range of addresses are zero, the others as they were. -/
theorem zeroRange_byte (lo hi loc : Nat) : Dram.byte (zeroRange lo hi s).dram.mem loc =
    if lo ≤ storedAddr s loc ∧ storedAddr s loc < hi then 0 else Dram.byte s.dram.mem loc := by
  have hmem : (zeroRange lo hi s).dram.mem = s.dram.mem.filter fun p => !decide (lo ≤ storedAddr s p.1 ∧ storedAddr s p.1 < hi) := rfl
  rw [Dram.byte, Dram.byte, KMap.get, KMap.get, hmem]
  by_cases h : lo ≤ storedAddr s loc ∧ storedAddr s loc < hi
  · rw [find_filter_dropped _ (fun k => !decide (lo ≤ storedAddr s k ∧ storedAddr s k < hi)) loc (by simp [h]), if_pos h]
  · rw [find_filter_kept _ (fun k => !decide (lo ≤ storedAddr s k ∧ storedAddr s k < hi)) loc (by rw [decide_eq_false h]; rfl), if_neg h]

/-- The only fill ends: its region is live where its descriptor is good, and nothing is shown filling. -/
theorem fillDone_last {g : Nat} (hfills : s.svc.fills = [g]) (hmap : rgnValidBit s g = false) : fillDone s =
    ((((zeroRange (rgnBase s g) (rgnBase s g + rgnSize s g) { s with svc := { s.svc with fills := [] } }).putFlag (SVC_RGN_STATUS_live g)
      (rgnGood s g)).cause Cause.ECC_fill_done).put ECC_STATUS_filling 0).put ECC_STATUS_clearing 0 := by
  have hmap' : rgnValidBit { s with svc := { s.svc with fills := [] } } g = false := hmap
  have hregion : fillRegion g { s with svc := { s.svc with fills := [] } } =
      zeroRange (rgnBase s g) (rgnBase s g + rgnSize s g) { s with svc := { s.svc with fills := [] } } := by
    rw [fillRegion, hmap']
    rfl
  rw [fillDone, hfills]
  simp only [hregion, List.contains_nil, Bool.false_eq_true, if_false]
  rw [showFill, State.cause_svc]
  rfl

/-! ### The error log and retirements -/

theorem highActing_eccLogTail : highActing ECC_LOG_TAIL ECC_LOG_TAIL 0 = true := by decide +kernel

theorem highActing_retireCtrl : highActing ECC_RETIRE_CTRL ECC_RETIRE_CTRL 0 = true := by decide +kernel

theorem writeHigh_eccLogTail {r : RegRow} (hr : r.base = ECC_LOG_TAIL) (v : Word) : writeHigh r 0 ECC_LOG_TAIL v s = eccTailWrite v.toNat s := by
  rw [writeHigh, hr]
  iterate 5 rw [if_neg (by decide)]
  exact if_pos rfl

theorem writeHigh_retireCtrl {r : RegRow} (hr : r.base = ECC_RETIRE_CTRL) : writeHigh r 0 ECC_RETIRE_CTRL 1 s = retireGo s := by
  rw [writeHigh, hr]
  iterate 4 rw [if_neg (by decide)]
  exact if_pos rfl

/-- The distance that a write of the log's tail moves it. -/
def tailMove (s : State) (v : Nat) : Nat := min ((v % 512 + 512 - s.get ECC_LOG_TAIL_index) % 512) (s.get ECC_STATUS_log_used)

/-- The tail moved. -/
def tailMoved (s : State) (v : Nat) : State :=
  (s.put ECC_LOG_TAIL_index (s.get ECC_LOG_TAIL_index + tailMove s v)).put ECC_STATUS_log_used (s.get ECC_STATUS_log_used - tailMove s v)

theorem eccTailWrite_eq (v : Nat) : eccTailWrite v s =
    if tailMove s v = 0 then tailMoved s v else { tailMoved s v with dram := { (tailMoved s v).dram with logFull := false } } := rfl

theorem reg_ite_dram (c : Prop) [Decidable c] (u : State) (x : DramSt) (a : Nat) : (if c then u else { u with dram := x }).reg a = u.reg a := by
  split
  · rfl
  · exact State.reg_of_regs rfl a

theorem eccTailWrite_reg (v a : Nat) : (eccTailWrite v s).reg a = (tailMoved s v).reg a := by
  rw [eccTailWrite_eq, reg_ite_dram]

theorem eccTailWrite_regs (v : Nat) : SameRegs [ECC_LOG_TAIL, ECC_STATUS] s (eccTailWrite v s) := fun a ha =>
  (eccTailWrite_reg v a).trans ((SameRegs.put (SameRegs.put (.refl _ s))) a ha)

theorem tailMoved_fields (v : Nat) (hused : s.get ECC_STATUS_log_used ≤ 512) :
    (tailMoved s v).get ECC_LOG_TAIL_index = (s.get ECC_LOG_TAIL_index + tailMove s v) % 512 ∧
    (tailMoved s v).get ECC_STATUS_log_used = s.get ECC_STATUS_log_used - tailMove s v := by
  unfold tailMoved
  generalize tailMove s v = d
  refine ⟨?_, State.get_put_self rfl (lt_of_le_of_lt (Nat.sub_le _ _) (lt_of_le_of_lt hused (by decide)))⟩
  rw [State.get_put_apart rfl]
  exact State.get_put_mod rfl

theorem eccTailWrite_fields (v : Nat) (hused : s.get ECC_STATUS_log_used ≤ 512) :
    (eccTailWrite v s).get ECC_LOG_TAIL_index = (s.get ECC_LOG_TAIL_index + tailMove s v) % 512 ∧
    (eccTailWrite v s).get ECC_STATUS_log_used = s.get ECC_STATUS_log_used - tailMove s v := by
  obtain ⟨hindex, hlog⟩ := tailMoved_fields v hused
  exact ⟨(State.get_of_reg (eccTailWrite_reg v ECC_LOG_TAIL)).trans hindex, (State.get_of_reg (eccTailWrite_reg v ECC_STATUS)).trans hlog⟩

/-- The place that a retirement names. -/
def retirePlace (s : State) : Place :=
  ⟨s.get ECC_RETIRE_ADDR_hc, s.get ECC_RETIRE_ADDR_bank, if s.flag ECC_RETIRE_ADDR_kind then 0 else s.get ECC_RETIRE_ADDR_row, 0⟩

theorem retireRefusal_congr {t : State} (bank : Bool) (p : Place) (hledger : t.ledger = s.ledger) (hdram : t.dram = s.dram)
    (hget : t.get (HC_STATUS_state p.hc) = s.get (HC_STATUS_state p.hc)) : retireRefusal t bank p = retireRefusal s bank p := by
  rw [retireRefusal, retireRefusal, bankRetired, bankRetired, hledger, hdram, hget]

/-- The state in which a retirement is judged: go is shown. -/
theorem retireGo_judged (s : State) : ∃ u : State, SameRegs [ECC_RETIRE_CTRL] s u ∧ u.get ECC_RETIRE_CTRL_go = 1 ∧ u.dram = s.dram ∧
    (∀ bank p, retireRefusal u bank p = retireRefusal s bank p) ∧ retireGo s = retireRequest (s.flag ECC_RETIRE_ADDR_kind) (retirePlace s) u := by
  have ht : Touches [.regs] s (s.put ECC_RETIRE_CTRL_go 1) := .put (.refl _ _)
  refine ⟨s.put ECC_RETIRE_CTRL_go 1, (SameRegs.refl _ s).put, State.get_put_self rfl (by decide), ht.keeps_dram, fun bank p => ?_, rfl⟩
  exact retireRefusal_congr bank p ht.keeps_ledger ht.keeps_dram (State.get_put_ne _ _ _ _ (by simp only [HC_STATUS_state, HC_STATUS, ECC_RETIRE_CTRL_go, ECC_RETIRE_CTRL]; omega))

/-- A row that may be retired waits for the next boundary. -/
theorem retireGo_row (hkind : s.flag ECC_RETIRE_ADDR_kind = false) (hok : retireRefusal s false (retirePlace s) = none) :
    (retireGo s).dram = { s.dram with retireDue := s.dram.retireDue ++ [(retirePlace s).rowKey] } ∧ (retireGo s).get ECC_RETIRE_CTRL_go = 1 ∧
    SameRegs [ECC_RETIRE_CTRL] s (retireGo s) := by
  obtain ⟨u, hregs, hgo, hdram, hjudge, heq⟩ := retireGo_judged s
  rw [hkind, retireRequest, hjudge, hok] at heq
  rw [heq, ← hdram]
  exact ⟨rfl, hgo, hregs⟩

/-- A bank that may be retired waits for its hardware commit. -/
theorem retireGo_bank (hkind : s.flag ECC_RETIRE_ADDR_kind = true) (hok : retireRefusal s true (retirePlace s) = none) :
    (retireGo s).dram = { s.dram with bankDue := some ((retirePlace s).hc, (retirePlace s).bank) } ∧ (retireGo s).get ECC_RETIRE_CTRL_go = 1 ∧
    SameRegs [ECC_RETIRE_CTRL] s (retireGo s) := by
  obtain ⟨u, hregs, hgo, hdram, hjudge, heq⟩ := retireGo_judged s
  rw [hkind, retireRequest, hjudge, hok] at heq
  rw [heq, ← hdram]
  exact ⟨rfl, hgo, hregs⟩

/-- A refused retirement shows why, and go clears. -/
theorem retireGo_refused {r : Nat} (hr : r < 8) (hfull : r ≠ RetireResult.full)
    (hno : retireRefusal s (s.flag ECC_RETIRE_ADDR_kind) (retirePlace s) = some r) :
    (retireGo s).dram = s.dram ∧ (retireGo s).get ECC_RETIRE_STATUS_result = r ∧ (retireGo s).get ECC_RETIRE_CTRL_go = 0 := by
  obtain ⟨u, hregs, hgo, hdram, hjudge, heq⟩ := retireGo_judged s
  rw [retireRequest, hjudge, hno] at heq
  simp only [if_neg hfull] at heq
  rw [heq]
  have ht : Touches [.regs] u ((u.put ECC_RETIRE_STATUS_result r).put ECC_RETIRE_CTRL_go 0) := .put (.put (.refl _ _))
  refine ⟨ht.keeps_dram.trans hdram, ?_, State.get_put_self rfl (by decide)⟩
  rw [State.get_put_apart rfl]
  exact State.get_put_self rfl hr

theorem write_retireCtrl (hw : writable s ECC_RETIRE_CTRL = true) (src : Nat) :
    ∃ c, write src ECC_RETIRE_CTRL 1 s = retireGo { s with commit := c } := by
  obtain ⟨r, c, hbase, heq⟩ := write_high highActing_retireCtrl hw src 1
  exact ⟨c, heq.trans (writeHigh_retireCtrl hbase)⟩

theorem retirePlace_commit (c : Commit) : retirePlace { s with commit := c } = retirePlace s := rfl

end

/-- Settles O26: each command's act, read through the rules of fields and registers; the fill by what a range of zeros leaves of a byte. -/
theorem integrityCommandsActAsStated : Obligations.IntegrityCommandsActAsStated := by
  unfold Obligations.IntegrityCommandsActAsStated
  intro s src
  refine ⟨fun h hup => congrArg Host.Outcome.next (whenUp_of_up hup _), fun h hup hlate hover => ?_, fun g hup hfills hmap => ?_,
    fun v hw hused => ?_, fun hw => ⟨fun hkind hok => ?_, fun r hkind hno hfull => ?_, fun hkind hok => ?_⟩, fun hw => ?_⟩
  · refine ⟨_, congrArg Host.Outcome.next ((whenUp_of_up hup _).trans (scrubLateNow_late hlate hover)), ?_, ?_, ?_⟩
    · exact (RegsAndEvents.hc (.cause (.refl _)) h).trans (KMap.get_put_same _ _ _ _)
    · exact (SameRegs.refl _ s).setHc.cause
    · exact reg_cause_same _ (by decide)
  · have hfill := fillDone_last hfills hmap
    generalize hu : zeroRange (rgnBase s g) (rgnBase s g + rgnSize s g) { s with svc := { s.svc with fills := [] } } = u at hfill
    have hshown : RegsAndEvents u (fillDone s) := by
      rw [hfill]
      exact ((RegsAndEvents.cause (.setReg (.refl _))).setReg).setReg
    have hregs : u.regs = s.regs := by
      rw [← hu]
      rfl
    refine ⟨_, congrArg Host.Outcome.next ((whenUp_of_up hup _)), ?_, ?_, ?_, ?_, fun loc => ?_, ?_⟩
    · rw [hshown.keep (F := fun t => t.svc.fills) (fun _ _ => rfl) rfl, ← hu]
      rfl
    · have hlow : (SVC_RGN_STATUS_live g).addr < ECC_STATUS := by
        simp only [SVC_RGN_STATUS_live, SVC_RGN_STATUS, ECC_STATUS]
        omega
      rw [hfill, State.get_put_ne _ _ _ _ (Nat.ne_of_lt hlow), State.get_put_ne _ _ _ _ (Nat.ne_of_lt hlow),
        State.get_cause_ne _ (Nat.ne_of_lt (Nat.lt_trans hlow (by decide))), State.get_putFlag_self rfl rfl]
      cases rgnGood s g <;> rfl
    · rw [hfill, State.get_put_apart rfl, State.get_put_self rfl (by decide)]
    · rw [hfill, State.get_put_self rfl (by decide)]
    · have hmem : (fillDone s).dram.mem = u.dram.mem := hshown.keep (F := fun t => t.dram.mem) (fun _ _ => rfl) rfl
      rw [hmem, ← hu, zeroRange_byte, storedAddr_congr (t := { s with svc := { s.svc with fills := [] } }) (s := s) rfl]
      rfl
    · rw [hfill]
      exact ((((SameRegs.of_regs hregs).putFlag (by exact .head _)).cause (by exact .tail _ (.tail _ (.head _)))).put
        (by exact .tail _ (.head _))).put (by exact .tail _ (.head _))
  · obtain ⟨r, c, hbase, heq⟩ := write_high highActing_eccLogTail hw src.val v
    rw [writeHigh_eccLogTail hbase] at heq
    obtain ⟨hindex, hlog⟩ := eccTailWrite_fields (s := { s with commit := c }) v.toNat hused
    exact ⟨_, congrArg Host.Outcome.next heq, hindex, hlog, eccTailWrite_regs (s := { s with commit := c }) v.toNat⟩
  · obtain ⟨c, heq⟩ := write_retireCtrl hw src.val
    have hplace : retirePlace { s with commit := c } = ⟨s.get ECC_RETIRE_ADDR_hc, s.get ECC_RETIRE_ADDR_bank, s.get ECC_RETIRE_ADDR_row, 0⟩ := by
      rw [retirePlace_commit, retirePlace, hkind]
      rfl
    obtain ⟨hdram, hgo, hregs⟩ := retireGo_row (s := { s with commit := c }) hkind (by rw [hplace]; exact hok)
    rw [hplace] at hdram
    refine ⟨_, congrArg Host.Outcome.next ?_, hdram, hgo, hregs⟩
    rw [hkind]
    exact heq
  · obtain ⟨c, heq⟩ := write_retireCtrl hw src.val
    have hplace : retirePlace { s with commit := c } = ⟨s.get ECC_RETIRE_ADDR_hc, s.get ECC_RETIRE_ADDR_bank, s.get ECC_RETIRE_ADDR_row, 0⟩ := by
      rw [retirePlace_commit, retirePlace, hkind]
      rfl
    obtain ⟨hdram, hres, hgo⟩ := retireGo_refused (s := { s with commit := c }) (r := r) (by omega) hfull (by
      rw [show ({ s with commit := c } : State).flag ECC_RETIRE_ADDR_kind = false from hkind, hplace]
      exact hno)
    refine ⟨_, congrArg Host.Outcome.next ?_, hdram, hres, hgo⟩
    rw [hkind]
    exact heq
  · obtain ⟨c, heq⟩ := write_retireCtrl hw src.val
    have hplace : retirePlace { s with commit := c } = ⟨s.get ECC_RETIRE_ADDR_hc, s.get ECC_RETIRE_ADDR_bank, 0, 0⟩ := by
      rw [retirePlace_commit, retirePlace, hkind]
      rfl
    obtain ⟨hdram, hgo, hregs⟩ := retireGo_bank (s := { s with commit := c }) hkind (by rw [hplace]; exact hok)
    rw [hplace] at hdram
    refine ⟨_, congrArg Host.Outcome.next ?_, hdram, hgo, hregs⟩
    rw [hkind]
    exact heq
  · exact ⟨_, congrArg Host.Outcome.next (write_clearing (by decide +kernel) hw src.val), rfl, (SameRegs.setReg (.refl _ s)).clears⟩

end Sys2Proof.Machine
end

section
/-!
PROOF. Parity reads, field retrains, tracking passes and the retrain bit of a half-channel.
-/
set_option autoImplicit false
set_option Elab.async false

namespace Sys2Proof.Machine
open Reg Bit

namespace State
variable {s : State} {h k d : Nat}

theorem hc_setHc_same (s : State) (h : Nat) (x : HcSt) : (s.setHc h x).hc h = x := KMap.get_put_same _ _ _ _

theorem die_modDie_same (s : State) (d : Nat) (f : DieSt → DieSt) : (s.modDie d f).die d = f (s.die d) := KMap.get_put_same _ _ _ _

end State

theorem RegsAndEvents.trans {s t u : State} (h : RegsAndEvents s t) (h' : RegsAndEvents t u) : RegsAndEvents s u := by
  obtain ⟨m, e, rfl⟩ := h
  obtain ⟨m', e', rfl⟩ := h'
  exact ⟨m', e', rfl⟩

/-- A write of a register of the upper half that acts, on a state with another commit controller. -/
theorem write_high_state {s : State} {a base i : Nat} (h : highActing a base i = true) (hw : writable s a = true) (src : Nat) (v : Word) :
    ∃ r u, r.base = base ∧ Touches [.commit] s u ∧ write src a v s = writeHigh r i a v u := by
  obtain ⟨r, c, hbase, heq⟩ := write_high h hw src v
  exact ⟨r, _, hbase, .commit (.refl _ s), heq⟩

section
variable {s : State} {h : Nat}

/-! ### Parity reads -/

/-- Dropped commands go back to the queue, their half-channel's count is added, and few of them retrain nothing. -/
theorem caParity_retries (hnew : (s.hc h).caNew ≠ 0) (hfew : channelDrops s h < 16) : caParity h s =
    (((readMw13 (h / 8) s).modHc h fun y => { y with queue := y.queue ++ y.dropped, dropped := [], caNew := 0 }).addSat (HC_CA_RETRIES h)
      (s.hc h).caNew).cause (Cause.HC_ca_retry h) := by
  simp only [caParity, if_neg hnew, if_pos hfew]

/-! ### Field retrains -/

theorem retrain_apart : HC_STATUS h ≠ HC_TRAIN_STATUS h ∧ HC_STATUS h ≠ HC_EVT_CAUSE h ∧ HC_STATUS h ≠ HC_WCK_TRIM h ∧ HC_STATUS h ≠ HC_CTRL h := by
  simp only [HC_STATUS, HC_TRAIN_STATUS, HC_EVT_CAUSE, HC_WCK_TRIM, HC_CTRL]
  omega

/-- A retrain that is due begins on a half-channel in service. -/
theorem fieldRetrain_begins {c : Nat} (hdue : (s.hc h).retrainDue = some c) (hserv : s.get (HC_STATUS_state h) = HcState.service) :
    fieldRetrain h s = (((s.modHc h fun x => { x with retrain := some c, retrainDue := none }).put (HC_STATUS_state h) HcState.retrain).put
      (HC_TRAIN_STATUS_step h) 4).put (HC_TRAIN_STATUS_last_cause h) c := by
  simp only [fieldRetrain, hdue]
  rw [if_neg (not_not.2 hserv)]

/-- Without lines to remap, a training fails where its report says. -/
theorem trainFailStep_reported (o : TrainOutcome) (hdq : o.newDq = []) (hca : o.newCa = []) : trainFailStep o s = o.failStep := by
  have hzero : o.failStep = 0 ∨ o.failStep ≠ 0 := Nat.eq_zero_or_pos o.failStep |>.imp id Nat.ne_of_gt
  rcases hzero with hz | hz <;> simp [trainFailStep, hdq, hca, hz]

/-- The parts that a training changes. -/
abbrev trainParts : List Part := [.regs, .events, .hcs, .dram]

/-- What a training without lines to remap leaves before its verdict. -/
def trained (o : TrainOutcome) (s : State) : State :=
  (((s.put (HC_WCK_TRIM_trim o.hc) (min 63 o.wck)).put (HC_TRAIN_STATUS_us o.hc) (min 0xFFFF o.us)).put (HC_TRAIN_STATUS_fail_step o.hc) o.failStep).put
    (HC_TRAIN_STATUS_step o.hc) (if o.failStep = 0 then 9 else o.failStep)

/-- The trims that a training leaves in its half-channel. -/
def trainedHc (o : TrainOutcome) (x : HcSt) : HcSt :=
  { x with dq := o.dq.foldl (fun m p => if p.1 ≤ 37 then KMap.put (fun _ => (0 : Word)) m p.1 (dqTrims p.2) else m) x.dq
           erased := none, eraseDue := none, caTicks := [] }

theorem trainApply_trained (o : TrainOutcome) (hdq : o.newDq = []) (hca : o.newCa = []) :
    trainApply o s = (trained o s).modHc o.hc (trainedHc o) := by
  have hfail : trainFailStep o s = o.failStep := trainFailStep_reported o hdq hca
  unfold trainApply
  rw [hfail, hdq, hca]
  rfl

theorem trained_regs (o : TrainOutcome) : SameRegs [HC_TRAIN_STATUS o.hc, HC_WCK_TRIM o.hc] s (trained o s) :=
  ((((SameRegs.refl _ s).put (by exact .tail _ (.head _))).put (by exact .head _)).put (by exact .head _)).put (by exact .head _)

theorem trained_trim (o : TrainOutcome) : (trained o s).get (HC_WCK_TRIM_trim o.hc) = min 63 o.wck := by
  have hne : (HC_WCK_TRIM_trim o.hc).addr ≠ HC_TRAIN_STATUS o.hc := by
    simp only [HC_WCK_TRIM_trim, HC_WCK_TRIM, HC_TRAIN_STATUS]
    omega
  rw [trained, State.get_put_ne _ _ _ _ hne, State.get_put_ne _ _ _ _ hne, State.get_put_ne _ _ _ _ hne]
  exact State.get_put_self rfl (lt_of_le_of_lt (Nat.min_le_left _ _) (by decide : 63 < 2 ^ 6))

/-- A retrain has ended, its count and its bit in HC_CTRL shown. -/
def retrainOver (h : Nat) (s : State) : State :=
  (((s.modHc h fun x => { x with retrain := none }).addField (HC_TRAIN_STATUS_retrains h) 1).put (HC_CTRL_retrain h) 0).cause (Cause.HC_retrain h)

theorem retrainOver_regs : SameRegs [HC_TRAIN_STATUS h, HC_CTRL h, HC_EVT_CAUSE h] s (retrainOver h s) :=
  ((SameRegs.put (f := HC_TRAIN_STATUS_retrains h) ((SameRegs.refl _ s).modHc) (by exact .head _)).put (by exact .tail _ (.head _))).cause
    (by exact .tail _ (.tail _ (.head _)))

theorem fieldRetrainEnd_eq (o : TrainOutcome) (hrun : (s.hc o.hc).retrain ≠ none) :
    fieldRetrainEnd o s = copyRefresh (o.hc / 8) (retrained o (retrainOver o.hc s)) := by
  have hsome : (s.hc o.hc).retrain.isNone = false := by
    rw [Option.isNone_eq_false_iff]
    exact Option.isSome_iff_ne_none.2 hrun
  rw [fieldRetrainEnd, hsome, if_neg Bool.false_ne_true]
  rfl

/-- A half-channel that a training fails. -/
def trainingOut (fail k : Nat) (s : State) : State := banksOut k (hcFailed fail k s)

/-- The registers that it writes. -/
def outRegs (k : Nat) : List Nat := [HC_TRAIN_STATUS k, HC_STATUS k, HC_EVT_CAUSE k, HC_BANKS k, TT_HC_SHORT (k / 32), TT_EVT_CAUSE]

theorem hcFailed_regs (fail k : Nat) : SameRegs (outRegs k) s (hcFailed fail k s) :=
  .ite (.refl _ _) ((((SameRegs.refl _ s).put (by exact .head _)).put (by exact .tail _ (.head _))).cause (by exact .tail _ (.tail _ (.head _))))

/-- The banks of a half-channel are out of service. -/
def banksGone (k : Nat) (s : State) : State := (s.setReg (HC_BANKS k) 0).put (HC_STATUS_banks k) 0

/-- A half-channel that was not short is shown short. -/
def shortShown (k : Nat) (s : State) : State :=
  ((s.put (HC_STATUS_short k) 1).setReg (TT_HC_SHORT (k / 32)) (BitVec.ofNat 32 (natSetBit (s.reg (TT_HC_SHORT (k / 32))).toNat (k % 32)))).cause
    Cause.TT_hc_short

theorem banksOut_eq (k : Nat) : banksOut k s = if s.flag (HC_STATUS_short k) then banksGone k s else shortShown k (banksGone k s) := rfl

theorem banksGone_regs (k : Nat) : SameRegs (outRegs k) s (banksGone k s) :=
  ((SameRegs.refl _ s).setReg (by exact .tail _ (.tail _ (.tail _ (.head _))))).put (by exact .tail _ (.head _))

theorem shortShown_regs (k : Nat) : SameRegs (outRegs k) s (shortShown k s) :=
  (((SameRegs.refl _ s).put (by exact .tail _ (.head _))).setReg (by exact .tail _ (.tail _ (.tail _ (.tail _ (.head _)))))).cause
    (by exact .tail _ (.tail _ (.tail _ (.tail _ (.tail _ (.head _))))))

theorem trainingOut_regs (fail k : Nat) : SameRegs (outRegs k) s (trainingOut fail k s) := by
  rw [trainingOut, banksOut_eq]
  have h := hcFailed_regs (s := s) fail k
  exact .ite (h.trans (banksGone_regs k)) ((h.trans (banksGone_regs k)).trans (shortShown_regs k))

theorem hcFailed_only (fail k : Nat) : RegsAndEvents s (hcFailed fail k s) := .ite (.refl _) ((RegsAndEvents.put (.put (.refl _))).cause)

theorem trainingOut_only (fail k : Nat) : RegsAndEvents s (trainingOut fail k s) := by
  rw [trainingOut, banksOut_eq]
  have h := hcFailed_only (s := s) fail k
  have hgone := RegsAndEvents.put (h.setReg (a := HC_BANKS k) (v := 0)) (f := HC_STATUS_banks k) (v := 0)
  exact .ite hgone ((RegsAndEvents.setReg (.put hgone)).cause)

/-- The half-channel is out of service, with its banks. -/
structure HcOut (h : Nat) (t : State) : Prop where
  state : t.get (HC_STATUS_state h) = HcState.failed
  banks : t.reg (HC_BANKS h) = 0
  count : t.get (HC_STATUS_banks h) = 0
  short : t.get (HC_STATUS_short h) = 1

theorem hcFailed_state (fail : Nat) : (hcFailed fail h s).get (HC_STATUS_state h) = HcState.failed := by
  unfold hcFailed
  split
  next hfailed => exact hfailed
  next => rw [State.get_cause_ne _ (by exact retrain_apart.2.1), State.get_put_self rfl (by exact (by decide : 15 < 2 ^ 4))]

theorem banksGone_reg : (banksGone h s).get (HC_STATUS_banks h) = 0 ∧ (banksGone h s).reg (HC_BANKS h) = 0 ∧
    (banksGone h s).get (HC_STATUS_state h) = s.get (HC_STATUS_state h) ∧ (banksGone h s).get (HC_STATUS_short h) = s.get (HC_STATUS_short h) := by
  have hne : HC_STATUS h ≠ HC_BANKS h := by
    simp only [HC_STATUS, HC_BANKS]
    omega
  refine ⟨State.get_put_self rfl (Nat.two_pow_pos _), ?_, ?_, ?_⟩
  · rw [banksGone, State.reg_put_ne _ _ (by exact hne.symm), State.reg_setReg_same]
  · rw [banksGone, State.get_put_apart rfl, State.get_setReg_ne (by exact hne)]
  · rw [banksGone, State.get_put_apart rfl, State.get_setReg_ne (by exact hne)]

theorem shortShown_reg : (shortShown h s).get (HC_STATUS_short h) = 1 ∧ (shortShown h s).reg (HC_BANKS h) = s.reg (HC_BANKS h) ∧
    (shortShown h s).get (HC_STATUS_state h) = s.get (HC_STATUS_state h) ∧ (shortShown h s).get (HC_STATUS_banks h) = s.get (HC_STATUS_banks h) := by
  have hne : HC_STATUS h ≠ TT_HC_SHORT (h / 32) ∧ HC_STATUS h ≠ TT_EVT_CAUSE ∧ HC_BANKS h ≠ TT_HC_SHORT (h / 32) ∧ HC_BANKS h ≠ TT_EVT_CAUSE ∧
      HC_BANKS h ≠ HC_STATUS h := by
    simp only [HC_STATUS, HC_BANKS, TT_HC_SHORT, TT_EVT_CAUSE]
    omega
  obtain ⟨hs, hc, hbs, hbc, hb⟩ := hne
  refine ⟨?_, ?_, ?_, ?_⟩
  · rw [shortShown, State.get_cause_ne _ (by exact hc), State.get_setReg_ne (by exact hs), State.get_put_self rfl (by exact (by decide : 1 < 2 ^ 1))]
  · rw [shortShown, State.reg_cause_ne _ (by exact hbc), State.reg_setReg_ne _ _ (by exact hbs), State.reg_put_ne _ _ (by exact hb)]
  · rw [shortShown, State.get_cause_ne _ (by exact hc), State.get_setReg_ne (by exact hs), State.get_put_apart rfl]
  · rw [shortShown, State.get_cause_ne _ (by exact hc), State.get_setReg_ne (by exact hs), State.get_put_apart rfl]

theorem trainingOut_out (fail : Nat) : HcOut h (trainingOut fail h s) := by
  have hstate := hcFailed_state (s := s) (h := h) fail
  rw [trainingOut, banksOut_eq]
  generalize hcFailed fail h s = u at *
  obtain ⟨hcount, hbanks, hkept, hshort⟩ := banksGone_reg (s := u) (h := h)
  split
  next hflag =>
    have hone : u.get (HC_STATUS_short h) = 1 := (flag_iff rfl).1 hflag
    exact ⟨hkept.trans hstate, hbanks, hcount, hshort.trans hone⟩
  next =>
    obtain ⟨hone, hbanks', hkept', hcount'⟩ := shortShown_reg (s := banksGone h u) (h := h)
    exact ⟨hkept'.trans (hkept.trans hstate), hbanks'.trans hbanks, hcount'.trans hcount, hone⟩

/-- A failure of another half-channel leaves it so. -/
theorem HcOut.keep {t : State} (ht : HcOut h t) (fail : Nat) {k : Nat} (hne : k ≠ h) (hk : k < 128) : HcOut h (trainingOut fail k t) := by
  have hregs := trainingOut_regs (s := t) fail k
  have hstatus : HC_STATUS h ∉ outRegs k := by
    simp only [outRegs, HC_STATUS, HC_TRAIN_STATUS, HC_EVT_CAUSE, HC_BANKS, TT_HC_SHORT, TT_EVT_CAUSE, List.mem_cons, List.not_mem_nil, or_false]
    omega
  have hbanks : HC_BANKS h ∉ outRegs k := by
    simp only [outRegs, HC_STATUS, HC_TRAIN_STATUS, HC_EVT_CAUSE, HC_BANKS, TT_HC_SHORT, TT_EVT_CAUSE, List.mem_cons, List.not_mem_nil, or_false]
    omega
  have hget (f : Field) (hf : f.addr = HC_STATUS h) : (trainingOut fail k t).get f = t.get f := State.get_of_reg (hregs _ (hf ▸ hstatus))
  exact ⟨(hget _ rfl).trans ht.state, (hregs _ hbanks).trans ht.banks, (hget _ rfl).trans ht.count, (hget _ rfl).trans ht.short⟩

/-- A failed training takes its half-channel out of service, for a CA line with the other of the channel. -/
theorem failed_out (fail : Nat) (hh : h < 128) : HcOut h (forEach (failsWith h fail) (fun k s => banksOut k (hcFailed fail k s)) s) ∧
    RegsAndEvents s (forEach (failsWith h fail) (fun k s => banksOut k (hcFailed fail k s)) s) := by
  by_cases hfour : fail = 4
  · have heq : forEach (failsWith h fail) (fun k s => banksOut k (hcFailed fail k s)) s =
        trainingOut fail (h / 2 * 2 + 1) (trainingOut fail (h / 2 * 2) s) := by
      rw [failsWith, if_pos hfour]
      rfl
    rw [heq]
    refine ⟨?_, (trainingOut_only fail _).trans (trainingOut_only fail _)⟩
    by_cases hodd : h = h / 2 * 2 + 1
    · rw [← hodd]
      exact trainingOut_out fail
    · have heven : h / 2 * 2 = h := by omega
      rw [heven]
      exact (trainingOut_out fail).keep fail (by omega) (by omega)
  · have heq : forEach (failsWith h fail) (fun k s => banksOut k (hcFailed fail k s)) s = trainingOut fail h s := by
      rw [failsWith, if_neg hfour]
      rfl
    rw [heq]
    exact ⟨trainingOut_out fail, trainingOut_only fail _⟩

/-- A training that fails nowhere leaves its half-channel in service. -/
theorem retrained_service (o : TrainOutcome) (hdq : o.newDq = []) (hca : o.newCa = []) (hz : o.failStep = 0)
    (hok : s.get (HC_STATUS_state o.hc) ≠ HcState.failed) :
    retrained o s = ((trained o s).modHc o.hc (trainedHc o)).put (HC_STATUS_state o.hc) HcState.service := by
  have hnot : HC_STATUS o.hc ∉ [HC_TRAIN_STATUS o.hc, HC_WCK_TRIM o.hc] := by
    simp only [List.mem_cons, List.not_mem_nil, or_false, HC_STATUS, HC_TRAIN_STATUS, HC_WCK_TRIM]
    omega
  have hstate : ((trained o s).modHc o.hc (trainedHc o)).get (HC_STATUS_state o.hc) = s.get (HC_STATUS_state o.hc) :=
    (State.get_modHc _ _ _ _).trans (State.get_of_reg (trained_regs o (HC_STATUS o.hc) hnot))
  simp only [retrained, trainFailStep_reported o hdq hca, trainApply_trained o hdq hca, hz, hstate]
  rw [if_neg (by simp), if_neg hok]

/-- One that fails takes it out of service. -/
theorem retrained_failed (o : TrainOutcome) (hdq : o.newDq = []) (hca : o.newCa = []) (hz : o.failStep ≠ 0) :
    retrained o s = forEach (failsWith o.hc o.failStep) (fun k s => banksOut k (hcFailed o.failStep k s)) ((trained o s).modHc o.hc (trainedHc o)) := by
  simp only [retrained, trainFailStep_reported o hdq hca, trainApply_trained o hdq hca]
  rw [if_pos hz]

theorem trained_hc (o : TrainOutcome) (k : Nat) : (trained o s).hc k = s.hc k := RegsAndEvents.hc (.put (.put (.put (.put (.refl _))))) k

theorem retrainOver_hc : ((retrainOver h s).hc h).retrain = none := by
  rw [retrainOver, State.addField, RegsAndEvents.hc (.cause (.put (.put (.refl _)))), State.hc_modHc_same]

theorem retrainOver_go : (retrainOver h s).get (HC_CTRL_retrain h) = 0 := by
  have hne : HC_CTRL h ≠ HC_EVT_CAUSE h := by
    simp only [HC_CTRL, HC_EVT_CAUSE]
    omega
  rw [retrainOver, State.get_cause_ne _ (by exact hne)]
  exact State.get_put_self rfl (Nat.two_pow_pos _)

theorem copyRefresh_regs (d : Nat) (w : State) : (copyRefresh d w).regs = w.regs := rfl

theorem copyRefresh_hc (d k : Nat) (w : State) : (copyRefresh d w).hc k = w.hc k := rfl

theorem copyRefresh_valid (d : Nat) (w : State) : ((copyRefresh d w).die d).valid = true := by
  rw [copyRefresh, State.die_modDie_same]

/-- The end of a retrain that failed nowhere. -/
theorem fieldRetrainEnd_service (o : TrainOutcome) (hdq : o.newDq = []) (hca : o.newCa = []) (hrun : (s.hc o.hc).retrain ≠ none)
    (hz : o.failStep = 0) (hok : s.get (HC_STATUS_state o.hc) ≠ HcState.failed) :
    (fieldRetrainEnd o s).get (HC_STATUS_state o.hc) = HcState.service ∧ ((fieldRetrainEnd o s).hc o.hc).retrain = none ∧
    (fieldRetrainEnd o s).get (HC_CTRL_retrain o.hc) = 0 ∧ (fieldRetrainEnd o s).get (HC_WCK_TRIM_trim o.hc) = min 63 o.wck ∧
    ((fieldRetrainEnd o s).die (o.hc / 8)).valid = true ∧
    SameRegs [HC_STATUS o.hc, HC_TRAIN_STATUS o.hc, HC_WCK_TRIM o.hc, HC_CTRL o.hc, HC_EVT_CAUSE o.hc] s (fieldRetrainEnd o s) := by
  have heq := fieldRetrainEnd_eq o hrun
  have hover := retrainOver_hc (h := o.hc) (s := s)
  have hsame := retrainOver_regs (h := o.hc) (s := s)
  have hgo := retrainOver_go (h := o.hc) (s := s)
  obtain ⟨hts, hec, hwt, hct⟩ := retrain_apart (h := o.hc)
  have hok' : (retrainOver o.hc s).get (HC_STATUS_state o.hc) ≠ HcState.failed := by
    rw [State.get_of_reg (hsame (HC_STATUS o.hc) (by simp [hts, hct, hec]))]
    exact hok
  generalize retrainOver o.hc s = u at *
  rw [retrained_service o hdq hca hz hok'] at heq
  have hregs := trained_regs (s := u) o
  have htrim := trained_trim (s := u) o
  have hhc := trained_hc (s := u) o o.hc
  generalize trained o u = v at *
  have hput : SameRegs [HC_STATUS o.hc] v ((v.modHc o.hc (trainedHc o)).put (HC_STATUS_state o.hc) HcState.service) :=
    ((SameRegs.refl _ v).modHc).put (by exact .head _)
  have hstate : ((v.modHc o.hc (trainedHc o)).put (HC_STATUS_state o.hc) HcState.service).get (HC_STATUS_state o.hc) = HcState.service :=
    State.get_put_self rfl (by exact (by decide : 2 < 2 ^ 4))
  have hnone : (((v.modHc o.hc (trainedHc o)).put (HC_STATUS_state o.hc) HcState.service).hc o.hc).retrain = none := by
    rw [RegsAndEvents.hc (.put (.refl _)), State.hc_modHc_same, hhc]
    exact hover
  generalize (v.modHc o.hc (trainedHc o)).put (HC_STATUS_state o.hc) HcState.service = w at *
  have hcopy (f : Field) : (fieldRetrainEnd o s).get f = w.get f := by
    rw [heq]
    exact State.get_of_regs (copyRefresh_regs _ w) f
  refine ⟨(hcopy _).trans hstate, ?_, ?_, ?_, ?_, ?_⟩
  · rw [heq, copyRefresh_hc]
    exact hnone
  · have hnot : HC_CTRL o.hc ∉ [HC_TRAIN_STATUS o.hc, HC_WCK_TRIM o.hc] := by
      simp only [List.mem_cons, List.not_mem_nil, or_false, HC_CTRL, HC_TRAIN_STATUS, HC_WCK_TRIM]
      omega
    rw [hcopy, State.get_of_reg (hput (HC_CTRL o.hc) (by simp [hct.symm])), State.get_of_reg (hregs (HC_CTRL o.hc) hnot)]
    exact hgo
  · rw [hcopy, State.get_of_reg (hput (HC_WCK_TRIM o.hc) (by simp [hwt.symm]))]
    exact htrim
  · rw [heq]
    exact copyRefresh_valid _ w
  · rw [heq]
    have hall : SameRegs [HC_STATUS o.hc, HC_TRAIN_STATUS o.hc, HC_WCK_TRIM o.hc, HC_CTRL o.hc, HC_EVT_CAUSE o.hc] s w :=
      ((hsame.mono (by simp)).trans (hregs.mono (by simp))).trans (hput.mono (by simp))
    exact hall.trans (.of_regs (copyRefresh_regs _ w))

/-- The end of one that failed. -/
theorem fieldRetrainEnd_failed (o : TrainOutcome) (hdq : o.newDq = []) (hca : o.newCa = []) (hrun : (s.hc o.hc).retrain ≠ none)
    (hz : o.failStep ≠ 0) (hh : o.hc < 128) : HcOut o.hc (fieldRetrainEnd o s) ∧ ((fieldRetrainEnd o s).hc o.hc).retrain = none := by
  have heq := fieldRetrainEnd_eq o hrun
  have hover := retrainOver_hc (h := o.hc) (s := s)
  generalize retrainOver o.hc s = u at *
  rw [retrained_failed o hdq hca hz] at heq
  have hhc : (((trained o u).modHc o.hc (trainedHc o)).hc o.hc).retrain = none := by
    rw [State.hc_modHc_same, trained_hc]
    exact hover
  generalize (trained o u).modHc o.hc (trainedHc o) = v at *
  obtain ⟨hout, honly⟩ := failed_out (s := v) (h := o.hc) o.failStep hh
  generalize forEach (failsWith o.hc o.failStep) (fun k s => banksOut k (hcFailed o.failStep k s)) v = w at *
  rw [heq]
  refine ⟨⟨?_, ?_, ?_, ?_⟩, ?_⟩
  · exact hout.state
  · exact hout.banks
  · exact hout.count
  · exact hout.short
  · exact (congrArg HcSt.retrain (honly.hc o.hc)).trans hhc

/-! ### Tracking -/

theorem moved_le (v : Nat) (m : Int) (top : Nat) : moved v m top ≤ top := by
  simp only [moved]
  omega

/-- The trim and the place of the next pass. -/
def tracked (h : Nat) (m : Int) (s : State) : State :=
  ((s.setHc h { s.hc h with trackBank := ((s.hc h).trackBank + 1) % 32, trackAt := s.ticks }).put (HC_WCK_TRIM_trim h)
    (moved (s.get (HC_WCK_TRIM_trim h)) m 63)).add48 (HC_ACT_CNT_LO h) 8

theorem trackingPass_eq (m : Int) (hon : s.get (HC_CTRL_track_en h) = 1) (hserv : s.get (HC_STATUS_state h) = HcState.service) :
    trackingPass h false m [] s =
      if m ≠ 0 ∧ (moved (s.get (HC_WCK_TRIM_trim h)) m 63 = 0 ∨ moved (s.get (HC_WCK_TRIM_trim h)) m 63 = 63) then
        retrainDecide h 2 ((tracked h m s).cause (Cause.HC_drift h))
      else tracked h m s := by
  have hflag : s.flag (HC_CTRL_track_en h) = true := flag_of_get_eq_one hon
  rw [trackingPass]
  simp only [hflag, hserv, List.foldl_nil, List.any_nil, Bool.or_false, Bool.false_eq_true, if_false]
  rw [if_neg (by simp)]
  by_cases hedge : m ≠ 0 ∧ (moved (s.get (HC_WCK_TRIM_trim h)) m 63 = 0 ∨ moved (s.get (HC_WCK_TRIM_trim h)) m 63 = 63)
  · rw [if_pos hedge, if_pos (by simpa using hedge)]
    rfl
  · rw [if_neg hedge, if_neg (by simpa using hedge)]
    rfl

theorem tracked_regs (m : Int) : SameRegs [HC_WCK_TRIM h, HC_ACT_CNT_LO h, HC_ACT_CNT_LO h + 4] s (tracked h m s) :=
  (((SameRegs.refl _ s).setHc).put (by exact .head _)).add48 (by exact .tail _ (.head _)) (by exact .tail _ (.tail _ (.head _)))

theorem tracked_trim (m : Int) : (tracked h m s).get (HC_WCK_TRIM_trim h) = moved (s.get (HC_WCK_TRIM_trim h)) m 63 := by
  have hne : HC_WCK_TRIM h ≠ HC_ACT_CNT_LO h ∧ HC_WCK_TRIM h ≠ HC_ACT_CNT_LO h + 4 := by
    simp only [HC_WCK_TRIM, HC_ACT_CNT_LO]
    omega
  rw [tracked, State.add48, State.get_setReg_ne (by exact hne.2), State.get_setReg_ne (by exact hne.1)]
  exact State.get_put_self rfl (lt_of_le_of_lt (moved_le _ _ _) (by decide : 63 < 2 ^ 6))

theorem tracked_hc (m : Int) : (tracked h m s).hc h = { s.hc h with trackBank := ((s.hc h).trackBank + 1) % 32, trackAt := s.ticks } :=
  (RegsAndEvents.hc (.setReg (.setReg (.put (.refl _)))) h).trans (State.hc_setHc_same s h _)

theorem retrainDecide_one {cause : Nat} (hne : cause ≠ 1) : retrainDecide h cause s =
    s.modHc h fun x => { x with retrainDue := if x.retrainDue.isSome then x.retrainDue else some cause } := by
  rw [retrainDecide, if_neg hne]
  rfl

/-! ### The retrain bit -/

theorem highActing_hcCtrl : ∀ h : Hc, highActing (HC_CTRL h) (HC_CTRL 0) h = true := by decide +kernel

theorem writeHigh_hcCtrl {r : RegRow} (hr : r.base = HC_CTRL 0) (i a : Nat) (v : Word) : writeHigh r i a v s = hcCtrlWrite i v s := by
  rw [writeHigh, if_pos hr]

/-- The retrain bit of a half-channel in service makes a retrain due. -/
theorem hcCtrlWrite_retrain (v : Word) (hserv : s.get (HC_STATUS_state h) = HcState.service) (hfree : (s.hc h).retrainDue = none) :
    hcCtrlWrite h (v.withBits 0 0 1) s = ((s.put (HC_CTRL_track_en h) (v.bits 4 4)).put (HC_CTRL_retrain h) 1).modHc h fun x => { x with
      retrainDue := if x.retrainDue.isSome then x.retrainDue else some 0 } := by
  have hgo : (v.withBits 0 0 1).bits 0 0 = 1 := Word.bits_withBits_same _ 0 0 1 (by decide) (by decide)
  have hen : (v.withBits 0 0 1).bits 4 4 = v.bits 4 4 := Word.bits_withBits_above _ 0 0 1 4 4 (by decide) (by decide) (by decide)
  simp only [hcCtrlWrite, hgo, hen, hserv, hfree, Option.isNone_none, decide_true, Bool.and_true, beq_self_eq_true, if_true]
  exact retrainDecide_one (by decide)

theorem clearing_hcClr : ∀ h : Hc, clearing (HC_CLR h) = true := by decide +kernel

end

/-- Settles O24: each command's branch of the half-channel's rules, and the fields and registers it writes. -/
theorem halfChannelsRetrainAndTrackAsStated : Obligations.HalfChannelsRetrainAndTrackAsStated := by
  unfold Obligations.HalfChannelsRetrainAndTrackAsStated
  intro s h
  refine ⟨fun hup hnew hfew => ?_, fun c hup hdue hserv => ?_, fun o hup ho hdq hca hrun hok => ?_, fun m hup hon hserv => ?_,
    fun src v hw hserv hfree => ?_, fun src hw => ?_⟩
  · refine ⟨_, congrArg Host.Outcome.next ((whenUp_of_up hup _).trans (caParity_retries hnew hfew)), ?_⟩
    have hhc : (readMw13 (h.val / 8) s).hc h = s.hc h := rfl
    have hregs : (readMw13 (h.val / 8) s).regs = s.regs := rfl
    generalize readMw13 (h.val / 8) s = u at *
    have hcause : (Cause.HC_ca_retry h).cause ≠ HC_CA_RETRIES h := by
      simp only [Cause.HC_ca_retry, HC_EVT_CAUSE, HC_CA_RETRIES]
      omega
    rw [RegsAndEvents.hc (.cause (.addSat (.refl _))), State.hc_modHc_same, hhc]
    refine ⟨rfl, rfl, rfl, ?_, rfl, ?_⟩
    · rw [State.reg_cause_ne _ hcause.symm, State.reg_addSat_same]
      exact congrArg (satAdd 0xFFFFFFFF · _) (congrArg BitVec.toNat (State.reg_of_regs hregs _))
    · exact ((((SameRegs.of_regs hregs).modHc).addSat (by exact .head _)).cause (by exact .tail _ (.head _)))
  · refine ⟨_, congrArg Host.Outcome.next ((whenUp_of_up hup _).trans (fieldRetrain_begins hdue hserv)), ?_⟩
    have hne : HC_STATUS h ≠ HC_TRAIN_STATUS h := retrain_apart.1
    rw [RegsAndEvents.hc (.put (.put (.put (.refl _)))), State.hc_modHc_same]
    refine ⟨?_, rfl, rfl, ?_, ?_⟩
    · rw [State.get_put_ne _ _ _ _ (by exact hne), State.get_put_ne _ _ _ _ (by exact hne)]
      exact State.get_put_self rfl (by exact (by decide : 4 < 2 ^ 4))
    · rw [State.get_put_apart rfl]
      exact State.get_put_self rfl (by exact (by decide : 4 < 2 ^ 4))
    · exact ((((SameRegs.refl _ s).modHc).put (by exact .head _)).put (by exact .tail _ (.head _))).put (by exact .tail _ (.head _))
  · have hexec : exec (.fieldRetrainEnd o) s = .next (fieldRetrainEnd o s) := congrArg Host.Outcome.next (whenUp_of_up hup (fieldRetrainEnd o))
    rw [← ho] at hrun hok ⊢
    refine ⟨fun hz => ⟨_, hexec, fieldRetrainEnd_service o hdq hca hrun hz hok⟩, fun hz => ?_⟩
    obtain ⟨hout, hnone⟩ := fieldRetrainEnd_failed o hdq hca hrun hz (ho ▸ h.isLt)
    exact ⟨_, hexec, hout.state, hnone, hout.banks, hout.count, hout.short⟩
  · refine ⟨_, congrArg Host.Outcome.next ((whenUp_of_up hup _).trans (trackingPass_eq m hon hserv)), ?_⟩
    have htrim := tracked_trim (s := s) (h := h) m
    have hhc := tracked_hc (s := s) (h := h) m
    have hregs := tracked_regs (s := s) (h := h) m
    generalize tracked h m s = u at *
    split
    next hedge =>
      have hne : HC_WCK_TRIM h ≠ HC_EVT_CAUSE h := by
        simp only [HC_WCK_TRIM, HC_EVT_CAUSE]
        omega
      rw [retrainDecide_one (by decide), State.hc_modHc_same, RegsAndEvents.hc (.cause (.refl _)), hhc, State.get_modHc,
        State.get_cause_ne _ (by exact hne), htrim]
      exact ⟨rfl, rfl, rfl, rfl, fun hno => absurd hedge (by omega)⟩
    next hedge =>
      rw [hhc]
      exact ⟨htrim, rfl, rfl, rfl, fun _ => ⟨rfl, hregs⟩⟩
  · obtain ⟨r, u, hbase, hu, heq⟩ := write_high_state (highActing_hcCtrl h) hw src.val (v.withBits 0 0 1)
    have hhc : u.hc h = s.hc h := State.hc_of_hcs hu.keeps_hcs h
    rw [writeHigh_hcCtrl hbase, hcCtrlWrite_retrain v ((State.get_of_regs hu.keeps_regs _).trans hserv) ((congrArg HcSt.retrainDue hhc).trans hfree)] at heq
    refine ⟨_, congrArg Host.Outcome.next heq, ?_, ?_, ?_, ?_⟩
    · rw [State.hc_modHc_same, RegsAndEvents.hc (.put (.put (.refl _))), hhc, hfree]
      rfl
    · rw [State.get_modHc]
      exact State.get_put_self rfl (by exact (by decide : 1 < 2 ^ 1))
    · rw [State.get_modHc, State.get_put_apart rfl]
      exact State.get_put_self rfl (Nat.mod_lt _ (Nat.two_pow_pos _))
    · exact (((SameRegs.of_regs hu.keeps_regs).put (by exact .head _)).put (by exact .head _)).modHc
  · exact ⟨_, congrArg Host.Outcome.next (write_clearing (clearing_hcClr h) hw src.val), rfl, ((SameRegs.refl _ s).setReg (by exact .head _)).clears⟩

end Sys2Proof.Machine
end

section
/-!
PROOF. Row repairs, self-refresh confirmations, hot flags and copies of mode words; what the end of a transition can change.
-/
set_option autoImplicit false
set_option Elab.async false

namespace Sys2Proof.Machine
open Reg Bit

/-- What every turn keeps, the whole loop keeps. -/
theorem forEach_invariant {α : Type} {Inv : State → Prop} {f : α → State → State} {xs : List α} {s : State} (h : Inv s)
    (hf : ∀ a ∈ xs, ∀ u, Inv u → Inv (f a u)) : Inv (forEach xs f s) := by
  unfold forEach
  induction xs generalizing s with
  | nil => exact h
  | cons a xs ih => exact ih (hf a (.head _) s h) fun b hb => hf b (.tail _ hb)

theorem mem_insertSorted_self (n : Nat) (l : List Nat) : n ∈ insertSorted n l := by
  induction l with
  | nil => exact .head _
  | cons a l ih =>
    unfold insertSorted
    split
    · exact .head _
    · split
      next h => exact h ▸ .head _
      · exact .tail _ ih

/-- Taking off a bit that is set leaves what stands above it. -/
theorem sub_two_pow_div {n k : Nat} (h : n.testBit k = true) : (n - 2 ^ k) / 2 ^ (k + 1) = n / 2 ^ (k + 1) := by
  have hlow : 2 ^ k ≤ n % 2 ^ (k + 1) := by
    refine Nat.ge_two_pow_of_testBit ?_
    rw [Nat.testBit_mod_two_pow, h, decide_eq_true (Nat.lt_succ_self k)]
    rfl
  have hlt := Nat.mod_lt n (Nat.two_pow_pos (k + 1))
  have hsplit := Nat.div_add_mod n (2 ^ (k + 1))
  have hsub : n - 2 ^ k = n % 2 ^ (k + 1) - 2 ^ k + 2 ^ (k + 1) * (n / 2 ^ (k + 1)) := by omega
  rw [hsub, Nat.add_mul_div_left _ _ (Nat.two_pow_pos _), Nat.div_eq_of_lt (by omega), Nat.zero_add]

/-- Clearing a bit leaves the bits that are clear. -/
theorem natBit_natClearBit {n k i : Nat} (h : natBit n i = false) : natBit (natClearBit n k) i = false := by
  unfold natClearBit
  split
  next hk =>
    rw [natBit_eq_testBit] at h hk ⊢
    have hle : 2 ^ k ≤ n := Nat.ge_two_pow_of_testBit hk
    rcases Nat.lt_trichotomy i k with hlt | heq | hgt
    · rw [← Nat.testBit_two_pow_add_gt hlt (n - 2 ^ k), Nat.add_sub_cancel' hle]
      exact h
    · exact absurd (hk.symm.trans (heq ▸ h)) (by decide)
    · obtain ⟨m, rfl⟩ := Nat.exists_eq_add_of_lt hgt
      have habove (x : Nat) : x.testBit (k + m + 1) = (x / 2 ^ (k + 1)).testBit m := by
        rw [Nat.testBit_div_two_pow]
        congr 1
        omega
      rw [habove, sub_two_pow_div hk, ← habove]
      exact h
  next => exact h

/-! ### The end of a transition -/

/-- The parts that requests for modes change. -/
abbrev modeParts : List Part := [.regs, .events, .modes, .commit]

/-- The registers that requests for modes write. -/
def modeReg (a : Nat) : Prop :=
  a = PWR_MODE_LAST ∨ a = PWR_EVT_CAUSE ∨ a = PWR_WAKE ∨ a = GLB_COMMIT_CTRL ∨ a = GLB_COMMIT_STATUS ∨ a = GLB_COMMIT_ABORTS

theorem commitWithdraw_touches (cause first : Nat) (s : State) : Touches modeParts s (commitWithdraw cause first s) := by
  unfold commitWithdraw
  split
  · have hdisarm : Touches modeParts s (disarm s) := (Touches.refl _ s).commit.put
    unfold commitAbort
    exact hdisarm.put.put.addField.raiseEvent
  · exact .refl _ s

namespace Confined
variable {l : List Part} {P : Nat → Prop} {s t : State}

theorem commit (h : Confined l P s t) {x : Commit} (hl : .commit ∈ l := by decide) : Confined l P s { t with commit := x } :=
  h.part (h.touches.commit hl) rfl

theorem modes (h : Confined l P s t) {x : Modes} (hl : .modes ∈ l := by decide) : Confined l P s { t with modes := x } :=
  h.part (h.touches.modes hl) rfl

theorem modeEnd (h : Confined modeParts modeReg s t) {r : ModeReq} {status cause : Nat} : Confined modeParts modeReg s (modeEnd r status cause t) :=
  (h.setReg (.inl rfl)).causeWith (.inr (.inl rfl))

theorem clearLatch (h : Confined modeParts modeReg s t) : Confined modeParts modeReg s (clearLatch t) := h.setReg (.inr (.inr (.inl rfl)))

theorem commitWithdraw (h : Confined modeParts modeReg s t) {cause first : Nat} : Confined modeParts modeReg s (commitWithdraw cause first t) := by
  refine h.trans ⟨commitWithdraw_touches cause first t, fun a ha => ?_⟩
  · by_cases harmed : t.commit.armed = none
    · rw [commitWithdraw_unarmed harmed]
    · rw [commitWithdraw_of_armed harmed]
      exact (commitAbort_sameRegs _ _ _ a fun hm => ha (.inr (.inr (.inr (.inr (by simpa using hm)))))).trans
        (disarm_sameRegs t a fun hm => ha (.inr (.inr (.inr (.inl (by simpa using hm))))))

theorem stepStart_one (h : Confined modeParts modeReg s t) {target : Nat} : Confined modeParts modeReg s (stepStart target 1 t) := by
  unfold stepStart
  exact .ite h.modes (.ite h.modes (.ite h.modes (.ite h.modes (.ite h.commit h))))

theorem goStep_one (h : Confined modeParts modeReg s t) : Confined modeParts modeReg s (goStep 1 t) := by
  unfold Machine.goStep
  split
  next => exact stepStart_one h.modes
  next => exact h

theorem transitionStart (h : Confined modeParts modeReg s t) : Confined modeParts modeReg s (transitionStart t) := by
  unfold Machine.transitionStart
  split
  next => exact h
  next => exact .ite (.ite h.modes.goStep_one h.modes) h.modes.goStep_one

theorem modeBegin (h : Confined modeParts modeReg s t) {r : ModeReq} : Confined modeParts modeReg s (modeBegin r t) := by
  unfold Machine.modeBegin
  split
  next => exact h.modeEnd
  next =>
    extract_lets hard s1 wait x ms s2
    have h1 : Confined modeParts modeReg s s1 := .ite h.commitWithdraw h
    have h2 : Confined modeParts modeReg s s2 := h1.modes
    exact .ite h2 h2.transitionStart

theorem takePending (h : Confined modeParts modeReg s t) : Confined modeParts modeReg s (takePending t) := by
  unfold Machine.takePending
  split
  next => exact h.modes.modeBegin
  next => exact h

end Confined

/-! ### Row repairs -/

section
variable {s u : State} {h : Nat}

theorem highActing_hcRepairCtrl : ∀ h : Hc, highActing (HC_REPAIR_CTRL h) (HC_REPAIR_CTRL 0) h = true := by decide +kernel

theorem writeHigh_hcRepairCtrl {r : RegRow} (hr : r.base = HC_REPAIR_CTRL 0) (i a : Nat) (v : Word) : writeHigh r i a v s = hcRepairWrite i v s := by
  have hne : r.base ≠ HC_CTRL 0 := hr ▸ by decide
  rw [writeHigh, if_neg hne, if_pos hr]

/-- The repair that the registers of a half-channel name. -/
def repairNamed (h : Nat) (s : State) : Place := ⟨h, s.get (HC_REPAIR_ADDR_bank h), s.get (HC_REPAIR_ADDR_row h), 0⟩

theorem repairNamed_congr (hregs : u.regs = s.regs) : repairNamed h u = repairNamed h s := by
  simp only [repairNamed, State.get_of_regs hregs]

/-- The verdict on a repair is read from its half-channel, its registers and the spares taken. -/
theorem repairRefusal_congr {p : Place} (hregs : u.regs = s.regs) (hhcs : u.hcs = s.hcs) (hdram : u.dram = s.dram) :
    repairRefusal u p = repairRefusal s p := by
  unfold repairRefusal sparesLeft
  rw [State.hc_of_hcs hhcs, State.get_of_regs hregs, State.reg_of_regs hregs, hdram]

theorem hcRepairWrite_busy (hrun : (s.hc h).rowRepair ≠ none) :
    hcRepairWrite h 1 s = (s.put (HC_REPAIR_STATUS_result h) RepairResult.busy).cause (Cause.HC_repair_fail h) := by
  rw [hcRepairWrite, if_neg (by decide), if_pos (Option.isSome_iff_ne_none.2 hrun)]

theorem hcRepairWrite_request (hfree : (s.hc h).rowRepair = none) : hcRepairWrite h 1 s = repairRequest (repairNamed h s) s := by
  rw [hcRepairWrite, if_neg (by decide), if_neg (by simp [hfree])]
  rfl

/-- The outcome of a refused repair, shown. -/
theorem repairRequest_refused {p : Place} {r : Nat} (hr : repairRefusal s p = some r) : repairRequest p s =
    (((s.put (HC_REPAIR_STATUS_spares_left p.hc) (sparesLeft s p)).put (HC_REPAIR_STATUS_result p.hc) r).put (HC_REPAIR_CTRL_go p.hc) 0).cause
      (Cause.HC_repair_fail p.hc) := by
  simp only [repairRequest, hr]

theorem repairRequest_taken {p : Place} (hr : repairRefusal s p = none) : repairRequest p s =
    repairBegin p ((s.put (HC_REPAIR_STATUS_spares_left p.hc) (sparesLeft s p)).put (HC_REPAIR_CTRL_go p.hc) 1) := by
  simp only [repairRequest, hr]

theorem repair_apart : HC_REPAIR_CTRL h ≠ HC_REPAIR_STATUS h ∧ HC_REPAIR_CTRL h ≠ HC_EVT_CAUSE h ∧ HC_REPAIR_STATUS h ≠ HC_EVT_CAUSE h := by
  simp only [HC_REPAIR_CTRL, HC_REPAIR_STATUS, HC_EVT_CAUSE]
  omega

/-- A repair that begins is at its ledger step, and its ledger entry is due a copy. -/
theorem repairBegin_fields (p : Place) (s : State) :
    ((repairBegin p s).hc p.hc).rowRepair = some ⟨p.bank, p.row, RepairStep.ledger, 0, []⟩ ∧
      (repairBegin p s).get (HC_REPAIR_STATUS_state p.hc) = RepairStep.ledger ∧
      (repairBegin p s).get (HC_REPAIR_CTRL_go p.hc) = s.get (HC_REPAIR_CTRL_go p.hc) ∧ (repairBegin p s).dram = s.dram := by
  unfold repairBegin
  have hregs : (ledgerAdd ⟨.rowRepair, p.hc, p.bank, p.row, 0⟩ s).regs = s.regs := rfl
  have hdram : (ledgerAdd ⟨.rowRepair, p.hc, p.bank, p.row, 0⟩ s).dram = s.dram := rfl
  dsimp only
  generalize sparesLeft s p = n
  generalize ledgerAdd ⟨.rowRepair, p.hc, p.bank, p.row, 0⟩ s = u at *
  refine ⟨?_, ?_, ?_, hdram⟩
  · rw [RegsAndEvents.hc (.put (.put (.refl _))), State.hc_modHc_same]
  · rw [State.get_put_apart rfl]
    exact State.get_put_self rfl (by exact (by decide : RepairStep.ledger < 2 ^ 3))
  · rw [State.get_put_ne _ _ _ _ (by exact repair_apart.1), State.get_put_ne _ _ _ _ (by exact repair_apart.1), State.get_modHc]
    exact State.get_of_regs hregs _

/-- While a repair runs a second one is shown as busy. -/
theorem hcRepairWrite_whileBusy (hrun : (u.hc h).rowRepair ≠ none) : (hcRepairWrite h 1 u).get (HC_REPAIR_STATUS_result h) = RepairResult.busy ∧
    (hcRepairWrite h 1 u).hc h = u.hc h ∧ SameRegs [HC_REPAIR_STATUS h, HC_EVT_CAUSE h] u (hcRepairWrite h 1 u) := by
  rw [hcRepairWrite_busy hrun]
  refine ⟨?_, RegsAndEvents.hc (.cause (.put (.refl _))) _, ((SameRegs.refl _ u).put (by exact .head _)).cause (by exact .tail _ (.head _))⟩
  rw [State.get_cause_ne _ (by exact repair_apart.2.2)]
  exact State.get_put_self rfl (by exact (by decide : RepairResult.busy < 2 ^ 3))

/-- A repair that the half-channel can take begins. -/
theorem hcRepairWrite_begins (hfree : (u.hc h).rowRepair = none) (hok : repairRefusal u (repairNamed h u) = none) :
    ((hcRepairWrite h 1 u).hc h).rowRepair = some ⟨(repairNamed h u).bank, (repairNamed h u).row, RepairStep.ledger, 0, []⟩ ∧
      (hcRepairWrite h 1 u).get (HC_REPAIR_STATUS_state h) = RepairStep.ledger ∧ (hcRepairWrite h 1 u).get (HC_REPAIR_CTRL_go h) = 1 ∧
      (hcRepairWrite h 1 u).dram = u.dram := by
  rw [hcRepairWrite_request hfree, repairRequest_taken hok]
  have hhc : (repairNamed h u).hc = h := rfl
  generalize repairNamed h u = p at *
  subst hhc
  obtain ⟨hrow, hstate, hkept, hsame⟩ :=
    repairBegin_fields p ((u.put (HC_REPAIR_STATUS_spares_left p.hc) (sparesLeft u p)).put (HC_REPAIR_CTRL_go p.hc) 1)
  refine ⟨hrow, hstate, hkept.trans (State.get_put_self rfl (by exact (by decide : 1 < 2 ^ 1))), hsame.trans ?_⟩
  exact (Touches.put (l := [.regs]) (.put (.refl _ u))).keeps_dram

/-- A repair that the half-channel refuses is shown with its reason. -/
theorem hcRepairWrite_refused {r : Fin 8} (hfree : (u.hc h).rowRepair = none) (hno : repairRefusal u (repairNamed h u) = some r.val) :
    ((hcRepairWrite h 1 u).hc h).rowRepair = none ∧ (hcRepairWrite h 1 u).get (HC_REPAIR_STATUS_result h) = r.val ∧
      (hcRepairWrite h 1 u).get (HC_REPAIR_CTRL_go h) = 0 ∧ (hcRepairWrite h 1 u).dram = u.dram := by
  rw [hcRepairWrite_request hfree, repairRequest_refused hno]
  have hhc : (repairNamed h u).hc = h := rfl
  generalize repairNamed h u = p at *
  subst hhc
  generalize sparesLeft u p = n
  refine ⟨?_, ?_, ?_, ?_⟩
  · rw [RegsAndEvents.hc (.cause (.put (.put (.put (.refl _)))))]
    exact hfree
  · rw [State.get_cause_ne _ (by exact repair_apart.2.2), State.get_put_ne _ _ _ _ (by exact repair_apart.1.symm)]
    exact State.get_put_self rfl r.isLt
  · rw [State.get_cause_ne _ (by exact repair_apart.2.1)]
    exact State.get_put_self rfl (by exact (by decide : 0 < 2 ^ 1))
  · exact (Touches.cause (l := [.regs, .events]) (.put (.put (.put (.refl _ u))))).keeps_dram

/-- What the end of a row repair leaves: its row on a spare, no repair and no suspicion. -/
def repaired (h : Nat) (r : RowRepair) (s : State) : State :=
  { s with
    ledger := s.ledger.map fun (x : LedgerEntry) =>
      if x.kind = RepairKind.rowRepair ∧ x.hc = h ∧ x.unit = r.bank ∧ x.row = r.row ∧ x.st = 0 then { x with st := 1 } else x
    dram := { s.dram with spares := insertSorted (Place.mk h r.bank r.row 0).rowKey s.dram.spares }
    test := { s.test with updateDue := true } }.modHc h
      fun x => { x with rowRepair := none, suspects := x.suspects.filter fun k => k != r.bank * 2 ^ 14 + r.row }

/-- The end of a repair in the registers of its half-channel. -/
def repairShown (h n : Nat) (s : State) : State :=
  ((((s.put (HC_REPAIR_STATUS_state h) 0).put (HC_REPAIR_STATUS_result h) RepairResult.done).put
    (HC_REPAIR_STATUS_spares_left h) n).put (HC_REPAIR_CTRL_go h) 0).cause (Cause.HC_repair_done h)

/-- The release of a repair ends it, whatever its copies wrote. -/
theorem repairRelease_eq {r : RowRepair} (hr : (s.hc h).rowRepair = some r) :
    ∃ (s1 : State) (n : Nat), repairRelease h s = copyRefresh (h / 8) (repairShown h n (repaired h r s1)) := by
  let s1 := repairCopies h (berthTime s h) (8 - r.berths) (repairAdvance h (repairAdvance h s))
  refine ⟨s1, sparesLeft (repaired h r s1) ⟨h, r.bank, r.row, 0⟩, ?_⟩
  rw [repairRelease, hr]
  rfl

/-- The row of a repair that ended is in use on its spare. -/
structure RepairOver (h : Nat) (r : RowRepair) (t : State) : Prop where
  free : (t.hc h).rowRepair = none
  result : t.get (HC_REPAIR_STATUS_result h) = RepairResult.done
  go : t.get (HC_REPAIR_CTRL_go h) = 0
  spare : (Place.mk h r.bank r.row 0).rowKey ∈ t.dram.spares
  cleared : (r.bank * 2 ^ 14 + r.row) ∉ (t.hc h).suspects

theorem repaired_hc {r : RowRepair} : (repaired h r s).hc h =
    { s.hc h with rowRepair := none, suspects := (s.hc h).suspects.filter fun k => k != r.bank * 2 ^ 14 + r.row } := by
  unfold repaired
  rw [State.hc_modHc_same]
  rfl

theorem repairShown_over {r : RowRepair} {n : Nat} : RepairOver h r (repairShown h n (repaired h r s)) := by
  have hspare : (Place.mk h r.bank r.row 0).rowKey ∈ (repaired h r s).dram.spares := mem_insertSorted_self _ _
  have hhc := repaired_hc (s := s) (h := h) (r := r)
  generalize repaired h r s = u at *
  have hhc' : (repairShown h n u).hc h = u.hc h := RegsAndEvents.hc (.cause (.put (.put (.put (.put (.refl _)))))) h
  refine ⟨?_, ?_, ?_, ?_, ?_⟩
  · rw [hhc', hhc]
  · unfold repairShown
    rw [State.get_cause_ne _ (by exact repair_apart.2.2), State.get_put_ne _ _ _ _ (by exact repair_apart.1.symm), State.get_put_apart rfl]
    exact State.get_put_self rfl (by exact (by decide : RepairResult.done < 2 ^ 3))
  · unfold repairShown
    rw [State.get_cause_ne _ (by exact repair_apart.2.1)]
    exact State.get_put_self rfl (by exact (by decide : 0 < 2 ^ 1))
  · have hdram : (repairShown h n u).dram = u.dram := (Touches.cause (l := [.regs, .events]) (.put (.put (.put (.put (.refl _ u)))))).keeps_dram
    exact hdram ▸ hspare
  · rw [hhc', hhc]
    simp

theorem RepairOver.copyRefresh {r : RowRepair} {d : Nat} (ho : RepairOver h r s) : RepairOver h r (copyRefresh d s) where
  free := (congrArg HcSt.rowRepair (copyRefresh_hc d h s)).trans ho.free
  result := (State.get_of_regs (copyRefresh_regs d s) _).trans ho.result
  go := (State.get_of_regs (copyRefresh_regs d s) _).trans ho.go
  spare := ho.spare
  cleared := (congrArg HcSt.suspects (copyRefresh_hc d h s)) ▸ ho.cleared

/-- The registers that the end of a job writes. -/
def jobReg (a : Nat) : Prop := a = MBX_JOBS ∨ a = MBX_EVT_CAUSE

theorem Confined.jobEnds {t : State} (hc : Confined [.purser, .regs, .events] jobReg s t) {num status : Nat} {result : List Byte} :
    Confined [.purser, .regs, .events] jobReg s (Machine.jobEnd num status result t) := by
  unfold Machine.jobEnd
  split
  next => exact hc
  next => exact ((hc.part hc.touches.modPurser rfl).put (.inl rfl)).causeWith (.inr rfl)

theorem RepairOver.rowRepairEnd {r : RowRepair} (ho : RepairOver h r s) (hh : h < 128) : RepairOver h r (rowRepairEnd h s) := by
  have hjobs : Confined [.purser, .regs, .events] jobReg s (Machine.rowRepairEnd h s) := by
    rw [Machine.rowRepairEnd, if_neg (by simp [ho.free])]
    exact .forEach (.refl _ _ _) fun _ _ _ hk => hk.jobEnds
  have hhc : (Machine.rowRepairEnd h s).hc h = s.hc h := State.hc_of_hcs hjobs.touches.keeps_hcs h
  generalize Machine.rowRepairEnd h s = t at *
  have hctrl : ¬jobReg (HC_REPAIR_CTRL h) := by
    simp only [jobReg, HC_REPAIR_CTRL, MBX_JOBS, MBX_EVT_CAUSE]
    omega
  have hstatus : ¬jobReg (HC_REPAIR_STATUS h) := by
    simp only [jobReg, HC_REPAIR_STATUS, MBX_JOBS, MBX_EVT_CAUSE]
    omega
  exact ⟨(congrArg HcSt.rowRepair hhc).trans ho.free, (hjobs.get (by exact hstatus)).trans ho.result, (hjobs.get (by exact hctrl)).trans ho.go,
    hjobs.touches.keeps_dram ▸ ho.spare, hhc ▸ ho.cleared⟩

theorem repairRelease_over {r : RowRepair} (hh : h < 128) (hr : (s.hc h).rowRepair = some r) : RepairOver h r (rowRepairEnd h (repairRelease h s)) := by
  obtain ⟨s1, n, heq⟩ := repairRelease_eq hr
  rw [heq]
  exact repairShown_over.copyRefresh.rowRepairEnd hh

end

/-! ### Self-refresh -/

section
variable {s t : State} {d : Nat}

theorem mem_hcsOfDie {h : Nat} (hh : h ∈ hcsOfDie d) : 8 * d ≤ h ∧ h < 8 * d + 8 := by
  obtain ⟨j, hj, rfl⟩ := List.mem_map.1 hh
  have hlt := List.mem_range.1 hj
  omega

/-- No half-channel's status is that of a die. -/
theorem dieStatus_not_mem (hd : d < 16) (k : Nat) : HC_DIE_STATUS k ∉ (hcsOfDie d).map HC_STATUS := by
  intro hmem
  obtain ⟨h, hh, heq⟩ := List.mem_map.1 hmem
  have hlt := mem_hcsOfDie hh
  simp only [HC_STATUS, HC_DIE_STATUS] at heq
  omega

/-- A die that is asleep, in its own registers. -/
def dieAsleep (d : Nat) (s : State) : State :=
  (((setMw d 3 (mwHeld s d 3 / 4 * 4 + s.tt.rate) { s with always := { s.always with selfRefresh := natSetBit s.always.selfRefresh d } }).put
    (HC_DIE_STATUS_in_sr d) 1).put (HC_DIE_STATUS_sr_confirmed d) 1).put (HC_DIE_STATUS_state d) DieState.selfRefresh

/-- A half-channel of a die that is asleep shows so, unless it is out of service. -/
def hcAsleep (h : Nat) (s : State) : State :=
  if s.get (HC_STATUS_state h) = HcState.failed then s else s.put (HC_STATUS_state h) HcState.selfRefresh

theorem confirmSelfRefresh_eq : confirmSelfRefresh d s = forEach (hcsOfDie d) hcAsleep (dieAsleep d s) := rfl

theorem dieAsleep_regs : SameRegs [HC_DIE_STATUS d] s (dieAsleep d s) :=
  (((SameRegs.of_regs rfl).put (by exact .head _)).put (by exact .head _)).put (by exact .head _)

theorem dieAsleep_mem : (dieAsleep d s).dram.mem = s.dram.mem := rfl

theorem dieAsleep_bit : natBit (dieAsleep d s).always.selfRefresh d = true := natBit_natSetBit_self _ _

theorem dieAsleep_fields : (dieAsleep d s).get (HC_DIE_STATUS_in_sr d) = 1 ∧ (dieAsleep d s).get (HC_DIE_STATUS_sr_confirmed d) = 1 ∧
    (dieAsleep d s).get (HC_DIE_STATUS_state d) = DieState.selfRefresh := by
  unfold dieAsleep
  generalize setMw d 3 _ _ = u
  refine ⟨?_, ?_, State.get_put_self rfl (by exact (by decide : DieState.selfRefresh < 2 ^ 3))⟩
  · rw [State.get_put_apart rfl, State.get_put_apart rfl]
    exact State.get_put_self rfl (by exact (by decide : 1 < 2 ^ 1))
  · rw [State.get_put_apart rfl]
    exact State.get_put_self rfl (by exact (by decide : 1 < 2 ^ 1))

/-- The half-channels of a die write their own status alone. -/
theorem hcsAsleep_confined : Confined [.regs] (· ∈ (hcsOfDie d).map HC_STATUS) s (forEach (hcsOfDie d) hcAsleep s) :=
  .forEach (.refl _ _ _) fun h hh _ hc => .ite hc (hc.put (by exact List.mem_map.2 ⟨h, hh, rfl⟩))

/-- A die unconfirmed is shown so and is not in self-refresh. -/
def DieStaysOut (d : Nat) (s : State) : Prop := s.get (HC_DIE_STATUS_state d) = DieState.unconfirmed ∧ natBit s.always.selfRefresh d = false

theorem DieStaysOut.confined {l : List Part} {P : Nat → Prop} (ho : DieStaysOut d s) (hc : Confined l P s t) (hP : ¬P (HC_DIE_STATUS d))
    (hl : .always ∉ l := by decide) : DieStaysOut d t :=
  ⟨(hc.get (by exact hP)).trans ho.1, (congrArg (fun a : AlwaysOn => natBit a.selfRefresh d) (hc.touches.keeps_always hl)).trans ho.2⟩

/-- The registers of a die and its half-channels. -/
def dieReg (k a : Nat) : Prop := a = HC_DIE_STATUS k ∨ a < 0x90000

theorem dieReg_hcStatus {h k : Nat} (hk : k < 16) (hh : h ∈ hcsOfDie k) : dieReg k (HC_STATUS h) := by
  have hlt := mem_hcsOfDie hh
  refine .inr ?_
  simp only [HC_STATUS]
  omega

theorem not_dieReg {k : Nat} (hne : k ≠ d) : ¬dieReg k (HC_DIE_STATUS d) := by
  simp only [dieReg, HC_DIE_STATUS]
  omega

/-- What a die that leaves self-refresh changes, beside its bit of the always-on record. -/
theorem leaveSelfRefresh_confined (hd : d < 16) : Confined [.regs, .hcs, .free] (dieReg d)
    { s with always := { s.always with selfRefresh := natClearBit s.always.selfRefresh d } } (leaveSelfRefresh d s) := by
  unfold leaveSelfRefresh
  extract_lets bits s1 s2
  have h1 : Confined [.regs, .hcs, .free] (dieReg d) s1 s2 := (((Confined.refl _ _ s1).put (.inl rfl)).put (.inl rfl)).put (.inl rfl)
  refine h1.forEach fun h hh u hu => .ite hu ?_
  have hdrawn : Confined [.regs, .hcs, .free] (dieReg d) s1 (u.drewMany 32) := hu.part (hu.touches.drewMany) rfl
  exact (hdrawn.part hdrawn.touches.modHc rfl).put (dieReg_hcStatus hd hh)

theorem DieStaysOut.leaveSelfRefresh {k : Nat} (ho : DieStaysOut d s) (hk : k < 16) (hne : k ≠ d) : DieStaysOut d (leaveSelfRefresh k s) :=
  DieStaysOut.confined (s := { s with always := { s.always with selfRefresh := natClearBit s.always.selfRefresh k } })
    ⟨ho.1, natBit_natClearBit ho.2⟩ (leaveSelfRefresh_confined hk) (not_dieReg hne)

theorem undoCleared_touches {x : Transition} : Touches [.modes, .landing, .test] s (undoCleared x s) := rfl

/-- Undoing an entry wakes the dies in self-refresh alone. -/
theorem DieStaysOut.modeUndo {x : Transition} (ho : DieStaysOut d s) (hd : d < 16) : DieStaysOut d (modeUndo x s) := by
  have hawake : DieStaysOut d (undoAwake x s) := by
    unfold undoAwake
    split
    · exact ho
    · refine forEach_invariant ho fun k hk u hu => hu.leaveSelfRefresh ?_ ?_
      · exact List.mem_range.1 (List.mem_filter.1 hk).1
      · rintro rfl
        exact absurd (List.mem_filter.1 hk).2 (by simp [ho.2])
  rw [modeUndo_eq]
  have hclear : Confined [.regs, .modes, .landing, .test] (fun a => a = LDG_STATUS ∨ a = TST_STATUS) (undoAwake x s)
      (((undoCleared x (undoAwake x s)).put LDG_STATUS_powered_down 0).put TST_STATUS_phase 0) := by
    have hcleared : Confined [.regs, .modes, .landing, .test] (fun a => a = LDG_STATUS ∨ a = TST_STATUS) (undoAwake x s)
        (undoCleared x (undoAwake x s)) := .part (.refl _ _ _) (undoCleared_touches.mono (by decide)) rfl
    exact (hcleared.put (.inl rfl)).put (.inr rfl)
  refine hawake.confined hclear ?_
  simp only [HC_DIE_STATUS, LDG_STATUS, TST_STATUS]
  omega

theorem not_modeReg_dieStatus (hd : d < 16) : ¬modeReg (HC_DIE_STATUS d) := by
  simp only [modeReg, HC_DIE_STATUS, PWR_MODE_LAST, PWR_EVT_CAUSE, PWR_WAKE, GLB_COMMIT_CTRL, GLB_COMMIT_STATUS, GLB_COMMIT_ABORTS]
  omega

theorem DieStaysOut.modeFail {x : Transition} {cause : Nat} (ho : DieStaysOut d s) (hx : s.modes.inflight = some x) (hd : d < 16) :
    DieStaysOut d (modeFail cause s) := by
  rw [Machine.modeFail, hx]
  exact (ho.modeUndo hd).confined (.takePending (.clearLatch (.modeEnd (.refl _ _ _)))) (not_modeReg_dieStatus hd)

/-- A die unconfirmed for the second time, unless START asks, fails the entry. -/
theorem srfUnconfirmed_fails {x : Transition} (hx : s.modes.inflight = some x) (hissued : sleepIssued s = true)
    (hawake : natBit s.always.selfRefresh d = false) (htwice : natBit x.srfRetry d = true) (hsource : x.source ≠ Mode.start) :
    srfUnconfirmed d s = modeFail ModeCause.unconfirmed
      (forEach (hcsOfDie d) (fun h s => s.cause (Cause.HC_srf_unconfirmed h)) (s.put (HC_DIE_STATUS_state d) DieState.unconfirmed)) := by
  simp only [srfUnconfirmed, hx, hissued, hawake, htwice, Bool.not_true, Bool.or_self, Bool.false_eq_true, if_false, if_neg hsource]

/-- The causes of a die's half-channels leave the die shown unconfirmed. -/
theorem unconfirmed_out (hd : d < 16) (hawake : natBit s.always.selfRefresh d = false) : DieStaysOut d
    (forEach (hcsOfDie d) (fun h s => s.cause (Cause.HC_srf_unconfirmed h)) (s.put (HC_DIE_STATUS_state d) DieState.unconfirmed)) := by
  have hshown : DieStaysOut d (s.put (HC_DIE_STATUS_state d) DieState.unconfirmed) :=
    ⟨State.get_put_self rfl (by exact (by decide : DieState.unconfirmed < 2 ^ 3)), hawake⟩
  refine hshown.confined (l := [.regs, .events]) (P := (· < 0x90000)) (.forEach (.refl _ _ _) fun h hh u hu => hu.cause ?_) ?_
  · have hlt := mem_hcsOfDie hh
    simp only [Cause.HC_srf_unconfirmed, HC_EVT_CAUSE]
    omega
  · simp only [HC_DIE_STATUS]
    omega

end

/-! ### Copies of mode words -/

/-- Storing `f` at each key of a list leaves `f` at those keys. -/
theorem foldl_put_get (f : Nat → Nat) {ws : List Nat} {m : KMap Nat} {k : Nat} (hk : k ∈ ws ∨ KMap.get (fun _ => 0) m k = f k) :
    KMap.get (fun _ => 0) (ws.foldl (fun m w => KMap.put (fun _ => 0) m w (f w)) m) k = f k := by
  induction ws generalizing m with
  | nil => exact hk.resolve_left (List.not_mem_nil)
  | cons w ws ih =>
    refine ih ?_
    by_cases hw : k = w
    · exact .inr (hw ▸ KMap.get_put_same _ _ _ _)
    · rw [KMap.get_put_ne _ _ _ _ _ hw]
      exact hk.imp_left fun hmem => (List.mem_cons.1 hmem).resolve_left hw

/-- The copies of a die hold its mode words. -/
theorem copyRefresh_copy (d : Nat) (s : State) (w : Fin 16) : KMap.get (fun _ => 0) ((copyRefresh d s).die d).copy w = mwNow s d w := by
  unfold copyRefresh
  rw [State.die_modDie_same]
  exact foldl_put_get (mwNow s d) (.inl (List.mem_range.2 w.isLt))

theorem mwHeld_setMw (d w v : Nat) (s : State) : mwHeld (setMw d w v s) d w = v := by
  unfold mwHeld setMw
  rw [State.die_modDie_same]
  exact KMap.get_put_same _ _ _ _

/-- Settles O25: each command's branch, with the registers and parts it writes. -/
theorem repairsAndSelfRefreshActAsStated : Obligations.RepairsAndSelfRefreshActAsStated := by
  unfold Obligations.RepairsAndSelfRefreshActAsStated
  intro s
  refine ⟨fun src h hw => ?_, fun h r hup hr => ?_, fun d hphase => ?_, fun d m hm hissued hawake => ⟨fun honce => ?_, fun htwice hsource => ?_⟩,
    fun d a b hup => ?_, fun d hup => ?_⟩
  · intro p
    obtain ⟨r, u, hbase, hu, heq⟩ := write_high_state (highActing_hcRepairCtrl h) hw src.val 1
    have hhc : u.hc h = s.hc h := State.hc_of_hcs hu.keeps_hcs h
    have hp : repairNamed h u = p := repairNamed_congr hu.keeps_regs
    have hrefusal : repairRefusal u p = repairRefusal s p := repairRefusal_congr hu.keeps_regs hu.keeps_hcs hu.keeps_dram
    rw [writeHigh_hcRepairCtrl hbase] at heq
    refine ⟨fun hrun => ?_, fun hfree hok => ?_, fun r hfree hno => ?_⟩
    · obtain ⟨hresult, hkept, hregs⟩ := hcRepairWrite_whileBusy (u := u) (h := h) (hhc.symm ▸ hrun)
      exact ⟨_, congrArg Host.Outcome.next heq, hresult, hkept.trans hhc, (SameRegs.of_regs hu.keeps_regs).trans hregs⟩
    · obtain ⟨hrow, hstate, hgo, hdram⟩ := hcRepairWrite_begins (u := u) (hhc.symm ▸ hfree) (hp.symm ▸ hrefusal.trans hok)
      exact ⟨_, congrArg Host.Outcome.next heq, hp ▸ hrow, hstate, hgo, congrArg DramSt.mem (hdram.trans hu.keeps_dram)⟩
    · obtain ⟨hrow, hresult, hgo, hdram⟩ := hcRepairWrite_refused (u := u) (hhc.symm ▸ hfree) (hp.symm ▸ hrefusal.trans hno)
      exact ⟨_, congrArg Host.Outcome.next heq, hrow, hresult, hgo, hdram.trans hu.keeps_dram⟩
  · have hover := repairRelease_over h.isLt hr
    exact ⟨_, congrArg Host.Outcome.next (whenUp_of_up hup _), hover.free, hover.result, hover.go, hover.spare, hover.cleared⟩
  · have hexec : srfConfirm d s = forEach (hcsOfDie d) hcAsleep (dieAsleep d s) := if_pos hphase
    have hhcs := hcsAsleep_confined (s := dieAsleep d s) (d := d)
    have hbit := dieAsleep_bit (s := s) (d := d)
    obtain ⟨hin, hconfirmed, hstate⟩ := dieAsleep_fields (s := s) (d := d)
    have hregs := dieAsleep_regs (s := s) (d := d)
    have hmem := dieAsleep_mem (s := s) (d := d)
    refine ⟨_, congrArg Host.Outcome.next hexec, ?_⟩
    generalize dieAsleep d s = u at *
    have hdie := dieStatus_not_mem d.isLt d
    refine ⟨hhcs.touches.keeps_always ▸ hbit, (hhcs.get (by exact hdie)).trans hin, (hhcs.get (by exact hdie)).trans hconfirmed,
      (hhcs.get (by exact hdie)).trans hstate, fun a ha => ?_, (congrArg DramSt.mem hhcs.touches.keeps_dram).trans hmem⟩
    rw [List.mem_cons, not_or] at ha
    exact (hhcs.regs a ha.2).trans (hregs a (by simpa using ha.1))
  · refine congrArg Host.Outcome.next ?_
    simp only [srfUnconfirmed, hm, hissued, hawake, honce, Bool.not_true, Bool.not_false, Bool.or_self, Bool.false_eq_true, if_false, if_true]
  · have hout := unconfirmed_out d.isLt hawake
    refine ⟨_, congrArg Host.Outcome.next (srfUnconfirmed_fails hm hissued hawake htwice hsource), ?_⟩
    have hinflight : (forEach (hcsOfDie d) (fun h s => s.cause (Cause.HC_srf_unconfirmed h)) (s.put (HC_DIE_STATUS_state d) DieState.unconfirmed)).modes
        = s.modes := (Touches.forEach (l := [.regs, .events]) ((Touches.refl _ s).put) fun _ _ hu => hu.cause).keeps_modes
    exact hout.modeFail (x := m) ((congrArg Modes.inflight hinflight).trans hm) d.isLt
  · refine ⟨_, congrArg Host.Outcome.next (whenUp_of_up hup _), mwHeld_setMw _ _ _ _, rfl, fun k hk => KMap.get_put_ne _ _ _ _ _ hk⟩
  · exact ⟨_, congrArg Host.Outcome.next (whenUp_of_up hup _), copyRefresh_valid _ _, copyRefresh_copy _ _, rfl⟩

end Sys2Proof.Machine
end

section
/-!
PROOF. A phase number of four bits in a shutdown test: the counterexample to O31.
-/
set_option autoImplicit false
set_option Elab.async false

namespace Sys2Proof.Machine
open Reg Bit

/-- A COLD entry from SERVICE in its shutdown test. -/
def coldEntry : Transition :=
  { req := { target := Mode.cold, tag := 1, mimg := false, noBist := false }, source := Mode.service, step := 4, committed := false, preempt := none,
    waiting := false, srfRetry := 0 }

/-- Phase 1 of the shutdown test runs, and the phase behind it has the number 8. -/
def oddPhases : TestRun := { shutdown := true, phases := [1, 8], ports := 0, job := 0 }

def phaseEightNext : State :=
  { State.reset with
    start := { State.reset.start with phase := .ended }
    regs := [(PWR_MODE, 2)]
    modes := { State.reset.modes with inflight := some coldEntry }
    test := { State.reset.test with run := some oddPhases } }

theorem phaseEightNext_hypotheses :
    phaseEightNext.modes.inflight = some coldEntry ∧ coldEntry.preempt = none ∧ phaseEightNext.get PWR_WAKE_latched = 0 ∧
      phaseEightNext.modes.pending = none ∧ phaseEightNext.up = true ∧ phaseEightNext.test.run = some oddPhases := by
  and_intros <;> decide +kernel

/-- The phase shown has four bits. -/
theorem phaseEight_shown : (whenUp (shutdownPhase [] true) phaseEightNext).get TST_STATUS_phase = 8 := by decide +kernel

/-- Refutes O31, in its clause on a phase of the shutdown test: TST_STATUS.phase has four bits, so that where the next phase listed has the
number 8 it shows 8, not 8 modulo 8. -/
theorem not_transitionStepsActAsStated : ¬ Obligations.TransitionStepsActAsStated := by
  unfold Obligations.TransitionStepsActAsStated
  intro h
  obtain ⟨hinflight, hpreempt, hwake, hpending, hup, hrun⟩ := phaseEightNext_hypotheses
  obtain ⟨-, -, -, -, -, -, -, -, -, -, -, phaseDone, -⟩ := h phaseEightNext coldEntry hinflight hpreempt hwake hpending
  obtain ⟨t, hstep, -, hphase, -⟩ := phaseDone oddPhases 1 8 [] hup hrun rfl rfl (by decide) (by decide) (fun hpowered => absurd hpowered (by decide)) rfl
  rw [← Host.Outcome.next.inj hstep] at hphase
  exact absurd (phaseEight_shown.symm.trans hphase) (by decide)

end Sys2Proof.Machine
end

section
/-!
PROOF. The frame of the purser's commands: a mailbox that serves one posts its answer, and nothing else of the mailbox changes.
-/
set_option autoImplicit false
set_option Elab.async false

namespace Sys2Proof.Machine
open Reg Bit

section
variable {s t : State} {m : Nat} {r : Answered}

/-! ### Posting -/

/-- The status register of a mailbox that answers. -/
def boxShown (m status : Nat) (s : State) : State := (s.put (MBX_STATUS_status m) status).put (MBX_STATUS_state m) BoxState.done

theorem boxShown_fields {n : Nat} (hn : n < 256) : boxState (boxShown m n s) m = BoxState.done ∧ (boxShown m n s).get (MBX_STATUS_status m) = n ∧
    boxOwner (boxShown m n s) m = boxOwner s m :=
  ⟨State.get_put_self rfl (by exact (by decide : BoxState.done < 2 ^ 2)), (State.get_put_apart rfl).trans (State.get_put_self rfl (by exact hn)),
    (State.get_put_apart rfl).trans (State.get_put_apart rfl)⟩

theorem boxShown_only {n : Nat} : OnlyRegs s (boxShown m n s) := ((OnlyRegs.refl s).put).put

theorem boxShown_regs {n : Nat} : SameRegs [MBX_STATUS m] s (boxShown m n s) := ((SameRegs.refl _ s).put (by exact .head _)).put (by exact .head _)

theorem modBox_regs (s : State) (m : Nat) (f : Mailbox → Mailbox) : (s.modBox m f).regs = s.regs := rfl

theorem modBox_jobs (s : State) (m : Nat) (f : Mailbox → Mailbox) :
    (s.modBox m f).purser.jobs = s.purser.jobs ∧ (s.modBox m f).purser.ended = s.purser.ended := ⟨rfl, rfl⟩

/-- The answer of a mailbox that an I3C owner holds, posted. -/
def boxAnswered (m : Nat) (r : Answered) (s : State) : State :=
  (boxShown m r.status s).modBox m fun b => { b with response := responseMessage (s.box m).request r }

theorem boxAnswered_get {f : Field} : (boxAnswered m r s).get f = (boxShown m r.status s).get f := State.get_of_regs (modBox_regs _ _ _) f

theorem boxShown_box {n : Nat} : (boxShown m n s).box m = s.box m := boxShown_only.keep (F := fun u => u.box m) (fun _ => rfl) rfl

theorem boxAnswered_box : (boxAnswered m r s).box m = { s.box m with response := responseMessage (s.box m).request r } := by
  rw [boxAnswered, State.box_modBox_same, boxShown_box]

/-- An I3C owner reads its answer: nothing is sent. -/
theorem boxPost_i3c (hbusy : boxState s m = BoxState.busy) (howner : boxOwner s m = Owner.i3c) (hentry : (s.box m).entry = none)
    (hr : r.status < 256) : boxPost m r s = boxAnswered m r s := by
  obtain ⟨-, -, hkept⟩ := boxShown_fields (s := s) (m := m) hr
  have hsend : boxSend m (boxAnswered m r s) = boxAnswered m r s :=
    if_neg fun h => absurd (howner.symm.trans (hkept.symm.trans (boxAnswered_get.symm.trans h.2.1))) (by decide)
  unfold boxPost
  rw [if_neg (not_not_intro hbusy)]
  dsimp only
  rw [hentry]
  exact hsend

theorem boxAnswered_posted (hr : r.status < 256) : posted (boxAnswered m r s) m (s.box m).request r.status r.data r.job := by
  obtain ⟨hstate, hstatus, -⟩ := boxShown_fields (s := s) (m := m) hr
  exact ⟨boxAnswered_get.trans hstate, boxAnswered_get.trans hstatus, congrArg Mailbox.response boxAnswered_box⟩

theorem boxAnswered_regs : SameRegs [MBX_STATUS m] s (boxAnswered m r s) := boxShown_regs.trans (.of_regs (modBox_regs _ _ _))

theorem boxAnswered_touches : Touches [.regs, .purser] s (boxAnswered m r s) := ((Touches.refl _ s).put.put).modBox

theorem boxAnswered_jobs : (boxAnswered m r s).purser.jobs = s.purser.jobs ∧ (boxAnswered m r s).purser.ended = s.purser.ended :=
  modBox_jobs (boxShown m r.status s) _ _

/-! ### A command served -/

/-- What boxServes says, part by part. -/
structure Serves (s : State) (m code n : Nat) : Prop where
  busy : boxState s m = BoxState.busy
  owner : boxOwner s m = Owner.i3c
  entry : (s.box m).entry = none
  runs : purserRuns s = true
  rom : s.purser.rom = false
  code : reqCode (s.box m).request = code
  length : reqLength (s.box m).request = n
  payload : (reqPayload (s.box m).request).length = n
  fits : n ≤ 1016

theorem serves_of {code n : Nat} (h : boxServes s m code n = true) : Serves s m code n := by
  simp only [boxServes, Bool.and_eq_true, beq_iff_eq, Option.isNone_iff_eq_none, Bool.not_eq_true', decide_eq_true_eq] at h
  obtain ⟨⟨⟨⟨⟨⟨⟨⟨hbusy, howner⟩, hentry⟩, hruns⟩, hrom⟩, hcode⟩, hlength⟩, hpayload⟩, hfits⟩ := h
  exact ⟨hbusy, howner, hentry, hruns, hrom, hcode, hlength, hpayload, hfits⟩

theorem Serves.lengthAgrees {code n : Nat} (h : Serves s m code n) : lengthAgrees (boxOwner s m) (s.box m).request = true := by
  rw [Machine.lengthAgrees, h.owner, h.length]
  have hle := h.fits
  simp only [Owner.i3c, Owner.inBand, Owner.towpath, Nat.reduceEqDiff, if_false, decide_eq_true_eq]
  omega

/-- A command whose payload fits runs, and its answer is posted. -/
theorem Serves.command {code n : Nat} (h : Serves s m code n) {fits : List Byte → Bool} {run : List Byte → State → Answered × State}
    (hfits : fits (reqPayload (s.box m).request) = true) :
    command m code fits run s = boxPost m (run (reqPayload (s.box m).request) s).1 (run (reqPayload (s.box m).request) s).2 := by
  have hagrees := h.lengthAgrees
  simp only [Machine.command, h.busy, h.runs, h.code, h.rom, hagrees, hfits, ne_eq, not_true_eq_false, decide_false, Bool.not_true, Bool.false_or,
    bne_self_eq_false, Bool.false_and, Bool.or_self, Bool.false_eq_true, if_false]

/-- The mailbox is as it was. -/
structure BoxKept (m : Nat) (s t : State) : Prop where
  status : t.reg (MBX_STATUS m) = s.reg (MBX_STATUS m)
  box : t.box m = s.box m

/-- What a command posts, and what posting changes. -/
structure Posts (m : Nat) (req : List Byte) (r : Answered) (u t : State) : Prop where
  posted : posted t m req r.status r.data r.job
  regs : SameRegs [MBX_STATUS m] u t
  touches : Touches [.regs, .purser] u t
  jobs : t.purser.jobs = u.purser.jobs
  ended : t.purser.ended = u.purser.ended

theorem Serves.posts {code n : Nat} (h : Serves s m code n) (hkept : BoxKept m s t) (hr : r.status < 256) :
    Posts m (s.box m).request r t (boxPost m r t) := by
  have hbusy : boxState t m = BoxState.busy := (State.get_of_reg hkept.status).trans h.busy
  have howner : boxOwner t m = Owner.i3c := (State.get_of_reg hkept.status).trans h.owner
  rw [boxPost_i3c hbusy howner (hkept.box ▸ h.entry) hr, ← hkept.box]
  exact ⟨boxAnswered_posted hr, boxAnswered_regs, boxAnswered_touches, boxAnswered_jobs.1, boxAnswered_jobs.2⟩

/-- A command that leaves its mailbox posts its answer. -/
theorem Serves.command_posts {code n : Nat} (h : Serves s m code n) {fits : List Byte → Bool} {run : List Byte → State → Answered × State}
    (hfits : fits (reqPayload (s.box m).request) = true) (hrun : run (reqPayload (s.box m).request) s = (r, t)) (hkept : BoxKept m s t)
    (hr : r.status < 256) : Posts m (s.box m).request r t (Machine.command m code fits run s) := by
  rw [h.command hfits, hrun]
  exact h.posts hkept hr

/-- A command that only answers changes its mailbox alone. -/
theorem Serves.command_replies {code n : Nat} (h : Serves s m code n) {fits : List Byte → Bool} {run : List Byte → State → Answered × State}
    {status : Nat} {data : List Byte} (hfits : fits (reqPayload (s.box m).request) = true)
    (hrun : run (reqPayload (s.box m).request) s = reply status data s) (hr : status < 256) :
    Posts m (s.box m).request ⟨status, data, 0⟩ s (Machine.command m code fits run s) := h.command_posts hfits hrun ⟨rfl, rfl⟩ hr

theorem Serves.sized {code n : Nat} (h : Serves s m code n) : sized n (reqPayload (s.box m).request) = true := by
  rw [Machine.sized, h.payload]
  exact beq_self_eq_true n

theorem countIn_of {l : List Byte} {at_ most : Nat} (h1 : 1 ≤ payloadNum l at_ 2) (h2 : payloadNum l at_ 2 ≤ most) : countIn at_ most l = true :=
  decide_eq_true ⟨h1, h2⟩

end

end Sys2Proof.Machine
end

section
/-!
PROOF. The commands of a mailbox that answer at once.
-/
set_option autoImplicit false
set_option Elab.async false

namespace Sys2Proof.Machine
open Reg Bit

/-! ### Configuration accesses of the purser -/

section
variable {s : State} {a : Nat} {r : RegRow} {i : Nat}

/-- The register is read and written as it stands, outside the lanes, ports and links. -/
def storing (a : Nat) : Bool :=
  (rowAt a).any fun x => x.1.kind == .plain && x.1.w1s == 0 && x.1.staged == 0 && x.1.rw != 0 && !actingBases.contains x.1.base &&
    (decide (a < 0x10000) || decide (0x60000 ≤ a))

/-- A write of a register that only stores, let through: the commit controller may begin a window of the configuration check. -/
theorem cfgWrite_storing (h : storing a = true) (hup : s.up = true) (hr : rowAt a = some (r, i)) (hlock : locked s r = false) (src : Nat) (v : Word) :
    ∃ c, cfgWrite src a v s = (false, plainWrite r a v { s with commit := c }) := by
  rw [storing, hr] at h
  simp only [Option.any_some, Bool.and_eq_true, Bool.or_eq_true, beq_iff_eq, bne_iff_ne, Bool.not_eq_true', List.contains_eq_mem,
    decide_eq_false_iff_not, decide_eq_true_eq] at h
  obtain ⟨⟨⟨⟨⟨hkind, hw1s⟩, hstaged⟩, hrw⟩, hbase⟩, hplace⟩ := h
  obtain ⟨c, hc⟩ := suspendCheck_eq r s
  refine ⟨c, ?_⟩
  have hlive := liveWrite_stores (s := { s with commit := c }) hr (mem_storingRows hr hw1s hrw hbase hplace) hplace v
  simp only [cfgWrite, hup, hr, hlock, writeRow, hkind, hstaged, hrw, hc, hlive, Bool.not_true, Bool.false_eq_true, if_false, ne_eq, not_true_eq_false,
    not_false_eq_true, true_or, if_true]

theorem storing_poolCfg : ∀ g : Fin 16, storing (SVC_POOL_CFG g) = true := by decide +kernel

/-- DEV_ID reads as it shows. -/
theorem cfgRead_devId (hup : s.up = true) (src : Nat) : cfgRead src DEV_ID s = (shown s DEV_ID, s) := by
  have hrow : (rowAt DEV_ID).any (fun x => x.1.rc == 0 && !x.1.sh) = true := by decide +kernel
  obtain ⟨⟨r, i⟩, hr, hplain⟩ := (Option.any_eq_true _ _).1 hrow
  simp only [Bool.and_eq_true, beq_iff_eq, Bool.not_eq_true'] at hplain
  exact cfgRead_plain hup hr hplain.1 hplain.2 (by decide) (by decide) src

end

/-! ### What the commands answer -/

section
variable {s : State} {l : List Byte} {m : Nat}

theorem runReset_none (hkind : payloadNum l 0 1 = 0) (hport : payloadNum l 1 1 ≤ 15) (hflush : payloadNum l 2 1 ≤ 1) :
    runReset l s = reply Reply.ok [] s := by
  rw [runReset]
  rw [if_neg (by omega), if_pos hkind]

/-- A reset of kind 1 or 2 waits as the mailbox's. -/
theorem runReset_requests (hkind : 1 ≤ payloadNum l 0 1) (hkind' : payloadNum l 0 1 ≤ 2) (hport : payloadNum l 1 1 ≤ 15) (hflush : payloadNum l 2 1 ≤ 1)
    (hfree : s.start.request = none) : runReset l s = reply Reply.ok []
      (s.modStart fun x => { x with request := some ⟨payloadNum l 0 1, ResetSource.mailbox, payloadNum l 2 1 == 1, false⟩ }) := by
  have hrequest (k : Nat) (f : Bool) : resetRequest k ResetSource.mailbox f s =
      s.modStart fun x => { x with request := some ⟨k, ResetSource.mailbox, f, false⟩ } := by
    simp only [resetRequest, State.modStart, hfree]
  rw [runReset]
  rw [if_neg (by omega), if_neg (by omega), if_neg (by omega), hrequest]

theorem runCfgRead_devId (hup : s.up = true) (haddr : payloadNum l 0 4 = DEV_ID) (hcount : payloadNum l 4 2 = 1) :
    runCfgRead m l s = reply Reply.ok (bytesBE 4 (shown s DEV_ID).toNat) s := by
  rw [runCfgRead, haddr, hcount, if_neg (by decide)]
  simp only [cfgReadMany, cfgRead_devId hup, wordsBytes, List.flatMap_cons, List.flatMap_nil, List.append_nil]

/-- One word written where nothing but the register changes. -/
theorem runCfgWrite_storing {a : Nat} {r : RegRow} {i : Nat} (h : storing a = true) (ha : a % 4 = 0 ∧ a < 2 ^ 24) (hup : s.up = true)
    (hr : rowAt a = some (r, i)) (hlock : locked s r = false) (haddr : payloadNum l 0 4 = a) (hcount : payloadNum l 4 2 = 1) :
    ∃ c, runCfgWrite m l s = reply Reply.ok (List.replicate 32 0) (plainWrite r a (BitVec.ofNat 32 (payloadNum l 8 4)) { s with commit := c }) := by
  obtain ⟨c, hc⟩ := cfgWrite_storing h hup hr hlock (Src.mailbox m) (BitVec.ofNat 32 (payloadNum l 8 4))
  have hwords : payloadWords l 8 1 = [BitVec.ofNat 32 (payloadNum l 8 4)] := rfl
  refine ⟨c, ?_⟩
  rw [runCfgWrite, haddr, hcount]
  dsimp only
  rw [if_neg (by omega), hwords]
  simp only [cfgWriteMany, hc]
  rfl

theorem runEvtLogRead_ok (h : payloadNum l 0 2 ≤ 4095) : runEvtLogRead l s = reply Reply.ok (bytesBE 2 (s.reg EVT_LOG_HEAD).toNat ++
    bytesBE 2 (s.reg EVT_LOG_TAIL).toNat ++ bytesBE 4 (s.reg EVT_LOG_LOST).toNat ++
      (List.range (payloadNum l 2 2)).flatMap fun i => bytesBE 16 (logRecord s ((payloadNum l 0 2 + i) % 4096))) s := by
  rw [runEvtLogRead]
  rw [if_neg (by omega)]

/-- A MODE request to IDLE from SERVICE starts the entry. -/
theorem runMode_idle (htarget : payloadNum l 0 1 = Mode.idle) (htag : payloadNum l 1 1 ≠ 0) (hflags : payloadNum l 2 1 = 0)
    (hfree : s.modes.inflight = none) (hmode : tableMode s = Mode.service) (harmed : s.commit.armed = none) :
    runMode l s = reply Reply.ok [] { s with modes := { s.modes with
      inflight := some ⟨⟨Mode.idle, payloadNum l 1 1, false, false⟩, Mode.service, 1, false, none, false, 0⟩, exitStart := s.ticks
      intakeClosed := true } } := by
  have hverdict : modeVerdict s ⟨Mode.idle, payloadNum l 1 1, false, false⟩ = none := by
    simp [modeVerdict, hmode, Mode.idle, Mode.service, Mode.start, Mode.cold, Mode.maintenance]
  have hbegin := modeBegin_starts hverdict (.inl harmed) (by rw [hmode]; decide)
  have hbits : natBit 0 1 = false ∧ natBit 0 0 = false := by decide
  have htag' : (payloadNum l 1 1 == 0) = false := beq_false_of_ne htag
  rw [runMode, hflags, htarget]
  dsimp only
  rw [if_neg (by omega), modeRequest, hbits.1, hbits.2]
  simp only [htag', Bool.and_false, Bool.false_eq_true, if_false, hfree, hverdict, hbegin, hmode]
  rfl

theorem runFlashRead_data {d : List Byte} (hd : d.length = payloadNum l 4 2) : runFlashRead (some d) l s = reply Reply.ok d s := by
  rw [runFlashRead, ← hd]
  rw [List.take_left']
  rfl

theorem runOtpRead_one (hregion : payloadNum l 0 1 ≤ 7) (hcount : payloadNum l 4 2 = 1) (hfits : payloadNum l 2 2 + 1 ≤ otpSize (payloadNum l 0 1)) :
    runOtpRead l s = reply Reply.ok (wordsBytes [(otpTaken s (payloadNum l 0 1) (payloadNum l 2 2)).getD 0] ++
      [BitVec.ofNat 8 (boolNat (s.otp.marginal.any fun x => x.region == payloadNum l 0 1 && x.word == payloadNum l 2 2))]) s := by
  have hbyte (b : Bool) : bytesBE 1 (if b = true then 0 + 2 ^ 0 else 0) = [BitVec.ofNat 8 (boolNat b)] := by cases b <;> rfl
  rw [runOtpRead, hcount]
  dsimp only
  rw [if_neg (by omega)]
  simp only [List.range_one, List.foldl_cons, List.foldl_nil, List.map_cons, List.map_nil, Nat.add_zero, hbyte, Nat.reduceAdd, Nat.reduceDiv]

theorem runLedgerRead_data {d : List Byte} (hfits : payloadNum l 0 4 + payloadNum l 4 2 ≤ 0x80000) (hd : d.length = payloadNum l 4 2) :
    runLedgerRead (some d) l s = reply Reply.ok d s := by
  rw [runLedgerRead, if_neg (by omega), runFlashRead_data hd]

theorem retireRowDue_dram (p : Place) (s : State) : (retireRowDue p s).dram = { s.dram with retireDue := s.dram.retireDue ++ [p.rowKey] } := rfl

/-- A row that may be retired is due. -/
theorem runRetire_row {p : Place} (hp : p = ⟨Word.bits (BitVec.ofNat 32 (payloadNum l 0 4)) 25 19, Word.bits (BitVec.ofNat 32 (payloadNum l 0 4)) 18 14,
    Word.bits (BitVec.ofNat 32 (payloadNum l 0 4)) 13 0, 0⟩) (hrow : Word.bits (BitVec.ofNat 32 (payloadNum l 0 4)) 31 31 = 0)
    (hok : retireRefusal s false p = none) : runRetire l s = reply Reply.ok [BitVec.ofNat 8 RetireResult.done, 0, 0, 0] (retireRowDue p s) := by
  have hbank : (Word.bits (BitVec.ofNat 32 (payloadNum l 0 4)) 31 31 == 1) = false := by rw [hrow]; rfl
  rw [runRetire]
  rw [hbank]
  simp only [Bool.false_eq_true, if_false, ← hp, hok, retireRequest]

theorem runSnapshot_starts (hsrc : natBit (s.get SNAP_CTRL_src) SnapSource.command = true) : runSnapshot l s =
    reply Reply.ok (bytesBE 2 ((s.snap.seq + 1) % 65536) ++ [0, 0]) (snapTrigger SnapSource.command 0x1FF s) := by
  rw [runSnapshot, hsrc]
  rfl

/-- A trigger that starts a capture changes the snapshot block and the pins alone. -/
theorem snapTrigger_starts {source event : Nat} (hsrc : natBit (s.get SNAP_CTRL_src) source = true) (hcapture : s.snap.capture = none) :
    (snapTrigger source event s).snap.capture = some (newCapture source event) ∧ Touches [.snap, .pins] s (snapTrigger source event s) := by
  rw [snapTrigger_idle hsrc hcapture]
  split
  · exact ⟨rfl, rfl⟩
  · exact ⟨rfl, rfl⟩

theorem runSnapRead_ok (hslot : payloadNum l 0 1 ≤ 3) (hfits : payloadNum l 2 2 + payloadNum l 4 2 ≤ 1024) : runSnapRead l s =
    reply Reply.ok (wordsBytes ((List.range (payloadNum l 4 2)).map fun i => snapWord s (payloadNum l 0 1) (payloadNum l 2 2 + i))) s := by
  rw [runSnapRead]
  rw [if_neg (by omega)]

theorem runModelRead_one (hcount : payloadNum l 1 1 = 1) (hnode : payloadNum l 0 1 < 88) :
    runModelRead l s = reply Reply.ok (nodeModel s (payloadNum l 0 1)) s := by
  rw [runModelRead, hcount]
  rw [if_neg (by omega)]
  simp only [List.range_one, List.flatMap_cons, List.flatMap_nil, List.append_nil, Nat.add_zero]

theorem runJobResult_ended (hrun : (s.purser.jobs.any fun j => j.num == payloadNum l 0 1) = false) {j : JobEnd}
    (hj : (s.purser.ended.find? fun j => j.num == payloadNum l 0 1) = some j) : runJobResult l s = reply Reply.ok
      ([BitVec.ofNat 8 (payloadNum l 0 1), 0] ++ bytesBE 2 j.command ++ [BitVec.ofNat 8 j.status, 0] ++ bytesBE 2 j.result.length ++ j.result) s := by
  rw [runJobResult]
  rw [hrun, hj, if_neg Bool.false_ne_true]

theorem runJobResult_unknown (hrun : (s.purser.jobs.any fun j => j.num == payloadNum l 0 1) = false)
    (hj : (s.purser.ended.find? fun j => j.num == payloadNum l 0 1) = none) : runJobResult l s = reply Reply.noJob [] s := by
  rw [runJobResult]
  rw [hrun, hj, if_neg Bool.false_ne_true]

/-- A command code that is none of the list posts UNSUPPORTED. -/
theorem Serves.unknownCommand {code n : Nat} (h : Serves s m code n) (hcode : knownCommand code = false) :
    unknownCommand m s = boxPost m (Answered.plain Reply.unsupported) s := by
  simp only [Machine.unknownCommand, h.busy, h.runs, h.code, hcode, ne_eq, not_true_eq_false, decide_false, Bool.not_true, Bool.or_self,
    Bool.false_eq_true, if_false]

/-- A change of parts that leaves registers and mailboxes leaves each mailbox. -/
theorem BoxKept.of_regs {t : State} (hregs : t.regs = s.regs) (hpurser : t.purser = s.purser) : BoxKept m s t :=
  ⟨State.reg_of_regs hregs _, State.box_of_purser (congrArg Purser.boxes hpurser) m⟩

theorem Serves.up {code n : Nat} (h : Serves s m code n) : s.up = true := by
  have hruns := h.runs
  rw [purserRuns, Bool.and_eq_true] at hruns
  exact hruns.1

end

theorem poolCfg_addr (g : Fin 16) : SVC_POOL_CFG g % 4 = 0 ∧ SVC_POOL_CFG g < 2 ^ 24 := by
  simp only [SVC_POOL_CFG]
  omega

theorem mbxStatus_ne_poolCfg {m : Nat} (g : Fin 16) : MBX_STATUS m ≠ SVC_POOL_CFG g := by
  simp only [MBX_STATUS, SVC_POOL_CFG]
  omega

/-- Settles O32: each command runs on its payload, leaves its mailbox, and its answer is posted. -/
theorem mailboxCommandsAnswerAsStated : Obligations.MailboxCommandsAnswerAsStated := by
  unfold Obligations.MailboxCommandsAnswerAsStated
  intro s m req l
  refine ⟨fun h => ?_, fun h => ?_, fun h hport hflush => ⟨fun hkind => ?_, fun hkind hkind' hfree => ?_⟩, fun h haddr hcount => ?_,
    fun g r i h haddr hcount hr hlock => ?_, fun h hindex hone hmost => ?_, fun h htarget htag hflags hfree hmode harmed => ?_,
    fun d h hone hmost hd => ?_, fun h hregion hcount hfits => ?_, fun d h hone hmost hd hfits => ?_, ?_, fun h hsrc hcapture => ?_,
    fun h hslot hone hmost hfits => ?_, fun h hcount hnode => ?_, fun h hrun => ⟨fun j hj => ?_, fun hj => ?_⟩, fun c n h hcode => ?_⟩
  · have hs := serves_of h
    have hp := hs.command_replies (run := runIdentity) hs.sized rfl (by decide)
    exact ⟨_, rfl, hp.posted, hp.regs⟩
  · have hs := serves_of h
    have hp := hs.command_replies (run := runStatus) hs.sized rfl (by decide)
    exact ⟨_, rfl, hp.posted, hp.regs⟩
  · have hs := serves_of h
    have hp := hs.command_replies hs.sized (runReset_none hkind hport hflush) (by decide)
    exact ⟨_, rfl, hp.posted, hp.touches.keeps_start, hp.regs⟩
  · have hs := serves_of h
    have hp := hs.command_posts hs.sized (runReset_requests hkind hkind' hport hflush hfree) (.of_regs rfl rfl) (by decide)
    exact ⟨_, rfl, hp.posted, hp.touches.keeps_start, hp.regs⟩
  · have hs := serves_of h
    have hp := hs.command_replies (fits := fun l => sized 8 l && countIn 4 250 l) (Bool.and_eq_true_iff.2 ⟨hs.sized, countIn_of hcount.ge (hcount.le.trans (by decide))⟩)
      (runCfgRead_devId (m := m) hs.up haddr hcount) (by decide)
    exact ⟨_, rfl, hp.posted, hp.regs⟩
  · have hs := serves_of h
    obtain ⟨c, hrun⟩ := runCfgWrite_storing (l := l) (m := m) (storing_poolCfg g) (poolCfg_addr g) hs.up hr hlock haddr hcount
    have hp := hs.command_posts (fits := fun l => countIn 4 250 l && sized (8 + 4 * payloadNum l 4 2) l)
      (Bool.and_eq_true_iff.2 ⟨countIn_of hcount.ge (hcount.le.trans (by decide)), by rw [show payloadNum (reqPayload req) 4 2 = 1 from hcount]; exact hs.sized⟩)
      hrun ⟨State.reg_setReg_ne _ _ (mbxStatus_ne_poolCfg g), rfl⟩ (by decide)
    refine ⟨_, rfl, hp.posted, ?_, fun a ha => ?_⟩
    · rw [hp.regs _ (by simpa using (mbxStatus_ne_poolCfg g).symm)]
      exact State.reg_setReg_same _ _ _
    · simp only [List.mem_cons, List.not_mem_nil, or_false, not_or] at ha
      rw [hp.regs a (by simpa using ha.2)]
      exact State.reg_setReg_ne _ _ ha.1
  · have hs := serves_of h
    have hp := hs.command_replies (fits := fun l => sized 4 l && countIn 2 63 l) (Bool.and_eq_true_iff.2 ⟨hs.sized, countIn_of hone hmost⟩)
      (runEvtLogRead_ok hindex) (by decide)
    exact ⟨_, rfl, hp.posted, hp.regs⟩
  · have hs := serves_of h
    have hp := hs.command_posts hs.sized (runMode_idle htarget htag hflags hfree hmode harmed) (.of_regs rfl rfl) (by decide)
    have hmodes := hp.touches.keeps_modes
    refine ⟨_, rfl, hp.posted, ?_, congrArg Modes.intakeClosed hmodes⟩
    exact congrArg (fun x : Modes => x.inflight.map fun x => (x.req.target, x.req.tag, x.step)) hmodes
  · have hs := serves_of h
    have hp := hs.command_replies (fits := fun l => sized 8 l && countIn 4 1008 l) (Bool.and_eq_true_iff.2 ⟨hs.sized, countIn_of hone hmost⟩)
      (runFlashRead_data hd) (by decide)
    exact ⟨_, rfl, hp.posted, hp.regs⟩
  · have hs := serves_of h
    have hp := hs.command_replies (fits := fun l => sized 8 l && countIn 4 200 l) (Bool.and_eq_true_iff.2 ⟨hs.sized, countIn_of hcount.ge (hcount.le.trans (by decide))⟩)
      (runOtpRead_one hregion hcount hfits) (by decide)
    exact ⟨_, rfl, hp.posted, hp.regs⟩
  · have hs := serves_of h
    have hp := hs.command_replies (fits := fun l => sized 8 l && countIn 4 1008 l) (Bool.and_eq_true_iff.2 ⟨hs.sized, countIn_of hone hmost⟩)
      (runLedgerRead_data hfits hd) (by decide)
    exact ⟨_, rfl, hp.posted, hp.regs⟩
  · intro v p h hrow hok
    have hs := serves_of h
    have hp := hs.command_posts hs.sized (runRetire_row rfl hrow hok) (.of_regs rfl rfl) (by exact (by decide : Reply.ok < 256))
    exact ⟨_, rfl, hp.posted, hp.touches.keeps_dram.trans (retireRowDue_dram p s)⟩
  · have hs := serves_of h
    obtain ⟨hstarts, ht⟩ := snapTrigger_starts (event := 0x1FF) hsrc hcapture
    have hp := hs.command_posts hs.sized (runSnapshot_starts hsrc) (.of_regs ht.keeps_regs ht.keeps_purser) (by exact (by decide : Reply.ok < 256))
    exact ⟨_, rfl, hp.posted, (congrArg Snap.capture hp.touches.keeps_snap).trans hstarts⟩
  · have hs := serves_of h
    have hp := hs.command_replies (fits := fun l => sized 8 l && countIn 4 250 l) (Bool.and_eq_true_iff.2 ⟨hs.sized, countIn_of hone hmost⟩)
      (runSnapRead_ok hslot hfits) (by decide)
    exact ⟨_, rfl, hp.posted, hp.regs⟩
  · have hs := serves_of h
    have hp := hs.command_replies (fits := fun l => sized 4 l && decide (1 ≤ payloadNum l 1 1 ∧ payloadNum l 1 1 ≤ 5))
      (Bool.and_eq_true_iff.2 ⟨hs.sized, decide_eq_true ⟨hcount.ge, hcount.le.trans (by decide)⟩⟩) (runModelRead_one hcount hnode) (by decide)
    exact ⟨_, rfl, hp.posted, hp.regs⟩
  · have hs := serves_of h
    have hp := hs.command_replies hs.sized (runJobResult_ended hrun hj) (by decide)
    exact ⟨_, rfl, hp.posted⟩
  · have hs := serves_of h
    have hp := hs.command_replies hs.sized (runJobResult_unknown hrun hj) (by decide)
    exact ⟨_, rfl, hp.posted⟩
  · have hs := serves_of h
    have hp := hs.posts (r := Answered.plain Reply.unsupported) ⟨rfl, rfl⟩ (by decide)
    exact ⟨_, congrArg Host.Outcome.next (hs.unknownCommand hcode), hp.posted, hp.regs⟩

end Sys2Proof.Machine
end

section
/-!
PROOF. The long jobs: their acceptance with the next number, their beginnings, and their ends.
-/
set_option autoImplicit false
set_option Elab.async false

namespace Sys2Proof.Machine
open Reg Bit

section
variable {s u : State} {m n code : Nat} {l : List Byte}

/-! ### A job accepted -/

/-- A job joins those that run, with its number shown. -/
def jobJoined (code : Nat) (l : List Byte) (n : Nat) (s : State) : State :=
  let s1 := s.modPurser fun x => { x with jobs := x.jobs ++ [{ num := n, command := code, args := l }] }
  (s1.put MBX_JOBS_last n).put MBX_JOBS_running s1.purser.jobs.length

theorem startJob_accepts (hfew : s.purser.jobs.length < 8) (begin_ : Nat → State → State) : startJob code l begin_ s =
    (⟨Reply.accepted, [], nextJobNumber s⟩, begin_ (nextJobNumber s) (jobJoined code l (nextJobNumber s) s)) := by
  rw [startJob, if_neg (by omega)]
  rfl

theorem jobJoined_regs : SameRegs [MBX_JOBS] s (jobJoined code l n s) := ((SameRegs.of_regs rfl).put).put

theorem jobJoined_touches : Touches [.regs, .purser] s (jobJoined code l n s) := ((Touches.refl _ s).modPurser.put).put

theorem jobJoined_purser : (jobJoined code l n s).purser = { s.purser with jobs := s.purser.jobs ++ [⟨n, code, l⟩] } := rfl

theorem jobJoined_last (hn : n < 256) : (jobJoined code l n s).get MBX_JOBS_last = n := by
  unfold jobJoined
  dsimp only
  rw [State.get_put_apart rfl]
  exact State.get_put_self rfl hn

theorem mbxStatus_ne_jobs : MBX_STATUS m ≠ MBX_JOBS ↔ m ≠ 9 := by
  simp only [MBX_STATUS, MBX_JOBS]
  omega

/-- The mailbox and the number shown stay while the job begins. -/
structure JobBegins (m : Nat) (w u : State) : Prop where
  status : u.reg (MBX_STATUS m) = w.reg (MBX_STATUS m)
  jobs : u.reg MBX_JOBS = w.reg MBX_JOBS
  purser : u.purser = w.purser

theorem JobBegins.refl : JobBegins m s s := ⟨rfl, rfl, rfl⟩

theorem JobBegins.trans {t : State} (h : JobBegins m s u) (h' : JobBegins m u t) : JobBegins m s t :=
  ⟨h'.status.trans h.status, h'.jobs.trans h.jobs, h'.purser.trans h.purser⟩

theorem JobBegins.of {a : List Nat} {p : List Part} (hregs : SameRegs a s u) (ht : Touches p s u) (hstatus : MBX_STATUS m ∉ a)
    (hjobs : MBX_JOBS ∉ a := by decide) (hp : .purser ∉ p := by decide) : JobBegins m s u :=
  ⟨hregs _ hstatus, hregs _ hjobs, ht.keeps_purser hp⟩

/-- What a mailbox answers to a long command, and the jobs then. -/
def JobJoins (t : State) (m code n : Nat) (req l : List Byte) (jobs : List PurserJob) : Prop :=
  posted t m req Reply.accepted [] n ∧ t.get MBX_JOBS_last = n ∧ t.purser.jobs = jobs ++ [⟨n, code, l⟩]

/-- A long command is accepted. -/
theorem Serves.accepts {k : Nat} (h : Serves s m code k) (hm : m < 8) {fits : List Byte → Bool} {run : List Byte → State → Answered × State}
    (hfits : fits (reqPayload (s.box m).request) = true) (hn : n < 256)
    (hrun : run (reqPayload (s.box m).request) s = (⟨Reply.accepted, [], n⟩, u))
    (hbegins : JobBegins m (jobJoined code (reqPayload (s.box m).request) n s) u) :
    JobJoins (Machine.command m code fits run s) m code n (s.box m).request (reqPayload (s.box m).request) s.purser.jobs ∧
      SameRegs [MBX_STATUS m] u (Machine.command m code fits run s) ∧ Touches [.regs, .purser] u (Machine.command m code fits run s) := by
  have hjoined := jobJoined_regs (s := s) (code := code) (l := reqPayload (s.box m).request) (n := n)
  have hne : MBX_STATUS m ≠ MBX_JOBS := mbxStatus_ne_jobs.2 (by omega)
  have hkept : BoxKept m s u :=
    ⟨hbegins.status.trans (hjoined _ (by simpa using hne)), State.box_of_purser (congrArg Purser.boxes hbegins.purser) m⟩
  have hp := h.command_posts hfits hrun hkept (by exact (by decide : Reply.accepted < 256))
  refine ⟨⟨hp.posted, ?_, hp.jobs.trans (congrArg Purser.jobs hbegins.purser)⟩, hp.regs, hp.touches⟩
  refine (State.get_of_reg (f := MBX_JOBS_last) (hp.regs MBX_JOBS (by simpa using hne.symm))).trans ?_
  exact (State.get_of_reg hbegins.jobs).trans (jobJoined_last hn)

/-! ### OTP jobs -/

/-- What the verdict on a program or a seal reads beside the array: not the jobs, not their register. -/
structure OtpAlike (s u : State) : Prop where
  otp : u.otp = s.otp
  therm : u.therm = s.therm
  vqps : u.pins = s.pins
  key : u.purser.key = s.purser.key
  regs : ∀ a, a < 0x120000 ∨ a = MBX_FW_INFO → u.reg a = s.reg a

theorem OtpAlike.taken (h : OtpAlike s u) (r w : Nat) : otpTaken u r w = otpTaken s r w := by
  unfold otpTaken otpCell otpGood recordChecks otpWords otpCell
  rw [h.otp]

theorem OtpAlike.parse (h : OtpAlike s u) (r : Nat) : otpParse u r = otpParse s r := by simp only [otpParse, h.taken]

theorem OtpAlike.state (h : OtpAlike s u) (r : Nat) : otpState u r = otpState s r := by
  unfold otpState otpSealed
  rw [h.parse, h.otp]

theorem OtpAlike.temp (h : OtpAlike s u) : otpTempGood u = otpTempGood s := by
  have hget {f : Field} (hf : f.addr < 0x120000) : u.get f = s.get f := State.get_of_reg (h.regs f.addr (.inl hf))
  have heffective : effective u = effective s := by
    funext n
    unfold effective throttleStart sensorBroken modelOf readingOf lostRegion
    rw [h.otp, h.therm, hget (f := THM_CTRL_core_off) (by decide), hget (f := THM_CTRL_base_off) (by decide)]
  unfold otpTempGood baseMax
  rw [heffective]

theorem OtpAlike.inUse (h : OtpAlike s u) (data : List Word) : f7InUse u data = f7InUse s data := by
  have hrollback : u.get MBX_FW_INFO_rollback = s.get MBX_FW_INFO_rollback := State.get_of_reg (h.regs MBX_FW_INFO (.inr rfl))
  have hwords : f7Words u = f7Words s := by simp only [f7Words, h.taken]
  unfold f7InUse keyUsable keyRevoked
  rw [hwords, h.otp, h.key, hrollback]

theorem OtpAlike.refusal (h : OtpAlike s u) (j : PurserJob) : otpJobRefusal u j = otpJobRefusal s j := by
  have hvqps : vqpsGood u = vqpsGood s := congrArg (fun p : Pins => decide (1746 ≤ p.vqps ∧ p.vqps ≤ 1854)) h.vqps
  unfold otpJobRefusal otpSealRefusal otpRefusal
  dsimp only
  rw [h.parse, h.state, h.temp, h.inUse, hvqps, h.otp]

theorem jobJoined_alike : OtpAlike s (jobJoined code l n s) := by
  have ht := jobJoined_touches (s := s) (code := code) (l := l) (n := n)
  refine ⟨ht.keeps_otp, ht.keeps_therm, ht.keeps_pins, rfl, fun a ha => jobJoined_regs a ?_⟩
  simp only [MBX_FW_INFO, MBX_JOBS, List.mem_singleton] at ha ⊢
  omega

/-- An OTP job that no other delays begins at once. -/
theorem otpJobArrives_begins (hnone : (s.purser.jobs.any fun k => k.command == Cmd.otpProgram || k.command == Cmd.otpSeal) = false)
    (hok : otpJobRefusal s ⟨n, code, l⟩ = none) : otpJobArrives code l n (jobJoined code l n s) =
      if code = Cmd.otpProgram then otpPass (jobJoined code l n s) else jobJoined code l n s := by
  have hbusy : ((jobJoined code l n s).purser.jobs.any fun k => k.num != n && (k.command == Cmd.otpProgram || k.command == Cmd.otpSeal)) = false := by
    rw [jobJoined_purser, List.any_append, Bool.or_eq_false_iff]
    refine ⟨List.any_eq_false.2 fun k hk => ?_, by simp⟩
    have hother := List.any_eq_false.1 hnone k hk
    simp only [Bool.not_eq_true] at hother
    rw [hother, Bool.and_false]
    exact Bool.false_ne_true
  have hok' : otpJobRefusal (jobJoined code l n s) ⟨n, code, l⟩ = none := (jobJoined_alike.refusal _).trans hok
  simp only [otpJobArrives, hbusy, Bool.not_false, if_true, otpJobBegin, hok']

theorem otpPass_begins (hm : MBX_STATUS m ≠ OTP_STATUS) : JobBegins m s (otpPass s) :=
  .of (a := [OTP_STATUS]) (p := [.regs, .otp]) ((((SameRegs.of_regs rfl).put).put).put) (((((Touches.refl _ s).otp).put).put).put) (by simpa using hm)

theorem otpPass_passes : (otpPass s).otp.passes = s.otp.passes + 1 := rfl

/-! ### Self-tests and row repairs -/

/-- A self-test on demand without the lanes. -/
theorem bistBegin_noLanes {scope : Nat} (hlanes : (scopePhases scope).contains Phase.lanes = false) : bistBegin scope n u =
    (((u.modTest fun x => { x with run := some ⟨false, scopePhases scope, scope / 2 ^ 16 % 2 ^ 16, n⟩ }).put TST_STATUS_busy 1).put TST_STATUS_phase
      ((scopePhases scope).headD 0)).setReg TST_RESULT 0 := by
  unfold bistBegin
  dsimp only
  rw [hlanes, if_neg Bool.false_ne_true]

/-- What a self-test on demand shows as it begins. -/
theorem bistBegin_shown {scope : Nat} (hlanes : (scopePhases scope).contains Phase.lanes = false) (hm : m < 8) :
    (bistBegin scope n u).test.run = some ⟨false, scopePhases scope, scope / 2 ^ 16 % 2 ^ 16, n⟩ ∧ (bistBegin scope n u).get TST_STATUS_busy = 1 ∧
      JobBegins m u (bistBegin scope n u) := by
  rw [bistBegin_noLanes hlanes]
  have htests : MBX_STATUS m ∉ [TST_STATUS, TST_RESULT] := by
    simp only [MBX_STATUS, TST_STATUS, TST_RESULT, List.mem_cons, List.not_mem_nil, or_false]
    omega
  refine ⟨rfl, ?_, .of (a := [TST_STATUS, TST_RESULT]) (p := [.regs, .test]) ((((SameRegs.of_regs rfl).put).put).setReg)
    (((((Touches.refl _ u).modTest).put).put).setReg) htests⟩
  rw [State.get_setReg_ne (by decide), State.get_put_apart rfl]
  exact State.get_put_self rfl (by exact (by decide : 1 < 2 ^ 1))

theorem repairBegin_regs (p : Place) (s : State) : SameRegs [HC_REPAIR_STATUS p.hc] s (repairBegin p s) := by
  have hadd (e : LedgerEntry) : SameRegs [HC_REPAIR_STATUS p.hc] s (ledgerAdd e s) := .of_regs rfl
  unfold repairBegin
  exact (((hadd _).modHc).put (by exact .head _)).put (by exact .head _)

theorem repairBegin_touches (p : Place) (s : State) : Touches [.regs, .hcs, .ledger, .test] s (repairBegin p s) := by
  have hadd (e : LedgerEntry) : Touches [.regs, .hcs, .ledger, .test] s (ledgerAdd e s) := rfl
  unfold repairBegin
  exact (((hadd _).modHc).put).put

/-- A row repair that the half-channel can take begins with its job. -/
theorem rowRepairBegin_takes {p : Place} (hm : m < 8) (hp : p.hc < 128) (hok : repairRefusal u p = none) :
    ((rowRepairBegin p n u).hc p.hc).rowRepair = some ⟨p.bank, p.row, RepairStep.ledger, 0, []⟩ ∧ JobBegins m u (rowRepairBegin p n u) := by
  rw [rowRepairBegin, hok]
  dsimp only
  rw [repairRequest_taken hok]
  obtain ⟨hrow, -, -, -⟩ := repairBegin_fields p ((u.put (HC_REPAIR_STATUS_spares_left p.hc) (sparesLeft u p)).put (HC_REPAIR_CTRL_go p.hc) 1)
  have hne : ∀ a ∈ [HC_REPAIR_STATUS p.hc, HC_REPAIR_CTRL p.hc], a < 0x120000 := by
    simp only [HC_REPAIR_STATUS, HC_REPAIR_CTRL, List.mem_cons, List.not_mem_nil, or_false]
    omega
  refine ⟨hrow, .of (a := [HC_REPAIR_STATUS p.hc, HC_REPAIR_CTRL p.hc]) (p := [.regs, .hcs, .ledger, .test]) ?_ ?_ (fun h => ?_) (fun h => ?_)⟩
  · have hasked := ((SameRegs.refl [HC_REPAIR_STATUS p.hc, HC_REPAIR_CTRL p.hc] u).put (f := HC_REPAIR_STATUS_spares_left p.hc) (v := sparesLeft u p)
      (by exact .head _)).put (f := HC_REPAIR_CTRL_go p.hc) (v := 1) (by exact .tail _ (.head _))
    exact hasked.trans ((repairBegin_regs p _).mono (by simp))
  · exact ((Touches.refl _ u).put.put).trans (repairBegin_touches p _)
  · have hlt := hne _ h
    simp only [MBX_STATUS] at hlt
    omega
  · exact absurd (hne _ h) (by decide)

/-! ### Ends of jobs -/

/-- A job that ends leaves the running ones and is kept first. -/
theorem jobEnd_ends {j : PurserJob} {status : Nat} {result : List Byte} (hj : (s.purser.jobs.find? fun j => j.num == n) = some j)
    (hshort : result.length ≤ 256) : (jobEnd n status result s).purser.jobs = s.purser.jobs.filter (fun j => j.num != n) ∧
      (jobEnd n status result s).purser.ended.head? = some ⟨n, j.command, status, result⟩ ∧ SameRegs [MBX_JOBS, MBX_EVT_CAUSE] s (jobEnd n status result s) ∧
      Touches [.regs, .events, .purser] s (jobEnd n status result s) := by
  have hconfined : Confined [.purser, .regs, .events] jobReg s (jobEnd n status result s) := (Confined.refl _ _ s).jobEnds
  have hpurser : (jobEnd n status result s).purser = { s.purser with
      jobs := s.purser.jobs.filter fun k => k.num != n
      ended := ({ num := n, command := j.command, status := status, result := result.take 256 } :: s.purser.ended).take 16 } := by
    rw [jobEnd, hj]
    exact State.causeWith_purser _ _ _
  refine ⟨congrArg Purser.jobs hpurser, ?_, fun a ha => hconfined.regs a (by simpa [jobReg] using ha), hconfined.touches.mono (by decide)⟩
  rw [hpurser, List.take_of_length_le hshort]
  rfl

theorem find_num {l : List PurserJob} {j : PurserJob} (hj : (l.find? fun j => j.num == n) = some j) : j.num = n :=
  beq_iff_eq.1 (List.find?_some (p := fun j : PurserJob => j.num == n) hj)

/-- A seal that ends, with no OTP job waiting behind it. -/
theorem otpJobDone_seal {j : PurserJob} {o : OtpOutcome} (hcommand : j.command = Cmd.otpSeal) (hqueue : s.otp.queue = []) :
    otpJobDone j o s = showOtp (jobEnd j.num Reply.ok [BitVec.ofNat 8 OtpResult.done] (otpSeal (payloadNum j.args 0 1) s)) := by
  have hends : Confined [.purser, .regs, .events] jobReg (otpSeal (payloadNum j.args 0 1) s)
      (jobEnd j.num Reply.ok [BitVec.ofNat 8 OtpResult.done] (otpSeal (payloadNum j.args 0 1) s)) := (Confined.refl _ _ _).jobEnds
  have hseal : (otpSeal (payloadNum j.args 0 1) s).otp.queue = s.otp.queue := by
    rw [otpSeal, State.cause, State.causeWith_otp]
  unfold otpJobDone
  dsimp only
  rw [if_pos hcommand, hends.touches.keeps_otp, hseal, hqueue]
  rfl

/-- What is left once a seal has ended. -/
theorem otpJobDone_seals {j : PurserJob} {o : OtpOutcome} (hj : (s.purser.jobs.find? fun j => j.num == n) = some j) (hcommand : j.command = Cmd.otpSeal)
    (hqueue : s.otp.queue = []) : (otpJobDone j o s).purser.jobs = s.purser.jobs.filter (fun j => j.num != n) ∧
      (otpJobDone j o s).otp.seals = natSetBit s.otp.seals (payloadNum j.args 0 1) ∧
      (otpJobDone j o s).purser.ended.head? = some ⟨n, Cmd.otpSeal, Reply.ok, [BitVec.ofNat 8 OtpResult.done]⟩ := by
  have hpurser : (otpSeal (payloadNum j.args 0 1) s).purser = s.purser := by rw [otpSeal, State.cause, State.causeWith_purser]
  have hotp : (otpSeal (payloadNum j.args 0 1) s).otp = { s.otp with seals := natSetBit s.otp.seals (payloadNum j.args 0 1) } := by
    rw [otpSeal, State.cause, State.causeWith_otp]
  obtain ⟨hjobs, hended, -, ht⟩ := jobEnd_ends (s := otpSeal (payloadNum j.args 0 1) s) (status := Reply.ok) (result := [BitVec.ofNat 8 OtpResult.done])
    (hpurser.symm ▸ hj) (by decide)
  rw [otpJobDone_seal hcommand hqueue, find_num hj]
  have hshow (t : State) : Touches [.regs] t (showOtp t) := (((Touches.refl _ t).put).put).put
  rw [(hshow _).keeps_purser, (hshow _).keeps_otp]
  exact ⟨hjobs.trans (by rw [hpurser]), by rw [ht.keeps_otp, hotp], hended.trans (by rw [hcommand])⟩

end

theorem mbxStatus_ne_otpStatus {m : Nat} : MBX_STATUS m ≠ OTP_STATUS := by
  simp only [MBX_STATUS, OTP_STATUS]
  omega

theorem testStatus_not_mbx (m : Fin 8) : TST_STATUS ∉ [MBX_STATUS m] := by
  simp only [MBX_STATUS, TST_STATUS, List.mem_singleton]
  omega

theorem mbxStatus_ne_timeouts {m : Nat} (hm : m < 8) : MBX_STATUS m ≠ MBX_TIMEOUTS := by
  simp only [MBX_STATUS, MBX_TIMEOUTS]
  omega

theorem mbxStatus_not_timeouts {m : Nat} (hm : m < 8) : MBX_STATUS m ∉ [MBX_TIMEOUTS, MBX_EVT_CAUSE] := by
  simp only [MBX_STATUS, MBX_TIMEOUTS, MBX_EVT_CAUSE, List.mem_cons, List.not_mem_nil, or_false]
  omega

/-- What a mailbox posts stays while the mailbox does. -/
theorem posted.kept {u t : State} {m status job : Nat} {req data : List Byte} (h : posted u m req status data job) (hkept : BoxKept m u t) :
    posted t m req status data job :=
  ⟨(State.get_of_reg hkept.status).trans h.1, (State.get_of_reg hkept.status).trans h.2.1, hkept.box ▸ h.2.2⟩

theorem boxState_idle {s : State} (m : Nat) : boxState (s.put (MBX_STATUS_state m) BoxState.idle) m = BoxState.idle :=
  State.get_put_self rfl (by exact (by decide : BoxState.idle < 2 ^ 2))

/-- The verdict on a repair does not read the jobs. -/
theorem repairRefusal_jobJoined {s : State} {p : Place} {code n : Nat} {l : List Byte} (hp : p.hc < 128) :
    repairRefusal (jobJoined code l n s) p = repairRefusal s p := by
  have ht := jobJoined_touches (s := s) (code := code) (l := l) (n := n)
  have hreg (a : Nat) (ha : a < 0x120000) : (jobJoined code l n s).reg a = s.reg a :=
    jobJoined_regs a (by simp only [MBX_JOBS, List.mem_singleton]; omega)
  have hstatus : HC_STATUS p.hc < 0x120000 := by
    simp only [HC_STATUS]
    omega
  have hbanks : HC_BANKS p.hc < 0x120000 := by
    simp only [HC_BANKS]
    omega
  unfold repairRefusal sparesLeft
  rw [State.hc_of_hcs ht.keeps_hcs, State.get_of_reg (f := HC_STATUS_state p.hc) (hreg _ hstatus), hreg _ hbanks, ht.keeps_dram]

/-- Settles O33: each command that is accepted joins the jobs and begins, and each end leaves the jobs with its result. -/
theorem longJobsStartAndEndAsStated : Obligations.LongJobsStartAndEndAsStated := by
  unfold Obligations.LongJobsStartAndEndAsStated
  intro s m req l n free joined
  have hregs (code : Nat) : SameRegs [MBX_STATUS m, MBX_JOBS] s (jobJoined code l n s) := jobJoined_regs.mono (by simp)
  refine ⟨fun hfree h hone hmost hflags => ?_, fun hfree h hone hmost hregion hnone hok => ?_, fun hfree h hregion hnone hok => ?_,
    fun hfree h hidle hmode hlanes => ?_, ?_, fun k j o f hruns hj => ⟨fun hcommand => ?_, fun hcommand hqueue => ?_⟩,
    fun hup hbusy hentry howner => ?_, fun hup hdone howner => ?_⟩
  · have hrun : runFlashWrite l s = (⟨Reply.accepted, [], n⟩, jobJoined 0x41 l n s) := by
      rw [runFlashWrite]
      rw [if_neg (by omega)]
      exact startJob_accepts hfree.1 _
    obtain ⟨hjoins, hsame, -⟩ := (serves_of h).accepts (fits := fun l => countIn 4 512 l && sized (8 + payloadNum l 4 2) l) m.isLt
      (Bool.and_eq_true_iff.2 ⟨countIn_of hone hmost, (serves_of h).sized⟩) hfree.2 hrun .refl
    exact ⟨_, rfl, hjoins, (hregs _).trans (hsame.mono (by simp))⟩
  · have hrun : runOtpProgram l s = (⟨Reply.accepted, [], n⟩, otpPass (jobJoined 0x51 l n s)) := by
      rw [runOtpProgram, if_neg (by omega)]
      exact (startJob_accepts hfree.1 _).trans (congrArg (Prod.mk _) (otpJobArrives_begins hnone hok))
    obtain ⟨hjoins, -, ht⟩ := (serves_of h).accepts (fits := fun l => countIn 4 200 l && sized (8 + 4 * payloadNum l 4 2) l) m.isLt
      (Bool.and_eq_true_iff.2 ⟨countIn_of hone hmost, (serves_of h).sized⟩) hfree.2 hrun (otpPass_begins mbxStatus_ne_otpStatus)
    exact ⟨_, rfl, hjoins, congrArg OtpSt.passes ht.keeps_otp⟩
  · have hrun : runOtpSeal l s = (⟨Reply.accepted, [], n⟩, jobJoined 0x52 l n s) := by
      rw [runOtpSeal, if_neg (by omega)]
      exact (startJob_accepts hfree.1 _).trans (congrArg (Prod.mk _) (otpJobArrives_begins hnone hok))
    obtain ⟨hjoins, -, ht⟩ := (serves_of h).accepts m.isLt (serves_of h).sized hfree.2 hrun .refl
    exact ⟨_, rfl, hjoins, ht.keeps_otp.trans jobJoined_touches.keeps_otp⟩
  · have hrun : runBistRun l s = (⟨Reply.accepted, [], n⟩, bistBegin (payloadNum l 0 4) n (jobJoined 0x60 l n s)) := by
      rw [runBistRun, hidle, if_neg (by decide), if_pos (.inl hmode)]
      exact startJob_accepts hfree.1 _
    obtain ⟨hrow, hshown, hbegins⟩ := bistBegin_shown (u := jobJoined 0x60 l n s) (n := n) hlanes m.isLt
    obtain ⟨hjoins, hsame, ht⟩ := (serves_of h).accepts m.isLt (serves_of h).sized hfree.2 hrun hbegins
    refine ⟨_, rfl, hjoins, (congrArg TestSt.run ht.keeps_test).trans hrow, (State.get_of_reg (hsame _ ?_)).trans hshown⟩
    exact testStatus_not_mbx m
  · intro v p hfree h hhc hok
    have hrun : runRowRepair l s = (⟨Reply.accepted, [], n⟩, rowRepairBegin p n (jobJoined 0x63 l n s)) := by
      rw [runRowRepair]
      rw [if_neg (by omega)]
      exact startJob_accepts hfree.1 _
    have hok' : repairRefusal (jobJoined 0x63 l n s) p = none := (repairRefusal_jobJoined (Nat.lt_succ_of_le hhc)).trans hok
    obtain ⟨hrow, hbegins⟩ := rowRepairBegin_takes (n := n) m.isLt (Nat.lt_succ_of_le hhc) hok'
    obtain ⟨hjoins, -, ht⟩ := (serves_of h).accepts m.isLt (serves_of h).sized hfree.2 hrun hbegins
    exact ⟨_, rfl, hjoins, (congrArg HcSt.rowRepair (State.hc_of_hcs ht.keeps_hcs _)).trans hrow⟩
  · obtain ⟨hjobs, hended, hsame, -⟩ := jobEnd_ends (status := Reply.ok) (result := []) hj (by decide)
    have hdone : jobDoneAt k true o f s = jobEnd k Reply.ok [] s := by
      simp only [jobDoneAt, hruns, hj, hcommand, Bool.not_true, Bool.false_eq_true, if_false, if_true]
    exact ⟨_, congrArg Host.Outcome.next hdone, hjobs, hended.trans (by rw [hcommand]), hsame⟩
  · obtain ⟨hjobs, hseals, hended⟩ := otpJobDone_seals (o := o) hj hcommand hqueue
    have hdone : jobDoneAt k true o f s = otpJobDone j o s := by
      simp [jobDoneAt, hruns, hj, hcommand, hqueue, Cmd.otpSeal, Cmd.flashWrite, Cmd.bistRun, Cmd.rowRepair]
    exact ⟨_, congrArg Host.Outcome.next hdone, hjobs, hseals, hended⟩
  · have hpost := boxPost_i3c (r := Answered.plain Reply.aborted) hbusy howner hentry (by decide)
    have hposted := boxAnswered_posted (s := s) (m := m) (r := Answered.plain Reply.aborted) (by decide)
    have hsame := boxAnswered_regs (s := s) (m := m) (r := Answered.plain Reply.aborted)
    refine ⟨_, congrArg Host.Outcome.next ((whenUp_of_up hup _).trans ((if_neg (not_not_intro hbusy)).trans (by rw [hpost]))), ?_⟩
    generalize boxAnswered m (Answered.plain Reply.aborted) s = u at *
    have hkept : BoxKept m u ((u.addSat MBX_TIMEOUTS 1).cause Cause.MBX_mbx_timeout) := by
      have hframe : SameRegs [MBX_TIMEOUTS, MBX_EVT_CAUSE] u ((u.addSat MBX_TIMEOUTS 1).cause Cause.MBX_mbx_timeout) := ((SameRegs.refl _ u).addSat).cause
      exact ⟨hframe _ (mbxStatus_not_timeouts m.isLt), RegsAndEvents.box (.cause (.addSat (.refl u))) m⟩
    refine ⟨hposted.kept hkept, ?_, (hsame.mono (by simp)).trans (((SameRegs.refl _ u).addSat (by exact .tail _ (.head _))).cause (by exact .tail _ (.tail _ (.head _))))⟩
    rw [State.reg_cause_ne _ (by decide), State.reg_addSat_same, hsame _ (by simpa using (mbxStatus_ne_timeouts m.isLt).symm)]
  · have hrelease : i3cRelease m s = boxRelease m s := i3cRelease_posted hdone howner
    refine ⟨_, congrArg Host.Outcome.next ((whenUp_of_up hup _).trans hrelease), ?_, ?_, ?_⟩
    · exact (State.get_of_regs (modBox_regs _ _ _) _).trans (boxState_idle m)
    · rw [boxRelease, State.box_modBox_same]
      exact (OnlyRegs.refl s).put.keep (F := fun u => (u.box m).buffer) (fun _ => rfl) rfl
    · exact ((SameRegs.refl _ s).put (by exact .head _)).trans (.of_regs (modBox_regs _ _ _))

end Sys2Proof.Machine
end

section
/-!
PROOF. The landing: fills, cleaning, CLEAN, INVALIDATE, PRELOAD, DISCARD and their ends.
-/
set_option autoImplicit false
set_option Elab.async false

namespace Sys2Proof.Machine
open Reg Bit

/-! ### Jobs and their answers -/

/-- The parts that a job changes which frees no parcel. -/
abbrev jobParts : List Part := .svc :: bringupParts

/-- No job has a plan to run. -/
def PlansIdle (s : State) : Prop := ∀ j ∈ s.svc.jobs, j.2.reads ≠ 0 ∨ j.2.plan = []

section
variable {s : State} {id p n : Nat}

theorem answer_touches {e : Entry} {status result : Nat} {data : List Byte} : Touches bringupParts s (answer p e status result data s) := by
  have h : BringsUp s (completed p e s) := by
    unfold completed modEntry
    exact Confined.modLink (.refl _ _ s)
  exact (Confined.ite h.freeEntry (.ite (.ite h.freeEntry h.queueResponse) h.queueResponse)).touches

theorem wseqClosed_bringsUp (w : Option Nat) : BringsUp s (match w with | some n => wseqClose (p, n) s | none => s) := by
  cases w with
  | none => exact .refl _ _ s
  | some n => exact Confined.modLink (.refl _ _ s)

theorem answerNak_touches {e : Entry} {code status : Nat} : Touches bringupParts s (answerNak p e code status s) := by
  have h := wseqClosed_bringsUp (s := s) (p := p) (entryNow s p e).wseq
  exact (Confined.ite h.freeEntry h.modLink.queueResponse).touches

theorem closeAll_touches (l : List (Nat × Nat)) : Touches [.links] s (closeAll l s) := 
  (Touches.refl _ s).forEach (f := wseqClose) fun _ _ ih => Touches.modLink (l := [.links]) ih

/-- A job that is done leaves the jobs and is answered. -/
theorem jobDone_touches {j : Job} (hj : s.job id = some j) (hfrees : j.frees = none) :
    Touches bringupParts (s.dropJob id) (jobDone id s) := by
  have h : Touches bringupParts (s.dropJob id) (closeAll j.mark (s.dropJob id)) := (closeAll_touches (s := s.dropJob id) j.mark).mono (by decide)
  simp only [jobDone, hj, hfrees]
  split
  · exact .ite (h.trans answerNak_touches) (h.trans answer_touches)
  · exact .ite (h.trans answerNak_touches) (h.trans answer_touches)
  · exact h.trans answer_touches
  · exact .ite (h.trans answer_touches) (h.trans answer_touches)
  · exact .ite (h.trans answer_touches) (h.trans answer_touches)
  · exact .ite (h.trans answerNak_touches) (h.trans answer_touches)

theorem job_setJob_same (j : Job) : (s.setJob id j).job id = some j := KMap.find_ins_same _ _ _

/-- The jobs after a part of one is done: the others, and this one with its plan. -/
def JobKept (id : Nat) (s t : State) : Prop :=
  ∀ q ∈ t.svc.jobs, q ∈ s.svc.jobs ∨ ∃ x, s.job id = some x ∧ q.2.reads = x.reads ∧ q.2.plan = x.plan

theorem mem_of_find {α : Type} {m : KMap α} {k : Nat} {x : α} (h : m.find k = some x) : (k, x) ∈ m := by
  induction m with
  | nil => exact absurd h (by simp)
  | cons q m ih =>
    rw [KMap.find] at h
    split at h
    next hk => exact (Option.some.inj h) ▸ hk ▸ .head _
    next => exact .tail _ (ih h)

theorem JobKept.idle {t : State} (h : JobKept id s t) (hs : PlansIdle s) : PlansIdle t := fun q hq => by
  rcases h q hq with hold | ⟨x, hx, hreads, hplan⟩
  · exact hs q hold
  · rw [hreads, hplan]
    exact hs _ (mem_of_find hx)

theorem runPlans_idle (h : PlansIdle s) : runPlans s = s := by
  have hnone : (s.svc.jobs.filter fun p => p.2.reads == 0 && !p.2.plan.isEmpty) = [] := by
    rw [List.filter_eq_nil_iff]
    intro q hq
    rcases h q hq with hr | hp
    · simp [hr]
    · simp [hp]
  rw [runPlans, hnone]
  rfl

/-- The job with a line given to it. -/
def jobGiven (x : Job) (n : Nat) (data : List Byte) : Job := { x with got := x.got.ins n data }

/-- A line given to a job changes no part but those of jobs, and the plans of none. -/
theorem jobLine_kept (data : List Byte) (hfrees : ∀ x, s.job id = some x → x.frees = none) :
    Touches jobParts s (jobLine id n data s) ∧ JobKept id s (jobLine id n data s) := by
  unfold jobLine State.modJob
  cases hj : s.job id with
  | none => simp only [jobPart, hj]; exact ⟨.refl _ s, fun q hq => .inl hq⟩
  | some x =>
    have hsame := job_setJob_same (s := s) (id := id) (jobGiven x n data)
    change Touches jobParts s (jobPart id (s.setJob id (jobGiven x n data))) ∧ JobKept id s (jobPart id (s.setJob id (jobGiven x n data)))
    have hset (j : Job) (u : State) (hr : j.reads = x.reads) (hp : j.plan = x.plan) (hu : JobKept id s u) : JobKept id s (u.setJob id j) :=
      fun q hq => by
        rcases KMap.mem_ins _ _ _ _ hq with rfl | hold
        · exact .inr ⟨x, hj, hr, hp⟩
        · exact hu q hold
    have hgiven : JobKept id s (s.setJob id (jobGiven x n data)) := hset _ s rfl rfl fun q hq => .inl hq
    have htouch : Touches jobParts s (s.setJob id (jobGiven x n data)) := Touches.svc (.refl _ s)
    have hpart : jobPart id (s.setJob id (jobGiven x n data)) = if x.left ≤ 1 then jobDone id (s.setJob id (jobGiven x n data))
        else (s.setJob id (jobGiven x n data)).setJob id { jobGiven x n data with left := x.left - 1 } := by
      rw [jobPart, hsame]
      rfl
    rw [hpart]
    split
    · have hdone := jobDone_touches hsame (hfrees x hj : (jobGiven x n data).frees = none)
      have hdrop : Touches jobParts s ((s.setJob id (jobGiven x n data)).dropJob id) := Touches.svc htouch
      refine ⟨hdrop.trans (hdone.mono (by decide)), fun q hq => ?_⟩
      rw [hdone.keeps_svc] at hq
      exact hgiven q (KMap.mem_erase _ _ _ hq)
    · exact ⟨Touches.svc htouch, hset _ _ rfl rfl hgiven⟩

/-- A job that waits for more keeps the line. -/
theorem jobLine_job {x : Job} (data : List Byte) (hj : s.job id = some x) (hleft : 1 < x.left) :
    (jobLine id n data s).job id = some { x with got := x.got.ins n data, left := x.left - 1 } := by
  have hsame := job_setJob_same (s := s) (id := id) (jobGiven x n data)
  unfold jobLine State.modJob
  rw [hj]
  change (jobPart id (s.setJob id (jobGiven x n data))).job id = _
  rw [jobPart, hsame]
  change (if x.left ≤ 1 then _ else _ : State).job id = _
  rw [if_neg (by omega)]
  exact job_setJob_same _

end

/-! ### Lines and fills -/

section
variable {s : State} {n k : Nat}

theorem lineAt_congr {t : State} (h : t.landing.lines = s.landing.lines) (n : Nat) : lineAt t n = lineAt s n := by rw [lineAt, h, lineAt]

theorem lineAt_setLine_same (l : Line) : lineAt (setLine n l s) n = some l := KMap.find_ins_same _ _ _
theorem lineAt_setLine_ne (l : Line) (h : k ≠ n) : lineAt (setLine n l s) k = lineAt s k := KMap.find_ins_ne _ _ _ _ h
theorem lineAt_dropLine_same : lineAt (dropLine n s) n = none := KMap.find_erase_same _ _
theorem lineAt_dropLine_ne (h : k ≠ n) : lineAt (dropLine n s) k = lineAt s k := KMap.find_erase_ne _ _ _ h

/-- The line that a fill allocates. -/
def filledLine (g w : Nat) (data : List Byte) (s : State) : Line :=
  { way := w, data := data, st := .clean, poisoned := false, region := g, epoch := KMap.get (fun _ => 0) s.svc.epochs g,
    written := s.landing.writes, wseqs := [] }

/-- A line allocated in a free way, and touched by the read that waited. -/
def filled (g n w : Nat) (data : List Byte) (s : State) : State := touchWay n w (allocate g n (w, none, false) data .clean s)

theorem filled_touches {g w : Nat} {data : List Byte} : Touches [.landing] s (filled g n w data s) := by rfl

theorem filled_lines {g w : Nat} {data : List Byte} : (filled g n w data s).landing.lines = s.landing.lines.ins n (filledLine g w data s) := rfl

theorem filled_landing {g w : Nat} {data : List Byte} : (filled g n w data s).landing.misses = s.landing.misses ∧
    (filled g n w data s).landing.queued = s.landing.queued ∧ (filled g n w data s).landing.stalled = s.landing.stalled := ⟨rfl, rfl, rfl⟩

/-- A read that waits for a fill takes the line, where nothing is stalled. -/
theorem runOps_read {g w fc seq j : Nat} {data : List Byte} (hstalled : s.landing.stalled = []) :
    runOps n fc seq [.read j] (allocate g n (w, none, false) data .clean s) =
      jobLine j n (lineData (allocate g n (w, none, false) data .clean s) n (filledLine g w data s)) (filled g n w data s) := by
  have hline : lineAt (allocate g n (w, none, false) data .clean s) n = some (filledLine g w data s) := lineAt_setLine_same (s := s) _
  have hst : (allocate g n (w, none, false) data .clean s).landing.stalled = [] := hstalled
  rw [runOps, hline]
  simp only [hst, List.any_nil, opDirties, opEffect, Bool.and_false, Bool.false_or, Bool.false_and, Bool.false_eq_true, if_false, runOps, Bool.and_self]
  rfl

theorem lineData_plain {g w : Nat} {data : List Byte} (h : linkLine s n = false) :
    lineData (allocate g n (w, none, false) data .clean s) n (filledLine g w data s) = data := by
  have hlink : linkLine (allocate g n (w, none, false) data .clean s) n = linkLine s n := rfl
  rw [lineData, hlink, h]
  rfl

theorem nextQueued_empty (slice : Nat) (h : s.landing.queued = []) : nextQueued slice s = s := by
  rw [nextQueued, h]
  rfl

/-- With nothing queued and no plan to run, a fill ends with its line. -/
theorem fillEnd (slice : Nat) (hq : s.landing.queued = []) (hidle : PlansIdle s) : runPlans (nextQueued slice s) = s := by
  rw [nextQueued_empty _ hq, runPlans_idle hidle]

/-- A fill that returned to the read that waits, with nothing else on the landing. -/
theorem fillArrive_read {m : Miss} {data : List Byte} {j w : Nat} (hm : s.landing.misses = [m]) (hq : s.landing.queued = [])
    (hst : s.landing.stalled = []) (hidle : PlansIdle s) (hfrees : ∀ x, s.job j = some x → x.frees = none) (hback : m.back = some (some data))
    (halloc : m.alloc = true) (hops : m.ops = [.read j]) (hway : chooseWay s m.region m.fc m.line = some (w, none, false)) :
    ∃ d u, (linkLine s m.line = false → d = data) ∧ Touches [.landing] s u ∧ u.landing.misses = [] ∧
      u.landing.lines = s.landing.lines.ins m.line (filledLine m.region w data s) ∧ fillArrive s = jobLine j m.line d u ∧
      Touches jobParts u (fillArrive s) := by
  let s1 : State := { s with landing := { s.landing with misses := s.landing.misses.erase m } }
  have hnone : s.landing.misses.erase m = [] := by rw [hm]; simp
  have hfind : (s.landing.misses.find? fun m => m.back.isSome) = some m := by rw [hm]; simp [hback]
  have hchoose : chooseWay s1 m.region m.fc m.line = some (w, none, false) := hway
  have heq : fillArrive s = runPlans (nextQueued (sliceOf m.line)
      (runOps m.line m.fc m.seq m.ops (allocate m.region m.line (w, none, false) data .clean s1))) := by
    simp only [fillArrive, hfind, hback, halloc, if_true]
    rw [show chooseWay _ m.region m.fc m.line = _ from hchoose]
  have hu : Touches [.landing] s (filled m.region m.line w data s1) := (Touches.landing (.refl _ s)).trans filled_touches
  obtain ⟨hmis, hqueued, -⟩ := filled_landing (s := s1) (n := m.line) (g := m.region) (w := w) (data := data)
  rw [hops, runOps_read (s := s1) hst] at heq
  generalize hd : lineData (allocate m.region m.line (w, none, false) data .clean s1) m.line (filledLine m.region w data s1) = d at heq
  have hsvc : (filled m.region m.line w data s1).svc = s.svc := hu.keeps_svc
  obtain ⟨ht, hk⟩ := jobLine_kept (s := filled m.region m.line w data s1) (id := j) (n := m.line) d (by
    intro x hx
    rw [State.job, hsvc] at hx
    exact hfrees x hx)
  have hidle' : PlansIdle (jobLine j m.line d (filled m.region m.line w data s1)) := hk.idle (by
    intro q hq
    rw [hsvc] at hq
    exact hidle q hq)
  rw [fillEnd _ (by rw [ht.keeps_landing]; exact hqueued.trans hq) hidle'] at heq
  exact ⟨d, filled m.region m.line w data s1, fun hl => hd.symm.trans (lineData_plain (s := s1) hl), hu, hmis.trans hnone, filled_lines, heq,
    heq ▸ ht⟩

/-- No fill is awaited. -/
def noMisses (s : State) : State := { s with landing := { s.landing with misses := [] } }

/-- An uncorrectable fill, with nothing else waiting on the landing. -/
theorem fillArrive_bad {m : Miss} (hm : s.landing.misses = [m]) (hq : s.landing.queued = []) (hidle : PlansIdle s) (hback : m.back = some none)
    (hops : m.ops = []) : fillArrive s = (noMisses s).cause Cause.LDG_fill_error := by
  have hnone : s.landing.misses.erase m = [] := by rw [hm]; simp
  have hfind : (s.landing.misses.find? fun m => m.back.isSome) = some m := by rw [hm]; simp [hback]
  have hraised : RegsAndEvents (noMisses s) ((noMisses s).cause Cause.LDG_fill_error) := .cause (.refl _)
  have heq : fillArrive s = runPlans (nextQueued (sliceOf m.line) ((noMisses s).cause Cause.LDG_fill_error)) := by
    simp only [fillArrive, hfind, hback, hops, hnone]
    rfl
  rw [heq]
  refine fillEnd _ ?_ fun q hq => ?_
  · rw [hraised.keep (F := State.landing) (fun _ _ => rfl) rfl]
    exact hq
  · rw [hraised.keep (F := State.svc) (fun _ _ => rfl) rfl] at hq
    exact hidle q hq

end

end Sys2Proof.Machine
end

section
/-!
PROOF. Write-backs, and the operations on the landing that software starts.
-/
set_option autoImplicit false
set_option Elab.async false

namespace Sys2Proof.Machine
open Reg Bit

/-- Lines keep their bytes and memory stands: what a write-back changes is the state of lines, a count and a half-channel's intake. -/
structure WroteBack (s t : State) : Prop where
  held : ∀ k, (lineAt t k).map (·.data) = (lineAt s k).map (·.data)
  mem : t.dram.mem = s.dram.mem
  regs : SameRegs [LDG_WB_LO, LDG_WB_LO + 4] s t
  landing : t.landing = { s.landing with lines := t.landing.lines }

namespace WroteBack
variable {s t u : State}

theorem refl (s : State) : WroteBack s s := ⟨fun _ => rfl, rfl, .refl _ s, rfl⟩

theorem trans (h : WroteBack s t) (h' : WroteBack t u) : WroteBack s u :=
  ⟨fun k => (h'.held k).trans (h.held k), h'.mem.trans h.mem, h.regs.trans h'.regs, by rw [h'.landing, h.landing]⟩

/-- No line appears. -/
theorem absent (h : WroteBack s t) {k : Nat} (hk : lineAt s k = none) : lineAt t k = none := by
  have hheld := h.held k
  rw [hk] at hheld
  exact Option.map_eq_none_iff.1 hheld

end WroteBack

section
variable {s : State} {n k : Nat}

/-! ### Write-backs -/

/-- A line that is written back is gathered. -/
def gatherLine (m : Nat) (s : State) : State := match lineAt s m with | some l => setLine m { l with st := .gathered } s | none => s

/-- The dirty lines of the parcel that line n is in. -/
def dirtyLines (s : State) (n : Nat) : List Nat :=
  ((List.range 4).map fun k => n / 4 * 4 + k).filter fun m => (lineAt s m).any fun l => l.st == .dirty

/-- They are all gathered. -/
def gatheredLines (n : Nat) (s : State) : State := forEach (dirtyLines s n) gatherLine s

theorem gatherLine_touches (m : Nat) : Touches [.landing] s (gatherLine m s) := by
  unfold gatherLine
  split
  · exact .landing (.refl _ s)
  · exact .refl _ s

theorem gatherLine_at (m k : Nat) : lineAt (gatherLine m s) k =
    if k = m then (lineAt s k).map fun l => { l with st := .gathered } else lineAt s k := by
  unfold gatherLine
  split
  next l hl =>
    split
    next h => rw [h, lineAt_setLine_same, hl]; rfl
    next h => exact lineAt_setLine_ne _ h
  next hl =>
    split
    next h => rw [h, hl]; rfl
    next => rfl

theorem gatherLine_wroteBack (m : Nat) : WroteBack s (gatherLine m s) := by
  have h := gatherLine_touches (s := s) m
  refine ⟨fun k => ?_, by rw [h.keeps_dram], .of_regs h.keeps_regs, ?_⟩
  · rw [gatherLine_at]
    split
    · rw [Option.map_map]; rfl
    · rfl
  · unfold gatherLine
    split <;> rfl

theorem gatheredLines_wroteBack : WroteBack s (gatheredLines n s) :=
  forEach_invariant (.refl s) fun m _ _ h => h.trans (gatherLine_wroteBack m)

theorem gatheredLines_touches : Touches [.landing] s (gatheredLines n s) :=
  (Touches.refl _ s).forEach fun m _ h => h.trans (gatherLine_touches m)

theorem gather_keeps (xs : List Nat) (h : (lineAt s n).map (·.st) = some .gathered) : (lineAt (forEach xs gatherLine s) n).map (·.st) = some .gathered :=
  forEach_invariant (Inv := fun u => (lineAt u n).map (·.st) = some .gathered) h fun m _ u hu => by
    rw [gatherLine_at]
    split
    · cases hl : lineAt u n with
      | none => simp [hl] at hu
      | some l => rfl
    · exact hu

theorem gather_reaches {xs : List Nat} (hmem : n ∈ xs) (h : (lineAt s n).isSome = true) :
    (lineAt (forEach xs gatherLine s) n).map (·.st) = some .gathered := by
  induction xs generalizing s with
  | nil => exact absurd hmem (List.not_mem_nil)
  | cons m xs ih =>
    change (lineAt (forEach xs gatherLine (gatherLine m s)) n).map (·.st) = _
    rcases List.mem_cons.1 hmem with rfl | hmem
    · refine gather_keeps xs ?_
      rw [gatherLine_at, if_pos rfl]
      cases hl : lineAt s n with
      | none => simp [hl] at h
      | some l => rfl
    · refine ih hmem ?_
      rw [gatherLine_at]
      split
      · rw [Option.isSome_map]; exact h
      · exact h

/-- The access that writes a parcel's gathered lines back waits at its half-channel. -/
def sentBack (n : Nat) (xs : List Nat) (s : State) : State :=
  pushAccess ownPort 0 false true (xs.length != 4) false (n / 4) (xs.foldl (fun v m => v + 2 ^ (m % 4)) 0) (.writeBack xs []) s

theorem writeBack_eq : writeBack n s = (sentBack n (dirtyLines s n) (gatheredLines n s)).add48 LDG_WB_LO 1 := by
  unfold writeBack gatheredLines gatherLine sentBack dirtyLines
  rfl

theorem sentBack_wroteBack (xs : List Nat) : WroteBack s (sentBack n xs s) := ⟨fun _ => rfl, rfl, .of_regs rfl, rfl⟩

theorem add48_touches (s : State) : Touches [.regs] s (s.add48 LDG_WB_LO 1) := .add48 (.refl _ s)

theorem add48_wroteBack : WroteBack s (s.add48 LDG_WB_LO 1) := by
  have h := add48_touches s
  refine ⟨fun k => congrArg _ (lineAt_congr (by rw [h.keeps_landing]) k), by rw [h.keeps_dram], .add48 (.refl _ s) (by exact .head _)
    (by exact .tail _ (.head _)), by rw [h.keeps_landing]⟩

theorem writeBack_wroteBack : WroteBack s (writeBack n s) := by
  rw [writeBack_eq]
  exact (gatheredLines_wroteBack.trans (sentBack_wroteBack _)).trans add48_wroteBack

theorem writeBack_lines : (writeBack n s).landing.lines = (gatheredLines n s).landing.lines := by
  rw [writeBack_eq, (add48_touches _).keeps_landing]
  rfl

/-- A dirty line that is written back is gathered. -/
theorem writeBack_gathers (h : (lineAt s n).map (·.st) = some .dirty) : (lineAt (writeBack n s) n).map (·.st) = some .gathered := by
  have hmem : n ∈ dirtyLines s n := by
    rw [dirtyLines, List.mem_filter]
    refine ⟨List.mem_map.2 ⟨n % 4, List.mem_range.2 (Nat.mod_lt _ (by decide)), by omega⟩, ?_⟩
    cases hl : lineAt s n with
    | none => simp [hl] at h
    | some l => rw [hl] at h; simpa using h
  have hsome : (lineAt s n).isSome = true := by
    cases hl : lineAt s n with
    | none => simp [hl] at h
    | some l => rfl
  rw [lineAt_congr writeBack_lines]
  exact gather_reaches hmem hsome

theorem placeOf_congr {t : State} (h : t.regs = s.regs) (a : Nat) : placeOf t a = placeOf s a := by
  have hmask : selMask t (mapOf s a) = selMask s (mapOf s a) := by
    funext k
    simp only [selMask, State.get_of_regs h]
  rw [placeOf, mapOf_congr h, hmask, placeOf]

theorem sentBack_intake (xs : List Nat) : ((sentBack n xs s).hc (placeOf s (256 * (n / 4))).hc).intake.length =
    (s.hc (placeOf s (256 * (n / 4))).hc).intake.length + 1 := by
  have h : ∃ a, (sentBack n xs s).hc (placeOf s (256 * (n / 4))).hc =
      { s.hc (placeOf s (256 * (n / 4))).hc with intake := (s.hc (placeOf s (256 * (n / 4))).hc).intake ++ [a] } :=
    ⟨_, State.hc_setHc_same _ _ _⟩
  obtain ⟨a, ha⟩ := h
  rw [ha]
  exact List.length_append

/-- A write-back waits at the half-channel that the address maps to. -/
theorem writeBack_intake : ((writeBack n s).hc (placeOf s (256 * (n / 4))).hc).intake.length =
    (s.hc (placeOf s (256 * (n / 4))).hc).intake.length + 1 := by
  have h := gatheredLines_touches (s := s) (n := n)
  rw [writeBack_eq, State.hc_of_hcs (add48_touches _).keeps_hcs, ← placeOf_congr h.keeps_regs, ← State.hc_of_hcs h.keeps_hcs]
  exact sentBack_intake _

theorem cleanSlice_writesBack {slice : Nat} (hst : s.landing.stalled = []) (hover : min dirtyLimit (s.get LDG_CTRL_wb_thr) < dirtyIn s slice)
    (hold : oldestDirty s slice = some n) : cleanSlice slice s = writeBack n s := by
  have hstalled : (writeBack n s).landing.stalled = [] := by
    rw [writeBack_wroteBack.landing]
    exact hst
  simp only [cleanSlice, if_pos hover, hold, unstall, hstalled, List.find?_nil]

end

end Sys2Proof.Machine
end

section
/-!
PROOF. CLEAN, INVALIDATE, PRELOAD and DISCARD: their starts and their ends.
-/
set_option autoImplicit false
set_option Elab.async false

namespace Sys2Proof.Machine
open Reg Bit

section
variable {s : State} {n k op g : Nat} {all : Bool}

/-! ### Lines that an operation drops -/

/-- Lines dropped with the numbers they hold. -/
def dropEach (l : List (Nat × Line)) (s : State) : State := forEach l (fun p s => closeAll p.2.wseqs (dropLine p.1 s)) s

theorem dropEach_touches (l : List (Nat × Line)) : Touches [.landing, .links] s (dropEach l s) :=
  (Touches.refl _ s).forEach fun p u h =>
    have hdrop : Touches [.landing, .links] u (dropLine p.1 u) := .landing (.refl _ u)
    h.trans (hdrop.trans ((closeAll_touches p.2.wseqs).mono (by decide)))

theorem dropEach_at (l : List (Nat × Line)) : lineAt (dropEach l s) n = if (l.any fun q => q.1 == n) = true then none else lineAt s n := by
  induction l generalizing s with
  | nil => rfl
  | cons p l ih =>
    change lineAt (dropEach l (closeAll p.2.wseqs (dropLine p.1 s))) n = _
    have hclose : lineAt (closeAll p.2.wseqs (dropLine p.1 s)) n = lineAt (dropLine p.1 s) n :=
      lineAt_congr (by rw [(closeAll_touches (s := dropLine p.1 s) p.2.wseqs).keeps_landing]) n
    rw [ih, hclose, List.any_cons]
    by_cases hn : p.1 = n
    · subst hn
      rw [lineAt_dropLine_same, ite_self, beq_self_eq_true, Bool.true_or, if_pos rfl]
    · rw [lineAt_dropLine_ne (Ne.symm hn), beq_eq_false_iff_ne.2 hn, Bool.false_or]

theorem discardLines_only (l : List (Nat × Line)) : RegsAndEvents (dropEach l s) (discardLines l s) :=
  .ite (.refl _) (.cause (.addSat (.refl _)))

/-- A line that is evicted is gone, and none appears. -/
theorem evict_absent (h : lineAt s k = none ∨ k = n) : lineAt (evict n s) k = none := by
  unfold evict
  cases hl : lineAt s n with
  | none =>
    rcases h with h | rfl
    · exact h
    · exact hl
  | some l =>
    have hwritten : WroteBack s (if l.st = .dirty then writeBack n s else s) := by
      split
      · exact writeBack_wroteBack
      · exact .refl s
    change lineAt (dropLine n (if l.st = .clean then (if l.st = .dirty then writeBack n s else s)
      else mapAccesses (holdLine n l) (placeOf s (64 * n)).hc (if l.st = .dirty then writeBack n s else s))) k = none
    generalize (if l.st = .dirty then writeBack n s else s : State) = u at hwritten
    have hlines : lineAt (if l.st = .clean then u else mapAccesses (holdLine n l) (placeOf s (64 * n)).hc u) k = lineAt u k := by
      split <;> rfl
    by_cases hk : k = n
    · rw [hk]; exact lineAt_dropLine_same
    · rw [lineAt_dropLine_ne hk, hlines]
      exact hwritten.absent (h.resolve_right hk)

theorem invalidateLines_absent {l : List (Nat × Line)} (h : lineAt s n = none ∨ (l.any fun q => q.1 == n) = true) :
    lineAt (invalidateLines l s) n = none := by
  induction l generalizing s with
  | nil => exact h.resolve_right (by simp)
  | cons p l ih =>
    refine ih (s := evict p.1 s) ?_
    rw [List.any_cons, Bool.or_eq_true, beq_iff_eq] at h
    rcases h with h | h | h
    · exact .inl (evict_absent (.inl h))
    · exact .inl (evict_absent (.inr h.symm))
    · exact .inr h

/-! ### The end of an operation -/

/-- The registers that the end of an operation changes. -/
abbrev ldgEndRegs : List Nat := [LDG_OP_CTRL, LDG_OP_STATUS, LDG_STATUS, LDG_EVT_CAUSE]

/-- No operation runs. -/
def noOp (s : State) : State := { s with landing := { s.landing with op := none } }

theorem ldgEnd_only (result : Nat) : RegsAndEvents (noOp s) (ldgEnd result s) := .cause (.put (.put (.put (.put (.refl _)))))

theorem ldgEnd_landing (result : Nat) : (ldgEnd result s).landing = { s.landing with op := none } :=
  (ldgEnd_only result).keep (F := State.landing) (fun _ _ => rfl) rfl

theorem ldgEnd_regs (result : Nat) : SameRegs ldgEndRegs s (ldgEnd result s) :=
  ((((SameRegs.of_regs (t := noOp s) rfl).put (by exact .head _)).put (by exact .tail _ (.head _))).put (by exact .tail _ (.head _))).put
    (by exact .tail _ (.tail _ (.head _))) |>.cause (by exact .tail _ (.tail _ (.tail _ (.head _))))

theorem ldgEnd_shows {result : Nat} (hr : result < 8) :
    (ldgEnd result s).get LDG_OP_STATUS_result = result ∧ (ldgEnd result s).get LDG_OP_STATUS_busy = 0 := by
  unfold ldgEnd
  constructor
  · rw [State.get_cause_ne _ (by decide), State.get_put_ne _ _ _ _ (by decide), State.get_put_apart rfl, State.get_put_self rfl hr]
  · rw [State.get_cause_ne _ (by decide), State.get_put_ne _ _ _ _ (by decide), State.get_put_self rfl (by decide)]

/-! ### The start of an operation -/

/-- An operation is shown busy. -/
def ldgShown (g : Nat) (s : State) : State :=
  (((s.put LDG_OP_CTRL_go 1).put LDG_OP_STATUS_busy 1).put LDG_STATUS_op_busy 1).put LDG_STATUS_region g

theorem ldgShown_only : OnlyRegs s (ldgShown g s) := .put (.put (.put (.put (.refl _))))

theorem ldgShown_busy : (ldgShown g s).get LDG_OP_STATUS_busy = 1 := by
  rw [ldgShown, State.get_put_ne _ _ _ _ (by decide), State.get_put_ne _ _ _ _ (by decide), State.get_put_self rfl (by decide)]

theorem ldgShown_get {f : Field} (h : f.addr ∉ [LDG_OP_CTRL, LDG_OP_STATUS, LDG_STATUS]) : (ldgShown g s).get f = s.get f :=
  SameRegs.get (l := [LDG_OP_CTRL, LDG_OP_STATUS, LDG_STATUS]) ((((SameRegs.refl _ s).put (by exact .head _)).put
    (by exact .tail _ (.head _))).put (by exact .tail _ (.tail _ (.head _))) |>.put (by exact .tail _ (.tail _ (.head _)))) h

theorem flushStart_wroteBack (l : List (Nat × Line)) : WroteBack s (flushStart l s).2 :=
  forEach_invariant (.refl s) fun p _ u h => by
    split
    · split
      · exact h.trans writeBack_wroteBack
      · exact h
    · exact h

/-- What a CLEAN or INVALIDATE has left to do. -/
abbrev flushLeft (s : State) (all : Bool) (g : Nat) : List Nat := ((linesOf s all g).filter fun p => p.2.st != .clean).map (·.1)

theorem ldgShown_landing : (ldgShown g s).landing = s.landing := ldgShown_only.keep (F := State.landing) (fun _ => rfl) rfl

theorem ldgShown_dram : (ldgShown g s).dram = s.dram := ldgShown_only.keep (F := State.dram) (fun _ => rfl) rfl

theorem ldgShown_linesOf : linesOf (ldgShown g s) all g = linesOf s all g := by rw [linesOf, ldgShown_landing, linesOf]

/-- An INVALIDATE keeps the fills that are awaited from allocating. -/
def flushable (op g : Nat) (all : Bool) (s : State) : State := if op = LdgKind.invalidate then noAlloc all g s else s

theorem flushable_kept : (flushable op g all s).landing.lines = s.landing.lines ∧ (flushable op g all s).dram = s.dram ∧
    (flushable op g all s).regs = s.regs := by
  unfold flushable
  split <;> exact ⟨rfl, rfl, rfl⟩

/-- An operation runs, with what it has left to do. -/
def opRuns (o : LdgOp) (s : State) : State := { s with landing := { s.landing with op := some o } }

theorem opRuns_kept (o : LdgOp) : (opRuns o s).landing.op = some o ∧ (opRuns o s).regs = s.regs ∧ (opRuns o s).landing.lines = s.landing.lines :=
  ⟨rfl, rfl, rfl⟩

theorem ldgStart_flushing (hdiscard : op ≠ LdgKind.discard) (hpreload : op ≠ LdgKind.preload) (hfree : s.landing.op = none) :
    ldgStart op g all s = opRuns ⟨op, g, all, flushLeft s all g⟩ (flushStart (linesOf s all g) (flushable op g all (ldgShown g s))).2 := by
  rw [← ldgShown_linesOf, flushLeft, ← ldgShown_linesOf]
  simp only [ldgStart, hfree, Option.isSome_none, Bool.false_eq_true, if_false, if_neg hdiscard, if_neg hpreload]
  rfl

/-- CLEAN and INVALIDATE queue the write-backs and run. -/
theorem ldgStart_flush (hop : op = LdgKind.clean ∨ op = LdgKind.invalidate) (hfree : s.landing.op = none) :
    (ldgStart op g all s).landing.op = some ⟨op, g, all, flushLeft s all g⟩ ∧ (ldgStart op g all s).get LDG_OP_STATUS_busy = 1 ∧
      (∀ k, (lineAt (ldgStart op g all s) k).map (·.data) = (lineAt s k).map (·.data)) ∧ (ldgStart op g all s).dram.mem = s.dram.mem := by
  rw [ldgStart_flushing (by rcases hop with rfl | rfl <;> decide) (by rcases hop with rfl | rfl <;> decide) hfree]
  obtain ⟨hlines, hdram, hregs⟩ := flushable_kept (s := ldgShown g s) (op := op) (g := g) (all := all)
  have hwrote := flushStart_wroteBack (s := flushable op g all (ldgShown g s)) (linesOf s all g)
  generalize flushStart (linesOf s all g) (flushable op g all (ldgShown g s)) = w at hwrote
  refine ⟨rfl, ?_, fun k => ?_, ?_⟩
  · exact ((hwrote.regs.get (f := LDG_OP_STATUS_busy) (by decide)).trans (State.get_of_regs hregs _)).trans ldgShown_busy
  · refine (hwrote.held k).trans ?_
    rw [lineAt_congr (hlines.trans (congrArg LdgSt.lines ldgShown_landing))]
  · exact hwrote.mem.trans (congrArg DramSt.mem (hdram.trans ldgShown_dram))

/-- A write of LDG_OP_CTRL leaves every region's descriptor and status. -/
theorem region_kept {u : State} (hu : SameRegs [LDG_OP_CTRL] s u) (hg : g < 16) : rgnPolicy u g = rgnPolicy s g ∧ rgnLive u g = rgnLive s g := by
  have hattr : SVC_RGN_ATTR g ∉ [LDG_OP_CTRL] := by
    simp only [SVC_RGN_ATTR, LDG_OP_CTRL, List.mem_cons, List.not_mem_nil, or_false]
    omega
  have hstatus : SVC_RGN_STATUS g ∉ [LDG_OP_CTRL] := by
    simp only [SVC_RGN_STATUS, LDG_OP_CTRL, List.mem_cons, List.not_mem_nil, or_false]
    omega
  exact ⟨by rw [rgnPolicy, hu.get hattr, rgnPolicy], by rw [rgnLive, State.flag, hu.get hstatus, rgnLive, State.flag]⟩

theorem preload_ne_discard : LdgKind.preload ≠ LdgKind.discard := by decide

/-- CLEAN and INVALIDATE do so on a state that differs in no line. -/
theorem ldgStart_flushes {u : State} (hop : op = LdgKind.clean ∨ op = LdgKind.invalidate) (hfree : s.landing.op = none)
    (hu : Touches [.commit, .regs] s u) : (ldgStart op g all u).landing.op = some ⟨op, g, all, flushLeft s all g⟩ ∧
      (ldgStart op g all u).get LDG_OP_STATUS_busy = 1 ∧
      (∀ k, (lineAt (ldgStart op g all u) k).map (·.data) = (lineAt s k).map (·.data)) ∧ (ldgStart op g all u).dram.mem = s.dram.mem := by
  have hland := hu.keeps_landing
  obtain ⟨hran, hbusy, hheld, hmem⟩ := ldgStart_flush (s := u) (g := g) (all := all) hop (by rw [hland]; exact hfree)
  refine ⟨?_, hbusy, fun k => ?_, by rw [hmem, hu.keeps_dram]⟩
  · rw [hran, flushLeft, linesOf, hland]
    rfl
  · rw [hheld, lineAt_congr (congrArg LdgSt.lines hland)]

/-- PRELOAD runs for a pinned region that is live. -/
theorem ldgStart_preload (hpol : rgnPolicy s g = 2) (hlive : rgnLive s g = true) (hfree : s.landing.op = none) :
    ldgStart LdgKind.preload g all s = opRuns ⟨LdgKind.preload, g, false, []⟩ (ldgShown g s) := by
  simp only [ldgStart, hfree, Option.isSome_none, Bool.false_eq_true, if_false, if_true, if_neg preload_ne_discard, hpol, hlive, decide_true,
    Bool.and_self]
  rfl

/-- PRELOAD of a region that is not pinned ends at once. -/
theorem ldgStart_notPinned (hpol : rgnPolicy s g ≠ 2) (hfree : s.landing.op = none) :
    ldgStart LdgKind.preload g all s = ldgEnd LdgResult.notPinned (ldgShown g s) := by
  simp only [ldgStart, hfree, Option.isSome_none, Bool.false_eq_true, if_false, if_true, if_neg preload_ne_discard, hpol, decide_false,
    Bool.false_and]
  rfl

/-- DISCARD drops the region's lines and ends. -/
theorem ldgStart_discard (hfree : s.landing.op = none) : ldgStart LdgKind.discard g all s =
    ldgEnd LdgResult.done (discardLines (linesOf s all g) (noAlloc all g (ldgShown g s))) := by
  rw [← ldgShown_linesOf]
  simp only [ldgStart, hfree, Option.isSome_none, Bool.false_eq_true, if_false, if_true]
  rfl

theorem noAlloc_kept : (noAlloc all g s).landing.lines = s.landing.lines ∧ (noAlloc all g s).dram = s.dram := ⟨rfl, rfl⟩

/-- The lines of a region are gone after its DISCARD, and no other. -/
theorem ldgStart_discarded (hfree : s.landing.op = none) (n : Nat) :
    lineAt (ldgStart LdgKind.discard g all s) n = (if ((linesOf s all g).any fun q => q.1 == n) = true then none else lineAt s n) ∧
      (ldgStart LdgKind.discard g all s).dram.mem = s.dram.mem := by
  rw [ldgStart_discard hfree]
  obtain ⟨hlines, hdram⟩ := noAlloc_kept (s := ldgShown g s) (all := all) (g := g)
  have hkept : lineAt (noAlloc all g (ldgShown g s)) n = lineAt s n := lineAt_congr (hlines.trans (congrArg LdgSt.lines ldgShown_landing)) n
  have hmem : (noAlloc all g (ldgShown g s)).dram = s.dram := hdram.trans ldgShown_dram
  generalize noAlloc all g (ldgShown g s) = u at hkept hmem
  have hdisc := discardLines_only (s := u) (linesOf s all g)
  have hdrop := dropEach_touches (s := u) (linesOf s all g)
  have hat := dropEach_at (s := u) (n := n) (linesOf s all g)
  have hland := hdisc.keep (F := State.landing) (fun _ _ => rfl) rfl
  have hdram' := hdisc.keep (F := State.dram) (fun _ _ => rfl) rfl
  generalize discardLines (linesOf s all g) u = w at hland hdram'
  have hend := ldgEnd_only LdgResult.done (s := w)
  constructor
  · rw [← hkept, ← hat]
    refine lineAt_congr ?_ n
    rw [landing_ldgEnd, hland]
  · have hend' : (ldgEnd LdgResult.done w).dram = w.dram := hend.keep (F := State.dram) (fun _ _ => rfl) rfl
    rw [hend', hdram', hdrop.keeps_dram, hmem]

/-! ### The write that starts an operation -/

theorem highActing_ldgOpCtrl : highActing LDG_OP_CTRL LDG_OP_CTRL 0 = true := by decide +kernel

theorem writeHigh_ldgOpCtrl {r : RegRow} (hr : r.base = LDG_OP_CTRL) (v : Word) : writeHigh r 0 LDG_OP_CTRL v s = ldgWrite v s := by
  rw [writeHigh, hr]
  iterate 6 rw [if_neg (by decide)]
  exact if_pos rfl

/-- The value that a command of the landing writes. -/
def opValue (op : Nat) (v : Word) : Word := (v.withBits 1 0 op).withBits 31 31 1

theorem opValue_bits {op : Nat} (hop : op < 4) (v : Word) : (opValue op v).bits 31 31 = 1 ∧ (opValue op v).bits 1 0 = op ∧
    (opValue op v).bits 7 4 = v.bits 7 4 ∧ (opValue op v).bits 3 3 = v.bits 3 3 := by
  unfold opValue
  refine ⟨Word.bits_withBits_same _ 31 31 1 (by decide) (by decide), ?_, ?_, ?_⟩
  · rw [Word.bits_withBits_below _ _ _ _ _ _ (by decide) (by decide) (by decide), Word.bits_withBits_same _ _ _ _ (by decide) (by decide)]
    omega
  · rw [Word.bits_withBits_below _ _ _ _ _ _ (by decide) (by decide) (by decide), Word.bits_withBits_above _ _ _ _ _ _ (by decide) (by decide) (by decide)]
  · rw [Word.bits_withBits_below _ _ _ _ _ _ (by decide) (by decide) (by decide), Word.bits_withBits_above _ _ _ _ _ _ (by decide) (by decide) (by decide)]

/-- A command of the landing starts its operation on a state with LDG_OP_CTRL written. -/
theorem write_ldgOp {op : Nat} (hop : op < 4) (hw : writable s LDG_OP_CTRL = true) (src : Nat) (v : Word) :
    ∃ u, SameRegs [LDG_OP_CTRL] s u ∧ Touches [.commit, .regs] s u ∧
      write src LDG_OP_CTRL (opValue op v) s = ldgStart op (v.bits 7 4) (v.bits 3 3 == 1) u := by
  obtain ⟨r, u, hbase, hu, heq⟩ := write_high_state highActing_ldgOpCtrl hw src (opValue op v)
  obtain ⟨hgo, hkind, hregion, hall⟩ := opValue_bits hop v
  rw [writeHigh_ldgOpCtrl hbase] at heq
  refine ⟨u.setReg LDG_OP_CTRL (((opValue op v) &&& 0xFB).withBits 31 31 (u.get LDG_OP_CTRL_go)),
    (SameRegs.of_regs hu.keeps_regs).setReg, (hu.mono (by decide)).setReg, ?_⟩
  rw [heq, ldgWrite, hkind, hregion, hall, hgo]
  exact if_pos rfl

/-! ### The end of a flush -/

theorem ldgFinish_clean {o : LdgOp} (hop : s.landing.op = some o) (hleft : o.left = []) (hkind : o.op = LdgKind.clean) :
    ldgFinish s = ldgEnd LdgResult.done s := by
  simp only [ldgFinish, hop, hleft, hkind, List.isEmpty_nil, Bool.not_true, Bool.false_eq_true, if_false]
  rw [if_neg (by decide), if_neg (by decide)]

theorem ldgFinish_invalidate {o : LdgOp} (hop : s.landing.op = some o) (hleft : o.left = []) (hkind : o.op = LdgKind.invalidate) :
    ldgFinish s = ldgEnd LdgResult.done (invalidateLines (linesOf s o.all o.region) s) := by
  simp only [ldgFinish, hop, hleft, hkind, List.isEmpty_nil, Bool.not_true, Bool.false_eq_true, if_false]
  rw [if_neg (by decide), if_pos trivial]

end

/-- Settles O27: what each command of the landing does to the lines, by the parts that its steps touch. -/
theorem landingOperationsActAsStated : Obligations.LandingOperationsActAsStated := by
  unfold Obligations.LandingOperationsActAsStated
  intro s src
  refine ⟨fun m data j w hup hm hq hst hidle hfrees hback halloc hops hway => ?_, fun m hup hm hq hidle hback hops => ?_,
    fun c n hup hst hover hold hdirty => ?_, fun v hw hfree => ?_, fun o hup hop hleft => ⟨fun hkind => ?_, fun hkind => ?_⟩, fun hw => ?_⟩
  · obtain ⟨d, u, hd, hu, hmis, hlines, heq, ht⟩ := fillArrive_read hm hq hst hidle hfrees hback halloc hops hway
    have hat (n : Nat) : lineAt (fillArrive s) n = (s.landing.lines.ins m.line (filledLine m.region w data s)).find n := by
      rw [lineAt, ht.keeps_landing, hlines]
    refine ⟨_, congrArg Host.Outcome.next (whenUp_of_up hup _), by rw [ht.keeps_landing, hmis], ?_, fun n hn => ?_, ?_, fun x hx hl hlink => ?_⟩
    · rw [hat, KMap.find_ins_same]
      rfl
    · rw [hat, KMap.find_ins_ne _ _ _ _ hn]
      rfl
    · rw [ht.keeps_dram, hu.keeps_dram]
    · have hux : u.job j = some x := by rw [State.job, hu.keeps_svc]; exact hx
      rw [heq, hd hlink]
      exact jobLine_job data hux hl
  · have hraised : RegsAndEvents (noMisses s) ((noMisses s).cause Cause.LDG_fill_error) := .cause (.refl _)
    have hland := hraised.keep (F := State.landing) (fun _ _ => rfl) rfl
    refine ⟨_, congrArg Host.Outcome.next ((whenUp_of_up hup _).trans (fillArrive_bad hm hq hidle hback hops)), ?_, ?_, ?_⟩
    · rw [hland]; rfl
    · rw [hland]; rfl
    · exact (SameRegs.of_regs (t := noMisses s) rfl).cause (by exact .head _)
  · have heq := cleanSlice_writesBack hst hover hold
    exact ⟨_, congrArg Host.Outcome.next ((whenUp_of_up hup _).trans heq), writeBack_gathers hdirty, writeBack_wroteBack.held,
      writeBack_wroteBack.mem, writeBack_intake⟩
  · intro g all left
    have hg : g < 16 := Nat.mod_lt _ (by decide)
    have hstart {op : Nat} (hop : op < 4) := write_ldgOp hop hw src.val v
    refine ⟨?_, ?_, fun hpol hlive => ?_, fun hpol => ?_, ?_⟩
    · obtain ⟨u, -, hu, heq⟩ := hstart (op := LdgKind.clean) (by decide)
      exact ⟨_, congrArg Host.Outcome.next heq, ldgStart_flushes (.inl rfl) hfree hu⟩
    · obtain ⟨u, -, hu, heq⟩ := hstart (op := LdgKind.invalidate) (by decide)
      exact ⟨_, congrArg Host.Outcome.next heq, ldgStart_flushes (.inr rfl) hfree hu⟩
    · obtain ⟨u, hregs, hu, heq⟩ := hstart (op := LdgKind.preload) (by decide)
      obtain ⟨hpol', hlive'⟩ := region_kept hregs hg
      rw [ldgStart_preload (hpol'.trans hpol) (hlive'.trans hlive) (by rw [hu.keeps_landing]; exact hfree)] at heq
      obtain ⟨hran, hsame, hlines⟩ := opRuns_kept (s := ldgShown g u) ⟨LdgKind.preload, g, false, []⟩
      refine ⟨_, congrArg Host.Outcome.next heq, hran, (State.get_of_regs hsame _).trans ldgShown_busy, ?_⟩
      exact hlines.trans (congrArg LdgSt.lines (ldgShown_landing.trans hu.keeps_landing))
    · obtain ⟨u, hregs, hu, heq⟩ := hstart (op := LdgKind.preload) (by decide)
      obtain ⟨hpol', -⟩ := region_kept hregs hg
      rw [ldgStart_notPinned (hpol'.trans_ne hpol) (by rw [hu.keeps_landing]; exact hfree)] at heq
      refine ⟨_, congrArg Host.Outcome.next heq, ?_, ldgEnd_shows (by decide)⟩
      rw [ldgEnd_landing, ldgShown_landing, hu.keeps_landing, ← hfree]
    · obtain ⟨u, -, hu, heq⟩ := hstart (op := LdgKind.discard) (by decide)
      have hland := hu.keeps_landing
      have hfree' : u.landing.op = none := by rw [hland]; exact hfree
      have hsame : linesOf u all g = linesOf s all g := by rw [linesOf, hland, linesOf]
      have hat (n : Nat) := (ldgStart_discarded (g := g) (all := all) hfree' n).1
      have hmem := (ldgStart_discarded (g := g) (all := all) hfree' 0).2
      refine ⟨_, congrArg Host.Outcome.next heq, ?_, ?_, ?_, fun n hn => ?_, fun n hn => ?_, hmem.trans (by rw [hu.keeps_dram])⟩
      · rw [ldgStart_discard hfree', ldgEnd_landing]
      · rw [ldgStart_discard hfree']
        exact (ldgEnd_shows (by decide)).1
      · rw [ldgStart_discard hfree']
        exact (ldgEnd_shows (by decide)).2
      · rw [hat, hsame, if_pos hn]
      · rw [hat, hsame, if_neg (by rw [hn]; decide)]
        exact lineAt_congr (congrArg LdgSt.lines hland) n
  · exact ⟨_, congrArg Host.Outcome.next ((whenUp_of_up hup _).trans (ldgFinish_clean hop hleft hkind)), ldgEnd_landing _,
      (ldgEnd_shows (by decide)).1, (ldgEnd_shows (by decide)).2, ldgEnd_regs _⟩
  · refine ⟨_, congrArg Host.Outcome.next ((whenUp_of_up hup _).trans (ldgFinish_invalidate hop hleft hkind)),
      congrArg LdgSt.op (ldgEnd_landing _), (ldgEnd_shows (by decide)).1, fun n hn => ?_⟩
    rw [lineAt_congr (landing_ldgEnd _) n]
    exact invalidateLines_absent (.inr hn)
  · exact ⟨_, congrArg Host.Outcome.next (write_clearing (by decide +kernel) hw src.val), rfl, (SameRegs.setReg (.refl _ s)).clears⟩

end Sys2Proof.Machine
end

section
/-!
PROOF. What the address map reads, and what a served access leaves: bytes of memory, the last writes of half-channels, jobs without a plan.
-/
set_option autoImplicit false
set_option Elab.async false

namespace Sys2Proof.Machine
open Reg Bit

/-! ### The registers that the address map reads -/

/-- The registers of regions, pools and map selectors stand. -/
def MapAlike (s t : State) : Prop := ∀ a, a < 0x70000 ∨ 0x90080 ≤ a ∧ a < 0x90100 → t.reg a = s.reg a

section
variable {s t : State} {g : Nat}

theorem MapAlike.of_regs (h : t.regs = s.regs) : MapAlike s t := fun _ _ => State.reg_of_regs h _

theorem MapAlike.of_same {l : List Nat} (h : SameRegs l s t) (hl : ∀ a ∈ l, 0x70000 ≤ a ∧ a < 0x90080 ∨ 0x90100 ≤ a) : MapAlike s t := fun a ha =>
  h a fun hmem => by
    have hrange := hl a hmem
    omega

theorem MapAlike.get (h : MapAlike s t) {f : Field} (hf : f.addr < 0x70000 ∨ 0x90080 ≤ f.addr ∧ f.addr < 0x90100) : t.get f = s.get f :=
  State.get_of_reg (h _ hf)

theorem MapAlike.region (h : MapAlike s t) (hg : g < 16) {f : Field} (hf : f.addr < 0x60200 + 0x20 * g) : t.get f = s.get f :=
  h.get (.inl (by omega))

/-- The descriptor of a region reads alike. -/
theorem MapAlike.descriptor (h : MapAlike s t) (hg : g < 16) : rgnBase t g = rgnBase s g ∧ rgnSize t g = rgnSize s g ∧ rgnType t g = rgnType s g ∧
    rgnMap t g = rgnMap s g ∧ rgnGood t g = rgnGood s g ∧ rgnValidBit t g = rgnValidBit s g := by
  have hplace : (SVC_RGN_PLACE g) < 0x70000 := by simp only [SVC_RGN_PLACE]; omega
  have hattr : (SVC_RGN_ATTR g) < 0x70000 := by simp only [SVC_RGN_ATTR]; omega
  have hstatus : (SVC_RGN_STATUS g) < 0x70000 := by simp only [SVC_RGN_STATUS]; omega
  have hbase : rgnBase t g = rgnBase s g := by rw [rgnBase, h.get (.inl hplace), rgnBase]
  have hsize : rgnSize t g = rgnSize s g := by rw [rgnSize, h.get (.inl hplace), rgnSize]
  have htype : rgnType t g = rgnType s g := by rw [rgnType, h.get (.inl hattr), rgnType]
  refine ⟨hbase, hsize, htype, by rw [rgnMap, h.get (.inl hattr), rgnMap], ?_, ?_⟩
  · rw [rgnGood, State.flag, h.get (.inl hattr), h.get (.inl hstatus), hsize, rgnGood, State.flag]
  · rw [rgnValidBit, State.flag, h.get (.inl hattr), htype, rgnValidBit, State.flag]

theorem MapAlike.regionOver (h : MapAlike s t) (a : Nat) : regionOver t a = regionOver s a := by
  have hsame : ∀ g ∈ List.range 16, (rgnGood t g && rgnHas t g a) = (rgnGood s g && rgnHas s g a) := fun g hg => by
    obtain ⟨hbase, hsize, -, -, hgood, -⟩ := h.descriptor (List.mem_range.1 hg)
    rw [hgood, rgnHas, hbase, hsize, rgnHas]
  exact List.find?_congr hsame

theorem regionOver_lt {a : Nat} (h : regionOver s a = some g) : g < 16 := List.mem_range.1 (List.mem_of_find?_eq_some h)

/-- The selectors of a map are twelve. -/
theorem selBits_congr {m m' : Nat → Nat} {a : Nat} (h : ∀ k, k < 12 → m k = m' k) : selBits m a = selBits m' a := by
  have hsame : ∀ k ∈ List.range 12, m k = m' k := fun k hk => h k (List.mem_range.1 hk)
  unfold selBits
  generalize List.range 12 = xs at hsame
  generalize (0 : Nat) = v
  induction xs generalizing v with
  | nil => rfl
  | cons x xs ih =>
    rw [List.foldl_cons, List.foldl_cons, hsame x (.head _)]
    exact ih (fun k hk => hsame k (.tail _ hk)) _

theorem MapAlike.placeOf (h : MapAlike s t) (a : Nat) : placeOf t a = placeOf s a := by
  have hmap : mapOf t a = mapOf s a := by
    rw [mapOf, h.regionOver, mapOf]
    cases hr : Machine.regionOver s a with
    | none => rfl
    | some g => exact (h.descriptor (regionOver_lt hr)).2.2.2.1
  have hmask : ∀ k, k < 12 → selMask t (mapOf s a) k = selMask s (mapOf s a) k := fun k hk => by
    have h0 : 0x90080 ≤ HC_MAP0_SEL k ∧ HC_MAP0_SEL k < 0x90100 := by simp only [HC_MAP0_SEL]; omega
    have h1 : 0x90080 ≤ HC_MAP1_SEL k ∧ HC_MAP1_SEL k < 0x90100 := by simp only [HC_MAP1_SEL]; omega
    rw [selMask, h.get (.inr h0), h.get (.inr h1), selMask]
  rw [Machine.placeOf, hmap, selBits_congr hmask, Machine.placeOf]

theorem MapAlike.parcelKey (h : MapAlike s t) (n : Nat) : parcelKey t n = parcelKey s n := by rw [Machine.parcelKey, h.placeOf, Machine.parcelKey]

theorem MapAlike.linkWord (h : MapAlike s t) (hg : g < 16) (hpools : t.svc.pools = s.svc.pools) (i : Nat) : linkWord t g i = linkWord s g i := by
  obtain ⟨hbase, hsize, -, -, -, -⟩ := h.descriptor hg
  have hplace (j : Nat) : Machine.placeOf t (poolAddr t g j) = Machine.placeOf s (poolAddr s g j) := by rw [h.placeOf, poolAddr, hbase, poolAddr]
  have hpool : t.pool g = s.pool g := by rw [State.pool, hpools, State.pool]
  have hout (j : Nat) : leftOut t g j = leftOut s g j := by rw [leftOut, hplace, hpool, leftOut]
  have hhc (j : Nat) : poolHc t g j = poolHc s g j := by rw [poolHc, hplace, poolHc]
  have hfresh (k j : Nat) : freshFrom t g k j = freshFrom s g k j := by
    rw [freshFrom, poolParcels, hsize, freshFrom, poolParcels]
    simp only [hhc, hout]
  rw [Machine.linkWord, hpool, hout, hhc, hfresh, Machine.linkWord]

theorem MapAlike.rawLine (h : MapAlike s t) (hpools : t.svc.pools = s.svc.pools) (hdram : t.dram = s.dram) (n : Nat) : rawLine t n = rawLine s n := by
  have hdie (k : Nat) : dieParcel t k = dieParcel s k := by rw [dieParcel, hdram, h.parcelKey, dieParcel]
  have hparcel (k : Nat) : rawParcel t k = rawParcel s k := by
    rw [rawParcel, h.regionOver, hdie, rawParcel]
    cases hr : Machine.regionOver s (256 * k) with
    | none => rfl
    | some g =>
      have hg := regionOver_lt hr
      obtain ⟨hbase, hsize, htype, -, -, -⟩ := h.descriptor hg
      simp only [inLinkArea, htype, linkBase, hbase, hsize, poolParcels, h.linkWord hg hpools]
      rfl
  rw [Machine.rawLine, hparcel, Machine.rawLine]

theorem MapAlike.parcelValid (h : MapAlike s t) (hpools : t.svc.pools = s.svc.pools) (hdram : t.dram = s.dram) (hland : t.landing = s.landing) (n : Nat) :
    parcelValid t n = parcelValid s n := by
  have hline (k : Nat) : lineNow t k = lineNow s k := by rw [lineNow, lineAt, hland, h.rawLine hpools hdram, lineNow, lineAt]
  rw [Machine.parcelValid, h.regionOver, Machine.parcelValid]
  cases hr : Machine.regionOver s (256 * n) with
  | none => rfl
  | some g =>
    obtain ⟨hbase, hsize, -, -, -, hvalid⟩ := h.descriptor (regionOver_lt hr)
    simp only [hvalid, inValidMap, validBase, hbase, hsize, validByte, hline, validBit]
    rfl

/-! ### What a served access leaves -/

/-- Bytes of memory and last writes stand, and no job gains a plan. -/
structure BytesKept (s t : State) : Prop where
  mem : t.dram.mem = s.dram.mem
  last : ∀ k, (t.hc k).lastWrite = (s.hc k).lastWrite
  idle : PlansIdle s → PlansIdle t

end

namespace BytesKept
variable {s t u : State}

theorem refl (s : State) : BytesKept s s := ⟨rfl, fun _ => rfl, id⟩

theorem trans (h : BytesKept s t) (h' : BytesKept t u) : BytesKept s u :=
  ⟨h'.mem.trans h.mem, fun k => (h'.last k).trans (h.last k), h'.idle ∘ h.idle⟩

/-- A change of other parts. -/
theorem of_touches {l : List Part} (h : Touches l s t) (hl : l ⊆ [.regs, .events, .links, .ports, .lanes, .tows, .fab, .asks, .chargeDue, .free, .landing,
    .activity] := by decide) : BytesKept s t := by
  have h' := h.mono hl
  exact ⟨by rw [h'.keeps_dram], fun k => by rw [State.hc_of_hcs h'.keeps_hcs], fun hs q hq => hs q (by rw [← h'.keeps_svc]; exact hq)⟩

theorem ite {c : Prop} {_ : Decidable c} (ht : BytesKept s t) (hu : BytesKept s u) : BytesKept s (if c then t else u) := by
  split
  · exact ht
  · exact hu

theorem forEach {α : Type} {f : α → State → State} {xs : List α} (hf : ∀ a u, BytesKept u (f a u)) : BytesKept s (Machine.forEach xs f s) :=
  forEach_invariant (.refl s) fun a _ u h => h.trans (hf a u)

/-- A change of services that gives no job a plan. -/
theorem of_svc (x : SvcSt) (h : x.jobs = s.svc.jobs) : BytesKept s { s with svc := x } :=
  ⟨rfl, fun _ => rfl, fun hs q hq => hs q (h ▸ hq)⟩

/-- A change of a half-channel that keeps its last write. -/
theorem modHc (h : Nat) {f : HcSt → HcSt} (hf : ∀ x, (f x).lastWrite = x.lastWrite) : BytesKept s (s.modHc h f) := by
  refine ⟨rfl, fun k => ?_, fun hs => hs⟩
  by_cases hk : k = h
  · rw [hk, State.hc_modHc_same, hf]
  · rw [State.hc_modHc_ne _ _ hk]

theorem writeBack {n : Nat} : BytesKept s (writeBack n s) := by
  rw [writeBack_eq]
  have hg : BytesKept s (gatheredLines n s) := .of_touches gatheredLines_touches
  have ha (u : State) : BytesKept u (u.add48 LDG_WB_LO 1) := .of_touches (add48_touches u)
  have hs (xs : List Nat) (u : State) : BytesKept u (sentBack n xs u) := by
    have hseq : BytesKept u { u with dram := { u.dram with nextSeq := u.dram.nextSeq + 1 } } := ⟨rfl, fun _ => rfl, fun h => h⟩
    have hpush (a : Access) (h : Nat) (v : State) : BytesKept v (v.modHc h fun x => { x with intake := x.intake ++ [a] }) := modHc _ fun _ => rfl
    exact hseq.trans (hpush _ _ _)
  exact (hg.trans (hs _ _)).trans (ha _)

theorem evict {n : Nat} : BytesKept s (evict n s) := by
  unfold Machine.evict
  split
  · exact .refl s
  next l _ =>
    have hdrop (u : State) : BytesKept u (dropLine n u) := .of_touches (l := [.landing]) rfl
    have hwritten : BytesKept s (if l.st = .dirty then Machine.writeBack n s else s) := .ite writeBack (.refl s)
    have hmap (h : Nat) (u : State) : BytesKept u (mapAccesses (holdLine n l) h u) := modHc _ fun _ => rfl
    exact (BytesKept.ite hwritten (hwritten.trans (hmap _ _))).trans (hdrop _)

theorem causeWith {c : CauseBit} {info : Nat} : BytesKept s (s.causeWith c info) := .of_touches (l := [.regs, .events]) (Touches.causeWith (.refl _ s))

theorem causeOnce {c : CauseBit} {info : Nat} : BytesKept s (causeOnce c info s) :=
  .ite (.refl s) ((of_svc { s.svc with once := c.event :: s.svc.once } rfl).trans causeWith)

theorem addSat {a n : Nat} : BytesKept s (s.addSat a n) := .of_touches (l := [.regs]) (.addSat (.refl _ s))

theorem add48 {a n : Nat} : BytesKept s (s.add48 a n) := .of_touches (l := [.regs]) (.add48 (.refl _ s))

theorem touchWay {n w : Nat} : BytesKept s (touchWay n w s) := .of_touches (l := [.landing]) rfl

theorem setLine {n : Nat} {l : Line} : BytesKept s (setLine n l s) := .of_touches (l := [.landing]) rfl

theorem allocate {g n : Nat} {way : Nat × Option Nat × Bool} {data : List Byte} {st : LineState} : BytesKept s (allocate g n way data st s) := by
  have hevict (v : Option Nat) : BytesKept s (match v with | some v => Machine.evict v s | none => s) := by
    cases v with
    | none => exact .refl s
    | some v => exact evict
  have hpin (u : State) : BytesKept u (if way.2.2 then Machine.causeOnce Cause.LDG_pin_overflow 0 (u.addSat LDG_PIN_EVICT 1) else u) :=
    .ite (addSat.trans causeOnce) (.refl u)
  have hwrites (u : State) : BytesKept u { u with landing := { u.landing with writes := u.landing.writes + 1 } } := .of_touches (l := [.landing]) rfl
  exact ((((hevict way.2.1).trans (hpin _)).trans (hwrites _)).trans setLine).trans touchWay

theorem metaAccess {n : Nat} {dirty : Bool} : BytesKept s (metaAccess n dirty s) := by
  have hacted (k : Nat) : BytesKept s (s.acted k 1) := .of_touches (l := [.activity]) (Touches.acted (.refl _ s))
  have hdirty (l : Line) (v : State) : BytesKept v (if dirty && l.st == .clean then
      Machine.setLine n { l with st := .dirty, written := v.landing.writes } v else v) := .ite setLine (.refl v)
  refine (hacted (512 + sliceOf n)).trans ?_
  unfold Machine.metaAccess
  generalize s.acted (512 + sliceOf n) 1 = u
  dsimp only
  generalize regionNumber u (64 * n) = g
  have hmissed : BytesKept u ((u.add48 LDG_MISS_LO 1).addSat (LDG_RGN_MISS g) 1) := add48.trans addSat
  generalize (u.add48 LDG_MISS_LO 1).addSat (LDG_RGN_MISS g) 1 = v at hmissed
  generalize hway : chooseWay v g 0 n = way
  cases lineAt u n with
  | some l => exact ((add48.trans touchWay).trans addSat).trans (hdirty _ _)
  | none =>
    refine hmissed.trans ?_
    cases way with
    | some w => exact allocate
    | none => exact addSat.trans causeOnce

theorem freeParcel {g i : Nat} : BytesKept s (freeParcel g i s) := by
  have hpool (f : PoolSt → PoolSt) (u : State) : BytesKept u (u.modPool g f) := of_svc _ rfl
  exact .ite (.refl s) ((metaAccess.trans (hpool _ _)).trans (hpool _ _))

theorem jobDone {id : Nat} : BytesKept s (jobDone id s) := by
  unfold Machine.jobDone
  split
  · exact .refl s
  next j _ =>
    have hdrop : BytesKept s (s.dropJob id) := ⟨rfl, fun _ => rfl, fun hs q hq => hs q (KMap.mem_erase _ _ _ hq)⟩
    have hclose : BytesKept s (closeAll j.mark (s.dropJob id)) := hdrop.trans (.of_touches (closeAll_touches _))
    have hfreed : BytesKept s (match j.frees with
        | some (g, i) => Machine.freeParcel g i (closeAll j.mark (s.dropJob id))
        | none => closeAll j.mark (s.dropJob id)) := by
      split
      · exact hclose.trans freeParcel
      · exact hclose
    have hanswer {e : Entry} {p st r : Nat} {d : List Byte} (u : State) : BytesKept u (answer p e st r d u) := .of_touches answer_touches
    have hnak {e : Entry} {p c st : Nat} (u : State) : BytesKept u (answerNak p e c st u) := .of_touches answerNak_touches
    dsimp only
    split
    · exact .ite (hfreed.trans (hnak _)) (hfreed.trans (hanswer _))
    · exact .ite (hfreed.trans (hnak _)) (hfreed.trans (hanswer _))
    · exact hfreed.trans (hanswer _)
    · exact .ite (hfreed.trans (hanswer _)) (hfreed.trans (hanswer _))
    · exact .ite (hfreed.trans (hanswer _)) (hfreed.trans (hanswer _))
    · exact .ite (hfreed.trans (hnak _)) (hfreed.trans (hanswer _))

theorem jobPart {id : Nat} : BytesKept s (jobPart id s) := by
  unfold Machine.jobPart
  split
  · exact .refl s
  next j hj =>
    refine .ite jobDone ⟨rfl, fun _ => rfl, fun hs q hq => ?_⟩
    rcases KMap.mem_ins _ _ _ _ hq with rfl | hold
    · have hidle := hs (id, j) (mem_of_find hj)
      exact hidle
    · exact hs q hold

end BytesKept

end Sys2Proof.Machine
end

section
/-!
PROOF. Berths, the scheduler's intake and the admission of dynamic requests.
-/
set_option autoImplicit false
set_option Elab.async false

namespace Sys2Proof.Machine
open Reg Bit

section
variable {s : State} {h e now n : Nat} {dropped : Bool} {errs : List PinErr}

/-! ### Berths -/

/-- A berth of a full slot, on a half-channel in service, runs its entry and takes its place. -/
theorem berth_runs (hb : (s.hc h).berth < 12) (hfull : slotFull (liveSlot s) = true) (hserves : hcServes s h = true)
    (hidle : PlansIdle (runBerth h (entryNumber s (s.hc h).berth) (berthTime s h) dropped errs s)) : berth h dropped errs s =
      (runBerth h (entryNumber s (s.hc h).berth) (berthTime s h) dropped errs s).modHc h fun y => { y with berth := (s.hc h).berth + 1 } := by
  have hlt : ¬12 ≤ (s.hc h).berth := by omega
  simp only [berth, hlt, decide_false, hfull, hserves, Bool.not_true, Bool.or_self, Bool.false_eq_true, if_false, if_true]
  rw [runPlans_idle hidle]

/-- The place of a berth is all that changes after its entry. -/
theorem berthTaken_fields (u : State) (k : Nat) : ((u.modHc h fun y => { y with berth := k }).hc h) = { u.hc h with berth := k } ∧
    (u.modHc h fun y => { y with berth := k }).regs = u.regs ∧ (u.modHc h fun y => { y with berth := k }).dram = u.dram ∧
    (u.modHc h fun y => { y with berth := k }).landing = u.landing := ⟨State.hc_modHc_same _ _ _, rfl, rfl, rfl⟩

/-! ### Refreshes -/

/-- A half-channel whose bank b has been refreshed. -/
def refreshedHc (b now : Nat) (x : HcSt) : HcSt := { x with
  refDone := (let m := natSetBit x.refDone b; if m = 2 ^ 32 - 1 then 0 else m)
  refCount := KMap.put (fun _ => 0) x.refCount b (refreshes x b + 1)
  passed := KMap.put (fun _ => 0) x.passed b 0
  lastRef := x.lastRef.ins b now }

theorem refreshedHc_counts (b now : Nat) (x : HcSt) : refreshes (refreshedHc b now x) b = refreshes x b + 1 ∧ passedOver (refreshedHc b now x) b = 0 :=
  ⟨KMap.get_put_same (fun _ => 0) x.refCount b (refreshes x b + 1), KMap.get_put_same (fun _ => 0) x.passed b 0⟩

/-- A refresh shown in its count. -/
def refreshShown (h b now : Nat) (s : State) : State :=
  ((s.modHc h (refreshedHc b now)).setReg (HC_REF_CNT h) (s.reg (HC_REF_CNT h) + 1)).acted (4 * h + 3) 1

theorem refreshBank_done {b : Nat} {forced : Bool} : refreshBank h b now forced false s =
    if forced then ((refreshShown h b now s).addSat (HC_REF_FORCED h) 1).cause (Cause.HC_refresh_forced h) else refreshShown h b now s := rfl

theorem refreshShown_touches {b : Nat} : Touches [.regs, .hcs, .activity] s (refreshShown h b now s) := .acted (.setReg (.modHc (.refl _ s)))

theorem refreshForced_touches (forced : Bool) : Touches [.regs, .events] s
    (if forced then (s.addSat (HC_REF_FORCED h) 1).cause (Cause.HC_refresh_forced h) else s) := .ite (.cause (.addSat (.refl _ s))) (.refl _ s)

theorem refreshShown_hc {b : Nat} : (refreshShown h b now s).hc h = refreshedHc b now (s.hc h) := by
  have ht : Touches [.regs, .activity] (s.modHc h (refreshedHc b now)) (refreshShown h b now s) := .acted (.setReg (.refl _ _))
  rw [State.hc_of_hcs ht.keeps_hcs]
  exact State.hc_modHc_same _ _ _

theorem refreshBank_fields {b : Nat} {forced : Bool} : Touches [.regs, .hcs, .events, .activity] s (refreshBank h b now forced false s) ∧
    (refreshBank h b now forced false s).hc h = refreshedHc b now (s.hc h) ∧
    (refreshBank h b now forced false s).reg (HC_REF_CNT h) = s.reg (HC_REF_CNT h) + 1 := by
  rw [refreshBank_done]
  have hforced := refreshForced_touches (s := refreshShown h b now s) (h := h) forced
  refine ⟨((refreshShown_touches).mono (by decide)).trans (hforced.mono (by decide)), ?_, ?_⟩
  · rw [State.hc_of_hcs hforced.keeps_hcs, refreshShown_hc]
  · have hshown : (refreshShown h b now s).reg (HC_REF_CNT h) = s.reg (HC_REF_CNT h) + 1 :=
      State.reg_setReg_same (s.modHc h (refreshedHc b now)) _ _
    split
    · have hcause : HC_REF_CNT h ≠ HC_EVT_CAUSE h := by simp only [HC_REF_CNT, HC_EVT_CAUSE]; omega
      have hcount : HC_REF_CNT h ≠ HC_REF_FORCED h := by simp only [HC_REF_CNT, HC_REF_FORCED]; omega
      rw [State.reg_cause_ne _ (by exact hcause), State.addSat, State.reg_setReg_ne _ _ hcount, hshown]
    · exact hshown

/-- The first bank of the due order that qualifies is refreshed; those before it are passed over. -/
theorem refreshEntry_refreshes {b : Nat} (hretry : (s.hc h).refRetry = none)
    (hfind : ((dueOrder (s.hc h)).find? fun b => refreshable s (s.hc h) now b) = some b) : ∃ ahead forced,
      refreshEntry h now false s = (true, refreshBank h b now forced false (s.setHc h (passAll ahead (s.hc h)))) := by
  refine ⟨(dueOrder (s.hc h)).takeWhile fun c => c != b, decide (32 ≤ passedOver (s.hc h) b), ?_⟩
  simp only [refreshEntry, hretry, hfind]

/-! ### Served accesses -/

/-- The half-channel after its access to a bank. -/
def accessedHc (bank now : Nat) (w : Bool) (x : HcSt) : HcSt := { x with
  lastAcc := x.lastAcc.ins bank now
  lastRead := if w then x.lastRead else some now
  lastWrite := if w then some now else x.lastWrite }

theorem noteAccess_fields {bank : Nat} {w : Bool} : Touches [.regs, .hcs, .activity] s (noteAccess h bank now w s) ∧
    (noteAccess h bank now w s).hc h = accessedHc bank now w (s.hc h) ∧
    SameRegs [HC_ACT_CNT_LO h, HC_ACT_CNT_LO h + 4] s (noteAccess h bank now w s) := by
  have ht : Touches [.regs, .activity] (s.modHc h (accessedHc bank now w)) (noteAccess h bank now w s) := .acted (.acted (.add48 (.refl _ _)))
  refine ⟨(Touches.modHc (.refl _ s)).trans (ht.mono (by decide)), ?_, ?_⟩
  · rw [State.hc_of_hcs ht.keeps_hcs]
    exact State.hc_modHc_same _ _ _
  · exact ((SameRegs.of_regs (t := s.modHc h (accessedHc bank now w)) rfl).add48 (by exact .head _) (by exact .tail _ (.head _))).acted.acted

/-- A berth that missed its bound is counted. -/
def boundNoted (now : Nat) (a : Access) (s : State) : State :=
  if boundMissed s now a then (s.addSat TT_BOUND_MISS 1).cause Cause.TT_bound_miss else s

theorem boundNoted_fields {a : Access} : Touches [.regs, .events] s (boundNoted now a s) ∧ SameRegs [TT_BOUND_MISS, TT_EVT_CAUSE] s (boundNoted now a s) :=
  ⟨.ite (.cause (.addSat (.refl _ s))) (.refl _ s),
    .ite (.cause (.addSat (.refl _ s) (by exact .head _)) (by exact .tail _ (.head _))) (.refl _ s)⟩

/-- The state of an access that is served: its bound and its bank are noted. -/
def noted (h now : Nat) (a : Access) (s : State) : State := noteAccess h (bankOf (boundNoted now a s) a.parcel) now a.write (boundNoted now a s)

theorem serveBooked_eq {a : Access} : serveBooked h now a dropped errs s =
    if dropped then dropAccess h a (noted h now a s) else perform h a errs (takeAccess h a.seq (noted h now a s)) := rfl

theorem noted_touches {a : Access} : Touches [.regs, .events, .hcs, .activity] s (noted h now a s) :=
  ((boundNoted_fields.1).mono (by decide)).trans (noteAccess_fields.1.mono (by decide))

theorem noted_hc {a : Access} : ∃ bank, (noted h now a s).hc h = accessedHc bank now a.write (s.hc h) :=
  ⟨_, (noteAccess_fields.2.1).trans (congrArg _ (State.hc_of_hcs boundNoted_fields.1.keeps_hcs h))⟩

theorem noted_alike {a : Access} (hh : h < 128) : MapAlike s (noted h now a s) := by
  have hbound : MapAlike s (boundNoted now a s) := .of_same boundNoted_fields.2 (by decide)
  have hacc : MapAlike (boundNoted now a s) (noted h now a s) := .of_same noteAccess_fields.2.2 (by
    simp only [HC_ACT_CNT_LO, List.mem_cons, List.not_mem_nil, or_false]
    omega)
  exact fun a ha => (hacc a ha).trans (hbound a ha)

/-- A half-channel with one more dropped command. -/
def droppedHc (ticks : Nat) (x : HcSt) : HcSt :=
  { x with caNew := x.caNew + 1, caTicks := ticks :: x.caTicks.filter fun t => decide (ticks ≤ t + 12500) }

theorem noteDrop_fields : (noteDrop h s).hc h = droppedHc s.ticks (s.hc h) ∧ (noteDrop h s).dram.mem = s.dram.mem ∧
    (noteDrop h s).landing = s.landing ∧ (noteDrop h s).svc = s.svc :=
  ⟨(State.hc_of_hcs (s := s.modHc h (droppedHc s.ticks)) rfl h).trans (State.hc_modHc_same _ _ _), rfl, rfl, rfl⟩

/-- An access taken off its half-channel. -/
def takenHc (seq : Nat) (x : HcSt) : HcSt := { x with
  queue := x.queue.filter fun a => a.seq != seq
  waiting := x.waiting.filter fun a => a.seq != seq
  dropped := x.dropped.filter fun a => a.seq != seq }

theorem takeAccess_fields {seq : Nat} : Touches [.hcs] s (takeAccess h seq s) ∧ (takeAccess h seq s).hc h = takenHc seq (s.hc h) :=
  ⟨.modHc (.refl _ s), State.hc_modHc_same _ _ _⟩

theorem dropAccess_fields {a : Access} : (dropAccess h a s).hc h = { takenHc a.seq (droppedHc s.ticks (s.hc h)) with
      dropped := (takenHc a.seq (s.hc h)).dropped ++ [{ a with retry := true, conf := false }] } ∧
    (dropAccess h a s).dram.mem = s.dram.mem ∧ (dropAccess h a s).landing = s.landing ∧ (dropAccess h a s).svc = s.svc := by
  obtain ⟨hhc, hmem, hland, hsvc⟩ := noteDrop_fields (s := s) (h := h)
  unfold dropAccess
  generalize noteDrop h s = u at hhc hmem hland hsvc
  obtain ⟨ht, htaken⟩ := takeAccess_fields (s := u) (h := h) (seq := a.seq)
  dsimp only
  generalize takeAccess h a.seq u = w at ht htaken
  refine ⟨?_, (congrArg DramSt.mem ht.keeps_dram).trans hmem, ht.keeps_landing.trans hland, ht.keeps_svc.trans hsvc⟩
  rw [State.hc_modHc_same, htaken, hhc]
  rfl

/-! ### A write that reaches its parcel -/

theorem validate_valid {marks : List (Nat × Nat)} (h : parcelValid s n = true) : validate n marks s = s := by
  unfold validate
  cases regionOver s (256 * n) with
  | none => rfl
  | some g => exact if_pos h

theorem perform_write {a : Access} {j : Nat} {b : List (Option Byte)} (hpurpose : a.purpose = .write j b) (hreads : a.reads = false)
    (hvalid : parcelValid s a.parcel = true) :
    perform h a errs s = jobPart j (patchLines a.parcel b (dieWrite a.parcel b (dropRepair a.parcel s))) := by
  simp only [perform, hpurpose, hreads, Bool.false_eq_true, if_false, validate_valid hvalid]

theorem dropRepair_fields : Touches [.hcs] s (dropRepair n s) ∧ BytesKept s (dropRepair n s) :=
  ⟨.ite (.modHc (.refl _ s)) (.refl _ s), .ite (.modHc _ fun _ => rfl) (.refl s)⟩

theorem dieWrite_fields {l : List (Option Byte)} : Touches [.dram] s (dieWrite n l s) ∧
    (dieWrite n l s).dram.mem = Dram.store s.dram.mem (parcelKey s n * 256) l := by
  unfold dieWrite
  dsimp only
  split
  · exact ⟨rfl, rfl⟩
  · exact ⟨rfl, rfl⟩

theorem patchLines_kept {b : List (Option Byte)} : BytesKept s (patchLines n b s) := .forEach fun m u => by
  split
  · exact .setLine
  · exact .refl u

/-- A write reaches the bytes of its parcel, and its half-channel keeps its last write. -/
theorem perform_write_fields {a : Access} {j : Nat} {b : List (Option Byte)} (hpurpose : a.purpose = .write j b) (hreads : a.reads = false)
    (hvalid : parcelValid s a.parcel = true) (hidle : PlansIdle s) :
    (perform h a errs s).dram.mem = Dram.store s.dram.mem (parcelKey s a.parcel * 256) b ∧
      ((perform h a errs s).hc h).lastWrite = (s.hc h).lastWrite ∧ PlansIdle (perform h a errs s) := by
  rw [perform_write hpurpose hreads hvalid]
  obtain ⟨htv, hv⟩ := dropRepair_fields (s := s) (n := a.parcel)
  have hkey : parcelKey (dropRepair a.parcel s) a.parcel = parcelKey s a.parcel := (MapAlike.of_regs htv.keeps_regs).parcelKey _
  have hdram := htv.keeps_dram
  generalize dropRepair a.parcel s = v at hv hkey hdram
  obtain ⟨htw, hmem⟩ := dieWrite_fields (s := v) (n := a.parcel) (l := b)
  have hhc (k : Nat) : (dieWrite a.parcel b v).hc k = v.hc k := State.hc_of_hcs htw.keeps_hcs k
  have hsvc := htw.keeps_svc
  generalize dieWrite a.parcel b v = w at hmem hhc hsvc
  have hend : BytesKept w (jobPart j (patchLines a.parcel b w)) := patchLines_kept.trans .jobPart
  refine ⟨?_, ?_, hend.idle fun q hq => ?_⟩
  · rw [hend.mem, hmem, hkey, hdram]
  · rw [hend.last, hhc, hv.last]
  · rw [hsvc] at hq
    exact hv.idle hidle q hq

/-! ### The pick of a booked berth -/

theorem oldest_mem {l : List Access} {a : Access} (ha : oldest l = some a) : a ∈ l := by
  have hstep (xs : List Access) (o : Option Access) : (∀ x, o = some x → x ∈ l) → (∀ x ∈ xs, x ∈ l) →
      ∀ y, xs.foldl (fun b a => match b with | some c => if a.seq < c.seq then some a else b | none => some a) o = some y → y ∈ l := by
    induction xs generalizing o with
    | nil => exact fun ho _ y hy => ho y hy
    | cons x xs ih =>
      intro ho hxs y hy
      refine ih _ (fun z hz => ?_) (fun z hz => hxs z (.tail _ hz)) y hy
      cases o with
      | none => exact Option.some.inj hz ▸ hxs x (.head _)
      | some c =>
        dsimp only at hz
        split at hz
        · exact Option.some.inj hz ▸ hxs x (.head _)
        · exact ho z hz
  exact hstep l none (fun _ h => absurd h (by simp)) (fun _ h => h) a ha

/-- A booked berth picks an access of its direction. -/
theorem bookedPick_write {c : Nat} {w : Bool} {a : Access} (ha : bookedPick s h now c w = some a) : a.write = w := by
  have hmine : a ∈ (s.hc h).queue.filter fun a => a.fc == c && a.write == w && ready s h now a := by
    unfold bookedPick at ha
    dsimp only at ha
    split at ha
    next x hx => exact Option.some.inj ha ▸ List.mem_of_mem_filter (oldest_mem hx)
    next =>
      split at ha
      next x hx => exact Option.some.inj ha ▸ List.mem_of_mem_filter (oldest_mem hx)
      next => exact oldest_mem ha
  have hcond := (List.mem_filter.1 hmine).2
  simp only [Bool.and_eq_true, beq_iff_eq] at hcond
  exact hcond.1.2

/-! ### The scheduler's intake -/

/-- A dynamic request waits; the write of a read-modify-write is queued. -/
def dynamicHc (a : Access) (y : HcSt) : HcSt := if a.locked then { y with queue := y.queue ++ [a] } else { y with waiting := y.waiting ++ [a] }

theorem schedulerIntake_dynamic {a : Access} {rest : List Access} (hin : (s.hc h).intake = a :: rest) (hno : mayBook s h a = false) :
    schedulerIntake h s = (s.setHc h { s.hc h with intake := rest }).modHc h (dynamicHc a) := by
  simp only [schedulerIntake, hin, hno, Bool.not_false, if_true]
  rfl

theorem schedulerIntake_excess {a : Access} {rest : List Access} (hin : (s.hc h).intake = a :: rest) (hbook : mayBook s h a = true)
    (hover : 48 * ((liveSlot s).manifest a.fc).burst a.write < spentOf (s.hc h) a.fc a.write + 48) : schedulerIntake h s =
      (causeOnce Cause.TT_envelope_excess 0 ((s.setHc h { s.hc h with intake := rest }).addSat TT_ENV_EXCESS 1)).modHc h (dynamicHc a) := by
  simp only [schedulerIntake, hin, hbook, Bool.not_true, Bool.false_eq_true, if_false, if_neg (Nat.not_le.2 hover)]
  rfl

/-- An envelope excess is counted, and its cause raised once. -/
theorem envelopeExcess_counted (u : State) : Touches [.regs, .events, .svc] u (causeOnce Cause.TT_envelope_excess 0 (u.addSat TT_ENV_EXCESS 1)) ∧
    ((causeOnce Cause.TT_envelope_excess 0 (u.addSat TT_ENV_EXCESS 1)).reg TT_ENV_EXCESS).toNat = satAdd 0xFFFFFFFF (u.reg TT_ENV_EXCESS).toNat 1 := by
  have hcount : ((u.addSat TT_ENV_EXCESS 1).reg TT_ENV_EXCESS).toNat = satAdd 0xFFFFFFFF (u.reg TT_ENV_EXCESS).toNat 1 := State.reg_addSat_same _ _ _
  have ht : Touches [.regs, .events, .svc] u (u.addSat TT_ENV_EXCESS 1) := .addSat (.refl _ u)
  unfold causeOnce
  generalize u.addSat TT_ENV_EXCESS 1 = w at hcount ht
  split
  · exact ⟨ht, hcount⟩
  · refine ⟨Touches.causeWith (Touches.svc ht), ?_⟩
    rw [State.reg_causeWith, State.put, State.reg_setReg_ne _ _ (by decide)]
    exact hcount

/-- A conforming request is queued, and its class has spent more. -/
theorem schedulerIntake_conforms {a : Access} {rest : List Access} (hin : (s.hc h).intake = a :: rest) (hbook : mayBook s h a = true)
    (hfits : spentOf (s.hc h) a.fc a.write + 48 ≤ 48 * ((liveSlot s).manifest a.fc).burst a.write) : ∃ b : Access, b.seq = a.seq ∧ b.conf = true ∧
      schedulerIntake h s = (s.setHc h { s.hc h with intake := rest }).modHc h fun y => { y with
        queue := y.queue ++ [b], spent := KMap.put (fun _ => 0) y.spent (2 * a.fc + boolNat a.write) (spentOf (s.hc h) a.fc a.write + 48) } := by
  refine ⟨{ a with conf := true, entered := berthTime s h, behind := bankWanted s h (bankOf s a.parcel) a.seq }, rfl, rfl, ?_⟩
  simp only [schedulerIntake, hin, hbook, Bool.not_true, Bool.false_eq_true, if_false, if_pos hfits]

/-! ### The admission of dynamic requests -/

theorem findSome_only {α β : Type} {l : List α} {f : α → Option β} {k : α} {b : β} (hmem : k ∈ l) (hk : f k = some b)
    (hne : ∀ x, x ≠ k → f x = none) : l.findSome? f = some b := by
  induction l with
  | nil => exact absurd hmem List.not_mem_nil
  | cons x l ih =>
    by_cases hx : x = k
    · rw [hx, List.findSome?_cons, hk]
    · rw [List.findSome?_cons, hne x hx]
      exact ih ((List.mem_cons.1 hmem).resolve_left (Ne.symm hx))

theorem goesBefore_irrefl (a : Access) : goesBefore s a a = false := by simp [goesBefore]

/-- The only waiting request, with room and nothing before it, is admitted. -/
theorem dynamicAdmit_admits {a : Access} (hwait : (s.hc h).waiting = [a]) (hport : a.port < 17) (hroom : dynUsed (s.hc h) a.write none < 64)
    (hshare : dynUsed (s.hc h) a.write (some a.port) < portShare s) (hready : awaitsReads s a = false)
    (hfirst : (s.hc h).intake.any (fun b => goesBefore s b a) = false) :
    dynamicAdmit h s = s.setHc h { s.hc h with waiting := [], queue := (s.hc h).queue ++ [a], lastPort := a.port } := by
  have hnone (p : Nat) (hp : p ≠ a.port) : admissible s (s.hc h) p = none := by
    have hne : (a.port == p) = false := beq_eq_false_iff_ne.2 (Ne.symm hp)
    simp [admissible, hwait, hne]
  have hsome : admissible s (s.hc h) a.port = some a := by
    simp [admissible, hwait, hready, hroom, hshare, goesBefore_irrefl, hfirst]
  have hpick : (((List.range 17).map fun i => ((s.hc h).lastPort + 1 + i) % 17).findSome? fun p => admissible s (s.hc h) p) = some a := by
    refine findSome_only (List.mem_map.2 ⟨(a.port + 17 - ((s.hc h).lastPort + 1) % 17) % 17, List.mem_range.2 (Nat.mod_lt _ (by decide)), ?_⟩) hsome hnone
    omega
  simp only [dynamicAdmit, hpick, hwait]
  simp

/-- A booked berth serves the access it picks. -/
theorem runBerth_booked {c : Nat} {w : Bool} {a : Access} (hduty : dutyAt (liveSlot s) h e = .booked c w) (hclass : suspendedClass s c = false)
    (hduties : dutiesOnly s = false) (hpick : bookedPick s h now c w = some a) :
    runBerth h e now dropped errs s = serveBooked h now a dropped errs s := by
  simp only [runBerth, hduty, hclass, hduties, Bool.or_self, Bool.false_eq_true, if_false, hpick]

/-- A refresh of the first bank that qualifies. -/
theorem berth_refreshes {k b : Nat} (hb : (s.hc h).berth < 12) (hfull : slotFull (liveSlot s) = true) (hserves : hcServes s h = true)
    (hidle : PlansIdle s) (hduty : dutyAt (liveSlot s) h (entryNumber s (s.hc h).berth) = .refresh k) (hactive : refreshActive s k = true)
    (hretry : (s.hc h).refRetry = none)
    (hfind : ((dueOrder (s.hc h)).find? fun b => refreshable s (s.hc h) (berthTime s h) b) = some b) : ∃ t, berth h false [] s = t ∧
      t.reg (HC_REF_CNT h) = s.reg (HC_REF_CNT h) + 1 ∧ refreshes (t.hc h) b = refreshes (s.hc h) b + 1 ∧ passedOver (t.hc h) b = 0 ∧
      (t.hc h).berth = (s.hc h).berth + 1 ∧ t.dram.mem = s.dram.mem := by
  obtain ⟨ahead, forced, hentry⟩ := refreshEntry_refreshes (h := h) hretry hfind
  have hrun : runBerth h (entryNumber s (s.hc h).berth) (berthTime s h) false [] s = refreshBank h b (berthTime s h) forced false (s.setHc h (passAll ahead (s.hc h))) := by
    simp only [runBerth, hduty, hactive, if_true]
    rw [hentry]
  obtain ⟨ht, hhc, hcount⟩ := refreshBank_fields (s := s.setHc h (passAll ahead (s.hc h))) (h := h) (b := b) (now := berthTime s h) (forced := forced)
  have heq := berth_runs (errs := []) hb hfull hserves (by
    rw [hrun]
    intro q hq
    rw [ht.keeps_svc] at hq
    exact hidle q hq)
  rw [hrun] at heq
  generalize refreshBank h b (berthTime s h) forced false (s.setHc h (passAll ahead (s.hc h))) = u at ht hhc hcount heq
  obtain ⟨hhc', hregs, hdram, -⟩ := berthTaken_fields (h := h) u ((s.hc h).berth + 1)
  rw [State.hc_setHc_same] at hhc
  refine ⟨_, heq, ?_, ?_, ?_, ?_, ?_⟩
  · rw [State.reg_of_regs hregs, hcount]
    rfl
  · rw [hhc', hhc]
    exact (refreshedHc_counts b (berthTime s h) (passAll ahead (s.hc h))).1
  · rw [hhc', hhc]
    exact (refreshedHc_counts b (berthTime s h) (passAll ahead (s.hc h))).2
  · rw [hhc']
  · rw [hdram, ht.keeps_dram]
    rfl

/-- A booked berth whose command is dropped. -/
theorem berth_drops {c : Nat} {w : Bool} {a : Access} (hb : (s.hc h).berth < 12) (hfull : slotFull (liveSlot s) = true) (hserves : hcServes s h = true)
    (hidle : PlansIdle s) (hduty : dutyAt (liveSlot s) h (entryNumber s (s.hc h).berth) = .booked c w) (hclass : suspendedClass s c = false)
    (hduties : dutiesOnly s = false) (hpick : bookedPick s h (berthTime s h) c w = some a) : ∃ t, berth h true [] s = t ∧
      (t.hc h).queue = (s.hc h).queue.filter (fun b => b.seq != a.seq) ∧
      (t.hc h).dropped = (s.hc h).dropped.filter (fun b => b.seq != a.seq) ++ [{ a with retry := true, conf := false }] ∧
      (t.hc h).berth = (s.hc h).berth + 1 ∧ t.dram.mem = s.dram.mem ∧ t.landing = s.landing := by
  have hrun : runBerth h (entryNumber s (s.hc h).berth) (berthTime s h) true [] s = dropAccess h a (noted h (berthTime s h) a s) := by
    rw [runBerth_booked hduty hclass hduties hpick, serveBooked_eq, if_pos rfl]
  obtain ⟨hhc, hmem, hland, hsvc⟩ := dropAccess_fields (s := noted h (berthTime s h) a s) (h := h) (a := a)
  have hnoted := noted_touches (s := s) (h := h) (now := berthTime s h) (a := a)
  obtain ⟨bank, hnhc⟩ := noted_hc (s := s) (h := h) (now := berthTime s h) (a := a)
  rw [hnhc] at hhc
  have heq := berth_runs (errs := []) hb hfull hserves (by
    rw [hrun]
    intro q hq
    rw [hsvc, hnoted.keeps_svc] at hq
    exact hidle q hq)
  rw [hrun] at heq
  generalize dropAccess h a (noted h (berthTime s h) a s) = u at hhc hmem hland heq
  obtain ⟨hhc', -, hdram, hland'⟩ := berthTaken_fields (h := h) u ((s.hc h).berth + 1)
  refine ⟨_, heq, ?_, ?_, ?_, ?_, ?_⟩
  · rw [hhc', hhc]
    rfl
  · rw [hhc', hhc]
    rfl
  · rw [hhc']
  · rw [hdram, hmem, hnoted.keeps_dram]
  · rw [hland', hland, hnoted.keeps_landing]

/-- A booked berth that serves a write. -/
theorem berth_writes {c j : Nat} {w : Bool} {a : Access} {b : List (Option Byte)} (hh : h < 128) (hb : (s.hc h).berth < 12)
    (hfull : slotFull (liveSlot s) = true) (hserves : hcServes s h = true)
    (hidle : PlansIdle s) (hduty : dutyAt (liveSlot s) h (entryNumber s (s.hc h).berth) = .booked c w) (hclass : suspendedClass s c = false)
    (hduties : dutiesOnly s = false) (hpick : bookedPick s h (berthTime s h) c w = some a) (hw : w = true) (hpurpose : a.purpose = .write j b)
    (hreads : a.reads = false) (hvalid : parcelValid s a.parcel = true) : ∃ t, berth h false [] s = t ∧
      t.dram.mem = Dram.store s.dram.mem (parcelKey s a.parcel * 256) b ∧ (t.hc h).lastWrite = some (berthTime s h) ∧
      (t.hc h).berth = (s.hc h).berth + 1 := by
  have hrun : runBerth h (entryNumber s (s.hc h).berth) (berthTime s h) false [] s = perform h a [] (takeAccess h a.seq (noted h (berthTime s h) a s)) := by
    rw [runBerth_booked hduty hclass hduties hpick, serveBooked_eq, if_neg Bool.false_ne_true]
  have hnoted := noted_touches (s := s) (h := h) (now := berthTime s h) (a := a)
  have halike := noted_alike (s := s) (now := berthTime s h) (a := a) hh
  obtain ⟨bank, hnhc⟩ := noted_hc (s := s) (h := h) (now := berthTime s h) (a := a)
  obtain ⟨ht, hthc⟩ := takeAccess_fields (s := noted h (berthTime s h) a s) (h := h) (seq := a.seq)
  generalize noted h (berthTime s h) a s = v at hnoted halike hnhc ht hthc hrun
  have halike' : MapAlike s (takeAccess h a.seq v) := fun a ha => (State.reg_of_regs ht.keeps_regs a).trans (halike a ha)
  have hdram : (takeAccess h a.seq v).dram = s.dram := ht.keeps_dram.trans hnoted.keeps_dram
  have hsvc : (takeAccess h a.seq v).svc = s.svc := ht.keeps_svc.trans hnoted.keeps_svc
  have hvalid' := (halike'.parcelValid (congrArg SvcSt.pools hsvc) hdram (ht.keeps_landing.trans hnoted.keeps_landing) a.parcel).trans hvalid
  rw [hnhc] at hthc
  generalize takeAccess h a.seq v = v' at halike' hdram hsvc hvalid' hthc hrun
  obtain ⟨hmem, hlast, hplans⟩ := perform_write_fields (h := h) (errs := []) hpurpose hreads hvalid' (fun q hq => by
    rw [hsvc] at hq
    exact hidle q hq)
  have heq := berth_runs (errs := []) hb hfull hserves (by rw [hrun]; exact hplans)
  rw [hrun] at heq
  generalize perform h a [] v' = u at hmem hlast heq
  obtain ⟨hhc', -, hdram', -⟩ := berthTaken_fields (h := h) u ((s.hc h).berth + 1)
  refine ⟨_, heq, ?_, ?_, ?_⟩
  · rw [hdram', hmem, hdram, halike'.parcelKey]
  · rw [hhc']
    change (u.hc h).lastWrite = some (berthTime s h)
    rw [hlast, hthc]
    simp only [takenHc, accessedHc, bookedPick_write hpick, hw, if_true]
  · rw [hhc']

end

/-- Settles O22: the entry of a berth, the intake and the admission fix the next state; what a served write leaves is kept by the parts it
touches. -/
theorem berthsAndAdmissionActAsStated : Obligations.BerthsAndAdmissionActAsStated := by
  unfold Obligations.BerthsAndAdmissionActAsStated
  intro s h hup x e now dynamic hidle
  have hh : h.val < 128 := h.isLt
  refine ⟨fun dropped errs hb hfull hserves hduty => ?_, fun k b hb hfull hserves hduty hactive hretry hfind => ?_,
    fun c w a hb hfull hserves hduty hclass hduties hpick => ⟨?_, fun j b hw hpurpose hreads hvalid => ?_⟩,
    fun a rest hin => ⟨fun hno => ?_, fun hbook hfits => ?_, fun hbook hover => ?_⟩, fun a hwait hport hroom hshare hready hfirst => ?_⟩
  · have hrun : runBerth h e now dropped errs s = s := by
      rcases hduty with hd | hd <;> simp only [runBerth, hd]
    refine congrArg Host.Outcome.next ((whenUp_of_up hup _).trans ?_)
    rw [berth_runs hb hfull hserves (by rw [hrun]; exact hidle), hrun]
    rfl
  · obtain ⟨t, heq, ht⟩ := berth_refreshes hb hfull hserves hidle hduty hactive hretry hfind
    exact ⟨t, congrArg Host.Outcome.next ((whenUp_of_up hup _).trans heq), ht⟩
  · obtain ⟨t, heq, ht⟩ := berth_drops hb hfull hserves hidle hduty hclass hduties hpick
    exact ⟨t, congrArg Host.Outcome.next ((whenUp_of_up hup _).trans heq), ht⟩
  · obtain ⟨t, heq, ht⟩ := berth_writes hh hb hfull hserves hidle hduty hclass hduties hpick hw hpurpose hreads hvalid
    exact ⟨t, congrArg Host.Outcome.next ((whenUp_of_up hup _).trans heq), ht⟩
  · refine ⟨_, congrArg Host.Outcome.next ((whenUp_of_up hup _).trans (schedulerIntake_dynamic hin hno)), ?_, fun k hk => ?_, ?_⟩
    · rw [State.hc_modHc_same, State.hc_setHc_same]
      rfl
    · rw [State.hc_modHc_ne _ _ hk]
      exact KMap.get_put_ne _ _ _ _ _ hk
    · have ht : Touches [.hcs] s ((s.setHc h { x with intake := rest }).modHc h (dynamicHc a)) := .modHc (.setHc (.refl _ s))
      exact ht.frame (F := fun u => { u with hcs := s.hcs }) fun _ => rfl
  · obtain ⟨b, hseq, hconf, heq⟩ := schedulerIntake_conforms hin hbook hfits
    refine ⟨_, congrArg Host.Outcome.next ((whenUp_of_up hup _).trans heq), ?_, ?_, ?_, ?_, rfl⟩
    · rw [State.hc_modHc_same, State.hc_setHc_same]
    · rw [State.hc_modHc_same, State.hc_setHc_same]
    · rw [State.hc_modHc_same, State.hc_setHc_same]
      simp [hseq, hconf, x]
    · rw [State.hc_modHc_same, State.hc_setHc_same]
      exact KMap.get_put_same (fun _ => 0) x.spent (2 * a.fc + boolNat a.write) (spentOf x a.fc a.write + 48)
  · have heq := schedulerIntake_excess hin hbook hover
    obtain ⟨ht, hcount⟩ := envelopeExcess_counted (s.setHc h { x with intake := rest })
    generalize causeOnce Cause.TT_envelope_excess 0 ((s.setHc h { x with intake := rest }).addSat TT_ENV_EXCESS 1) = u at ht hcount heq
    refine ⟨_, congrArg Host.Outcome.next ((whenUp_of_up hup _).trans heq), ?_, hcount⟩
    rw [State.hc_modHc_same, State.hc_of_hcs ht.keeps_hcs, State.hc_setHc_same]
    rfl
  · refine ⟨_, congrArg Host.Outcome.next ((whenUp_of_up hup _).trans (dynamicAdmit_admits hwait hport hroom hshare hready hfirst)), ?_, ?_, ?_, rfl⟩
    · rw [State.hc_setHc_same]
    · rw [State.hc_setHc_same]
    · rw [State.hc_setHc_same]

end Sys2Proof.Machine
end

section
/-!
PROOF. Loading a timetable, leaving STORM, the resumption of classes, the demand of the host and the map check.
-/
set_option autoImplicit false
set_option Elab.async false

namespace Sys2Proof.Machine
open Reg Bit

theorem OnlyRegs.trans {s t u : State} (h : OnlyRegs s t) (h' : OnlyRegs t u) : OnlyRegs s u := by
  obtain ⟨m, rfl⟩ := h
  obtain ⟨n, rfl⟩ := h'
  exact ⟨n, rfl⟩

section
variable {s : State}

/-! ### Loads -/

/-- The registers that show the slots. -/
abbrev slotRegs : List Nat := [TT_STATUS, TT_ID_ACTIVE, TT_ID_STANDBY, TT_ID_STORM, TT_PRICE_ACTIVE, TT_PRICE_STANDBY, TT_PRICE_STORM]

/-- The flags of the slots. -/
def slotFlags (s : State) : State :=
  ((s.putFlag TT_STATUS_storm_valid (slotFull s.tt.stormSlot)).putFlag TT_STATUS_standby_valid (slotFull s.tt.standby)).putFlag
    TT_STATUS_active_default (s.tt.active == .standard)

theorem slotFlags_get : (slotFlags s).get TT_STATUS_standby_valid = (if slotFull s.tt.standby then 1 else 0) ∧
    (slotFlags s).get TT_STATUS_storm_valid = (if slotFull s.tt.stormSlot then 1 else 0) := by
  unfold slotFlags
  constructor
  · rw [State.get_putFlag_apart rfl, State.get_putFlag_self rfl rfl]
  · rw [State.get_putFlag_apart rfl, State.get_putFlag_apart rfl, State.get_putFlag_self rfl rfl]

theorem showSlots_shown : OnlyRegs s (showSlots s) ∧ SameRegs slotRegs s (showSlots s) ∧
    SameRegs [TT_ID_ACTIVE, TT_ID_STANDBY, TT_ID_STORM, TT_PRICE_ACTIVE, TT_PRICE_STANDBY, TT_PRICE_STORM] (slotFlags s) (showSlots s) := by
  have hflags : SameRegs slotRegs s (slotFlags s) := (((SameRegs.refl _ s).putFlag).putFlag).putFlag
  have honly : OnlyRegs s (slotFlags s) := .put (.put (.put (.refl s)))
  have hshown (v1 v2 v3 v4 v5 v6 : Word) (u : State) : OnlyRegs u ((((((u.setReg TT_PRICE_STORM v6).setReg TT_PRICE_STANDBY v5).setReg
      TT_PRICE_ACTIVE v4).setReg TT_ID_STORM v3).setReg TT_ID_STANDBY v2).setReg TT_ID_ACTIVE v1) ∧
      SameRegs [TT_ID_ACTIVE, TT_ID_STANDBY, TT_ID_STORM, TT_PRICE_ACTIVE, TT_PRICE_STANDBY, TT_PRICE_STORM] u ((((((u.setReg TT_PRICE_STORM v6).setReg
      TT_PRICE_STANDBY v5).setReg TT_PRICE_ACTIVE v4).setReg TT_ID_STORM v3).setReg TT_ID_STANDBY v2).setReg TT_ID_ACTIVE v1) :=
    ⟨.setReg (.setReg (.setReg (.setReg (.setReg (.setReg (.refl u)))))), ((((((SameRegs.refl _ u).setReg).setReg).setReg).setReg).setReg).setReg⟩
  have h := hshown (BitVec.ofNat 32 s.tt.active.id) (BitVec.ofNat 32 s.tt.standby.id) (BitVec.ofNat 32 s.tt.stormSlot.id)
    (BitVec.ofNat 32 (if slotFull s.tt.active then pricedTotal s.tt.active else 0))
    (BitVec.ofNat 32 (if slotFull s.tt.standby then pricedTotal s.tt.standby else 0))
    (BitVec.ofNat 32 (if slotFull s.tt.stormSlot then pricedTotal s.tt.stormSlot else 0)) (slotFlags s)
  exact ⟨honly.trans h.1, hflags.trans (h.2.mono (by decide)), h.2⟩

/-- A load that begins. -/
def loadBegun (target : Bool) (s : State) : State :=
  { s with tt := if target then { s.tt with load := some target, stormSlot := .empty } else { s.tt with load := some target, standby := .empty } }

theorem loadBegun_kept (target : Bool) (s : State) : (loadBegun target s).tt.active = s.tt.active ∧
    (target = true → (loadBegun target s).tt.standby = s.tt.standby) := by
  cases target
  · exact ⟨rfl, fun h => absurd h (by decide)⟩
  · exact ⟨rfl, fun _ => rfl⟩

/-- It is shown running. -/
def loadShown (target : Bool) (s : State) : State :=
  (((loadBegun target s).put TT_LOAD_CTRL_go 1).put TT_VAL_STATUS_state 1).putFlag TT_STATUS_storm_matched (!target && s.flag TT_STATUS_storm_matched)

theorem loadStart_begins {target : Bool} (hfree : s.tt.load = none) (hswap : target = false → swapArmed s = false)
    (hstorm : target = true → s.tt.stormAt = none) : loadStart target s = showSlots (loadShown target s) := by
  have hnot : ((!target && swapArmed s) || (target && s.tt.stormAt.isSome)) = false := by
    cases target with
    | false => simp [hswap rfl]
    | true => simp [hstorm rfl]
  rw [loadStart, hfree, if_neg (by decide), hnot, if_neg (by decide)]
  rfl

theorem loadStart_busy {target : Bool} (hrun : s.tt.load ≠ none) : loadStart target s = s :=
  if_pos (Option.isSome_iff_ne_none.2 hrun)

theorem loadShown_only {target : Bool} : OnlyRegs (loadBegun target s) (loadShown target s) := .put (.put (.put (.refl _)))

theorem loadShown_fields {target : Bool} : (showSlots (loadShown target s)).tt = (loadBegun target s).tt ∧
    (showSlots (loadShown target s)).get TT_LOAD_CTRL_go = 1 ∧ (showSlots (loadShown target s)).get TT_VAL_STATUS_state = 1 ∧
    (showSlots (loadShown target s)).get TT_STATUS_standby_valid = (if slotFull (loadBegun target s).tt.standby then 1 else 0) ∧
    (showSlots (loadShown target s)).get TT_STATUS_storm_valid = (if slotFull (loadBegun target s).tt.stormSlot then 1 else 0) := by
  have htt : (loadShown target s).tt = (loadBegun target s).tt := loadShown_only.keep (F := State.tt) (fun _ => rfl) rfl
  have hgo : (loadShown target s).get TT_LOAD_CTRL_go = 1 := by
    rw [loadShown, State.get_putFlag_apart rfl, State.get_put_ne _ _ _ _ (by decide), State.get_put_self rfl (by decide)]
  have hstate : (loadShown target s).get TT_VAL_STATUS_state = 1 := by
    rw [loadShown, State.get_putFlag_apart rfl, State.get_put_self rfl (by decide)]
  rw [← htt]
  generalize loadShown target s = u at hgo hstate
  obtain ⟨honly, hregs, hflags⟩ := showSlots_shown (s := u)
  obtain ⟨hstandby, hstorm⟩ := slotFlags_get (s := u)
  exact ⟨honly.keep (F := State.tt) (fun _ => rfl) rfl, (hregs.get (by decide)).trans hgo, (hregs.get (by decide)).trans hstate,
    (hflags.get (by decide)).trans hstandby, (hflags.get (by decide)).trans hstorm⟩

/-- The row of TT_LOAD_CTRL. -/
def loadCtrlRow : RegRow := ⟨0x70010, 0x4, 1, 0x0, 0x0, .plain, 0x2, 0x1, 0x0, 0x0, false, 3⟩

theorem rowAt_loadCtrl : rowAt TT_LOAD_CTRL = some (loadCtrlRow, 0) := by decide +kernel

theorem suspendCheck_armed (r : RegRow) : (suspendCheck r s).commit.armed = s.commit.armed := by
  unfold suspendCheck
  split <;> rfl

/-- The write of TT_LOAD_CTRL, on a state with another window of the configuration check. -/
theorem write_loadCtrl (hw : writable s TT_LOAD_CTRL = true) (src : Nat) (target : Bool) : ∃ u : State, SameRegs [TT_LOAD_CTRL] s u ∧
    Touches [.commit, .regs] s u ∧ u.commit.armed = s.commit.armed ∧
    write src TT_LOAD_CTRL (BitVec.ofNat 32 (1 + 2 * boolNat target)) s = loadStart target u := by
  obtain ⟨c, hc⟩ := suspendCheck_eq loadCtrlRow s
  have harm := suspendCheck_armed (s := s) loadCtrlRow
  have heq : write src TT_LOAD_CTRL (BitVec.ofNat 32 (1 + 2 * boolNat target)) s =
      loadWrite (BitVec.ofNat 32 (1 + 2 * boolNat target)) (suspendCheck loadCtrlRow s) := by
    rw [write_of_writable hw rowAt_loadCtrl]
    rfl
  refine ⟨State.put { s with commit := c } TT_LOAD_CTRL_target (boolNat target), (SameRegs.of_regs rfl).put, .put (.commit (.refl _ s)), ?_, ?_⟩
  · rw [hc] at harm
    exact harm
  · rw [heq, hc]
    cases target <;> rfl

/-- A load whose source was lost. -/
theorem loadDone_lost {b : Bool} (hload : s.tt.load = some b) : loadDone true s = loadEnd b TtResult.srcErr s := by
  simp only [loadDone, hload, Bool.or_true, Bool.true_or, if_true]

/-- No load runs. -/
def loadGone (s : State) : State := { s with tt := { s.tt with load := none } }

theorem loadEnd_fields {b : Bool} {result : Nat} (hr : result < 8) : (loadEnd b result s).tt = { s.tt with load := none } ∧
    (loadEnd b result s).get TT_VAL_STATUS_result = result ∧ (loadEnd b result s).get TT_VAL_STATUS_state = 0 ∧
    (loadEnd b result s).get TT_LOAD_CTRL_go = 0 ∧ SameRegs [TT_LOAD_CTRL, TT_VAL_STATUS, TT_EVT_CAUSE] s (loadEnd b result s) := by
  have honly : RegsAndEvents (loadGone s) (loadEnd b result s) := .cause (.put (.put (.put (.put (.refl _)))))
  refine ⟨honly.keep (F := State.tt) (fun _ _ => rfl) rfl, ?_, ?_, ?_, ?_⟩
  · rw [loadEnd, State.get_cause_ne _ (by decide), State.get_put_apart rfl, State.get_putFlag_apart rfl, State.get_put_self rfl hr]
  · rw [loadEnd, State.get_cause_ne _ (by decide), State.get_put_self rfl (by decide)]
  · rw [loadEnd, State.get_cause_ne _ (by decide), State.get_put_ne _ _ _ _ (by decide), State.get_putFlag_apart rfl,
      State.get_put_ne _ _ _ _ (by decide), State.get_put_self rfl (by decide)]
  · exact (((((SameRegs.of_regs (t := loadGone s) rfl).put).put).putFlag).put).cause

/-! ### STORM and suspended classes -/

/-- The registers that show the suspended classes. -/
abbrev suspendedRegs : List Nat := [TT_SUSPEND_LO, TT_SUSPEND_HI, TT_STATUS]

theorem showSuspended_fields : OnlyRegs s (showSuspended s) ∧ SameRegs suspendedRegs s (showSuspended s) ∧
    (showSuspended s).reg TT_SUSPEND_LO = BitVec.ofNat 32 (s.tt.suspended.foldl natSetBit 0) ∧
    (showSuspended s).get TT_STATUS_live = s.get TT_STATUS_live := by
  unfold showSuspended
  dsimp only
  generalize s.tt.suspended.foldl natSetBit 0 = mask
  refine ⟨.put (.setReg (.setReg (.refl s))), (((SameRegs.refl _ s).setReg).setReg).putFlag, ?_, ?_⟩
  · rw [State.putFlag, State.put, State.reg_setReg_ne _ _ (by decide), State.reg_setReg_ne _ _ (by decide), State.reg_setReg_same]
  · rw [State.get_putFlag_apart rfl, State.get_setReg_ne (by decide), State.get_setReg_ne (by decide)]

/-- The class resumed, without the report of its shortage. -/
def classBack (c : Nat) (rest : List Nat) (s : State) : State :=
  { s with tt := { s.tt with suspended := rest, nextResume := s.ticks + 16, reported := s.tt.reported.erase c } }

theorem classResume_resumes {c k : Nat} {rest : List Nat} (hcalm : stormDemands s = 0) (hsus : s.tt.suspended = c :: rest)
    (hat : s.tt.calmAt = some k) (hdue : s.tt.nextResume ≤ s.ticks) : classResume s = showSuspended (classBack c rest s) := by
  simp only [classResume, classBack, hsus, hat, hcalm, hdue, decide_true, Bool.and_self, if_true]

/-- STORM left: the live image is ACTIVE, and no class is suspended. -/
def stormGone (s : State) : State := { s with tt := { s.tt with stormAt := none } }

/-- It is shown so. -/
def stormShown (s : State) : State := ((stormGone s).put TT_STATUS_live 0).cause Cause.TT_storm_exit

/-- No class is suspended. -/
def suspensionsGone (s : State) : State := { s with tt := { s.tt with suspended := [], reported := [] } }

theorem stormShown_fields : RegsAndEvents (stormGone s) (stormShown s) ∧ SameRegs [TT_STATUS, TT_EVT_CAUSE] s (stormShown s) ∧
    (stormShown s).get TT_STATUS_live = 0 := by
  refine ⟨.cause (.put (.refl _)), ((SameRegs.of_regs (t := stormGone s) rfl).put).cause, ?_⟩
  rw [stormShown, State.get_cause_ne _ (by decide), State.get_put_self rfl (by decide)]

theorem imageSwitched_touches : Touches [.hcs] s (imageSwitched s) := by
  unfold imageSwitched
  exact (Touches.refl _ s).forEach fun _ _ h => Touches.setHc h

/-- The registers that leaving STORM changes. -/
abbrev stormRegs : List Nat := [TT_STATUS, TT_EVT_CAUSE, TT_SUSPEND_LO, TT_SUSPEND_HI]

theorem stormLeave_fields (hin : s.tt.stormAt ≠ none) : (stormLeave s).tt = { s.tt with stormAt := none, suspended := [], reported := [] } ∧
    (stormLeave s).get TT_STATUS_live = 0 ∧ (stormLeave s).commit = s.commit ∧ SameRegs stormRegs s (stormLeave s) := by
  have heq : stormLeave s = imageSwitched (showSuspended (suspensionsGone (stormShown s))) := by
    have hsome : ¬s.tt.stormAt.isNone = true := by
      rw [Option.isNone_iff_eq_none]
      exact hin
    rw [stormLeave, if_neg hsome]
    rfl
  obtain ⟨hstorm, hregs, hlive⟩ := stormShown_fields (s := s)
  have htt : (suspensionsGone (stormShown s)).tt = { s.tt with stormAt := none, suspended := [], reported := [] } := by
    change { (stormShown s).tt with suspended := [], reported := [] } = _
    rw [hstorm.keep (F := State.tt) (fun _ _ => rfl) rfl]
    rfl
  have hcommit : (suspensionsGone (stormShown s)).commit = s.commit := hstorm.keep (F := State.commit) (fun _ _ => rfl) rfl
  have hlive' : (suspensionsGone (stormShown s)).get TT_STATUS_live = 0 := hlive
  have hregs' : SameRegs stormRegs s (suspensionsGone (stormShown s)) := hregs.mono (by decide)
  rw [heq]
  generalize suspensionsGone (stormShown s) = u at htt hcommit hlive' hregs'
  obtain ⟨honly, hsus, -, hkept⟩ := showSuspended_fields (s := u)
  have ht := imageSwitched_touches (s := showSuspended u)
  refine ⟨?_, ?_, ?_, ?_⟩
  · rw [ht.keeps_tt, honly.keep (F := State.tt) (fun _ => rfl) rfl, htt]
  · exact (State.get_of_regs ht.keeps_regs _).trans (hkept.trans hlive')
  · rw [ht.keeps_commit, honly.keep (F := State.commit) (fun _ => rfl) rfl, hcommit]
  · exact (hregs'.trans (hsus.mono (by decide))).trans (.of_regs ht.keeps_regs)

/-- The registers that the demands for STORM are read from. -/
theorem stormDemands_congr {t : State} {l : List Nat} (h : SameRegs l s t)
    (hl : ∀ a ∈ [HC_ARB_PAUSE, PWR_SUPPLY, TT_HC_SHORT 0, TT_HC_SHORT 1, TT_HC_SHORT 2, TT_HC_SHORT 3, TT_CTRL], a ∉ l) :
    stormDemands t = stormDemands s := by
  have hshort : ((List.range 4).any fun i => t.reg (TT_HC_SHORT i) != 0) = (List.range 4).any fun i => s.reg (TT_HC_SHORT i) != 0 := by
    simp only [List.range_succ, List.range_zero, List.nil_append, List.any_append, List.any_cons, List.any_nil]
    rw [h _ (hl (TT_HC_SHORT 0) (by decide)), h _ (hl (TT_HC_SHORT 1) (by decide)), h _ (hl (TT_HC_SHORT 2) (by decide)),
      h _ (hl (TT_HC_SHORT 3) (by decide))]
  rw [stormDemands, h.get (f := HC_ARB_PAUSE_thermal) (hl HC_ARB_PAUSE (by decide)), h.get (f := PWR_SUPPLY_step) (hl PWR_SUPPLY (by decide)), hshort,
    State.flag, h.get (f := TT_CTRL_force_storm) (hl TT_CTRL (by decide)), stormDemands, State.flag]

/-- With no demand the boundary begins the calm, and no more. -/
theorem stormBoundary_calm (h : stormDemands s = 0) : ∃ x, stormBoundary s = { s with tt := x } ∧ x.stormAt = s.tt.stormAt ∧
    x.active = s.tt.active ∧ x.suspended = s.tt.suspended := by
  rw [stormBoundary, if_pos h]
  split
  · exact ⟨_, rfl, rfl, rfl, rfl⟩
  · exact ⟨s.tt, rfl, rfl, rfl, rfl⟩

theorem replaceEval_kept : Touches [.regs, .events, .test] s (replaceEval s) ∧ SameRegs [TST_STATUS, TST_EVT_CAUSE] s (replaceEval s) := by
  have hseen (u : State) (c : Nat × Bool) : Touches [.test] u (if c.2 then replaceSeen c.1 u else u) := .ite (.modTest (.refl _ u)) (.refl _ u)
  have h : Touches [.test] s (forEach (replaceCauses s) (fun c s => if c.2 then replaceSeen c.1 s else s) s) :=
    (Touches.refl _ s).forEach fun c u hu => hu.trans (hseen u c)
  unfold replaceEval
  dsimp only
  generalize forEach (replaceCauses s) (fun c s => if c.2 then replaceSeen c.1 s else s) s = u at h
  have h' : Touches [.regs, .events, .test] s u := h.mono (by decide)
  exact ⟨.ite (.cause (.put h')) h', .ite (((SameRegs.of_regs h.keeps_regs).put).cause) (.of_regs h.keeps_regs)⟩

theorem commitWithdraw_hw (cause first : Nat) : (commitWithdraw cause first s).commit.hw = s.commit.hw := by
  unfold commitWithdraw
  split
  · rw [(commitAbort_regsAndEvents cause first (disarm s)).keep (F := fun t => t.commit.hw) (fun _ _ => rfl) rfl]
    rfl
  · rfl

/-- The registers of the commit controller that a withdrawn arm changes. -/
abbrev withdrawRegs : List Nat := [GLB_COMMIT_CTRL, GLB_COMMIT_STATUS, GLB_COMMIT_ABORTS]

theorem commitWithdraw_regs (cause first : Nat) : SameRegs withdrawRegs s (commitWithdraw cause first s) := by
  unfold commitWithdraw
  split
  · exact ((disarm_sameRegs s).mono (by decide)).trans ((commitAbort_sameRegs _ _ _).mono (by decide))
  · exact .refl _ s

/-- Nothing is due for the hardware commit. -/
def nothingDue (s : State) : State := { s with commit := { s.commit with hwDue := [] } }

/-- The hardware commit preempts an arm whose target is here. -/
def preempted (s : State) : State :=
  if s.commit.armed.any (fun n => s.ahead n == 0) then commitWithdraw CommitCause.preempted 15 (nothingDue s) else nothingDue s

theorem preempted_fields : SameRegs withdrawRegs s (preempted s) ∧ (preempted s).tt = s.tt ∧ (preempted s).ticks = s.ticks ∧
    (preempted s).commit.hw = s.commit.hw := by
  unfold preempted
  split
  · have htt (u : State) : (commitWithdraw CommitCause.preempted 15 u).tt = u.tt := (commitWithdraw_touches _ _ u).keeps_tt
    have hticks (u : State) : (commitWithdraw CommitCause.preempted 15 u).ticks = u.ticks := (commitWithdraw_touches _ _ u).keeps_ticks
    exact ⟨(SameRegs.of_regs (t := nothingDue s) rfl).trans (commitWithdraw_regs _ _), htt _, hticks _, commitWithdraw_hw _ _⟩
  · exact ⟨.of_regs rfl, rfl, rfl, rfl⟩

/-- The end of a hardware commit that leaves STORM. -/
theorem hardwareCommit_stormExit (hdue : s.commit.hwDue = [.stormExit]) : hardwareCommit s =
    replaceEval (showMode (if (stormBoundary (stormExitNow (preempted s))).commit.hw.contains .stormEnter then
      stormEnter { stormBoundary (stormExitNow (preempted s)) with commit := { (stormBoundary (stormExitNow (preempted s))).commit with
        hw := (stormBoundary (stormExitNow (preempted s))).commit.hw.filter fun c => c != .stormEnter } }
      else stormBoundary (stormExitNow (preempted s)))) := by
  simp only [hardwareCommit, hdue]
  rfl

/-- At the boundary of its exit the live image is ACTIVE again. -/
theorem hardwareCommit_leaves {k : Nat} (hcalm : stormDemands s = 0) (hat : s.tt.stormAt = some k) (hlong : k + 3072 ≤ s.ticks)
    (hdue : s.commit.hwDue = [.stormExit]) (hno : HwChange.stormEnter ∉ s.commit.hw) : (hardwareCommit s).tt.stormAt = none ∧
      liveSlot (hardwareCommit s) = s.tt.active ∧ (hardwareCommit s).get TT_STATUS_live = 0 ∧ (hardwareCommit s).tt.suspended = [] := by
  obtain ⟨hregs, htt, hticks, hhw⟩ := preempted_fields (s := s)
  have hexit : stormExitNow (preempted s) = stormLeave (preempted s) := by
    have hmay : stormMayLeave (preempted s).ticks (preempted s) = true := by
      rw [stormMayLeave, stormDemands_congr hregs (by decide), hcalm, htt, hat, hticks]
      simpa using hlong
    rw [stormExitNow, if_pos hmay]
  have hdem : stormDemands (preempted s) = 0 := (stormDemands_congr hregs (by decide)).trans hcalm
  have heq := hardwareCommit_stormExit hdue
  rw [hexit] at heq
  obtain ⟨hltt, hlive, hcommit, hlregs⟩ := stormLeave_fields (s := preempted s) (by rw [htt, hat]; simp)
  have hdem' : stormDemands (stormLeave (preempted s)) = 0 := (stormDemands_congr hlregs (by decide)).trans hdem
  generalize stormLeave (preempted s) = u at hltt hlive hcommit hdem' heq
  obtain ⟨x, hbound, hstorm, hactive, hsus⟩ := stormBoundary_calm hdem'
  rw [hbound] at heq
  have hnot : ¬({ u with tt := x } : State).commit.hw.contains .stormEnter = true := by
    change ¬u.commit.hw.contains .stormEnter = true
    rw [hcommit, hhw, List.contains_iff_mem]
    exact hno
  rw [if_neg hnot] at heq
  have hlive' : ({ u with tt := x } : State).get TT_STATUS_live = 0 := hlive
  have hx : ({ u with tt := x } : State).tt = x := rfl
  generalize ({ u with tt := x } : State) = w at heq hlive' hx
  obtain ⟨ht, hkept⟩ := replaceEval_kept (s := showMode w)
  have htt' : (hardwareCommit s).tt = x := by
    rw [heq, ht.keeps_tt, showMode_only.keep (F := State.tt) (fun _ => rfl) rfl, hx]
  rw [hltt] at hstorm hactive hsus
  have hnone : (hardwareCommit s).tt.stormAt = none := by rw [htt', hstorm]
  refine ⟨hnone, ?_, ?_, by rw [htt', hsus]⟩
  · have hback : x.active = s.tt.active := hactive.trans (by rw [htt])
    rw [liveSlot, hnone, if_neg (by decide), htt', hback]
  · rw [heq]
    exact (hkept.get (by decide)).trans ((showMode_regs.get (by decide)).trans hlive')

/-- Leaving STORM is decided for the boundary's hardware commit. -/
theorem stormExit_decided {k : Nat} (hcalm : stormDemands s = 0) (hat : s.tt.stormAt = some k) (hlong : k + 3072 ≤ s.ticks + 1)
    (hno : HwChange.stormExit ∉ s.commit.hw) : stormExit s = { s with commit := { s.commit with hw := s.commit.hw ++ [.stormExit] } } := by
  have hmay : stormMayLeave (s.ticks + 1) s = true := by
    rw [stormMayLeave, hcalm, hat]
    simpa using hlong
  have hnot : s.commit.hw.contains .stormExit = false := Bool.eq_false_iff.2 fun h => hno (List.contains_iff_mem.1 h)
  rw [stormExit, hmay, hnot]
  rfl

/-! ### The demand of the host -/

theorem stageWord_tt (a : Nat) (v : Word) : (stageWord a v s).tt = s.tt := by
  unfold stageWord
  exact (commitWithdraw_touches _ _ _).keeps_tt

/-- The row of TT_CTRL. -/
def ttCtrlRow : RegRow := ⟨0x70000, 0x4, 1, 0x0, 0x0, .plain, 0x4, 0x0, 0x0, 0x1, false, 3⟩

theorem rowAt_ttCtrl : rowAt TT_CTRL = some (ttCtrlRow, 0) := by decide +kernel

theorem write_ttCtrl (hw : writable s TT_CTRL = true) (src : Nat) (v : Word) : ∃ u : State, u.tt = s.tt ∧
    write src TT_CTRL v s = plainWrite ttCtrlRow TT_CTRL v u := by
  obtain ⟨c, hc⟩ := suspendCheck_eq ttCtrlRow s
  have hstale (u : State) : staleRewritten TT_CTRL u = u := by
    rcases staleRewritten_cases TT_CTRL u with h | ⟨-, h⟩
    · exact h
    · have hout : ¬(TT_CTRL - SVC_RGN_PLACE 0) / 0x20 < 16 := by decide
      unfold staleRewritten
      dsimp only
      rw [decide_eq_false hout, Bool.and_false, Bool.false_and, Bool.false_and, if_neg Bool.false_ne_true]
  have hmem : ttCtrlRow ∈ storingRows := mem_storingRows rowAt_ttCtrl rfl (by decide) (by decide +kernel) (.inr (by decide))
  have htt (u : State) : (stageWord TT_CTRL v u).tt = u.tt := stageWord_tt _ _
  refine ⟨stageWord TT_CTRL v { s with commit := c }, htt _, ?_⟩
  rw [write_of_writable hw rowAt_ttCtrl]
  have hrow : writeRow ttCtrlRow 0 src TT_CTRL v s = liveWrite ttCtrlRow 0 TT_CTRL v (rangedStage TT_CTRL v (suspendCheck ttCtrlRow s)) := by
    have hstaged : ttCtrlRow.staged ≠ 0 := by decide
    have hrw : ttCtrlRow.rw ≠ 0 ∨ ttCtrlRow.w1s ≠ 0 := .inl (by decide)
    have hkind : ttCtrlRow.kind = .plain := rfl
    simp only [writeRow, hkind, if_pos hstaged, if_pos hrw]
  rw [hrow, liveWrite_stores rowAt_ttCtrl hmem (.inr (by decide)), hc, rangedStage, if_neg (by decide), if_neg (by decide), hstale]

theorem plainWrite_forceStorm (v : Word) (u : State) : (plainWrite ttCtrlRow TT_CTRL v u).get TT_CTRL_force_storm = v.bits 2 2 ∧
    (plainWrite ttCtrlRow TT_CTRL v u).tt = u.tt := by
  refine ⟨?_, rfl⟩
  have hword : (plainWrite ttCtrlRow TT_CTRL v u).reg TT_CTRL = plainWord ttCtrlRow (u.reg TT_CTRL) v := State.reg_setReg_same _ _ _
  have hbit : (plainWord ttCtrlRow (u.reg TT_CTRL) v).getLsbD 2 = v.getLsbD 2 := getLsbD_plainWord (r := ttCtrlRow) (u.reg TT_CTRL) v rfl 2
  rw [getLsbD_eq_bits, getLsbD_eq_bits] at hbit
  have hlt (w : Word) : w.bits 2 2 < 2 := Nat.mod_lt _ (by decide)
  have h1 := hlt (plainWord ttCtrlRow (u.reg TT_CTRL) v)
  have h2 := hlt v
  change ((plainWrite ttCtrlRow TT_CTRL v u).reg TT_CTRL).bits 2 2 = v.bits 2 2
  rw [hword]
  simp only [beq_eq_beq] at hbit
  omega

/-! ### The map check -/

/-- What HC_MAP_CTRL shows when a check ends. -/
def mapShown (target : Bool) (s : State) : State := (s.putFlag HC_MAP_CTRL_target target).put HC_MAP_CTRL_go 0

/-- The first selector that no address bit feeds, or more than eight. -/
def badSelector (s : State) : Option Nat := (List.range 12).find? fun k => popCount 26 (s.get (HC_MAP_EDIT_mask k)) == 0 ||
  decide (8 < popCount 26 (s.get (HC_MAP_EDIT_mask k)))

/-- The masks of the selectors under edit. -/
def editMasks (s : State) : List Nat := (List.range 12).map fun k => s.get (HC_MAP_EDIT_mask k)

theorem editMasks_getD {k : Nat} (hk : k < 12) : (editMasks s).getD k 0 = s.get (HC_MAP_EDIT_mask k) := by
  rw [editMasks, List.getD_eq_getElem?_getD, List.getElem?_map, List.getElem?_range hk]
  rfl

/-- The selector registers of a map. -/
def selectorReg (target : Bool) (k : Nat) : Nat := if target then HC_MAP1_SEL k else HC_MAP0_SEL k

/-- The masks staged for the selectors of a map. -/
def selectorsStaged (target : Bool) (masks : List Nat) (s : State) : State :=
  forEach (List.range 12) (fun k s => stageWord (selectorReg target k) (BitVec.ofNat 32 (masks.getD k 0)) s) s

theorem badSelector_eq : ((List.range 12).find? fun k => let n := popCount 26 ((editMasks s).getD k 0); n == 0 || decide (8 < n)) = badSelector s :=
  List.find?_congr fun k hk => by
    dsimp only
    rw [editMasks_getD (List.mem_range.1 hk)]

theorem mapCheck_refused {target : Bool} {k : Nat} (hbad : badSelector s = some k) :
    mapCheck target s = ((mapShown target s).put HC_MAP_STATUS_result 2).put HC_MAP_STATUS_sel k := by
  rw [← badSelector_eq] at hbad
  unfold editMasks at hbad
  simp only [mapCheck, hbad]
  rfl

theorem mapCheck_passes {target : Bool} (hbad : badSelector s = none) (hfull : nonsingular (editMasks s) = true) :
    mapCheck target s = (selectorsStaged target (editMasks s) (mapShown target s)).put HC_MAP_STATUS_result 1 := by
  rw [← badSelector_eq] at hbad
  unfold editMasks at hbad hfull
  simp only [mapCheck, hbad, hfull]
  rfl

theorem mapShown_fields {target : Bool} : SameRegs [HC_MAP_CTRL] s (mapShown target s) ∧ (mapShown target s).get HC_MAP_CTRL_go = 0 ∧
    (mapShown target s).staged = s.staged :=
  ⟨((SameRegs.refl _ s).putFlag).put, State.get_put_self rfl (by decide), rfl⟩

theorem highActing_mapCtrl : highActing HC_MAP_CTRL HC_MAP_CTRL 0 = true := by decide +kernel

theorem writeHigh_mapCtrl {r : RegRow} (hr : r.base = HC_MAP_CTRL) (v : Word) : writeHigh r 0 HC_MAP_CTRL v s = mapWrite v s := by
  rw [writeHigh, hr]
  iterate 3 rw [if_neg (by decide)]
  exact if_pos rfl

/-- The write that checks a map. -/
theorem write_mapCtrl (hw : writable s HC_MAP_CTRL = true) (src : Nat) (target : Bool) : ∃ u, Touches [.commit] s u ∧
    write src HC_MAP_CTRL (BitVec.ofNat 32 (1 + 2 * boolNat target)) s = mapCheck target u := by
  obtain ⟨r, u, hbase, hu, heq⟩ := write_high_state highActing_mapCtrl hw src (BitVec.ofNat 32 (1 + 2 * boolNat target))
  refine ⟨u, hu, heq.trans ((writeHigh_mapCtrl hbase _).trans ?_)⟩
  cases target <;> rfl

theorem nextWord_congr {t : State} {a : Nat} (hstaged : t.staged.find a = s.staged.find a) (hreg : t.reg a = s.reg a) : nextWord t a = nextWord s a := by
  rw [nextWord, hstaged, hreg, nextWord]

/-- The word that would be live with v staged over it. -/
def stagedOver (s : State) (a : Nat) (v : Word) : Word :=
  (nextWord s a &&& ~~~(BitVec.ofNat 32 (stagedMask a))) ||| (v &&& BitVec.ofNat 32 (stagedMask a))

theorem nextWord_stageWord_same {a : Nat} (ha : a ∉ bookkeepingRegs) (v : Word) : nextWord (stageWord a v s) a = stagedOver s a v := by
  refine BitVec.eq_of_getLsbD_eq fun k hk => ?_
  have hmask : (BitVec.ofNat 32 (stagedMask a)).getLsbD k = natBit (stagedMask a) k := getLsbD_ofNat_eq_natBit _ ⟨k, hk⟩
  simp only [stagedOver, BitVec.getLsbD_or, BitVec.getLsbD_and, BitVec.getLsbD_not, hmask, hk, decide_true, Bool.true_and]
  cases hbit : natBit (stagedMask a) k with
  | true => simpa using getLsbD_nextWord_stageWord (k := ⟨k, hk⟩) ha v s hbit
  | false =>
    have h1 := getLsbD_nextWord_unstaged (stageWord a v s) a (k := ⟨k, hk⟩) hbit
    have h2 := getLsbD_nextWord_unstaged s a (k := ⟨k, hk⟩) hbit
    rw [(stageWord_onlyTouches a v s).regs a ha] at h1
    simpa using h1.trans h2.symm

theorem nextWord_stageWord_ne {a b : Nat} (hb : b ∉ withdrawRegs) (hne : b ≠ a) (v : Word) : nextWord (stageWord a v s) b = nextWord s b :=
  nextWord_congr (stageWord_find_ne hne v s) (stageWord_sameRegs a v s b hb)

theorem selectorReg_inj {target : Bool} {j k : Nat} (h : j ≠ k) : selectorReg target j ≠ selectorReg target k := by
  unfold selectorReg
  cases target <;> simp only [HC_MAP0_SEL, HC_MAP1_SEL, if_true, Bool.false_eq_true, if_false] <;> omega

theorem selectorReg_range (target : Bool) {k : Nat} (hk : k < 12) : 0x90080 ≤ selectorReg target k ∧ selectorReg target k < 0x90100 := by
  unfold selectorReg
  cases target <;> simp only [HC_MAP0_SEL, HC_MAP1_SEL, if_true, Bool.false_eq_true, if_false] <;> omega

theorem selectorReg_apart {target : Bool} {k : Nat} (hk : k < 12) {l : List Nat} (hl : ∀ a ∈ l, a < 0x90080 ∨ 0x90100 ≤ a) : selectorReg target k ∉ l :=
  fun h => by
    have hrange := selectorReg_range target hk
    have hout := hl _ h
    omega

/-- After the words of several selectors are staged, each selector's next word is the one staged for it. -/
theorem nextWord_selectors {target : Bool} {w : Nat → Word} {k : Nat} (hk12 : k < 12) (xs : List Nat) (hnodup : xs.Nodup) :
    nextWord (forEach xs (fun k s => stageWord (selectorReg target k) (w k) s) s) (selectorReg target k) =
      if k ∈ xs then stagedOver s (selectorReg target k) (w k) else nextWord s (selectorReg target k) := by
  induction xs generalizing s with
  | nil => rfl
  | cons x xs ih =>
    obtain ⟨hx, hxs⟩ := List.nodup_cons.1 hnodup
    change nextWord (forEach xs (fun k s => stageWord (selectorReg target k) (w k) s) (stageWord (selectorReg target x) (w x) s))
      (selectorReg target k) = _
    rw [ih hxs]
    by_cases hk : k = x
    · subst hk
      rw [if_neg hx, if_pos (.head _), nextWord_stageWord_same (selectorReg_apart hk12 (by decide))]
    · have hnext := nextWord_stageWord_ne (s := s) (selectorReg_apart (target := target) hk12 (l := withdrawRegs) (by decide))
        (selectorReg_inj (target := target) hk) (w x)
      have hmem : (k ∈ x :: xs) = (k ∈ xs) := by simp [hk]
      simp only [hmem, stagedOver, hnext]

end

/-- Settles O23: the write of each register gives the command its step, and the step's registers and slots are named. -/
theorem timetableCommandsActAsStated : Obligations.TimetableCommandsActAsStated := by
  unfold Obligations.TimetableCommandsActAsStated
  intro s src
  refine ⟨fun hw => ⟨fun hfree hswap => ?_, fun hfree hstorm => ?_, fun b hrun => ?_⟩, fun b hup hload => ?_,
    fun k hup hcalm hat => ⟨fun hlong hno => ?_, fun hlong hdue hno => ?_⟩, fun c rest k hup hcalm hsus hat hdue => ?_, fun v hw => ?_,
    fun b k hw hbad => ?_, fun b hw hbad hfull => ?_, fun hw => ?_, fun hw => ?_⟩
  · obtain ⟨u, hregs, hu, harm, heq⟩ := write_loadCtrl hw src.val false
    have htt := hu.keeps_tt
    have hswap' : swapArmed u = false := by
      rw [swapArmed, harm, nextWord_congr (s := s) (by rw [hu.keeps_staged]) (hregs TT_CTRL (by decide))]
      exact hswap
    rw [loadStart_begins (by rw [htt]; exact hfree) (fun _ => hswap') (fun h => absurd h (by decide))] at heq
    obtain ⟨htt', hgo, hstate, hstandby, -⟩ := loadShown_fields (s := u) (target := false)
    refine ⟨_, congrArg Host.Outcome.next heq, ?_, ?_, ?_, hgo, hstate, hstandby⟩
    · rw [htt']; rfl
    · rw [htt']; rfl
    · rw [htt']
      exact (loadBegun_kept false u).1.trans (congrArg TtSt.active htt)
  · obtain ⟨u, hregs, hu, harm, heq⟩ := write_loadCtrl hw src.val true
    have htt := hu.keeps_tt
    rw [loadStart_begins (by rw [htt]; exact hfree) (fun h => absurd h (by decide)) (fun _ => by rw [htt]; exact hstorm)] at heq
    obtain ⟨htt', -, -, -, hvalid⟩ := loadShown_fields (s := u) (target := true)
    refine ⟨_, congrArg Host.Outcome.next heq, ?_, ?_, ?_, hvalid⟩
    · rw [htt']; rfl
    · rw [htt']; rfl
    · rw [htt']
      exact (loadBegun_kept true u).2 rfl |>.trans (congrArg TtSt.standby htt)
  · obtain ⟨u, hregs, hu, -, heq⟩ := write_loadCtrl hw src.val b
    rw [loadStart_busy (by rw [hu.keeps_tt]; exact hrun)] at heq
    exact ⟨u, congrArg Host.Outcome.next heq, hu.keeps_tt, hregs⟩
  · exact ⟨_, congrArg Host.Outcome.next ((whenUp_of_up hup _).trans (loadDone_lost hload)), loadEnd_fields (by decide)⟩
  · exact congrArg Host.Outcome.next ((whenUp_of_up hup _).trans (stormExit_decided hcalm hat hlong hno))
  · exact ⟨_, congrArg Host.Outcome.next (whenUp_of_up hup _), hardwareCommit_leaves hcalm hat hlong hdue hno⟩
  · obtain ⟨honly, hregs, hlow, -⟩ := showSuspended_fields (s := classBack c rest s)
    have htt : (showSuspended (classBack c rest s)).tt = (classBack c rest s).tt := honly.keep (F := State.tt) (fun _ => rfl) rfl
    refine ⟨_, congrArg Host.Outcome.next ((whenUp_of_up hup _).trans (classResume_resumes hcalm hsus hat hdue)), ?_, ?_, hlow, ?_⟩
    · rw [htt]; rfl
    · rw [htt]; rfl
    · exact (SameRegs.of_regs (t := classBack c rest s) rfl).trans hregs
  · obtain ⟨u, htt, heq⟩ := write_ttCtrl hw src.val v
    obtain ⟨hbit, hkept⟩ := plainWrite_forceStorm v u
    exact ⟨_, congrArg Host.Outcome.next heq, hbit, hkept.trans htt⟩
  · obtain ⟨u, hu, heq⟩ := write_mapCtrl hw src.val b
    have hsame : SameRegs [] s u := .of_regs hu.keeps_regs
    have hbad' : badSelector u = some k := by
      rw [badSelector]
      simp only [State.get_of_regs hu.keeps_regs]
      exact hbad
    rw [mapCheck_refused hbad'] at heq
    obtain ⟨hctrl, hgo, -⟩ := mapShown_fields (s := u) (target := b)
    refine ⟨_, congrArg Host.Outcome.next heq, ?_, State.get_put_mod rfl, ?_, ?_⟩
    · rw [State.get_put_apart rfl, State.get_put_self rfl (by decide)]
    · rw [State.get_put_ne _ _ _ _ (by decide), State.get_put_ne _ _ _ _ (by decide), hgo]
    · exact ((((SameRegs.of_regs hu.keeps_regs).trans hctrl).mono (by decide)).put).put
  · obtain ⟨u, hu, heq⟩ := write_mapCtrl hw src.val b
    have hmasks : editMasks u = editMasks s := by simp only [editMasks, State.get_of_regs hu.keeps_regs]
    have hbad' : badSelector u = none := by
      rw [badSelector]
      simp only [State.get_of_regs hu.keeps_regs]
      exact hbad
    rw [mapCheck_passes hbad' (by rw [hmasks]; exact hfull), hmasks] at heq
    obtain ⟨hctrl, -, hstaged⟩ := mapShown_fields (s := u) (target := b)
    refine ⟨_, congrArg Host.Outcome.next heq, State.get_put_self rfl (by decide), fun k => ?_⟩
    have hk : k.val < 12 := k.isLt
    have hstart : nextWord (mapShown b u) (selectorReg b k) = nextWord s (selectorReg b k) :=
      nextWord_congr (by rw [hstaged, hu.keeps_staged])
        ((hctrl _ (selectorReg_apart hk (by decide))).trans (State.reg_of_regs hu.keeps_regs _))
    have hword := nextWord_selectors (s := mapShown b u) (target := b) (w := fun k => BitVec.ofNat 32 ((editMasks s).getD k 0)) hk (List.range 12)
      (List.nodup_range)
    rw [if_pos (List.mem_range.2 hk), stagedOver, hstart] at hword
    change nextWord ((selectorsStaged b (editMasks s) (mapShown b u)).put HC_MAP_STATUS_result 1) (selectorReg b k) = _
    have hout : selectorReg b k ∉ [HC_MAP_STATUS] := selectorReg_apart hk (by decide)
    have hshown (w : State) : nextWord (w.put HC_MAP_STATUS_result 1) (selectorReg b k) = nextWord w (selectorReg b k) :=
      nextWord_congr rfl ((SameRegs.refl [HC_MAP_STATUS] w).put (by exact .head _) _ hout)
    rw [hshown]
    exact hword.trans (by rw [editMasks_getD hk]; rfl)
  · exact ⟨_, congrArg Host.Outcome.next (write_clearing (by decide +kernel) hw src.val), rfl, (SameRegs.setReg (.refl _ s)).clears⟩
  · exact ⟨_, congrArg Host.Outcome.next (write_clearing (by decide +kernel) hw src.val), rfl, (SameRegs.setReg (.refl _ s)).clears⟩

end Sys2Proof.Machine
end

section
/-!
PROOF. The switch of a commit: what it changes beside the words that were staged; refusals and the hardware commit of a throttle level.
-/
set_option autoImplicit false
set_option Elab.async false

namespace Sys2Proof.Machine
open Reg Bit

/-- The parts that a switch changes beside the live words. -/
abbrev switchParts : List Part := [.regs, .events, .svc, .landing, .hcs, .dram, .tt, .fab, .links]

/-- The registers that a switch changes beside the staged ones: those of services, timetables, memory, landing and the node. -/
abbrev switchReg (a : Nat) : Prop := 0x60000 ≤ a ∧ a < 0xD0000

/-- Confined to what a switch changes. -/
abbrev Switches (s t : State) : Prop := Confined switchParts switchReg s t

theorem switchReg_of {a : Nat} (h : 0x60000 ≤ a ∧ a < 0xD0000 := by decide) : switchReg a := h

theorem switchReg_rgn {g : Nat} (hg : g < 16) : switchReg (SVC_RGN_STATUS g) := by
  simp only [switchReg, SVC_RGN_STATUS]
  omega

namespace Confined
variable {s t u : State} {g : Nat}

theorem of_same {l l' : List Part} {P : Nat → Prop} {r : List Nat} (h : Confined l P s t) (ht : Touches l' t u) (hl : l' ⊆ l) (hr : SameRegs r t u)
    (hP : ∀ a ∈ r, P a) : Confined l P s u :=
  h.trans ⟨ht.mono hl, fun a ha => hr a fun hmem => ha (hP a hmem)⟩

theorem of_touches {l l' : List Part} {P : Nat → Prop} (h : Confined l P s t) (ht : Touches l' t u) (hl : l' ⊆ l := by decide)
    (hregs : .regs ∉ l' := by decide) : Confined l P s u :=
  h.trans ⟨ht.mono hl, fun _ _ => State.reg_of_regs (ht.keeps_regs hregs) _⟩

theorem svc (h : Switches s t) (x : SvcSt) : Switches s { t with svc := x } := h.of_touches (l' := [.svc]) rfl
theorem landing (h : Switches s t) (x : LdgSt) : Switches s { t with landing := x } := h.of_touches (l' := [.landing]) rfl
theorem tt (h : Switches s t) (x : TtSt) : Switches s { t with tt := x } := h.of_touches (l' := [.tt]) rfl
theorem modHc (h : Switches s t) {k : Nat} {f : HcSt → HcSt} : Switches s (t.modHc k f) := h.of_touches (l' := [.hcs]) (Touches.modHc (.refl _ t))

theorem judgeRegion (h : Switches s t) (hg : g < 16) : Switches s (judgeRegion g t) := by
  have hput := (h.put (f := SVC_RGN_STATUS_cause g) (v := (if t.flag (SVC_RGN_ATTR_enable g) then rgnFault t g else (0, 0)).1) (switchReg_rgn hg)).put
    (f := SVC_RGN_STATUS_other g) (v := (if t.flag (SVC_RGN_ATTR_enable g) then rgnFault t g else (0, 0)).2) (switchReg_rgn hg)
  exact .ite hput (hput.cause switchReg_of)

theorem noAlloc (h : Switches s t) {all : Bool} : Switches s (noAlloc all g t) := h.landing _

theorem discardLines (h : Switches s t) (l : List (Nat × Line)) : Switches s (discardLines l t) := by
  have hdrop : Switches s (dropEach l t) := h.of_touches (dropEach_touches l)
  exact .ite hdrop ((hdrop.addSat switchReg_of).cause switchReg_of)

theorem regionEpoch (h : Switches s t) : Switches s (regionEpoch g t) := ((h.svc _).noAlloc).discardLines _

theorem writeBack (h : Switches s t) {n : Nat} : Switches s (writeBack n t) :=
  h.of_same (Touches.writeBack (.refl _ t)) (by decide) writeBack_wroteBack.regs (by decide)

theorem evict (h : Switches s t) {n : Nat} : Switches s (evict n t) := by
  unfold Machine.evict
  split
  · exact h
  · exact (Confined.ite (Confined.ite h.writeBack h) (Confined.ite h.writeBack h).modHc).landing _

theorem policyFlush (h : Switches s t) : Switches s (policyFlush g t) := by
  have hflush : Switches s (flushStart (linesOf t false g) t).2 :=
    h.of_same (Touches.flushStart (.refl _ t)) (by decide) (flushStart_wroteBack _).regs (by decide)
  have hgone (l : List (Nat × Line)) {u : State} (hu : Switches s u) : Switches s (invalidateLines l u) := hu.forEach fun _ _ _ ih => ih.evict
  exact .ite (hgone _ hflush) (hflush.landing _)

theorem showFill (h : Switches s t) : Switches s (showFill t) := by
  unfold Machine.showFill
  split
  · exact (h.put switchReg_of).put switchReg_of
  · exact ((h.put switchReg_of).putFlag switchReg_of).putFlag switchReg_of

theorem queueFill (h : Switches s t) (hg : g < 16) : Switches s (queueFill g t) := ((h.svc _).put (switchReg_rgn hg)).showFill

theorem relink (h : Switches s t) : Switches s (relink g t) := by
  have hjob (j : Nat) (f : Job → Job) {u : State} (hu : Switches s u) : Switches s (u.modJob j f) := by
    unfold State.modJob
    split
    · exact hu.svc _
    · exact hu
  exact ((h.forEach fun _ _ _ ih => hjob _ _ ih).svc _).svc _

theorem rebuildStart (h : Switches s t) (hg : g < 16) : Switches s (rebuildStart g t) := ((h.relink).svc _).put (switchReg_rgn hg)

theorem regionSwitched (h : Switches s t) {c : RegionChange} (hg : c.region < 16) {m : Nat → Bool} : Switches s (regionSwitched c m t) := by
  unfold Machine.regionSwitched
  extract_lets g s1 s2 s3 s4 clear s5
  have h1 : Switches s s1 := .ite (h.judgeRegion hg) h
  have h2 : Switches s s2 := .ite (h1.putFlag (switchReg_rgn hg)) h1
  have h3 : Switches s s3 := .ite h2.regionEpoch h2
  have h4 : Switches s s4 := .ite h3.policyFlush h3
  have h5 : Switches s s5 := .ite (h4.queueFill hg) h4
  exact .ite (h5.rebuildStart hg) h5

theorem relocate (h : Switches s t) : Switches s (relocate t) := (h.forEach fun _ _ _ ih => ih.modHc).forEach fun _ _ _ ih => ih.modHc

theorem nodeFollows (h : Switches s t) : Switches s (nodeFollows t) := by
  have hsrc := h.put (f := FAB_NODE_src) (v := t.get FAB_NODE_CFG_mode) switchReg_of
  exact .ite hsrc ((hsrc.put switchReg_of).forEach fun _ _ _ ih => ih.modFab)

theorem policyChanged (h : Switches s t) : Switches s (policyChanged t) := h.forEach fun _ _ _ ih => ih.modHc

theorem showSuspended (h : Switches s t) : Switches s (showSuspended t) :=
  h.of_same (l' := [.regs]) (.put (.setReg (.setReg (.refl _ t)))) (by decide) showSuspended_fields.2.1 (by decide)

theorem judgeStorm (h : Switches s t) : Switches s (judgeStorm t) := by
  have hresult (c : Bool) (r : Nat) {u : State} (hu : Switches s u) : Switches s (if c then u.put TT_VAL_STATUS_result r else u) :=
    .ite (hu.put switchReg_of) hu
  have hmatched (v : Nat) : Switches s (t.put TT_STATUS_storm_matched v) := h.put switchReg_of
  exact .ite (hmatched 0) (.ite (hresult _ _ (hmatched 1)) ((hresult _ _ (hmatched 0)).cause switchReg_of))

theorem showSlots (h : Switches s t) : Switches s (showSlots t) := by
  obtain ⟨honly, hregs, -⟩ := showSlots_shown (s := t)
  obtain ⟨m, hm⟩ := honly
  have ht : Touches [.regs] t (Machine.showSlots t) := by rw [hm]; rfl
  exact h.of_same ht (by decide) hregs (by decide)

theorem imageSwap (h : Switches s t) : Switches s (imageSwap t) :=
  ((((h.tt _).showSlots).judgeStorm).tt _ |>.showSuspended).of_touches imageSwitched_touches

end Confined

section
variable {s : State} {n : Nat}

/-! ### The switch -/

/-- Every staged word live, and no shadow. -/
def wordsLive (s : State) : State :=
  (forEach (s.staged.map fun p => (p.1, nextWord s p.1)) (fun p s => s.setReg p.1 p.2) { s with staged := [] }).put TT_CTRL_swap 0

theorem wordsLive_touches : Touches [.regs, .staged] s (wordsLive s) := by
  have hempty : Touches [.regs, .staged] s { s with staged := [] } := rfl
  exact (hempty.forEach fun _ _ h => h.setReg).put

theorem wordsLive_staged : (wordsLive s).staged = [] := by
  have hempty : Touches [.regs] ({ s with staged := [] } : State) (wordsLive s) := ((Touches.refl _ _).forEach fun _ _ h => h.setReg).put
  rw [hempty.keeps_staged]

/-- Where the supply ceiling alone is staged, its word becomes live. -/
theorem wordsLive_ceiling {w : Word} (hone : s.staged = [(PWR_CEILING, w)]) : (wordsLive s).reg PWR_CEILING = nextWord s PWR_CEILING := by
  have hput (u : State) (v : Word) : ((u.setReg PWR_CEILING v).put TT_CTRL_swap 0).reg PWR_CEILING = v := by
    rw [State.put, State.reg_setReg_ne _ _ (by decide), State.reg_setReg_same]
  unfold wordsLive
  rw [hone]
  exact hput _ _

theorem switchAll_switches : Switches (wordsLive s) (switchAll s) := by
  unfold switchAll
  extract_lets swap mask policy changes words s1 s2 s3 s4
  have h1 : Switches (wordsLive s) s1 := .refl _ _ _
  have h2 : Switches (wordsLive s) s2 := .ite h1.imageSwap h1
  have h3 : Switches (wordsLive s) s3 := h2.forEach fun c hc u ih => by
    obtain ⟨g, hg, rfl⟩ := List.mem_map.1 hc
    exact ih.regionSwitched (List.mem_range.1 hg)
  have h4 : Switches (wordsLive s) s4 := .ite h3.relocate h3
  exact (Confined.ite h4.policyChanged h4).nodeFollows

/-- The switch recorded with its target. -/
def switchRecorded (n : Nat) (s : State) : State :=
  (((s.setReg GLB_COMMIT_LAST_LO (BitVec.ofNat 32 n)).setReg GLB_COMMIT_LAST_HI (BitVec.ofNat 32 (n / 2 ^ 32 % 2 ^ 16))).put
    GLB_COMMIT_STATUS_cause CommitCause.switched).put GLB_COMMIT_STATUS_first_refuser 15

/-- With the comparison suspended, it is reported. -/
def switchReported (s : State) : State := State.raiseEvent { s with commit := { s.commit with suspendLeft := 1024 } } 251 0

theorem hardwareCommit_none (h : s.commit.hwDue = []) : hardwareCommit s = s := by
  rw [hardwareCommit, h]
  rfl

theorem commitSwitch_switches (hdue : s.commit.hwDue = []) (harm : s.commit.armed = some n) (hhere : s.ahead n = 0) (hvote : s.commit.vote = some 0) :
    commitSwitch s = switchReported (switchRecorded n (switchAll (disarm s))) := by
  simp only [commitSwitch, harm, hhere, hardwareCommit_none hdue, hvote, Option.isNone_some, Option.getD_some, ne_eq, not_true, Bool.false_eq_true,
    if_false]
  rfl

theorem switchReported_touches : Touches [.commit, .events] s (switchReported s) := by rfl

theorem switchReported_commit : (switchReported s).commit = { s.commit with suspendLeft := 1024 } := rfl

theorem switchRecorded_fields (n : Nat) (s : State) : OnlyRegs s (switchRecorded n s) ∧
    SameRegs [GLB_COMMIT_LAST_LO, GLB_COMMIT_LAST_HI, GLB_COMMIT_STATUS] s (switchRecorded n s) ∧
    (switchRecorded n s).reg GLB_COMMIT_LAST_LO = BitVec.ofNat 32 n ∧
    (switchRecorded n s).reg GLB_COMMIT_LAST_HI = BitVec.ofNat 32 (n / 2 ^ 32 % 2 ^ 16) ∧
    (switchRecorded n s).get GLB_COMMIT_STATUS_cause = CommitCause.switched ∧ (switchRecorded n s).get GLB_COMMIT_STATUS_first_refuser = 15 := by
  unfold switchRecorded
  refine ⟨.put (.put (.setReg (.setReg (.refl s)))), ((((SameRegs.refl _ s).setReg).setReg).put).put, ?_, ?_, ?_, ?_⟩
  · rw [State.put, State.reg_setReg_ne _ _ (by decide), State.put, State.reg_setReg_ne _ _ (by decide), State.reg_setReg_ne _ _ (by decide),
      State.reg_setReg_same]
  · rw [State.put, State.reg_setReg_ne _ _ (by decide), State.put, State.reg_setReg_ne _ _ (by decide), State.reg_setReg_same]
  · rw [State.get_put_apart rfl, State.get_put_self rfl (by decide)]
  · exact State.get_put_self rfl (by decide)

/-! ### A refused commit -/

/-- The units that refuse, recorded after the arm is gone. -/
def refusersShown (m : Nat) (s : State) : State := (disarm s).put GLB_COMMIT_REFUSERS_refusers m

/-- The lowest unit that refuses. -/
def lowestRefuser (m : Nat) : Nat := ((List.range 13).find? (natBit m)).getD 15

theorem commitSwitch_refused {m : Nat} (hdue : s.commit.hwDue = []) (harm : s.commit.armed = some n) (hhere : s.ahead n = 0)
    (hvote : s.commit.vote = some m) (hm : 0 < m) : commitSwitch s = commitAbort CommitCause.notReady (lowestRefuser m) (refusersShown m s) := by
  have hne : m ≠ 0 := Nat.ne_of_gt hm
  simp only [commitSwitch, harm, hhere, hardwareCommit_none hdue, hvote, Option.isNone_some, Option.getD_some, ne_eq, not_true, Bool.false_eq_true,
    if_false, hne, not_false_eq_true, if_true]
  rfl

theorem lowestRefuser_lowest {m : Nat} (hm : 0 < m) (hlt : m < 2 ^ 13) : natBit m (lowestRefuser m) = true ∧ lowestRefuser m < 13 ∧
    ∀ k, k < lowestRefuser m → natBit m k = false := by
  unfold lowestRefuser
  cases hfind : (List.range 13).find? (natBit m) with
  | none =>
    refine absurd (Nat.zero_of_testBit_eq_false fun i => ?_) (Nat.ne_of_gt hm)
    by_cases hi : i < 13
    · exact (natBit_eq_testBit m i).symm.trans (Bool.eq_false_iff.2 (List.find?_eq_none.1 hfind i (List.mem_range.2 hi)))
    · exact Nat.testBit_lt_two_pow (Nat.lt_of_lt_of_le hlt (Nat.pow_le_pow_right (by decide) (Nat.le_of_not_lt hi)))
  | some k =>
    obtain ⟨hbit, hk, hbelow⟩ := List.find?_range_eq_some.1 hfind
    exact ⟨hbit, List.mem_range.1 hk, fun j hj => by simpa using hbelow j hj⟩

theorem commitAbort_first (cause first : Nat) (s : State) : (commitAbort cause first s).get GLB_COMMIT_STATUS_first_refuser = first % 16 := by
  unfold commitAbort
  dsimp only
  rw [State.get_raiseEvent, State.addField, State.get_put_ne _ _ _ _ (by decide), State.get_put_mod rfl]
  rfl

/-! ### The hardware commit of a throttle level -/

/-- Due changes and the throttle level stand. -/
structure LevelKept (s t : State) : Prop where
  due : t.commit.hwDue = s.commit.hwDue
  level : liveLevel t = liveLevel s

namespace LevelKept
variable {s t u : State}

theorem refl (s : State) : LevelKept s s := ⟨rfl, rfl⟩
theorem trans (h : LevelKept s t) (h' : LevelKept t u) : LevelKept s u := ⟨h'.due.trans h.due, h'.level.trans h.level⟩

theorem of_same {l : List Part} {r : List Nat} (ht : Touches l s t) (hr : SameRegs r s t) (hl : .commit ∉ l := by decide) (hT : THM_STATUS ∉ r := by decide) :
    LevelKept s t := ⟨by rw [ht.keeps_commit hl], hr.get (f := THM_STATUS_level) hT⟩

theorem ite {c : Prop} {_ : Decidable c} (ht : LevelKept s t) (hu : LevelKept s u) : LevelKept s (if c then t else u) := by
  split
  · exact ht
  · exact hu

theorem put {f : Field} {v : Nat} (hf : THM_STATUS ≠ f.addr := by decide) : LevelKept s (s.put f v) :=
  .of_same (l := [.regs]) (r := [f.addr]) (.put (.refl _ s)) (.put (.refl _ s) (by exact .head _)) (by decide) (by simpa using hf)

theorem cause {c : CauseBit} (hc : THM_STATUS ≠ c.cause := by decide) : LevelKept s (s.cause c) :=
  .of_same (l := [.regs, .events]) (r := [c.cause]) (.cause (.refl _ s)) (.cause (.refl _ s) (by exact .head _)) (by decide) (by simpa using hc)

end LevelKept

theorem applyLevel_shows (hn : n < 8) : (applyLevel n s).commit.hwDue = s.commit.hwDue ∧ liveLevel (applyLevel n s) = n := by
  unfold applyLevel
  split
  next h => exact ⟨rfl, h.symm⟩
  next =>
    have hput : liveLevel (s.put THM_STATUS_level n) = n := State.get_put_self rfl hn
    have hdue : (s.put THM_STATUS_level n).commit = s.commit := rfl
    generalize s.put THM_STATUS_level n = u at hput hdue
    have h1 : LevelKept u ((u.put HC_ARB_PAUSE_thermal n).cause Cause.THM_level_change) := LevelKept.trans .put .cause
    have h2 (w : State) : LevelKept w (showPause w) := .put
    have h : LevelKept u (showPause ((u.put HC_ARB_PAUSE_thermal n).cause Cause.THM_level_change)) := h1.trans (h2 _)
    have hall : LevelKept u (if n = 7 then (showPause ((u.put HC_ARB_PAUSE_thermal n).cause Cause.THM_level_change)).cause Cause.THM_level7
        else showPause ((u.put HC_ARB_PAUSE_thermal n).cause Cause.THM_level_change)) := .ite (h.trans .cause) h
    exact ⟨hall.due.trans (congrArg Commit.hwDue hdue), hall.level.trans hput⟩

theorem LevelKept.showSuspended : LevelKept s (showSuspended s) := by
  obtain ⟨⟨m, hm⟩, hregs, -, -⟩ := showSuspended_fields (s := s)
  exact .of_same (l := [.regs]) (by rw [hm]; rfl) hregs

theorem LevelKept.stormEnter : LevelKept s (stormEnter s) := by
  have hat (x : TtSt) : LevelKept s { s with tt := x } := ⟨rfl, rfl⟩
  have hgone (u : State) (x : TtSt) : LevelKept u { u with tt := x } := ⟨rfl, rfl⟩
  have himage (u : State) : LevelKept u (imageSwitched u) :=
    .of_same (r := []) imageSwitched_touches (.of_regs imageSwitched_touches.keeps_regs)
  unfold Machine.stormEnter liftSuspensions
  split
  · exact .refl s
  · exact (((((hat _).trans .put).trans .cause).trans (hgone _ _)).trans showSuspended).trans (himage _)

theorem LevelKept.stormBoundary : LevelKept s (stormBoundary s) := by
  have htt (u : State) (x : TtSt) : LevelKept u { u with tt := x } := ⟨rfl, rfl⟩
  have hhw (u : State) (x : List HwChange) : LevelKept u { u with commit := { u.commit with hw := x } } := ⟨rfl, rfl⟩
  have hreport (u : State) (sl : Slot) : LevelKept u (reportShort u sl) := forEach_invariant (.refl u) fun c _ w h => by
    split
    · exact (h.trans (htt _ _)).trans .cause
    · exact h
  have hdyn (c : Nat) (u : State) : LevelKept u (toDynamic c u) := forEach_invariant (.refl u) fun _ _ w h => by
    dsimp only
    split
    · exact h
    · exact h.trans (.of_same (l := [.hcs]) (r := []) (.setHc (.refl _ w)) (.of_regs rfl))
  have hone (c : Nat) (u : State) : LevelKept u (suspendOne c u) := ((htt _ _).trans (hdyn _ _)).trans (showSuspended.trans .cause)
  unfold Machine.stormBoundary
  split
  · split
    · exact htt _ _
    · exact .refl s
  · extract_lets x u sl
    have h : LevelKept s u := htt _ _
    split
    · split
      · exact h
      · exact h.trans (hhw _ _)
    · split
      · exact h
      · split
        · exact h.trans (hreport _ _)
        · split
          · exact (h.trans (hreport _ _)).trans (hone _ _)
          · exact h.trans (hreport _ _)

theorem LevelKept.showMode : LevelKept s (showMode s) := by
  have hregs := showMode_regs (s := s)
  obtain ⟨m, hm⟩ := showMode_only (s := s)
  exact .of_same (l := [.regs]) (by rw [hm]; rfl) hregs

theorem LevelKept.replaceEval : LevelKept s (replaceEval s) := .of_same replaceEval_kept.1 replaceEval_kept.2

/-- The throttle level that is due becomes the live one. -/
theorem hardwareCommit_level (hn : n < 8) (hdue : s.commit.hwDue = [.level n]) (harm : s.commit.armed = none) :
    (hardwareCommit s).commit.hwDue = [] ∧ liveLevel (hardwareCommit s) = n := by
  have heq : hardwareCommit s = replaceEval (showMode (if (stormBoundary (applyLevel n (preempted s))).commit.hw.contains .stormEnter then
      stormEnter { stormBoundary (applyLevel n (preempted s)) with commit := { (stormBoundary (applyLevel n (preempted s))).commit with
        hw := (stormBoundary (applyLevel n (preempted s))).commit.hw.filter fun c => c != .stormEnter } }
      else stormBoundary (applyLevel n (preempted s)))) := by
    simp only [hardwareCommit, hdue]
    rfl
  have hfree : preempted s = nothingDue s := if_neg (by rw [harm]; exact Bool.false_ne_true)
  rw [hfree] at heq
  obtain ⟨happly, hlevel⟩ := applyLevel_shows (s := nothingDue s) hn
  have hbound := LevelKept.stormBoundary (s := applyLevel n (nothingDue s))
  generalize stormBoundary (applyLevel n (nothingDue s)) = u at hbound heq
  have hhw (x : List HwChange) : LevelKept u { u with commit := { u.commit with hw := x } } := ⟨rfl, rfl⟩
  have hall : LevelKept (applyLevel n (nothingDue s)) (hardwareCommit s) := by
    rw [heq]
    exact ((hbound.trans (.ite ((hhw _).trans .stormEnter) (.refl u))).trans .showMode).trans .replaceEval
  exact ⟨hall.due.trans happly, hall.level.trans hlevel⟩

end

/-- Settles O3: the arm decides by its vote; beside the staged words a switch is confined to services, timetables, memory, landing and node. -/
theorem commitSwitchesOrRefuses : Obligations.CommitSwitchesOrRefuses := by
  unfold Obligations.CommitSwitchesOrRefuses
  intro s hup
  have hdisarm : (disarm s).staged = s.staged ∧ (disarm s).commit.armed = none := ⟨rfl, rfl⟩
  have hrun (n : Nat) (hdue : s.commit.hwDue = []) (harm : s.commit.armed = some n) (hhere : s.ahead n = 0) (hvote : s.commit.vote = some 0) :
      exec .commitSwitch s = .next (switchReported (switchRecorded n (switchAll (disarm s)))) :=
    congrArg Host.Outcome.next ((whenUp_of_up hup _).trans (commitSwitch_switches hdue harm hhere hvote))
  have hswitch := switchAll_switches (s := disarm s)
  have hlive := wordsLive_touches (s := disarm s)
  have hempty := wordsLive_staged (s := disarm s)
  have hstaged : (switchAll (disarm s)).staged = [] := by rw [hswitch.touches.keeps_staged, hempty]
  have hcommit : (switchAll (disarm s)).commit = (disarm s).commit := by rw [hswitch.touches.keeps_commit, hlive.keeps_commit]
  refine ⟨fun hdue n harm hhere => ⟨fun hvote => ?_, fun hvote w hone _ => ?_, fun m hvote hm hlt => ?_⟩, fun hdue => ?_, fun n hn hdue harm => ?_⟩
  · refine ⟨_, hrun n hdue harm hhere hvote, ?_⟩
    obtain ⟨honly, -, hlow, hhigh, hcause, hfirst⟩ := switchRecorded_fields n (switchAll (disarm s))
    have hst := honly.keep (F := State.staged) (fun _ => rfl) rfl
    have hco := honly.keep (F := State.commit) (fun _ => rfl) rfl
    generalize switchRecorded n (switchAll (disarm s)) = u at hlow hhigh hcause hfirst hst hco
    have ht := switchReported_touches (s := u)
    refine ⟨(State.reg_of_regs ht.keeps_regs _).trans hlow, (State.reg_of_regs ht.keeps_regs _).trans hhigh,
      (State.get_of_regs ht.keeps_regs _).trans hcause, (State.get_of_regs ht.keeps_regs _).trans hfirst, by rw [switchReported_commit], ?_, ?_⟩
    · rw [ht.keeps_staged, hst, hstaged]
    · rw [switchReported_commit, hco, hcommit]
      exact hdisarm.2
  · refine ⟨_, hrun n hdue harm hhere hvote, ?_⟩
    obtain ⟨honly, hregs, -⟩ := switchRecorded_fields n (switchAll (disarm s))
    have hst := honly.keep (F := State.staged) (fun _ => rfl) rfl
    have hreg : (switchRecorded n (switchAll (disarm s))).reg PWR_CEILING = nextWord s PWR_CEILING := by
      rw [hregs _ (by decide), hswitch.regs _ (by decide)]
      exact wordsLive_ceiling (hdisarm.1.trans hone) |>.trans (nextWord_congr (by rw [hdisarm.1]) (disarm_sameRegs s _ (by decide)))
    generalize switchRecorded n (switchAll (disarm s)) = u at hst hreg
    have ht := switchReported_touches (s := u)
    exact ⟨(State.reg_of_regs ht.keeps_regs _).trans hreg, by rw [ht.keeps_staged, hst, hstaged]⟩
  · obtain ⟨hbit, h13, hbelow⟩ := lowestRefuser_lowest hm hlt
    have heq := commitSwitch_refused hdue harm hhere hvote hm
    have hshown : OnlyRegs (disarm s) (refusersShown m s) := .put (.refl _)
    have habort := commitAbort_regsAndEvents CommitCause.notReady (lowestRefuser m) (refusersShown m s)
    have hregs := commitAbort_sameRegs CommitCause.notReady (lowestRefuser m) (refusersShown m s)
    have hfirst : (commitAbort CommitCause.notReady (lowestRefuser m) (refusersShown m s)).get GLB_COMMIT_STATUS_first_refuser = lowestRefuser m :=
      (commitAbort_first _ _ _).trans (Nat.mod_eq_of_lt (by omega))
    refine ⟨_, congrArg Host.Outcome.next ((whenUp_of_up hup _).trans heq), ?_, ?_, commitAbort_cause _ _ _, ?_, ?_, ?_, ?_, ?_⟩
    · rw [habort.keep (F := State.commit) (fun _ _ => rfl) rfl]
      rfl
    · rw [habort.keep (F := State.staged) (fun _ _ => rfl) rfl]
      rfl
    · exact (hregs.get (by decide)).trans (State.get_put_self rfl hlt)
    · rw [hfirst]
      exact hbit
    · intro k hk
      rw [hfirst] at hk
      exact hbelow k hk
    · exact (((disarm_sameRegs s).mono (by decide)).put).trans (hregs.mono (by decide))
    · refine habort.keep (F := fun t => { t with commit := s.commit, regs := s.regs, events := s.events }) (fun _ _ => rfl) ?_
      exact hshown.keep (F := fun t => { t with commit := s.commit, regs := s.regs, events := s.events }) (fun _ => rfl) rfl
  · exact congrArg Host.Outcome.next ((whenUp_of_up hup _).trans (hardwareCommit_none hdue))
  · exact ⟨_, congrArg Host.Outcome.next (whenUp_of_up hup _), hardwareCommit_level hn hdue harm⟩

end Sys2Proof.Machine
end

section
/-!
PROOF. Memory requests that are taken at once: the landing line they find ready, and their answers.
-/
set_option autoImplicit false
set_option Elab.async false

namespace Sys2Proof.Machine
open Reg Bit

/-! ### A request that passes every check runs -/

section
variable {s : State} {p g : Nat} {t : Txn}

/-- What an admitted request finds on its port. -/
theorem admitted_port (h : admitted s p t = true) : s.up = true ∧ s.stage p = 7 ∧ s.start.request.any (fun r => r.draining) = false ∧
    (s.link p).inbox = [] ∧ (s.link p).vc0 = [] ∧ (s.link p).table = [] ∧ headerKept s p t.hdr = true ∧ t.hdr.dst = liveNode s := by
  simpa [admitted, and_assoc] using h

/-- The rules for headers do not read the bit that version 1 ignores. -/
theorem asVersion_rules {most : Nat} {posted : Bool} : requestOk (asVersion s p t).hdr most posted = requestOk t.hdr most posted ∧
    aluAligned (asVersion s p t).hdr = aluAligned t.hdr ∧ (asVersion s p t).hdr.posted = t.hdr.posted := by
  unfold asVersion
  split <;> exact ⟨rfl, rfl, rfl⟩

theorem headerNak_kept (h : headerKept s p t.hdr = true) : headerNak (arrivalEntry s p t) = none := by
  obtain ⟨htag, hsrc⟩ := asVersion_tag (s := s) (p := p) (t := t)
  obtain ⟨-, haligned, hposted⟩ := asVersion_rules (s := s) (p := p) (t := t) (most := 0) (posted := false)
  simp only [headerKept, Bool.and_eq_true, Bool.or_eq_true, Bool.not_eq_true'] at h
  obtain ⟨⟨⟨hv, hok⟩, hal⟩, htags⟩ := h
  have hversion : (!isV2 s p && v2Only t.hdr.opcode) = false := by rcases hv with h | h <;> simp [h]
  have hbusy : (!t.hdr.posted && tagBusy s p t.hdr.src t.hdr.tag) = false := by rcases htags with h | h <;> simp [h]
  simp only [headerNak, arrivalEntry, asVersion_opcode, hversion, asVersion_rules, hok, haligned, hal, hposted, htag, hsrc, hbusy]
  rfl

theorem taken_capFree {c : Nat} (hvc : (s.link p).vc0 = []) (htab : (s.link p).table = []) : capFull (taken s p t) p c s.nextUid = false := by
  obtain ⟨-, htable, -⟩ := taken_link (t := t) hvc htab
  have hnone : outstanding (taken s p t) p c s.nextUid = 0 := by simp [outstanding, htable, arrivalEntry]
  have hcap : 1 ≤ capOf (taken s p t) c := by
    unfold capOf
    dsimp only
    split <;> omega
  rw [capFull, hnone]
  exact decide_eq_false (by omega)

/-- An admitted request that the judge passes runs. -/
theorem admitted_runs (h : admitted s p t = true) (hopen : (s.modes.intakeClosed && memoryOp t.hdr.opcode && t.hdr.dst == liveNode s) = false)
    (hmem : memoryOp t.hdr.opcode = true → memoryNak (taken s p t) p (arrivalEntry s p t) = none) :
    requestArrives p t [] s = runRequest p (arrivalEntry s p t) (taken s p t) := by
  obtain ⟨-, hstage, hdrain, hin, hvc, htab, hkept, hdst⟩ := admitted_port h
  obtain ⟨hvc', htab', -⟩ := taken_link (t := t) hvc htab
  have hnode : (arrivalEntry s p t).txn.hdr.dst = liveNode (taken s p t) :=
    asVersion_dst.trans (hdst.trans (State.get_of_regs (taken_touches (s := s)).keeps_regs _).symm)
  have hpass : judgeRequest p (arrivalEntry s p t) (taken s p t) = taken s p t := by
    have hop : (arrivalEntry s p t).txn.hdr.opcode = t.hdr.opcode := asVersion_opcode
    rw [judgeRequest, if_neg (not_not.2 hnode), headerNak_kept hkept]
    dsimp only
    split
    next hm => rw [hmem (hop ▸ hm)]
    next => rfl
  rw [requestArrives_judged hstage hin hdrain hvc htab hopen, hpass, runNext, htab']
  have hrun : runnable (taken s p t) p (arrivalEntry s p t) = true := by
    simp [runnable, htab', hvc']
    exact ⟨rfl, rfl⟩
  rw [List.find?_cons_of_pos hrun]

/-- What a memory request taken at once has passed. -/
theorem takenAtOnce_checks (h : takenAtOnce s p t g = true) : admitted s p t = true ∧ s.modes.intakeClosed = false ∧
    memoryOp t.hdr.opcode = true ∧ memoryServed s = true ∧ targetRegion s t = some g ∧ typeServes (rgnType s g) t.hdr.opcode t.hdr.fc = true ∧
    rgnAllows s g t.hdr.fc = true ∧ mapDenied s g t.hdr = false := by
  simp only [takenAtOnce, Bool.and_eq_true, Bool.not_eq_true', beq_iff_eq] at h
  obtain ⟨⟨⟨⟨⟨⟨⟨⟨hadm, hopen⟩, hop⟩, hserved⟩, hregion⟩, htype⟩, hallows⟩, hmap⟩, -⟩ := h
  exact ⟨hadm, hopen, hop, hserved, hregion, htype, hallows, hmap⟩

/-- The request as it runs: its entry has begun. -/
def running (s : State) (p : Nat) (t : Txn) : State :=
  modEntry p s.nextUid (fun x => { x with begun := true, wseq := none }) (taken s p t)

theorem running_touches : Touches admissionParts s (running s p t) := taken_touches.modLink

/-- The number that the request hands to its job. -/
def runningNumber (s : State) (p : Nat) (t : Txn) : Option Nat := (entryNow (taken s p t) p (arrivalEntry s p t)).wseq

/-- A request of a single address targets the region that is live there. -/
theorem targetRegion_plain (h : queueOp t.hdr.opcode = false) : targetRegion s t = regionOf s t.hdr.addr := by
  have hmove : t.hdr.opcode ≠ Op.move := fun hm => absurd (hm ▸ h) (by decide)
  rw [targetRegion, if_neg hmove, h]
  rfl

theorem regionOf_congr {u : State} (h : u.regs = s.regs) (a : Nat) : regionOf u a = regionOf s a := by
  have hget (f : Field) : u.get f = s.get f := State.get_of_regs h f
  simp only [regionOf, rgnLive, rgnHas, rgnBase, rgnSize, State.flag, hget]
  rfl

/-- A memory request taken at once runs, but a queue operation. -/
theorem takenAtOnce_runs (h : takenAtOnce s p t g = true) (hqueue : queueOp t.hdr.opcode = false) :
    requestArrives p t [] s = runMemory p (arrivalEntry s p t) (taken s p t) := by
  obtain ⟨hadm, hopen, hop, hserved, hregion, htype, hallows, hmap⟩ := takenAtOnce_checks h
  obtain ⟨-, -, -, -, hvc, htab, -, -⟩ := admitted_port hadm
  have hregs : (taken s p t).regs = s.regs := taken_touches.keeps_regs
  have hget (f : Field) : (taken s p t).get f = s.get f := State.get_of_regs hregs f
  have hreg (a : Nat) : (taken s p t).reg a = s.reg a := State.reg_of_regs hregs a
  have hopcode : (arrivalEntry s p t).txn.hdr.opcode = t.hdr.opcode := asVersion_opcode
  have hsame : (arrivalEntry s p t).txn.hdr.fc = t.hdr.fc ∧ (arrivalEntry s p t).txn.hdr.addr = t.hdr.addr := by
    unfold arrivalEntry asVersion
    split <;> exact ⟨rfl, rfl⟩
  have hregion' : targetRegion (taken s p t) (arrivalEntry s p t).txn = some g := by
    rw [targetRegion_plain (hopcode ▸ hqueue), hsame.2, regionOf_congr hregs, ← targetRegion_plain hqueue, hregion]
  have hpass : memoryNak (taken s p t) p (arrivalEntry s p t) = none := by
    have halike : MapAlike s (taken s p t) := .of_regs hregs
    have hserved' : memoryServed (taken s p t) = true := by rw [memoryServed, State.mode, hget]; exact hserved
    have htype' : rgnType (taken s p t) g = rgnType s g := by rw [rgnType, hget, rgnType]
    have hallows' (c : Nat) : rgnAllows (taken s p t) g c = rgnAllows s g c := by rw [rgnAllows, hreg, hreg, rgnAllows]
    have hmap' : mapDenied (taken s p t) g (arrivalEntry s p t).txn.hdr = false := by
      rw [mapDenied, hopcode, hsame.1, hsame.2, inValidMap, rgnValidBit, State.flag, rgnType, validBase, rgnBase, rgnSize]
      simp only [hget]
      exact hmap
    have huid : (arrivalEntry s p t).uid = s.nextUid := rfl
    rw [memoryNak, hserved', hregion']
    simp only [hopcode, hsame.1, htype', htype, hallows', hallows, hmap', huid, taken_capFree hvc htab]
    rfl
  rw [admitted_runs hadm (by rw [hopen]; rfl) fun _ => hpass, runRequest, hopcode]
  have hne (k : Nat) (hk : memoryOp k = false) : t.hdr.opcode ≠ k := fun he => by rw [he, hk] at hop; exact absurd hop (by decide)
  rw [if_neg (hne _ rfl), if_neg (hne _ rfl), if_neg (hne _ rfl), if_pos hop]

/-- The state in which a memory request runs, and the region it targets there. -/
theorem runMemory_region (h : takenAtOnce s p t g = true) (hqueue : queueOp t.hdr.opcode = false) :
    targetRegion (running s p t) (arrivalEntry s p t).txn = some g ∧ queueOp (arrivalEntry s p t).txn.hdr.opcode = false := by
  obtain ⟨-, -, -, -, hregion, -, -, -⟩ := takenAtOnce_checks h
  have hopcode : (arrivalEntry s p t).txn.hdr.opcode = t.hdr.opcode := asVersion_opcode
  have haddr : (arrivalEntry s p t).txn.hdr.addr = t.hdr.addr := by
    unfold arrivalEntry asVersion
    split <;> rfl
  refine ⟨?_, hopcode ▸ hqueue⟩
  rw [targetRegion_plain (hopcode ▸ hqueue), haddr, regionOf_congr running_touches.keeps_regs, ← targetRegion_plain hqueue, hregion]

/-- A request that runs and is not answered yet. -/
def Serving (p : Nat) (rs : List Outgoing) (u : State) : Prop :=
  u.stage p = 7 ∧ (u.link p).responses = rs ∧ ∃ e, (u.link p).table = [e] ∧ e.dead = false

theorem running_serving (h : admitted s p t = true) : Serving p (s.link p).responses (running s p t) := by
  obtain ⟨-, hstage, -, -, hvc, htab, -, -⟩ := admitted_port h
  obtain ⟨-, htable, hresp⟩ := taken_link (t := t) hvc htab
  refine ⟨(State.get_of_regs running_touches.keeps_regs _).trans hstage, ?_⟩
  rw [running, modEntry, State.link_modLink, htable]
  exact ⟨hresp, _, rfl, by dsimp only; split <;> rfl⟩

end

/-! ### Answers -/

namespace Serving
variable {u v : State} {p : Nat} {rs : List Outgoing} {e : Entry}

theorem keep (h : Serving p rs u) (hlink : v.links = u.links) (hstage : v.stage p = u.stage p) : Serving p rs v := by
  have hl : v.link p = u.link p := by rw [State.link, hlink, State.link]
  rw [Serving, hl, hstage]
  exact h

theorem entryNow (h : Serving p rs u) (hdead : e.dead = false) : (Machine.entryNow u p e).dead = false := by
  obtain ⟨-, -, e', htable, hdead'⟩ := h
  rw [Machine.entryNow, htable, List.find?_singleton]
  split
  · exact hdead'
  · exact hdead

theorem modLink (h : Serving p rs u) (q : Nat) {f : LinkSt → LinkSt} (hf : ∀ x, (f x).responses = x.responses ∧ (f x).table = x.table) :
    Serving p rs (u.modLink q f) := by
  obtain ⟨hstage, hresp, e', htable, hdead⟩ := h
  refine ⟨(State.get_modLink _ _ _ _).trans hstage, ?_⟩
  by_cases hq : p = q
  · subst hq
    rw [State.link_modLink, (hf _).1, (hf _).2]
    exact ⟨hresp, e', htable, hdead⟩
  · rw [State.link_modLink_ne _ _ hq]
    exact ⟨hresp, e', htable, hdead⟩

theorem wseqClose (h : Serving p rs u) (w : Nat × Nat) : Serving p rs (Machine.wseqClose w u) := h.modLink w.1 fun _ => ⟨rfl, rfl⟩

theorem wseqHold (h : Serving p rs u) (w : Nat × Nat) : Serving p rs (Machine.wseqHold w u) := h.modLink w.1 fun x => by
  split <;> exact ⟨rfl, rfl⟩

theorem closeAll (h : Serving p rs u) (ws : List (Nat × Nat)) : Serving p rs (Machine.closeAll ws u) :=
  forEach_invariant h fun w _ _ hv => hv.wseqClose w

/-- The request is answered by a completion on its port. -/
theorem answer (h : Serving p rs u) (hdead : e.dead = false) (hposted : e.txn.hdr.posted = false) (status result : Nat) (data : List Byte) :
    Touches [.links] u (Machine.answer p e status result data u) ∧
      ((Machine.answer p e status result data u).link p).responses.map gist =
        rs.map gist ++ [(0x20, e.txn.hdr.tag, e.txn.hdr.src, status * 65536 + result % 65536, data)] ∧
      ((Machine.answer p e status result data u).link p).table.length = 1 := by
  have hnow := h.entryNow hdead
  obtain ⟨hstage, hresp, e', htable, -⟩ := h
  have hup : linkUp (completed p e u) p = true := by
    have hget : (completed p e u).stage p = u.stage p := State.get_modLink _ _ _ _
    simp [linkUp, hget, hstage]
  have heq : ∃ o, gist o = (0x20, e.txn.hdr.tag, e.txn.hdr.src, status * 65536 + result % 65536, data) ∧
      Machine.answer p e status result data u = (completed p e u).modLink p fun x => { x with responses := x.responses ++ [o] } := by
    simp only [Machine.answer, hnow, hposted, Bool.false_eq_true, if_false, queueResponse]
    rw [if_pos hup, joinResponses]
    simp only [responseHeader, Nat.reduceEqDiff, decide_false, Bool.and_false, Bool.false_eq_true, if_false]
    exact ⟨_, rfl, rfl⟩
  obtain ⟨o, hgist, heq⟩ := heq
  rw [heq]
  refine ⟨.modLink (.modLink (.refl _ u)), ?_⟩
  rw [State.link_modLink, completed, modEntry, State.link_modLink, htable]
  exact ⟨by rw [List.map_append, hresp, List.map_cons, hgist, List.map_nil], rfl⟩

end Serving

/-! ### An operation on a line that the landing holds ready -/

section
variable {s u w : State} {n : Nat} {l : Line} {op : LineOp}

theorem meterNow_congr (hlo : u.reg CROSS_CNT_LO = s.reg CROSS_CNT_LO) (hhi : u.reg CROSS_CNT_HI = s.reg CROSS_CNT_HI) : meterNow u = meterNow s := by
  rw [meterNow, State.cross, hlo, hhi, meterNow, State.cross]

/-- The parts that the way of an operation to its line changes. -/
abbrev lookupParts : List Part := [.regs, .links, .activity, .nextUid, .svc]

/-- What an operation finds on its way to its line: memory, map, pools and time stand. -/
structure OnItsWay (s u : State) : Prop where
  touch : Touches lookupParts s u
  map : MapAlike s u
  pools : u.svc.pools = s.svc.pools

theorem OnItsWay.parcelValid (h : OnItsWay s u) (k : Nat) : parcelValid u k = parcelValid s k :=
  h.map.parcelValid h.pools h.touch.keeps_dram h.touch.keeps_landing k

theorem MapAlike.linkLine (h : MapAlike s u) (k : Nat) : linkLine u k = linkLine s k := by
  rw [Machine.linkLine, MapAlike.regionOver h, Machine.linkLine]
  cases hr : Machine.regionOver s (64 * k) with
  | none => rfl
  | some g =>
    obtain ⟨hbase, hsize, htype, -, -, -⟩ := h.descriptor (regionOver_lt hr)
    simp only [inLinkArea, htype, linkBase, hbase, hsize, poolParcels]
    rfl

/-- The landing holds the line for an operation, which it may make dirty. -/
structure Ready (s : State) (n : Nat) (l : Line) : Prop where
  line : lineAt s n = some l
  sound : l.poisoned = false
  plain : linkLine s n = false
  stalled : (s.landing.stalled.any fun q => q.1 == n) = false
  queued : (s.landing.queued.any fun q => q.1 == n) = false
  room : l.st = .clean → atLimit s n = false

theorem ready_of_lineReady (h : lineReady s n l = true) : Ready s n l := by
  simp only [lineReady, Bool.and_eq_true, Bool.not_eq_true', beq_iff_eq, and_assoc] at h
  obtain ⟨hline, hsound, hplain, hstalled, hqueued, hroom⟩ := h
  exact ⟨hline, hsound, hplain, hstalled, hqueued, fun _ => hroom⟩

theorem atLimit_congr (h : u.landing.lines = s.landing.lines) (n : Nat) : atLimit u n = atLimit s n := by
  rw [atLimit, dirtyIn, h, atLimit, dirtyIn]

/-- The state in which the operation meets its line. -/
def met (n : Nat) (s : State) : State := countHit (regionNumber (s.acted (512 + sliceOf n) 1) (64 * n)) true (s.acted (512 + sliceOf n) 1)

theorem met_way (h : OnItsWay s u) : OnItsWay s (met n u) ∧ (met n u).svc = u.svc ∧ (met n u).links = u.links ∧
    ∀ a, a < 0x70000 → (met n u).reg a = u.reg a := by
  have hacted : Touches [.activity] u (u.acted (512 + sliceOf n) 1) := .acted (.refl _ u)
  have hsame : SameRegs [LDG_HIT_LO, LDG_HIT_LO + 4, LDG_RGN_HIT (regionNumber (u.acted (512 + sliceOf n) 1) (64 * n))] u (met n u) :=
    ((SameRegs.of_regs hacted.keeps_regs).add48 (by exact .head _) (by exact .tail _ (.head _))).addSat (by exact .tail _ (.tail _ (.head _)))
  have htouch : Touches [.regs, .activity] u (met n u) := ((hacted.mono (by decide)).add48).addSat
  have hmap : MapAlike u (met n u) := .of_same hsame (by simp [LDG_HIT_LO, LDG_RGN_HIT]; omega)
  refine ⟨⟨h.touch.trans (htouch.mono (by decide)), fun a ha => (hmap a ha).trans (h.map a ha), ?_⟩, htouch.keeps_svc, htouch.keeps_links,
    fun a ha => hmap a (.inl ha)⟩
  rw [htouch.keeps_svc]
  exact h.pools

/-- An operation that finds its line is done on it. -/
theorem lookupNow_ready (h : OnItsWay s u) (hready : Ready s n l) (p fc : Nat) (panic keep : Bool) :
    lookupNow p fc panic keep true n op u = onLine n l op (met n u) := by
  obtain ⟨hway, -, -, -⟩ := met_way (n := n) h
  have hat : lineAt (u.acted (512 + sliceOf n) 1) n = some l := (lineAt_congr (by
    rw [(Touches.acted (l := [.activity]) (.refl _ u)).keeps_landing, h.touch.keeps_landing]) n).trans hready.line
  have hroom : (decide (l.st = .clean) && opDirties (met n u) op (lineData (met n u) n l) && atLimit (met n u) n) = false := by
    rw [atLimit_congr (s := s) (by rw [hway.touch.keeps_landing])]
    by_cases hclean : l.st = .clean
    · rw [hready.room hclean, Bool.and_false]
    · rw [decide_eq_false hclean]
      rfl
  unfold lookupNow
  simp only [hat]
  change (if decide (l.st = .clean) && opDirties (met n u) op (lineData (met n u) n l) && atLimit (met n u) n then _ else onLine n l op (met n u)) = _
  rw [hroom]
  rfl

theorem lookup_ready (h : OnItsWay s u) (hready : Ready s n l) (p fc : Nat) (panic keep : Bool) :
    lookup p fc panic keep n op u = onLine n l op (met n u) := by
  rw [lookup, h.touch.keeps_landing, hready.stalled, hready.queued]
  exact lookupNow_ready h hready p fc panic keep

/-- The landing after an operation on a line: the bytes that it leaves, and every other line as it was. -/
structure Operated (n : Nat) (data : List Byte) (w v : State) : Prop where
  touch : Touches [.landing, .links] w v
  ready : ∃ l, Ready v n l ∧ l.data = data
  others : ∀ m, m ≠ n → lineAt v m = lineAt w m
  serving : ∀ {p : Nat} {rs : List Outgoing}, Serving p rs w → Serving p rs v

theorem Operated.line {data : List Byte} (h : Operated n data w u) : (lineAt u n).map (·.data) = some data := by
  obtain ⟨l, hl, hdata⟩ := h.ready
  rw [hl.line, Option.map_some, hdata]

theorem touchWay_operated (k : Nat) {data : List Byte} (h : Operated n data w u) : Operated n data w (touchWay n k u) where
  touch := h.touch.trans rfl
  ready := by
    obtain ⟨l, hl, hdata⟩ := h.ready
    exact ⟨l, ⟨hl.line, hl.sound, hl.plain, hl.stalled, hl.queued, hl.room⟩, hdata⟩
  others := h.others
  serving hs := (h.serving hs).keep rfl rfl

/-- A sound line that an operation made dirty. -/
def dirtied (l : Line) (data : List Byte) (written : Nat) (marks : List (Nat × Nat)) : Line :=
  { l with data := data, st := (if l.st = .gathered then .gathered else .dirty), poisoned := false, written := written, wseqs := l.wseqs ++ marks }

theorem dirtied_dirty {data : List Byte} {written : Nat} {marks : List (Nat × Nat)} : (dirtied l data written marks).st ≠ .clean := by
  by_cases h : l.st = .gathered <;> simp [dirtied, h]

/-- The landing with a write counted and its numbers held. -/
def counted (marks : List (Nat × Nat)) (w : State) : State :=
  forEach marks wseqHold { w with landing := { w.landing with writes := w.landing.writes + 1 } }

theorem counted_landing (marks : List (Nat × Nat)) : Touches [.landing, .links] w (counted marks w) ∧
    (counted marks w).landing = { w.landing with writes := w.landing.writes + 1 } ∧
    ∀ {p : Nat} {rs : List Outgoing}, Serving p rs w → Serving p rs (counted marks w) :=
  ⟨(Touches.landing (.refl _ w)).forEach fun _ _ ih => Touches.modLink ih,
    forEach_invariant (Inv := fun v => v.landing = { w.landing with writes := w.landing.writes + 1 }) rfl fun _ _ _ h => h,
    fun h => forEach_invariant (h.keep rfl rfl) fun x _ _ hv => hv.wseqHold x⟩

theorem setLine_operated {data : List Byte} {written : Nat} (marks : List (Nat × Nat)) (hway : OnItsWay s w) (hready : Ready s n l) :
    Operated n data w (setLine n (dirtied l data written marks) (counted marks w)) := by
  obtain ⟨htouch, hland, hserve⟩ := counted_landing (w := w) marks
  have hlines : (counted marks w).landing.lines = w.landing.lines := by rw [hland]
  refine ⟨htouch.trans rfl, ⟨_, ⟨lineAt_setLine_same _, rfl, ?_, ?_, ?_, fun h => absurd h dirtied_dirty⟩, rfl⟩, fun m hm =>
    (lineAt_setLine_ne _ hm).trans (lineAt_congr hlines m), fun h => (hserve h).keep rfl rfl⟩
  · exact ((MapAlike.of_regs htouch.keeps_regs).linkLine n).trans ((hway.map.linkLine n).trans hready.plain)
  · rw [setLine, hland, hway.touch.keeps_landing]
    exact hready.stalled
  · rw [setLine, hland, hway.touch.keeps_landing]
    exact hready.queued

theorem Ready.onItsWay (hready : Ready s n l) (hway : OnItsWay s w) : Ready w n l := by
  have hland : w.landing = s.landing := hway.touch.keeps_landing
  refine ⟨(lineAt_congr (by rw [hland]) n).trans hready.line, hready.sound, (hway.map.linkLine n).trans hready.plain, ?_, ?_, fun hc => ?_⟩
  · rw [hland]
    exact hready.stalled
  · rw [hland]
    exact hready.queued
  · rw [atLimit_congr (s := s) (by rw [hland])]
    exact hready.room hc

/-- An operation on a ready line: its job goes on with the old bytes, the line holds the new ones. -/
theorem onLine_ready (hway : OnItsWay s w) (hready : Ready s n l)
    (hvalid : (opEffect w op l.data).2 = true → parcelValid s (n / 4) = true) : ∃ v, onLine n l op w = opFinish op n l.data v ∧
      Operated n (if (opEffect w op l.data).2 then (opEffect w op l.data).1 else l.data) w v ∧
      ((opEffect w op l.data).2 = false → v.landing.lines = w.landing.lines ∧ v.links = w.links) := by
  have hw := hready.onItsWay hway
  have hdata : lineData w n l = l.data := by
    rw [lineData, hw.plain]
    rfl
  have hval : (if (opEffect w op l.data).2 then validate (n / 4) (opMarks w op) w else w) = w := by
    split
    next h => exact validate_valid ((hway.parcelValid _).trans (hvalid h))
    next => rfl
  simp only [onLine, hready.sound, Bool.false_and, Bool.false_eq_true, if_false, hdata, hval, hw.line, Option.getD_some]
  cases (opEffect w op l.data).2 with
  | false =>
    exact ⟨_, rfl, touchWay_operated (u := w) _ ⟨.refl _ w, ⟨l, hw, rfl⟩, fun _ _ => rfl, fun h => h⟩, fun _ => ⟨rfl, rfl⟩⟩
  | true => exact ⟨_, rfl, touchWay_operated _ (setLine_operated (opMarks w op) hway hready), fun h => absurd h (by decide)⟩

end

/-! ### The job of a request -/

section
variable {s u v : State} {n p id g : Nat} {l : Line} {e : Entry} {j : Job} {rs : List Outgoing}

/-- A job of one part, as it starts. -/
def oneJob (p : Nat) (e : Entry) (kind : JobKind) (left : Nat) (wseq : Option Nat) : Job :=
  { port := p, entry := e, kind := kind, left := left, reads := 0, plan := [], got := [], bad := false, status := 0, result := 0, len := 0,
    frees := none, wseq := wseq }

/-- The state in which a job has started. -/
def started (j : Job) (s : State) : State := { s with svc := { s.svc with nextJob := s.svc.nextJob + 1 } }.setJob s.svc.nextJob j

theorem newJob_started (kind : JobKind) (left : Nat) (wseq : Option Nat) :
    newJob p e kind left wseq s = (s.svc.nextJob, started (oneJob p e kind left wseq) s) := rfl

theorem started_job (j : Job) : (started j s).job s.svc.nextJob = some j := job_setJob_same _

theorem started_touches (j : Job) : Touches [.svc] s (started j s) := by rfl

theorem started_way (h : OnItsWay s u) (j : Job) : OnItsWay s (started j u) := ⟨h.touch.trans ((started_touches j).mono (by decide)), h.map, h.pools⟩

theorem started_serving (h : Serving p rs u) (j : Job) : Serving p rs (started j u) := h.keep rfl rfl

theorem running_way {t : Txn} : OnItsWay s (running s p t) :=
  ⟨running_touches.mono (by decide), .of_regs running_touches.keeps_regs, by rw [running_touches.keeps_svc]⟩

theorem running_svc {t : Txn} : (running s p t).svc = s.svc := running_touches.keeps_svc

theorem met_serving (hway : OnItsWay s u) (hp : p < 16) (h : Serving p rs u) : Serving p rs (met n u) := by
  obtain ⟨-, -, hlinks, hregs⟩ := met_way (n := n) hway
  exact h.keep hlinks (State.get_of_reg (hregs _ (by simp only [PORT_STATUS_stage, PORT_STATUS]; omega)))

theorem met_job (hway : OnItsWay s u) : (met n u).job id = u.job id := by
  obtain ⟨-, hsvc, -, -⟩ := met_way (n := n) hway
  rw [State.job, hsvc, State.job]

/-- The last part of a job ends it. -/
theorem jobPart_last (hj : u.job id = some j) (hleft : j.left ≤ 1) : jobPart id u = jobDone id u := by
  simp only [jobPart, hj]
  exact if_pos hleft

/-- What a job that ends leaves to be answered. -/
def ended (id : Nat) (j : Job) (u : State) : State := closeAll j.mark (u.dropJob id)

theorem ended_serving (h : Serving p rs u) : Serving p rs (ended id j u) := (h.keep (v := u.dropJob id) rfl rfl).closeAll _

theorem ended_touches : Touches [.svc, .links] u (ended id j u) :=
  (Touches.svc (l := [.svc, .links]) (.refl _ u)).trans ((closeAll_touches _).mono (by decide))

theorem jobDone_rd (hj : u.job id = some j) (hkind : j.kind = .rd) (hbad : j.bad = false) (hfrees : j.frees = none) :
    jobDone id u = answer j.port j.entry 0 0 (gathered j.got j.entry.txn.hdr.addr j.entry.txn.hdr.rlen) (ended id j u) := by
  simp only [jobDone, hj, hkind, hbad, hfrees]
  rfl

theorem jobDone_wr (hj : u.job id = some j) (hkind : j.kind = .wr) (hbad : j.bad = false) (hfrees : j.frees = none) :
    jobDone id u = answer j.port j.entry 0 0 [] (ended id j u) := by
  simp only [jobDone, hj, hkind, hbad, hfrees]
  rfl

theorem jobDone_atomic (hj : u.job id = some j) (hkind : j.kind = .atomic) (hbad : j.bad = false) (hfrees : j.frees = none) :
    jobDone id u = answer j.port j.entry j.status j.result (gathered j.got 0 j.len) (ended id j u) := by
  simp only [jobDone, hj, hkind, hbad, hfrees]
  rfl

/-- The bytes of a request that lie in one line. -/
theorem gathered_line {data : List Byte} {a len : Nat} (hfirst : a / 64 = n) (hlast : (a + len - 1) / 64 = n) :
    gathered (KMap.ins [] n data) a len = (List.range len).map fun i => data.getD ((a + i) % 64) 0 := by
  refine List.map_congr_left fun i hi => ?_
  have hline : (a + i) / 64 = n := by
    have := List.mem_range.1 hi
    omega
  rw [hline, KMap.find_ins_same]
  rfl

theorem linesFrom_one {a len : Nat} (h : (a + len - 1) / 64 = a / 64) : linesFrom a len = [a / 64] := by
  rw [linesFrom, h]
  simp

theorem parcelsFrom_one {a len : Nat} (h : (a + len - 1) / 256 = a / 256) : parcelsFrom a len = [a / 256] := by
  rw [parcelsFrom, h]
  simp

theorem lineMask_nil (k : Nat) : lineMask k [] = 0 := by rfl

theorem forEach_still {α : Type} (xs : List α) : forEach xs (fun _ u => u) s = s := forEach_id fun _ _ => rfl

/-! ### RD -/

/-- A read of one line that the landing holds ready is answered with its bytes. -/
theorem rdRun_ready (hready : Ready s n l) (hp : p < 16) (hway : OnItsWay s u) (hserve : Serving p rs u)
    (hfirst : e.txn.hdr.addr / 64 = n) (hlast : (e.txn.hdr.addr + e.txn.hdr.rlen - 1) / 64 = n) (hdead : e.dead = false)
    (hposted : e.txn.hdr.posted = false) : ((rdRun p e g u).link p).responses.map gist = rs.map gist ++
        [(0x20, e.txn.hdr.tag, e.txn.hdr.src, 0, (List.range e.txn.hdr.rlen).map fun i => l.data.getD ((e.txn.hdr.addr + i) % 64) 0)] ∧
      SameMemory s (rdRun p e g u) ∧ (rdRun p e g u).hcs = s.hcs ∧ ((rdRun p e g u).link p).table.length = 1 := by
  have hline := hready.line
  have hlines : linesFrom e.txn.hdr.addr e.txn.hdr.rlen = [n] := by rw [linesFrom_one (hlast.trans hfirst.symm), hfirst]
  have hway' := started_way hway (oneJob p e .rd 1 none)
  have heq : rdRun p e g u = onLine n l (.read u.svc.nextJob) (met n (started (oneJob p e .rd 1 none) u)) := by
    have hheld : lineAt u n = some l := (lineAt_congr (by rw [hway.touch.keeps_landing]) n).trans hline
    have hkept : ([n].filter fun k => (lineAt u k).isSome) = [n] := by simp [hheld]
    have hnone (b : Nat → Bool) : ([n].filter fun k => (lineAt u k).isNone && b k) = [] := by simp [hheld]
    have hlook (keep : Bool) := lookup_ready (op := .read u.svc.nextJob) hway' hready p e.txn.hdr.fc e.txn.hdr.panic keep
    unfold rdRun
    simp only [hlines, List.length_singleton, newJob_started]
    split
    · exact hlook true
    · simp only [hkept, hnone, lineMask_nil, if_true, forEach_still]
      exact hlook false
  obtain ⟨v, hv, hop, hsame⟩ := onLine_ready (op := .read u.svc.nextJob) (met_way (n := n) hway').1 hready fun h => Bool.noConfusion h
  obtain ⟨hlanding, -⟩ := hsame rfl
  have hjob : v.job u.svc.nextJob = some (oneJob p e .rd 1 none) := by
    rw [State.job, hop.touch.keeps_svc]
    exact (met_job hway').trans (started_job _)
  have hgiven : (v.modJob u.svc.nextJob fun j => { j with got := j.got.ins n l.data }) =
      v.setJob u.svc.nextJob (jobGiven (oneJob p e .rd 1 none) n l.data) := by
    rw [State.modJob, hjob]
    rfl
  have hset := job_setJob_same (s := v) (id := u.svc.nextJob) (jobGiven (oneJob p e .rd 1 none) n l.data)
  have hsv : Serving p rs v := hop.serving (met_serving hway' hp (started_serving hserve _))
  have hdone : opFinish (.read u.svc.nextJob) n l.data v = answer p e 0 0 (gathered (KMap.ins [] n l.data) e.txn.hdr.addr e.txn.hdr.rlen)
      (ended u.svc.nextJob (jobGiven (oneJob p e .rd 1 none) n l.data) (v.setJob u.svc.nextJob (jobGiven (oneJob p e .rd 1 none) n l.data))) := by
    change jobPart u.svc.nextJob (v.modJob u.svc.nextJob fun j => { j with got := j.got.ins n l.data }) = _
    rw [hgiven, jobPart_last hset (Nat.le_refl 1)]
    exact jobDone_rd hset rfl rfl rfl
  rw [heq, hv, hdone, gathered_line hfirst hlast]
  generalize hx : ended u.svc.nextJob (jobGiven (oneJob p e .rd 1 none) n l.data)
    (v.setJob u.svc.nextJob (jobGiven (oneJob p e .rd 1 none) n l.data)) = x
  have hsx : Serving p rs x := hx ▸ ended_serving (hsv.keep (v := v.setJob _ _) rfl rfl)
  have htx : Touches [.svc, .links] v x := hx ▸ (Touches.svc (l := [.svc, .links]) (.refl _ v)).trans ended_touches
  obtain ⟨hanswer, hresp, hlen⟩ := hsx.answer hdead hposted 0 0 ((List.range e.txn.hdr.rlen).map fun i => l.data.getD ((e.txn.hdr.addr + i) % 64) 0)
  have hall : Touches (.landing :: lookupParts) s (answer p e 0 0 ((List.range e.txn.hdr.rlen).map fun i => l.data.getD ((e.txn.hdr.addr + i) % 64) 0) x) :=
    ((((met_way (n := n) hway').1.touch.mono (by decide)).trans (hop.touch.mono (by decide))).trans (htx.mono (by decide))).trans (hanswer.mono (by decide))
  refine ⟨by rw [hresp], ⟨fun loc => by rw [hall.keeps_dram], by rw [hall.keeps_dram], ?_⟩, hall.keeps_hcs, hlen⟩
  rw [hanswer.keeps_landing, htx.keeps_landing, hlanding, (met_way (n := n) hway').1.touch.keeps_landing]

/-! ### WR and WRM -/

/-- The line holds these bytes; other lines and the core dies are as they were. -/
def LineLeft (n : Nat) (data : List Byte) (s t : State) : Prop :=
  (lineAt t n).map (·.data) = some data ∧ (∀ m, m ≠ n → lineAt t m = lineAt s m) ∧ t.dram.mem = s.dram.mem ∧ t.dram.lost = s.dram.lost ∧ t.hcs = s.hcs

theorem Operated.left {data : List Byte} {w t : State} (hway : OnItsWay s w) (h : Operated n data w v) (ht : Touches (.svc :: bringupParts) v t) :
    LineLeft n data s t := by
  have hall : Touches (.landing :: .svc :: .activity :: .nextUid :: bringupParts) s t :=
    ((hway.touch.mono (by decide)).trans (h.touch.mono (by decide))).trans (ht.mono (by decide))
  have hlines (m : Nat) : lineAt t m = lineAt v m := lineAt_congr (by rw [ht.keeps_landing]) m
  exact ⟨(congrArg _ (hlines n)).trans h.line, fun m hm => (hlines m).trans ((h.others m hm).trans (lineAt_congr (by rw [hway.touch.keeps_landing]) m)),
    by rw [hall.keeps_dram], by rw [hall.keeps_dram], hall.keeps_hcs⟩

theorem OnItsWay.setJob (h : OnItsWay s u) (id : Nat) (j : Job) : OnItsWay s (u.setJob id j) := ⟨h.touch.trans (Touches.svc (.refl _ u)), h.map, h.pools⟩

theorem modJob_job {f : Job → Job} (hj : u.job id = some j) : u.modJob id f = u.setJob id (f j) := by rw [State.modJob, hj]

/-- A job whose only plan is a line that the landing holds ready is done at once. -/
theorem runPlan_ready {b : List (Option Byte)} (hready : Ready s n l) (hvalid : parcelValid s (n / 4) = true) (hway : OnItsWay s u)
    (hj : u.job id = some j) (hleft : j.left = 1) (hreads : j.reads = 0) (hplan : j.plan = [(n, false, b)])
    (hfrees : j.frees = none) : LineLeft n (overlay l.data b) s (runPlan id u) := by
  have hline := hready.line
  have hat : (lineAt u n).isSome = true := by
    rw [(lineAt_congr (by rw [hway.touch.keeps_landing]) n).trans hline]
    rfl
  have hway' := hway.setJob id { j with plan := [] }
  have hnow : runPlan id u = onLine n l (.write id b) (met n (u.setJob id { j with plan := [] })) := by
    have hwrite (fc : Nat) : writeReady u fc n b = true := by simp [writeReady, hat]
    have hwait : (j.plan.filter fun x => !writeReady u j.entry.txn.hdr.fc x.1 x.2.2) = [] := by simp [hplan, hwrite]
    simp only [runPlan, hj]
    rw [if_neg (by simp [hreads, hplan]), hwait, List.isEmpty_nil, if_pos rfl, hplan]
    exact lookupNow_ready hway' hready _ _ _ _
  obtain ⟨v, hv, hop, -⟩ := onLine_ready (op := .write id b) (met_way (n := n) hway').1 hready fun _ => hvalid
  have hjob : v.job id = some { j with plan := [] } := by
    rw [State.job, hop.touch.keeps_svc]
    exact (met_job hway').trans (job_setJob_same _)
  have hdone : opFinish (.write id b) n l.data v = jobDone id v := jobPart_last hjob (Nat.le_of_eq hleft)
  rw [hnow, hv, hdone]
  refine hop.left (met_way (n := n) hway').1 ?_
  have hdrop : Touches (.svc :: bringupParts) v (v.dropJob id) := Touches.svc (.refl _ v)
  exact hdrop.trans ((jobDone_touches hjob hfrees).mono (by decide))

/-- A write of one ready line, in a region that the landing holds. -/
theorem wrRun_ready {wseq : Option Nat} (hready : Ready s n l) (hvalid : parcelValid s (n / 4) = true) (hway : OnItsWay s u)
    (hpolicy : rgnPolicy u g ≠ 0) (hfirst : e.txn.hdr.addr / 64 = n) (hlast : (e.txn.hdr.addr + (writeBytes e.txn).length - 1) / 64 = n) :
    LineLeft n (overlay l.data (placesAt e.txn.hdr.addr (writeBytes e.txn) (64 * n) 64)) s (wrRun p e g wseq u) := by
  have hlines : linesFrom e.txn.hdr.addr (writeBytes e.txn).length = [n] := by rw [linesFrom_one (hlast.trans hfirst.symm), hfirst]
  have hpol : (rgnPolicy u g != 0) = true := bne_iff_ne.2 hpolicy
  have hmod : (started (oneJob p e .wr 1 wseq) u).modJob u.svc.nextJob (fun j => { j with
      reads := 0, plan := [(n, false, placesAt e.txn.hdr.addr (writeBytes e.txn) (64 * n) 64)] }) = _ := modJob_job (started_job _)
  have heq : wrRun p e g wseq u = runPlan u.svc.nextJob ((started (oneJob p e .wr 1 wseq) u).setJob u.svc.nextJob { oneJob p e .wr 1 wseq with
      reads := 0, plan := [(n, false, placesAt e.txn.hdr.addr (writeBytes e.txn) (64 * n) 64)] }) := by
    rw [← hmod]
    simp only [wrRun, hlines, newJob_started, hpol]
    simp [lineMask_nil, forEach]
  rw [heq]
  exact runPlan_ready hready hvalid ((started_way hway _).setJob _ _) (job_setJob_same _) rfl rfl rfl rfl

/-! ### CNT_ADD, CNT_RDCLR, FADD, CAS and METER -/

theorem aluCas_unchanged {data operand : List Byte} {o aux : Nat} (h : (aluCas data o aux operand).changed = false) :
    (aluCas data o aux operand).line = data := if_neg fun hsame => Bool.noConfusion (h.symm.trans hsame)

theorem aluMeter_unchanged {data : List Byte} {o aux now : Nat} (h : (aluMeter data o aux now).changed = false) :
    (aluMeter data o aux now).line = data := by
  by_cases hmode : 2 ≤ (readMeter data o).mode
  · simp [aluMeter, hmode]
  · simp [aluMeter, hmode] at h

/-- An operation that changes nothing leaves its line. -/
theorem aluRun_unchanged {h : Header} {operand data : List Byte} {now : Nat} (hsame : (aluRun h operand data now).changed = false) :
    (aluRun h operand data now).line = data := by
  unfold aluRun at *
  dsimp only at *
  split at *
  · exact Bool.noConfusion hsame
  · exact Bool.noConfusion hsame
  · exact Bool.noConfusion hsame
  · exact aluCas_unchanged hsame
  · exact aluMeter_unchanged hsame

/-- An operation returns 16 bytes at most. -/
theorem aluRun_data_length {h : Header} {operand data : List Byte} {now : Nat} : (aluRun h operand data now).data.length ≤ 16 := by
  unfold aluRun
  dsimp only
  split
  · exact Nat.zero_le _
  · exact List.length_take_le _ _
  · simp [aluFadd, length_bytesBE]
  · simp [aluCas, length_bytesBE]
  · unfold aluMeter
    dsimp only
    split <;> exact Nat.zero_le _

/-- The bytes that an operation returns are gathered whole. -/
theorem gathered_whole {data : List Byte} (h : data.length ≤ 16) : gathered [(0, data)] 0 data.length = data := by
  refine List.ext_getElem (by simp [gathered]) fun i hi hi' => ?_
  have hline : i / 64 = 0 ∧ i % 64 = i := by omega
  simp [gathered, hline, KMap.find, hi']

/-- The job of an operation, with its results. -/
def operatedJob (p : Nat) (e : Entry) (wseq : Option Nat) (r : AluOut) : Job :=
  { oneJob p e .atomic 1 wseq with status := r.status, result := r.result, len := r.data.length, got := [(0, r.data)] }

/-- An operation on a ready line leaves what it makes of its bytes, and is answered with its results. -/
theorem atomicRun_ready {wseq : Option Nat} (hready : Ready s n l) (hvalid : parcelValid s (n / 4) = true) (hway : OnItsWay s u)
    (hp : p < 16) (hserve : Serving p rs u) (hfirst : e.txn.hdr.addr / 64 = n) (hdead : e.dead = false) :
    LineLeft n (aluRun e.txn.hdr e.txn.data l.data (meterNow s)).line s (atomicRun p e g wseq u) ∧
      (e.txn.hdr.posted = false → ((atomicRun p e g wseq u).link p).responses.map gist = rs.map gist ++
        [(0x20, e.txn.hdr.tag, e.txn.hdr.src, (aluRun e.txn.hdr e.txn.data l.data (meterNow s)).status * 65536 +
          (aluRun e.txn.hdr e.txn.data l.data (meterNow s)).result % 65536, (aluRun e.txn.hdr e.txn.data l.data (meterNow s)).data)]) := by
  have hway' := started_way hway (oneJob p e .atomic 1 wseq)
  have hmet := (met_way (n := n) hway').1
  have heq : atomicRun p e g wseq u = onLine n l (.atomic u.svc.nextJob) (met n (started (oneJob p e .atomic 1 wseq) u)) := by
    simp only [atomicRun, newJob_started, hfirst]
    exact lookup_ready hway' hready _ _ _ _
  have hsm : Serving p rs (met n (started (oneJob p e .atomic 1 wseq) u)) := met_serving hway' hp (started_serving hserve _)
  have hjob : (met n (started (oneJob p e .atomic 1 wseq) u)).job u.svc.nextJob = some (oneJob p e .atomic 1 wseq) :=
    (met_job hway').trans (started_job _)
  rw [heq]
  generalize met n (started (oneJob p e .atomic 1 wseq) u) = w at hmet hsm hjob
  generalize hr : aluRun e.txn.hdr e.txn.data l.data (meterNow s) = r
  have hnow : meterNow w = meterNow s := meterNow_congr (hmet.map _ (by decide)) (hmet.map _ (by decide))
  have heffect : opEffect w (.atomic u.svc.nextJob) l.data = (r.line, r.changed) := by
    simp only [opEffect, hjob, hnow]
    rw [← hr]
    rfl
  obtain ⟨v, hv, hop, -⟩ := onLine_ready (op := .atomic u.svc.nextJob) hmet hready fun _ => hvalid
  rw [heffect] at hop
  have hleft : (if (r.line, r.changed).2 then (r.line, r.changed).1 else l.data) = r.line := by
    cases hc : r.changed with
    | true => rfl
    | false =>
      rw [← hr] at hc ⊢
      exact (aluRun_unchanged hc).symm
  rw [hleft] at hop
  have hvjob : v.job u.svc.nextJob = some (oneJob p e .atomic 1 wseq) := by
    rw [State.job, hop.touch.keeps_svc]
    exact hjob
  have hset := job_setJob_same (s := v) (id := u.svc.nextJob) (operatedJob p e wseq r)
  have hdone : opFinish (.atomic u.svc.nextJob) n l.data v = jobDone u.svc.nextJob (v.setJob u.svc.nextJob (operatedJob p e wseq r)) := by
    rw [← jobPart_last hset (Nat.le_refl 1)]
    have hvnow : meterNow v = meterNow s := (meterNow_congr (State.reg_of_regs hop.touch.keeps_regs _) (State.reg_of_regs hop.touch.keeps_regs _)).trans hnow
    have hrun : aluRun (oneJob p e .atomic 1 wseq).entry.txn.hdr (oneJob p e .atomic 1 wseq).entry.txn.data l.data (meterNow s) = r := hr
    simp only [opFinish, hvjob, hvnow, hrun]
    rfl
  rw [hv, hdone]
  have hsv : Serving p rs v := hop.serving hsm
  refine ⟨hop.left hmet ?_, fun hposted => ?_⟩
  · have hdrop : Touches (.svc :: bringupParts) v ((v.setJob u.svc.nextJob (operatedJob p e wseq r)).dropJob u.svc.nextJob) :=
      Touches.svc (Touches.svc (.refl _ v))
    exact hdrop.trans ((jobDone_touches hset rfl).mono (by decide))
  · rw [jobDone_atomic hset rfl rfl rfl]
    have hsx : Serving p rs (ended u.svc.nextJob (operatedJob p e wseq r) (v.setJob u.svc.nextJob (operatedJob p e wseq r))) :=
      ended_serving (hsv.keep (v := v.setJob _ _) rfl rfl)
    obtain ⟨-, hresp, -⟩ := hsx.answer (e := e) hdead hposted r.status r.result r.data
    have hwhole : gathered (operatedJob p e wseq r).got 0 (operatedJob p e wseq r).len = r.data :=
      gathered_whole (by rw [← hr]; exact aluRun_data_length)
    rw [hwhole]
    exact hresp

/-! ### A write that goes to the core dies -/

theorem mem_linesFrom {a len k : Nat} : k ∈ linesFrom a len ↔ a / 64 ≤ k ∧ k ≤ max (a / 64) ((a + len - 1) / 64) := by
  simp only [linesFrom, List.mem_map, List.mem_range]
  constructor
  · rintro ⟨i, hi, rfl⟩
    omega
  · intro h
    exact ⟨k - a / 64, by omega, by omega⟩

/-- A mask shows the lines listed. -/
theorem lineMask_pos {m k : Nat} {xs : List Nat} (hk : k < 4) (hmem : 4 * m + k ∈ xs) : lineMask m xs ≠ 0 := by
  have hcontains : xs.contains (4 * m + k) = true := List.contains_iff_mem.2 hmem
  change (([0, 1, 2, 3] : List Nat).foldl (fun v k => if xs.contains (4 * m + k) then v + 2 ^ k else v) 0) ≠ 0
  simp only [List.foldl_cons, List.foldl_nil]
  interval_cases k <;> rw [if_pos hcontains] <;> split <;> (try split) <;> (try split) <;> omega

theorem writeBytes_length {t : Txn} : (writeBytes t).length = if t.hdr.opcode = Op.wrm then t.hdr.len - 32 else t.hdr.len := by
  unfold writeBytes
  split <;> simp

/-- The bytes of a write lie in the lines it touches. -/
theorem placesAt_lines {a m : Nat} {b : List (Option Byte)} :
    ((placesAt a b (256 * m) 256).zipIdx.map fun x => if (linesFrom a b.length).contains (4 * m + x.2 / 64) then x.1 else none) =
      placesAt a b (256 * m) 256 := by
  refine List.ext_getElem (by simp) fun i hi hi' => ?_
  rw [List.getElem_map, List.getElem_zipIdx]
  simp only [Nat.zero_add]
  split
  · rfl
  next hout =>
    have hout' : ¬ (4 * m + i / 64 ∈ linesFrom a b.length) := fun hm => hout (List.contains_iff_mem.2 hm)
    rw [mem_linesFrom] at hout'
    simp only [placesAt, List.getElem_map, List.getElem_range]
    split
    next hle => rw [List.getD_eq_default _ _ (by omega)]
    next => rfl

/-- Addresses of one parcel lie at one half-channel. -/
theorem placeOf_parcel (a : Nat) : (placeOf s (256 * (a / 256))).hc = (placeOf s a).hc := by
  have hover : regionOver s (256 * (a / 256)) = regionOver s a := by
    refine List.find?_congr fun g _ => ?_
    have hhas : rgnHas s g (256 * (a / 256)) = rgnHas s g a := decide_eq_decide.2 (by
      simp only [rgnBase, rgnSize]
      omega)
    rw [hhas]
  have hmap : mapOf s (256 * (a / 256)) = mapOf s a := by rw [mapOf, hover, mapOf]
  have hdiv : 256 * (a / 256) / 1024 = a / 1024 := by omega
  rw [placeOf, placeOf, hmap]
  simp only [selBits, hdiv]

/-- A job with nothing planned waits. -/
theorem runPlan_unplanned (hj : u.job id = some j) (hplan : j.plan = []) : runPlan id u = u := by
  simp only [runPlan, hj]
  exact if_pos (by simp [hplan])

/-- One access handed to a half-channel. -/
theorem pushAccess_intake {fc m lines : Nat} {panic write reads displaced : Bool} {what : Purpose} :
    Touches [.hcs, .dram] u (pushAccess p fc panic write reads displaced m lines what u) ∧
    SameMemory u (pushAccess p fc panic write reads displaced m lines what u) ∧ ∃ a : Access, (a.reads, a.write, a.parcel, a.lines, a.purpose) =
      (reads, write && !reads, m, lines, what) ∧ ((pushAccess p fc panic write reads displaced m lines what u).hc (placeOf u (256 * m)).hc).intake =
        (u.hc (placeOf u (256 * m)).hc).intake ++ [a] := by
  refine ⟨Touches.modHc (Touches.dram (.refl _ u)), ⟨fun _ => rfl, rfl, rfl⟩, ?_⟩
  unfold pushAccess pushAt
  dsimp only
  have hplace : placeOf { u with dram := { u.dram with nextSeq := u.dram.nextSeq + 1 } } (256 * m) = placeOf u (256 * m) := rfl
  rw [hplace, State.hc_modHc_same]
  exact ⟨_, rfl, rfl⟩

/-- A write within one parcel of a bypass region hands one access of it to its half-channel, and changes no byte yet. -/
theorem wrRun_away {wseq : Option Nat} (hway : OnItsWay s u) (hsvc : u.svc = s.svc) (hhcs : u.hcs = s.hcs) (hpolicy : rgnPolicy u g = 0)
    (hflush : u.landing.flushes.find g = none) (hfirst : e.txn.hdr.addr / 64 = n)
    (hlast : (e.txn.hdr.addr + (writeBytes e.txn).length - 1) / 256 = n / 4) :
    let places := placesAt e.txn.hdr.addr (writeBytes e.txn) (256 * (n / 4)) 256
    let reads := !places.all Option.isSome && parcelValid s (n / 4)
    let k := (placeOf s e.txn.hdr.addr).hc
    SameMemory s (wrRun p e g wseq u) ∧ ∃ a : Access, ((wrRun p e g wseq u).hc k).intake = (s.hc k).intake ++ [a] ∧
      (a.reads, a.write, a.parcel, a.lines, a.purpose) =
        (reads, !reads, n / 4, lineMask (n / 4) (linesFrom e.txn.hdr.addr (writeBytes e.txn).length), .write s.svc.nextJob places) := by
  intro places reads k
  have hparcel : e.txn.hdr.addr / 256 = n / 4 := by omega
  have hparcels : parcelsFrom e.txn.hdr.addr (writeBytes e.txn).length = [n / 4] := by
    rw [parcelsFrom_one (hlast.trans hparcel.symm), hparcel]
  have hmask : (lineMask (n / 4) (linesFrom e.txn.hdr.addr (writeBytes e.txn).length) != 0) = true :=
    bne_iff_ne.2 (lineMask_pos (k := n % 4) (by omega) (mem_linesFrom.2 (by omega)))
  have hpol : (rgnPolicy u g != 0) = false := by rw [hpolicy]; rfl
  have hhere (xs : List Nat) : (xs.filter fun k => rgnPolicy u g != 0 || ((u.landing.flushes.find g).isSome && (lineAt u k).isSome)) = [] := by
    rw [hpol, hflush]
    exact List.filter_eq_nil_iff.2 fun _ _ h => Bool.noConfusion h
  have haway (xs : List Nat) : (xs.filter fun k => !([] : List Nat).contains k) = xs := List.filter_eq_self.2 fun _ _ => rfl
  have hplaces := placesAt_lines (a := e.txn.hdr.addr) (m := n / 4) (b := writeBytes e.txn)
  obtain ⟨j, hplan, heq⟩ : ∃ j : Job, j.plan = [] ∧ wrRun p e g wseq u = runPlan u.svc.nextJob (pushAccess p e.txn.hdr.fc e.txn.hdr.panic true
      (!places.all Option.isSome && parcelValid u (n / 4)) false (n / 4)
      (lineMask (n / 4) (linesFrom e.txn.hdr.addr (writeBytes e.txn).length)) (.write u.svc.nextJob places)
      ((started (oneJob p e .wr 1 wseq) u).setJob u.svc.nextJob j)) := by
    refine ⟨{ oneJob p e .wr 1 wseq with reads := (if (!places.all Option.isSome && parcelValid u (n / 4)) = true then [n / 4] else []).length }, rfl, ?_⟩
    have hone (f : Nat → State → State) (v : State) : forEach [n / 4] f v = f (n / 4) v := rfl
    simp only [wrRun, hhere, haway, hparcels, List.filter_cons, hmask, List.filter_nil, newJob_started, hone, hplaces, if_true]
    rw [modJob_job (id := u.svc.nextJob) (started_job _)]
    rfl
  rw [heq]
  generalize hx : (started (oneJob p e .wr 1 wseq) u).setJob u.svc.nextJob j = x
  have hjob : x.job u.svc.nextJob = some j := hx ▸ job_setJob_same _
  have hxw : OnItsWay s x := hx ▸ (started_way hway _).setJob _ _
  have hxh : x.hcs = s.hcs := hx ▸ hhcs
  obtain ⟨htouch, ⟨hmem, hlost, hlines⟩, a, ha, hintake⟩ := pushAccess_intake (u := x) (p := p) (fc := e.txn.hdr.fc) (m := n / 4)
    (panic := e.txn.hdr.panic) (write := true) (reads := !places.all Option.isSome && parcelValid u (n / 4)) (displaced := false)
    (lines := lineMask (n / 4) (linesFrom e.txn.hdr.addr (writeBytes e.txn).length)) (what := .write u.svc.nextJob places)
  rw [runPlan_unplanned (by rw [State.job, htouch.keeps_svc]; exact hjob) hplan]
  refine ⟨⟨fun loc => (hmem loc).trans (by rw [hxw.touch.keeps_dram]), hlost.trans (by rw [hxw.touch.keeps_dram]),
    hlines.trans (by rw [hxw.touch.keeps_landing])⟩, a, ?_, ?_⟩
  · have hk : (placeOf x (256 * (n / 4))).hc = k := by rw [hxw.map.placeOf, ← hparcel, placeOf_parcel]
    rw [hk, State.hc_of_hcs hxh] at hintake
    exact hintake
  · rw [ha, hway.parcelValid, hsvc]
    rfl

end

/-! ### The requests -/

section
variable {s : State} {p g op : Nat} {h : Header} {d : List Byte}

/-- The entry of a request, as its fields are read. -/
theorem arrivalEntry_fields {t : Txn} : (arrivalEntry s p t).txn.hdr.opcode = t.hdr.opcode ∧ (arrivalEntry s p t).txn.hdr.addr = t.hdr.addr ∧
    (arrivalEntry s p t).txn.hdr.rlen = t.hdr.rlen ∧ (arrivalEntry s p t).txn.hdr.tag = t.hdr.tag ∧ (arrivalEntry s p t).txn.hdr.src = t.hdr.src ∧
    (arrivalEntry s p t).txn.hdr.posted = t.hdr.posted ∧ (arrivalEntry s p t).txn.data = t.data ∧
    writeBytes (arrivalEntry s p t).txn = writeBytes t ∧
    ∀ data now, aluRun (arrivalEntry s p t).txn.hdr t.data data now = aluRun t.hdr t.data data now := by
  unfold arrivalEntry asVersion
  split <;> exact ⟨rfl, rfl, rfl, rfl, rfl, rfl, rfl, rfl, fun _ _ => rfl⟩

/-- How a memory request that no queue serves runs. -/
def plainRun (op p : Nat) (e : Entry) (g : Nat) (wseq : Option Nat) (u : State) : State :=
  if op = Op.rd then rdRun p e g u else if op = Op.wr ∨ op = Op.wrm then wrRun p e g wseq u else atomicRun p e g wseq u

theorem runMemory_plain {e : Entry} {u : State} (hregion : targetRegion (modEntry p e.uid (fun x => { x with begun := true, wseq := none }) u) e.txn = some g)
    (hqueue : queueOp e.txn.hdr.opcode = false) :
    runMemory p e u = plainRun e.txn.hdr.opcode p e g (entryNow u p e).wseq (modEntry p e.uid (fun x => { x with begun := true, wseq := none }) u) := by
  simp only [runMemory, hqueue, Bool.false_eq_true, if_false, hregion]
  have hnot (k : Nat) (hk : queueOp k = true) : e.txn.hdr.opcode ≠ k := fun h => Bool.noConfusion (hqueue.symm.trans (h ▸ hk))
  split
  next hop => exact (if_pos hop).symm
  next hop => exact ((if_neg (by rw [hop]; decide)).trans (if_pos (.inl hop))).symm
  next hop => exact ((if_neg (by rw [hop]; decide)).trans (if_pos (.inr hop))).symm
  next hop => exact absurd hop (hnot _ rfl)
  next hop => exact absurd hop (hnot _ rfl)
  next hop => exact absurd hop (hnot _ rfl)
  next hop => exact absurd hop (hnot _ rfl)
  next hop => exact absurd hop (hnot _ rfl)
  next h1 h2 h3 _ _ _ _ _ => exact ((if_neg h1).trans (if_neg (not_or.2 ⟨h2, h3⟩))).symm

theorem takenAtOnce_plain (ht : takenAtOnce s p ⟨withOpcode h op, d⟩ g = true) (hqueue : queueOp op = false) :
    whenUp (requestArrives p ⟨withOpcode h op, d⟩ []) s = plainRun op p (arrivalEntry s p ⟨withOpcode h op, d⟩) g
      (runningNumber s p ⟨withOpcode h op, d⟩) (running s p ⟨withOpcode h op, d⟩) := by
  obtain ⟨hadm, -⟩ := takenAtOnce_checks ht
  obtain ⟨hup, -⟩ := admitted_port hadm
  obtain ⟨hregion, hq⟩ := runMemory_region ht hqueue
  have hop : (arrivalEntry s p ⟨withOpcode h op, d⟩).txn.hdr.opcode = op := asVersion_opcode
  rw [whenUp_of_up hup, takenAtOnce_runs ht hqueue, runMemory_plain hregion hq, hop]
  rfl

/-- RD and the operations that return data are never posted. -/
theorem not_posted {t : Txn} (hkept : headerKept s p t.hdr = true) (hop : mayPost t.hdr.opcode = false) : t.hdr.posted = false := by
  simp only [headerKept, requestOk, hop, Bool.and_eq_true] at hkept
  obtain ⟨⟨⟨-, ⟨-, hpost⟩⟩, -⟩, -⟩ := hkept
  by_contra hp
  rw [if_pos (Bool.not_eq_false _ ▸ hp)] at hpost
  exact Bool.noConfusion hpost

end

/-- Settles O19: a ready line is operated on at once, and its job ends with the results. -/
theorem atomicsActOnTheirLine : Obligations.AtomicsActOnTheirLine := by
  unfold Obligations.AtomicsActOnTheirLine
  intro s p h d g l n acts
  have hacts (op : Nat) (c : Instr) (hc : exec c s = .next (whenUp (requestArrives p ⟨withOpcode h op, d⟩ []) s)) (hqueue : queueOp op = false)
      (hop : op ≠ Op.rd ∧ op ≠ Op.wr ∧ op ≠ Op.wrm) : acts op c := by
    intro ht hready hvalid r
    obtain ⟨hadm, -⟩ := takenAtOnce_checks ht
    obtain ⟨-, haddr, -, htag, hsrc, hposted, hdata, -, hrun⟩ := arrivalEntry_fields (s := s) (p := p) (t := ⟨withOpcode h op, d⟩)
    obtain ⟨⟨hline, hothers, hmem, hlost, hhcs⟩, hresp⟩ := atomicRun_ready (e := arrivalEntry s p ⟨withOpcode h op, d⟩) (g := g)
      (wseq := runningNumber s p ⟨withOpcode h op, d⟩) (ready_of_lineReady hready) hvalid running_way p.isLt (running_serving hadm) (congrArg (· / 64) haddr) rfl
    have hplain : plainRun op p (arrivalEntry s p ⟨withOpcode h op, d⟩) g (runningNumber s p ⟨withOpcode h op, d⟩) (running s p ⟨withOpcode h op, d⟩) =
        atomicRun p (arrivalEntry s p ⟨withOpcode h op, d⟩) g (runningNumber s p ⟨withOpcode h op, d⟩) (running s p ⟨withOpcode h op, d⟩) := by
      obtain ⟨h1, h2, h3⟩ := hop
      rw [plainRun, if_neg h1, if_neg (not_or.2 ⟨h2, h3⟩)]
    rw [hdata, hrun] at hline hresp
    refine ⟨_, hc, ?_⟩
    rw [takenAtOnce_plain ht hqueue, hplain]
    exact ⟨hline, hothers, hmem, hlost, hhcs, fun hp => by
      rw [hresp (hposted.trans hp), htag, hsrc]
      rfl⟩
  exact ⟨hacts _ _ rfl rfl (by decide), hacts _ _ rfl rfl (by decide), hacts _ _ rfl rfl (by decide), hacts _ _ rfl rfl (by decide),
    hacts _ _ rfl rfl (by decide)⟩

section
variable {s : State} {p : Port} {g op len n : Nat} {h : Header} {d : List Byte} {l : Line} {c : Instr}

/-- A WR or WRM of one ready line, in a region that the landing holds. -/
theorem write_held (hc : exec c s = .next (whenUp (requestArrives p ⟨withOpcode h op, d⟩ []) s)) (hop : op = Op.wr ∨ op = Op.wrm)
    (hlen : (writeBytes ⟨withOpcode h op, d⟩).length = len) (hn : h.addr / 64 = n) (ht : takenAtOnce s p ⟨withOpcode h op, d⟩ g = true)
    (hready : lineReady s n l = true) (hlast : (h.addr + len - 1) / 64 = n) (hpolicy : rgnPolicy s g ≠ 0) (hvalid : parcelValid s (n / 4) = true) :
    ∃ t, exec c s = .next t ∧
      (lineAt t n).map (·.data) = some (overlay l.data (placesAt h.addr (writeBytes ⟨withOpcode h op, d⟩) (64 * n) 64)) ∧
      (∀ m, m ≠ n → lineAt t m = lineAt s m) ∧ t.dram.mem = s.dram.mem ∧ t.dram.lost = s.dram.lost ∧ t.hcs = s.hcs := by
  obtain ⟨-, haddr, -, -, -, -, -, hbytes, -⟩ := arrivalEntry_fields (s := s) (p := p) (t := ⟨withOpcode h op, d⟩)
  have haddr' : (arrivalEntry s p ⟨withOpcode h op, d⟩).txn.hdr.addr = h.addr := haddr
  have hpol : rgnPolicy (running s p ⟨withOpcode h op, d⟩) g = rgnPolicy s g := by
    simp only [rgnPolicy, State.get_of_regs running_touches.keeps_regs]
  have hdone := wrRun_ready (p := p) (e := arrivalEntry s p ⟨withOpcode h op, d⟩) (g := g) (wseq := runningNumber s p ⟨withOpcode h op, d⟩) (ready_of_lineReady hready) hvalid
    (running_way (p := p) (t := ⟨withOpcode h op, d⟩)) (hpol ▸ hpolicy) (by rw [haddr', hn]) (by rw [haddr', hbytes, hlen, hlast])
  rw [haddr', hbytes] at hdone
  have hqueue : queueOp op = false := by rcases hop with rfl | rfl <;> rfl
  refine ⟨_, hc, ?_⟩
  rw [takenAtOnce_plain ht hqueue, plainRun, if_neg (by rcases hop with rfl | rfl <;> decide), if_pos hop]
  exact hdone

/-- A WR or WRM within one parcel of a bypass region. -/
theorem write_handed (hc : exec c s = .next (whenUp (requestArrives p ⟨withOpcode h op, d⟩ []) s)) (hop : op = Op.wr ∨ op = Op.wrm)
    (hlen : (writeBytes ⟨withOpcode h op, d⟩).length = len) (hn : h.addr / 64 = n) (ht : takenAtOnce s p ⟨withOpcode h op, d⟩ g = true)
    (hlast : (h.addr + len - 1) / 256 = n / 4) (hpolicy : rgnPolicy s g = 0) (hflush : s.landing.flushes.find g = none) :
    let places := placesAt h.addr (writeBytes ⟨withOpcode h op, d⟩) (256 * (n / 4)) 256
    let reads := !places.all Option.isSome && parcelValid s (n / 4)
    let k := (placeOf s h.addr).hc
    ∃ t, exec c s = .next t ∧ SameMemory s t ∧ (t.hc k).intake.take (s.hc k).intake.length = (s.hc k).intake ∧
      ((t.hc k).intake.drop (s.hc k).intake.length).map (fun a => (a.reads, a.write, a.parcel, a.lines, a.purpose)) =
        [(reads, !reads, n / 4, lineMask (n / 4) (linesFrom h.addr len), .write s.svc.nextJob places)] := by
  intro places reads k
  obtain ⟨-, haddr, -, -, -, -, -, hbytes, -⟩ := arrivalEntry_fields (s := s) (p := p) (t := ⟨withOpcode h op, d⟩)
  have haddr' : (arrivalEntry s p ⟨withOpcode h op, d⟩).txn.hdr.addr = h.addr := haddr
  have hpol : rgnPolicy (running s p ⟨withOpcode h op, d⟩) g = rgnPolicy s g := by
    simp only [rgnPolicy, State.get_of_regs running_touches.keeps_regs]
  have hdone := wrRun_away (e := arrivalEntry s p ⟨withOpcode h op, d⟩) (n := n) (p := p) (g := g) (wseq := runningNumber s p ⟨withOpcode h op, d⟩)
    (running_way (p := p) (t := ⟨withOpcode h op, d⟩)) running_svc running_touches.keeps_hcs (hpol.trans hpolicy)
    (by rw [running_touches.keeps_landing, hflush]) (by rw [haddr', hn]) (by rw [haddr', hbytes, hlen, hlast])
  rw [haddr', hbytes, hlen] at hdone
  obtain ⟨hmem, a, hintake, ha⟩ := hdone
  have hqueue : queueOp op = false := by rcases hop with rfl | rfl <;> rfl
  refine ⟨_, hc, ?_⟩
  rw [takenAtOnce_plain ht hqueue, plainRun, if_neg (by rcases hop with rfl | rfl <;> decide), if_pos hop, hintake, List.take_left, List.drop_left]
  exact ⟨hmem, rfl, by rw [List.map_cons, ha]; rfl⟩

end

/-- Settles O18: a request taken at once reaches its ready line at once, or hands one access of its parcel to the half-channel. -/
theorem readsAndWritesActOnTheirLine : Obligations.ReadsAndWritesActOnTheirLine := by
  unfold Obligations.ReadsAndWritesActOnTheirLine
  intro s p h d g l n rd wr wrm handed
  have hwr : (writeBytes wr).length = h.len := writeBytes_length.trans (if_neg (by simp only [withOpcode, wr, Op.wr, Op.wrm]; decide))
  have hwrm : (writeBytes wrm).length = h.len - 32 := writeBytes_length.trans (if_pos rfl)
  refine ⟨fun ht hready hlast _ => ?_, write_held rfl (.inl rfl) hwr rfl, write_held rfl (.inr rfl) hwrm rfl, fun ht hlast hpolicy hflush =>
    write_handed rfl (.inl rfl) hwr rfl ht hlast hpolicy hflush, fun ht hlast hpolicy hflush =>
    write_handed rfl (.inr rfl) hwrm rfl ht hlast hpolicy hflush⟩
  obtain ⟨hadm, -⟩ := takenAtOnce_checks ht
  obtain ⟨-, -, -, -, -, -, hkept, -⟩ := admitted_port hadm
  obtain ⟨-, haddr, hrlen, htag, hsrc, hposted, -, -, -⟩ := arrivalEntry_fields (s := s) (p := p) (t := rd)
  have haddr' : (arrivalEntry s p rd).txn.hdr.addr = h.addr := haddr
  have hrlen' : (arrivalEntry s p rd).txn.hdr.rlen = h.rlen := hrlen
  obtain ⟨hresp, hmem, hhcs, hlen⟩ := rdRun_ready (e := arrivalEntry s p rd) (g := g) (ready_of_lineReady hready) p.isLt running_way (running_serving hadm)
    (by rw [haddr']) (by rw [haddr', hrlen', hlast]) rfl (hposted.trans (not_posted hkept rfl))
  refine ⟨_, rfl, ?_⟩
  have hrun : whenUp (requestArrives p rd []) s = rdRun p (arrivalEntry s p rd) g (running s p rd) := takenAtOnce_plain ht rfl
  rw [hrun]
  refine ⟨?_, hmem, hhcs, hlen⟩
  rw [hresp, haddr', hrlen', htag, hsrc]
  rfl

end Sys2Proof.Machine
end

section
/-!
PROOF. A queue whose profile's register is SVC_QIND_CTRL itself: the counterexample to O21.
-/
set_option autoImplicit false
set_option Elab.async false

namespace Sys2Proof.Machine
open Reg Bit

/-- A released device whose pool 1 rotates over three half-channels; queue 65536 names profile 128, at the place of SVC_QIND_CTRL. -/
def profileBeyond : State :=
  let s : State := { State.reset with
    start := { State.reset.start with phase := .ended }
    regs := [(PWR_MODE, 2)] }
  let t := (((s.setReg (SVC_POOL_ROT 1 0) 7).setReg (SVC_POOL_ROT 1 1) 0).setReg (SVC_POOL_ROT 1 2) 0).setReg (SVC_POOL_ROT 1 3) 0
  t.setQueue 65536 { Queue.reset with profile := 128 }

/-- The word that selects queue 65536. -/
def queueBeyond : Word := 0x10000

theorem profileBeyond_writable : writable profileBeyond SVC_QIND_CTRL = true := by decide +kernel

/-- The read's own write of SVC_QIND_CTRL gives the queue's profile another pool, so that its rotation position differs. -/
theorem qindRead_profileBeyond : ¬ ∀ k : Fin 4,
    (write (0 : Source) SVC_QIND_CTRL ((queueBeyond.withBits 25 24 0).withBits 31 31 1) profileBeyond).reg (SVC_QIND_D k) =
      BitVec.ofNat 32 (queueBits profileBeyond (queueBeyond.bits 17 0) / 2 ^ (32 * (3 - k.val))) := by
  decide +kernel

/-- Refutes O21, in its clause on the read of a queue entry: where the queue's profile number is 128, its profile register would be SVC_QIND_CTRL,
which the read writes before it looks; the words shown are then not those of the state before. -/
theorem not_serviceRegistersAndSweepsActAsStated : ¬ Obligations.ServiceRegistersAndSweepsActAsStated := by
  unfold Obligations.ServiceRegistersAndSweepsActAsStated
  intro h
  obtain ⟨-, -, -, -, hqueue, -⟩ := h profileBeyond 0 moveHeader []
  obtain ⟨⟨t, hstep, hwords, -⟩, -⟩ := hqueue 0 queueBeyond profileBeyond_writable
  rw [← Host.Outcome.next.inj hstep] at hwords
  exact qindRead_profileBeyond hwords

end Sys2Proof.Machine
end

section
/-!
PROOF. The steps of START, from ARM to the release.
-/
set_option autoImplicit false
set_option Elab.async false

namespace Sys2Proof.Machine
open Reg Bit

section
variable {s t u : State}

/-! ### The begin of START -/

/-- START takes the device to mode START at ARM. -/
theorem startBegin_fields : (startBegin s).start.phase = .running ∧ (startBegin s).get GLB_START_STATUS_step = StartStep.arm ∧
    (startBegin s).mode = Mode.start ∧ (startBegin s).start.request = none ∧ (startBegin s).always.seqViolation = false := by
  unfold startBegin startCommon
  extract_lets kept x1 x2 x3 s1 s2 s3 s4
  have hbase : s1.start.phase = .running ∧ s1.start.request = none := by
    have h := (setMode_only (m := Mode.start) (s := { s with
      start := { s.start with phase := .running, request := none, diesOut := false, ready := false, waitPins := false, portResets := [] }
      test := { s.test with recRaised := false }, therm := { s.therm with broken := [] } })).keep (F := State.start) (fun _ => rfl) rfl
    exact ⟨congrArg Start.phase h, congrArg Start.request h⟩
  have hmode : s1.mode = Mode.start := mode_setMode (by decide) (by decide) (by decide)
  have h2 : RegsAndEvents s1 s2 ∧ SameRegs [GLB_MEM_STATE, GLB_START_STATUS] s1 s2 :=
    ⟨.putFlag (.putFlag (.putFlag (.refl s1))), (((SameRegs.refl _ s1).putFlag).putFlag).putFlag⟩
  have h3 : RegsAndEvents s1 s3 ∧ SameRegs [GLB_MEM_STATE, GLB_START_STATUS] s1 s3 := ⟨.ite (.raiseEvent h2.1) h2.1, .ite (.raiseEvent h2.2) h2.2⟩
  have h4 : RegsAndEvents s1 s4 ∧ SameRegs [GLB_MEM_STATE, GLB_START_STATUS, PWR_EVT_CAUSE] s1 s4 :=
    ⟨.ite (.cause h3.1) h3.1, .ite (.cause (h3.2.mono (by decide))) (h3.2.mono (by decide))⟩
  have hstart : s4.start = s1.start := h4.1.keep (F := State.start) (fun _ _ => rfl) rfl
  refine ⟨?_, State.get_put_self rfl (by decide), ?_, ?_, rfl⟩
  · exact (congrArg Start.phase hstart).trans hbase.1
  · exact (State.get_put_ne _ _ _ _ (by decide)).trans ((h4.2.get (by decide)).trans hmode)
  · exact (congrArg Start.request hstart).trans hbase.2

/-! ### ARM -/

/-- The registers that ARM writes: those of temperatures and of the ports' tags. -/
abbrev armReg (a : Nat) : Prop := 0xD0000 ≤ a ∧ a < 0xD0100 ∨ 0x40000 ≤ a ∧ a < 0x44000

abbrev armParts : List Part := [.regs, .events, .therm, .activity, .free]

namespace Confined

theorem setBoundary {v : Int} (h : Confined armParts armReg s t) : Confined armParts armReg s (setBoundary v t) := by
  have hb : Confined armParts armReg s ((t.modTherm fun x => { x with boundary := max 0 (min 400 v) }).put THM_BOUNDARY_temp
      (ofSigned 11 (max 0 (min 400 v)))) := (h.part h.touches.modTherm rfl).put (by decide)
  exact .ite (.ite hb ((hb.put (by decide)).cause (by decide))) (hb.put (by decide))

theorem judgeSensor {n : Nat} (h : Confined armParts armReg s t) : Confined armParts armReg s (judgeSensor n t) := by
  refine .ite h ?_
  split
  · exact (h.part h.touches.modTherm rfl).cause (by decide)
  · exact h

theorem showBroken (h : Confined armParts armReg s t) : Confined armParts armReg s (showBroken t) := by
  refine (h.forEach fun i hi u hu => hu.setReg ?_).put (by decide)
  have := List.mem_range.1 hi
  simp only [armReg, THM_BROKEN]
  omega

end Confined

theorem thermStart_confined : Confined armParts armReg s (thermStart s) := by
  unfold thermStart
  extract_lets s0 best s1 top s2
  have h0 : Confined armParts armReg s s0 := (Confined.refl _ _ s).forEach fun n _ u hu => .ite hu.judgeSensor hu
  have hmodel (n : Nat) (q : Rat) (u : State) (hu : Confined armParts armReg s u) :
      Confined armParts armReg s (u.modTherm fun x => { x with model := KMap.put (fun _ => (0 : Rat)) x.model n q }) :=
    hu.part hu.touches.modTherm rfl
  have h1 : Confined armParts armReg s s1 := h0.forEach fun n _ u hu => by
    refine .ite (hmodel _ _ _ hu) ?_
    split
    · exact hmodel _ _ _ hu
    · exact hmodel _ _ _ hu.drew
  clear_value s1
  have hidle : Confined armParts armReg s { s1 with activity := [] } := h1.part h1.touches.activity rfl
  have h2 : Confined armParts armReg s s2 := hidle.showBroken
  clear_value s2 top
  refine .ite h2.setBoundary ?_
  cases top with
  | nil => exact h2.drew.setBoundary
  | cons v rest => exact h2.setBoundary

theorem tagReg {p : Nat} (hp : p < 16) : armReg (PORT_TOW_TAG p) := by
  simp only [armReg, PORT_TOW_TAG]
  omega

theorem drawTag_confined (h : Confined armParts armReg s t) : Confined armParts armReg s (drawTag t) := by
  unfold drawTag
  extract_lets v
  clear_value v
  exact h.drew.forEach fun p hp u hu => hu.put (tagReg (List.mem_range.1 hp))

theorem cross_congr (hlo : t.reg CROSS_CNT_LO = s.reg CROSS_CNT_LO) (hhi : t.reg CROSS_CNT_HI = s.reg CROSS_CNT_HI) : t.cross = s.cross := by
  rw [State.cross, hlo, hhi, State.cross]

theorem cross_setCross_zero : (s.setCross 0).cross = 0 := by
  rw [State.cross, State.setCross, State.reg_setReg_same, State.reg_setReg_ne _ _ (by decide), State.reg_setReg_same]
  rfl

/-- ARM ends on a state, with the watchdog started. -/
def armShown (now : Nat) (x : State) : State := (x.modPurser fun y => { y with watchdog := now }).put GLB_START_STATUS_step StartStep.fuse

theorem armShown_fields {now : Nat} : (armShown now s).get GLB_START_STATUS_step = StartStep.fuse ∧ (armShown now s).purser.watchdog = now ∧
    SameRegs [GLB_START_STATUS] s (armShown now s) :=
  ⟨State.get_put_self rfl (by decide), rfl, ((SameRegs.refl _ s).modPurser).put⟩

theorem startArm_fields (plls : Fin 256) (h : startAt s StartStep.arm = true) : (startArm plls s).get GLB_START_STATUS_step = StartStep.fuse ∧
    (startArm plls s).purser.watchdog = s.ticks ∧ (startArm plls s).cross = 0 ∧ (startArm plls s).get LANE_PLL_STATUS_lock = plls.val := by
  have hc := drawTag_confined (thermStart_confined (s := (s.setCross 0).put LANE_PLL_STATUS_lock plls))
  have heq : startArm plls s = armShown s.ticks (drawTag (thermStart ((s.setCross 0).put LANE_PLL_STATUS_lock plls))) := if_neg (by rw [h]; decide)
  have hcross : ((s.setCross 0).put LANE_PLL_STATUS_lock plls).cross = 0 :=
    (cross_congr (State.reg_setReg_ne _ _ (by decide)) (State.reg_setReg_ne _ _ (by decide))).trans cross_setCross_zero
  have hlock : ((s.setCross 0).put LANE_PLL_STATUS_lock plls).get LANE_PLL_STATUS_lock = plls.val := State.get_put_self rfl plls.isLt
  rw [heq]
  generalize (s.setCross 0).put LANE_PLL_STATUS_lock plls = y at hc hcross hlock
  generalize drawTag (thermStart y) = x at hc
  obtain ⟨hstep, hwatch, hregs⟩ := armShown_fields (s := x) (now := s.ticks)
  refine ⟨hstep, hwatch, ?_, (hregs.get (by decide)).trans ((hc.get (by decide)).trans hlock)⟩
  exact (cross_congr ((hregs _ (by decide)).trans (hc.regs _ (by decide))) ((hregs _ (by decide)).trans (hc.regs _ (by decide)))).trans hcross

/-! ### FUSE, BOOT, SELFTEST, TRAIN and INIT -/

theorem startFuse_fields {bad : List Marginal} {incomplete : List Nat} (h : startAt s StartStep.fuse = true) :
    (startFuse bad incomplete s).get GLB_START_STATUS_step = StartStep.boot ∧ (startFuse bad incomplete s).get OTP_STATUS_loaded = 1 := by
  have hloaded : (fuseRead bad incomplete s).get OTP_STATUS_loaded = 1 := State.get_put_self rfl (by decide)
  have heq : startFuse bad incomplete s = ((fuseRead bad incomplete s).putFlag OTP_STATUS_vqps (vqpsGood s)).put GLB_START_STATUS_step StartStep.boot := by
    rw [startFuse]
    exact if_neg (by rw [h]; decide)
  rw [heq]
  refine ⟨State.get_put_self rfl (by decide), ?_⟩
  rw [State.get_put_ne _ _ _ _ (by decide), State.get_putFlag_apart rfl, hloaded]

/-- The image accepted from slot 0, before the ports may leave S0. -/
def bootShown (b : BootSlot) (s : State) : State :=
  (((((s.put GLB_START_STATUS_fw_slot 0).setReg MBX_FW_VER (BitVec.ofNat 32 b.fwVersion)).put MBX_FW_INFO_slot 0).put MBX_FW_INFO_rollback b.rollback).modPurser
    fun x => { x with slot := 0, key := b.keyIndex, rom := false, config := b.config }).put GLB_START_STATUS_step StartStep.selftest

theorem startBoot_accepts {b c : BootSlot} (h : startAt s StartStep.boot = true) (hruns : s.get MBX_WDOG_run < 3) (hskip : s.purser.skip ≠ some 0)
    (hok : slotVerdict s b = none) : startBoot b c s = forEach (List.range 16) leaveDark (bootShown b s) := by
  have hfew : ¬ (3 ≤ s.get MBX_WDOG_run) := by omega
  have htry : trySlot 0 b s = (true, s) := by rw [trySlot, hok]
  simp only [startBoot, h, hfew, htry, decide_false, Bool.false_and, Bool.not_true, Bool.false_eq_true, if_false, if_neg hskip, if_true]
  rfl

theorem startBoot_fields {b c : BootSlot} (h : startAt s StartStep.boot = true) (hruns : s.get MBX_WDOG_run < 3) (hskip : s.purser.skip ≠ some 0)
    (hok : slotVerdict s b = none) : (startBoot b c s).get GLB_START_STATUS_step = StartStep.selftest ∧ (startBoot b c s).purser.slot = 0 ∧
      (startBoot b c s).purser.rom = false ∧ (startBoot b c s).purser.config = b.config ∧
      (startBoot b c s).reg MBX_FW_VER = BitVec.ofNat 32 b.fwVersion ∧ (startBoot b c s).get GLB_START_STATUS_fw_slot = 0 := by
  have hc : BringsUp (bootShown b s) (forEach (List.range 16) leaveDark (bootShown b s)) :=
    (Confined.refl _ _ _).forEach fun p hp u hu => hu.leaveDark (List.mem_range.1 hp)
  have hpurser := hc.touches.keeps_purser
  have hglb : ¬ bringupReg GLB_START_STATUS ∧ ¬ bringupReg MBX_FW_VER := by
    simp only [bringupReg, GLB_START_STATUS, MBX_FW_VER]
    omega
  rw [startBoot_accepts h hruns hskip hok, hpurser]
  refine ⟨(hc.get hglb.1).trans (State.get_put_self rfl (by decide)), rfl, rfl, rfl, (hc.regs _ hglb.2).trans ?_, (hc.get hglb.1).trans ?_⟩
  · have hshown : SameRegs [MBX_FW_INFO, GLB_START_STATUS] ((s.put GLB_START_STATUS_fw_slot 0).setReg MBX_FW_VER (BitVec.ofNat 32 b.fwVersion))
        (bootShown b s) := ((((SameRegs.refl _ _).put).put).modPurser).put
    exact (hshown _ (by decide)).trans (State.reg_setReg_same _ _ _)
  · rw [bootShown, State.get_put_apart rfl, State.get_modPurser, State.get_put_ne _ _ _ _ (by decide), State.get_put_ne _ _ _ _ (by decide),
      State.get_setReg_ne (by decide)]
    exact State.get_put_self rfl (by decide)

/-- TRAIN begins on the registers of the half-channels. -/
theorem trainBegin_confined : Confined [.regs] (fun a => 0x80000 ≤ a ∧ a < 0x90000) s (trainBegin s) := by
  refine (Confined.refl _ _ s).forEach fun h hh u hu => ?_
  have hlt : h < 128 := List.mem_range.1 hh
  have hstate : Confined [.regs] (fun a => 0x80000 ≤ a ∧ a < 0x90000) s (u.put (HC_STATUS_state h) HcState.training) := hu.put (by
    simp only [HC_STATUS_state, HC_STATUS]
    omega)
  exact hstate.put (by
    simp only [HC_TRAIN_STATUS_step, HC_TRAIN_STATUS]
    omega)

/-- A self-test that passed, before TRAIN begins. -/
def testPassed (x : State) : State :=
  (x.modAlways fun y => { y with passRecord := some (x.reg THM_ON_S).toNat }).put GLB_START_STATUS_step StartStep.train

theorem startSelftest_fields {ledger : Nat} {found : List Finding} (h : startAt s StartStep.selftest = true)
    (hpass : testVerdict (selftestRun ledger found s) ≠ PhaseResult.fail) :
    (replaceEval (startSelftest ledger found s)).get GLB_START_STATUS_step = StartStep.train ∧
      (replaceEval (startSelftest ledger found s)).always.passRecord = some ((selftestRun ledger found s).reg THM_ON_S).toNat := by
  have heq : startSelftest ledger found s = trainBegin (testPassed (selftestRun ledger found s)) := by
    rw [startSelftest]
    exact (if_neg (by rw [h]; decide)).trans (if_neg hpass)
  rw [heq]
  generalize selftestRun ledger found s = x
  obtain ⟨htouch, hregs⟩ := replaceEval_kept (s := trainBegin (testPassed x))
  have hc := trainBegin_confined (s := testPassed x)
  refine ⟨(hregs.get (by decide)).trans ((hc.get (by decide)).trans (State.get_put_self rfl (by decide))), ?_⟩
  rw [htouch.keeps_always, hc.touches.keeps_always]
  rfl

theorem startTrain_passes {out : List TrainOutcome} {dies : List DieOutcome} (h : startAt s StartStep.train = true) (hpass : trainFails out dies s = false) :
    startTrain out dies s = (trainRun out dies s).1.put GLB_START_STATUS_step StartStep.init := by
  rw [startTrain]
  exact (if_neg (by rw [h]; decide)).trans (if_neg (by rw [hpass]; decide))

/-- INIT ends: WARMUP is due, or START is ready for its release. -/
def initEnded (x : State) : State :=
  if warmupDue x then x.put GLB_START_STATUS_step StartStep.warmup else x.modStart fun y => { y with ready := true }

theorem initEnded_fields : ((initEnded s).get GLB_START_STATUS_step = StartStep.warmup ∨ (initEnded s).start.ready = true) ∧
    (initEnded s).always = s.always := by
  unfold initEnded
  split
  · exact ⟨.inl (State.get_put_self rfl (by decide)), rfl⟩
  · exact ⟨.inr rfl, rfl⟩

theorem startInit_ends {bad : List SentinelRead} {us : Nat} (h : startAt s StartStep.init = true) (hready : s.start.ready = false) :
    ∃ x : State, startInit bad us s = initEnded (x.modAlways fun y => { y with railsHeld := true }) :=
  ⟨_, by rw [startInit]; exact if_neg (by rw [h, hready]; decide)⟩

/-! ### The release -/

/-- The release writes neither the count nor the period's phase once they are restarted. -/
abbrev releaseReg (a : Nat) : Prop := a ≠ CROSS_CNT_LO ∧ a ≠ CROSS_CNT_HI ∧ a ≠ GLB_PERIOD_PHASE

abbrev releaseParts : List Part := [.regs, .events, .tt, .hcs, .modes, .free, .always, .activity]

/-- The count and the phase start at 0. -/
def releaseZero (s : State) : State := (s.setCross 0).put GLB_PERIOD_PHASE_phase 0

/-- The timetable, the schedulers and the sentinels as the release sets them, with the intake open. -/
def releaseOpen (s : State) : State := openIntake (sentinelWrite (forEach halfChannels hcRelease (timetableRelease s)))

/-- The release shown. -/
def releaseShown (us : Nat) (s : State) : State :=
  ((s.put GLB_START_STATUS_released 1).put GLB_START_STATUS_step StartStep.released).put GLB_START_TIME_us (min 0xFFFFFFFF us)

/-- START has ended at this tick. -/
def releaseTaken (x : State) : State := { x with start := { x.start with phase := .ended, ready := false }, purser := { x.purser with releaseTick := x.ticks } }

/-- The release reported, and START ended. -/
def releaseEnded (s : State) : State := releaseTaken ((clearLatch (releaseReports s)).put GLB_SW_FLAGS_reset_seen 1)

theorem startRelease_eq {us : Nat} (h : s.start.phase = .running) (hready : s.start.ready = true) (hcount : s.cross % 16 = 0) :
    startRelease us s = setMode Mode.service (releaseEnded (releaseShown us (releaseOpen (releaseZero s)))) := by
  rw [startRelease]
  exact if_neg (by simp [h, hready, hcount])

theorem timetableRelease_confined : Confined releaseParts releaseReg s (timetableRelease s) := by
  have htables (x : TtSt) : Confined releaseParts releaseReg s { s with tt := x } := (Confined.refl _ _ s).of_touches (l' := [.tt]) rfl
  have hsuspended (u : State) (hu : Confined releaseParts releaseReg s u) : Confined releaseParts releaseReg s (showSuspended u) :=
    ((hu.setReg (by decide)).setReg (by decide)).putFlag (by decide)
  have hslots (u : State) (hu : Confined releaseParts releaseReg s u) : Confined releaseParts releaseReg s (showSlots u) :=
    ((((((((hu.putFlag (by decide)).putFlag (by decide)).putFlag (by decide)).setReg (by decide)).setReg (by decide)).setReg (by decide)).setReg
      (by decide)).setReg (by decide)).setReg (by decide)
  exact hslots _ (hsuspended _ (htables _))

theorem releaseOpen_confined : Confined releaseParts releaseReg s (releaseOpen s) := by
  have hhc : Confined releaseParts releaseReg s (forEach halfChannels hcRelease (timetableRelease s)) :=
    timetableRelease_confined.forEach fun h _ u hu => hu.of_touches (l' := [.hcs]) (.modHc (.refl _ u))
  have hacted (u : State) (h : Nat) : Touches [.activity] u ((u.acted (4 * h) 32).acted (4 * h + 2) 32) := .acted (.acted (.refl _ u))
  have hsent (u : State) (hu : Confined releaseParts releaseReg s u) : Confined releaseParts releaseReg s (sentinelWrite u) := by
    have hsigned (x : AlwaysOn) : Confined releaseParts releaseReg s { u.drew with always := x } :=
      hu.of_touches (l' := [.free, .always]) (Touches.always (.drew (.refl _ u)))
    exact Confined.put ((hsigned _).forEach fun h _ v hv => hv.of_touches (hacted v h)) (by decide)
  have hopened (u : State) (hu : Confined releaseParts releaseReg s u) : Confined releaseParts releaseReg s (openIntake u) :=
    hu.of_touches (l' := [.modes]) rfl
  exact hopened _ (hsent _ hhc)

theorem get_whole (a : Nat) (u : State) : u.get ⟨a, 31, 0⟩ = (u.reg a).toNat := by
  rw [State.get, Word.bits, Nat.pow_zero, Nat.div_one]
  exact Nat.mod_eq_of_lt (u.reg a).isLt

theorem releaseShown_fields {us : Nat} : (releaseShown us s).get GLB_START_STATUS_step = StartStep.released ∧
    (releaseShown us s).get GLB_START_STATUS_released = 1 ∧ ((releaseShown us s).reg GLB_START_TIME).toNat = min 0xFFFFFFFF us ∧
    Confined releaseParts releaseReg s (releaseShown us s) := by
  refine ⟨?_, ?_, ?_, (((Confined.refl _ _ s).put (by decide)).put (by decide)).put (by decide)⟩
  · exact (State.get_put_ne _ _ _ _ (by decide)).trans (State.get_put_self rfl (by decide))
  · exact (State.get_put_ne _ _ _ _ (by decide)).trans ((State.get_put_apart rfl).trans (State.get_put_self rfl (by decide)))
  · have hlt : min 0xFFFFFFFF us < 2 ^ 32 := by omega
    have htime (u : State) : (u.put GLB_START_TIME_us (min 0xFFFFFFFF us)).get GLB_START_TIME_us = min 0xFFFFFFFF us := State.get_put_self rfl hlt
    exact (get_whole _ _).symm.trans (htime _)

theorem SameRegs.causeWith {l : List Nat} (h : SameRegs l s t) {c : CauseBit} {info : Nat} (hc : c.cause ∈ l) : SameRegs l s (t.causeWith c info) :=
  fun a ha => (State.reg_causeWith _ _ _ _).trans ((h.put (f := ⟨c.cause, c.bit, c.bit⟩) hc) a ha)

/-- The registers that the reports of a release write. -/
abbrev reportRegs : List Nat := [THM_EVT_CAUSE, MBX_EVT_CAUSE, PWR_EVT_CAUSE]

theorem releaseReports_kept : Touches [.regs, .events, .always] s (releaseReports s) ∧ SameRegs reportRegs s (releaseReports s) := by
  unfold releaseReports
  extract_lets s1 s2 s3 s4 s5
  have h1 : Touches [.regs, .events, .always] s s1 ∧ SameRegs reportRegs s s1 := ⟨.raiseEvent (.refl _ s), .raiseEvent (.refl _ s)⟩
  have h2 : Touches [.regs, .events, .always] s s2 ∧ SameRegs reportRegs s s2 := ⟨.ite (.raiseEvent h1.1) h1.1, .ite (.raiseEvent h1.2) h1.2⟩
  have h3 : Touches [.regs, .events, .always] s s3 ∧ SameRegs reportRegs s s3 := ⟨.ite (.cause h2.1) h2.1, .ite (.cause h2.2) h2.2⟩
  have h4 : Touches [.regs, .events, .always] s s4 ∧ SameRegs reportRegs s s4 := ⟨.ite (.causeWith h3.1) h3.1, .ite (h3.2.causeWith (by decide)) h3.2⟩
  have h5 : Touches [.regs, .events, .always] s s5 ∧ SameRegs reportRegs s s5 := ⟨.ite (.causeWith h4.1) h4.1, .ite (h4.2.causeWith (by decide)) h4.2⟩
  exact ⟨.modAlways h5.1, .modAlways h5.2⟩

theorem releaseTaken_fields : (releaseTaken s).start.phase = .ended ∧ (releaseTaken s).purser.releaseTick = s.ticks ∧
    (releaseTaken s).regs = s.regs := ⟨rfl, rfl, rfl⟩

theorem releaseEnded_fields : (releaseEnded s).start.phase = .ended ∧ (releaseEnded s).purser.releaseTick = s.ticks ∧
    (releaseEnded s).get GLB_SW_FLAGS_reset_seen = 1 ∧ SameRegs (PWR_WAKE :: GLB_SW_FLAGS :: reportRegs) s (releaseEnded s) := by
  obtain ⟨htouch, hregs⟩ := releaseReports_kept (s := s)
  unfold releaseEnded
  generalize releaseReports s = x at htouch hregs
  have hcleared : SameRegs (PWR_WAKE :: GLB_SW_FLAGS :: reportRegs) s ((clearLatch x).put GLB_SW_FLAGS_reset_seen 1) :=
    ((hregs.mono (by decide)).setReg (by exact .head _)).put (by exact .tail _ (.head _))
  have hseen : ((clearLatch x).put GLB_SW_FLAGS_reset_seen 1).get GLB_SW_FLAGS_reset_seen = 1 := State.get_put_self rfl (by decide)
  have hticks : ((clearLatch x).put GLB_SW_FLAGS_reset_seen 1).ticks = s.ticks := htouch.keeps_ticks
  generalize (clearLatch x).put GLB_SW_FLAGS_reset_seen 1 = y at hcleared hseen hticks
  obtain ⟨hphase, htick, htaken⟩ := releaseTaken_fields (s := y)
  exact ⟨hphase, htick.trans hticks, (State.get_of_regs htaken _).trans hseen, hcleared.trans (.of_regs htaken)⟩

/-- In service the mode shown is SERVICE or THROTTLED. -/
theorem mode_setMode_service : (setMode Mode.service s).mode = Mode.service ∨ (setMode Mode.service s).mode = Mode.throttled := by
  have hput (u : State) (m : Nat) (hm : m < 16) : (u.put PWR_MODE_mode m).mode = m := State.get_put_self rfl hm
  rw [setMode]
  have hin : (s.put PWR_MODE_mode Mode.service).inService = true := by rw [State.inService, hput _ _ (by decide)]; rfl
  generalize s.put PWR_MODE_mode Mode.service = x at hin
  rw [showMode, hin, if_pos rfl]
  split
  · exact .inr (hput _ _ (by decide))
  · exact .inl (hput _ _ (by decide))

theorem startRelease_fields {us : Nat} (h : s.start.phase = .running) (hready : s.start.ready = true) (hcount : s.cross % 16 = 0) :
    (startRelease us s).start.phase = .ended ∧ ((startRelease us s).mode = Mode.service ∨ (startRelease us s).mode = Mode.throttled) ∧
      (startRelease us s).get GLB_START_STATUS_step = StartStep.released ∧ (startRelease us s).get GLB_START_STATUS_released = 1 ∧
      ((startRelease us s).reg GLB_START_TIME).toNat = min 0xFFFFFFFF us ∧ (startRelease us s).get GLB_SW_FLAGS_reset_seen = 1 ∧
      (startRelease us s).cross = 0 ∧ (startRelease us s).phase = 0 ∧ (startRelease us s).purser.releaseTick = s.ticks := by
  have hzero : (releaseZero s).cross = 0 ∧ (releaseZero s).phase = 0 ∧ (releaseZero s).ticks = s.ticks :=
    ⟨(cross_congr (State.reg_setReg_ne _ _ (by decide)) (State.reg_setReg_ne _ _ (by decide))).trans cross_setCross_zero,
      State.get_put_self rfl (by decide), rfl⟩
  rw [startRelease_eq h hready hcount]
  generalize releaseZero s = x at hzero
  have hopen := releaseOpen_confined (s := x)
  generalize releaseOpen x = y at hopen
  obtain ⟨hstep, hreleased, htime, hshown⟩ := releaseShown_fields (s := y) (us := us)
  have hconf := hopen.trans hshown
  generalize releaseShown us y = z at hstep hreleased htime hconf
  obtain ⟨hphase, htick, hseen, hregs⟩ := releaseEnded_fields (s := z)
  generalize releaseEnded z = w at hphase htick hseen hregs
  have honly := setMode_only (m := Mode.service) (s := w)
  have hset := setMode_regs (m := Mode.service) (s := w)
  have hkept (a : Nat) (ha : a ∉ PWR_MODE :: PWR_WAKE :: GLB_SW_FLAGS :: reportRegs) : (setMode Mode.service w).reg a = z.reg a :=
    (hset a fun hm => ha (by rw [List.mem_singleton.1 hm]; exact .head _)).trans (hregs a fun hm => ha (.tail _ hm))
  have hcount' (a : Nat) (ha : a ∉ PWR_MODE :: PWR_WAKE :: GLB_SW_FLAGS :: reportRegs) (hr : ¬ releaseReg a) : (setMode Mode.service w).reg a = x.reg a :=
    (hkept a ha).trans (hconf.regs a hr)
  refine ⟨?_, mode_setMode_service, (State.get_of_reg (hkept _ (by decide))).trans hstep, (State.get_of_reg (hkept _ (by decide))).trans hreleased, ?_,
    (hset.get (by decide)).trans hseen, ?_, ?_, ?_⟩
  · rw [honly.keep (F := State.start) (fun _ => rfl) rfl, hphase]
  · rw [hkept _ (by decide), htime]
  · exact (cross_congr (hcount' _ (by decide) (by decide)) (hcount' _ (by decide) (by decide))).trans hzero.1
  · exact (State.get_of_reg (hcount' _ (by decide) (by decide))).trans hzero.2.1
  · rw [honly.keep (F := State.purser) (fun _ => rfl) rfl, htick, hconf.touches.keeps_ticks, hzero.2.2]

end

/-- Settles O5: each step's command is its own chain of writes, and the last of them shows the next step. -/
theorem startRunsItsSteps : Obligations.StartRunsItsSteps := by
  unfold Obligations.StartRunsItsSteps
  intro s
  refine ⟨fun hphase hvaon hreset hgood htrip hrails => ?_, fun hphase hrails => ?_, fun h plls => ⟨_, rfl, startArm_fields plls h⟩,
    fun h bad incomplete => ⟨_, rfl, startFuse_fields h⟩, fun h hruns hskip b c hok => ⟨_, rfl, startBoot_fields h hruns hskip hok⟩,
    fun h ledger found hpass => ⟨_, rfl, startSelftest_fields h hpass⟩, fun h out dies hpass => ⟨_, congrArg Host.Outcome.next (startTrain_passes h hpass),
      State.get_put_self rfl (by decide)⟩, fun h hready bad us => ?_, fun h hready => ?_,
    fun hphase hready hcount us => ⟨_, rfl, startRelease_fields hphase hready hcount⟩⟩
  · have heq : startPins s = startBegin s := if_pos (by simp [hphase, hvaon, hreset, hgood, htrip, hrails])
    exact ⟨_, congrArg Host.Outcome.next heq, startBegin_fields⟩
  · have heq : startDelay s = startBegin s := if_pos (by simp [hphase, hrails])
    obtain ⟨hphase', hstep, hmode, hrequest, -⟩ := startBegin_fields (s := s)
    exact ⟨_, congrArg Host.Outcome.next heq, hphase', hstep, hmode, hrequest⟩
  · obtain ⟨x, heq⟩ := startInit_ends (bad := bad) (us := us) h hready
    obtain ⟨hstep, halways⟩ := initEnded_fields (s := x.modAlways fun y => { y with railsHeld := true })
    exact ⟨_, congrArg Host.Outcome.next heq, hstep, by rw [halways]; rfl⟩
  · have heq : startWarmup true s = s.modStart fun x => { x with ready := true } :=
      (if_neg (by rw [h, hready]; decide)).trans (if_pos rfl)
    exact congrArg Host.Outcome.next heq

end Sys2Proof.Machine
end

section
/-!
PROOF. What the stages of a port, its falls and its retrains change, field by field.
-/
set_option autoImplicit false
set_option Elab.async false

namespace Sys2Proof.Machine
open Reg Bit

/-! ### Registers of lanes, of ports and of links -/

/-- The registers of lanes. -/
abbrev laneReg (a : Nat) : Prop := 0x10000 ≤ a ∧ a < 0x18000

/-- The registers of lanes but the receive level and the CDR's status. -/
abbrev quietReg (a : Nat) : Prop := laneReg a ∧ a % 0x100 ≠ 0x64 ∧ a % 0x100 ≠ 0x68

/-- The registers of links and of the fabric. -/
abbrev linkReg (a : Nat) : Prop := 0x50000 ≤ a

abbrev laneParts : List Part := [.regs, .events, .lanes, .free]

abbrev linkParts : List Part := [.regs, .events, .links]

theorem quietReg_lane {b l : Nat} (hl : l < 128) (hb : (0x10000 ≤ b ∧ b < 0x10100) ∧ b % 0x100 ≠ 0x64 ∧ b % 0x100 ≠ 0x68 := by decide) :
    quietReg (b + 0x100 * l) := ⟨⟨by omega, by omega⟩, by omega, by omega⟩

theorem laneReg_lane {b l : Nat} (hl : l < 128) (hb : 0x10000 ≤ b ∧ b < 0x10100 := by decide) : laneReg (b + 0x100 * l) := ⟨by omega, by omega⟩

namespace Confined
variable {s t : State} {p l : Nat}

/-! The link of a port that falls, within links. -/

theorem queueResponse_links (h : Confined linkParts linkReg s t) {o : Outgoing} : Confined linkParts linkReg s (Machine.queueResponse p o t) := by
  have hjoin {q : Nat} {o : Outgoing} : Confined linkParts linkReg s (Machine.joinResponses q o t) := .ite h h.modLink
  have hfree : Confined linkParts linkReg s (Machine.freeOutgoing o t) := by
    unfold Machine.freeOutgoing
    split
    · exact h
    · exact h.modLink
  have hlink {b : Nat} (hb : 0x50000 ≤ b := by decide) : linkReg (b + 0x400 * p) := by simp only [linkReg]; omega
  refine .ite hjoin (.ite hfree ?_)
  split
  · exact hjoin
  · refine .ite ((hfree.addSat hlink).cause hlink) ?_
    unfold Machine.routeResponse
    split
    · exact (h.addSat (by decide)).cause (by decide)
    · exact .ite ((h.addSat (by decide)).cause (by decide)) hjoin

theorem linkFall_links (h : Confined linkParts linkReg s t) : Confined linkParts linkReg s (Machine.linkFall p t) :=
  (h.modLink.forEach fun _ _ _ ih => ih.queueResponse_links).forEach fun _ _ _ ih => .ite ih.modLink ih

/-! The lanes of a port whose stage changes. -/

theorem eyeAbort_quiet (h : Confined laneParts quietReg s t) (hl : l < 128) : Confined laneParts quietReg s (Machine.eyeAbort l t) :=
  have hr {b : Nat} (hb : (0x10000 ≤ b ∧ b < 0x10100) ∧ b % 0x100 ≠ 0x64 ∧ b % 0x100 ≠ 0x68 := by decide) : quietReg (b + 0x100 * l) :=
    quietReg_lane hl hb
  .ite h ((((h.put hr).put hr).put hr).cause hr)

theorem devicePrbs_quiet (h : Confined laneParts quietReg s t) (hl : l < 128) {on : Bool} : Confined laneParts quietReg s (Machine.devicePrbs l on t) :=
  have hr {b : Nat} (hb : (0x10000 ≤ b ∧ b < 0x10100) ∧ b % 0x100 ≠ 0x64 ∧ b % 0x100 ≠ 0x68 := by decide) : quietReg (b + 0x100 * l) :=
    quietReg_lane hl hb
  .ite ((((((h.put hr).put hr).put hr).put hr).put hr).put hr) (((h.put hr).put hr).put hr)

end Confined

/-- What a change of stage does to a lane of the port. -/
def laneStage (p st : Nat) (outside : Bool) (l : Nat) (s : State) : State :=
  let s1 := maskFollows l st (eyeAbort l s)
  let s2 := if st ≤ 1 then (s1.put (LANE_RX_LEVEL_los l) 0).put (LANE_CDR_STATUS_lock l) 0 else s1
  let s3 := if s.stage p = 5 && st ≠ 5 then devicePrbs l false s2 else s2
  let s4 := if outside && decide (2 ≤ st ∧ st ≤ 6) then trainingRegs l s3 else s3
  if st = 2 || st = 4 then
    (s4.drew).modLane l fun x => { x with
      threshold := false, readyRun := 0, lastRequest := 0, tapStatus := 0, request := 0, initAsk := natBit (Config.freeValue s4.free) 0,
      peerStatus := 0, peerStep := false }
  else if st = 6 then
    s4.modLane l fun x => { x with
      innerZero := 0, innerBad := 0, innerLocked := false, innerOffset := 0, innerBits := [], innerRest := [], innerSent := [] }
  else s4

/-- What a change of stage to S3 or S6 begins afresh. -/
def lockBegin (x : PortSt) : PortSt :=
  { x with lockPairs := 0, countdown := none, txSwitched := false, rxSwitched := false, flitRun := 0,
           uncorrRun := 0, pairHalf := none, cwSeen := 0, blkSeen := 0, badCw := [], txBlocks := [], txPair := ([], []) }

/-- The stage shown, with no hold, and the tick at which it began. -/
def stageShown (p st now : Nat) (s : State) : State :=
  ((s.put (PORT_STATUS_stage p) st).put (PORT_STATUS_hold p) 0).modPort p fun x => { x with stageTick := now }

/-- The locks of the FEC sublayer shown afresh, at a change to S3 or S6. -/
def locksAfresh (p : Nat) (s : State) : State :=
  ((((s.modPort p lockBegin).put (PORT_FEC_STATUS_rs_lock p) 0).put (PORT_FEC_STATUS_inner_lock p) 0).put
    (PORT_FEC_STATUS_lane_aligned p) 0).put (PORT_FEC_STATUS_flit_lock p) 0

/-- What a change of stage shows of the port. -/
def showStage (p st now : Nat) (s : State) : State :=
  { (if st = 3 || st = 6 then locksAfresh p (stageShown p st now s) else stageShown p st now s) with
    chargeDue := insertSorted p (if st = 3 || st = 6 then locksAfresh p (stageShown p st now s) else stageShown p st now s).chargeDue }

theorem setStage_eq (p st : Nat) (s : State) : setStage p st s =
    showStage p st s.ticks (forEach (lanesOf p) (laneStage p st (s.stage p ≤ 1 || s.stage p == 7)) s) := rfl

/-! ### Fields that stand -/

/-- A write of g leaves the field f: another register, or other bits. -/
def Off (g f : Field) : Prop := f.addr ≠ g.addr ∨ apart g f = true

theorem ne_port {a b p : Nat} (h : a ≠ b := by decide) : a + 0x400 * p ≠ b + 0x400 * p := fun e => h (Nat.add_right_cancel e)

/-- The field f reads as before. -/
def Keeps (f : Field) (s t : State) : Prop := t.get f = s.get f

namespace Keeps
variable {f : Field} {s t u : State}

theorem refl (f : Field) (s : State) : Keeps f s s := Eq.refl _
theorem trans (h : Keeps f s t) (h' : Keeps f t u) : Keeps f s u := Eq.trans h' h
theorem reg (h : Keeps f s t) (hr : u.reg f.addr = t.reg f.addr) : Keeps f s u := h.trans (State.get_of_reg hr)

theorem put (h : Keeps f s t) {g : Field} {v : Nat} (hoff : Off g f) : Keeps f s (t.put g v) :=
  h.trans (hoff.elim (fun hne => State.get_put_ne _ _ _ _ hne) fun hapart => State.get_put_apart hapart)

theorem cause (h : Keeps f s t) {c : CauseBit} (hne : f.addr ≠ c.cause) : Keeps f s (t.cause c) := h.reg (State.reg_cause_ne _ hne)

theorem confined (h : Keeps f s t) {l : List Part} {P : Nat → Prop} (hc : Confined l P t u) (hf : ¬P f.addr) : Keeps f s u := h.trans (hc.get hf)

theorem ite {c : Prop} {_ : Decidable c} (ht : Keeps f s t) (hu : Keeps f s u) : Keeps f s (if c then t else u) := by
  split
  · exact ht
  · exact hu

theorem flag (h : Keeps f s t) : t.flag f = s.flag f := State.flag_eq_of_get h

end Keeps

theorem not_laneReg {b p : Nat} (hb : 0x18000 ≤ b := by decide) : ¬laneReg (b + 0x400 * p) := fun h => absurd h.2 (by omega)

theorem not_linkReg {b p : Nat} (hp : p < 16) (hb : b < 0x44000 := by decide) : ¬linkReg (b + 0x400 * p) := by simp only [linkReg]; omega

/-! ### A change of stage -/

section
variable {s : State} {p st : Nat}

theorem laneStage_confined {t : State} {P : Nat → Prop} {l : Nat} {outside : Bool} (h : Confined laneParts P s t) (hl : l < 128)
    (hP : ∀ a, quietReg a → P a) (hlow : st ≤ 1 → ∀ a, laneReg a → P a) : Confined laneParts P s (laneStage p st outside l t) := by
  unfold laneStage
  extract_lets u1 u2 u3 u4
  have hq {b : Nat} (hb : (0x10000 ≤ b ∧ b < 0x10100) ∧ b % 0x100 ≠ 0x64 ∧ b % 0x100 ≠ 0x68 := by decide) : quietReg (b + 0x100 * l) :=
    quietReg_lane hl hb
  have hr (u : State) : Confined laneParts quietReg u u := .refl _ _ u
  have h0 : Confined laneParts P s (eyeAbort l t) := h.trans (((hr t).eyeAbort_quiet hl).mono (fun _ h => h) hP)
  have h1 : Confined laneParts P s u1 :=
    .ite h0 (h0.trans (((hr _).modLane.put hq).mono (fun _ h => h) hP))
  have h2 : Confined laneParts P s u2 := by
    by_cases hst : st ≤ 1
    · exact .ite ((h1.put (hlow hst _ (laneReg_lane hl))).put (hlow hst _ (laneReg_lane hl))) h1
    · rw [show u2 = u1 from if_neg hst]
      exact h1
  have h3 : Confined laneParts P s u3 := .ite (h2.trans (((hr u2).devicePrbs_quiet hl).mono (fun _ h => h) hP)) h2
  have h4 : Confined laneParts P s u4 := .ite (h3.trans (((((hr u3).setReg hq).setReg hq).setReg hq).mono (fun _ h => h) hP)) h3
  exact .ite h4.drew.modLane (.ite h4.modLane h4)

/-- The lanes of a port at a change of stage. -/
theorem stageLanes_confined {P : Nat → Prop} {outside : Bool} (hp : p < 16) (hP : ∀ a, quietReg a → P a) (hlow : st ≤ 1 → ∀ a, laneReg a → P a) :
    Confined laneParts P s (forEach (lanesOf p) (laneStage p st outside) s) :=
  (Confined.refl _ _ s).forEach fun _ hl _ ih => laneStage_confined ih (lt_of_mem_lanesOf hp hl) hP hlow

theorem port_stageShown {now : Nat} : (stageShown p st now s).port p = { s.port p with stageTick := now } := State.port_modPort _ _ _

theorem port_locksAfresh : (locksAfresh p s).port p = lockBegin (s.port p) :=
  ((RegsAndEvents.refl (s.modPort p lockBegin)).put.put.put.put.port p).trans (State.port_modPort _ _ _)

theorem keeps_stageShown {f : Field} {now : Nat} (hstage : Off (PORT_STATUS_stage p) f) (hhold : Off (PORT_STATUS_hold p) f) :
    Keeps f s (stageShown p st now s) := ((Keeps.refl f s).put (v := st) hstage).trans (((Keeps.refl f _).put (v := 0) hhold).reg rfl)

theorem keeps_locksAfresh {f : Field} (hfec : f.addr ≠ PORT_FEC_STATUS p) : Keeps f s (locksAfresh p s) :=
  ((((Keeps.refl f s).reg (u := s.modPort p lockBegin) rfl).put (.inl hfec)).put (.inl hfec)).put (.inl hfec) |>.put (.inl hfec)

theorem port_showStage {now : Nat} : (showStage p st now s).port p =
    if st = 3 || st = 6 then lockBegin { s.port p with stageTick := now } else { s.port p with stageTick := now } := by
  change (if st = 3 || st = 6 then locksAfresh p (stageShown p st now s) else stageShown p st now s).port p = _
  split
  · rw [port_locksAfresh, port_stageShown]
  · exact port_stageShown

theorem keeps_showStage {f : Field} {now : Nat} (hstage : Off (PORT_STATUS_stage p) f) (hhold : Off (PORT_STATUS_hold p) f)
    (hfec : f.addr ≠ PORT_FEC_STATUS p) : Keeps f s (showStage p st now s) :=
  have h2 := keeps_stageShown (s := s) (st := st) (now := now) hstage hhold
  Keeps.ite (h2.trans (keeps_locksAfresh hfec)) h2

/-- The parts that a change of stage changes. -/
abbrev stageParts : List Part := [.regs, .events, .lanes, .free, .ports, .chargeDue]

theorem stageShown_touches {now : Nat} : Touches stageParts s (stageShown p st now s) := (((Touches.refl _ s).put).put).modPort

theorem locksAfresh_touches : Touches stageParts s (locksAfresh p s) := (((((Touches.refl _ s).modPort).put).put).put).put

theorem showStage_touches {now : Nat} : Touches stageParts s (showStage p st now s) :=
  (Touches.ite (stageShown_touches.trans locksAfresh_touches) stageShown_touches).chargeDue

end

section
variable {s : State} {p st : Nat}

theorem setStage_touches (hp : p < 16) : Touches stageParts s (setStage p st s) := by
  rw [setStage_eq]
  exact ((stageLanes_confined (P := laneReg) hp (fun _ h => h.1) fun _ _ h => h).touches.mono (by decide)).trans showStage_touches

/-- A field outside the lanes that the change of stage does not write. -/
theorem keeps_setStage {f : Field} (hp : p < 16) (hstage : Off (PORT_STATUS_stage p) f) (hhold : Off (PORT_STATUS_hold p) f)
    (hfec : f.addr ≠ PORT_FEC_STATUS p) (hlane : ¬laneReg f.addr) : Keeps f s (setStage p st s) := by
  rw [setStage_eq]
  exact ((Keeps.refl f s).confined (stageLanes_confined (P := laneReg) hp (fun _ h => h.1) fun _ _ h => h) hlane).trans
    (keeps_showStage hstage hhold hfec)

/-- From S2 on, the receive level and the CDR's status stand. -/
theorem keeps_setStage_quiet {f : Field} (hp : p < 16) (hst : 2 ≤ st) (hstage : Off (PORT_STATUS_stage p) f) (hhold : Off (PORT_STATUS_hold p) f)
    (hfec : f.addr ≠ PORT_FEC_STATUS p) (hlane : ¬quietReg f.addr) : Keeps f s (setStage p st s) := by
  rw [setStage_eq]
  exact ((Keeps.refl f s).confined (stageLanes_confined (P := quietReg) hp (fun _ h => h) fun h => absurd h (by omega)) hlane).trans
    (keeps_showStage hstage hhold hfec)

/-- A field that a change of stage shows, unless it is one of the FEC sublayer. -/
theorem get_setStage {f : Field} (hfec : f.addr ≠ PORT_FEC_STATUS p) : ∃ u, (setStage p st s).get f = (stageShown p st s.ticks u).get f := by
  rw [setStage_eq]
  exact ⟨_, Keeps.ite (keeps_locksAfresh hfec) (.refl _ _)⟩

theorem setStage_stage (hst : st < 16) : (setStage p st s).stage p = st := by
  obtain ⟨u, hu⟩ := get_setStage (s := s) (p := p) (st := st) (f := PORT_STATUS_stage p) ne_port
  exact hu.trans ((State.get_modPort _ _ _ _).trans ((State.get_put_apart rfl).trans (State.get_put_self rfl hst)))

theorem setStage_hold : (setStage p st s).get (PORT_STATUS_hold p) = 0 := by
  obtain ⟨u, hu⟩ := get_setStage (s := s) (p := p) (st := st) (f := PORT_STATUS_hold p) ne_port
  exact hu.trans ((State.get_modPort _ _ _ _).trans (State.get_put_self rfl (Nat.two_pow_pos _)))

theorem port_setStage (hp : p < 16) : (setStage p st s).port p =
    if st = 3 || st = 6 then lockBegin { s.port p with stageTick := s.ticks } else { s.port p with stageTick := s.ticks } := by
  rw [setStage_eq, port_showStage]
  have hc : Confined laneParts laneReg s (forEach (lanesOf p) (laneStage p st (s.stage p ≤ 1 || s.stage p == 7)) s) :=
    stageLanes_confined hp (fun _ h => h.1) fun _ _ h => h
  generalize forEach (lanesOf p) _ s = u at hc ⊢
  rw [State.port_of_ports hc.touches.keeps_ports p]

end

/-! ### The entry of S5 -/

section
variable {s : State} {p : Nat}

/-- A field of neither the stage, nor the hold, nor the FEC sublayer, nor the lanes' changes at a stage. -/
structure StageOff (p : Nat) (f : Field) : Prop where
  stage : Off (PORT_STATUS_stage p) f
  hold : Off (PORT_STATUS_hold p) f
  fec : f.addr ≠ PORT_FEC_STATUS p
  lane : ¬quietReg f.addr

theorem applyLanes_confined : Confined laneParts quietReg s (forEach (lanesOf p) applyLaneCtrl s) :=
  (Confined.refl _ _ s).forEach fun _ _ _ ih => ih.modLane

theorem prbsLanes_confined (hp : p < 16) {on : Bool} : Confined laneParts quietReg s (forEach (lanesOf p) (fun l s => devicePrbs l on s) s) :=
  (Confined.refl _ _ s).forEach fun _ hl _ ih => ih.devicePrbs_quiet (lt_of_mem_lanesOf hp hl)

theorem enterS5_eq : enterS5 p s = if s.flag (PORT_CTRL_test_hold p) then forEach (lanesOf p) applyLaneCtrl ((setStage p 5 s).put (PORT_STATUS_hold p) 1)
    else forEach (lanesOf p) (fun l s => devicePrbs l true s) (setStage p 5 s) := rfl

theorem keeps_enterS5 {f : Field} (hp : p < 16) (h : StageOff p f) : Keeps f s (enterS5 p s) := by
  have hstage : Keeps f s (setStage p 5 s) := keeps_setStage_quiet hp (by decide) h.stage h.hold h.fec h.lane
  rw [enterS5_eq]
  exact .ite ((hstage.put h.hold).confined applyLanes_confined h.lane) (hstage.confined (prbsLanes_confined hp) h.lane)

theorem not_quietReg {b p : Nat} (hb : 0x18000 ≤ b := by decide) : ¬quietReg (b + 0x400 * p) := fun h => not_laneReg hb h.1

theorem enterS5_stage (hp : p < 16) : (enterS5 p s).stage p = 5 := by
  have hstage : (setStage p 5 s).get (PORT_STATUS_stage p) = 5 := setStage_stage (by decide)
  rw [State.stage, enterS5_eq]
  split
  · exact (applyLanes_confined.get not_quietReg).trans ((State.get_put_apart rfl).trans hstage)
  · exact ((prbsLanes_confined hp).get not_quietReg).trans hstage

theorem enterS5_hold (hp : p < 16) : (enterS5 p s).get (PORT_STATUS_hold p) = if s.flag (PORT_CTRL_test_hold p) then 1 else 0 := by
  rw [enterS5_eq]
  split
  · exact (applyLanes_confined.get not_quietReg).trans (State.get_put_self rfl (by simp [PORT_STATUS_hold]))
  · exact ((prbsLanes_confined hp).get not_quietReg).trans setStage_hold

theorem enterS5_touches (hp : p < 16) : Touches stageParts s (enterS5 p s) := by
  rw [enterS5_eq]
  have hstage : Touches stageParts s (setStage p 5 s) := setStage_touches hp
  exact .ite ((hstage.put).trans (applyLanes_confined.touches.mono (by decide))) (hstage.trans ((prbsLanes_confined hp).touches.mono (by decide)))

theorem port_enterS5 (hp : p < 16) : (enterS5 p s).port p = { s.port p with stageTick := s.ticks } := by
  have hstage : (setStage p 5 s).port p = { s.port p with stageTick := s.ticks } := port_setStage hp
  rw [enterS5_eq]
  split
  · exact (State.port_of_ports (Touches.keeps_ports applyLanes_confined.touches) p).trans ((RegsAndEvents.put (.refl _)).port p |>.trans hstage)
  · exact (State.port_of_ports (Touches.keeps_ports (prbsLanes_confined hp).touches) p).trans hstage

end

/-! ### The course of a retrain -/

section
variable {s : State} {p : Nat}

abbrev retrainParts : List Part := [.regs, .events, .lanes, .free, .ports, .chargeDue, .fab, .asks]

/-- A field that the course of a retrain does not write. -/
structure RetrainOff (p : Nat) (f : Field) : Prop where
  fall : f.addr ≠ PORT_FALL p
  cause : f.addr ≠ PORT_EVT_CAUSE p
  neg : f.addr ≠ PORT_NEG p
  go : Off (PORT_CTRL_step_go p) f
  gen : Off (PORT_STATUS_target_gen p) f
  reach : Off (PORT_STATUS_target_reach p) f

theorem departS7_eq {cause : Nat} (h : s.stage p = 7) : departS7 p cause s =
    (((s.addField (PORT_FALL_falls p) 1).put (PORT_FALL_last_cause p) cause).cause (Cause.PORT_down p)).modFab p fun x =>
      { x with due := true, beaconSeen := false, reason := 1, s7Sum := x.s7Sum + (s.ticks - x.s7In) } := if_pos h

theorem keeps_departS7 {f : Field} {cause : Nat} (hfall : f.addr ≠ PORT_FALL p) (hcause : f.addr ≠ PORT_EVT_CAUSE p) :
    Keeps f s (departS7 p cause s) := by
  refine Keeps.ite (.trans ?_ (State.get_modFab _ _ _ _)) (.refl f s)
  exact (((Keeps.refl f s).put (.inl hfall)).put (.inl hfall)).cause hcause

theorem keeps_stepDropped {f : Field} (hneg : f.addr ≠ PORT_NEG p) (hgo : Off (PORT_CTRL_step_go p) f) (hcause : f.addr ≠ PORT_EVT_CAUSE p) :
    Keeps f s (stepDropped p s) := Keeps.ite ((((Keeps.refl f s).put (.inl hneg)).put hgo).cause hcause) (.refl f s)

/-- What the course of a retrain makes of the port. -/
def retrainBegin (cause : Nat) (waiting : Bool) (x : PortSt) : PortSt :=
  { x with qrWaiting := waiting, qrCause := cause, keepLink := true, path := .quick, stepping := none, stepDue := none }

theorem keeps_setTarget {f : Field} {gen reach : Nat} (hgen : Off (PORT_STATUS_target_gen p) f) (hreach : Off (PORT_STATUS_target_reach p) f) :
    Keeps f s (setTarget p gen reach s) :=
  (((Keeps.refl f s).put (v := gen) hgen).put (v := reach) hreach).trans (State.get_of_regs rfl f)

theorem keeps_retrainCourse {f : Field} {cause : Nat} {waiting : Bool} (h : RetrainOff p f) : Keeps f s (retrainCourse p cause waiting s) := by
  have h1 : Keeps f s (stepDropped p (dropAsk p (departS7 p cause s))) :=
    ((keeps_departS7 h.fall h.cause).trans (State.get_of_regs rfl f)).trans (keeps_stepDropped h.neg h.go h.cause)
  exact ((h1.trans (State.get_modPort _ _ _ _)).trans (keeps_setTarget h.gen h.reach)).cause h.cause

theorem retrainCourse_lastCause {cause : Nat} {waiting : Bool} (h7 : s.stage p = 7) (hcause : cause < 256) :
    (retrainCourse p cause waiting s).get (PORT_FALL_last_cause p) = cause := by
  have h0 : (departS7 p cause s).get (PORT_FALL_last_cause p) = cause := by
    rw [departS7_eq h7]
    exact (State.get_modFab _ _ _ _).trans ((State.get_cause_ne _ ne_port).trans (State.get_put_self rfl hcause))
  have h1 : Keeps (PORT_FALL_last_cause p) (departS7 p cause s) (stepDropped p (dropAsk p (departS7 p cause s))) :=
    (Keeps.trans (Keeps.refl _ _) (State.get_of_regs rfl _)).trans (keeps_stepDropped ne_port (.inl ne_port) ne_port)
  exact Eq.trans (((h1.trans (State.get_modPort _ _ _ _)).trans (keeps_setTarget (.inl ne_port) (.inl ne_port))).cause
    (c := Cause.PORT_quick_retrain p) ne_port) h0

theorem retrainCourse_touches {cause : Nat} {waiting : Bool} : Touches retrainParts s (retrainCourse p cause waiting s) := by
  have h0 : Touches retrainParts s (departS7 p cause s) := .ite (((((Touches.refl _ s).addField).put).cause).modFab) (.refl _ s)
  have h1 : Touches retrainParts s (dropAsk p (departS7 p cause s)) := h0.asks
  have h2 : Touches retrainParts s (stepDropped p (dropAsk p (departS7 p cause s))) := .ite (((h1.put).put).cause) h1
  exact ((((h2.modPort).put).put).chargeDue).cause

theorem port_retrainCourse {cause : Nat} {waiting : Bool} : (retrainCourse p cause waiting s).port p = retrainBegin cause waiting (s.port p) := by
  have h0 : (stepDropped p (dropAsk p (departS7 p cause s))).port p = s.port p := by
    refine State.port_of_ports ?_ p
    have hd : Touches [.regs, .events, .fab, .asks] s (dropAsk p (departS7 p cause s)) :=
      Touches.asks (.ite (((((Touches.refl _ s).addField).put).cause).modFab) (.refl _ s))
    exact (Touches.ite (((hd.put).put).cause) hd : Touches [.regs, .events, .fab, .asks] s (stepDropped p (dropAsk p (departS7 p cause s)))).keeps_ports
  generalize hu : stepDropped p (dropAsk p (departS7 p cause s)) = u at h0
  have h1 : Touches [.regs, .events, .chargeDue] (u.modPort p (retrainBegin cause waiting))
      (retrainCourse p cause waiting s) := by
    rw [retrainCourse, hu]
    exact ((((Touches.refl _ _).put).put).chargeDue).cause
  exact (State.port_of_ports h1.keeps_ports p).trans ((State.port_modPort _ _ _).trans (congrArg _ h0))

end

/-! ### The begin of a retrain -/

section
variable {s : State} {p cause : Nat}

/-- A quick retrain from S7: its course, the request to the peer, and S5. -/
theorem startRetrain_eq (h7 : s.stage p = 7) :
    startRetrain p cause s = enterS5 p (towEnqueue p [0x04, BitVec.ofNat 8 cause] (retrainCourse p cause true s)) := by
  rw [startRetrain, if_neg (by omega), if_neg (by omega)]

theorem towEnqueue_touches (m : List Byte) : Touches [.tows] s (towEnqueue p m s) := (Touches.refl _ s).modTow

theorem keeps_towEnqueue (f : Field) (m : List Byte) : Keeps f s (towEnqueue p m s) := State.get_modTow _ _ _ _

theorem keeps_startRetrain {f : Field} (hp : p < 16) (h7 : s.stage p = 7) (h : RetrainOff p f) (hst : StageOff p f) :
    Keeps f s (startRetrain p cause s) := by
  rw [startRetrain_eq h7]
  exact ((keeps_retrainCourse h).trans (keeps_towEnqueue _ _)).trans (keeps_enterS5 hp hst)

theorem startRetrain_stage (hp : p < 16) (h7 : s.stage p = 7) : (startRetrain p cause s).stage p = 5 := by
  rw [startRetrain_eq h7]
  exact enterS5_stage hp

theorem retrainOff_testHold : RetrainOff p (PORT_CTRL_test_hold p) := ⟨ne_port, ne_port, ne_port, .inr rfl, .inl ne_port, .inl ne_port⟩

theorem startRetrain_hold (hp : p < 16) (h7 : s.stage p = 7) :
    (startRetrain p cause s).get (PORT_STATUS_hold p) = if s.flag (PORT_CTRL_test_hold p) then 1 else 0 := by
  rw [startRetrain_eq h7, enterS5_hold hp, Keeps.flag ((keeps_retrainCourse retrainOff_testHold).trans (keeps_towEnqueue _ _))]

theorem stageOff_lastCause : StageOff p (PORT_FALL_last_cause p) := ⟨.inl ne_port, .inl ne_port, ne_port, not_quietReg⟩

theorem startRetrain_lastCause (hp : p < 16) (h7 : s.stage p = 7) (hcause : cause < 256) :
    (startRetrain p cause s).get (PORT_FALL_last_cause p) = cause := by
  rw [startRetrain_eq h7]
  exact Eq.trans ((keeps_towEnqueue _ _).trans (keeps_enterS5 hp stageOff_lastCause)) (retrainCourse_lastCause h7 hcause)

theorem port_startRetrain (hp : p < 16) (h7 : s.stage p = 7) : ∃ n, (startRetrain p cause s).port p =
    { retrainBegin cause true (s.port p) with stageTick := n } := by
  rw [startRetrain_eq h7, port_enterS5 hp, State.port_of_ports (towEnqueue_touches _).keeps_ports p, port_retrainCourse]
  exact ⟨_, rfl⟩

theorem retrainOff_gen : RetrainOff p (PORT_STATUS_gen p) := ⟨ne_port, ne_port, ne_port, .inl ne_port, .inr rfl, .inr rfl⟩

theorem stageOff_gen : StageOff p (PORT_STATUS_gen p) := ⟨.inr rfl, .inr rfl, ne_port, not_quietReg⟩

theorem startRetrain_gen (hp : p < 16) (h7 : s.stage p = 7) : (startRetrain p cause s).get (PORT_STATUS_gen p) = s.get (PORT_STATUS_gen p) :=
  keeps_startRetrain hp h7 retrainOff_gen stageOff_gen

/-- The receive level and the CDR's status of a lane stand. -/
theorem startRetrain_lane {f : Field} (hp : p < 16) (h7 : s.stage p = 7) (hl : laneReg f.addr) (hf : f.addr % 0x100 = 0x64 ∨ f.addr % 0x100 = 0x68) :
    Keeps f s (startRetrain p cause s) := by
  have hne {b : Nat} (hb : 0x18000 ≤ b := by decide) : f.addr ≠ b + 0x400 * p := fun e => absurd hl.2 (by omega)
  exact keeps_startRetrain hp h7 ⟨hne, hne, hne, .inl hne, .inl hne, .inl hne⟩ ⟨.inl hne, .inl hne, hne, fun h => hf.elim h.2.1 h.2.2⟩

end

end Sys2Proof.Machine
end

section
/-!
PROOF. The events of a lane: its PLL, level, CDR, checker, eye, mask window, divergence and coefficients.
-/
set_option autoImplicit false
set_option Elab.async false

namespace Sys2Proof.Machine
open Reg Bit

theorem ne_lane {a b l : Nat} (h : a ≠ b := by decide) : a + 0x100 * l ≠ b + 0x100 * l := fun e => h (Nat.add_right_cancel e)

theorem port_ne_lane {a b l p : Nat} (hl : l < 128) (ha : 0x40000 ≤ a := by decide) (hb : b < 0x10100 := by decide) : a + 0x400 * p ≠ b + 0x100 * l := by
  omega

section
variable {s t : State} {l : Nat}

/-! ### PLLs -/

theorem mem_quadrant {pll p : Nat} (hpll : pll < 8) (h : p ∈ (List.range 4).map fun i => 4 * (pll / 2) + i) : p < 16 := by
  obtain ⟨i, hi, rfl⟩ := List.mem_map.1 h
  have := List.mem_range.1 hi
  omega

theorem pllStatus_not_bringup : ¬bringupReg LANE_PLL_STATUS_lock.addr := by
  change ¬bringupReg 0x18060
  simp only [bringupReg]
  omega

theorem pllLock_lock {pll : Nat} (hpll : pll < 8) : natBit ((pllLock pll s).get LANE_PLL_STATUS_lock) pll = true := by
  have hc : BringsUp (s.put LANE_PLL_STATUS_lock (natSetBit (s.get LANE_PLL_STATUS_lock) pll)) (pllLock pll s) :=
    (Confined.refl _ _ _).forEach fun _ hp _ ih => ih.leaveDark (mem_quadrant hpll hp)
  rw [hc.get pllStatus_not_bringup, State.get_put_mod rfl]
  exact (natBit_mod (k := 8) hpll).trans (natBit_natSetBit_self _ _)

theorem pllUnlock_lock {pll : Nat} (hpll : pll < 8) : natBit ((pllUnlock pll s).get LANE_PLL_STATUS_lock) pll = false := by
  have hc : BringsUp (s.put LANE_PLL_STATUS_lock (natClearBit (s.get LANE_PLL_STATUS_lock) pll)) (pllUnlock pll s) :=
    (Confined.refl _ _ _).forEach fun _ hp _ ih => by
      have hp := mem_quadrant hpll hp
      extract_lets clocked s2
      have hfall : BringsUp _ s2 := .ite (ih.pllFall hp) ih
      exact .ite hfall (hfall.enterDark hp)
  rw [hc.get pllStatus_not_bringup, State.get_put_mod rfl]
  exact (natBit_mod (k := 8) hpll).trans (natBit_natClearBit_self _ _)

/-! ### The receive level -/

/-- The level shown as lost, with its cause. -/
def levelLost (l amp : Nat) (s : State) : State := ((s.put (LANE_RX_LEVEL_amp l) (min 4095 amp)).put (LANE_RX_LEVEL_los l) 1).cause (Cause.LANE_los l)

theorem levelLost_regs {amp : Nat} : SameRegs [LANE_RX_LEVEL l, LANE_EVT_CAUSE l] s (levelLost l amp s) :=
  ((SameRegs.refl _ s).put (by exact .head _)).put (by exact .head _) |>.cause (by exact .tail _ (.head _))

theorem levelLost_los {amp : Nat} : (levelLost l amp s).get (LANE_RX_LEVEL_los l) = 1 :=
  (State.get_cause_ne _ ne_lane).trans (State.get_put_self rfl (by simp [LANE_RX_LEVEL_los]))

theorem levelLost_amp {amp : Nat} : (levelLost l amp s).get (LANE_RX_LEVEL_amp l) = min 4095 amp :=
  (State.get_cause_ne _ ne_lane).trans ((State.get_put_apart rfl).trans (State.get_put_self rfl
    (lt_of_le_of_lt (Nat.min_le_left _ _) (by simp [LANE_RX_LEVEL_amp]))))

theorem reg_put_congr {f : Field} {v : Nat} (h : t.reg f.addr = s.reg f.addr) : (t.put f v).reg f.addr = (s.put f v).reg f.addr := by
  rw [State.reg_put, State.reg_put, if_pos rfl, if_pos rfl, h]

theorem levelLost_cause {amp : Nat} : (levelLost l amp s).reg (LANE_EVT_CAUSE l) =
    (s.put ⟨(Cause.LANE_los l).cause, (Cause.LANE_los l).bit, (Cause.LANE_los l).bit⟩ 1).reg (LANE_EVT_CAUSE l) := by
  have hreg : ((s.put (LANE_RX_LEVEL_amp l) (min 4095 amp)).put (LANE_RX_LEVEL_los l) 1).reg (LANE_EVT_CAUSE l) = s.reg (LANE_EVT_CAUSE l) :=
    (State.reg_put_ne _ _ ne_lane).trans (State.reg_put_ne _ _ ne_lane)
  exact (State.reg_cause _ _ _).trans (reg_put_congr (f := ⟨LANE_EVT_CAUSE l, 0, 0⟩) hreg)

theorem levelLost_only {amp : Nat} : RegsAndEvents s (levelLost l amp s) := ((RegsAndEvents.refl s).put.put).cause

theorem stage_levelLost {amp p : Nat} (hl : l < 128) : (levelLost l amp s).stage p = s.stage p :=
  levelLost_regs.get fun h => by
    rcases List.mem_cons.1 h with h | h
    · exact absurd h (port_ne_lane hl)
    · exact absurd (List.mem_singleton.1 h) (port_ne_lane hl)

theorem losAsserted_eq {amp : Nat} (hst : 2 ≤ s.stage (portOf l)) (hamp : amp < losThreshold s l) : losAsserted l amp s = levelLost l amp s :=
  if_pos (by simp [hst, hamp])

/-- Below S6 no retrain begins. -/
theorem startRetrain_early {p cause : Nat} (hst : s.stage p < 6) : startRetrain p cause s = s := by
  rw [startRetrain, if_neg (by omega), if_pos (by omega)]

theorem losTrigger_still {amp : Nat} (hl : l < 128) (hst : 2 ≤ s.stage (portOf l)) (hamp : amp < losThreshold s l)
    (h : s.stage (portOf l) < 6 ∨ s.get (LANE_RX_LEVEL_los l) = 1) : losTrigger l amp s = levelLost l amp s := by
  rw [losTrigger, losAsserted_eq hst hamp]
  rcases h with h | h
  · rw [startRetrain_early (by rw [stage_levelLost hl]; exact h), ite_self]
  · rw [flag_of_get_eq_one h, Bool.not_true, Bool.and_false, if_neg (by decide)]

theorem losTrigger_retrains {amp : Nat} (hst : 2 ≤ s.stage (portOf l)) (hamp : amp < losThreshold s l) (h : s.get (LANE_RX_LEVEL_los l) = 0) :
    losTrigger l amp s = startRetrain (portOf l) Fall.los (levelLost l amp s) := by
  rw [losTrigger, losAsserted_eq hst hamp]
  exact if_pos (by rw [flag_of_get_eq_zero h, flag_of_get_eq_one levelLost_los]; rfl)

theorem losTrigger_kept {amp : Nat} (h : s.stage (portOf l) < 2 ∨ losThreshold s l ≤ amp) : losTrigger l amp s = s := by
  have hs : losAsserted l amp s = s := if_neg (by simp only [Bool.and_eq_true, decide_eq_true_eq]; omega)
  rw [losTrigger, hs]
  exact if_neg (by simp)

theorem losDeasserted_eq {amp : Nat} (hst : 2 ≤ s.stage (portOf l)) (hamp : losThreshold s l + 20 ≤ amp) :
    losDeasserted l amp s = (s.put (LANE_RX_LEVEL_amp l) (min 4095 amp)).put (LANE_RX_LEVEL_los l) 0 := if_pos (by simp [hst, hamp])

/-! ### The CDR -/

/-- The CDR shown out of lock, with its cause. -/
def lockLost (l : Nat) (s : State) : State := (s.put (LANE_CDR_STATUS_lock l) 0).cause (Cause.LANE_cdr_unlock l)

theorem lockLost_regs : SameRegs [LANE_CDR_STATUS l, LANE_EVT_CAUSE l] s (lockLost l s) :=
  ((SameRegs.refl _ s).put (by exact .head _)).cause (by exact .tail _ (.head _))

theorem lockLost_lock : (lockLost l s).get (LANE_CDR_STATUS_lock l) = 0 :=
  (State.get_cause_ne _ ne_lane).trans (State.get_put_self rfl (Nat.two_pow_pos _))

theorem stage_lockLost {p : Nat} (hl : l < 128) : (lockLost l s).stage p = s.stage p :=
  lockLost_regs.get fun h => by
    rcases List.mem_cons.1 h with h | h
    · exact absurd h (port_ne_lane hl)
    · exact absurd (List.mem_singleton.1 h) (port_ne_lane hl)

theorem cdrTrigger_eq (h : s.get (LANE_CDR_STATUS_lock l) = 1) : cdrTrigger l s = startRetrain (portOf l) Fall.cdrUnlock (lockLost l s) := by
  have hs : cdrUnlocked l s = lockLost l s := if_pos (flag_of_get_eq_one h)
  rw [cdrTrigger, if_pos (flag_of_get_eq_one h), hs]

/-! ### The checker -/

theorem prbsLost_eq {a b c : Nat} (hchk : s.get (LANE_PRBS_CTRL_chk_en l) = 1) (hlock : s.get (LANE_PRBS_STATUS_lock l) = 1) :
    prbsLost l a b c s = ((((((s.add48 (LANE_PRBS_SYMCNT_LO l) a).addSat (LANE_PRBS_SYMERR l) b).add48 (LANE_PRBS_BITERR_LO l) c).put
      (LANE_PRBS_STATUS_lock l) 0).addField (LANE_PRBS_STATUS_lock_losses l) 1).cause (Cause.LANE_prbs_lock_lost l)) := by
  have hcount : prbsCount l a b c s = ((s.add48 (LANE_PRBS_SYMCNT_LO l) a).addSat (LANE_PRBS_SYMERR l) b).add48 (LANE_PRBS_BITERR_LO l) c :=
    if_pos (flag_of_get_eq_one hlock)
  rw [prbsLost, checking, flag_of_get_eq_one hchk, flag_of_get_eq_one hlock, if_pos (by decide), hcount]

theorem prbsLost_symErrs {a b c : Nat} (hchk : s.get (LANE_PRBS_CTRL_chk_en l) = 1) (hlock : s.get (LANE_PRBS_STATUS_lock l) = 1) :
    ((prbsLost l a b c s).reg (LANE_PRBS_SYMERR l)).toNat = satAdd 0xFFFFFFFF (s.reg (LANE_PRBS_SYMERR l)).toNat b := by
  have herr : LANE_PRBS_SYMERR l ≠ LANE_PRBS_BITERR_LO l ∧ LANE_PRBS_SYMERR l ≠ LANE_PRBS_BITERR_LO l + 4 ∧
      LANE_PRBS_SYMERR l ≠ LANE_PRBS_SYMCNT_LO l ∧ LANE_PRBS_SYMERR l ≠ LANE_PRBS_SYMCNT_LO l + 4 := by
    simp only [LANE_PRBS_SYMERR, LANE_PRBS_BITERR_LO, LANE_PRBS_SYMCNT_LO]
    omega
  obtain ⟨hbit, hbit', hcnt, hcnt'⟩ := herr
  rw [prbsLost_eq hchk hlock, State.reg_cause_ne _ ne_lane, State.addField, State.reg_put_ne _ _ ne_lane, State.reg_put_ne _ _ ne_lane,
    reg_add48_ne hbit hbit', State.reg_addSat_same, reg_add48_ne hcnt hcnt']

/-! ### The eye -/

/-- A measurement ended, with its result and cause. -/
def eyeEnded (l : Nat) (aborted : Bool) (s : State) : State :=
  (((s.put (LANE_EYE_STATUS_busy l) 0).put (LANE_EYE_CTRL_start l) 0).put (LANE_EYE_STATUS_result l) (if aborted then 2 else 1)).cause
    (Cause.LANE_eye_done l)

/-- Levels and width of the eye taken in. -/
def eyeLevels (l : Nat) (v0 v1 : Word) (s : State) : State :=
  (((s.put (LANE_EYE_V0_middle l) (v0.bits 25 16)).put (LANE_EYE_V0_upper l) (v0.bits 9 0)).put (LANE_EYE_V1_snr l) (v1.bits 25 16)).put
    (LANE_EYE_V1_lower l) (v1.bits 9 0)

def eyeWidth (l : Nat) (h : Word) (s : State) : State :=
  (s.put (LANE_EYE_H_right l) (min 32 (h.bits 13 8))).put (LANE_EYE_H_left l) (min 32 (h.bits 5 0))

theorem eyeEnd_eq {aborted : Bool} {v0 v1 h : Word} (hbusy : s.get (LANE_EYE_STATUS_busy l) = 1) : eyeEnd l aborted v0 v1 h s =
    let s1 := eyeEnded l aborted s
    let s2 := if s.get (LANE_EYE_CTRL_kind l) = 1 then s1 else eyeLevels l v0 v1 s1
    if aborted then s1 else if s.get (LANE_EYE_CTRL_kind l) = 0 then s2 else eyeWidth l h s2 :=
  if_neg (by rw [flag_of_get_eq_one hbusy]; decide)

/-- The values that a measurement brings lie in their own registers. -/
theorem eyeEnd_values {aborted : Bool} {v0 v1 h : Word} (hbusy : s.get (LANE_EYE_STATUS_busy l) = 1) :
    OnlyRegs (eyeEnded l aborted s) (eyeEnd l aborted v0 v1 h s) ∧
      SameRegs [LANE_EYE_V0 l, LANE_EYE_V1 l, LANE_EYE_H l] (eyeEnded l aborted s) (eyeEnd l aborted v0 v1 h s) := by
  rw [eyeEnd_eq hbusy]
  generalize eyeEnded l aborted s = s1
  have h2 : OnlyRegs s1 (eyeLevels l v0 v1 s1) := (((OnlyRegs.refl s1).put.put).put).put
  have r2 : SameRegs [LANE_EYE_V0 l, LANE_EYE_V1 l, LANE_EYE_H l] s1 (eyeLevels l v0 v1 s1) :=
    ((((SameRegs.refl _ s1).put (by exact .head _)).put (by exact .head _)).put (by exact .tail _ (.head _))).put (by exact .tail _ (.head _))
  have hw (u : State) (hu : OnlyRegs s1 u ∧ SameRegs [LANE_EYE_V0 l, LANE_EYE_V1 l, LANE_EYE_H l] s1 u) :
      OnlyRegs s1 (eyeWidth l h u) ∧ SameRegs [LANE_EYE_V0 l, LANE_EYE_V1 l, LANE_EYE_H l] s1 (eyeWidth l h u) :=
    ⟨hu.1.put.put, (hu.2.put (by exact .tail _ (.tail _ (.head _)))).put (by exact .tail _ (.tail _ (.head _)))⟩
  dsimp only
  split_ifs
  · exact ⟨.refl _, .refl _ _⟩
  · exact ⟨.refl _, .refl _ _⟩
  · exact ⟨h2, r2⟩
  · exact hw _ ⟨.refl _, .refl _ _⟩
  · exact hw _ ⟨h2, r2⟩

theorem not_eyeValue {b : Nat} (hb : b ≠ 0x100A8 ∧ b ≠ 0x100AC ∧ b ≠ 0x100B0 := by decide) :
    b + 0x100 * l ∉ [LANE_EYE_V0 l, LANE_EYE_V1 l, LANE_EYE_H l] := by
  obtain ⟨h0, h1, h2⟩ := hb
  simp only [List.mem_cons, List.not_mem_nil, or_false, not_or]
  exact ⟨ne_lane h0, ne_lane h1, ne_lane h2⟩

theorem eyeEnded_fields {aborted : Bool} : (eyeEnded l aborted s).get (LANE_EYE_STATUS_busy l) = 0 ∧
    (eyeEnded l aborted s).get (LANE_EYE_CTRL_start l) = 0 ∧
    (eyeEnded l aborted s).get (LANE_EYE_STATUS_result l) = if aborted then 2 else 1 := by
  have hresult : (if aborted then 2 else 1) < 2 ^ ((LANE_EYE_STATUS_result l).hi + 1 - (LANE_EYE_STATUS_result l).lo) := by
    cases aborted <;> simp [LANE_EYE_STATUS_result]
  refine ⟨(State.get_cause_ne _ ne_lane).trans ?_, (State.get_cause_ne _ ne_lane).trans ?_, (State.get_cause_ne _ ne_lane).trans ?_⟩
  · exact (State.get_put_apart rfl).trans ((State.get_put_ne _ _ _ _ ne_lane).trans (State.get_put_self rfl (Nat.two_pow_pos _)))
  · exact (State.get_put_ne _ _ _ _ ne_lane).trans (State.get_put_self rfl (Nat.two_pow_pos _))
  · exact State.get_put_self rfl hresult

/-! ### The mask window -/

/-- A window's verdict on a lane: in the mask's status, with its cause and the lane's count of clean windows. -/
structure MaskVerdict (l : Nat) (s t : State) : Prop where
  touches : Touches [.regs, .events, .lanes] s t
  regs : SameRegs [LANE_MASK_STATUS l, LANE_EVT_CAUSE l] s t
  set : Keeps (LANE_MASK_STATUS_set l) s t

namespace MaskVerdict

theorem refl (s : State) : MaskVerdict l s s := ⟨.refl _ s, .refl _ s, .refl _ s⟩

theorem put (h : MaskVerdict l s t) {f : Field} {v : Nat} (hf : f.addr = LANE_MASK_STATUS l) (hset : apart f (LANE_MASK_STATUS_set l) = true) :
    MaskVerdict l s (t.put f v) := ⟨h.touches.put, h.regs.put (hf ▸ .head _), h.set.put (.inr hset)⟩

theorem modLane (h : MaskVerdict l s t) {k : Nat} {f : LaneSt → LaneSt} : MaskVerdict l s (t.modLane k f) :=
  ⟨h.touches.modLane, h.regs.modLane, h.set.trans (State.get_modLane _ _ _ _)⟩

theorem cause (h : MaskVerdict l s t) : MaskVerdict l s (t.cause (Cause.LANE_mask_violation l)) :=
  ⟨h.touches.cause, h.regs.cause (by exact .tail _ (.head _)), h.set.cause ne_lane⟩

theorem ite {u : State} {c : Prop} {_ : Decidable c} (ht : MaskVerdict l s t) (hu : MaskVerdict l s u) : MaskVerdict l s (if c then t else u) := by
  split
  · exact ht
  · exact hu

end MaskVerdict

theorem maskSetOf_lt {st : Nat} : maskSetOf st < 2 := by
  unfold maskSetOf
  split <;> decide

theorem maskWindow_verdict {levels : List Nat} (h : s.get (LANE_MASK_CTRL_enable l) = 1) :
    MaskVerdict l (s.put (LANE_MASK_STATUS_set l) (maskSetOf (s.stage (portOf l)))) (maskWindow l levels s) := by
  unfold maskWindow
  rw [if_neg (by rw [flag_of_get_eq_one h]; decide)]
  extract_lets set points s2 bins beyond worst s3 n b s4
  have h2 : MaskVerdict l s2 s2 := .refl s2
  have h3 : MaskVerdict l s2 s3 := (h2.put rfl rfl).put rfl rfl
  have h4 : MaskVerdict l s2 s4 := (((h3.put rfl rfl).put rfl rfl).cause).modLane
  exact .ite (h2.put rfl rfl) (.ite (h3.modLane.put rfl rfl) (.ite (h4.put rfl rfl) h4))

/-! ### Divergence -/

/-- The receive side of a record taken back. -/
theorem reloadCoeffs_touches : Touches [.regs, .lanes] s (reloadCoeffs l s) := by
  unfold reloadCoeffs
  split
  · exact .refl _ s
  · exact ((((Touches.refl _ s).modLane.setReg).put).put).put

theorem reloadCoeffs_regs : SameRegs [LANE_CDR_STATUS l, LANE_CTLE l, LANE_ADC l] s (reloadCoeffs l s) := by
  unfold reloadCoeffs
  split
  · exact .refl _ s
  · exact ((((SameRegs.refl _ s).modLane.setReg (by exact .tail _ (.tail _ (.head _)))).put (by exact .tail _ (.head _))).put
      (by exact .tail _ (.head _))).put (by exact .head _)

theorem reloadCoeffs_taps {r : CoeffRecord} (h : s.always.coeffs.find l = some r) : ((reloadCoeffs l s).lane l).taps = r.taps := by
  rw [reloadCoeffs, h]
  exact congrArg LaneSt.taps ((OnlyRegs.refl _).setReg.put.put.put.keep (F := fun u => u.lane l) (fun _ => rfl) (State.lane_modLane _ _ _))

theorem reloadCoeffs_lane_ne {k : Nat} (hk : k ≠ l) : (reloadCoeffs l s).lane k = s.lane k := by
  unfold reloadCoeffs
  split
  · rfl
  · exact (OnlyRegs.refl _).setReg.put.put.put.keep (F := fun u => u.lane k) (fun _ => rfl) (State.lane_modLane_ne _ _ hk)

/-- The record taken back and the restore noted, with its cause. -/
def restored (l : Nat) (recent : List Nat) (s : State) : State :=
  ((reloadCoeffs l s).modLane l fun x => { x with restores := recent, atLimit := [] }).cause (Cause.LANE_adapt_restore l)

/-- Adaptation frozen after the third restore in a second. -/
def adaptFrozen (l : Nat) (s : State) : State :=
  ((s.modLane l fun x => { x with modes := 0, restores := [] }).put (LANE_STATUS_adapt_frozen l) 1).cause (Cause.LANE_adapt_frozen l)

theorem divergence_eq {snr : Nat} (hen : s.get (LANE_ADAPT_CTRL_restore_en l) = 1) (hon : adaptsOn s l = true) (hdiv : diverged s l snr = true) :
    ∃ recent, divergence l snr s = if 3 ≤ recent.length then adaptFrozen l (restored l recent s) else restored l recent s :=
  ⟨_, if_neg (by rw [flag_of_get_eq_one hen, hon, hdiv]; decide)⟩

/-- What a divergence restore does to its lane. -/
structure Restores (l : Nat) (s t : State) : Prop where
  touches : Touches [.regs, .events, .lanes] s t
  regs : SameRegs [LANE_CDR_STATUS l, LANE_CTLE l, LANE_ADC l, LANE_STATUS l, LANE_EVT_CAUSE l] s t
  taps : ∀ r, s.always.coeffs.find l = some r → (t.lane l).taps = r.taps
  others : ∀ k, k ≠ l → t.lane k = s.lane k
  shown : t.get ⟨LANE_EVT_CAUSE l, 2, 2⟩ = 1

theorem restored_restores {recent : List Nat} : Restores l s (restored l recent s) where
  touches := ((reloadCoeffs_touches.mono (by decide)).modLane).cause
  regs := ((reloadCoeffs_regs.mono fun _ h => by simp only [List.mem_cons, List.not_mem_nil] at h ⊢; tauto).modLane).cause
    (by exact .tail _ (.tail _ (.tail _ (.tail _ (.head _)))))
  taps r hr := by
    rw [restored, RegsAndEvents.lane (.cause (.refl _)), State.lane_modLane]
    exact reloadCoeffs_taps hr
  others k hk := by
    rw [restored, RegsAndEvents.lane (.cause (.refl _)), State.lane_modLane_ne _ _ hk, reloadCoeffs_lane_ne hk]
  shown := (State.get_of_reg (State.reg_cause _ _ _)).trans (State.get_put_self rfl (Nat.one_lt_two))

theorem Restores.adaptFrozen (h : Restores l s t) : Restores l s (adaptFrozen l t) where
  touches := (h.touches.modLane.put).cause
  regs := (h.regs.modLane.put (by exact .tail _ (.tail _ (.tail _ (.head _))))).cause (by exact .tail _ (.tail _ (.tail _ (.tail _ (.head _)))))
  taps r hr := by
    rw [Machine.adaptFrozen, RegsAndEvents.lane (.cause (.put (.refl _))), State.lane_modLane]
    exact h.taps r hr
  others k hk := by
    rw [Machine.adaptFrozen, RegsAndEvents.lane (.cause (.put (.refl _))), State.lane_modLane_ne _ _ hk, h.others k hk]
  shown := (State.get_of_reg (State.reg_cause _ _ _)).trans ((State.get_put_apart (by rfl)).trans
    ((State.get_put_ne _ _ _ _ ne_lane).trans ((State.get_modLane _ _ _ _).trans h.shown)))

theorem natBit_of_get {a b : Nat} (h : t.get ⟨a, b, b⟩ = 1) : natBit (t.reg a).toNat b = true := by
  have hw : b + 1 - b = 1 := by omega
  rw [State.get, Word.bits, hw] at h
  exact beq_iff_eq.2 h

theorem Restores.frame (h : Restores l s t) : { t with regs := s.regs, events := s.events, lanes := s.lanes } = s :=
  h.touches.frame (fun u => { u with regs := s.regs, events := s.events, lanes := s.lanes }) fun _ => rfl

theorem divergence_restores {snr : Nat} (hen : s.get (LANE_ADAPT_CTRL_restore_en l) = 1) (hon : adaptsOn s l = true)
    (hdiv : diverged s l snr = true) : Restores l s (divergence l snr s) := by
  obtain ⟨recent, h⟩ := divergence_eq hen hon hdiv
  rw [h]
  split
  · exact restored_restores.adaptFrozen
  · exact restored_restores

end

/-! ### The statement -/

/-- Settles O8: every event writes the lane's own registers, in the order of the rules; a loss in S7 goes on as a quick retrain, which leaves the
receive level and the CDR's status of the lanes. -/
theorem laneEventsActOnTheLane : Obligations.LaneEventsActOnTheLane := by
  unfold Obligations.LaneEventsActOnTheLane
  intro s l hup
  have hl := l.isLt
  have hp : portOf l < 16 := by
    rw [portOf]
    omega
  refine ⟨fun pll => ?_, fun pll => ?_, fun amp => ⟨fun hst hamp hcalm => ?_, fun h7 hamp hlos => ?_, fun h => ?_⟩, fun amp hst hamp => ?_,
    fun hlock h7 => ?_, fun hlock hst => ?_, fun hchk => ?_, fun hchk hlock n => ?_, fun hbusy aborted v0 v1 h => ?_, fun levels => ⟨fun hoff => ?_, fun hon => ?_⟩,
    fun snr hen hon hdiv => ?_, fun h7 => ?_⟩
  · exact ⟨_, congrArg Host.Outcome.next (whenUp_of_up hup _), pllLock_lock pll.isLt⟩
  · exact ⟨_, congrArg Host.Outcome.next (whenUp_of_up hup _), pllUnlock_lock pll.isLt⟩
  · exact ⟨_, congrArg Host.Outcome.next ((whenUp_of_up hup _).trans (losTrigger_still hl hst hamp hcalm)), levelLost_los, levelLost_amp, levelLost_cause,
      levelLost_regs, levelLost_only.frame⟩
  · have h7' : (levelLost l amp s).stage (portOf l) = 7 := (stage_levelLost hl).trans h7
    obtain ⟨n, hport⟩ := port_startRetrain (cause := Fall.los) hp h7'
    refine ⟨_, congrArg Host.Outcome.next ((whenUp_of_up hup _).trans (losTrigger_retrains (by omega) hamp hlos)), ?_, startRetrain_stage hp h7', ?_,
      startRetrain_lastCause hp h7' (by decide)⟩
    · exact Eq.trans (startRetrain_lane hp h7' (laneReg_lane hl) (.inr (by simp only [LANE_RX_LEVEL_los, LANE_RX_LEVEL]; omega))) levelLost_los
    · rw [hport]
      rfl
  · exact congrArg Host.Outcome.next ((whenUp_of_up hup _).trans (losTrigger_kept h))
  · exact ⟨_, congrArg Host.Outcome.next ((whenUp_of_up hup _).trans (losDeasserted_eq hst hamp)), State.get_put_self rfl (Nat.two_pow_pos _),
      (State.get_put_apart rfl).trans (State.get_put_self rfl (lt_of_le_of_lt (Nat.min_le_left _ _) (by simp [LANE_RX_LEVEL_amp]))),
      ((SameRegs.refl _ s).put (by exact .head _)).put (by exact .head _), rfl⟩
  · have h7' : (lockLost l s).stage (portOf l) = 7 := (stage_lockLost hl).trans h7
    obtain ⟨n, hport⟩ := port_startRetrain (cause := Fall.cdrUnlock) hp h7'
    refine ⟨_, congrArg Host.Outcome.next ((whenUp_of_up hup _).trans (cdrTrigger_eq hlock)), ?_, startRetrain_stage hp h7', ?_,
      startRetrain_lastCause hp h7' (by decide)⟩
    · exact Eq.trans (startRetrain_lane hp h7' (laneReg_lane hl) (.inl (by simp only [LANE_CDR_STATUS_lock, LANE_CDR_STATUS]; omega))) lockLost_lock
    · rw [hport]
      rfl
  · have hcalm : startRetrain (portOf l) Fall.cdrUnlock (lockLost l s) = lockLost l s := startRetrain_early (by rw [stage_lockLost hl]; exact hst)
    exact ⟨_, congrArg Host.Outcome.next ((whenUp_of_up hup _).trans ((cdrTrigger_eq hlock).trans hcalm)), lockLost_lock, lockLost_regs,
      (RegsAndEvents.refl s).put.cause.frame⟩
  · exact ⟨_, congrArg Host.Outcome.next ((whenUp_of_up hup _).trans (if_pos (flag_of_get_eq_one hchk))),
      State.get_put_self rfl (by simp [LANE_PRBS_STATUS_lock]), (SameRegs.refl _ s).put (by exact .head _), rfl⟩
  · refine ⟨_, congrArg Host.Outcome.next (whenUp_of_up hup _), ?_, ?_, prbsLost_symErrs hchk hlock⟩
    · rw [prbsLost_eq hchk hlock, State.get_cause_ne _ ne_lane, State.addField, State.get_put_apart rfl]
      exact State.get_put_self rfl (Nat.two_pow_pos _)
    · rw [prbsLost_eq hchk hlock]
      exact (RegsAndEvents.refl s).setReg.setReg.addSat.setReg.setReg.put.addField.cause.frame
  · obtain ⟨honly, hregs⟩ := eyeEnd_values (aborted := aborted) (v0 := v0) (v1 := v1) (h := h) hbusy
    obtain ⟨hb, hstart, hresult⟩ := eyeEnded_fields (s := s) (l := l) (aborted := aborted)
    refine ⟨_, congrArg Host.Outcome.next (whenUp_of_up hup _), (hregs.get not_eyeValue).trans hb, (hregs.get not_eyeValue).trans hstart,
      (hregs.get not_eyeValue).trans hresult, ?_, ?_⟩
    · refine SameRegs.trans ?_ (hregs.mono fun _ h => by simp only [List.mem_cons, List.not_mem_nil] at h ⊢; tauto)
      exact (((((SameRegs.refl _ s).put (by exact .head _)).put (by exact .tail _ (.head _))).put (by exact .head _)).cause
        (by exact .tail _ (.tail _ (.head _))))
    · obtain ⟨m, hm⟩ := honly
      have hended : RegsAndEvents s (eyeEnded l aborted s) := (((RegsAndEvents.refl s).put.put).put).cause
      exact (hended.trans ⟨m, _, hm⟩).frame
  · exact congrArg Host.Outcome.next ((whenUp_of_up hup _).trans (if_pos (by rw [flag_of_get_eq_zero hoff]; rfl)))
  · have hv := maskWindow_verdict (levels := levels) hon
    refine ⟨_, congrArg Host.Outcome.next (whenUp_of_up hup _), ?_, ?_, ?_⟩
    · exact Eq.trans hv.set (State.get_put_self rfl maskSetOf_lt)
    · exact ((SameRegs.refl _ s).put (by exact .head _)).trans hv.regs
    · exact (((Touches.refl _ s).put).trans hv.touches).frame (fun u => { u with regs := s.regs, events := s.events, lanes := s.lanes }) fun _ => rfl
  · have hr := divergence_restores hen hon hdiv
    refine ⟨_, congrArg Host.Outcome.next (whenUp_of_up hup _), ?_, hr.taps, fun k hk => hr.others k fun e => hk (Fin.ext e), hr.regs,
      hr.frame⟩
    exact natBit_of_get hr.shown
  · refine ⟨saveCoeffs l s, congrArg Host.Outcome.next (if_pos (by rw [hup, h7]; rfl)), ⟨_, KMap.find_ins_same _ _ _, rfl, rfl⟩, rfl, rfl⟩

end Sys2Proof.Machine
end

section
/-!
PROOF. What the falls of a port clear: its negotiation, its course and its link.
-/
set_option autoImplicit false
set_option Elab.async false

namespace Sys2Proof.Machine
open Reg Bit

section
variable {s : State} {p : Nat}

/-! ### A negotiation that starts over -/

/-- A port whose negotiation starts over. -/
def negotiationCleared (x : PortSt) : PortSt :=
  { x with capHeld := false, ownSel := none, peerSel := none, selMismatch := 0, granted := false, peerGo := false,
           refusals := 0, capAgain := false }

theorem clearNegotiation_regs : SameRegs [PORT_STATUS p] s (clearNegotiation p s) :=
  SameRegs.chargeDue (((SameRegs.of_regs (t := dropAsk p s) rfl).modPort).put (by exact .head _))

theorem keeps_clearNegotiation {f : Field} (hf : Off (PORT_STATUS_ledger_wait p) f) : Keeps f s (clearNegotiation p s) :=
  ((Keeps.refl f ((dropAsk p s).modPort p negotiationCleared)).put (v := 0) hf).trans (State.get_of_regs rfl f)

theorem port_clearNegotiation : (clearNegotiation p s).port p = negotiationCleared (s.port p) :=
  (RegsAndEvents.put (v := 0) (f := PORT_STATUS_ledger_wait p) (.refl ((dropAsk p s).modPort p negotiationCleared))).port p |>.trans
    (State.port_modPort _ _ _)

theorem port_clearNegotiation_ne {q : Nat} (hq : q ≠ p) : (clearNegotiation p s).port q = s.port q :=
  (RegsAndEvents.put (v := 0) (f := PORT_STATUS_ledger_wait p) (.refl ((dropAsk p s).modPort p negotiationCleared))).port q |>.trans
    (State.port_modPort_ne _ _ hq)

/-! ### A course that is given up -/

/-- A port that keeps nothing of an attempt, a retrain or a step. -/
def courseCleared (x : PortSt) : PortSt :=
  { x with attempt := none, failures := 0, path := .full, qrWaiting := false, qrCause := 0, stepping := none, stepDue := none, keepLink := false,
           negWait := false, degradedRun := 0, degradeEnd := none, floored := false, aim := none, trigger := none }

/-- The status of a port without a course. -/
def courseStatus (p : Nat) (s : State) : State :=
  (((s.put (PORT_STATUS_gen p) 0).put (PORT_STATUS_reach p) 3).put (PORT_STATUS_version p) 0).put (PORT_STATUS_degraded p) 0

/-- No lock of the FEC sublayer, and no retrain asked for. -/
def courseLocks (p : Nat) (s : State) : State :=
  ((((s.put (PORT_FEC_STATUS_rs_lock p) 0).put (PORT_FEC_STATUS_inner_lock p) 0).put (PORT_FEC_STATUS_flit_lock p) 0).put
    (PORT_FEC_STATUS_lane_aligned p) 0).put (PORT_CTRL_retrain p) 0

/-- What a port without a course shows. -/
def courseShown (p : Nat) (s : State) : State := courseLocks p (courseStatus p s)

theorem clearCourse_eq : clearCourse p s = courseShown p ((clearNegotiation p s).modPort p courseCleared) := rfl

theorem courseShown_touches {l : List Part} (h : .regs ∈ l := by decide) : Touches l s (courseShown p s) :=
  (((((((((Touches.refl l s).put h).put h).put h).put h).put h).put h).put h).put h).put h

theorem keeps_courseLocks {f : Field} (hfec : f.addr ≠ PORT_FEC_STATUS p) (hretrain : Off (PORT_CTRL_retrain p) f) : Keeps f s (courseLocks p s) :=
  (((((Keeps.refl f s).put (.inl hfec)).put (.inl hfec)).put (.inl hfec)).put (.inl hfec)).put hretrain

/-- A field of another register than the statuses and PORT_CTRL.retrain. -/
theorem keeps_courseShown {f : Field} (hstatus : f.addr ≠ PORT_STATUS p) (hfec : f.addr ≠ PORT_FEC_STATUS p) (hretrain : Off (PORT_CTRL_retrain p) f) :
    Keeps f s (courseShown p s) :=
  ((((Keeps.refl f s).put (.inl hstatus)).put (.inl hstatus)).put (.inl hstatus)).put (.inl hstatus) |>.trans (keeps_courseLocks hfec hretrain)

theorem keeps_clearCourse {f : Field} (hstatus : f.addr ≠ PORT_STATUS p) (hfec : f.addr ≠ PORT_FEC_STATUS p) (hretrain : Off (PORT_CTRL_retrain p) f) :
    Keeps f s (clearCourse p s) :=
  ((keeps_clearNegotiation (.inl hstatus)).trans (State.get_modPort _ _ _ _)).trans (keeps_courseShown hstatus hfec hretrain)

/-- A field of PORT_STATUS that no course sets. -/
theorem keeps_courseShown_status {f : Field} (haddr : f.addr = PORT_STATUS p) (hgen : apart (PORT_STATUS_gen p) f = true)
    (hreach : apart (PORT_STATUS_reach p) f = true) (hversion : apart (PORT_STATUS_version p) f = true)
    (hdegraded : apart (PORT_STATUS_degraded p) f = true) : Keeps f s (courseShown p s) := by
  have hfec : f.addr ≠ PORT_FEC_STATUS p := haddr ▸ ne_port
  have hctrl : f.addr ≠ PORT_CTRL p := haddr ▸ ne_port
  exact ((((Keeps.refl f s).put (.inr hgen)).put (.inr hreach)).put (.inr hversion)).put (.inr hdegraded) |>.trans (keeps_courseLocks hfec (.inl hctrl))

theorem courseShown_gen : (courseShown p s).get (PORT_STATUS_gen p) = 0 := by
  have hfirst : (s.put (PORT_STATUS_gen p) 0).get (PORT_STATUS_gen p) = 0 := State.get_put_self rfl (Nat.two_pow_pos _)
  have hlocks : Keeps (PORT_STATUS_gen p) (courseStatus p s) (courseShown p s) := keeps_courseLocks ne_port (.inl ne_port)
  have hstatus : Keeps (PORT_STATUS_gen p) (s.put (PORT_STATUS_gen p) 0) (courseStatus p s) :=
    (((Keeps.refl _ _).put (.inr rfl)).put (.inr rfl)).put (.inr rfl)
  exact Eq.trans (hstatus.trans hlocks) hfirst

theorem clearCourse_gen : (clearCourse p s).get (PORT_STATUS_gen p) = 0 := courseShown_gen

theorem port_clearCourse : (clearCourse p s).port p = courseCleared (negotiationCleared (s.port p)) := by
  rw [clearCourse_eq, State.port_of_ports (courseShown_touches (l := [.regs])).keeps_ports p, State.port_modPort, port_clearNegotiation]

/-! ### A fall to S1 -/

/-- The host's step that a fall ends. -/
def stepFailed (p : Nat) (s : State) : State :=
  ((s.put (PORT_NEG_step_outcome p) 3).put (PORT_CTRL_step_go p) 0).cause (Cause.PORT_step_result p)

/-- A departure with its cause, and the end of a host's step with it. -/
def fallNoted (p cause : Nat) (s : State) : State :=
  if (s.port p).stepping.any fun x => x.host then stepFailed p ((departS7 p cause s).put (PORT_FALL_last_cause p) cause)
  else (departS7 p cause s).put (PORT_FALL_last_cause p) cause

theorem portFall_eq {cause : Nat} (h : s.stage p ≠ 0) : portFall p cause s = linkFall p (clearCourse p (setStage p 1 (fallNoted p cause s))) :=
  if_neg h

theorem fallNoted_touches {cause : Nat} : Touches [.regs, .events, .fab] s (fallNoted p cause s) := by
  have h : Touches [.regs, .events, .fab] s ((departS7 p cause s).put (PORT_FALL_last_cause p) cause) :=
    Touches.put (.ite (((((Touches.refl _ s).addField).put).cause).modFab) (.refl _ s))
  exact .ite (((h.put).put).cause) h

theorem fallNoted_lastCause {cause : Nat} (hcause : cause < 256) : (fallNoted p cause s).get (PORT_FALL_last_cause p) = cause := by
  have h : ((departS7 p cause s).put (PORT_FALL_last_cause p) cause).get (PORT_FALL_last_cause p) = cause := State.get_put_self rfl hcause
  refine Eq.trans (Keeps.ite ?_ (.refl _ _) : Keeps (PORT_FALL_last_cause p) _ _) h
  exact (((Keeps.refl _ _).put (.inl ne_port)).put (.inl ne_port)).cause ne_port

/-- The fall leaves the link's own registers to the link. -/
theorem keeps_linkFall {f : Field} (hf : ¬linkReg f.addr) : Keeps f s (linkFall p s) := (Confined.refl _ _ s).linkFall_links.get hf

theorem portFall_stage {cause : Nat} (hp : p < 16) (h : s.stage p ≠ 0) : (portFall p cause s).stage p = 1 := by
  rw [State.stage, portFall_eq h, clearCourse_eq]
  refine Eq.trans ((((keeps_clearNegotiation (.inr rfl)).trans (State.get_modPort _ _ _ _)).trans (keeps_courseShown_status rfl rfl rfl rfl rfl)).trans
    (keeps_linkFall (not_linkReg hp))) (setStage_stage (by decide))

theorem portFall_lastCause {cause : Nat} (hp : p < 16) (h : s.stage p ≠ 0) (hcause : cause < 256) :
    (portFall p cause s).get (PORT_FALL_last_cause p) = cause := by
  rw [portFall_eq h]
  refine Eq.trans (((keeps_setStage hp (.inl ne_port) (.inl ne_port) ne_port not_laneReg).trans (keeps_clearCourse ne_port ne_port (.inl ne_port))).trans
    (keeps_linkFall (not_linkReg hp))) (fallNoted_lastCause hcause)

theorem portFall_gen {cause : Nat} (hp : p < 16) (h : s.stage p ≠ 0) : (portFall p cause s).get (PORT_STATUS_gen p) = 0 := by
  rw [portFall_eq h]
  exact Eq.trans (keeps_linkFall (not_linkReg hp)) clearCourse_gen

theorem port_portFall {cause : Nat} (hp : p < 16) (h : s.stage p ≠ 0) :
    ∃ n, (portFall p cause s).port p = courseCleared (negotiationCleared { s.port p with stageTick := n }) := by
  have hlink : Touches linkParts (clearCourse p (setStage p 1 (fallNoted p cause s))) (portFall p cause s) := by
    rw [portFall_eq h]
    exact (Confined.refl _ linkReg _).linkFall_links.touches
  have hstage : (setStage p 1 (fallNoted p cause s)).port p = { (fallNoted p cause s).port p with stageTick := (fallNoted p cause s).ticks } :=
    port_setStage hp
  rw [State.port_of_ports hlink.keeps_ports p, port_clearCourse, hstage, State.port_of_ports fallNoted_touches.keeps_ports p]
  exact ⟨_, rfl⟩

end

end Sys2Proof.Machine
end

section
/-!
PROOF. The writes of PORT_CTRL: enable, disable, the test hold, a host retrain and a speed step.
-/
set_option autoImplicit false
set_option Elab.async false

namespace Sys2Proof.Machine
open Reg Bit

/-! ### Bits of a written word -/

section
variable {v : Word}

theorem bits_eq_zero_of_31 (h : v.bits 3 1 = 0) : v.bits 1 1 = 0 ∧ v.bits 2 2 = 0 ∧ v.bits 3 3 = 0 := by
  simp only [Word.bits] at h ⊢
  omega

theorem bits_eq_zero_of_32 (h : v.bits 3 2 = 0) : v.bits 2 2 = 0 ∧ v.bits 3 3 = 0 := by
  simp only [Word.bits] at h ⊢
  omega

theorem withBits_bit_zero (v : Word) {k : Nat} (hk : k < 32) : (v.withBits k k 0).bits k k = 0 := by
  rw [Word.bits_withBits_same v k k 0 (le_refl k) hk]
  exact Nat.zero_mod _

/-- Another bit than the one written stands. -/
theorem withBits_bit_ne (v : Word) {k j x : Nat} (hk : k < 32) (h : j ≠ k := by decide) : (v.withBits k k x).bits j j = v.bits j j := by
  rcases Nat.lt_or_gt_of_ne h with h | h
  · exact Word.bits_withBits_below v k k x j j (le_refl k) hk h
  · exact Word.bits_withBits_above v k k x j j (le_refl k) hk h

end

/-! ### Writes of a port's registers -/

/-- The row at an address says that its write is one of a port that acts. -/
def portActing (p a : Nat) : Bool :=
  (rowAt a).any fun q => q.2 == p && (q.1.kind == .plain && (q.1.staged == 0 && ((q.1.rw != 0 || q.1.w1s != 0) && (!isClear q.1 a &&
    (q.1.base == PORT_CTRL 0 && decide (a / 0x10000 = 4))))))

theorem portActing_ctrl : ∀ p : Port, portActing p (PORT_CTRL p) = true := by decide +kernel

section
variable {s : State} {a p : Nat}

/-- The write of a register of a port that acts, on a state that differs in the commit controller alone. -/
theorem write_portActs (h : portActing p a = true) (hw : writable s a = true) (src : Nat) (v : Word) :
    ∃ c, ∀ t, portWrite p a v { s with commit := c } = some t → write src a v s = t := by
  obtain ⟨⟨r, i⟩, hr, hq⟩ := (Option.any_eq_true _ _).1 h
  simp only [Bool.and_eq_true, Bool.or_eq_true, beq_iff_eq, bne_iff_ne, Bool.not_eq_true', decide_eq_true_eq] at hq
  obtain ⟨rfl, hplain, hstaged, hlive, hclear, hbase, haddr⟩ := hq
  obtain ⟨c, hc⟩ := suspendCheck_eq r s
  refine ⟨c, fun t ht => ?_⟩
  have hne (b : Nat) (hb : PORT_CTRL 0 ≠ b) : r.base ≠ b := fun e => hb (hbase.symm.trans e)
  have hne' (b : Nat) (hb : b / 0x10000 ≠ 4) : a ≠ b := fun e => hb (e ▸ haddr)
  rw [write_of_writable hw hr]
  simp only [writeRow, hplain, hstaged, liveWrite, hclear, writeLow, hne (PORT_TOW_CTRL 0) (by decide), hne (PORT_TOW_WAKE 0) (by decide),
    hne (UZ_CTRL 0) (by decide), hne' GLB_COMMIT_CTRL (by decide), hne' SVC_QIND_CTRL (by decide), hne' TT_LOAD_CTRL (by decide), hc, if_pos hlive,
    ne_eq, not_true, if_false, Bool.false_eq_true, if_pos (by omega : a < 0x80000)]
  rw [if_neg (by simp; omega), if_pos haddr, ht]

end

section
variable {s : State} {p : Nat} {v : Word}

/-- The fields of PORT_CTRL that only store. -/
def ctrlStored (p : Nat) (v : Word) (s : State) : State :=
  ((s.put (PORT_CTRL_sheddable p) (v.bits 7 7)).put (PORT_CTRL_allow_stored p) (v.bits 6 6)).put (PORT_CTRL_step_gen p) (v.bits 5 4)

/-- The stored fields with enable. -/
def ctrlWritten (p e : Nat) (v : Word) (s : State) : State := (ctrlStored p v s).put (PORT_CTRL_enable p) e

/-- The write of enable. -/
def ctrlEnabled (p : Nat) (v : Word) (s : State) : State :=
  if v.bits 0 0 = 1 then leaveDark p ((ctrlWritten p 1 v s).modPort p fun x => { x with disabling := false })
  else (ctrlWritten p 0 v s).modPort p fun x => { x with disabling := decide (s.stage p ≠ 0) }

/-- The write of the test hold. -/
def ctrlHeld (p : Nat) (v : Word) (s : State) : State :=
  if v.bits 1 1 = 1 && !s.flag (PORT_CTRL_test_hold p) then testHoldSet p (ctrlEnabled p v s)
  else if v.bits 1 1 = 0 && s.flag (PORT_CTRL_test_hold p) then testHoldClear p (ctrlEnabled p v s) else ctrlEnabled p v s

/-- The write of retrain. -/
def ctrlRetrained (p : Nat) (v : Word) (s : State) : State :=
  if v.bits 2 2 = 1 && (ctrlHeld p v s).stage p = 7 then startRetrain p Fall.hostRequest ((ctrlHeld p v s).put (PORT_CTRL_retrain p) 1)
  else ctrlHeld p v s

theorem portWrite_ctrl : portWrite p (PORT_CTRL p) v s =
    some (if v.bits 3 3 = 1 then stepGo p (v.bits 5 4) (ctrlRetrained p v s) else ctrlRetrained p v s) := if_pos rfl

theorem ctrlHeld_same (h : v.bits 1 1 = s.get (PORT_CTRL_test_hold p)) : ctrlHeld p v s = ctrlEnabled p v s := by
  have hlt : s.get (PORT_CTRL_test_hold p) < 2 := get_lt_two rfl
  rcases (by omega : s.get (PORT_CTRL_test_hold p) = 0 ∨ s.get (PORT_CTRL_test_hold p) = 1) with hz | ho
  · rw [ctrlHeld, h, flag_of_get_eq_zero hz, hz]
    rfl
  · rw [ctrlHeld, h, flag_of_get_eq_one ho, ho]
    rfl

theorem ctrlRetrained_off (h : v.bits 2 2 = 0) : ctrlRetrained p v s = ctrlHeld p v s := if_neg (by rw [h]; simp)

/-- The stored fields and enable, outside S0: PORT_CTRL alone, and what the port keeps for the boundary. -/
structure CtrlTaken (p : Nat) (s t : State) (off : Bool) : Prop where
  touches : Touches [.regs, .ports] s t
  regs : SameRegs [PORT_CTRL p] s t
  port : t.port p = { s.port p with disabling := off }
  testHold : Keeps (PORT_CTRL_test_hold p) s t
  retrain : Keeps (PORT_CTRL_retrain p) s t

theorem ctrlWritten_only {e : Nat} : OnlyRegs s (ctrlWritten p e v s) := ((((OnlyRegs.refl s).put).put).put).put

theorem ctrlWritten_regs {e : Nat} : SameRegs [PORT_CTRL p] s (ctrlWritten p e v s) :=
  ((((SameRegs.refl _ s).put (by exact .head _)).put (by exact .head _)).put (by exact .head _)).put (by exact .head _)

/-- A bit of PORT_CTRL from 1 to 3 stands. -/
theorem ctrlWritten_keeps {e : Nat} {f : Field} (hs : apart (PORT_CTRL_sheddable p) f = true) (ha : apart (PORT_CTRL_allow_stored p) f = true)
    (hg : apart (PORT_CTRL_step_gen p) f = true) (he : apart (PORT_CTRL_enable p) f = true) : Keeps f s (ctrlWritten p e v s) :=
  ((((Keeps.refl _ s).put (.inr hs)).put (.inr ha)).put (.inr hg)).put (.inr he)

theorem ctrlStored_taken {e : Nat} {off : Bool} :
    CtrlTaken p s ((ctrlWritten p e v s).modPort p fun x => { x with disabling := off }) off := by
  have honly := ctrlWritten_only (p := p) (s := s) (v := v) (e := e)
  have hregs := ctrlWritten_regs (p := p) (s := s) (v := v) (e := e)
  have hhold : Keeps (PORT_CTRL_test_hold p) s (ctrlWritten p e v s) := ctrlWritten_keeps rfl rfl rfl rfl
  have hretrain : Keeps (PORT_CTRL_retrain p) s (ctrlWritten p e v s) := ctrlWritten_keeps rfl rfl rfl rfl
  have htouch : Touches [.regs, .ports] s (ctrlWritten p e v s) := ((((Touches.refl _ s).put).put).put).put
  generalize ctrlWritten p e v s = u at *
  refine ⟨htouch.modPort, hregs.modPort, ?_, hhold.trans (State.get_modPort _ _ _ _), hretrain.trans (State.get_modPort _ _ _ _)⟩
  rw [State.port_modPort, honly.keep (F := fun w => w.port p) (fun _ => rfl) rfl]

/-- A field of another register than PORT_CTRL. -/
theorem CtrlTaken.get {t : State} {off : Bool} (h : CtrlTaken p s t off) {f : Field} (hf : f.addr ≠ PORT_CTRL p) : t.get f = s.get f :=
  h.regs.get fun hm => hf (List.mem_singleton.1 hm)

theorem leaveDark_lit (h : s.stage p ≠ 0) : leaveDark p s = s := if_neg (by simp [h])

theorem ctrlEnabled_taken (h : s.stage p ≠ 0) : ∃ off, CtrlTaken p s (ctrlEnabled p v s) off := by
  unfold ctrlEnabled
  split
  · have ht := ctrlStored_taken (p := p) (s := s) (v := v) (e := 1) (off := false)
    rw [leaveDark_lit (by rw [State.stage, ht.get ne_port]; exact h)]
    exact ⟨_, ht⟩
  · exact ⟨_, ctrlStored_taken⟩

/-! ### Enabling a dark port -/

theorem startLit_congr {t : State} (hstart : t.start = s.start) (hmode : t.mode = s.mode)
    (hstep : t.get GLB_START_STATUS_step = s.get GLB_START_STATUS_step) : startLit t = startLit s := by
  rw [startLit, startLit, hstart, hmode, hstep]

theorem anyPll_congr {t : State} (h : t.get LANE_PLL_STATUS_lock = s.get LANE_PLL_STATUS_lock) : anyPll t p = anyPll s p := by
  rw [anyPll, anyPll, pllLocked, pllLocked, pllLocked, pllLocked, h]

/-- A port that leaves S0. -/
def darkLeft (p : Nat) (s : State) : State := setStage p 1 (clearCourse p (s.put (PORT_NEG_attempts p) 0))

theorem leaveDark_eq (hst : s.stage p = 0) (hen : s.get (PORT_CTRL_enable p) = 1) (hlit : startLit s = true) (hpll : anyPll s p = true) :
    leaveDark p s = darkLeft p s := if_pos (by rw [hst, flag_of_get_eq_one hen, hlit, hpll]; rfl)

theorem darkLeft_stage : (darkLeft p s).stage p = 1 := setStage_stage (by decide)

theorem darkLeft_enable (hp : p < 16) (h : s.get (PORT_CTRL_enable p) = 1) : (darkLeft p s).get (PORT_CTRL_enable p) = 1 :=
  Eq.trans ((((Keeps.refl (PORT_CTRL_enable p) s).put (g := PORT_NEG_attempts p) (v := 0) (.inl ne_port)).trans
    (keeps_clearCourse ne_port ne_port (.inr rfl))).trans (keeps_setStage hp (.inl ne_port) (.inl ne_port) ne_port not_laneReg)) h

theorem darkLeft_attempts (hp : p < 16) : (darkLeft p s).get (PORT_NEG_attempts p) = 0 :=
  Eq.trans ((keeps_clearCourse ne_port ne_port (.inl ne_port)).trans
    (keeps_setStage hp (.inl ne_port) (.inl ne_port) ne_port not_laneReg)) (State.get_put_self rfl (Nat.two_pow_pos _))

theorem port_darkLeft (hp : p < 16) : ((darkLeft p s).port p).attempt = none ∧ ((darkLeft p s).port p).granted = false := by
  have hport : (darkLeft p s).port p = { (clearCourse p (s.put (PORT_NEG_attempts p) 0)).port p with
      stageTick := (clearCourse p (s.put (PORT_NEG_attempts p) 0)).ticks } := port_setStage hp
  rw [hport, port_clearCourse]
  exact ⟨rfl, rfl⟩

/-! ### The end of a hold -/

/-- The quick retrain that ends a hold. -/
def holdLeft (p : Nat) (waiting : Bool) (cause : Nat) (s : State) : State :=
  (s.modPort p fun x => { x with qrWaiting := waiting, qrCause := cause, path := .quick }).cause (Cause.PORT_quick_retrain p)

theorem holdEnds_eq {waiting : Bool} {cause : Nat} :
    holdEnds p waiting cause s = forEach (lanesOf p) (fun l s => devicePrbs l true s) (setStage p 5 (holdLeft p waiting cause s)) := rfl

theorem holdEnds_stage {waiting : Bool} {cause : Nat} (hp : p < 16) : (holdEnds p waiting cause s).stage p = 5 := by
  rw [State.stage, holdEnds_eq]
  exact ((prbsLanes_confined hp).get not_quietReg).trans (setStage_stage (by decide))

theorem holdEnds_hold {waiting : Bool} {cause : Nat} (hp : p < 16) : (holdEnds p waiting cause s).get (PORT_STATUS_hold p) = 0 := by
  rw [holdEnds_eq]
  exact ((prbsLanes_confined hp).get not_quietReg).trans setStage_hold

theorem keeps_holdEnds {f : Field} {waiting : Bool} {cause : Nat} (hp : p < 16) (hcause : f.addr ≠ PORT_EVT_CAUSE p) (h : StageOff p f) :
    Keeps f s (holdEnds p waiting cause s) := by
  have hleft : Keeps f s (holdLeft p waiting cause s) := Keeps.cause (State.get_modPort _ _ _ _) hcause
  rw [holdEnds_eq]
  exact (hleft.trans (keeps_setStage_quiet hp (by decide) h.stage h.hold h.fec h.lane)).confined (prbsLanes_confined hp) h.lane

theorem holdEnds_touches {waiting : Bool} {cause : Nat} (hp : p < 16) : Touches stageParts s (holdEnds p waiting cause s) := by
  rw [holdEnds_eq]
  exact ((((Touches.refl _ s).modPort).cause).trans (setStage_touches hp)).trans ((prbsLanes_confined hp).touches.mono (by decide))

theorem port_holdEnds {waiting : Bool} {cause : Nat} (hp : p < 16) :
    ∃ n, (holdEnds p waiting cause s).port p = { s.port p with qrWaiting := waiting, qrCause := cause, path := .quick, stageTick := n } := by
  have hleft : (holdLeft p waiting cause s).port p = { s.port p with qrWaiting := waiting, qrCause := cause, path := .quick } :=
    (RegsAndEvents.cause (.refl _)).port p |>.trans (State.port_modPort _ _ _)
  have hstage : (setStage p 5 (holdLeft p waiting cause s)).port p =
      { (holdLeft p waiting cause s).port p with stageTick := (holdLeft p waiting cause s).ticks } := port_setStage hp
  rw [holdEnds_eq, State.port_of_ports (Touches.keeps_ports (prbsLanes_confined hp).touches) p, hstage, hleft]
  exact ⟨_, rfl⟩

/-! ### A step that is refused -/

theorem stepGo_refused {target : Nat} (h : s.stage p ≠ 7) : stepGo p target s = stepRefused p (s.put (PORT_CTRL_step_go p) 1) :=
  if_pos (by simp [h])

theorem stepRefused_regs : SameRegs [PORT_CTRL p, PORT_NEG p, PORT_EVT_CAUSE p] s (stepRefused p s) :=
  (((SameRegs.refl _ s).put (by exact .tail _ (.head _))).put (by exact .head _)).cause (by exact .tail _ (.tail _ (.head _)))

theorem stepRefused_fields : (stepRefused p s).get (PORT_NEG_step_outcome p) = 2 ∧ (stepRefused p s).get (PORT_CTRL_step_go p) = 0 := by
  refine ⟨(State.get_cause_ne _ ne_port).trans ((State.get_put_ne _ _ _ _ ne_port).trans (State.get_put_self rfl ?_)),
    (State.get_cause_ne _ ne_port).trans (State.get_put_self rfl (Nat.two_pow_pos _))⟩
  simp [PORT_NEG_step_outcome]

end

/-! ### The statement -/

section
variable {s : State} {p : Nat} {v : Word}

/-- With the bits of step and retrain clear, the write ends with the test hold. -/
theorem portWrite_held (hgo : v.bits 3 3 = 0) (hretrain : v.bits 2 2 = 0) : portWrite p (PORT_CTRL p) v s = some (ctrlHeld p v s) := by
  rw [portWrite_ctrl, if_neg (by rw [hgo]; decide), ctrlRetrained_off hretrain]

theorem stage_ctrlTaken {t : State} {off : Bool} (h : CtrlTaken p s t off) : t.stage p = s.stage p := h.get ne_port

theorem portEnable_effect (hp : p < 16) (hgo : v.bits 3 3 = 0) (hretrain : v.bits 2 2 = 0) (hhold : v.bits 1 1 = 0) (hen : v.bits 0 0 = 1)
    (hst : s.stage p = 0) (hlit : startLit s = true) (hpll : anyPll s p = true) (htest : s.get (PORT_CTRL_test_hold p) = 0) :
    ∃ t, portWrite p (PORT_CTRL p) v s = some t ∧ t.stage p = 1 ∧ t.get (PORT_CTRL_enable p) = 1 ∧ t.get (PORT_NEG_attempts p) = 0 ∧
      (t.port p).attempt = none ∧ (t.port p).granted = false := by
  obtain ⟨u, hu, ht⟩ : ∃ u, u = (ctrlWritten p 1 v s).modPort p (fun x => { x with disabling := false }) ∧ CtrlTaken p s u false :=
    ⟨_, rfl, ctrlStored_taken⟩
  have henable : u.get (PORT_CTRL_enable p) = 1 := by
    rw [hu, State.get_modPort]
    exact State.get_put_self rfl (by simp [PORT_CTRL_enable])
  have hmode : u.mode = s.mode := ht.get (by simp only [PWR_MODE_mode, PWR_MODE, PORT_CTRL]; omega)
  have hstep : u.get GLB_START_STATUS_step = s.get GLB_START_STATUS_step :=
    ht.get (by simp only [GLB_START_STATUS_step, GLB_START_STATUS, PORT_CTRL]; omega)
  have hlock : u.get LANE_PLL_STATUS_lock = s.get LANE_PLL_STATUS_lock :=
    ht.get (by simp only [LANE_PLL_STATUS_lock, LANE_PLL_STATUS, PORT_CTRL]; omega)
  have heq : ctrlHeld p v s = darkLeft p u := by
    rw [ctrlHeld_same (hhold.trans htest.symm), ctrlEnabled, if_pos hen, ← hu]
    exact leaveDark_eq ((stage_ctrlTaken ht).trans hst) henable ((startLit_congr ht.touches.keeps_start hmode hstep).trans hlit)
      ((anyPll_congr hlock).trans hpll)
  exact ⟨_, (portWrite_held hgo hretrain).trans (congrArg some heq), darkLeft_stage, darkLeft_enable hp henable, darkLeft_attempts hp, port_darkLeft hp⟩

theorem portDisable_effect (hgo : v.bits 3 3 = 0) (hretrain : v.bits 2 2 = 0) (hhold : v.bits 1 1 = 0) (hen : v.bits 0 0 = 0)
    (hst : s.stage p ≠ 0) (htest : s.get (PORT_CTRL_test_hold p) = 0) :
    ∃ t, portWrite p (PORT_CTRL p) v s = some t ∧ t.get (PORT_CTRL_enable p) = 0 ∧ CtrlTaken p s t true := by
  have heq : ctrlHeld p v s = (ctrlWritten p 0 v s).modPort p fun x => { x with disabling := true } := by
    rw [ctrlHeld_same (hhold.trans htest.symm), ctrlEnabled, if_neg (by rw [hen]; decide), decide_eq_true hst]
  exact ⟨_, (portWrite_held hgo hretrain).trans (congrArg some heq), (State.get_modPort _ _ _ _).trans (State.get_put_self rfl (Nat.two_pow_pos _)),
    ctrlStored_taken⟩

/-- Behind the stored fields a retrain from S7 begins, with a bit of PORT_CTRL set. -/
theorem hostRetrain_effect {u : State} {off : Bool} {f : Field} (hp : p < 16) (hu : CtrlTaken p s u off) (h7 : s.stage p = 7)
    (haddr : f.addr = PORT_CTRL p) :
    (startRetrain p Fall.hostRequest (u.put f 1)).stage p = 5 ∧
    (∃ n, (startRetrain p Fall.hostRequest (u.put f 1)).port p =
      { retrainBegin Fall.hostRequest true { s.port p with disabling := off } with stageTick := n }) ∧
    (startRetrain p Fall.hostRequest (u.put f 1)).get (PORT_STATUS_gen p) = s.get (PORT_STATUS_gen p) ∧
    (startRetrain p Fall.hostRequest (u.put f 1)).get (PORT_FALL_last_cause p) = Fall.hostRequest := by
  have hne {b : Nat} (hb : b ≠ 0x4000C := by decide) : b + 0x400 * p ≠ f.addr := haddr ▸ ne_port hb
  have hst : (u.put f 1).stage p = 7 := (State.get_put_ne _ _ _ _ hne).trans ((stage_ctrlTaken hu).trans h7)
  have hport : (u.put f 1).port p = { s.port p with disabling := off } := ((RegsAndEvents.refl u).put.port p).trans hu.port
  refine ⟨startRetrain_stage hp hst, ?_, ?_, startRetrain_lastCause hp hst (by decide)⟩
  · rw [← hport]
    exact port_startRetrain hp hst
  · exact (startRetrain_gen hp hst).trans ((State.get_put_ne _ _ _ _ hne).trans (hu.get ne_port))

theorem stageOff_testHold : StageOff p (PORT_CTRL_test_hold p) := ⟨.inl ne_port, .inl ne_port, ne_port, not_quietReg⟩

theorem testHoldSet_effect (hp : p < 16) (hgo : v.bits 3 3 = 0) (hretrain : v.bits 2 2 = 0) (hhold : v.bits 1 1 = 1) (h7 : s.stage p = 7)
    (htest : s.get (PORT_CTRL_test_hold p) = 0) : ∃ t, portWrite p (PORT_CTRL p) v s = some t ∧ t.stage p = 5 ∧ t.get (PORT_STATUS_hold p) = 1 ∧
      t.get (PORT_CTRL_test_hold p) = 1 ∧ (t.port p).qrWaiting = true ∧ t.get (PORT_STATUS_gen p) = s.get (PORT_STATUS_gen p) := by
  obtain ⟨off, hu⟩ := ctrlEnabled_taken (v := v) (by omega : s.stage p ≠ 0)
  have heq : ctrlHeld p v s = startRetrain p Fall.hostRequest ((ctrlEnabled p v s).put (PORT_CTRL_test_hold p) 1) :=
    if_pos (by rw [hhold, flag_of_get_eq_zero htest]; rfl)
  generalize ctrlEnabled p v s = u at hu heq
  obtain ⟨hstage, ⟨n, hport⟩, hgen, -⟩ := hostRetrain_effect (f := PORT_CTRL_test_hold p) hp hu h7 rfl
  have h7' : (u.put (PORT_CTRL_test_hold p) 1).stage p = 7 := (State.get_put_ne _ _ _ _ ne_port).trans ((stage_ctrlTaken hu).trans h7)
  have hset : (u.put (PORT_CTRL_test_hold p) 1).get (PORT_CTRL_test_hold p) = 1 := State.get_put_self rfl (by simp [PORT_CTRL_test_hold])
  refine ⟨_, (portWrite_held hgo hretrain).trans (congrArg some heq), hstage, ?_, ?_, ?_, hgen⟩
  · rw [startRetrain_hold hp h7', flag_of_get_eq_one hset]
    rfl
  · exact Eq.trans (keeps_startRetrain hp h7' retrainOff_testHold stageOff_testHold) hset
  · rw [hport]
    rfl

theorem testHoldClear_effect (hp : p < 16) (hgo : v.bits 3 3 = 0) (hretrain : v.bits 2 2 = 0) (hhold : v.bits 1 1 = 0) (h5 : s.stage p = 5)
    (hshown : s.get (PORT_STATUS_hold p) = 1) (htest : s.get (PORT_CTRL_test_hold p) = 1) :
    ∃ t, portWrite p (PORT_CTRL p) v s = some t ∧ t.stage p = 5 ∧ t.get (PORT_STATUS_hold p) = 0 ∧ t.get (PORT_CTRL_test_hold p) = 0 ∧
      (t.port p).qrWaiting = true ∧ (t.tow p).queue = (s.tow p).queue ++ [[0x04, 0x07]] := by
  obtain ⟨off, hu⟩ := ctrlEnabled_taken (v := v) (by omega : s.stage p ≠ 0)
  have hne : v.bits 1 1 ≠ 1 := by omega
  have hclear : ctrlHeld p v s = testHoldClear p (ctrlEnabled p v s) :=
    (if_neg (by simp [hne])).trans (if_pos (by rw [hhold, flag_of_get_eq_one htest]; rfl))
  generalize ctrlEnabled p v s = u at hu hclear
  have hshown' : u.get (PORT_STATUS_hold p) = 1 := (hu.get ne_port).trans hshown
  have heq : testHoldClear p u =
      towEnqueue p [0x04, 0x07] (holdEnds p true Fall.hostRequest (u.put (PORT_CTRL_test_hold p) 0)) :=
    if_neg (by rw [flag_of_get_eq_one hshown']; decide)
  have hset : (u.put (PORT_CTRL_test_hold p) 0).get (PORT_CTRL_test_hold p) = 0 := State.get_put_self rfl (Nat.two_pow_pos _)
  have htow : (u.put (PORT_CTRL_test_hold p) 0).tow p = s.tow p :=
    ((RegsAndEvents.refl u).put.tow p).trans (State.tow_of_tows hu.touches.keeps_tows p)
  refine ⟨_, (portWrite_held hgo hretrain).trans (congrArg some (hclear.trans heq)), ?_, ?_, ?_, ?_, ?_⟩
  · exact (State.get_modTow _ _ _ _).trans (holdEnds_stage hp)
  · exact (State.get_modTow _ _ _ _).trans (holdEnds_hold hp)
  · exact (State.get_modTow _ _ _ _).trans (Eq.trans (keeps_holdEnds hp ne_port stageOff_testHold) hset)
  · obtain ⟨n, hport⟩ := port_holdEnds (s := u.put (PORT_CTRL_test_hold p) 0) (waiting := true) (cause := Fall.hostRequest) hp
    rw [State.port_of_ports (towEnqueue_touches _).keeps_ports p, hport]
  · rw [towEnqueue, State.tow_modTow, State.tow_of_tows (holdEnds_touches hp).keeps_tows p, htow]

theorem retrain_effect (hp : p < 16) (hgo : v.bits 3 3 = 0) (hretrain : v.bits 2 2 = 1) (hhold : v.bits 1 1 = s.get (PORT_CTRL_test_hold p))
    (h7 : s.stage p = 7) : ∃ t, portWrite p (PORT_CTRL p) v s = some t ∧ t.stage p = 5 ∧ (t.port p).qrWaiting = true ∧
      (t.port p).qrCause = Fall.hostRequest ∧ (t.port p).keepLink = true ∧ t.get (PORT_FALL_last_cause p) = Fall.hostRequest ∧
      t.get (PORT_STATUS_gen p) = s.get (PORT_STATUS_gen p) := by
  obtain ⟨off, hu⟩ := ctrlEnabled_taken (v := v) (by omega : s.stage p ≠ 0)
  have hheld := ctrlHeld_same hhold
  have heq : ctrlRetrained p v s = startRetrain p Fall.hostRequest ((ctrlHeld p v s).put (PORT_CTRL_retrain p) 1) :=
    if_pos (by rw [hheld, hretrain, stage_ctrlTaken hu, h7]; rfl)
  rw [hheld] at heq
  generalize ctrlEnabled p v s = u at hu heq
  obtain ⟨hstage, ⟨n, hport⟩, hgen, hlast⟩ := hostRetrain_effect (f := PORT_CTRL_retrain p) hp hu h7 rfl
  refine ⟨_, portWrite_ctrl.trans (congrArg some ((if_neg (by rw [hgo]; decide)).trans heq)), hstage, ?_, ?_, ?_, hlast, hgen⟩
  all_goals rw [hport]; rfl

theorem stepGo_effect (hgo : v.bits 3 3 = 1) (hretrain : v.bits 2 2 = 0) (hhold : v.bits 1 1 = s.get (PORT_CTRL_test_hold p))
    (h0 : s.stage p ≠ 0) (h7 : s.stage p ≠ 7) : ∃ t, portWrite p (PORT_CTRL p) v s = some t ∧ t.get (PORT_NEG_step_outcome p) = 2 ∧
      t.get (PORT_CTRL_step_go p) = 0 ∧ t.stage p = s.stage p ∧ SameRegs [PORT_CTRL p, PORT_NEG p, PORT_EVT_CAUSE p] s t := by
  obtain ⟨off, hu⟩ := ctrlEnabled_taken (v := v) h0
  have heq : ctrlRetrained p v s = ctrlEnabled p v s := (ctrlRetrained_off hretrain).trans (ctrlHeld_same hhold)
  generalize ctrlEnabled p v s = u at hu heq
  have hrefused : stepGo p (v.bits 5 4) u = stepRefused p (u.put (PORT_CTRL_step_go p) 1) := stepGo_refused (by rw [stage_ctrlTaken hu]; exact h7)
  have hregs : SameRegs [PORT_CTRL p, PORT_NEG p, PORT_EVT_CAUSE p] s (stepRefused p (u.put (PORT_CTRL_step_go p) 1)) :=
    ((hu.regs.mono fun _ h => List.mem_singleton.1 h ▸ .head _).put (by exact .head _)).trans stepRefused_regs
  refine ⟨_, portWrite_ctrl.trans (congrArg some ((if_pos hgo).trans ((congrArg _ heq).trans hrefused))), stepRefused_fields.1, stepRefused_fields.2, ?_,
    hregs⟩
  refine hregs.get ?_
  simp only [List.mem_cons, List.not_mem_nil, or_false, not_or]
  exact ⟨ne_port, ne_port, ne_port⟩

end

theorem clearing_portStats : ∀ p : Port, clearing (PORT_STATS_CLR p) = true := by decide +kernel

/-- Settles O10: each write is one branch of portWrite; the stages it moves are said by the lemmas about retrains, holds and S0. -/
theorem portControlWritesActAsStated : Obligations.PortControlWritesActAsStated := by
  unfold Obligations.PortControlWritesActAsStated
  intro s src p v hw
  have hp := p.isLt
  have hbit {k j x y : Nat} (hk : k < 32) (hj : j ≠ k) (h : v.bits j j = y) : (v.withBits k k x).bits j j = y := (withBits_bit_ne v hk hj).trans h
  refine ⟨fun hst hlit hpll htest hv => ?_, fun hst htest hv => ?_, fun h7 htest hv => ?_, fun h5 hhold htest hv => ?_, fun h7 htest hv => ?_,
    fun h1 h6 htest hv => ?_, fun hw' => ?_⟩
  · obtain ⟨c, hc⟩ := write_portActs (portActing_ctrl p) hw src (v.withBits 0 0 1)
    obtain ⟨hhold, hretrain, hgo⟩ := bits_eq_zero_of_31 hv
    obtain ⟨t, ht, heffect⟩ := portEnable_effect (s := { s with commit := c }) hp (hbit (by decide) (by decide) hgo) (hbit (by decide) (by decide) hretrain)
      (hbit (by decide) (by decide) hhold) (withBits_bit v (by decide)) hst hlit hpll htest
    exact ⟨t, congrArg Host.Outcome.next (hc t ht), heffect⟩
  · obtain ⟨c, hc⟩ := write_portActs (portActing_ctrl p) hw src (v.withBits 0 0 0)
    obtain ⟨hhold, hretrain, hgo⟩ := bits_eq_zero_of_31 hv
    obtain ⟨t, ht, henable, htaken⟩ := portDisable_effect (s := { s with commit := c }) (hbit (by decide) (by decide) hgo)
      (hbit (by decide) (by decide) hretrain) (hbit (by decide) (by decide) hhold) (withBits_bit_zero v (by decide)) hst htest
    exact ⟨t, congrArg Host.Outcome.next (hc t ht), henable, (stage_ctrlTaken htaken).trans rfl, htaken.port.trans rfl,
      .trans (.of_regs rfl) htaken.regs⟩
  · obtain ⟨c, hc⟩ := write_portActs (portActing_ctrl p) hw src (v.withBits 1 1 1)
    obtain ⟨hretrain, hgo⟩ := bits_eq_zero_of_32 hv
    obtain ⟨t, ht, heffect⟩ := testHoldSet_effect (s := { s with commit := c }) hp (hbit (by decide) (by decide) hgo)
      (hbit (by decide) (by decide) hretrain) (withBits_bit v (by decide)) h7 htest
    exact ⟨t, congrArg Host.Outcome.next (hc t ht), heffect⟩
  · obtain ⟨c, hc⟩ := write_portActs (portActing_ctrl p) hw src (v.withBits 1 1 0)
    obtain ⟨hretrain, hgo⟩ := bits_eq_zero_of_32 hv
    obtain ⟨t, ht, heffect⟩ := testHoldClear_effect (s := { s with commit := c }) hp (hbit (by decide) (by decide) hgo)
      (hbit (by decide) (by decide) hretrain) (withBits_bit_zero v (by decide)) h5 hhold htest
    exact ⟨t, congrArg Host.Outcome.next (hc t ht), heffect⟩
  · obtain ⟨c, hc⟩ := write_portActs (portActing_ctrl p) hw src (v.withBits 2 2 1)
    obtain ⟨t, ht, heffect⟩ := retrain_effect (s := { s with commit := c }) hp (hbit (by decide) (by decide) hv) (withBits_bit v (by decide))
      (hbit (by decide) (by decide) htest) h7
    exact ⟨t, congrArg Host.Outcome.next (hc t ht), heffect⟩
  · obtain ⟨c, hc⟩ := write_portActs (portActing_ctrl p) hw src (v.withBits 3 3 1)
    obtain ⟨t, ht, heffect⟩ := stepGo_effect (s := { s with commit := c }) (withBits_bit v (by decide)) (hbit (by decide) (by decide) hv)
      (hbit (by decide) (by decide) htest) (show s.stage p ≠ 0 by omega) (show s.stage p ≠ 7 by omega)
    exact ⟨t, congrArg Host.Outcome.next (hc t ht), heffect⟩
  · exact ⟨_, congrArg Host.Outcome.next (write_clearing (clearing_portStats p) hw' src), rfl, .clears (.setReg (.refl _ s) (by exact .head _))⟩

end Sys2Proof.Machine
end

section
/-!
PROOF. Negotiation: CAP, SEL, GO, their timers, the ledger's answer, and the limits of an attempt.
-/
set_option autoImplicit false
set_option Elab.async false

namespace Sys2Proof.Machine
open Reg Bit

section
variable {s : State} {p : Nat}

/-! ### CAP -/

/-- A message that waits behind a change of the port. -/
theorem capSent_fields {m : List Byte} {f : PortSt → PortSt} : (towEnqueue p m (s.modPort p f)).tow p = { s.tow p with queue := (s.tow p).queue ++ [m] } ∧
    (towEnqueue p m (s.modPort p f)).regs = s.regs ∧ { towEnqueue p m (s.modPort p f) with tows := s.tows, ports := s.ports } = s := by
  have htouch : Touches [.tows, .ports] s (towEnqueue p m (s.modPort p f)) := ((Touches.refl _ s).modPort).modTow
  refine ⟨?_, htouch.keeps_regs, htouch.frame (fun u => { u with tows := s.tows, ports := s.ports }) fun _ => rfl⟩
  rw [towEnqueue, State.tow_modTow, State.tow_of_tows (State.modPort_tows _ _ _)]

theorem capTimer_first (hneg : negotiates s p = true) (hgrant : (s.port p).granted = false) (hheld : (s.port p).capHeld = false) :
    capTimer p s = towEnqueue p (capPayload s p) (s.modPort p fun x => { x with capAgain := false }) := by
  rw [capTimer, if_neg (by rw [hneg, hgrant]; decide), if_pos (by rw [hheld]; rfl)]

theorem capTimer_sel {x : SelMsg} (hneg : negotiates s p = true) (hgrant : (s.port p).granted = false) (hheld : (s.port p).capHeld = true)
    (hagain : (s.port p).capAgain = false) (hown : (s.port p).ownSel = some x) (hpeer : (s.port p).peerSel = none) :
    capTimer p s = towEnqueue p (selPayload x) s := by
  rw [capTimer, if_neg (by rw [hneg, hgrant]; decide), if_neg (by rw [hheld, hagain]; decide), hown, hpeer]

/-- What a CAP tells of the peer: its capabilities, device and revision. -/
def peerStored (p w : Nat) (m : List Byte) (s : State) : State :=
  ((s.setReg (PORT_PEER_CAP p) (BitVec.ofNat 32 w)).setReg (PORT_PEER_DEV p) (BitVec.ofNat 32 (ofBytesBE ((m.drop 10).take 4)))).setReg
    (PORT_PEER_REV p) (BitVec.ofNat 32 (ofBytesBE ((m.drop 14).take 4)))

theorem recordCap_eq (m : List Byte) : ∃ w a b, w / 2 ^ 31 = 1 ∧ recordCap p m s =
    (((peerStored p w m s).put (PORT_STATUS_peer_node p) a).put (PORT_STATUS_peer_node_valid p) b).modTow p fun x =>
      { x with lastFrame := some s.ticks } := by
  refine ⟨_, _, _, ?_, rfl⟩
  omega

theorem peerStored_fields {w : Nat} {m : List Byte} (hw : w / 2 ^ 31 = 1) :
    (peerStored p w m s).reg (PORT_PEER_DEV p) = BitVec.ofNat 32 (ofBytesBE ((m.drop 10).take 4)) ∧
    (peerStored p w m s).reg (PORT_PEER_REV p) = BitVec.ofNat 32 (ofBytesBE ((m.drop 14).take 4)) ∧
    (peerStored p w m s).get (PORT_PEER_CAP_valid p) = 1 := by
  refine ⟨(State.reg_setReg_ne _ _ ne_port).trans (State.reg_setReg_same _ _ _), State.reg_setReg_same _ _ _, ?_⟩
  have hcap : (peerStored p w m s).reg (PORT_PEER_CAP p) = BitVec.ofNat 32 w :=
    (State.reg_setReg_ne _ _ ne_port).trans ((State.reg_setReg_ne _ _ ne_port).trans (State.reg_setReg_same _ _ _))
  rw [State.get, show (PORT_PEER_CAP_valid p).addr = PORT_PEER_CAP p from rfl, hcap, Word.bits, BitVec.toNat_ofNat]
  change w % 2 ^ 32 / 2 ^ 31 % 2 ^ 1 = 1
  omega

theorem recordCap_fields {m : List Byte} :
    (recordCap p m s).reg (PORT_PEER_DEV p) = BitVec.ofNat 32 (ofBytesBE ((m.drop 10).take 4)) ∧
    (recordCap p m s).reg (PORT_PEER_REV p) = BitVec.ofNat 32 (ofBytesBE ((m.drop 14).take 4)) ∧
    (recordCap p m s).get (PORT_PEER_CAP_valid p) = 1 := by
  obtain ⟨w, a, b, hw, heq⟩ := recordCap_eq (p := p) (s := s) m
  have hpeer := peerStored_fields (p := p) (s := s) (m := m) hw
  rw [heq]
  generalize peerStored p w m s = u at hpeer ⊢
  have hstatus : SameRegs [PORT_STATUS p] u (((u.put (PORT_STATUS_peer_node p) a).put (PORT_STATUS_peer_node_valid p) b).modTow p fun x =>
      { x with lastFrame := some s.ticks }) := (((SameRegs.refl _ u).put (by exact .head _)).put (by exact .head _)).modTow
  have hoff {c : Nat} (hc : c ≠ 0x40000 := by decide) : c + 0x400 * p ∉ [PORT_STATUS p] := fun h => ne_port hc (List.mem_singleton.1 h)
  exact ⟨(hstatus _ hoff).trans hpeer.1, (hstatus _ hoff).trans hpeer.2.1, (hstatus.get hoff).trans hpeer.2.2⟩

/-- The registers that a CAP can write behind those of the peer. -/
def capRegs (p : Nat) : List Nat := [PORT_TOW_WAKE p, FAB_EVT_CAUSE, PORT_STATUS p, PORT_NEG p, PORT_EVT_CAUSE p]

theorem negotiateFail_regs {cause : Nat} : SameRegs [PORT_STATUS p, PORT_NEG p, PORT_EVT_CAUSE p] s (negotiateFail p cause s) := by
  have hclear : SameRegs [PORT_STATUS p, PORT_NEG p, PORT_EVT_CAUSE p] s (clearNegotiation p (towEnqueue p (goPayload 2 cause) s)) :=
    SameRegs.trans (.of_regs rfl) (clearNegotiation_regs.mono fun _ h => List.mem_singleton.1 h ▸ .head _)
  exact ((hclear.modPort).put (by exact .tail _ (.head _))).cause (by exact .tail _ (.tail _ (.head _)))

theorem recomputeSel_regs : SameRegs [PORT_STATUS p, PORT_NEG p, PORT_EVT_CAUSE p] s (recomputeSel p s) := by
  unfold recomputeSel
  extract_lets x
  refine .ite (.refl _ s) ?_
  split
  · exact .of_regs rfl
  · exact negotiateFail_regs

theorem wakeEnd_regs : SameRegs [PORT_TOW_WAKE p] s (wakeEnd p s) :=
  .ite ((SameRegs.of_regs (t := s.modTow p fun x => { x with waking := false, wakeWaiting := false }) rfl).put (by exact .head _) |>.put
    (by exact .head _)) (.refl _ s)

theorem nodeConflict_regs {node : Nat} {valid : Bool} : SameRegs [FAB_EVT_CAUSE] s (nodeConflict p node valid s) :=
  .ite (.refl _ s) ((SameRegs.of_regs rfl).cause (by exact .head _))

theorem capArrives_regs {m : List Byte} (hlen : m.length = 18) (hhead : m.headD 0 = 1) (hst : s.stage p ≠ 0) :
    SameRegs (capRegs p) (recordCap p m s) (capArrives p m s) := by
  unfold capArrives
  rw [if_neg (by rw [isMessage, hlen, hhead]; simpa using hst)]
  extract_lets id s1 first s2 s3
  have h1 : SameRegs (capRegs p) (recordCap p m s) s1 :=
    (wakeEnd_regs.mono fun _ h => List.mem_singleton.1 h ▸ .head _).trans (nodeConflict_regs.mono fun _ h => List.mem_singleton.1 h ▸ .tail _ (.head _))
  have h2 : SameRegs (capRegs p) (recordCap p m s) s2 := h1.modPort
  have h3 : SameRegs (capRegs p) (recordCap p m s) s3 := .ite h2.modTow h2
  refine .ite h1 (.trans (.ite (.addField h3 (by exact .tail _ (.tail _ (.tail _ (.head _))))) h3) (recomputeSel_regs.mono fun _ h => ?_))
  exact .tail _ (.tail _ h)

/-! ### SEL, the ledger and GO -/

theorem stage_of_negotiates (h : negotiates s p = true) : s.stage p = 1 := by
  simp only [negotiates, Bool.and_eq_true, beq_iff_eq] at h
  exact h.1.1.1

/-- The own SEL sent again, and the peer's taken. -/
def selTaken (p : Nat) (x : SelMsg) (s : State) : State :=
  requestLedger p x ((towEnqueue p (selPayload x) s).modPort p fun y => { y with peerSel := some x, selMismatch := 0 })

theorem selTaken_touches {x : SelMsg} : Touches [.tows, .ports, .asks] s (selTaken p x s) := (((Touches.refl _ s).modTow).modPort).asks

theorem tow_selTaken {x : SelMsg} : ((selTaken p x s).tow p).queue = (s.tow p).queue ++ [selPayload x] :=
  congrArg TowSt.queue (State.tow_modTow s p fun y => { y with queue := y.queue ++ [selPayload x] })

theorem port_selTaken {x : SelMsg} : (selTaken p x s).port p = { s.port p with peerSel := some x, selMismatch := 0 } :=
  State.port_modPort (towEnqueue p (selPayload x) s) p fun y => { y with peerSel := some x, selMismatch := 0 }

/-- The own SEL met: it is answered, and the ledger asked for the target. -/
theorem selArrives_agreed {m : List Byte} {x : SelMsg} (hm : isMessage m 0x02 5 = true) (hneg : negotiates s p = true)
    (hheld : (s.port p).capHeld = true) (hgrant : (s.port p).granted = false) (hown : (s.port p).ownSel = some x)
    (hwait : s.get (PORT_STATUS_ledger_wait p) = 0)
    (hpeer : x = ⟨(m.getD 1 0).toNat, (m.getD 2 0).toNat, (m.getD 3 0).toNat, (m.getD 4 0).toNat⟩) :
    selArrives p m s = selTaken p x s := by
  rw [selArrives, if_neg (by rw [hm, hneg, hheld]; decide), hown]
  simp only [← hpeer, hgrant, flag_of_get_eq_zero hwait, if_true, Bool.false_eq_true, if_false]
  rfl

theorem ledgerDecide_granted {a : LedgerAsk} (hasks : s.asks = [(p, a)]) (hkind : a.kind = .entry)
    (hjudge : ledgerJudge { s with asks := [] } p a.gen a.reach = none) :
    ledgerDecide s = entryGranted p a (ledgerGrant p a.gen a.reach { s with asks := [] }) := by
  have hone : ledgerDecide s = decideAsk (p, a) { s with asks := [] } := by rw [ledgerDecide, hasks]; rfl
  rw [hone, decideAsk, hjudge]
  change askGranted p a _ = _
  rw [askGranted, hkind]

/-- The port that the ledger granted its entry. -/
def entryPort (sel : SelMsg) (x : PortSt) : PortSt := { x with granted := true, refusals := 0, path := if sel.path = 1 then .stored else .full }

theorem setTarget_fields {gen reach : Nat} (hgen : gen < 4) (hreach : reach < 4) :
    (setTarget p gen reach s).get (PORT_STATUS_target_gen p) = gen ∧ (setTarget p gen reach s).get (PORT_STATUS_target_reach p) = reach :=
  have hregs (f : Field) : (setTarget p gen reach s).get f = ((s.put (PORT_STATUS_target_gen p) gen).put (PORT_STATUS_target_reach p) reach).get f :=
    State.get_of_regs rfl f
  ⟨(hregs _).trans ((State.get_put_apart rfl).trans (State.get_put_self rfl hgen)), (hregs _).trans (State.get_put_self rfl hreach)⟩

theorem setTarget_touches {gen reach : Nat} : Touches [.regs, .chargeDue] s (setTarget p gen reach s) := (((Touches.refl _ s).put).put).chargeDue

/-- The target taken and shown, with the version agreed and no wait. -/
def entryShown (p : Nat) (a : LedgerAsk) (version : Nat) (s : State) : State :=
  ((setTarget p a.gen a.reach s).put (PORT_STATUS_version p) version).put (PORT_STATUS_ledger_wait p) 0

theorem entryShown_touches {a : LedgerAsk} {version : Nat} : Touches [.regs, .chargeDue] s (entryShown p a version s) := setTarget_touches.put.put

theorem entryShown_fields {a : LedgerAsk} {version : Nat} (hgen : a.gen < 4) (hreach : a.reach < 4) :
    (entryShown p a version s).get (PORT_STATUS_target_gen p) = a.gen ∧ (entryShown p a version s).get (PORT_STATUS_target_reach p) = a.reach ∧
    (entryShown p a version s).get (PORT_STATUS_ledger_wait p) = 0 := by
  obtain ⟨htg, htr⟩ := setTarget_fields (p := p) (s := s) hgen hreach
  exact ⟨(State.get_put_apart rfl).trans ((State.get_put_apart rfl).trans htg), (State.get_put_apart rfl).trans ((State.get_put_apart rfl).trans htr),
    State.get_put_self rfl (Nat.two_pow_pos _)⟩

theorem entryGranted_eq {a : LedgerAsk} : ∃ sel : SelMsg, entryGranted p a s =
    towEnqueue p (goPayload 0 0) (entryShown p a sel.version (s.modPort p (entryPort sel))) := ⟨_, rfl⟩

theorem entryGranted_fields {a : LedgerAsk} (hgen : a.gen < 4) (hreach : a.reach < 4) :
    ((entryGranted p a s).port p).granted = true ∧ (entryGranted p a s).get (PORT_STATUS_target_gen p) = a.gen ∧
    (entryGranted p a s).get (PORT_STATUS_target_reach p) = a.reach ∧ (entryGranted p a s).get (PORT_STATUS_ledger_wait p) = 0 ∧
    (entryGranted p a s).asks = s.asks ∧ ((entryGranted p a s).tow p).queue = (s.tow p).queue ++ [goPayload 0 0] := by
  obtain ⟨sel, heq⟩ := entryGranted_eq (p := p) (s := s) (a := a)
  obtain ⟨htg, htr, hwait⟩ := entryShown_fields (p := p) (s := s.modPort p (entryPort sel)) (version := sel.version) hgen hreach
  have htouch := entryShown_touches (p := p) (s := s.modPort p (entryPort sel)) (a := a) (version := sel.version)
  have hport : ((entryShown p a sel.version (s.modPort p (entryPort sel))).port p).granted = true := by
    rw [State.port_of_ports htouch.keeps_ports p, State.port_modPort, entryPort]
  have hall : Touches [.regs, .chargeDue, .ports] s (entryShown p a sel.version (s.modPort p (entryPort sel))) :=
    ((Touches.refl _ s).modPort).trans (htouch.mono (by decide))
  have htow : (entryShown p a sel.version (s.modPort p (entryPort sel))).tow p = s.tow p := State.tow_of_tows hall.keeps_tows p
  have hasks : (entryShown p a sel.version (s.modPort p (entryPort sel))).asks = s.asks := hall.keeps_asks
  rw [heq]
  generalize entryShown p a sel.version (s.modPort p (entryPort sel)) = u at htg htr hwait hport htow hasks ⊢
  have hsent := towEnqueue_touches (p := p) (s := u) (goPayload 0 0)
  refine ⟨?_, (State.get_modTow _ _ _ _).trans htg, (State.get_modTow _ _ _ _).trans htr, (State.get_modTow _ _ _ _).trans hwait,
    hsent.keeps_asks.trans hasks, ?_⟩
  · rw [State.port_of_ports hsent.keeps_ports p, hport]
  · rw [towEnqueue, State.tow_modTow, htow]

theorem goArrives_go {m : List Byte} (hm : isMessage m 0x03 3 = true) (hgo : (m.getD 1 0).toNat = 0) (hneg : negotiates s p = true)
    (hheld : (s.port p).capHeld = true) : goArrives p m s = s.modPort p fun x => { x with peerGo := true } := by
  rw [goArrives, if_neg (by rw [hm]; decide), hgo]
  exact if_pos (by rw [hheld, hneg]; rfl)

/-! ### Timers -/

theorem ledgerRetry_eq {x : SelMsg} (hneg : negotiates s p = true) (hgrant : (s.port p).granted = false)
    (hwait : s.get (PORT_STATUS_ledger_wait p) = 1) (hown : (s.port p).ownSel = some x) : ledgerRetry p s = requestLedger p x s := by
  rw [ledgerRetry, if_neg (by rw [hneg, hgrant, flag_of_get_eq_one hwait]; decide), hown]

theorem stageTimeout_falls (hst : s.stage p = 2 ∨ s.stage p = 3) (hhold : s.get (PORT_STATUS_hold p) = 0) :
    stageTimeout p s = portFall p Fall.timeout s := by
  rw [stageTimeout, if_neg (by rw [flag_of_get_eq_zero hhold]; decide)]
  rcases hst with h | h
  · rw [h]
    rfl
  · rw [h]
    rfl

/-- The fall at the deadline of an attempt, with its cause. -/
def deadlineFallen (p : Nat) (s : State) : State := (portFall p Fall.timeout s).cause (Cause.PORT_deadline p)

/-- The next attempt capped. -/
def attemptCapped (p cap : Nat) (s : State) : State := putCaps p (s.modPort p fun y => { y with capAttempt := cap })

theorem deadline_eq (hattempt : (s.port p).attempt ≠ none) (h0 : s.stage p ≠ 0) (h7 : s.stage p ≠ 7) : deadline p s =
    match (s.port p).aim with
    | some (g, reach) => attemptCapped p (if (s.port p).capAttempt = 0 then max (floorGen reach) (g - 1)
        else min (s.port p).capAttempt (max (floorGen reach) (g - 1))) (deadlineFallen p s)
    | none => deadlineFallen p s := by
  rw [deadline, if_neg (by simpa [h0, h7, Option.isNone_iff_eq_none] using hattempt)]
  rfl

theorem deadlineFallen_fields (hp : p < 16) (h0 : s.stage p ≠ 0) : (deadlineFallen p s).stage p = 1 ∧
    (deadlineFallen p s).get (PORT_FALL_last_cause p) = Fall.timeout ∧ ((deadlineFallen p s).port p).attempt = none := by
  obtain ⟨n, hport⟩ := port_portFall (cause := Fall.timeout) hp h0
  refine ⟨(State.get_cause_ne _ ne_port).trans (portFall_stage hp h0), (State.get_cause_ne _ ne_port).trans (portFall_lastCause hp h0 (by decide)), ?_⟩
  rw [deadlineFallen, RegsAndEvents.port (.cause (.refl _)), hport]
  rfl

theorem attemptCapped_fields {cap : Nat} : (attemptCapped p cap s).stage p = s.stage p ∧
    (attemptCapped p cap s).get (PORT_FALL_last_cause p) = s.get (PORT_FALL_last_cause p) ∧
    (attemptCapped p cap s).port p = { s.port p with capAttempt := cap } := by
  refine ⟨(State.get_put_ne _ _ _ _ ne_port).trans (State.get_modPort _ _ _ _), (State.get_put_ne _ _ _ _ ne_port).trans (State.get_modPort _ _ _ _), ?_⟩
  exact ((RegsAndEvents.refl _).put.port p).trans (State.port_modPort _ _ _)

theorem deadline_effect (hp : p < 16) (hattempt : (s.port p).attempt ≠ none) (h0 : s.stage p ≠ 0) (h7 : s.stage p ≠ 7) :
    (deadline p s).stage p = 1 ∧ (deadline p s).get (PORT_FALL_last_cause p) = Fall.timeout ∧ ((deadline p s).port p).attempt = none ∧
    ∀ g r, (s.port p).aim = some (g, r) → (s.port p).capAttempt = 0 → ((deadline p s).port p).capAttempt = max (if r = 2 then 2 else 1) (g - 1) := by
  obtain ⟨hstage, hlast, hnone⟩ := deadlineFallen_fields hp h0
  rw [deadline_eq hattempt h0 h7]
  cases haim : (s.port p).aim with
  | none => exact ⟨hstage, hlast, hnone, fun _ _ h => nomatch h⟩
  | some x =>
    obtain ⟨g, r⟩ := x
    generalize deadlineFallen p s = u at hstage hlast hnone ⊢
    dsimp only
    generalize hcap : (if (s.port p).capAttempt = 0 then max (floorGen r) (g - 1) else min (s.port p).capAttempt (max (floorGen r) (g - 1))) = cap
    obtain ⟨hstage', hlast', hport⟩ := attemptCapped_fields (p := p) (s := u) (cap := cap)
    refine ⟨hstage'.trans hstage, hlast'.trans hlast, by rw [hport]; exact hnone, fun g' r' h hzero => ?_⟩
    obtain ⟨rfl, rfl⟩ := Prod.mk.inj (Option.some.inj h)
    rw [hport, ← hcap, if_pos hzero, floorGen]

/-- A CAP shows the peer's device and revision, whatever the negotiation makes of it. -/
theorem capArrives_fields {m : List Byte} (hp : p < 16) (hlen : m.length = 18) (hhead : m.headD 0 = 1) (hst : s.stage p ≠ 0) :
    (capArrives p m s).reg (PORT_PEER_DEV p) = BitVec.ofNat 32 (ofBytesBE ((m.drop 10).take 4)) ∧
    (capArrives p m s).reg (PORT_PEER_REV p) = BitVec.ofNat 32 (ofBytesBE ((m.drop 14).take 4)) ∧
    (capArrives p m s).get (PORT_PEER_CAP_valid p) = 1 := by
  have hregs := capArrives_regs hlen hhead hst
  obtain ⟨hdev, hrev, hvalid⟩ := recordCap_fields (s := s) (p := p) (m := m)
  have hoff {b : Nat} (hb : b ≠ 0x40140 ∧ b ≠ 0x40000 ∧ b ≠ 0x40020 ∧ b ≠ 0x40004 := by decide) (hlow : b < 0x44000 := by decide) :
      b + 0x400 * p ∉ capRegs p := by
    obtain ⟨h0, h1, h2, h3⟩ := hb
    simp only [capRegs, List.mem_cons, List.not_mem_nil, or_false, not_or]
    exact ⟨ne_port h0, by simp only [FAB_EVT_CAUSE]; omega, ne_port h1, ne_port h2, ne_port h3⟩
  exact ⟨(hregs _ hoff).trans hdev, (hregs _ hoff).trans hrev, (hregs.get hoff).trans hvalid⟩

/-- The SEL that agrees with the own one, as its bytes arrive. -/
theorem sel_effect {g r v w : Nat} {m : List Byte} (hm : m = [2, BitVec.ofNat 8 g, BitVec.ofNat 8 r, BitVec.ofNat 8 v, BitVec.ofNat 8 w])
    (hsmall : g < 256 ∧ r < 256 ∧ v < 256 ∧ w < 256) (hneg : negotiates s p = true) (hgrant : (s.port p).granted = false)
    (hheld : (s.port p).capHeld = true) (hown : (s.port p).ownSel = some ⟨g, r, v, w⟩) (hwait : s.get (PORT_STATUS_ledger_wait p) = 0) :
    selArrives p m s = selTaken p ⟨g, r, v, w⟩ s := by
  have hbyte {x : Nat} (hx : x < 256) : x = (BitVec.ofNat 8 x).toNat := by rw [BitVec.toNat_ofNat, Nat.mod_eq_of_lt hx]
  obtain ⟨hg, hr, hv, hw⟩ := hsmall
  exact selArrives_agreed (by rw [hm]; rfl) hneg hheld hgrant hown hwait (by rw [hm]; exact SelMsg.mk.injEq .. ▸ ⟨hbyte hg, hbyte hr, hbyte hv, hbyte hw⟩)

/-- What the agreed SEL leaves, behind the frame that brought it. -/
theorem selTaken_frame {m : List Byte} {x : SelMsg} (hgrant : (s.port p).granted = false) :
    ((selTaken p x (towTake p m s)).tow p).queue = (s.tow p).queue ++ [selPayload x] ∧
    (selTaken p x (towTake p m s)).asks = s.asks.ins p ⟨x.gen, x.reach, .entry⟩ ∧
    ((selTaken p x (towTake p m s)).port p).peerSel = some x ∧ ((selTaken p x (towTake p m s)).port p).granted = false ∧
    { selTaken p x (towTake p m s) with tows := s.tows, ports := s.ports, asks := s.asks } = s := by
  refine ⟨tow_selTaken.trans (by rw [tow_towTake]), rfl, by rw [port_selTaken], by rw [port_selTaken]; exact hgrant, ?_⟩
  exact (((Touches.refl _ s).modTow).trans selTaken_touches).frame (fun u => { u with tows := s.tows, ports := s.ports, asks := s.asks }) fun _ => rfl

theorem negotiateRestart_port (hwait : (s.port p).negWait = true) :
    negotiateRestart p s = (clearNegotiation p s).modPort p (fun x => { x with negWait := false }) ∧
    (negotiateRestart p s).port p = { negotiationCleared (s.port p) with negWait := false } ∧
    ∀ q, q ≠ p → (negotiateRestart p s).port q = s.port q := by
  have heq : negotiateRestart p s = (clearNegotiation p s).modPort p (fun x => { x with negWait := false }) := if_pos hwait
  refine ⟨heq, ?_, fun q hq => ?_⟩
  · rw [heq, State.port_modPort, port_clearNegotiation]
  · rw [heq, State.port_modPort_ne _ _ hq, port_clearNegotiation_ne hq]

end

/-- Settles O11: each message, timer and answer is one branch of its function; the falls are said by the lemmas about portFall. -/
theorem negotiationActsAsStated : Obligations.NegotiationActsAsStated := by
  unfold Obligations.NegotiationActsAsStated
  intro s p hup
  have hp := p.isLt
  refine ⟨fun hneg hgrant hheld => ?_, fun x hneg hgrant hheld hagain hown hpeer => ?_, fun m hlen hhead hst => ?_,
    fun g r v w hneg hgrant hheld hown hwait => ?_, fun g r hasks hjudge => ?_, fun c hneg hheld => ?_, fun hgrant hgo hst => ?_,
    fun sel hneg hgrant hwait hown => ?_, fun hwait => ?_, fun hst hhold => ?_, fun hattempt h0 h7 => ?_⟩
  · exact ⟨_, congrArg Host.Outcome.next ((whenUp_of_up hup _).trans (capTimer_first hneg hgrant hheld)), capSent_fields⟩
  · refine ⟨_, congrArg Host.Outcome.next ((whenUp_of_up hup _).trans (capTimer_sel hneg hgrant hheld hagain hown hpeer)), ?_, rfl⟩
    rw [towEnqueue, State.tow_modTow]
  · exact ⟨_, congrArg Host.Outcome.next (frameArrives_taken hup hst m _), capArrives_fields (s := towTake p m s) hp hlen hhead hst⟩
  · have hst : s.stage p ≠ 0 := by rw [stage_of_negotiates hneg]; decide
    have heq := sel_effect (s := towTake p [2, BitVec.ofNat 8 g, BitVec.ofNat 8 r, BitVec.ofNat 8 v, BitVec.ofNat 8 w] s) (p := p) rfl
      ⟨by omega, by omega, by omega, by omega⟩ hneg hgrant hheld hown hwait
    exact ⟨_, congrArg Host.Outcome.next ((frameArrives_taken hup hst _ _).trans heq), selTaken_frame hgrant⟩
  · have hsmall (x : Fin 4) : x.val < 4 := x.isLt
    rw [ledgerDecide_granted hasks rfl hjudge]
    exact entryGranted_fields (hsmall g) (hsmall r)
  · have hst : s.stage p ≠ 0 := by rw [stage_of_negotiates hneg]; decide
    have heq := goArrives_go (s := towTake p [3, 0, c] s) (m := [3, 0, c]) rfl rfl hneg hheld
    exact ⟨_, congrArg Host.Outcome.next ((frameArrives_taken hup hst _ _).trans heq), State.port_modPort _ _ _, rfl,
      fun q hq => State.port_modPort_ne _ _ fun e => hq (Fin.ext e)⟩
  · have heq : goTimeout p s = clearNegotiation p s := if_pos (by rw [hgrant, hgo, hst]; rfl)
    refine ⟨_, congrArg Host.Outcome.next ((whenUp_of_up hup _).trans heq), Eq.trans (keeps_clearNegotiation (.inr rfl)) hst, ?_, ?_, ?_,
      clearNegotiation_regs⟩
    all_goals rw [port_clearNegotiation]; rfl
  · exact congrArg Host.Outcome.next ((whenUp_of_up hup _).trans (ledgerRetry_eq hneg hgrant hwait hown))
  · obtain ⟨heq, hport, hothers⟩ := negotiateRestart_port hwait
    exact ⟨_, congrArg Host.Outcome.next (whenUp_of_up hup _), congrArg PortSt.negWait hport, congrArg PortSt.capHeld hport,
      congrArg PortSt.ownSel hport, heq ▸ clearNegotiation_regs.modPort, fun q hq => hothers q fun e => hq (Fin.ext e)⟩
  · have h0 : s.stage p ≠ 0 := by omega
    exact ⟨_, congrArg Host.Outcome.next ((whenUp_of_up hup _).trans (stageTimeout_falls hst hhold)), portFall_stage hp h0,
      portFall_lastCause hp h0 (by decide), portFall_gen hp h0⟩
  · exact ⟨_, congrArg Host.Outcome.next (whenUp_of_up hup _), deadline_effect hp hattempt h0 h7⟩

end Sys2Proof.Machine
end

section
/-!
PROOF. Training frames, thresholds, lock pairs, the dwell of S5, quick retrains asked for by the peer, and speed steps.
-/
set_option autoImplicit false
set_option Elab.async false

namespace Sys2Proof.Machine
open Reg Bit

section
variable {s t : State} {p l : Nat}

/-! ### Training frames and thresholds -/

theorem trainingFrame_failed {w : Word} {crc : Nat} (hst : s.stage (portOf l) = 2 ∨ s.stage (portOf l) = 4) (hcrc : crc16 (numBits 32 w.toNat) ≠ crc) :
    trainingFrame l w crc false s = s.modLane l fun x => { x with readyRun := 0 } := by
  rw [trainingFrame, if_neg (by rcases hst with h | h <;> rw [h] <;> decide)]
  exact if_pos hcrc

/-- The SNR and the offset shown, and the peak unless the host overrides it. -/
def thresholdShown (l snr peak : Nat) (offset : Int) (s : State) : State :=
  if s.flag (LANE_CTLE_override l) then (s.put (LANE_EYE_V1_snr l) (min 1023 snr)).put (LANE_CDR_STATUS_offset l) (ofSigned 16 offset)
  else ((s.put (LANE_EYE_V1_snr l) (min 1023 snr)).put (LANE_CDR_STATUS_offset l) (ofSigned 16 offset)).put (LANE_CTLE_peak l) (peakIn s l peak)

theorem thresholdMet_below {snr peak : Nat} {offset : Int} (hst : s.stage (portOf l) = 2 ∨ s.stage (portOf l) = 4) (hlow : -2000 ≤ offset)
    (hhigh : offset ≤ 2000) (hsnr : snr < snrThreshold s (portOf l)) : thresholdMet l snr peak offset s = thresholdShown l snr peak offset s := by
  have hkept : ¬((s.stage (portOf l) ≠ 2 && s.stage (portOf l) ≠ 4) || decide (offset < -2000 ∨ 2000 < offset)) = true := by
    simp only [Bool.or_eq_true, Bool.and_eq_true, decide_eq_true_eq]
    omega
  rw [thresholdMet, if_neg hkept]
  exact if_neg (Nat.not_le.2 hsnr)

theorem thresholdShown_only {snr peak : Nat} {offset : Int} : OnlyRegs s (thresholdShown l snr peak offset s) := by
  unfold thresholdShown
  split
  · exact (OnlyRegs.refl s).put.put
  · exact (OnlyRegs.refl s).put.put.put

theorem thresholdShown_regs {snr peak : Nat} {offset : Int} :
    SameRegs [LANE_EYE_V1 l, LANE_CDR_STATUS l, LANE_CTLE l] s (thresholdShown l snr peak offset s) := by
  have h : SameRegs [LANE_EYE_V1 l, LANE_CDR_STATUS l, LANE_CTLE l] s
      ((s.put (LANE_EYE_V1_snr l) (min 1023 snr)).put (LANE_CDR_STATUS_offset l) (ofSigned 16 offset)) :=
    ((SameRegs.refl _ s).put (by exact .head _)).put (by exact .tail _ (.head _))
  exact .ite h (h.put (by exact .tail _ (.tail _ (.head _))))

theorem thresholdShown_fields {snr peak : Nat} {offset : Int} :
    (thresholdShown l snr peak offset s).get (LANE_EYE_V1_snr l) = min 1023 snr ∧
    (thresholdShown l snr peak offset s).get (LANE_CDR_STATUS_offset l) = ofSigned 16 offset := by
  have hshown : ((s.put (LANE_EYE_V1_snr l) (min 1023 snr)).put (LANE_CDR_STATUS_offset l) (ofSigned 16 offset)).get (LANE_EYE_V1_snr l) = min 1023 snr ∧
      ((s.put (LANE_EYE_V1_snr l) (min 1023 snr)).put (LANE_CDR_STATUS_offset l) (ofSigned 16 offset)).get (LANE_CDR_STATUS_offset l) =
        ofSigned 16 offset :=
    ⟨(State.get_put_ne _ _ _ _ ne_lane).trans (State.get_put_self rfl (lt_of_le_of_lt (Nat.min_le_left _ _) (by simp [LANE_EYE_V1_snr]))),
      State.get_put_self rfl (ofSigned_lt (le_refl 16) offset)⟩
  unfold thresholdShown
  generalize (s.put (LANE_EYE_V1_snr l) (min 1023 snr)).put (LANE_CDR_STATUS_offset l) (ofSigned 16 offset) = u at hshown
  split
  · exact hshown
  · exact ⟨(State.get_put_ne _ _ _ _ ne_lane).trans hshown.1, (State.get_put_ne _ _ _ _ ne_lane).trans hshown.2⟩

theorem stage_thresholdShown {snr peak q : Nat} {offset : Int} (hl : l < 128) : (thresholdShown l snr peak offset s).stage q = s.stage q :=
  thresholdShown_regs.get (by
    simp only [List.mem_cons, List.not_mem_nil, or_false, not_or]
    exact ⟨port_ne_lane hl, port_ne_lane hl, port_ne_lane hl⟩)

/-! ### Lock pairs -/

theorem trySwitched_waits (hst : s.stage p = 3) (htx : (s.port p).txSwitched = false) : trySwitched p s = s := by
  have hs7 : tryS7 p s = s := if_neg (by rw [hst]; simp)
  rw [trySwitched, if_neg (by rw [htx]; simp), hs7]

/-- What a lock pair shows of the FEC sublayer. -/
def pairShown (p skew : Nat) (locked aligned : Bool) (s : State) : State :=
  ((s.putFlag (PORT_FEC_STATUS_rs_lock p) locked).putFlag (PORT_FEC_STATUS_lane_aligned p) aligned).put (PORT_FEC_STATUS_skew p) (min 255 skew)

theorem pairShown_only {skew : Nat} {locked aligned : Bool} : OnlyRegs s (pairShown p skew locked aligned s) := ((OnlyRegs.refl s).putFlag.putFlag).put

theorem pairShown_regs {skew : Nat} {locked aligned : Bool} : SameRegs [PORT_FEC_STATUS p] s (pairShown p skew locked aligned s) :=
  (((SameRegs.refl _ s).putFlag (by exact .head _)).putFlag (by exact .head _)).put (by exact .head _)

theorem pairShown_fields {skew : Nat} {locked aligned : Bool} :
    (pairShown p skew locked aligned s).get (PORT_FEC_STATUS_rs_lock p) = (if locked then 1 else 0) ∧
    (pairShown p skew locked aligned s).get (PORT_FEC_STATUS_lane_aligned p) = (if aligned then 1 else 0) ∧
    (pairShown p skew locked aligned s).get (PORT_FEC_STATUS_skew p) = min 255 skew :=
  ⟨(State.get_put_apart rfl).trans ((State.get_putFlag_apart rfl).trans (State.get_putFlag_self rfl rfl)),
    (State.get_put_apart rfl).trans (State.get_putFlag_self rfl rfl),
    State.get_put_self rfl (lt_of_le_of_lt (Nat.min_le_left _ _) (by simp [PORT_FEC_STATUS_skew]))⟩

theorem stage_pairShown {skew : Nat} {locked aligned : Bool} : (pairShown p skew locked aligned s).stage p = s.stage p :=
  pairShown_regs.get fun h => absurd (List.mem_singleton.1 h) ne_port

/-- A pair without own lock ends the run. -/
theorem lockPair_lost {symbols : List Nat} {skew : Nat} (hst : s.stage p = 3) (htx : (s.port p).txSwitched = false) :
    lockPair p symbols false skew s = (pairShown p skew false false s).modPort p fun x => { x with lockPairs := 0, rxSwitched := x.rxSwitched || false } := by
  have hstill : trySwitched p ((pairShown p skew false false s).modPort p fun x => { x with lockPairs := 0, rxSwitched := x.rxSwitched || false }) =
      (pairShown p skew false false s).modPort p fun x => { x with lockPairs := 0, rxSwitched := x.rxSwitched || false } := by
    refine trySwitched_waits ((State.get_modPort _ _ _ _).trans (stage_pairShown.trans hst)) ?_
    rw [State.port_modPort, pairShown_only.keep (F := fun u => u.port p) (fun _ => rfl) rfl]
    exact htx
  rw [lockPair, if_neg (by rw [hst]; decide)]
  exact hstill

/-- The CDRs of the port's lanes, locked. -/
theorem cdrLanes_confined (hp : p < 16) : Confined [.regs] laneReg s (forEach (lanesOf p) cdrLocked s) :=
  (Confined.refl _ _ s).forEach fun _ hl _ ih => .ite (ih.put (laneReg_lane (lt_of_mem_lanesOf hp hl))) ih

/-- A pair with own lock and every lane in its place. -/
def pairAligned (p skew : Nat) (s : State) : State := forEach (lanesOf p) cdrLocked (pairShown p skew true true s)

theorem pairAligned_confined {skew : Nat} (hp : p < 16) : Confined [.regs] laneReg (pairShown p skew true true s) (pairAligned p skew s) :=
  cdrLanes_confined hp

theorem stage_pairAligned {skew : Nat} (hp : p < 16) : (pairAligned p skew s).stage p = s.stage p :=
  ((pairAligned_confined hp).get not_laneReg).trans stage_pairShown

theorem port_pairAligned {skew : Nat} (hp : p < 16) : (pairAligned p skew s).port p = s.port p :=
  (State.port_of_ports (Touches.keeps_ports (pairAligned_confined hp).touches) p).trans
    (pairShown_only.keep (F := fun u => u.port p) (fun _ => rfl) rfl)

theorem lockPair_aligned {skew : Nat} (hp : p < 16) (hst : s.stage p = 3) (hcount : (s.port p).countdown = none) (htx : (s.port p).txSwitched = false)
    (hskew : skew ≤ 64) : lockPair p [8, 9, 10, 11, 12, 13, 14, 15] true skew s = (pairAligned p skew s).modPort p fun x =>
      { x with lockPairs := (s.port p).lockPairs + 1,
               countdown := if decide (16 ≤ (s.port p).lockPairs + 1) = true then some 256 else x.countdown
               laneOrder := [0, 1, 2, 3, 4, 5, 6, 7], rxSwitched := x.rxSwitched || false } := by
  have hflag : pairFlag [8, 9, 10, 11, 12, 13, 14, 15] = (1, 0) := by decide
  rw [lockPair, if_neg (by rw [hst]; decide)]
  extract_lets locked order aligned s1 fc x run begins
  have hlocked : locked = true := by simp [locked, hst]
  have horder : order = [0, 1, 2, 3, 4, 5, 6, 7] := by simp [order]
  have haligned : aligned = true := by
    have hok : laneOrderOk order = true := by rw [horder]; decide
    simp [aligned, hlocked, hok, hskew]
  have hs1 : s1 = pairShown p skew true true s := by
    change pairShown p skew locked aligned s = _
    rw [hlocked, haligned]
  have hfc : fc = (1, 0) := by rw [show fc = if aligned then pairFlag _ else (0, 0) from rfl, haligned, if_pos rfl, hflag]
  have hx : x = s.port p := by
    rw [show x = s1.port p from rfl, hs1]
    exact pairShown_only.keep (F := fun u => u.port p) (fun _ => rfl) rfl
  have hrun : run = (s.port p).lockPairs + 1 := by rw [show run = if fc.1 = 1 ∨ fc.1 = 2 then x.lockPairs + 1 else 0 from rfl, hfc, hx]; rfl
  have hbegins : begins = decide (16 ≤ (s.port p).lockPairs + 1) := by
    rw [show begins = (aligned && decide (16 ≤ run) && x.countdown.isNone && !x.txSwitched) from rfl, haligned, hrun, hx, hcount, htx]
    simp
  rw [hlocked, hs1, hrun, hbegins, haligned, horder, hfc]
  change trySwitched p ((pairAligned p skew s).modPort p _) = _
  refine trySwitched_waits ((State.get_modPort _ _ _ _).trans ((stage_pairAligned hp).trans hst)) ?_
  rw [State.port_modPort, port_pairAligned hp]
  exact htx

/-! ### The dwell of S5 -/

theorem prbsCount_confined {a b c : Nat} (hl : l < 128) : Confined [.regs] laneReg s (prbsCount l a b c s) := by
  have hnext {b : Nat} (hb : 0x10000 ≤ b ∧ b + 4 < 0x10100 := by decide) : laneReg (b + 0x100 * l + 4) := ⟨by omega, by omega⟩
  exact .ite (((((Confined.refl _ _ s).setReg (laneReg_lane hl)).setReg hnext).addSat (laneReg_lane hl)).setReg (laneReg_lane hl) |>.setReg hnext)
    (.refl _ _ s)

/-- The lanes' counts of a dwell. -/
def dwellCounted (p : Nat) (lanes : List LaneCount) (s : State) : State :=
  forEach (lanes.take 8).zipIdx (fun x s => prbsCount (8 * p + x.2) x.1.symbols x.1.symErrs x.1.bitErrs s) s

theorem dwellCounted_confined {lanes : List LaneCount} (hp : p < 16) : Confined [.regs] laneReg s (dwellCounted p lanes s) :=
  (Confined.refl _ _ s).forEach fun x hx _ ih => by
    have hlt : x.2 < (lanes.take 8).length := by
      obtain ⟨-, h, -⟩ := List.mem_zipIdx hx
      omega
    rw [List.length_take] at hlt
    exact ih.trans (prbsCount_confined (by omega))

theorem errorsPass_zero (reach bits : Nat) : errorsPass reach 0 bits = true := by
  unfold errorsPass
  split <;> exact decide_eq_true (by omega)

/-- The verdict on a dwell of S5, by its lanes. -/
theorem prbsDwellEnd_eq {lanes : List LaneCount} {verdict : Bool} (hp : p < 16) (hst : s.stage p = 5) (hhold : s.get (PORT_STATUS_hold p) = 0)
    (hwait : (s.port p).qrWaiting = false)
    (hverdict : ∀ reach bits, (lanes.length == 8 && lanes.all fun x => x.locked && errorsPass reach x.bitErrs bits) = verdict) :
    prbsDwellEnd p lanes s = if verdict then setStage p 6 (dwellCounted p lanes s) else stageFailed p (dwellCounted p lanes s) := by
  have hc := dwellCounted_confined (s := s) (lanes := lanes) hp
  have hst' : (dwellCounted p lanes s).stage p = 5 := (hc.get not_laneReg).trans hst
  have hhold' : (dwellCounted p lanes s).get (PORT_STATUS_hold p) = 0 := (hc.get not_laneReg).trans hhold
  have hwait' : ((dwellCounted p lanes s).port p).qrWaiting = false := by
    rw [State.port_of_ports hc.touches.keeps_ports p]
    exact hwait
  rw [prbsDwellEnd, if_neg (by simp [hst])]
  change prbsVerifyEnd p _ (dwellCounted p lanes s) = _
  generalize dwellCounted p lanes s = u at hst' hhold' hwait' ⊢
  rw [prbsVerifyEnd, if_neg (by simp [hst', flag_of_get_eq_zero hhold', hwait']), ← hverdict (u.get (PORT_STATUS_reach p)) (dwellBits (u.port p))]
  simp only [List.length_map, List.all_map]
  rfl

/-- S6 begins its locks afresh. -/
theorem setStage_s6 (hp : p < 16) : (setStage p 6 s).stage p = 6 ∧ ((setStage p 6 s).port p).lockPairs = 0 ∧
    (setStage p 6 s).get (PORT_FEC_STATUS_rs_lock p) = 0 := by
  refine ⟨setStage_stage (by decide), ?_, ?_⟩
  · rw [port_setStage hp]
    rfl
  · rw [setStage_eq]
    generalize forEach _ _ _ = u
    have hlocks (v : State) : (locksAfresh p v).get (PORT_FEC_STATUS_rs_lock p) = 0 := by
      rw [locksAfresh, State.get_put_apart rfl, State.get_put_apart rfl, State.get_put_apart rfl, State.get_put_self rfl (Nat.two_pow_pos _)]
    have hshown (v : State) (d : List Nat) : ({ v with chargeDue := d } : State).get (PORT_FEC_STATUS_rs_lock p) = v.get (PORT_FEC_STATUS_rs_lock p) := rfl
    rw [showStage, hshown, if_pos (by decide), hlocks]

/-! ### A retrain that fails -/

/-- A port whose registers and course were reset. -/
def portAfresh (now : Nat) (x : PortSt) : PortSt :=
  { PortSt.reset with
    shed := x.shed, parked := x.parked, fresh := x.fresh, capAttempt := x.capAttempt, capRefused := x.capRefused, stageTick := now }

/-- The stage and cause that a port-only reset of a lit port shows. -/
def resetShown (p : Nat) (s : State) : State :=
  (commitReset (putCaps p (s.put (PORT_STATUS_stage p) 1))).put (PORT_FALL_last_cause p) Fall.portReset

theorem resetShown_stage (hp : p < 16) : (resetShown p s).stage p = 1 := by
  have hstage : (s.put (PORT_STATUS_stage p) 1).get (PORT_STATUS_stage p) = 1 := State.get_put_self rfl (by simp [PORT_STATUS_stage])
  have hcaps : (putCaps p (s.put (PORT_STATUS_stage p) 1)).get (PORT_STATUS_stage p) = 1 := (State.get_put_ne _ _ _ _ ne_port).trans hstage
  generalize hu : putCaps p (s.put (PORT_STATUS_stage p) 1) = u at hcaps
  have hcommit : (commitReset u).get (PORT_STATUS_stage p) = u.get (PORT_STATUS_stage p) :=
    (State.get_of_regs (t := commitReset u) (s := disarm u) rfl _).trans ((State.get_put_ne _ _ _ _ (by
      simp only [PORT_STATUS_stage, PORT_STATUS, GLB_COMMIT_CTRL_arm, GLB_COMMIT_CTRL]
      omega)).trans (State.get_of_regs rfl _))
  rw [State.stage, resetShown, hu]
  exact (State.get_put_ne _ _ _ _ ne_port).trans (hcommit.trans hcaps)

theorem resetShown_touches : Touches [.regs, .commit, .staged] s (resetShown p s) := by
  have h : Touches [.regs, .commit, .staged] s (putCaps p (s.put (PORT_STATUS_stage p) 1)) := ((Touches.refl _ s).put).put
  exact ((h.commit.put).staged).put

theorem portOnlyReset_eq (h : s.stage p ≠ 0) : ∃ (u : State) (n : Nat), portOnlyReset p s = leaveDark p (resetShown p (u.modPort p (portAfresh n))) := by
  have hlit : (s.stage p == 0) = false := beq_eq_false_iff_ne.2 h
  rw [portOnlyReset, hlit]
  exact ⟨_, _, rfl⟩

theorem retrainFailed_effect (hp : p < 16) (h : s.stage p ≠ 0) :
    (retrainFailed p s).stage p = 1 ∧ ((retrainFailed p s).port p).fresh = true ∧ ((retrainFailed p s).port p).qrWaiting = false := by
  obtain ⟨u, n, heq⟩ := portOnlyReset_eq h
  have hstage := resetShown_stage (s := u.modPort p (portAfresh n)) hp
  have hport : (resetShown p (u.modPort p (portAfresh n))).port p = portAfresh n (u.port p) :=
    (State.port_of_ports resetShown_touches.keeps_ports p).trans (State.port_modPort _ _ _)
  rw [leaveDark_lit (by rw [hstage]; decide)] at heq
  rw [retrainFailed, heq]
  generalize resetShown p (u.modPort p (portAfresh n)) = w at hstage hport
  have hfresh : ((w.modPort p fun x => { x with fresh := true }).cause (Cause.PORT_retrain_failed p)).port p =
      { portAfresh n (u.port p) with fresh := true } := by
    rw [RegsAndEvents.port (.cause (.refl _)), State.port_modPort, hport]
  exact ⟨(State.get_cause_ne _ ne_port).trans ((State.get_modPort _ _ _ _).trans hstage), congrArg PortSt.fresh hfresh, congrArg PortSt.qrWaiting hfresh⟩

theorem stageFailed_quick (hstep : (s.port p).stepping = none) (hpath : (s.port p).path = .quick) : stageFailed p s = retrainFailed p s := by
  rw [stageFailed, hstep, hpath]
  rfl

/-! ### A retrain that the peer asks for -/

theorem retrainAgreed_eq : retrainAgreed p s = forEach (lanesOf p) reloadCoeffs (s.modPort p fun x => { x with qrWaiting := false }) := rfl

theorem reloadLanes_confined (hp : p < 16) : Confined [.regs, .lanes] laneReg s (forEach (lanesOf p) reloadCoeffs s) :=
  (Confined.refl _ _ s).forEach fun l hl u ih => by
    have hl' := lt_of_mem_lanesOf hp hl
    refine ih.trans ⟨reloadCoeffs_touches, fun a ha => reloadCoeffs_regs a fun hm => ha ?_⟩
    simp only [List.mem_cons, List.not_mem_nil, or_false] at hm
    rcases hm with rfl | rfl | rfl
    · exact laneReg_lane hl'
    · exact laneReg_lane hl'
    · exact laneReg_lane hl'

theorem keeps_retrainAgreed {f : Field} (hp : p < 16) (hf : ¬laneReg f.addr) : Keeps f s (retrainAgreed p s) := by
  rw [retrainAgreed_eq]
  exact ((Keeps.refl f s).trans (State.get_modPort _ _ _ _)).confined (reloadLanes_confined hp) hf

theorem retrainAgreed_touches (hp : p < 16) : Touches [.regs, .lanes, .ports] s (retrainAgreed p s) := by
  rw [retrainAgreed_eq]
  exact ((Touches.refl _ s).modPort).trans ((reloadLanes_confined hp).touches.mono (by decide))

theorem port_retrainAgreed (hp : p < 16) : (retrainAgreed p s).port p = { s.port p with qrWaiting := false } := by
  rw [retrainAgreed_eq, State.port_of_ports (Touches.keeps_ports (reloadLanes_confined hp).touches) p, State.port_modPort]

/-- The peer's request taken, up to S5. -/
def peerEntered (p : Nat) (s : State) : State := enterS5 p (retrainAgreed p (retrainCourse p Fall.peerRequest false s))

/-- A hold shown in S5, with the lanes' controls applied. -/
def peerHeld (p : Nat) (s : State) : State := forEach (lanesOf p) applyLaneCtrl (s.put (PORT_STATUS_hold p) 1)

theorem peerRetrain_eq {hold : Bool} : peerRetrain p hold s =
    if hold && !(peerEntered p s).flag (PORT_STATUS_hold p) then peerHeld p (peerEntered p s) else peerEntered p s := rfl

theorem peerEntered_fields (hp : p < 16) (h7 : s.stage p = 7) : (peerEntered p s).stage p = 5 ∧
    (peerEntered p s).get (PORT_FALL_last_cause p) = Fall.peerRequest ∧
    (peerEntered p s).get (PORT_STATUS_hold p) = (if s.flag (PORT_CTRL_test_hold p) then 1 else 0) := by
  refine ⟨enterS5_stage hp, ?_, ?_⟩
  · exact Eq.trans ((keeps_retrainAgreed hp not_laneReg).trans (keeps_enterS5 hp stageOff_lastCause)) (retrainCourse_lastCause h7 (by decide))
  · rw [peerEntered, enterS5_hold hp, Keeps.flag ((keeps_retrainCourse retrainOff_testHold).trans (keeps_retrainAgreed hp not_laneReg))]

theorem port_peerEntered (hp : p < 16) : ∃ n, (peerEntered p s).port p =
    { retrainBegin Fall.peerRequest false (s.port p) with qrWaiting := false, stageTick := n } := by
  rw [peerEntered, port_enterS5 hp, port_retrainAgreed hp, port_retrainCourse]
  exact ⟨_, rfl⟩

theorem peerEntered_touches (hp : p < 16) : Touches retrainParts s (peerEntered p s) :=
  (retrainCourse_touches.trans ((retrainAgreed_touches hp).mono (by decide))).trans ((enterS5_touches hp).mono (by decide))

theorem peerHeld_confined : Confined laneParts quietReg (s.put (PORT_STATUS_hold p) 1) (peerHeld p s) := applyLanes_confined

theorem peerHeld_fields : (peerHeld p s).stage p = s.stage p ∧ (peerHeld p s).get (PORT_FALL_last_cause p) = s.get (PORT_FALL_last_cause p) ∧
    (peerHeld p s).get (PORT_STATUS_hold p) = 1 ∧ (peerHeld p s).port p = s.port p ∧ (peerHeld p s).tow p = s.tow p := by
  have hput : RegsAndEvents s (s.put (PORT_STATUS_hold p) 1) := (RegsAndEvents.refl s).put
  refine ⟨(peerHeld_confined.get not_quietReg).trans (State.get_put_apart rfl), (peerHeld_confined.get not_quietReg).trans (State.get_put_ne _ _ _ _ ne_port),
    (peerHeld_confined.get not_quietReg).trans (State.get_put_self rfl (by simp [PORT_STATUS_hold])), ?_, ?_⟩
  · exact (State.port_of_ports (Touches.keeps_ports peerHeld_confined.touches) p).trans (hput.port p)
  · exact (State.tow_of_tows (Touches.keeps_tows peerHeld_confined.touches) p).trans (hput.tow p)

theorem peerRetrain_effect {hold : Bool} (hp : p < 16) (h7 : s.stage p = 7) : (peerRetrain p hold s).stage p = 5 ∧
    (∃ n, (peerRetrain p hold s).port p = { retrainBegin Fall.peerRequest false (s.port p) with qrWaiting := false, stageTick := n }) ∧
    (peerRetrain p hold s).get (PORT_FALL_last_cause p) = Fall.peerRequest ∧ (peerRetrain p hold s).tow p = s.tow p ∧
    ((peerRetrain p hold s).get (PORT_STATUS_hold p) = 1 ↔ hold = true ∨ s.get (PORT_CTRL_test_hold p) = 1) := by
  obtain ⟨hstage, hlast, hheld⟩ := peerEntered_fields hp h7
  have hport := port_peerEntered (s := s) hp
  have htow := State.tow_of_tows (peerEntered_touches (s := s) hp).keeps_tows p
  have htest : s.get (PORT_CTRL_test_hold p) < 2 := get_lt_two rfl
  rw [peerRetrain_eq]
  generalize peerEntered p s = u at hstage hlast hheld hport htow ⊢
  obtain ⟨hstage', hlast', hheld', hport', htow'⟩ := peerHeld_fields (p := p) (s := u)
  have htook : (if s.flag (PORT_CTRL_test_hold p) then 1 else 0) = s.get (PORT_CTRL_test_hold p) := by
    rcases (by omega : s.get (PORT_CTRL_test_hold p) = 0 ∨ s.get (PORT_CTRL_test_hold p) = 1) with h | h
    · rw [flag_of_get_eq_zero h, h]
      rfl
    · rw [flag_of_get_eq_one h, h]
      rfl
  rw [htook] at hheld
  by_cases h : (hold && !u.flag (PORT_STATUS_hold p)) = true
  · rw [if_pos h]
    have hhold : hold = true := by
      rw [Bool.and_eq_true] at h
      exact h.1
    exact ⟨hstage'.trans hstage, hport'.symm ▸ hport, hlast'.trans hlast, htow'.trans htow, iff_of_true hheld' (.inl hhold)⟩
  · rw [if_neg h]
    refine ⟨hstage, hport, hlast, htow, ?_⟩
    rw [hheld]
    refine ⟨.inr, fun hor => hor.elim (fun hhold => ?_) id⟩
    have hflag : u.flag (PORT_STATUS_hold p) = true := by simpa [hhold] using h
    have hne : u.get (PORT_STATUS_hold p) ≠ 0 := bne_iff_ne.1 hflag
    omega

/-! ### Steps -/

theorem stepArrives_refused {m : List Byte} (hm : isMessage m 0x06 3 = true) (h7 : s.stage p ≠ 7) : stepArrives p m s = stepReply p 1 s := by
  rw [stepArrives, if_neg (by rw [hm]; decide)]
  exact if_pos (by simp [h7])

theorem stepAckArrives_accepted {m : List Byte} {x : StepSt} (hm : isMessage m 0x07 2 = true) (hok : (m.getD 1 0).toNat = 0) (h7 : s.stage p = 7)
    (hstep : (s.port p).stepping = some x) (hrun : x.running = false) (hdue : (s.port p).stepDue = none) :
    stepAckArrives p m s = runStep p (stepCause x) x.target (raiseStepdown p x s) := by
  rw [stepAckArrives, hstep]
  dsimp only
  rw [if_neg (by rw [hm, hrun, hdue]; simp [h7]), if_pos hok]

/-- The port whose step runs. -/
def stepRunning (target : Nat) (x : PortSt) : PortSt :=
  { x with keepLink := true, path := .full, qrCause := 0, stepDue := none, stepping := x.stepping.map fun y => { y with target := target, running := true } }

/-- The departure for a step, counted where it goes down; up, the caps end. -/
def stepDeparted (p cause target : Nat) (s : State) : State :=
  if target < s.get (PORT_STATUS_gen p) then ((departS7 p cause s).modPort p (stepRunning target)).addField (PORT_FALL_stepdowns p) 1
  else putCaps p (((departS7 p cause s).modPort p (stepRunning target)).modPort p fun x => { x with capAttempt := 0, capRefused := 0 })

theorem runStep_eq {cause target : Nat} :
    runStep p cause target s = enterS4 p (setTarget p target (s.get (PORT_STATUS_reach p)) (stepDeparted p cause target s)) := rfl

theorem keeps_stepDeparted {f : Field} {cause target : Nat} (hfall : f.addr ≠ PORT_FALL p) (hcause : f.addr ≠ PORT_EVT_CAUSE p) (hneg : f.addr ≠ PORT_NEG p) :
    Keeps f s (stepDeparted p cause target s) := by
  have h : Keeps f s ((departS7 p cause s).modPort p (stepRunning target)) := (keeps_departS7 hfall hcause).trans (State.get_modPort _ _ _ _)
  exact .ite (h.put (.inl hfall)) ((h.trans (State.get_modPort _ _ _ _)).put (.inl hneg))

theorem stepping_stepDeparted {cause target : Nat} : ((stepDeparted p cause target s).port p).stepping =
    (s.port p).stepping.map fun y => { y with target := target, running := true } := by
  have hdepart : Touches [.regs, .events, .fab] s (departS7 p cause s) := .ite (((((Touches.refl _ s).addField).put).cause).modFab) (.refl _ s)
  have h : ((departS7 p cause s).modPort p (stepRunning target)).port p = stepRunning target (s.port p) := by
    rw [State.port_modPort, State.port_of_ports hdepart.keeps_ports p]
  unfold stepDeparted
  generalize (departS7 p cause s).modPort p (stepRunning target) = u at h
  split
  · rw [RegsAndEvents.port (.addField (.refl _)), h]
    rfl
  · rw [putCaps, RegsAndEvents.port (.put (.refl _)), State.port_modPort, h]
    rfl

/-- S4 with the target's generation and reach. -/
def s4Entered (p : Nat) (s : State) : State := goTarget p (setStage p 4 s)

theorem enterS4_eq (hpll : pllLocked s p (s.get (PORT_STATUS_target_reach p)) = true) : enterS4 p s = s4Entered p s :=
  if_neg (by rw [hpll]; decide)

theorem s4Entered_fields (hp : p < 16) : (s4Entered p s).stage p = 4 ∧ (s4Entered p s).get (PORT_STATUS_gen p) = s.get (PORT_STATUS_target_gen p) ∧
    (s4Entered p s).get (PORT_STATUS_target_gen p) = s.get (PORT_STATUS_target_gen p) ∧ ((s4Entered p s).port p).stepping = (s.port p).stepping := by
  have hstage : (setStage p 4 s).get (PORT_STATUS_stage p) = 4 := setStage_stage (by decide)
  have htarget : (setStage p 4 s).get (PORT_STATUS_target_gen p) = s.get (PORT_STATUS_target_gen p) :=
    keeps_setStage hp (.inr rfl) (.inr rfl) ne_port not_laneReg
  have hport : ((setStage p 4 s).port p).stepping = (s.port p).stepping := by
    rw [port_setStage hp]
    rfl
  have hsmall : (setStage p 4 s).get (PORT_STATUS_target_gen p) < 2 ^ 2 := State.get_lt _ (PORT_STATUS_target_gen p)
  unfold s4Entered goTarget
  generalize setStage p 4 s = u at hstage htarget hport hsmall ⊢
  refine ⟨(State.get_put_apart rfl).trans ((State.get_put_apart rfl).trans hstage), (State.get_put_apart rfl).trans ((State.get_put_self rfl hsmall).trans htarget),
    (State.get_put_apart rfl).trans ((State.get_put_apart rfl).trans htarget), ?_⟩
  rw [RegsAndEvents.port (.put (.put (.refl _))), hport]

theorem runStep_effect {cause target : Nat} {x : StepSt} (hp : p < 16) (htarget : target < 4) (hstep : (s.port p).stepping = some x)
    (hpll : pllLocked s p (s.get (PORT_STATUS_reach p)) = true) : (runStep p cause target s).stage p = 4 ∧
      (runStep p cause target s).get (PORT_STATUS_gen p) = target ∧ (runStep p cause target s).get (PORT_STATUS_target_gen p) = target ∧
      ((runStep p cause target s).port p).stepping = some { x with target := target, running := true } := by
  have hreach : s.get (PORT_STATUS_reach p) < 4 := State.get_lt s (PORT_STATUS_reach p)
  obtain ⟨htg, htr⟩ := setTarget_fields (p := p) (s := stepDeparted p cause target s) htarget hreach
  have hne {b : Nat} (hb : 0x40000 ≤ b := by decide) : LANE_PLL_STATUS_lock.addr ≠ b + 0x400 * p := by
    change 0x18060 ≠ _
    omega
  have hlock : Keeps LANE_PLL_STATUS_lock s (setTarget p target (s.get (PORT_STATUS_reach p)) (stepDeparted p cause target s)) :=
    (keeps_stepDeparted hne hne hne).trans (keeps_setTarget (.inl hne) (.inl hne))
  have hport : ((setTarget p target (s.get (PORT_STATUS_reach p)) (stepDeparted p cause target s)).port p).stepping =
      some { x with target := target, running := true } := by
    rw [State.port_of_ports setTarget_touches.keeps_ports p, stepping_stepDeparted, hstep]
    rfl
  rw [runStep_eq]
  generalize setTarget p target (s.get (PORT_STATUS_reach p)) (stepDeparted p cause target s) = u at htg htr hlock hport ⊢
  have hpll' : pllLocked u p (u.get (PORT_STATUS_target_reach p)) = true := by
    rw [htr, pllLocked, show u.get LANE_PLL_STATUS_lock = s.get LANE_PLL_STATUS_lock from hlock]
    exact hpll
  obtain ⟨hstage, hgen, htgt, hstepping⟩ := s4Entered_fields (s := u) hp
  rw [enterS4_eq hpll']
  exact ⟨hstage, hgen.trans htg, htgt.trans htg, hstepping.trans hport⟩

theorem raiseStepdown_only {x : StepSt} : RegsAndEvents s (raiseStepdown p x s) := .ite (.refl s) (.cause (.refl s))

theorem keeps_raiseStepdown {f : Field} {x : StepSt} (hf : f.addr ≠ PORT_EVT_CAUSE p) : Keeps f s (raiseStepdown p x s) :=
  .ite (.refl f s) ((Keeps.refl f s).cause hf)

end

/-! ### The statement -/

section
variable {s : State} {p : Nat}

theorem lockPair_lost_fields {symbols : List Nat} {skew : Nat} (hst : s.stage p = 3) (htx : (s.port p).txSwitched = false) :
    (lockPair p symbols false skew s).stage p = 3 ∧ (lockPair p symbols false skew s).get (PORT_FEC_STATUS_rs_lock p) = 0 ∧
    (lockPair p symbols false skew s).get (PORT_FEC_STATUS_lane_aligned p) = 0 ∧
    (lockPair p symbols false skew s).port p = { s.port p with lockPairs := 0 } ∧ SameRegs [PORT_FEC_STATUS p] s (lockPair p symbols false skew s) := by
  obtain ⟨hlock, haligned, -⟩ := pairShown_fields (p := p) (s := s) (skew := skew) (locked := false) (aligned := false)
  rw [lockPair_lost hst htx]
  refine ⟨(State.get_modPort _ _ _ _).trans (stage_pairShown.trans hst), (State.get_modPort _ _ _ _).trans hlock, (State.get_modPort _ _ _ _).trans haligned,
    ?_, pairShown_regs.modPort⟩
  rw [State.port_modPort, pairShown_only.keep (F := fun u => u.port p) (fun _ => rfl) rfl, Bool.or_false]

theorem lockPair_aligned_fields {skew : Nat} (hp : p < 16) (hst : s.stage p = 3) (hcount : (s.port p).countdown = none)
    (htx : (s.port p).txSwitched = false) (hskew : skew ≤ 64) :
    ∃ t, lockPair p [8, 9, 10, 11, 12, 13, 14, 15] true skew s = t ∧ t.stage p = 3 ∧ t.get (PORT_FEC_STATUS_rs_lock p) = 1 ∧
      t.get (PORT_FEC_STATUS_lane_aligned p) = 1 ∧ t.get (PORT_FEC_STATUS_skew p) = skew ∧ (t.port p).lockPairs = (s.port p).lockPairs + 1 ∧
      (t.port p).laneOrder = [0, 1, 2, 3, 4, 5, 6, 7] ∧ (t.port p).countdown = (if 16 ≤ (s.port p).lockPairs + 1 then some 256 else none) := by
  obtain ⟨hlock, haligned, hshown⟩ := pairShown_fields (p := p) (s := s) (skew := skew) (locked := true) (aligned := true)
  have hfec {f : Field} (hf : ¬laneReg f.addr) : (pairAligned p skew s).get f = (pairShown p skew true true s).get f := (pairAligned_confined hp).get hf
  refine ⟨_, lockPair_aligned hp hst hcount htx hskew, (State.get_modPort _ _ _ _).trans ((stage_pairAligned hp).trans hst),
    (State.get_modPort _ _ _ _).trans ((hfec not_laneReg).trans hlock), (State.get_modPort _ _ _ _).trans ((hfec not_laneReg).trans haligned),
    (State.get_modPort _ _ _ _).trans ((hfec not_laneReg).trans (hshown.trans (by omega))), ?_, ?_, ?_⟩
  · rw [State.port_modPort]
  · rw [State.port_modPort]
  · rw [State.port_modPort, port_pairAligned hp, hcount]
    simp only [decide_eq_true_eq]

theorem qrReq_effect {c : Byte} (hp : p < 16) (h7 : s.stage p = 7) : ∃ t, qrReqArrives p [4, c] s = t ∧ t.stage p = 5 ∧
    (t.port p).qrCause = Fall.peerRequest ∧ (t.port p).qrWaiting = false ∧ (t.port p).keepLink = true ∧
    t.get (PORT_FALL_last_cause p) = Fall.peerRequest ∧ (t.tow p).queue = (s.tow p).queue ++ [[0x05]] ∧
    (t.get (PORT_STATUS_hold p) = 1 ↔ c = 7 ∨ s.get (PORT_CTRL_test_hold p) = 1) := by
  have hm : isMessage [4, c] 0x04 2 = true := rfl
  have heq : qrReqArrives p [4, c] s = peerRetrain p (c.toNat == Fall.hostRequest) (towEnqueue p [0x05] s) := by
    rw [qrReqArrives, if_neg (by rw [hm, h7]; decide)]
    exact if_pos h7
  have h7' : (towEnqueue p [0x05] s).stage p = 7 := (State.get_modTow _ _ _ _).trans h7
  have hport : (towEnqueue p [0x05] s).port p = s.port p := State.port_of_ports (towEnqueue_touches _).keeps_ports p
  have htow : (towEnqueue p [0x05] s).tow p = { s.tow p with queue := (s.tow p).queue ++ [[0x05]] } := State.tow_modTow _ _ _
  have htest : (towEnqueue p [0x05] s).get (PORT_CTRL_test_hold p) = s.get (PORT_CTRL_test_hold p) := State.get_modTow _ _ _ _
  generalize towEnqueue p [0x05] s = u at heq h7' hport htow htest
  obtain ⟨hstage, ⟨n, hafter⟩, hlast, htow', hhold⟩ := peerRetrain_effect (hold := c.toNat == Fall.hostRequest) hp h7'
  have hseven : (c.toNat == Fall.hostRequest) = true ↔ c = 7 := by
    rw [beq_iff_eq]
    exact ⟨fun h => BitVec.eq_of_toNat_eq h, fun h => h ▸ rfl⟩
  refine ⟨_, heq, hstage, ?_, ?_, ?_, hlast, ?_, ?_⟩
  · rw [hafter]
    rfl
  · rw [hafter]
  · rw [hafter]
    rfl
  · rw [htow', htow]
  · rw [hhold, hseven, htest]

end

/-- Settles O12: each event of training, of a retrain and of a step is one branch of its function. -/
theorem trainingRetrainAndStepsActAsStated : Obligations.TrainingRetrainAndStepsActAsStated := by
  unfold Obligations.TrainingRetrainAndStepsActAsStated
  intro s p hup
  have hp := p.isLt
  refine ⟨fun l hst w crc hcrc => ?_, fun l hst snr peak offset hlow hhigh hsnr => ?_, fun symbols own skew h3 h6 => ?_, fun symbols skew hst htx => ?_,
    fun skew hst hcount htx hskew => ?_, fun hst hhold hwait => ?_, fun hst hhold hwait hpath hstep => ?_, fun c h7 => ?_, fun h0 hwait => ?_,
    fun hwait h0 => ?_, fun g u h0 h7 => ?_, fun x h7 hstep hrun htarget hdue hpll => ?_⟩
  · exact ⟨_, congrArg Host.Outcome.next ((whenUp_of_up hup _).trans (trainingFrame_failed hst hcrc)), State.lane_modLane _ _ _,
      fun k hk => State.lane_modLane_ne _ _ fun e => hk (Fin.ext e), rfl⟩
  · exact ⟨_, congrArg Host.Outcome.next ((whenUp_of_up hup _).trans (thresholdMet_below hst hlow hhigh hsnr)), thresholdShown_fields.1,
      thresholdShown_fields.2, stage_thresholdShown l.isLt, thresholdShown_regs, thresholdShown_only.frame⟩
  · exact congrArg Host.Outcome.next ((whenUp_of_up hup _).trans (if_pos (by simp [h3, h6])))
  · exact ⟨_, congrArg Host.Outcome.next (whenUp_of_up hup _), lockPair_lost_fields hst htx⟩
  · obtain ⟨t, heq, heffect⟩ := lockPair_aligned_fields hp hst hcount htx hskew
    exact ⟨t, congrArg Host.Outcome.next ((whenUp_of_up hup _).trans heq), heffect⟩
  · have heq := prbsDwellEnd_eq (lanes := List.replicate 8 ⟨true, 0, 0, 0⟩) (verdict := true) hp hst hhold hwait fun reach bits => by
      simp [errorsPass_zero, List.replicate]
    exact ⟨_, congrArg Host.Outcome.next ((whenUp_of_up hup _).trans heq), setStage_s6 hp⟩
  · have heq := prbsDwellEnd_eq (lanes := List.replicate 8 ⟨false, 0, 0, 0⟩) (verdict := false) hp hst hhold hwait fun reach bits => by
      simp [List.replicate]
    have hc := dwellCounted_confined (s := s) (lanes := List.replicate 8 ⟨false, 0, 0, 0⟩) hp
    have hport := State.port_of_ports hc.touches.keeps_ports p
    have hst' : (dwellCounted p (List.replicate 8 ⟨false, 0, 0, 0⟩) s).stage p ≠ 0 := by
      rw [State.stage, hc.get not_laneReg]
      exact fun h => absurd (hst.symm.trans h) (by decide)
    have hfail := stageFailed_quick ((congrArg PortSt.stepping hport).trans hstep) ((congrArg PortSt.path hport).trans hpath)
    obtain ⟨hstage, hfresh, -⟩ := retrainFailed_effect hp hst'
    exact ⟨_, congrArg Host.Outcome.next ((whenUp_of_up hup _).trans (heq.trans hfail)), hfresh, hstage⟩
  · have h0 : s.stage p ≠ 0 := by omega
    obtain ⟨t, heq, hstage, hcause, hwait, hkeep, hlast, hqueue, hhold⟩ := qrReq_effect (s := towTake p [4, c] s) (c := c) hp h7
    refine ⟨t, congrArg Host.Outcome.next ((frameArrives_taken hup h0 _ _).trans heq), hstage, hcause, hwait, hkeep, hlast, ?_, hhold⟩
    rw [hqueue, tow_towTake]
  · have heq : qrAckArrives p [5] (towTake p [5] s) = retrainAgreed p (towTake p [5] s) := if_pos (by rw [show (towTake p [5] s).port p = s.port p from rfl, hwait]; rfl)
    exact ⟨_, congrArg Host.Outcome.next ((frameArrives_taken hup h0 _ _).trans heq), port_retrainAgreed hp, keeps_retrainAgreed hp not_laneReg⟩
  · exact ⟨_, congrArg Host.Outcome.next ((whenUp_of_up hup _).trans (if_pos hwait)), (retrainFailed_effect hp h0).1, (retrainFailed_effect hp h0).2⟩
  · have heq := stepArrives_refused (s := towTake p [6, g, u] s) (m := [6, g, u]) rfl h7
    refine ⟨_, congrArg Host.Outcome.next ((frameArrives_taken hup h0 _ _).trans heq), ?_, rfl, rfl⟩
    rw [stepReply, towEnqueue, State.tow_modTow, tow_towTake]
  · have h0 : s.stage p ≠ 0 := by omega
    have heq := stepAckArrives_accepted (s := towTake p [7, 0] s) (m := [7, 0]) rfl rfl h7 hstep hrun hdue
    have honly := raiseStepdown_only (s := towTake p [7, 0] s) (p := p) (x := x)
    have hne : LANE_PLL_STATUS_lock.addr ≠ PORT_EVT_CAUSE p := by
      change 0x18060 ≠ 0x40004 + 0x400 * p.val
      omega
    have hreach : (raiseStepdown p x (towTake p [7, 0] s)).get (PORT_STATUS_reach p) = s.get (PORT_STATUS_reach p) := keeps_raiseStepdown ne_port
    have hlock : (raiseStepdown p x (towTake p [7, 0] s)).get LANE_PLL_STATUS_lock = s.get LANE_PLL_STATUS_lock := keeps_raiseStepdown hne
    refine ⟨_, congrArg Host.Outcome.next ((frameArrives_taken hup h0 _ _).trans heq), runStep_effect hp htarget ((congrArg PortSt.stepping (honly.port p)).trans hstep) ?_⟩
    rw [pllLocked, hreach, hlock]
    exact hpll

end Sys2Proof.Machine
end
